-- ==== Sys2Proof/Word.lean ====
section
/-! DEFINITION. The word types of the HL8128 (R4, R10). -/

namespace Sys2Proof

/-- A word is 36 bits wide (R4, R10). -/
abbrev Word := BitVec 36

/-- A byte is 8 bits (R10). -/
abbrev Byte := BitVec 8

end Sys2Proof
end

