-- ==== Sys2Proof/Syntax.lean ====
section
/-! DEFINITION. The commands of the HL8128: one constructor for each row of the table of operations and events, with the
operands its rule names.  A command is what comes to the block from outside (a host access, a command register written, a
frame, an edge, a reading) or falls due at a cell time (a point of the cycle, the end of a wait). -/

namespace Sys2Proof

/-- The two planes (R2, R20). -/
inductive Plane where
  | a | b
  deriving DecidableEq, Repr

/-- The plane that is not `q`. -/
def Plane.other : Plane → Plane
  | .a => .b
  | .b => .a

/-- The plane's code in register fields: 0 for A, 1 for B. -/
def Plane.code : Plane → Nat
  | .a => 0
  | .b => 1

/-- The plane a register field names. -/
def Plane.ofCode (n : Nat) : Plane := if n = 0 then .a else .b

/-- The die-to-die links of R26, in the order of its table; 15 in all. -/
inductive Link where
  | storeA | storeB | xlk | portA | portB | senseA | senseB | wardenA | wardenB | fieldA | fieldB
  | wardenField | wardenPort | wardenSense | portSense
  deriving DecidableEq, Repr

/-- The link's number in the order of R26. -/
def Link.num : Link → Nat
  | .storeA => 0 | .storeB => 1 | .xlk => 2 | .portA => 3 | .portB => 4 | .senseA => 5 | .senseB => 6
  | .wardenA => 7 | .wardenB => 8 | .fieldA => 9 | .fieldB => 10
  | .wardenField => 11 | .wardenPort => 12 | .wardenSense => 13 | .portSense => 14

/-- The output stages that act on a plane's requests (R364, RED_REJECT). -/
inductive Stage where
  | port | sense | field | warden
  deriving DecidableEq, Repr

/-- The stage's index in RED_REJECT. -/
def Stage.num : Stage → Nat
  | .port => 0 | .sense => 1 | .field => 2 | .warden => 3

/-- A request of a plane to an output stage: the epoch it carries, and whether it had passed its link before the interlock line went
inactive (R32, R365). -/
structure StageReq where
  epoch : BitVec 32
  passed : Bool
  deriving DecidableEq, Repr

/-- One dword of a host write TLP: its bytes and its byte enables (R494). -/
structure HostDword where
  data : BitVec 32
  be : BitVec 4
  deriving DecidableEq, Repr

/-- The sources of a post, in the order of R392. -/
inductive PostSource where
  | matrix | dma | block | core | host
  deriving DecidableEq, Repr

/-- The agents that read the store, as R404 distinguishes them. -/
inductive Agent where
  | block | dma | host | core | xlk
  deriving DecidableEq, Repr

/-- What a read of a pair finds in the pair's check bits (R403). -/
inductive EccFinding where
  | clean | single | uncorrectable
  deriving DecidableEq, Repr

/-- The PCIe configuration fields that R498, R488 and the MSI-X capability give an effect. -/
inductive CfgField where
  | msixEnable (v : Bool) | functionMask (v : Bool) | busMaster (v : Bool) | maxPayload (v : BitVec 3)
  | maxReadRequest (v : BitVec 3) | d3hot (v : Bool)
  deriving DecidableEq, Repr

/-- The opcodes of Stitches (R68). -/
inductive Opcode where
  | nop | line | arc | spline | joint | dwell | frame | limit | blend | couple | proc | procramp | trig
  | sync | zoneEnter | zoneLeave | waitio | setio | layer | mark | calibApply | finish
  deriving DecidableEq, Repr


/-- Where an observation record comes from (R184): a station or camera with words W0 to W6, an edge of a probe's source at a
cell time in HTS72, or a federation port with a complete record. -/
inductive ObsSource where
  | station (k : Fin 128)
  | probe (k : Fin 8)
  | federation (ws : List Word)
  deriving DecidableEq, Repr

/-- A line of a position interface (R233). -/
inductive PifLine where
  | a | b | z
  deriving DecidableEq, Repr

/-- A configuration register of a position interface that a closed channel locks (R244). -/
inductive PifReg where
  | cfg | inc | sc | ser | ser2
  deriving DecidableEq, Repr

/-- A configuration register of a compare unit (R262). -/
inductive CmpReg where
  | cfg | val | valHi | step | rept | width | delay | pathOfs
  deriving DecidableEq, Repr


/-- A channel of the separation monitor (R283). -/
inductive SsmChan where
  | one | two
  deriving DecidableEq, Repr


/-- A configuration field of FIELD that R432 protects: the TYPE of a group, or DEB and INV of an input. -/
inductive FieldReg where
  | grp (g : Fin 4)
  | di (k : Fin 32)
  deriving DecidableEq, Repr


/-- A Cell Bus frame at a port of the master (R305 to R307): the time of its timestamp point at the MAC in ps, its length from byte 0
to the end of the FCS, whether the FCS is good, and its fields. -/
structure BusFrame where
  t : Nat
  bytes : Nat
  fcs : Bool
  etype : BitVec 16
  ver : BitVec 4
  kind : BitVec 4
  flags : BitVec 8
  station : BitVec 6
  slot : BitVec 8
  words : BitVec 9
  swords : BitVec 9
  invalid : BitVec 16
  hop : BitVec 8
  data : List Word
  deriving DecidableEq, Repr

/-- A register of CBUS that R336 protects. -/
inductive BusReg where
  | cfg | macHi | macLo
  | chCfg (c : Fin 2)
  | slotTime (c b : Fin 2) (k : Fin 256)
  | slotCfg (c b : Fin 2) (k : Fin 256)
  | slotTx (c b : Fin 2) (k : Fin 256)
  | slotRx (c b : Fin 2) (k : Fin 256)
  | txmap (c b : Fin 2) (e : Fin 2048)
  deriving DecidableEq, Repr


/-- A PTP event or follow-up message as received (R341, R345): the sender's port identity, its sequence number, the time it carries in
ns, its correctionField in 2^-16 ns, and its two-step flag. -/
structure PtpMsg where
  src : Nat
  seq : BitVec 16
  ns : Nat
  corr : Int
  twoStep : Bool
  deriving DecidableEq, Repr

/-- An Announce message (R343). -/
structure PtpAnn where
  src : Nat
  gm : BitVec 64
  p1 : BitVec 8
  cls : BitVec 8
  acc : BitVec 8
  var : BitVec 16
  p2 : BitVec 8
  steps : BitVec 16
  utc : BitVec 16
  utcValid : Bool
  leap61 : Bool
  leap59 : Bool
  ptpScale : Bool
  deriving DecidableEq, Repr

/-- What can steer cell time or keep a time base: an instance or PPS_IN (R347). -/
inductive TimSource where
  | inst (i : Fin 8)
  | pps
  deriving DecidableEq, Repr

/-- An exchange frame as received at a federation port (R351): the cell time of its last bit in ps, whether its FCS is good, its header,
and its payload words. -/
structure FedFrame where
  t : Nat
  fcs : Bool
  etype : BitVec 16
  ver : BitVec 4
  kind : BitVec 4
  src : BitVec 12
  dst : BitVec 12
  period : BitVec 14
  phase : BitVec 14
  words : List Word
  deriving DecidableEq, Repr


/-- What a flash device answers the SFDP read (R447): nothing, a table without an 8D-8D-8D mode, or one with it. -/
inductive FlashMode where
  | none | slow | fast
  deriving DecidableEq, Repr

/-- Data lanes of a link per direction (R26, R31). -/
def Link.dataLanes : Link → Nat
  | .storeA | .storeB => 64
  | .xlk => 32
  | .portA | .portB => 16
  | _ => 4

/-- Groups of up to 16 data lanes of a link, each with one spare lane (R26, R27). -/
def Link.groups (l : Link) : Nat := (l.dataLanes + 15) / 16

/-- Data lanes in a group of a link (R27). -/
def Link.groupLanes (l : Link) : Nat := min 16 l.dataLanes

/-- A lane that fails its training: link, direction, group and lane; lane 16 is the group's spare (R27). -/
structure BadLane where
  link : Link
  dir : Fin 2
  group : Fin 4
  lane : Fin 17
  deriving DecidableEq, Repr

/-- What the source of a DMA burst has given at the burst's acknowledgement or error: of a PLANE source how many of its words were taken,
of a PERIPHERAL port its words, of HOST the bytes of its completions (R417, R420, R497). -/
inductive Beats where
  | store (good : Nat)
  | port (ws : List Word)
  | host (bytes : List Byte)
  deriving DecidableEq, Repr

/-- What boot finds at power good (R447, R507): the flash devices of banks 0 and 1, whether VCORE and VDDQ of plane A and of plane B are
inside their range, the lanes that will fail, how long the device was without power, in ps, whether REFCLK_SEL is high (R510), and the rows
of each store that its start-up test finds bad (R406). -/
structure PowerOn where
  flash0 : FlashMode
  flash1 : FlashMode
  railA : Bool
  railB : Bool
  lanes : List BadLane
  offPs : Nat
  refclkSel : Bool
  badRows : List (Plane × Fin 131072)
  deriving DecidableEq, Repr


/-- The commands (spec/opcode_table.json), one constructor a row. -/
inductive Instr where
  /-- REGISTER_WRITE (R15): A host or producer write to a register field that has no behaviour of its own sets RW fields and is ignored by RO fields. -/
  | registerWrite (off : Nat) (v : Word)
  /-- WRITE_LOW_HALF (R13): A 32-bit write to the low half of a register slot is latched and does not yet change the register. -/
  | writeLowHalf (off : Nat) (v : BitVec 32)
  /-- WRITE_HIGH_HALF (R13): A 32-bit write to the high half commits bits 35:32 together with the latched low half, or with the present low bits, as one write. -/
  | writeHighHalf (off : Nat) (v : BitVec 32)
  /-- BAR0_WRITE_TLP (R494): A PCIe write to BAR0 acts as one access per slot in ascending order, and a write with a partial dword is discarded with BAD_ACCESS. -/
  | bar0WriteTlp (off : Nat) (dws : List HostDword)
  /-- BAR0_READ_TLP (R494): A PCIe read of BAR0 returns each slot as read at its own instant. -/
  | bar0ReadTlp (off : Nat) (dws : Nat)
  /-- BAR2_WRITE (R496): A host write through BAR2 writes words of the granted plane's store in the bulk class, with a partial word done as read-modify-write. -/
  | bar2Write (off : Nat) (dws : List HostDword)
  /-- BAR2_READ (R496): A host read through BAR2 returns words of the granted plane's store, with a poisoned completion for a poisoned word. -/
  | bar2Read (off : Nat) (n : Nat)
  /-- FLIT_CRC_FAIL (R29): A flit whose CRC fails is discarded and retransmitted, and the retry is counted per link. -/
  | flitCrcFail (l : Link) (retries : Nat)
  /-- TIME_BEACON (R46): The time keeper sends a time beacon at every whole microsecond of cell time and at each CT0 off the microsecond grid. -/
  | timeBeacon (missed : List (Fin 40))
  /-- BEACON_MISSED (R48): An island counts a missed beacon, running its counter on its own clock. -/
  | beaconMissed (island : Fin 40)
  /-- TIME_STEP (R43): Cell time takes its one step to PTP time at a cycle boundary, once no channel is closed, and raises TIME_STEPPED. -/
  | timeStep
  /-- CYCLING_START (R56): The start-up graph starts cycling and the sequencer leaves STOPPED at the next cycle start of the grid in force. -/
  | cyclingStart
  /-- CYCLE_START (R50): Cycle n begins at CT0(n): cycle-start beacon, Cell Bus beacons and polls of cycle n begin, and pending configuration changes are taken. -/
  | cycleStart
  /-- CHANGING_EXIT (R56): The sequencer returns to RUNNING at the first cycle start of the pending grid at least 16 us after entry or the last APPLY. -/
  | changingExit
  /-- EVENT_POINT (R60): An enabled cycle event point fires at CT0(n) + OFFSET_NS in its selected cycles and asserts its event. -/
  | eventPoint (k : Fin 16)
  /-- EVP_WRITE (R61): A write to TIM_CYC_EVP takes effect at the next cycle start, where its range is checked. -/
  | evpWrite (k : Fin 16) (v : Word)
  /-- APPLY (R55): TIM_CYC_CMD APPLY checks the cycle configuration and puts it in force or refuses it with a reason. -/
  | cycApply
  /-- CYC_CAPTURE (R64): TIM_CYC_CMD CAPTURE captures the cycle number and CT0 of the current cycle. -/
  | cycCapture
  /-- CYC_CMD_RESERVED (R64): A reserved TIM_CYC_CMD code is ignored with CMD_REFUSED. -/
  | cycCmdReserved (code : BitVec 4)
  /-- SYNC_POINT (R53): At CT0(n) + SYNC_OFS feedback is sampled, PIFs latch and the DI image is latched. -/
  | syncPoint
  /-- INTERPOLATION (R130): At CT0(n) + FB_DEADLINE the planner evaluates reach, applies border messages, grants zones, updates time scaling and writes the target image. -/
  | interpolation
  /-- SSM_CH2_EVAL_DONE (R285): Channel 2 finishes, compares with channel 1 and sends its stop requests and results to the Chanter. -/
  | ssmCh2EvalDone
  /-- SOLVE_DEADLINE (R158): At CT0(n) + SOLVE_DEADLINE the body stops, the last passing iterate or the extrapolation is taken, and the epilogue runs. -/
  | solveDeadline
  /-- COMMIT (R57): At CT0(n) + COMMIT_OFS the Chanter publishes results, command image, predictions, DO commands and replicated state atomically. -/
  | commit
  /-- APPLY_POINT (R435): At CT0(n+1) + APPLY_OFS FIELD switches its outputs to the committed levels. -/
  | applyPoint
  /-- FLUSH_LATE (R369): A final flush not ended by CT0(n+1) marks the copy incomplete and puts the Drone out of step. -/
  | flushLate
  /-- COPY_LINE_SEND (R368): The copy engine sends the oldest dirty line, and a resync sweep line, within the budget. -/
  | copyLineSend
  /-- COPY_LINE_RECEIVED (R370): The Drone writes a received line in place, saving its old contents in the undo log on first write. -/
  | copyLineReceived
  /-- BREATH_RECEIVED (R370): A complete Breath makes the Drone load the staged state, empty its undo log, report APPLIED and toggle its heartbeat. -/
  | breathReceived (crcOk : Bool)
  /-- HEARTBEAT_CHECK (R372): At CT0(n+1) + 2 us the Warden checks heartbeat paths P and W of cycle n. -/
  | heartbeatCheck
  /-- MACHINE_CHECK_LINE (R373): A rising machine-check line starts fault switch-over for the Chanter or recovery for the Drone. -/
  | machineCheckLine (q : Plane) (cause : BitVec 4)
  /-- TAKEOVER_READY (R374): The new Chanter is ready after its rollback and runs the first cycle whose FB_DEADLINE follows. -/
  | takeoverReady (t : Nat)
  /-- OUTPUT_STAGE_REQUEST (R365): An output stage discards a request with a stale epoch or from a plane not granted, counting it in RED_REJECT. -/
  | outputStageRequest (stage : Stage) (q : Plane) (req : StageReq)
  /-- COMMIT_CONTENT_ARRIVAL (R366): PORT, SENSE or FIELD takes the content of a commit only when its marker arrives with the current epoch. -/
  | commitContentArrival (stage : Stage) (marker : Bool)
  /-- SWAP_ANNOUNCE (R425): The Warden announces a due swap 2 us before the commit and the Chanter's DMA starts no burst. -/
  | swapAnnounce
  /-- SWAP_DECISION (R379): At CT0(n+1) the Warden grants the scheduled plane, or sends STAY and raises SWAP_ABORTED. -/
  | swapDecision
  /-- SWAP_PERIOD_BOUNDARY (R378): A new swap period starts and names its scheduled Chanter, raising SWAP_SKIPPED if it is not eligible. -/
  | swapPeriodBoundary
  /-- PLANE_RESET_RELEASE (R380): A RECOVERING plane is released from reset 1 ms after entry and starts its self-test graph. -/
  | planeResetRelease (q : Plane)
  /-- RESYNC_TIMEOUT (R362): A resynchronisation not complete within 60 s retires the plane. -/
  | resyncTimeout (q : Plane)
  /-- HOLDOFF_END (R380): A plane's hold-off ends, making it eligible and due for reversion if scheduled. -/
  | holdoffEnd (q : Plane)
  /-- HEALTH_PASS_DONE (R384): In compatibility mode a self-test pass of the Drone ends and publishes its health report. -/
  | healthPassDone (ok : Bool)
  /-- SWAP_NOW (R379): RED_CMD SWAP_NOW makes a swap due at the next commit. -/
  | swapNow
  /-- SUSPEND (R385): RED_CMD SUSPEND suspends planned swaps. -/
  | redSuspend
  /-- RESUME_SWAPS (R385): RED_CMD RESUME resumes planned swaps. -/
  | resumeSwaps
  /-- READMIT (R382): RED_CMD READMIT starts recovery of a RETIRED plane unless its links are unusable. -/
  | redReadmit (q : Plane)
  /-- RETIRE (R382): RED_CMD RETIRE retires a plane that is not the Chanter. -/
  | redRetire (q : Plane)
  /-- RED_CMD_RESERVED (R385): A reserved RED_CMD code is refused. -/
  | redCmdReserved (code : BitVec 4)
  /-- MCHK_TEST (R386): PLANE_CMD MCHK_TEST makes the plane declare a machine check with cause TEST. -/
  | mchkTest (q : Plane)
  /-- PLANE_CMD_RESERVED (R386): A reserved PLANE_CMD code is refused. -/
  | planeCmdReserved (q : Plane) (code : BitVec 4)
  /-- REPL_SEGMENT_WRITE (R367): A write of PLANE_REPL_BASE or SIZE is checked and takes effect at the next commit, putting the Drone out of step. -/
  | replSegmentWrite (g : Fin 16) (size : Bool) (v : Word)
  /-- START (R100): PLN_Q_CMD START starts an IDLE arm. -/
  | qStart (a : Fin 16)
  /-- HOLD (R100): PLN_Q_CMD HOLD decelerates the arm on its path or freezes its wait. -/
  | qHold (a : Fin 16)
  /-- RELEASE (R100): PLN_Q_CMD RELEASE lets a HELD arm run on. -/
  | qRelease (a : Fin 16)
  /-- CLEAR_FAULT (R100): PLN_Q_CMD CLEAR_FAULT takes a faulted arm at rest to HELD. -/
  | qClearFault (a : Fin 16)
  /-- SKIP (R100): PLN_Q_CMD SKIP discards the next unreached Stitch of a HELD arm. -/
  | qSkip (a : Fin 16)
  /-- FLUSH (R100): PLN_Q_CMD FLUSH empties look-ahead, drops TRIGs, releases zones and returns the arm to IDLE. -/
  | qFlush (a : Fin 16)
  /-- CONTINUE (R100): PLN_Q_CMD CONTINUE resumes fetching after END. -/
  | qContinue (a : Fin 16)
  /-- RESUME_AT (R106): PLN_Q_CMD RESUME_AT checks a checkpoint record and enters RESUMING. -/
  | qResumeAt (a : Fin 16)
  /-- QUEUE_CMD_RESERVED (R109): A reserved PLN_Q_CMD code is refused. -/
  | queueCmdReserved (a : Fin 16) (code : BitVec 4)
  /-- WR_WRITE (R95): A write of PLN_Q_WR from the named source is checked against the ring size and FETCH. -/
  | wrWrite (a : Fin 16) (fed : Bool) (v : BitVec 32)
  /-- CKP_RD_WRITE (R105): A write of PLN_CKP_RD from the named source moves it forward up to PLN_CKP_WR. -/
  | ckpRdWrite (a : Fin 16) (fed : Bool) (v : BitVec 32)
  /-- OVR_WRITE (R138): A write of PLN_ARM_OVR outside 0..1 is refused with PARAM_REFUSED. -/
  | ovrWrite (a : Fin 16) (v : Word)
  /-- NOP (R92): Stitch NOP does nothing. -/
  | stitchNop (a : Fin 16)
  /-- LINE (R73): Stitch LINE moves the tool centre along a straight line to its target pose. -/
  | stitchLine (a : Fin 16)
  /-- ARC (R74): Stitch ARC moves along the circle through start, via and end points. -/
  | stitchArc (a : Fin 16)
  /-- SPLINE (R75): Stitch SPLINE moves along a quintic Hermite curve. -/
  | stitchSpline (a : Fin 16)
  /-- JOINT (R76): Stitch JOINT moves masked joints and external axes by joint interpolation from rest. -/
  | stitchJoint (a : Fin 16)
  /-- DWELL (R92): Stitch DWELL makes the arm wait at rest for its duration. -/
  | stitchDwell (a : Fin 16)
  /-- FRAME (R77): Stitch FRAME selects a frame, defines a user frame or sets the tool. -/
  | stitchFrame (a : Fin 16)
  /-- LIMIT (R78): Stitch LIMIT sets one motion limit for later Stitches. -/
  | stitchLimit (a : Fin 16)
  /-- BLEND (R79): Stitch BLEND sets the blend tolerances of later junctions. -/
  | stitchBlend (a : Fin 16)
  /-- COUPLE (R80): Stitch COUPLE makes the PART frame follow, or freeze on, auxiliary axes. -/
  | stitchCouple (a : Fin 16)
  /-- PROC (R82): Stitch PROC sets a process loop set-point, fixed or locked to speed. -/
  | stitchProc (a : Fin 16)
  /-- PROCRAMP (R83): Stitch PROCRAMP ramps a process set-point over a duration or path length. -/
  | stitchProcramp (a : Fin 16)
  /-- TRIG (R84): Stitch TRIG arms a path compare for the next motion Stitch. -/
  | stitchTrig (a : Fin 16)
  /-- SYNC (R86): Stitch SYNC waits at a barrier, joins or leaves a group. -/
  | stitchSync (a : Fin 16)
  /-- ZONE_ENTER (R87): Stitch ZONE_ENTER holds the arm until its zone reservation is granted. -/
  | stitchZoneEnter (a : Fin 16)
  /-- ZONE_LEAVE (R88): Stitch ZONE_LEAVE releases a held zone, or raises ZONE_NOT_HELD. -/
  | stitchZoneLeave (a : Fin 16)
  /-- WAITIO (R90): Stitch WAITIO waits at rest for an input level or edge. -/
  | stitchWaitio (a : Fin 16)
  /-- SETIO (R91): Stitch SETIO writes an output bit into the command image. -/
  | stitchSetio (a : Fin 16)
  /-- LAYER (R103): Stitch LAYER emits a checkpoint record and may apply the calibration. -/
  | stitchLayer (a : Fin 16)
  /-- MARK (R92): Stitch MARK copies its word to PLN_Q_MARK. -/
  | stitchMark (a : Fin 16)
  /-- CALIB_APPLY (R81): Stitch CALIB_APPLY applies the pending calibration once. -/
  | stitchCalibApply (a : Fin 16)
  /-- END (R92): Stitch END brings the arm to rest, stops fetching and enters ENDED. -/
  | stitchEnd (a : Fin 16)
  /-- DWELL_EXPIRY (R92): A DWELL's time runs out and the arm continues. -/
  | dwellExpiry (a : Fin 16)
  /-- SYNC_TIMEOUT (R86): A SYNC wait's timeout expires and the arm faults with SYNC_TIMEOUT. -/
  | syncTimeout (a : Fin 16)
  /-- ZONE_TIMEOUT (R87): A ZONE_ENTER wait's timeout expires and the arm faults with ZONE_TIMEOUT. -/
  | zoneTimeout (a : Fin 16)
  /-- WAITIO_TIMEOUT (R90): A WAITIO timeout expires and the arm faults with WAITIO_TIMEOUT. -/
  | waitioTimeout (a : Fin 16)
  /-- RESUME_TIMEOUT (R107): The RESUMING time expires and the arm faults with ZONE_TIMEOUT or SYNC_TIMEOUT. -/
  | resumeTimeout (a : Fin 16)
  /-- BZ_LINK (R134): No exchange frame from a border peer for TIMEOUT cycles freezes border holdings and raises BZ_LINK. -/
  | bzLink (b : Fin 16)
  /-- ACTIVATE (R167): SLV_CMD ACTIVATE checks and loads a Pricking to replace the motion or dynamics Pricking. -/
  | activate
  /-- RESTART (R147): SLV_CMD RESTART makes the next solved cycle a first solved cycle. -/
  | restart
  /-- SLV_CMD_RESERVED (R171): A reserved SLV_CMD code is refused. -/
  | slvCmdReserved (code : BitVec 4)
  /-- SOLVER_NOP (R153): Operation NOP has no effect. -/
  | solverNop
  /-- ACLR (R153): Operation ACLR clears an accumulator. -/
  | aclr
  /-- MAC (R153): Operation MAC adds an exact product to an accumulator. -/
  | mac
  /-- MSU (R153): Operation MSU subtracts an exact product from an accumulator. -/
  | msu
  /-- ALD (R153): Operation ALD loads a shifted word into an accumulator. -/
  | ald
  /-- ARND (R155): Operation ARND rounds an accumulator half to even and saturates it into a word. -/
  | arnd
  /-- DIV (R156): Operation DIV writes the rounded quotient, with special cases for division by 0. -/
  | div
  /-- PIV (R157): Operation PIV regularises a pivot below its threshold and raises PIVOT. -/
  | piv
  /-- CS (R153): Operation CS writes the correctly rounded cosine and sine of an angle. -/
  | cs
  /-- SQRT (R153): Operation SQRT writes the correctly rounded square root. -/
  | sqrt
  /-- CLMP (R153): Operation CLMP clamps a word to 0..B. -/
  | clmp
  /-- ADD (R153): Operation ADD writes a saturated sum. -/
  | add
  /-- SUB (R153): Operation SUB writes a saturated difference. -/
  | sub
  /-- LDI (R153): Operation LDI writes an immediate word. -/
  | ldi
  /-- CMPLE (R153): Operation CMPLE sets T from a signed comparison of two accumulators. -/
  | cmple
  /-- STEP (R153): Operation STEP sets S when an increment exceeds its bound. -/
  | step
  /-- TILE (R178): Operation TILE marks a pre-emption point of an estimation job. -/
  | tile
  /-- ITER (R160): Operation ITER ends a body run with the publish test. -/
  | iter
  /-- PUB (R153): Operation PUB writes a word of the pending result and clears EXTRAP of its axis. -/
  | pub
  /-- SOLVER_END (R153): Operation END ends the epilogue or the dynamics program. -/
  | solverEnd
  /-- EST_SUB_WR_WRITE (R174): A write of EST_SUB_WR is checked against EST_SUB_RD and raises SUB_RANGE if it breaks the rule. -/
  | estSubWrWrite (v : BitVec 32)
  /-- JOB_LOAD (R176): With no job held, the sequencer takes the next submission and checks its descriptor and Pricking in LOADING. -/
  | jobLoad
  /-- ITERATION_END (R189): An estimation iteration's cost pass ends and the step is accepted or rejected, possibly ending the job. -/
  | iterationEnd
  /-- EST_TIMEOUT (R189): The job's time budget expires at a tile or iteration end and the job ends with TIMEOUT. -/
  | estTimeout
  /-- CHECKING_DONE (R191): The covariance trace and plausibility checks finish and JOB_DONE is raised. -/
  | checkingDone
  /-- EST_ABORT (R198): EST_CMD ABORT ends the running job with ABORTED. -/
  | estAbort
  /-- DISCARD (R198): EST_CMD DISCARD empties the pending slot. -/
  | discard
  /-- EST_APPLY (R198): EST_CMD APPLY applies the pending calibration at once while loops are open. -/
  | estApply
  /-- NOMINAL (R198): EST_CMD NOMINAL puts nominal values in force as a new generation. -/
  | nominal
  /-- LOAD_PENDING (R198): EST_CMD LOAD_PENDING checks a result record and makes it pending. -/
  | loadPending
  /-- EST_CMD_RESERVED (R199): A reserved EST_CMD code is refused. -/
  | estCmdReserved (code : BitVec 4)
  /-- OBS_INTAKE (R184): The intake receives an observation record from a station, probe edge or federation port and writes it to its ring. -/
  | obsIntake (src : ObsSource)
  /-- OBS_INTERPOLATION (R185): Once the next sample exists, the intake fills a record's joint words or rejects it. -/
  | obsInterpolation
  /-- CHANNEL_RUN (R201): A CLE channel runs its stages when its feedback arrives or at FB_DEADLINE and writes its command slot. -/
  | channelRun (c : Fin 192)
  /-- STOP_TMAX (R225): STOP_TMAX expires and the stop ends with STO on every channel of the arm. -/
  | stopTmax (c : Fin 192)
  /-- MODE_REQUEST (R218): A write to CLE_CH_MODE requests a mode, checked at the first run after the next commit. -/
  | modeRequest (c : Fin 192) (m : BitVec 3) (src : Bool)
  /-- CH_CFG_WRITE (R202): A write of CLE_CH_CFG RATE or PHASE is refused while closed or out of range. -/
  | chCfgWrite (c : Fin 192) (v : Word)
  /-- STOP0 (R224): CLE_ARM_CMD STOP0 requests a category 0 stop of the arm. -/
  | stop0 (a : Fin 16)
  /-- STOP1 (R224): CLE_ARM_CMD STOP1 requests a category 1 stop of the arm. -/
  | stop1 (a : Fin 16)
  /-- STOP2 (R224): CLE_ARM_CMD STOP2 requests a category 2 stop of the arm. -/
  | stop2 (a : Fin 16)
  /-- ARM_STOP_CLEAR (R226): CLE_ARM_CMD CLEAR returns a stopped arm to NONE once the stop has ended. -/
  | armStopClear (a : Fin 16)
  /-- ARM_CMD_RESERVED (R231): A reserved CLE_ARM_CMD code is refused. -/
  | armCmdReserved (a : Fin 16) (code : BitVec 4)
  /-- PIF_EDGE (R235): An accepted edge on A, B or Z is stamped by the TDC and counted, and may make a Picot. -/
  | pifEdge (p : Fin 24) (line : PifLine) (level : Bool) (t : Nat) (held : Nat) (other : Option Nat)
  /-- SINCOS_CONVERSION (R239): The SINCOS ADC converts a sin/cos pair and updates the interpolated count. -/
  | sincosConversion (p : Fin 24) (sn cs : BitVec 18) (t : Nat)
  /-- SSI_FRAME_END (R241): An SSI frame ends and its position updates the counter, or SER_ERR is raised. -/
  | ssiFrameEnd (p : Fin 24) (idle : Bool) (raw : Nat)
  /-- BISS_FRAME_END (R242): A BiSS-C frame ends and is checked for start bit, error, warning and CRC. -/
  | bissFrameEnd (p : Fin 24) (start : Option Nat) (raw : Nat)
  /-- VEL_TIMEOUT (R246): VEL_TMO without an edge sets the velocity to 0. -/
  | velTimeout (p : Fin 24)
  /-- PIF_CONFIG_WRITE (R244): A PIF configuration write is refused while a closed channel names the PIF, or takes effect at the next latch. -/
  | pifConfigWrite (p : Fin 24) (r : PifReg) (v : Word)
  /-- PIF_CAPTURE (R263): PIF_CMD CAPTURE captures the PIF's 72-bit values. -/
  | pifCapture (p : Fin 24)
  /-- SET_COUNT (R244): PIF_CMD SET_COUNT loads PIF_ARG into the counter at the next latch. -/
  | setCount (p : Fin 24)
  /-- CORRECT (R244): PIF_CMD CORRECT subtracts the drift from the counter at the next latch. -/
  | correct (p : Fin 24)
  /-- ARM_REF (R248): PIF_CMD ARM_REF makes the next reference event set REF. -/
  | armRef (p : Fin 24)
  /-- CLEAR_REF (R248): PIF_CMD CLEAR_REF removes the reference. -/
  | clearRef (p : Fin 24)
  /-- PIF_CMD_RESERVED (R263): A reserved PIF_CMD code is refused. -/
  | pifCmdReserved (p : Fin 24) (code : BitVec 4)
  /-- PICOT_DRAIN (R250): SENSE drains a Picot from a FIFO into the ring in both stores and increments PIF_PICOT_WR. -/
  | picotDrain (f : Fin 25)
  /-- ARM (R252): CMP_CMD ARM arms a LOCAL or TIME unit, checking whether its value is behind. -/
  | arm (u : Fin 16)
  /-- DISARM (R253): CMP_CMD DISARM disarms a unit unless its fire is committed. -/
  | disarm (u : Fin 16)
  /-- FIRE_NOW (R261): CMP_CMD FIRE_NOW applies the unit's action at once, unplaced. -/
  | fireNow (u : Fin 16)
  /-- CMP_CMD_RESERVED (R263): A reserved CMP_CMD code is refused. -/
  | cmpCmdReserved (u : Fin 16) (code : BitVec 4)
  /-- CMP_CONFIG_WRITE (R262): A compare configuration write is refused while the unit is armed or owns armed TRIGs. -/
  | cmpConfigWrite (u : Fin 16) (r : CmpReg) (v : Word)
  /-- LOCAL_FIRE (R253): A LOCAL unit fires its action at the crossing time plus DELAY and steps its value when repeating. -/
  | localFire (u : Fin 16)
  /-- TIME_FIRE (R255): A TIME unit fires at its cell time. -/
  | timeFire (u : Fin 16)
  /-- PATH_PREDICTION (R257): A published path prediction arrives in SENSE and is placed, or fires late on arrival. -/
  | pathPrediction
  /-- PATH_FIRE (R257): A PATH unit fires its placed action at the predicted time. -/
  | pathFire (u : Fin 16)
  /-- PATH_CANCEL (R259): A cancel arrives in SENSE and drops future predictions of the arm's PATH units with CANCELLED Picots. -/
  | pathCancel
  /-- PULSE_END (R260): A pending trigger pulse end takes the output to 0. -/
  | pulseEnd (k : Fin 8)
  /-- ROUTED_TRIGGER (R261): An event routed to a trigger applies its EVT_ACTION within 40 ns. -/
  | routedTrigger
  /-- CONNECTION_WATCHDOG (R280): No accepted envelope for WD_TIME makes the connection lost with WATCHDOG and ENV_LOST. -/
  | connectionWatchdog (ch : SsmChan) (c : Fin 128)
  /-- STOP_MONITOR_DEADLINE (R276): A stopping arm not still by its monitoring deadline drops the channel's output. -/
  | stopMonitorDeadline (ch : SsmChan) (a : Fin 16)
  /-- STOP_RELEASE (R277): A stop request clears when every check has held for RELEASE_T. -/
  | stopRelease (ch : SsmChan) (a : Fin 16)
  /-- DRIVE_LOSS_DROP (R282): A DRIVE loss not recovered by T_r + T_s(V_REF) drops the consuming channel's output. -/
  | driveLossDrop (ch : SsmChan) (a : Fin 16)
  /-- SSB_TEST_PULSE (R291): SAFE_STOP_B is pulsed low every 10 ms and read back, with OUT_FAULT on a mismatch. -/
  | ssbTestPulse (low high : Bool)
  /-- SAFETY_RESET (R293): A valid reset pulse on the reset pair returns both outputs to PERMIT when all conditions hold. -/
  | safetyReset (width1 width2 end1 end2 : Nat)
  /-- DROP (R292): SSM2_CMD DROP drops both outputs with cause HOST. -/
  | drop
  /-- SSM2_CMD_RESERVED (R300): A reserved SSM2_CMD code is ignored with CMD_REFUSED. -/
  | ssm2CmdReserved (code : BitVec 4)
  /-- POLL_DEPARTURE (R315): PORT sends the poll of an active slot at CT0 + TIME, gathering its payload from the transmit window. -/
  | pollDeparture (c : Fin 2) (k : Fin 256) (dev : Int) (mail : List Word)
  /-- RESPONSE_RECEIVED (R319): A response in its window is accepted and written to the input image, with its safety words forwarded to the Warden. -/
  | responseReceived (c : Fin 2) (f : BusFrame)
  /-- RECEIVE_WINDOW_CLOSE (R320): A slot's receive window closes without an accepted response and counts a missed slot. -/
  | receiveWindowClose (c : Fin 2) (k : Fin 256)
  /-- ECHO_RECEIVED (R313): An ECHO from a station delivers its turnaround, latencies and identity. -/
  | echoReceived (c : Fin 2) (f : BusFrame)
  /-- CONFIG_COMPLETE (R332): Once every station is configured or marked MISMATCH, the channel rechecks its bank and enters RUN. -/
  | configComplete (c : Fin 2)
  /-- FOREIGN_FRAME (R332): A foreign BEACON, POLL or PROBE at the master port sends the channel to SILENT or BACKOFF with FOREIGN_MASTER. -/
  | foreignFrame (c : Fin 2) (f : BusFrame)
  /-- LISTEN_TIME_EXPIRY (R332): The listen time passes without a foreign frame and the channel starts beaconing or resumes RUN. -/
  | listenTimeExpiry (c : Fin 2)
  /-- MASTER_LINK_DOWN (R334): A lost link at the master's channel port raises LINK_DOWN. -/
  | masterLinkDown (c : Fin 2)
  /-- CBUS_START (R332): CBUS_CH_CMD START starts the channel in LISTEN. -/
  | cbusStart (c : Fin 2)
  /-- CBUS_STOP (R332): CBUS_CH_CMD STOP returns the channel to OFF. -/
  | cbusStop (c : Fin 2)
  /-- CBUS_RELEASE (R332): CBUS_CH_CMD RELEASE takes a SILENT channel to LISTEN. -/
  | cbusRelease (c : Fin 2)
  /-- REPROBE (R332): CBUS_CH_CMD REPROBE takes a RUN channel back to BEACONING. -/
  | reprobe (c : Fin 2)
  /-- TABLE_APPLY (R316): CBUS_CH_CMD TABLE_APPLY checks the other schedule bank and puts it in force at the next CT0. -/
  | tableApply (c : Fin 2)
  /-- MUTE_RELEASE (R323): CBUS_CH_CMD MUTE_RELEASE sends the release flag in the station's next poll. -/
  | muteRelease (c : Fin 2)
  /-- CBUS_CMD_RESERVED (R336): A reserved CBUS_CH_CMD code is refused. -/
  | cbusCmdReserved (c : Fin 2) (code : BitVec 4)
  /-- CBUS_CONFIG_WRITE (R336): A write to a bank in force, or to channel configuration outside OFF, is refused. -/
  | cbusConfigWrite (r : BusReg) (v : Word)
  /-- PTP_SYNC_RECEIVED (R345): An accepted Sync on a SLAVE port gives an offset that drives the servo and its state transitions. -/
  | ptpSyncReceived (i : Fin 8) (f : Fin 4) (t : BitVec 72) (m : PtpMsg)
  /-- PTP_FOLLOW_UP_RECEIVED (R341): A Follow_Up completes a two-step Sync. -/
  | ptpFollowUpReceived (i : Fin 8) (f : Fin 4) (m : PtpMsg)
  /-- PTP_ANNOUNCE_RECEIVED (R343): An Announce feeds the BMCA, possibly changing port states or grandmaster. -/
  | ptpAnnounceReceived (i : Fin 8) (f : Fin 4) (m : PtpAnn)
  /-- PTP_DELAY_REQ_RECEIVED (R342): A master port answers a Delay_Req with Delay_Resp. -/
  | ptpDelayReqReceived (i : Fin 8) (f : Fin 4) (t : BitVec 72) (m : PtpMsg)
  /-- PTP_DELAY_RESP_RECEIVED (R345): A Delay_Resp completes the path-delay measurement. -/
  | ptpDelayRespReceived (i : Fin 8) (f : Fin 4) (m : PtpMsg)
  /-- PTP_PDELAY_REQ_RECEIVED (R341): A port answers a Pdelay_Req, one-step or two-step. -/
  | ptpPdelayReqReceived (i : Fin 8) (f : Fin 4) (t t3 : BitVec 72) (m : PtpMsg)
  /-- PTP_PDELAY_RESP_RECEIVED (R341): A Pdelay_Resp or its Follow_Up completes a peer-delay measurement. -/
  | ptpPdelayRespReceived (i : Fin 8) (f : Fin 4) (follow : Bool) (t : BitVec 72) (m : PtpMsg)
  /-- PTP_SYNC_SEND (R341): A master port sends Sync at its interval, one-step or two-step. -/
  | ptpSyncSend (i : Fin 8) (f : Fin 4) (t : BitVec 72)
  /-- PTP_ANNOUNCE_SEND (R343): A master port sends Announce at its interval. -/
  | ptpAnnounceSend (i : Fin 8) (f : Fin 4)
  /-- PTP_DELAY_REQ_SEND (R342): A slave port sends Delay_Req or Pdelay_Req at its interval. -/
  | ptpDelayReqSend (i : Fin 8) (f : Fin 4) (t : BitVec 72)
  /-- LOCK_LOST (R346): No accepted Sync for HOLD_N intervals enters HOLDOVER with LOCK_LOST. -/
  | lockLost (src : TimSource)
  /-- PTP_ENABLE_WRITE (R346): Writing EN of an instance enables it or takes it to DISABLED. -/
  | ptpEnableWrite (i : Fin 8) (v : Word)
  /-- PTP_CAPTURE (R359): FED_PTP_CMD CAPTURE captures the instance time. -/
  | ptpCapture (i : Fin 8)
  /-- PTP_CMD_RESERVED (R359): A reserved FED_PTP_CMD code is ignored with CMD_REFUSED. -/
  | ptpCmdReserved (i : Fin 8) (code : BitVec 4)
  /-- TIM_SRC_WRITE (R347): A write of TIM_SRC changes the steering source at the next beacon. -/
  | timSrcWrite (v : Word)
  /-- PPS_IN_EDGE (R348): A PPS_IN rising edge is stamped and raises E95. -/
  | ppsInEdge (t : Nat)
  /-- PPS_MISS (R347): A PPS_IN edge missing for 1.5 s raises PPS_MISS. -/
  | ppsMiss
  /-- PPS_OUT_SECOND (R348): PPS_OUT rises at each whole second of cell time and raises E95. -/
  | ppsOutSecond
  /-- CALENDAR_WRITE (R349): The Warden writes cell time into the calendar at each whole second. -/
  | calendarWrite
  /-- CAL_TRIM_UPDATE (R349): After 1,024 s in TRACK the calendar trim is set to the measured crystal error. -/
  | calTrimUpdate (err : Int)
  /-- TIM_CAPTURE (R360): TIM_CMD CAPTURE captures cell time, calendar and the last PPS_IN edge. -/
  | timCapture
  /-- CAL_SET (R360): TIM_CMD CAL_SET writes TIM_CAL_SET into the calendar. -/
  | calSet
  /-- TIM_CMD_RESERVED (R360): A reserved TIM_CMD code is refused. -/
  | timCmdReserved (code : BitVec 4)
  /-- EXCHANGE_SEND (R353): From CT0 + EXCH_OFS PORT sends one exchange frame to each enabled peer. -/
  | exchangeSend
  /-- EXCHANGE_RECEIVED (R355): An accepted exchange frame delivers its sections to their consumers. -/
  | exchangeReceived (f : Fin 4) (m : FedFrame)
  /-- FRAME_MISSED (R355): A peer that sends no frame for 8 cycles raises FRAME_MISSED and MISS. -/
  | frameMissed (k : Fin 16)
  /-- FED_EXCH_CFG_WRITE (R354): A write of FED_EXCH_CFG with EXCH_OFS before FB_DEADLINE + 2 us is refused. -/
  | fedExchCfgWrite (v : Word)
  /-- FED_ID_WRITE (R359): A write of FED_ID is refused while a Cell Bus channel or exchange is active. -/
  | fedIdWrite (v : Word)
  /-- FED_LINK_CHANGE (R359): A federation port link comes up or goes down. -/
  | fedLinkChange (f : Fin 4) (up : Bool)
  /-- POST (R392): A post from the matrix, DMA, blocks or cores is accepted and wakes its thread, with dispatch or pre-emption. -/
  | post (src : PostSource) (t : Fin 512) (payload : Word)
  /-- HOST_POST (R392): A write of SCH_POST posts SCH_POST_ARG to the named thread. -/
  | hostPost (t : Fin 512)
  /-- THREAD_BLOCK (R389): A running thread waits with no pending post, freeing its core for the next dispatch. -/
  | threadBlock (core : Fin 8)
  /-- QUANTUM_EXPIRY (R390): A thread that ran QUANTUM_US is preempted when an equal-priority thread waits for its core. -/
  | quantumExpiry (core : Fin 8)
  /-- THR_CFG_WRITE (R391): A write of SCH_THR_CFG priority or affinity takes effect at commit, or is refused. -/
  | thrCfgWrite (t : Fin 512) (v : Word)
  /-- LOAD_WINDOW_END (R396): A load window ends, updating core loads and raising LOAD_HIGH. -/
  | loadWindowEnd
  /-- SCH_CAPTURE (R396): SCH_CMD CAPTURE copies the loads and dispatch counts of all cores. -/
  | schCapture
  /-- SCH_CMD_RESERVED (R401): A reserved SCH_CMD code is refused. -/
  | schCmdReserved (code : BitVec 4)
  /-- GRAPH_NODE_DONE (R399): A node completes, sending tokens to successors or failing the graph; a FINAL node makes it DONE. -/
  | graphNodeDone (q : Plane) (node : Fin 1024) (err : BitVec 8)
  /-- GRAPH_TIMEOUT (R399): A graph not ended after its TIMEOUT fails with GRAPH_TIMEOUT. -/
  | graphTimeout (q : Plane)
  /-- STORE_READ (R403): A store read checks its pair's ECC, correcting a single-bit error or poisoning an uncorrectable one. -/
  | storeRead (q : Plane) (addr : BitVec 29) (ag : Agent) (fnd : EccFinding)
  /-- STORE_PAIR_WRITE (R403): A write of a whole pair writes new check bits. -/
  | storePairWrite (q : Plane) (pair : BitVec 28) (v0 v1 : Word)
  /-- STORE_WORD_WRITE (R403): A write of one word is a read-modify-write of its pair. -/
  | storeWordWrite (q : Plane) (addr : BitVec 29) (v : Word) (fnd : EccFinding)
  /-- SPARE_COPY_DONE (R406): The sparing copy ends and the row is redirected to the spare with SPARED. -/
  | spareCopyDone (q : Plane)
  /-- SCRUB_READ (R405): The patrol scrub reads the next pair at its steady rate. -/
  | scrubRead (q : Plane) (fnd : EccFinding)
  /-- DMA_START (R416): DMA_CH_CMD START starts or continues a channel at HEAD. -/
  | dmaStart (c : Fin 64)
  /-- DMA_STOP (R416): DMA_CH_CMD STOP returns the channel to IDLE at the end of its Bobbin. -/
  | dmaStop (c : Fin 64)
  /-- ABORT (R422): DMA_CH_CMD ABORT stops issuing and completes the Bobbin with ABORTED. -/
  | dmaAbort (c : Fin 64)
  /-- DMA_RESUME (R416): DMA_CH_CMD RESUME continues a HALTED channel at HEAD. -/
  | dmaResume (c : Fin 64)
  /-- DOORBELL (R414): DMA_CH_CMD DOORBELL makes a starved channel reread the Bobbin at HEAD. -/
  | dmaDoorbell (c : Fin 64)
  /-- DMA_CMD_RESERVED (R427): A reserved DMA_CH_CMD code is refused. -/
  | dmaCmdReserved (c : Fin 64) (code : BitVec 4)
  /-- DMA_CFG_WRITE (R416): A write of DMA_CH_CFG or DMA_CH_RING outside IDLE, STOPPED or HALTED is refused. -/
  | dmaCfgWrite (c : Fin 64) (ring : Bool) (v : Word)
  /-- STARVED_REREAD (R414): A starved channel rereads the Bobbin at HEAD every 10 us. -/
  | starvedReread (c : Fin 64)
  /-- BURST_ISSUE (R419): The engine grants one ready burst by priority and round-robin within the in-flight limit. -/
  | burstIssue
  /-- BURST_ACK (R417): A burst is acknowledged by its destination and counts toward HALF. -/
  | burstAck (c : Fin 64) (data : Beats)
  /-- DMA_ERROR_RESPONSE (R420): A source or destination error completes the Bobbin with its status and halts or continues the channel. -/
  | dmaErrorResponse (c : Fin 64) (dst : Bool) (data : Beats)
  /-- DI_RAW_EDGE (R430): A raw input edge is stamped and starts or restarts the debounce interval. -/
  | diRawEdge (k : Fin 32) (level : Bool) (t : Nat)
  /-- DEBOUNCE_EXPIRY (R430): The raw level stays stable for DEB and the debounced level changes, with Picot, flag and event. -/
  | debounceExpiry (k : Fin 32)
  /-- DI_SETTLE (R431): An UNKNOWN input settles after max(DEB, 10 us) of stable level. -/
  | diSettle (k : Fin 32)
  /-- DI_PICOT_DRAIN (R434): FIELD drains a DI Picot into its ring in both stores. -/
  | diPicotDrain
  /-- FIELD_CONFIG_WRITE (R432): A write of DEB, INV or TYPE is refused for safety inputs, or makes the inputs UNKNOWN. -/
  | fieldConfigWrite (r : FieldReg) (v : Word)
  /-- DO_COMMIT_CONTENT (R435): FIELD takes the DO levels and PERMIT request of a commit with the current epoch. -/
  | doCommitContent
  /-- OVERCURRENT (R437): An output limiting for 200 us is switched off with OVERCURRENT and later retried or latched. -/
  | overcurrent (k : Fin 16)
  /-- OC_RETRY (R437): 10 ms after an overcurrent switch-off the output is switched on again. -/
  | ocRetry (k : Fin 16)
  /-- RETRY_COUNT_RESET (R437): An output on for 1 s without limiting resets its retry count. -/
  | retryCountReset (k : Fin 16)
  /-- EXT_DRIVEN (R438): An off output that reads high for 100 us raises EXT_DRIVEN. -/
  | extDriven (k : Fin 16)
  /-- EXT_DRIVEN_END (R438): An EXT_DRIVEN output that reads low for 100 us clears its fault. -/
  | extDrivenEnd (k : Fin 16)
  /-- DRIVE_FAIL (R439): An on output that reads low for 100 us is latched off with DRIVE_FAIL. -/
  | driveFail (k : Fin 16)
  /-- SUPPLY_MEASUREMENT (R440): The supply monitor forms a mean of VFIELD every 10 us and may enter WARN or CUT. -/
  | supplyMeasurement (v : BitVec 16)
  /-- SAG_CUT (R440): VFIELD below 16 V for 1 ms cuts every output and SAFE_STOP_A. -/
  | sagCut
  /-- SUPPLY_NORMAL (R440): VFIELD at or above 19.2 V for 10 ms returns WARN to NORMAL. -/
  | supplyNormal
  /-- SAG_RESTORED (R440): VFIELD at or above 18 V for 10 ms leaves CUT for WARN or CUT_HELD. -/
  | sagRestored
  /-- SAG_ACK (R440): FIO_CMD SAG_ACK takes CUT_HELD to WARN. -/
  | sagAck
  /-- FS_ACK (R443): FIO_CMD FS_ACK ends a failsafe once commits arrive again. -/
  | fsAck
  /-- FIO_CMD_RESERVED (R445): A reserved FIO_CMD code is refused. -/
  | fioCmdReserved (code : BitVec 4)
  /-- DO_CLEAR (R439): FIO_DO_CMD CLEAR ends an OC_LATCHED or DRIVE_FAIL latch. -/
  | doClear (k : Fin 16)
  /-- DO_CMD_RESERVED (R445): A reserved FIO_DO_CMD code is refused. -/
  | doCmdReserved (k : Fin 16) (code : BitVec 4)
  /-- SSA_TEST_PULSE (R442): SAFE_STOP_A is pulsed low for 300 us every 100 ms at PERMIT and read back. -/
  | ssaTestPulse (low : Bool)
  /-- SSA_MISMATCH (R442): A SAFE_STOP_A readback mismatch is reported to both channels, which drop with OUT_FAULT. -/
  | ssaMismatch
  /-- SSA_DROP (R442): No PERMIT request for 4 cycles drops SAFE_STOP_A with SSA_DROP. -/
  | ssaDrop
  /-- COMMIT_LOST (R443): HOLD_N cycles without a commit set each output to its failsafe level. -/
  | commitLost
  /-- DOMAIN_POWER_DOWN (R469): Bellows takes an idle domain to the deepest allowed state, deferring for bursts in flight. -/
  | domainPowerDown (d : Fin 12) (nextNs : Nat)
  /-- DOMAIN_WAKE_REQUEST (R471): A crossing request, held burst or host access wakes a domain below RUN. -/
  | domainWakeRequest (d : Fin 12)
  /-- WAKE_TIME (R471): A domain wakes ahead of its next scheduled action. -/
  | wakeTime (d : Fin 12)
  /-- THERMAL_READING (R473): A die temperature reading updates BEL_THERM and raises THERM_WARN on a rise above WARN. -/
  | thermalReading (die : Fin 8) (t : BitVec 12)
  /-- EVENT_ASSERTION (R475): A flag set raises its event at the matrix, which counts it and delivers it by its route. -/
  | eventAssertion (es : List (Fin 256))
  /-- EVM_ROUTE_WRITE (R476): A route write takes effect at once, or is refused for a target out of range. -/
  | evmRouteWrite (src : Fin 256) (v : Word)
  /-- SNAP (R480): RDB_CMD SNAP arms a snapshot of the selected blocks at the next commit. -/
  | rdbSnap (q : Plane)
  /-- CANCEL (R480): RDB_CMD CANCEL returns RDB to IDLE. -/
  | rdbCancel (q : Plane)
  /-- RDB_CMD_RESERVED (R485): A reserved RDB_CMD code is refused. -/
  | rdbCmdReserved (q : Plane) (code : BitVec 4)
  /-- SNAPSHOT_WRITTEN (R480): The snapshot records are written to the store and SNAP_DONE is raised. -/
  | snapshotWritten (q : Plane)
  /-- PCIE_RESET (R499): PERST, hot reset or link-down reset resets the endpoint alone and raises PERST. -/
  | pcieReset
  /-- FLR (R499): A Function Level Reset resets the endpoint alone and raises FLR. -/
  | flr
  /-- D3HOT_ENTRY (R499): A transition to D3hot stops mastering and MSI-X. -/
  | d3hotEntry
  /-- PCIE_LINK_CHANGE (R503): The PCIe link comes up or goes down. -/
  | pcieLinkChange (up : Bool) (gen : BitVec 3) (width : BitVec 3)
  /-- POWER_GOOD (R507): Power good is reached and the ROM starts boot. -/
  | powerGood (p : PowerOn)
  /-- MANIFEST_VERIFIED (R450): The manifest verification ends, passing or failing the bank. -/
  | manifestVerified (bytes : List Byte)
  /-- KERNEL_LOADED (R453): The KERNEL section is streamed and its signature checked, and the planes leave reset. -/
  | kernelLoaded (bytes : List Byte)
  /-- SECTION_HASHED (R454): A streamed section's SHA-512 is checked and the section is placed. -/
  | sectionHashed (bytes : List Byte)
  /-- READY (R457): Once the start-up graph is done, cycles run, safety is loaded and Cell Bus channels run, READY is raised. -/
  | bootReady
  /-- BOOT_TIMEOUT (R455): READY not reached within 60 s of power good fails boot with TIMEOUT. -/
  | bootTimeout
  /-- ATTEST (R462): SEC_CMD ATTEST starts an attestation report over the nonce. -/
  | secAttest
  /-- ATTEST_DONE (R462): The signed report is written to SEC_RPT. -/
  | attestDone
  /-- ROLLBACK_COMMIT (R459): SEC_CMD ROLLBACK_COMMIT burns the counter up to the image SVN. -/
  | rollbackCommit
  /-- PROVISION (R459): SEC_CMD PROVISION writes a key hash into a blank slot. -/
  | secProvision (arg : BitVec 4) (dbg : Bool)
  /-- REVOKE (R459): SEC_CMD REVOKE revokes a key slot. -/
  | secRevoke (arg : BitVec 4)
  /-- OTP_DONE (R459): An OTP command completes and raises OTP_DONE. -/
  | otpDone
  /-- TRY_BANK (R460): SEC_CMD TRY_BANK sets a one-shot trial bank. -/
  | tryBank (arg : BitVec 4)
  /-- COMMIT_BANK (R460): SEC_CMD COMMIT_BANK makes the booted bank preferred. -/
  | commitBank
  /-- LOCK_DEBUG (R464): SEC_CMD LOCK_DEBUG locks the JTAG debug port. -/
  | lockDebug
  /-- REBOOT (R460): SEC_CMD REBOOT resets the device as RESET_N does. -/
  | secReboot
  /-- SEC_CMD_RESERVED (R466): A reserved SEC_CMD code is refused. -/
  | secCmdReserved (code : BitVec 4)
  /-- FLASH_READ (R461): BOOT_FLASH_CMD READ reads 256 bytes into the page buffer. -/
  | flashRead
  /-- FLASH_PROGRAM (R461): BOOT_FLASH_CMD PROGRAM writes the page buffer to flash. -/
  | flashProgram
  /-- FLASH_ERASE (R461): BOOT_FLASH_CMD ERASE erases a flash sector. -/
  | flashErase
  /-- FLASH_CMD_RESERVED (R466): A reserved BOOT_FLASH_CMD code is refused. -/
  | flashCmdReserved (code : BitVec 4)
  /-- FLASH_DONE (R461): A flash command ends with FLASH_DONE or FLASH_ERR. -/
  | flashDone (ok : Bool) (data : List Byte)
  /-- BYPASS (R463): JTAG instruction BYPASS. -/
  | jtagBypass
  /-- IDCODE (R463): JTAG instruction IDCODE returns the device identity code. -/
  | jtagIdcode
  /-- SAMPLE_PRELOAD (R463): JTAG instruction SAMPLE/PRELOAD samples the boundary scan. -/
  | jtagSample
  /-- EXTEST (R465): JTAG EXTEST drives the boundary when unlocked and no loop is closed, dropping both safety outputs. -/
  | jtagExtest
  /-- UNLOCK_CHAL (R464): JTAG UNLOCK_CHAL makes a new 80-byte challenge. -/
  | unlockChal
  /-- UNLOCK_RESP (R464): JTAG UNLOCK_RESP checks a signed response and unlocks debug, or counts a failure. -/
  | unlockResp (bytes : List Byte)
  /-- DEBUG_STATUS (R463): JTAG DEBUG_STATUS returns the debug state. -/
  | debugStatus
  /-- OBSERVE (R463): JTAG OBSERVE reads die and plane debug state when unlocked. -/
  | jtagObserve
  /-- PLANE_RAIL_FAULT (R509): VCORE or VDDQ of a plane outside its window resets the plane as a machine check, or both planes lead to HALT. -/
  | planeRailFault (q : Plane)
  /-- PLANE_RAIL_RESTORED (R509): A plane rail inside its range for 10 ms starts recovery. -/
  | planeRailRestored (q : Plane)
  /-- IO_RAIL_FAULT (R509): VIO18, VIO33 or VSERDES outside its window resets the device. -/
  | ioRailFault
  /-- RESET_N_LOW (R509): RESET_N low for 1 us or more resets the device. -/
  | resetNLow
  /-- REFCLK_LOSS (R509): REFCLK absent or out of range stops the beacons and leads to HALT. -/
  | refclkLoss
  /-- OVERTEMP (R509): A die above 120 C for 1 ms holds the device in reset with ALARM_N low. -/
  | overtemp
  /-- OVERTEMP_RELEASE (R509): Every die below 100 C ends the thermal reset. -/
  | overtempRelease
  /-- VFIELD_LOW (R509): VFIELD below 9 V resets the Field die and fails the warden-field link. -/
  | vfieldLow
  /-- VBAT_LOSS (R509): VBAT below 2 V with VIO33 absent loses calendar and BOOT_SEL. -/
  | vbatLoss
  /-- MSIX_HOLDOFF_END (R478): At the end of a vector's holdoff, one message is produced if the holdoff bit is set, the bit is cleared and a new holdoff starts. -/
  | msixHoldoffEnd (v : Fin 64)
  /-- CONFIGURATION_WRITE (R498): A PCIe configuration write sets fields such as MSI-X Enable, Function Mask, Bus Master Enable, Max Payload Size or the power state. -/
  | configurationWrite (f : CfgField)
  /-- PCIE_L1_CHANGE (R472): The PCIe link enters or leaves ASPM L1, allowing or forbidding PORT_HOST below DOZE. -/
  | pcieL1Change (enter : Bool)
  /-- DOMAIN_EXIT_DONE (R468): A domain completes its exit latency and reaches RUN, releasing held crossings, paused DMA channels and waiting host accesses. -/
  | domainExitDone (d : Fin 12) (ns : Nat)
  /-- DOMAIN_ENTRY_DONE (R468): A domain completes entry to its chosen state below RUN, for OFF after saving its state to the store. -/
  | domainEntryDone (d : Fin 12)
  /-- FIELD_POWER_UP (R431): VFIELD rises and the Field die comes out of reset, with outputs off and every input UNKNOWN. -/
  | fieldPowerUp
  /-- ANNOUNCE_RECEIPT_TIMEOUT (R343): A PTP port that receives no Announce within its receipt timeout re-runs the BMCA and may leave SLAVE. -/
  | announceReceiptTimeout (i : Fin 8) (f : Fin 4)
  deriving DecidableEq, Repr

end Sys2Proof
end

