-- ==== Sys2Proof/Decode.lean ====
section
/-! DEFINITION. The commands that a word spells.  The table of operations and events gives no row any bits, so no word
spells one. -/

namespace Sys2Proof

/-- The command that a word of `nbits` bits spells: none, as no row of the table has an encoding. DESIGN CHOICE, log 4. -/
def decodeTableWord (_nbits _w : Nat) : Option Instr := none

end Sys2Proof
end

