-- ==== Sys2Proof/Geometry.lean ====
section
/-! DEFINITION. The geometry of one piece of a path, as the Stitches give it (R73 to R76, R110, R122): the control words,
and the frame in which they are read. -/

namespace Sys2Proof

/-- The frame in which the words of a piece are read (R72): its id and its pose relative to WORLD when the Stitch was
fetched; frame 2 is the PART frame, which can move. -/
structure Frame where
  id : Nat
  pose : List Word
  deriving DecidableEq, Repr

/-- A piece of a path (R110).  A pose is seven words: x, y, z (C36) and w, x, y, z (Q36). -/
inductive Geo where
  /-- a LINE from a pose to a pose -/
  | line (fr : Frame) (p0 p1 : List Word)
  /-- an ARC from a pose through a point to a pose -/
  | arc (fr : Frame) (p0 via p1 : List Word)
  /-- a SPLINE: poses and the first and second derivatives at both ends -/
  | spline (fr : Frame) (p0 p1 d0 dd0 d1 dd1 : List Word)
  /-- a JOINT move of 16 joints and external axes -/
  | joint (q0 q1 : List Word)
  /-- the blend of half-length `d` between two pieces (R122) -/
  | blend (a b : Geo) (d : Rat)
  deriving DecidableEq, Repr

end Sys2Proof
end

