-- ==== Sys2Proof/Config.lean ====
section
/-! DEFINITION. What the spec leaves open: values that no rule states, and real-valued geometry that it does not bring down
to words.  Each is an opaque constant, so that no proof can lean on one choice; a note in notes/assumptions names each. -/

namespace Sys2Proof.Config

/-- The value a step takes at its `n`-th read of an unstated value. DESIGN CHOICE, log 5. -/
opaque freeWord : Nat → Word

/-- The error in ps that the clock of an island would give at a cell time (R24 and R48 bound it; the value is the clock's own).
DESIGN CHOICE, log 126. -/
opaque clockError : Nat → Nat → Int

/-- The delay in ps of the beacon path to an island, as the echo exchange measures it (R47; R62 bounds it). DESIGN CHOICE, log
126. -/
opaque beaconPath : Nat → Nat

/-- The length in samples of a soft start whose limits SS_V, SS_A and SS_J admit none (R211 names no N). DESIGN CHOICE, log 58.
-/
opaque rampSamples : Int → Int → Int → Nat

/-- The words of block state that the final flush of cycle `n` carries, at most 65,536 (R361, R368). DESIGN CHOICE, log 90. -/
opaque blockStateWords : Nat → Nat

/-- How long after CT0 the beacon of a channel leaves, in ps (R309 bounds it by one byte time); channel and cycle. DESIGN
CHOICE, log 90. -/
opaque beaconDelay : Nat → Nat → Nat

/-- How long after CT0 the last bit of a probe leaves, in ps (R312: after the beacon); channel and cycle. DESIGN CHOICE, log 90.
-/
opaque probeDelay : Nat → Nat → Nat

/-- What the crystal of the calendar counts, in 2^-15 s, while cell time runs for so many ps (R349: its error is its own).
DESIGN CHOICE, log 108. -/
opaque calTicks : Nat → Nat

/-- The newest BORDER envelope that a safety channel of this cell gives for a peer in a cycle (R352; no rule says how it is
formed): channel, peer, cycle. DESIGN CHOICE, log 110. -/
opaque borderEnvelope : Nat → Nat → Nat → List Word

/-! ## Keys and keys' owners (R453, R458, R462, R463) -/

/-- The modulus of Cerusk's kernel key, whose hash the Warden ROM holds (R453). DESIGN CHOICE, log 115. -/
opaque kernelModulus : List Byte

/-- The hash of Cerusk's delivery key, in slot 0 at delivery (R458). DESIGN CHOICE, log 115. -/
opaque deliveryKeyHash : List Byte

/-- The signature of the identity key over a message, with the salt of a draw (R458, R462): no path reads the private key.
DESIGN CHOICE, log 115. -/
opaque identitySign : Word → List Byte → List Byte

/-- Cerusk's manufacturer identity in IDCODE (R463). DESIGN CHOICE, log 115. -/
opaque jedecId : BitVec 11

/-- What DEBUG_STATUS returns for a level in force, a highest level and a count of failed responses (R463 names no layout).
DESIGN CHOICE, log 115. -/
opaque debugStatus : Nat → Nat → Nat → List Byte

/-! ## Estimation: what a Pricking's own program computes (R177, R179) -/

/-- What a Pricking predicts for component `c` of a record: Pricking, record, parameters, the record's point. DESIGN CHOICE, log
65. -/
opaque estPredict : List Word → List Word → List Word → List Word → Nat → Rat

/-- The derivative of residual `c` of a record by unknown `j` there. DESIGN CHOICE, log 65. -/
opaque estSlope : List Word → List Word → List Word → List Word → Nat → Nat → Rat

/-- The error of the array's arithmetic at a result of a pass: Pricking, descriptor, records, parameters, points, λ exponent of
a trial and the number of the result. DESIGN CHOICE, log 65. -/
opaque estError : List Word → List Word → List (List Word) → List Word → List Word → Option Int → Nat → Rat

/-- Whether an operation of the trial clamps (R188). DESIGN CHOICE, log 65. -/
opaque estSat : List Word → List Word → List (List Word) → List Word → List Word → Int → Bool

/-- The fraction bits of a Pricking's point blocks (R180 gives τ_pt and λ_pt no LSB). DESIGN CHOICE, log 65. -/
opaque estPointFraction : List Word → Nat

/-- Whether a record of a linear block whose joint words are all 0 was never filled (R186 does not say how that shows). DESIGN CHOICE, log
65. -/
opaque estUnfilled : List Word → Bool

/-! ## Real numbers and kinematics -/

/-- The error of the planner's own arithmetic at a real value; `near` holds it to 2^-60. DESIGN CHOICE, log 41. -/
opaque slack : Rat → Rat

/-- Whether a real value that lies between two integers goes to the upper one, where no rule states the rounding. DESIGN CHOICE,
log 41. -/
opaque roundsUp : Rat → Bool

/-! The kinematics section of the image has no format in the spec: what it computes is left open.  Each function takes the arm;
those of the kinematics in force take the calibration values in force too, none for the nominal kinematics (R72, R115, R196). -/

/-- The pose of the PART frame, from the calibration, its pose in the tables, the mask of COUPLE and the commanded positions of
the auxiliary axes (R80). DESIGN CHOICE, log 41. -/
opaque partPose : List Word → List Word → Nat → List Word → List Word

/-- The pose of an arm's base, from the calibration and the pose in the tables (R72). DESIGN CHOICE, log 41. -/
opaque basePose : Nat → List Word → List Word → List Word

/-- The joint values of an arm for a tool and a tool-centre pose in WORLD, from the nominal inverse kinematics (R532). DESIGN
CHOICE, log 41. -/
opaque inverseKinematics : Nat → List Word → List Word → List Word

/-- dq_j/ds of the joints of an arm, from the nominal inverse kinematics, for a tool, a tool-centre pose in WORLD and the
derivatives by s of position and of orientation there (R115). DESIGN CHOICE, log 41. -/
opaque jointRates : Nat → List Word → List Rat → List Rat → List Rat

/-- Pose, velocities and accelerations, 19 words, that the kinematics in force give an arm with a tool for joint targets,
velocities and accelerations (R530). DESIGN CHOICE, log 41. -/
opaque forwardKinematics : Nat → List Word → List Word → List Word → List Word

/-! ## Separation monitoring (R264, R268, R270, R283)

The first argument is the channel, the second the calibration values in force, none for the nominal kinematics. -/

/-- The end points in WORLD of a capsule of an arm, for the arm's joint positions. DESIGN CHOICE, log 41. -/
opaque placeLink : Nat → List Word → Nat → List Word → Nat → List Word → List Word → List Word

/-- The end points in WORLD of a capsule in the PART frame, for the positions of the auxiliary axes. DESIGN CHOICE, log 41. -/
opaque placePart : Nat → List Word → List Word → List Word → List Word → List Word

/-- The error in m of a channel at the distance of two segments; `segmentDistance` holds it to 1 µm (R264). DESIGN CHOICE, log
41. -/
opaque distanceError : Nat → List Word → List Word → Rat

/-- The speed of a point of a link, in V36 LSB, for an arm's joint positions and velocities. DESIGN CHOICE, log 41. -/
opaque pointSpeed : Nat → List Word → Nat → List Word → List Word → Nat → List Word → Nat

end Sys2Proof.Config
end

