-- ==== Sys2Proof/Machine/Arith.lean ====
section
/-! DEFINITION. Arithmetic that several blocks share: rounding half to even, saturation, the number formats of R5 and
R6, the CRC of R104 and the bounded search. -/

namespace Sys2Proof.Machine

/-- `n / d` rounded to the nearest integer, ties to even; `d` is positive. -/
def rneDiv (n : Int) (d : Nat) : Int :=
  let q := n / (d : Int)
  let r := n % (d : Int)
  if 2 * r < d then q else if 2 * r = d then (if q % 2 = 0 then q else q + 1) else q + 1

/-- `x / 2 ^ k` rounded half to even; a negative `k` shifts left. -/
def rneShift (x : Int) (k : Int) : Int :=
  if k ≤ 0 then x * (2 : Int) ^ (-k).toNat else rneDiv x (2 ^ k.toNat)

/-- The nearest integer to a rational, ties to even. -/
def rneRat (x : Rat) : Int := rneDiv x.num x.den

/-- `x` clamped to the signed numbers of `b` bits. -/
def satTo (b : Nat) (x : Int) : Int :=
  if x < -(2 : Int) ^ (b - 1) then -(2 : Int) ^ (b - 1)
  else if x > (2 : Int) ^ (b - 1) - 1 then (2 : Int) ^ (b - 1) - 1 else x

/-- `x` clamped to a 36-bit word (R4). -/
def sat36 (x : Int) : Int := satTo 36 x

/-- Whether a word cannot hold `x`. -/
def over36 (x : Int) : Bool := decide (sat36 x ≠ x)

/-- The word with the low 36 bits of `x` in two's complement (R4). -/
def wordI (x : Int) : Word := BitVec.ofInt 36 x

/-- The word with the low 36 bits of `n`. -/
def wordN (n : Nat) : Word := BitVec.ofNat 36 n

/-- The signed value of the low `b` bits of `n`. -/
def signedOf (b n : Nat) : Int := if n % 2 ^ b < 2 ^ (b - 1) then ((n % 2 ^ b : Nat) : Int) else (n % 2 ^ b : Nat) - (2 : Int) ^ b

/-- `n + k`, held at `2 ^ b - 1` (a saturating counter of `b` bits). -/
def satAdd (b n k : Nat) : Nat := min (n + k) (2 ^ b - 1)

/-- A cell time in ps as HTS72, rounded to nearest with ties to even (R6, R51). -/
def htsOfPs (t : Nat) : Nat := (rneDiv ((t : Int) * 2 ^ 32) (10 ^ 12)).toNat % 2 ^ 72

/-- An HTS72 value in ps, rounded to nearest. -/
def psOfHts (h : Nat) : Nat := (rneDiv ((h : Int) * 10 ^ 12) (2 ^ 32)).toNat

/-- A D36 duration (LSB 2^-32 s) in ps, rounded to nearest. -/
def psOfD36 (w : Word) : Nat := psOfHts w.toNat

/-- A duration in ps as D36, held at its largest value. -/
def d36OfPs (t : Nat) : Word := wordN (min (htsOfPs t) (2 ^ 36 - 1))

/-- The low word of a 72-bit value (R6). -/
def lo72 (n : Nat) : Word := wordN n

/-- The high word of a 72-bit value (R6). -/
def hi72 (n : Nat) : Word := wordN (n / 2 ^ 36)

/-- The 72-bit value of a word pair, low word first (R6). -/
def of72 (lo hi : Word) : Nat := lo.toNat + hi.toNat * 2 ^ 36

/-- The signed 72-bit value of a word pair. -/
def int72 (lo hi : Word) : Int := signedOf 72 (of72 lo hi)

/-- The five bytes, least significant first, that a word is in a CRC (R104). -/
def crcBytes (w : Word) : List Nat :=
  [w.toNat % 256, w.toNat / 2 ^ 8 % 256, w.toNat / 2 ^ 16 % 256, w.toNat / 2 ^ 24 % 256, w.toNat / 2 ^ 32]

/-- One bit of a reflected CRC with polynomial `p`. -/
def crcBit (p c : Nat) : Nat := if c % 2 = 1 then Nat.xor (c / 2) p else c / 2

/-- One byte of a reflected CRC with polynomial `p`. -/
def crcByte (p c b : Nat) : Nat :=
  crcBit p (crcBit p (crcBit p (crcBit p (crcBit p (crcBit p (crcBit p (crcBit p (Nat.xor c b))))))))

/-- A reflected 32-bit CRC with all-ones start and final inversion. -/
def crcReflected (p : Nat) (bs : List Nat) : Nat := Nat.xor (bs.foldl (crcByte p) 0xFFFFFFFF) 0xFFFFFFFF

/-- The CRC-32 of R104 over words. -/
def crc32 (ws : List Word) : Nat := crcReflected 0xEDB88320 (ws.flatMap crcBytes)

/-- Element `i` of a list, or `d`. -/
def nth {α : Type} (l : List α) (i : Nat) (d : α) : α := l.getD i d

/-- Bit `j` of a number. -/
def bitN (n j : Nat) : Bool := n / 2 ^ j % 2 == 1

/-- `n` with bit `j` set. -/
def setBitN (n j : Nat) : Nat := if bitN n j then n else n + 2 ^ j

/-- `n` with bit `j` clear. -/
def clrBitN (n j : Nat) : Nat := if bitN n j then n - 2 ^ j else n

/-- The indices below `k` whose bit of `n` is 1, ascending. -/
def bitsOf (k n : Nat) : List Nat := (List.range k).filter (bitN n)

/-- The number with the bits of the listed indices set. -/
def maskOf (l : List Nat) : Nat := l.foldl setBitN 0

/-- 1 for true. -/
def b2n (b : Bool) : Nat := if b then 1 else 0

/-- Apply `f` for each element, left to right. -/
def each {σ α : Type} (l : List α) (f : α → σ → σ) (s : σ) : σ := l.foldl (fun s a => f a s) s

end Sys2Proof.Machine
end

