-- ==== Sys2Proof/Machine/Regs.lean ====
section
/-! DEFINITION. The register map of the HL8128: where every register lies (R490, R491 and the heading line of each
register in the block chapters), its fields, the access code of each field (R14, R16) and its reset value.  A register is
named by its SLOT: its byte offset in BAR0 divided by 8 (R12).  The registers of a plane are named by their slot in the
Chanter alias window (R491); the fixed windows show the same registers 0x100_0000 and 0x200_0000 bytes lower. -/

namespace Sys2Proof.Machine

/-- A bit field [hi:lo] of a word (R4). -/
structure Fld where
  hi : Nat
  lo : Nat
  deriving DecidableEq, Repr

/-- The number of bits of a field. -/
def Fld.width (f : Fld) : Nat := f.hi + 1 - f.lo

/-- The field's value in `w`, as an unsigned number. -/
def Fld.get (f : Fld) (w : Word) : Nat := w.toNat / 2 ^ f.lo % 2 ^ (f.hi + 1 - f.lo)

/-- `w` with the field replaced by the low bits of `n`. -/
def Fld.set (f : Fld) (w : Word) (n : Nat) : Word :=
  BitVec.ofNat 36 (w.toNat / 2 ^ (f.hi + 1) * 2 ^ (f.hi + 1) + n % 2 ^ (f.hi + 1 - f.lo) * 2 ^ f.lo
    + w.toNat % 2 ^ f.lo)

/-- The access codes of R14, with the two kinds of RO field that a write of 0 clears under R16: `clr` clears as a whole,
`cnt` clears byte by byte. -/
inductive Access where
  | ro | rw | w1c | wo | clr | cnt
  deriving DecidableEq, Repr

/-- A field of a register: its bits, its access code and its reset value. -/
structure RegField where
  fld : Fld
  acc : Access
  reset : Nat
  deriving DecidableEq, Repr

/-- A register, or an array of registers: the slot of its first element, its dimensions (count, stride in slots),
outermost first, and its fields. -/
structure RegRow where
  base : Nat
  dims : List (Nat × Nat)
  fields : List RegField
  deriving DecidableEq, Repr

/-! The slot of every register. -/

def R.TIM_CYC_PERIOD : Nat := 0x82000
def R.TIM_CYC_PHASE : Nat := 0x82001
def R.TIM_CYC_SYNC_OFS : Nat := 0x82002
def R.TIM_CYC_FB_DEADLINE : Nat := 0x82003
def R.TIM_CYC_SOLVE_DEADLINE : Nat := 0x82004
def R.TIM_CYC_COMMIT_OFS : Nat := 0x82005
def R.TIM_CYC_APPLY_OFS : Nat := 0x82006
def R.TIM_CYC_CMD : Nat := 0x82007
def R.TIM_CYC_STATUS : Nat := 0x82008
def R.TIM_CYC_FLAGS : Nat := 0x82009
def R.TIM_CYC_FLAG_CNT0 : Nat := 0x8200a
def R.TIM_CYC_FLAG_CNT1 : Nat := 0x8200b
def R.TIM_CYC_NUM : Nat := 0x8200c
def R.TIM_CYC_NUM_HI : Nat := 0x8200d
def R.TIM_CYC_CT0 : Nat := 0x8200e
def R.TIM_CYC_CT0_HI : Nat := 0x8200f
def R.TIM_CYC_ACT_PERIOD : Nat := 0x82010
def R.TIM_CYC_ACT_PHASE : Nat := 0x82011
def R.TIM_CYC_ACT_SYNC_OFS : Nat := 0x82012
def R.TIM_CYC_ACT_FB_DEADLINE : Nat := 0x82013
def R.TIM_CYC_ACT_SOLVE_DEADLINE : Nat := 0x82014
def R.TIM_CYC_ACT_COMMIT_OFS : Nat := 0x82015
def R.TIM_CYC_ACT_APPLY_OFS : Nat := 0x82016
def R.TIM_CYC_EVP (k : Nat) : Nat := 0x82020 + 0x1 * k
def R.PLN_Q_BASE (a : Nat) : Nat := 0x681000 + 0x20 * a
def R.PLN_Q_CFG (a : Nat) : Nat := 0x681001 + 0x20 * a
def R.PLN_Q_WR (a : Nat) : Nat := 0x681002 + 0x20 * a
def R.PLN_Q_FETCH (a : Nat) : Nat := 0x681003 + 0x20 * a
def R.PLN_Q_REACH (a : Nat) : Nat := 0x681004 + 0x20 * a
def R.PLN_Q_STATUS (a : Nat) : Nat := 0x681005 + 0x20 * a
def R.PLN_Q_TAG (a : Nat) : Nat := 0x681006 + 0x20 * a
def R.PLN_Q_MARK (a : Nat) : Nat := 0x681007 + 0x20 * a
def R.PLN_Q_CMD (a : Nat) : Nat := 0x681008 + 0x20 * a
def R.PLN_Q_ARG (a : Nat) : Nat := 0x681009 + 0x20 * a
def R.PLN_Q_FLAGS (a : Nat) : Nat := 0x68100a + 0x20 * a
def R.PLN_Q_FLAG_CNT0 (a : Nat) : Nat := 0x68100b + 0x20 * a
def R.PLN_Q_FLAG_CNT1 (a : Nat) : Nat := 0x68100c + 0x20 * a
def R.PLN_Q_FLAG_CNT2 (a : Nat) : Nat := 0x68100d + 0x20 * a
def R.PLN_Q_FLAG_CNT3 (a : Nat) : Nat := 0x68100e + 0x20 * a
def R.PLN_Q_EVMASK (a : Nat) : Nat := 0x68100f + 0x20 * a
def R.PLN_Q_FAULT (a : Nat) : Nat := 0x681010 + 0x20 * a
def R.PLN_Q_AHEAD (a : Nat) : Nat := 0x681012 + 0x20 * a
def R.PLN_Q_FAULT_POS (a : Nat) : Nat := 0x681011 + 0x20 * a
def R.PLN_Q_AHEAD_POS (a : Nat) : Nat := 0x681013 + 0x20 * a
def R.PLN_Q_RESUME_TOL (a : Nat) : Nat := 0x681014 + 0x20 * a
def R.PLN_CKP_BASE (a : Nat) : Nat := 0x681015 + 0x20 * a
def R.PLN_CKP_CFG (a : Nat) : Nat := 0x681016 + 0x20 * a
def R.PLN_CKP_WR (a : Nat) : Nat := 0x681017 + 0x20 * a
def R.PLN_CKP_RD (a : Nat) : Nat := 0x681018 + 0x20 * a
def R.PLN_FLAGS : Nat := 0x680000
def R.PLN_FLAG_CNT : Nat := 0x680001
def R.PLN_TGT_BASE : Nat := 0x680002
def R.PLN_ZONE (z : Nat) : Nat := 0x680100 + 0x1 * z
def R.PLN_BZ_CFG (b : Nat) : Nat := 0x680180 + 0x1 * b
def R.PLN_PROC_CFG (p : Nat) : Nat := 0x6801c0 + 0x1 * p
def R.PLN_ARM_OVR (a : Nat) : Nat := 0x680200 + 0x20 * a
def R.PLN_ARM_SCALE_CFG (a : Nat) : Nat := 0x680201 + 0x20 * a
def R.PLN_ARM_CFG (a : Nat) : Nat := 0x680202 + 0x20 * a
def R.PLN_ARM_SCALE (a : Nat) : Nat := 0x680203 + 0x20 * a
def R.PLN_ARM_SSM (a : Nat) : Nat := 0x680204 + 0x20 * a
def R.PLN_ARM_COUPLE (a : Nat) : Nat := 0x680205 + 0x20 * a
def R.PLN_ARM_INHIBIT (a : Nat) : Nat := 0x680206 + 0x20 * a
def R.PLN_ARM_PROF (a : Nat) : Nat := 0x680207 + 0x20 * a
def R.PLN_ARM_PATH (a : Nat) : Nat := 0x680208 + 0x20 * a
def R.PLN_ARM_ZHELD0 (a : Nat) : Nat := 0x680209 + 0x20 * a
def R.PLN_ARM_ZHELD1 (a : Nat) : Nat := 0x68020a + 0x20 * a
def R.PLN_ARM_ZHELD2 (a : Nat) : Nat := 0x68020b + 0x20 * a
def R.PLN_ARM_ZWAIT (a : Nat) : Nat := 0x68020c + 0x20 * a
def R.PLN_ARM_FLAGS (a : Nat) : Nat := 0x68020d + 0x20 * a
def R.PLN_ARM_FLAG_CNT0 (a : Nat) : Nat := 0x68020e + 0x20 * a
def R.PLN_ARM_FLAG_CNT1 (a : Nat) : Nat := 0x68020f + 0x20 * a
def R.PLN_ARM_EVMASK (a : Nat) : Nat := 0x680210 + 0x20 * a
def R.SLV_CFG : Nat := 0x6a0000
def R.SLV_CMD : Nat := 0x6a0001
def R.SLV_ARG : Nat := 0x6a0002
def R.SLV_STATUS : Nat := 0x6a0003
def R.SLV_FLAGS : Nat := 0x6a0004
def R.SLV_FLAG_CNT0 : Nat := 0x6a0005
def R.SLV_FLAG_CNT1 : Nat := 0x6a0006
def R.SLV_FLAG_CNT2 : Nat := 0x6a0007
def R.SLV_EVMASK : Nat := 0x6a0008
def R.SLV_RES_BASE : Nat := 0x6a0009
def R.SLV_PARAM_BASE : Nat := 0x6a000b
def R.SLV_RES_SEL : Nat := 0x6a000a
def R.SLV_PARAM_SEL : Nat := 0x6a000c
def R.SLV_FREEZE (m : Nat) : Nat := 0x6a000d + 0x1 * m
def R.SLV_PIV_LOG : Nat := 0x6a0012
def R.SLV_SAT_LOG : Nat := 0x6a0013
def R.SLV_ID_M0 : Nat := 0x6a0014
def R.SLV_ID_M1 : Nat := 0x6a0015
def R.SLV_ID_D0 : Nat := 0x6a0016
def R.SLV_ID_D1 : Nat := 0x6a0017
def R.SLV_LIVE_EN0 : Nat := 0x6a0018
def R.SLV_LIVE_EN1 : Nat := 0x6a0019
def R.SLV_LIVE (k : Nat) : Nat := 0x6a0020 + 0x1 * k
def R.EST_CFG : Nat := 0x6c0000
def R.EST_CMD : Nat := 0x6c0001
def R.EST_ARG : Nat := 0x6c0002
def R.EST_SUB_BASE : Nat := 0x6c0003
def R.EST_SUB_CFG : Nat := 0x6c0004
def R.EST_SUB_WR : Nat := 0x6c0005
def R.EST_SUB_RD : Nat := 0x6c0006
def R.EST_JOB : Nat := 0x6c0007
def R.EST_JOB_ADDR : Nat := 0x6c0008
def R.EST_LAST : Nat := 0x6c0009
def R.EST_STALL : Nat := 0x6c000a
def R.EST_CAL_BASE : Nat := 0x6c000b
def R.EST_CAL : Nat := 0x6c000c
def R.EST_CAL_GEN : Nat := 0x6c000d
def R.EST_OBS_BASE : Nat := 0x6c000e
def R.EST_OBS_CFG : Nat := 0x6c000f
def R.EST_OBS_WR : Nat := 0x6c0010
def R.EST_OBS_REJ : Nat := 0x6c0011
def R.EST_FLAGS : Nat := 0x6c0012
def R.EST_FLAG_CNT0 : Nat := 0x6c0013
def R.EST_FLAG_CNT1 : Nat := 0x6c0014
def R.EST_FLAG_CNT2 : Nat := 0x6c0015
def R.EST_FLAG_CNT3 : Nat := 0x6c0016
def R.EST_EVMASK : Nat := 0x6c0017
def R.EST_PROBE_CFG (k : Nat) : Nat := 0x6c0020 + 0x1 * k
def R.CLE_PAR_BASE : Nat := 0x6e0000
def R.CLE_CMD_BASE : Nat := 0x6e0001
def R.CLE_ARM_CFG (a : Nat) : Nat := 0x6e0020 + 0x4 * a
def R.CLE_ARM_CMD (a : Nat) : Nat := 0x6e0021 + 0x4 * a
def R.CLE_ARM_STATUS (a : Nat) : Nat := 0x6e0022 + 0x4 * a
def R.CLE_CH_CFG (c : Nat) : Nat := 0x6e2000 + 0x10 * c
def R.CLE_CH_MODE (c : Nat) : Nat := 0x6e2001 + 0x10 * c
def R.CLE_CH_STATUS (c : Nat) : Nat := 0x6e2002 + 0x10 * c
def R.CLE_CH_MANUAL (c : Nat) : Nat := 0x6e2003 + 0x10 * c
def R.CLE_CH_SP (c : Nat) : Nat := 0x6e2004 + 0x10 * c
def R.CLE_CH_FLAGS (c : Nat) : Nat := 0x6e2005 + 0x10 * c
def R.CLE_CH_FLAG_CNT0 (c : Nat) : Nat := 0x6e2006 + 0x10 * c
def R.CLE_CH_FLAG_CNT1 (c : Nat) : Nat := 0x6e2007 + 0x10 * c
def R.CLE_CH_FLAG_CNT2 (c : Nat) : Nat := 0x6e2008 + 0x10 * c
def R.CLE_CH_FLAG_CNT3 (c : Nat) : Nat := 0x6e2009 + 0x10 * c
def R.CLE_CH_EVMASK (c : Nat) : Nat := 0x6e200a + 0x10 * c
def R.CLE_CH_EXP (c : Nat) : Nat := 0x6e200b + 0x10 * c
def R.CLE_CH_MEAS (c : Nat) : Nat := 0x6e200c + 0x10 * c
def R.CLE_CH_VEL (c : Nat) : Nat := 0x6e200d + 0x10 * c
def R.CLE_CH_OUT (c : Nat) : Nat := 0x6e200e + 0x10 * c
def R.PIF_CFG (p : Nat) : Nat := 0x160000 + 0x20 * p
def R.PIF_INC_CFG (p : Nat) : Nat := 0x160001 + 0x20 * p
def R.PIF_SC_CFG (p : Nat) : Nat := 0x160002 + 0x20 * p
def R.PIF_SC_OFS (p : Nat) : Nat := 0x160003 + 0x20 * p
def R.PIF_SC_GAIN (p : Nat) : Nat := 0x160004 + 0x20 * p
def R.PIF_SER_CFG (p : Nat) : Nat := 0x160005 + 0x20 * p
def R.PIF_SER_CFG2 (p : Nat) : Nat := 0x160006 + 0x20 * p
def R.PIF_IDX_CPR (p : Nat) : Nat := 0x160007 + 0x20 * p
def R.PIF_IDX_CFG (p : Nat) : Nat := 0x160008 + 0x20 * p
def R.PIF_CMD (p : Nat) : Nat := 0x160009 + 0x20 * p
def R.PIF_ARG (p : Nat) : Nat := 0x16000a + 0x20 * p
def R.PIF_ARG_HI (p : Nat) : Nat := 0x16000b + 0x20 * p
def R.PIF_CNT (p : Nat) : Nat := 0x160012 + 0x20 * p
def R.PIF_CNT_HI (p : Nat) : Nat := 0x160013 + 0x20 * p
def R.PIF_IDX_LATCH (p : Nat) : Nat := 0x160015 + 0x20 * p
def R.PIF_IDX_LATCH_HI (p : Nat) : Nat := 0x160016 + 0x20 * p
def R.PIF_IDX_REF (p : Nat) : Nat := 0x160017 + 0x20 * p
def R.PIF_IDX_REF_HI (p : Nat) : Nat := 0x160018 + 0x20 * p
def R.PIF_STATUS (p : Nat) : Nat := 0x16000c + 0x20 * p
def R.PIF_FLAGS (p : Nat) : Nat := 0x16000d + 0x20 * p
def R.PIF_FLAG_CNT0 (p : Nat) : Nat := 0x16000e + 0x20 * p
def R.PIF_FLAG_CNT1 (p : Nat) : Nat := 0x16000f + 0x20 * p
def R.PIF_FLAG_CNT2 (p : Nat) : Nat := 0x160010 + 0x20 * p
def R.PIF_EVMASK (p : Nat) : Nat := 0x160011 + 0x20 * p
def R.PIF_VEL (p : Nat) : Nat := 0x160014 + 0x20 * p
def R.PIF_IDX_DRIFT (p : Nat) : Nat := 0x160019 + 0x20 * p
def R.PIF_IDX_DRIFT_MAX (p : Nat) : Nat := 0x16001a + 0x20 * p
def R.PIF_VEL_NUM (p : Nat) : Nat := 0x16001b + 0x20 * p
def R.PIF_VEL_CFG (p : Nat) : Nat := 0x16001c + 0x20 * p
def R.PIF_SMP_BASE : Nat := 0x160400
def R.PIF_PICOT_BASE : Nat := 0x160401
def R.PIF_PICOT_CFG : Nat := 0x160402
def R.PIF_PICOT_WR : Nat := 0x160403
def R.CMP_CFG (u : Nat) : Nat := 0x160800 + 0x10 * u
def R.CMP_VAL (u : Nat) : Nat := 0x160801 + 0x10 * u
def R.CMP_VAL_HI (u : Nat) : Nat := 0x160802 + 0x10 * u
def R.CMP_STEP (u : Nat) : Nat := 0x160803 + 0x10 * u
def R.CMP_WIDTH (u : Nat) : Nat := 0x160805 + 0x10 * u
def R.CMP_REPEAT (u : Nat) : Nat := 0x160804 + 0x10 * u
def R.CMP_DELAY (u : Nat) : Nat := 0x160806 + 0x10 * u
def R.CMP_PATH_OFS (u : Nat) : Nat := 0x160807 + 0x10 * u
def R.CMP_CMD (u : Nat) : Nat := 0x160808 + 0x10 * u
def R.CMP_STATUS (u : Nat) : Nat := 0x160809 + 0x10 * u
def R.CMP_FLAGS (u : Nat) : Nat := 0x16080a + 0x10 * u
def R.CMP_FLAG_CNT (u : Nat) : Nat := 0x16080b + 0x10 * u
def R.CMP_EVMASK (u : Nat) : Nat := 0x16080c + 0x10 * u
def R.TRG_CFG (k : Nat) : Nat := 0x160c00 + 0x8 * k
def R.TRG_EVT_WIDTH (k : Nat) : Nat := 0x160c01 + 0x8 * k
def R.TRG_STATUS (k : Nat) : Nat := 0x160c02 + 0x8 * k
def R.TRG_FLAGS (k : Nat) : Nat := 0x160c03 + 0x8 * k
def R.TRG_FLAG_CNT (k : Nat) : Nat := 0x160c04 + 0x8 * k
def R.TRG_EVMASK (k : Nat) : Nat := 0x160c05 + 0x8 * k
def R.SSM_STATUS : Nat := 0x700000
def R.SSM_PAR_CRC : Nat := 0x700001
def R.SSM2_PAR_CRC : Nat := 0xc0001
def R.SSM_FLAGS : Nat := 0x700002
def R.SSM_FLAG_CNT0 : Nat := 0x700003
def R.SSM_FLAG_CNT1 : Nat := 0x700004
def R.SSM_FLAG_CNT2 : Nat := 0x700005
def R.SSM_EVMASK : Nat := 0x700006
def R.SSM_ARM_SCALE (a : Nat) : Nat := 0x700020 + 0x8 * a
def R.SSM_ARM_MARGIN (a : Nat) : Nat := 0x700021 + 0x8 * a
def R.SSM_ARM_SPEED (a : Nat) : Nat := 0x700022 + 0x8 * a
def R.SSM_ARM_STATE (a : Nat) : Nat := 0x700023 + 0x8 * a
def R.SSM2_ARM_STATE (a : Nat) : Nat := 0xc0023 + 0x8 * a
def R.SSM_CONN (c : Nat) : Nat := 0x700200 + 0x1 * c
def R.SSM2_CONN (c : Nat) : Nat := 0xc0200 + 0x1 * c
def R.SSM2_STATUS : Nat := 0xc0000
def R.SSM2_CMD : Nat := 0xc0002
def R.SSM2_DISC : Nat := 0xc0003
def R.SSM2_FLAGS : Nat := 0xc0004
def R.SSM2_FLAG_CNT0 : Nat := 0xc0005
def R.SSM2_FLAG_CNT1 : Nat := 0xc0006
def R.SSM2_FLAG_CNT2 : Nat := 0xc0007
def R.SSM2_EVMASK : Nat := 0xc0008
def R.SSM2_ARM_MARGIN (a : Nat) : Nat := 0xc0021 + 0x8 * a
def R.SSM2_ARM_SPEED (a : Nat) : Nat := 0xc0022 + 0x8 * a
def R.CBUS_CFG : Nat := 0x100000
def R.CBUS_MAC_HI : Nat := 0x100001
def R.CBUS_MAC_LO : Nat := 0x100002
def R.CBUS_TXIMG_BASE : Nat := 0x100003
def R.CBUS_IMG_BASE : Nat := 0x100004
def R.CBUS_CH_CFG (c : Nat) : Nat := 0x102000 + 0x2000 * c
def R.CBUS_CH_LAT (c : Nat) : Nat := 0x102001 + 0x2000 * c
def R.CBUS_CH_CMD (c : Nat) : Nat := 0x102002 + 0x2000 * c
def R.CBUS_CH_ARG (c : Nat) : Nat := 0x102003 + 0x2000 * c
def R.CBUS_CH_STATUS (c : Nat) : Nat := 0x102004 + 0x2000 * c
def R.CBUS_CH_FLAGS (c : Nat) : Nat := 0x102005 + 0x2000 * c
def R.CBUS_CH_FLAG_CNT0 (c : Nat) : Nat := 0x102006 + 0x2000 * c
def R.CBUS_CH_FLAG_CNT1 (c : Nat) : Nat := 0x102007 + 0x2000 * c
def R.CBUS_CH_FLAG_CNT2 (c : Nat) : Nat := 0x102008 + 0x2000 * c
def R.CBUS_CH_FLAG_CNT3 (c : Nat) : Nat := 0x102009 + 0x2000 * c
def R.CBUS_CH_EVMASK (c : Nat) : Nat := 0x10200a + 0x2000 * c
def R.CBUS_CH_CNT_MISS (c : Nat) : Nat := 0x10200b + 0x2000 * c
def R.CBUS_CH_CNT_CRC (c : Nat) : Nat := 0x10200c + 0x2000 * c
def R.CBUS_CH_CNT_NULL (c : Nat) : Nat := 0x10200d + 0x2000 * c
def R.CBUS_CH_CNT_NOTREADY (c : Nat) : Nat := 0x10200e + 0x2000 * c
def R.CBUS_STN_DELAY (c : Nat) (k : Nat) : Nat := 0x102020 + 0x2000 * c + 0x4 * k
def R.CBUS_STN_MEAS (c : Nat) (k : Nat) : Nat := 0x102021 + 0x2000 * c + 0x4 * k
def R.CBUS_STN_STATUS (c : Nat) (k : Nat) : Nat := 0x102022 + 0x2000 * c + 0x4 * k
def R.CBUS_STN_ID (c : Nat) (k : Nat) : Nat := 0x102023 + 0x2000 * c + 0x4 * k
def R.CBUS_SLOT_TIME (c : Nat) (b : Nat) (s : Nat) : Nat := 0x102200 + 0x2000 * c + 0x400 * b + 0x4 * s
def R.CBUS_SLOT_CFG (c : Nat) (b : Nat) (s : Nat) : Nat := 0x102201 + 0x2000 * c + 0x400 * b + 0x4 * s
def R.CBUS_SLOT_TX (c : Nat) (b : Nat) (s : Nat) : Nat := 0x102202 + 0x2000 * c + 0x400 * b + 0x4 * s
def R.CBUS_SLOT_RX (c : Nat) (b : Nat) (s : Nat) : Nat := 0x102203 + 0x2000 * c + 0x400 * b + 0x4 * s
def R.CBUS_TXMAP (c : Nat) (b : Nat) (e : Nat) : Nat := 0x103000 + 0x2000 * c + 0x800 * b + 0x1 * e
def R.FED_CFG : Nat := 0x120000
def R.FED_EXCH_CFG : Nat := 0x120001
def R.FED_CLOCK_ID_HI : Nat := 0x120002
def R.FED_CLOCK_ID_LO : Nat := 0x120003
def R.FED_FLAGS : Nat := 0x120004
def R.FED_FLAG_CNT0 : Nat := 0x120005
def R.FED_FLAG_CNT1 : Nat := 0x120006
def R.FED_FLAG_CNT2 : Nat := 0x120007
def R.FED_EVMASK : Nat := 0x120008
def R.FED_PORT_CFG (f : Nat) : Nat := 0x120200 + 0x20 * f
def R.FED_PORT_MAC_HI (f : Nat) : Nat := 0x120201 + 0x20 * f
def R.FED_PORT_MAC_LO (f : Nat) : Nat := 0x120202 + 0x20 * f
def R.FED_PORT_IP (f : Nat) : Nat := 0x120203 + 0x20 * f
def R.FED_PORT_LAT (f : Nat) : Nat := 0x120204 + 0x20 * f
def R.FED_PORT_ASYM (f : Nat) : Nat := 0x120205 + 0x20 * f
def R.FED_PORT_STATUS (f : Nat) : Nat := 0x120206 + 0x20 * f
def R.FED_PORT_FLAGS (f : Nat) : Nat := 0x120207 + 0x20 * f
def R.FED_PORT_FLAG_CNT (f : Nat) : Nat := 0x120208 + 0x20 * f
def R.FED_PORT_EVMASK (f : Nat) : Nat := 0x120209 + 0x20 * f
def R.FED_PTP_CFG (i : Nat) : Nat := 0x122000 + 0x40 * i
def R.FED_PTP_DS (i : Nat) : Nat := 0x122001 + 0x40 * i
def R.FED_PTP_VAR (i : Nat) : Nat := 0x122002 + 0x40 * i
def R.FED_PTP_SERVO (i : Nat) : Nat := 0x122003 + 0x40 * i
def R.FED_PTP_CMD (i : Nat) : Nat := 0x122004 + 0x40 * i
def R.FED_PTP_STATUS (i : Nat) : Nat := 0x122005 + 0x40 * i
def R.FED_PTP_OFS (i : Nat) : Nat := 0x122006 + 0x40 * i
def R.FED_PTP_DELAY (i : Nat) : Nat := 0x122007 + 0x40 * i
def R.FED_PTP_RATE (i : Nat) : Nat := 0x122008 + 0x40 * i
def R.FED_PTP_GM_HI (i : Nat) : Nat := 0x122009 + 0x40 * i
def R.FED_PTP_GM_LO (i : Nat) : Nat := 0x12200a + 0x40 * i
def R.FED_PTP_TIME (i : Nat) : Nat := 0x12200b + 0x40 * i
def R.FED_PTP_TIME_HI (i : Nat) : Nat := 0x12200c + 0x40 * i
def R.FED_PTP_FLAGS (i : Nat) : Nat := 0x12200d + 0x40 * i
def R.FED_PTP_FLAG_CNT0 (i : Nat) : Nat := 0x12200e + 0x40 * i
def R.FED_PTP_FLAG_CNT1 (i : Nat) : Nat := 0x12200f + 0x40 * i
def R.FED_PTP_EVMASK (i : Nat) : Nat := 0x122010 + 0x40 * i
def R.FED_PEER_CFG (k : Nat) : Nat := 0x124000 + 0x8 * k
def R.FED_PEER_ARMS (k : Nat) : Nat := 0x124001 + 0x8 * k
def R.FED_PEER_MAC_HI (k : Nat) : Nat := 0x124002 + 0x8 * k
def R.FED_PEER_MAC_LO (k : Nat) : Nat := 0x124003 + 0x8 * k
def R.FED_PEER_STATUS (k : Nat) : Nat := 0x124004 + 0x8 * k
def R.FED_PEER_LAYER (k : Nat) : Nat := 0x124005 + 0x8 * k
def R.TIM_SRC : Nat := 0x80000
def R.TIM_CMD : Nat := 0x80001
def R.TIM_STATUS : Nat := 0x80002
def R.TIM_RATE : Nat := 0x80003
def R.TIM_NOW : Nat := 0x80004
def R.TIM_NOW_HI : Nat := 0x80005
def R.TIM_CAL : Nat := 0x80006
def R.TIM_CAL_HI : Nat := 0x80007
def R.TIM_CAL_SET : Nat := 0x80008
def R.TIM_CAL_SET_HI : Nat := 0x80009
def R.TIM_PPS_IN : Nat := 0x8000a
def R.TIM_PPS_IN_HI : Nat := 0x8000b
def R.TIM_CAL_TRIM : Nat := 0x8000c
def R.TIM_UTC : Nat := 0x8000d
def R.TIM_PPS_CFG : Nat := 0x8000e
def R.TIM_FLAGS : Nat := 0x8000f
def R.TIM_FLAG_CNT0 : Nat := 0x80010
def R.TIM_FLAG_CNT1 : Nat := 0x80011
def R.TIM_EVMASK : Nat := 0x80012
def R.RED_CFG : Nat := 0x60000
def R.RED_SWAP_PERIOD : Nat := 0x60001
def R.RED_SWAP_PAT_LO : Nat := 0x60002
def R.RED_SWAP_PAT_HI : Nat := 0x60003
def R.RED_CMD : Nat := 0x60004
def R.RED_STATUS : Nat := 0x60005
def R.RED_EPOCH : Nat := 0x60006
def R.RED_PLANE (q : Nat) : Nat := 0x60008 + 0x1 * q
def R.RED_LAST_SW : Nat := 0x6000a
def R.RED_REJECT (s : Nat) : Nat := 0x6000c + 0x1 * s
def R.RED_HEALTH (q : Nat) : Nat := 0x60010 + 0x1 * q
def R.RED_FLAGS : Nat := 0x60012
def R.RED_FLAG_CNT0 : Nat := 0x60013
def R.RED_FLAG_CNT1 : Nat := 0x60014
def R.RED_FLAG_CNT2 : Nat := 0x60015
def R.RED_FLAG_CNT3 : Nat := 0x60016
def R.RED_EVMASK : Nat := 0x60017
def R.XLK_STATUS : Nat := 0x720000
def R.XLK_BUDGET : Nat := 0x720001
def R.XLK_COPY : Nat := 0x720002
def R.XLK_COPY_MAX : Nat := 0x720003
def R.XLK_RESYNC : Nat := 0x720004
def R.XLK_UNDO : Nat := 0x720005
def R.XLK_FLUSH : Nat := 0x720006
def R.XLK_FLUSH_MAX : Nat := 0x720007
def R.XLK_RETRY : Nat := 0x720008
def R.XLK_FLAGS : Nat := 0x720009
def R.XLK_FLAG_CNT0 : Nat := 0x72000a
def R.XLK_FLAG_CNT1 : Nat := 0x72000b
def R.XLK_EVMASK : Nat := 0x72000c
def R.PLANE_ID : Nat := 0x600000
def R.PLANE_STATUS : Nat := 0x600001
def R.PLANE_EPOCH : Nat := 0x600002
def R.PLANE_MCHK : Nat := 0x600003
def R.PLANE_CMD : Nat := 0x600004
def R.PLANE_FLAGS : Nat := 0x600005
def R.PLANE_FLAG_CNT : Nat := 0x600006
def R.PLANE_REPL_BASE (g : Nat) : Nat := 0x600020 + 0x2 * g
def R.PLANE_REPL_SIZE (g : Nat) : Nat := 0x600021 + 0x2 * g
def R.PLANE_REPL_TOTAL : Nat := 0x600040
def R.SCH_CFG : Nat := 0x620000
def R.SCH_STATUS : Nat := 0x620001
def R.SCH_CMD : Nat := 0x620002
def R.SCH_POST : Nat := 0x620003
def R.SCH_POST_ARG : Nat := 0x620004
def R.SCH_POSTQ : Nat := 0x620005
def R.SCH_POST_STALL : Nat := 0x620006
def R.SCH_POST_DISC : Nat := 0x620007
def R.SCH_GRAPH_STATUS : Nat := 0x620008
def R.SCH_GRAPH_TIME : Nat := 0x620009
def R.SCH_FLAGS : Nat := 0x62000a
def R.SCH_FLAG_CNT0 : Nat := 0x62000b
def R.SCH_FLAG_CNT1 : Nat := 0x62000c
def R.SCH_FLAG_CNT2 : Nat := 0x62000d
def R.SCH_EVMASK : Nat := 0x62000e
def R.SCH_PRIO_DEPTH (q : Nat) : Nat := 0x620020 + 0x1 * q
def R.SCH_CORE_STATUS (k : Nat) : Nat := 0x620080 + 0x4 * k
def R.SCH_CORE_LOAD (k : Nat) : Nat := 0x620081 + 0x4 * k
def R.SCH_CORE_DISP (k : Nat) : Nat := 0x620082 + 0x4 * k
def R.SCH_CORE_DISP_CAP (k : Nat) : Nat := 0x620083 + 0x4 * k
def R.SCH_THR_CFG (t : Nat) : Nat := 0x622000 + 0x8 * t
def R.SCH_THR_STATUS (t : Nat) : Nat := 0x622001 + 0x8 * t
def R.SCH_THR_WAIT (t : Nat) : Nat := 0x622002 + 0x8 * t
def R.SCH_THR_WAIT_MAX (t : Nat) : Nat := 0x622003 + 0x8 * t
def R.SCH_THR_DISP (t : Nat) : Nat := 0x622004 + 0x8 * t
def R.CST_CFG : Nat := 0x660000
def R.CST_STATUS : Nat := 0x660001
def R.CST_CE_CNT : Nat := 0x660002
def R.CST_UE_CNT : Nat := 0x660003
def R.CST_STALL_RT : Nat := 0x660004
def R.CST_STALL_BULK : Nat := 0x660005
def R.CST_ERR_ADDR : Nat := 0x660006
def R.CST_SCRUB : Nat := 0x660007
def R.CST_FLAGS : Nat := 0x660008
def R.CST_FLAG_CNT0 : Nat := 0x660009
def R.CST_FLAG_CNT1 : Nat := 0x66000a
def R.CST_EVMASK : Nat := 0x66000b
def R.CST_SPARE (r : Nat) : Nat := 0x660020 + 0x1 * r
def R.DMA_STATUS : Nat := 0x640000
def R.DMA_STALL : Nat := 0x640001
def R.DMA_CH_CFG (c : Nat) : Nat := 0x642000 + 0x8 * c
def R.DMA_CH_RING (c : Nat) : Nat := 0x642001 + 0x8 * c
def R.DMA_CH_CMD (c : Nat) : Nat := 0x642002 + 0x8 * c
def R.DMA_CH_STATUS (c : Nat) : Nat := 0x642003 + 0x8 * c
def R.DMA_CH_PROGRESS (c : Nat) : Nat := 0x642004 + 0x8 * c
def R.DMA_CH_REQ (c : Nat) : Nat := 0x642005 + 0x8 * c
def R.DMA_CH_FLAGS (c : Nat) : Nat := 0x642006 + 0x8 * c
def R.DMA_CH_FLAG_CNT0 (c : Nat) : Nat := 0x644000 + 0x4 * c
def R.DMA_CH_FLAG_CNT1 (c : Nat) : Nat := 0x644001 + 0x4 * c
def R.DMA_CH_FLAG_CNT2 (c : Nat) : Nat := 0x644002 + 0x4 * c
def R.DMA_CH_EVMASK (c : Nat) : Nat := 0x642007 + 0x8 * c
def R.FIO_CFG : Nat := 0x140000
def R.FIO_CMD : Nat := 0x140001
def R.FIO_STATUS : Nat := 0x140002
def R.FIO_FLAGS : Nat := 0x140003
def R.FIO_FLAG_CNT0 : Nat := 0x140004
def R.FIO_FLAG_CNT1 : Nat := 0x140005
def R.FIO_FLAG_CNT2 : Nat := 0x140006
def R.FIO_EVMASK : Nat := 0x140007
def R.FIO_IMG_BASE : Nat := 0x140008
def R.FIO_PICOT_BASE : Nat := 0x140009
def R.FIO_PICOT_CFG : Nat := 0x14000a
def R.FIO_PICOT_WR : Nat := 0x14000b
def R.FIO_GRP_CFG (g : Nat) : Nat := 0x140020 + 0x1 * g
def R.FIO_DI_CFG (k : Nat) : Nat := 0x140200 + 0x4 * k
def R.FIO_DI_STATUS (k : Nat) : Nat := 0x140201 + 0x4 * k
def R.FIO_DI_FLAGS (k : Nat) : Nat := 0x140202 + 0x4 * k
def R.FIO_DI_FLAG_CNT (k : Nat) : Nat := 0x140203 + 0x4 * k
def R.FIO_DO_CFG (k : Nat) : Nat := 0x140400 + 0x8 * k
def R.FIO_DO_STATUS (k : Nat) : Nat := 0x140401 + 0x8 * k
def R.FIO_DO_CMD (k : Nat) : Nat := 0x140402 + 0x8 * k
def R.FIO_DO_FLAGS (k : Nat) : Nat := 0x140403 + 0x8 * k
def R.FIO_DO_FLAG_CNT0 (k : Nat) : Nat := 0x140404 + 0x8 * k
def R.FIO_DO_FLAG_CNT1 (k : Nat) : Nat := 0x140405 + 0x8 * k
def R.FIO_DO_EVMASK (k : Nat) : Nat := 0x140406 + 0x8 * k
def R.BOOT_STATUS : Nat := 0x40000
def R.BOOT_T_CYCLE : Nat := 0x40001
def R.BOOT_T_READY : Nat := 0x40002
def R.BOOT_SEL : Nat := 0x40003
def R.BOOT_IMAGE : Nat := 0x40004
def R.BOOT_IMAGE_ID_HI : Nat := 0x40005
def R.BOOT_IMAGE_ID_LO : Nat := 0x40006
def R.BOOT_FLAGS : Nat := 0x40007
def R.BOOT_FLAG_CNT0 : Nat := 0x40008
def R.BOOT_FLAG_CNT1 : Nat := 0x40009
def R.BOOT_FLAG_CNT2 : Nat := 0x4000a
def R.BOOT_EVMASK : Nat := 0x4000b
def R.BOOT_LANE (l : Nat) (d : Nat) : Nat := 0x40020 + 0x2 * l + 0x1 * d
def R.BOOT_FLASH_ADDR : Nat := 0x40040
def R.BOOT_FLASH_CMD : Nat := 0x40041
def R.BOOT_FLASH_BUF (k : Nat) : Nat := 0x40080 + 0x1 * k
def R.BOOT_MEAS (m : Nat) (k : Nat) : Nat := 0x40200 + 0x10 * m + 0x1 * k
def R.SEC_OTP : Nat := 0x40400
def R.SEC_SERIAL_HI : Nat := 0x40401
def R.SEC_SERIAL_LO : Nat := 0x40402
def R.SEC_CMD : Nat := 0x40403
def R.SEC_STATUS : Nat := 0x40404
def R.SEC_DATA (k : Nat) : Nat := 0x40420 + 0x1 * k
def R.SEC_CERT_LEN : Nat := 0x40440
def R.SEC_RPT (k : Nat) : Nat := 0x40800 + 0x1 * k
def R.SEC_CERT (k : Nat) : Nat := 0x40c00 + 0x1 * k
def R.BEL_DOM_CFG (d : Nat) : Nat := 0xa0000 + 0x4 * d
def R.BEL_DOM_STATUS (d : Nat) : Nat := 0xa0001 + 0x4 * d
def R.BEL_DOM_EXITS (d : Nat) : Nat := 0xa0002 + 0x4 * d
def R.BEL_DOM_WAIT_MAX (d : Nat) : Nat := 0xa0003 + 0x4 * d
def R.BEL_LTR : Nat := 0xa0040
def R.BEL_THERM (d : Nat) : Nat := 0xa0060 + 0x1 * d
def R.BEL_THERM_CFG : Nat := 0xa0068
def R.BEL_FLAGS : Nat := 0xa0080
def R.BEL_FLAG_CNT : Nat := 0xa0081
def R.BEL_EVMASK : Nat := 0xa0082
def R.EVM_ROUTE (s : Nat) : Nat := 0x20000 + 0x1 * s
def R.EVM_SRC_CNT (s : Nat) : Nat := 0x20100 + 0x1 * s
def R.EVM_VEC_CFG (v : Nat) : Nat := 0x20200 + 0x1 * v
def R.EVM_VEC_CNT (v : Nat) : Nat := 0x20240 + 0x1 * v
def R.EVM_STATUS : Nat := 0x20280
def R.EVM_FLAGS : Nat := 0x20281
def R.EVM_FLAG_CNT : Nat := 0x20282
def R.EVM_EVMASK : Nat := 0x20283
def R.RDB_CMD : Nat := 0x7e0000
def R.RDB_SNAP_CFG : Nat := 0x7e0001
def R.RDB_SNAP_DST : Nat := 0x7e0002
def R.RDB_STATUS : Nat := 0x7e0003
def R.RDB_FLAGS : Nat := 0x7e0004
def R.RDB_FLAG_CNT : Nat := 0x7e0005
def R.RDB_EVMASK : Nat := 0x7e0006
def R.RDB_RL_SEL : Nat := 0x7e0020
def R.RDB_RL_ENTRY (k : Nat) : Nat := 0x7e0100 + 0x1 * k
def R.RDB_PQ_ENTRY (k : Nat) : Nat := 0x7e0800 + 0x2 * k
def R.RDB_PQ_PAYLOAD (k : Nat) : Nat := 0x7e0801 + 0x2 * k
def R.RDB_BUF (k : Nat) : Nat := 0x7f0000 + 0x1 * k
def R.HIF_ID : Nat := 0x0
def R.HIF_CAP : Nat := 0x1
def R.HIF_MAP : Nat := 0x2
def R.HIF_LINK : Nat := 0x3
def R.HIF_NP_STALL : Nat := 0x4
def R.HIF_WR_DISC : Nat := 0x5
def R.HIF_BAD_ADDR : Nat := 0x6
def R.HIF_FLAGS : Nat := 0x7
def R.HIF_FLAG_CNT0 : Nat := 0x8
def R.HIF_FLAG_CNT1 : Nat := 0x9
def R.HIF_EVMASK : Nat := 0xa

/-! The fields of every register. -/

def F.TIM_CYC_PERIOD_PERIOD_Q : Fld := ⟨13, 0⟩
def F.TIM_CYC_PHASE_PHASE_Q : Fld := ⟨13, 0⟩
def F.TIM_CYC_SYNC_OFS_VALUE : Fld := ⟨21, 0⟩
def F.TIM_CYC_FB_DEADLINE_VALUE : Fld := ⟨21, 0⟩
def F.TIM_CYC_SOLVE_DEADLINE_VALUE : Fld := ⟨21, 0⟩
def F.TIM_CYC_COMMIT_OFS_VALUE : Fld := ⟨21, 0⟩
def F.TIM_CYC_APPLY_OFS_VALUE : Fld := ⟨21, 0⟩
def F.TIM_CYC_CMD_CODE : Fld := ⟨3, 0⟩
def F.TIM_CYC_STATUS_STATE : Fld := ⟨35, 34⟩
def F.TIM_CYC_STATUS_PHASE : Fld := ⟨33, 32⟩
def F.TIM_CYC_STATUS_REFUSE : Fld := ⟨31, 28⟩
def F.TIM_CYC_STATUS_LAST_ISLAND : Fld := ⟨27, 22⟩
def F.TIM_CYC_STATUS_STEP_DEFERRED : Fld := ⟨0, 0⟩
def F.TIM_CYC_FLAGS_EVP_RANGE : Fld := ⟨7, 7⟩
def F.TIM_CYC_FLAGS_DISPATCH_LATE : Fld := ⟨6, 6⟩
def F.TIM_CYC_FLAGS_ENGINE_LATE : Fld := ⟨5, 5⟩
def F.TIM_CYC_FLAGS_FB_LATE : Fld := ⟨4, 4⟩
def F.TIM_CYC_FLAGS_TIME_STEPPED : Fld := ⟨3, 3⟩
def F.TIM_CYC_FLAGS_CMD_REFUSED : Fld := ⟨2, 2⟩
def F.TIM_CYC_FLAGS_TIME_LOST : Fld := ⟨1, 1⟩
def F.TIM_CYC_FLAGS_BEACON_MISS : Fld := ⟨0, 0⟩
def F.TIM_CYC_FLAG_CNT0_COUNT : Fld := ⟨31, 0⟩
def F.TIM_CYC_NUM_NUM : Fld := ⟨35, 0⟩
def F.TIM_CYC_NUM_HI_NUM : Fld := ⟨35, 0⟩
def F.TIM_CYC_CT0_CT0 : Fld := ⟨35, 0⟩
def F.TIM_CYC_CT0_HI_CT0 : Fld := ⟨35, 0⟩
def F.TIM_CYC_ACT_PERIOD_VALUE : Fld := ⟨21, 0⟩
def F.TIM_CYC_ACT_PHASE_VALUE : Fld := ⟨21, 0⟩
def F.TIM_CYC_ACT_SYNC_OFS_VALUE : Fld := ⟨21, 0⟩
def F.TIM_CYC_ACT_FB_DEADLINE_VALUE : Fld := ⟨21, 0⟩
def F.TIM_CYC_ACT_SOLVE_DEADLINE_VALUE : Fld := ⟨21, 0⟩
def F.TIM_CYC_ACT_COMMIT_OFS_VALUE : Fld := ⟨21, 0⟩
def F.TIM_CYC_ACT_APPLY_OFS_VALUE : Fld := ⟨21, 0⟩
def F.TIM_CYC_EVP_EN : Fld := ⟨35, 35⟩
def F.TIM_CYC_EVP_DIV : Fld := ⟨34, 32⟩
def F.TIM_CYC_EVP_SEL_PHASE : Fld := ⟨31, 26⟩
def F.TIM_CYC_EVP_OFFSET_NS : Fld := ⟨21, 0⟩
def F.PLN_Q_BASE_ADDR : Fld := ⟨35, 0⟩
def F.PLN_Q_CFG_AUTOSTART : Fld := ⟨15, 15⟩
def F.PLN_Q_CFG_HL4060 : Fld := ⟨14, 14⟩
def F.PLN_Q_CFG_CKP_FULL : Fld := ⟨13, 13⟩
def F.PLN_Q_CFG_SRC : Fld := ⟨8, 8⟩
def F.PLN_Q_CFG_SIZE_LOG2 : Fld := ⟨4, 0⟩
def F.PLN_Q_WR_COUNT : Fld := ⟨31, 0⟩
def F.PLN_Q_FETCH_COUNT : Fld := ⟨31, 0⟩
def F.PLN_Q_REACH_COUNT : Fld := ⟨31, 0⟩
def F.PLN_Q_STATUS_STATE : Fld := ⟨35, 33⟩
def F.PLN_Q_STATUS_WAIT : Fld := ⟨32, 29⟩
def F.PLN_Q_STATUS_REFUSE : Fld := ⟨28, 25⟩
def F.PLN_Q_STATUS_CFG_PENDING : Fld := ⟨24, 24⟩
def F.PLN_Q_STATUS_AT_REST : Fld := ⟨23, 23⟩
def F.PLN_Q_STATUS_LOOKAHEAD : Fld := ⟨22, 12⟩
def F.PLN_Q_TAG_TRIGS : Fld := ⟨22, 16⟩
def F.PLN_Q_TAG_TAG : Fld := ⟨15, 0⟩
def F.PLN_Q_MARK_VALUE : Fld := ⟨35, 0⟩
def F.PLN_Q_CMD_CODE : Fld := ⟨3, 0⟩
def F.PLN_Q_ARG_ADDR : Fld := ⟨35, 0⟩
def F.PLN_Q_FLAGS_CMD_REFUSED : Fld := ⟨13, 13⟩
def F.PLN_Q_FLAGS_SRC_REFUSED : Fld := ⟨12, 12⟩
def F.PLN_Q_FLAGS_WR_RANGE : Fld := ⟨11, 11⟩
def F.PLN_Q_FLAGS_AHEAD_FAULT : Fld := ⟨10, 10⟩
def F.PLN_Q_FLAGS_TRIG_LATE : Fld := ⟨9, 9⟩
def F.PLN_Q_FLAGS_TRIG_CLIPPED : Fld := ⟨8, 8⟩
def F.PLN_Q_FLAGS_ZONE_NOT_HELD : Fld := ⟨7, 7⟩
def F.PLN_Q_FLAGS_LIMIT_CLAMPED : Fld := ⟨6, 6⟩
def F.PLN_Q_FLAGS_CKP_LOST : Fld := ⟨5, 5⟩
def F.PLN_Q_FLAGS_CKP_WRITTEN : Fld := ⟨4, 4⟩
def F.PLN_Q_FLAGS_STARVED : Fld := ⟨3, 3⟩
def F.PLN_Q_FLAGS_ENDED : Fld := ⟨2, 2⟩
def F.PLN_Q_FLAGS_FAULT : Fld := ⟨1, 1⟩
def F.PLN_Q_FLAGS_STITCH_EVENT : Fld := ⟨0, 0⟩
def F.PLN_Q_FLAG_CNT0_COUNT : Fld := ⟨31, 0⟩
def F.PLN_Q_EVMASK_EN : Fld := ⟨13, 0⟩
def F.PLN_Q_FAULT_CODE : Fld := ⟨23, 16⟩
def F.PLN_Q_FAULT_TAG : Fld := ⟨15, 0⟩
def F.PLN_Q_AHEAD_CODE : Fld := ⟨23, 16⟩
def F.PLN_Q_AHEAD_TAG : Fld := ⟨15, 0⟩
def F.PLN_Q_FAULT_POS_COUNT : Fld := ⟨31, 0⟩
def F.PLN_Q_AHEAD_POS_COUNT : Fld := ⟨31, 0⟩
def F.PLN_Q_RESUME_TOL_TMO_S : Fld := ⟨35, 24⟩
def F.PLN_Q_RESUME_TOL_TOL : Fld := ⟨23, 0⟩
def F.PLN_CKP_BASE_ADDR : Fld := ⟨35, 0⟩
def F.PLN_CKP_CFG_SIZE_LOG2 : Fld := ⟨3, 0⟩
def F.PLN_CKP_WR_COUNT : Fld := ⟨31, 0⟩
def F.PLN_CKP_RD_COUNT : Fld := ⟨31, 0⟩
def F.PLN_FLAGS_BZ_CONFIG : Fld := ⟨0, 0⟩
def F.PLN_FLAG_CNT_BZ_CONFIG : Fld := ⟨7, 0⟩
def F.PLN_TGT_BASE_ADDR : Fld := ⟨35, 0⟩
def F.PLN_ZONE_HELD : Fld := ⟨35, 35⟩
def F.PLN_ZONE_PEER : Fld := ⟨34, 34⟩
def F.PLN_ZONE_WAITERS : Fld := ⟨33, 29⟩
def F.PLN_ZONE_ARM : Fld := ⟨3, 0⟩
def F.PLN_BZ_CFG_EN : Fld := ⟨35, 35⟩
def F.PLN_BZ_CFG_PEER_ID : Fld := ⟨27, 16⟩
def F.PLN_BZ_CFG_PEER_BZ : Fld := ⟨11, 8⟩
def F.PLN_BZ_CFG_TIMEOUT : Fld := ⟨7, 0⟩
def F.PLN_PROC_CFG_OFF_ON_STOP : Fld := ⟨35, 35⟩
def F.PLN_PROC_CFG_LEAD : Fld := ⟨19, 0⟩
def F.PLN_ARM_OVR_OVR : Fld := ⟨35, 0⟩
def F.PLN_ARM_SCALE_CFG_T_UP : Fld := ⟨31, 16⟩
def F.PLN_ARM_SCALE_CFG_T_DOWN : Fld := ⟨15, 0⟩
def F.PLN_ARM_CFG_ZLEAD : Fld := ⟨35, 24⟩
def F.PLN_ARM_CFG_ZPRIO : Fld := ⟨3, 0⟩
def F.PLN_ARM_SCALE_VALUE : Fld := ⟨35, 0⟩
def F.PLN_ARM_SSM_VALUE : Fld := ⟨35, 0⟩
def F.PLN_ARM_COUPLE_VALUE : Fld := ⟨35, 0⟩
def F.PLN_ARM_INHIBIT_FB_LOST : Fld := ⟨1, 1⟩
def F.PLN_ARM_INHIBIT_SLV_LATE : Fld := ⟨0, 0⟩
def F.PLN_ARM_PROF_SPEED : Fld := ⟨35, 0⟩
def F.PLN_ARM_PATH_SPEED : Fld := ⟨35, 0⟩
def F.PLN_ARM_ZHELD0_MASK : Fld := ⟨35, 0⟩
def F.PLN_ARM_ZHELD1_MASK : Fld := ⟨35, 0⟩
def F.PLN_ARM_ZHELD2_MASK : Fld := ⟨35, 0⟩
def F.PLN_ARM_ZWAIT_VALID : Fld := ⟨7, 7⟩
def F.PLN_ARM_ZWAIT_ZONE : Fld := ⟨6, 0⟩
def F.PLN_ARM_FLAGS_BZ_LINK : Fld := ⟨7, 7⟩
def F.PLN_ARM_FLAGS_PARAM_REFUSED : Fld := ⟨6, 6⟩
def F.PLN_ARM_FLAGS_ZONE_STOP : Fld := ⟨5, 5⟩
def F.PLN_ARM_FLAGS_ZONE_GRANTED : Fld := ⟨4, 4⟩
def F.PLN_ARM_FLAGS_PROFILE_LIMITED : Fld := ⟨3, 3⟩
def F.PLN_ARM_FLAGS_INHIBIT : Fld := ⟨2, 2⟩
def F.PLN_ARM_FLAGS_SCALE_ZERO : Fld := ⟨1, 1⟩
def F.PLN_ARM_FLAGS_SYNC_STOP : Fld := ⟨0, 0⟩
def F.PLN_ARM_FLAG_CNT0_COUNT : Fld := ⟨31, 0⟩
def F.PLN_ARM_EVMASK_EN : Fld := ⟨7, 0⟩
def F.SLV_CFG_RELEASE_N : Fld := ⟨12, 8⟩
def F.SLV_CFG_PHASE : Fld := ⟨4, 4⟩
def F.SLV_CFG_DIV : Fld := ⟨0, 0⟩
def F.SLV_CMD_CODE : Fld := ⟨3, 0⟩
def F.SLV_ARG_ADDR : Fld := ⟨35, 0⟩
def F.SLV_STATUS_MOTION : Fld := ⟨35, 34⟩
def F.SLV_STATUS_DYN : Fld := ⟨33, 32⟩
def F.SLV_STATUS_REFUSE : Fld := ⟨31, 28⟩
def F.SLV_STATUS_OUTCOME : Fld := ⟨27, 24⟩
def F.SLV_STATUS_ITER_DONE : Fld := ⟨23, 22⟩
def F.SLV_STATUS_ITER_PUB : Fld := ⟨21, 20⟩
def F.SLV_STATUS_LATE_RUN : Fld := ⟨19, 15⟩
def F.SLV_STATUS_SERVED_RUN : Fld := ⟨14, 10⟩
def F.SLV_STATUS_INHIBIT : Fld := ⟨9, 9⟩
def F.SLV_STATUS_FIRST_PENDING : Fld := ⟨8, 8⟩
def F.SLV_FLAGS_PARAM_CLAMP : Fld := ⟨9, 9⟩
def F.SLV_FLAGS_WINDOW_SHORT : Fld := ⟨8, 8⟩
def F.SLV_FLAGS_CMD_REFUSED : Fld := ⟨7, 7⟩
def F.SLV_FLAGS_ACTIVATED : Fld := ⟨6, 6⟩
def F.SLV_FLAGS_INHIBIT : Fld := ⟨5, 5⟩
def F.SLV_FLAGS_DYN_LATE : Fld := ⟨4, 4⟩
def F.SLV_FLAGS_SAT : Fld := ⟨3, 3⟩
def F.SLV_FLAGS_PIVOT : Fld := ⟨2, 2⟩
def F.SLV_FLAGS_REJECT : Fld := ⟨1, 1⟩
def F.SLV_FLAGS_LATE : Fld := ⟨0, 0⟩
def F.SLV_FLAG_CNT0_COUNT : Fld := ⟨31, 0⟩
def F.SLV_EVMASK_EN : Fld := ⟨9, 0⟩
def F.SLV_RES_BASE_ADDR : Fld := ⟨35, 0⟩
def F.SLV_PARAM_BASE_ADDR : Fld := ⟨35, 0⟩
def F.SLV_RES_SEL_SEL : Fld := ⟨0, 0⟩
def F.SLV_PARAM_SEL_SEL : Fld := ⟨0, 0⟩
def F.SLV_FREEZE_MASK : Fld := ⟨31, 0⟩
def F.SLV_PIV_LOG_CYCLE : Fld := ⟨35, 20⟩
def F.SLV_PIV_LOG_COL : Fld := ⟨10, 0⟩
def F.SLV_SAT_LOG_CYCLE : Fld := ⟨35, 21⟩
def F.SLV_SAT_LOG_OP : Fld := ⟨20, 0⟩
def F.SLV_ID_M0_ID : Fld := ⟨35, 0⟩
def F.SLV_ID_M1_ID : Fld := ⟨35, 0⟩
def F.SLV_ID_D0_ID : Fld := ⟨35, 0⟩
def F.SLV_ID_D1_ID : Fld := ⟨35, 0⟩
def F.SLV_LIVE_EN0_EN : Fld := ⟨31, 0⟩
def F.SLV_LIVE_EN1_EN : Fld := ⟨31, 0⟩
def F.SLV_LIVE_VALUE : Fld := ⟨35, 0⟩
def F.EST_CFG_APPLY_AT_LAYER : Fld := ⟨16, 16⟩
def F.EST_CFG_BLEND_N : Fld := ⟨15, 0⟩
def F.EST_CMD_CODE : Fld := ⟨3, 0⟩
def F.EST_ARG_ADDR : Fld := ⟨35, 0⟩
def F.EST_SUB_BASE_ADDR : Fld := ⟨35, 0⟩
def F.EST_SUB_CFG_SIZE_LOG2 : Fld := ⟨2, 0⟩
def F.EST_SUB_WR_COUNT : Fld := ⟨31, 0⟩
def F.EST_SUB_RD_COUNT : Fld := ⟨31, 0⟩
def F.EST_JOB_STATE : Fld := ⟨35, 34⟩
def F.EST_JOB_ITER : Fld := ⟨33, 28⟩
def F.EST_JOB_ACCEPTED : Fld := ⟨27, 22⟩
def F.EST_JOB_LAMBDA_EXP : Fld := ⟨21, 14⟩
def F.EST_JOB_REFUSE : Fld := ⟨13, 10⟩
def F.EST_JOB_ADDR_ADDR : Fld := ⟨35, 0⟩
def F.EST_LAST_STATUS : Fld := ⟨35, 32⟩
def F.EST_LAST_CHECK : Fld := ⟨31, 28⟩
def F.EST_LAST_REASON : Fld := ⟨27, 24⟩
def F.EST_LAST_TAG : Fld := ⟨15, 0⟩
def F.EST_STALL_COUNT : Fld := ⟨35, 0⟩
def F.EST_CAL_BASE_ADDR : Fld := ⟨35, 0⟩
def F.EST_CAL_PENDING : Fld := ⟨35, 35⟩
def F.EST_CAL_BLENDING : Fld := ⟨34, 34⟩
def F.EST_CAL_BLEND_K : Fld := ⟨33, 18⟩
def F.EST_CAL_GEN_GEN : Fld := ⟨35, 0⟩
def F.EST_OBS_BASE_ADDR : Fld := ⟨35, 0⟩
def F.EST_OBS_CFG_SIZE_LOG2 : Fld := ⟨4, 0⟩
def F.EST_OBS_WR_COUNT : Fld := ⟨31, 0⟩
def F.EST_OBS_REJ_COUNT : Fld := ⟨31, 0⟩
def F.EST_FLAGS_CMD_REFUSED : Fld := ⟨12, 12⟩
def F.EST_FLAGS_SUB_RANGE : Fld := ⟨11, 11⟩
def F.EST_FLAGS_SAT : Fld := ⟨10, 10⟩
def F.EST_FLAGS_PIVOT : Fld := ⟨9, 9⟩
def F.EST_FLAGS_OBS_REJECTED : Fld := ⟨8, 8⟩
def F.EST_FLAGS_CAL_DROPPED : Fld := ⟨7, 7⟩
def F.EST_FLAGS_CAL_MISMATCH : Fld := ⟨6, 6⟩
def F.EST_FLAGS_BLEND_DONE : Fld := ⟨5, 5⟩
def F.EST_FLAGS_APPLIED : Fld := ⟨4, 4⟩
def F.EST_FLAGS_PENDING_REPLACED : Fld := ⟨3, 3⟩
def F.EST_FLAGS_PENDING : Fld := ⟨2, 2⟩
def F.EST_FLAGS_JOB_REJECTED : Fld := ⟨1, 1⟩
def F.EST_FLAGS_JOB_DONE : Fld := ⟨0, 0⟩
def F.EST_FLAG_CNT0_COUNT : Fld := ⟨31, 0⟩
def F.EST_EVMASK_EN : Fld := ⟨12, 0⟩
def F.EST_PROBE_CFG_EN : Fld := ⟨35, 35⟩
def F.EST_PROBE_CFG_SRC : Fld := ⟨34, 34⟩
def F.EST_PROBE_CFG_EDGE : Fld := ⟨33, 33⟩
def F.EST_PROBE_CFG_MARK_POINT : Fld := ⟨32, 32⟩
def F.EST_PROBE_CFG_INDEX : Fld := ⟨31, 27⟩
def F.EST_PROBE_CFG_ARM : Fld := ⟨26, 23⟩
def F.EST_PROBE_CFG_SENSOR : Fld := ⟨22, 16⟩
def F.EST_PROBE_CFG_POINT : Fld := ⟨12, 0⟩
def F.CLE_PAR_BASE_ADDR : Fld := ⟨35, 0⟩
def F.CLE_CMD_BASE_ADDR : Fld := ⟨35, 0⟩
def F.CLE_ARM_CFG_STOP_CAT : Fld := ⟨1, 0⟩
def F.CLE_ARM_CMD_CODE : Fld := ⟨3, 0⟩
def F.CLE_ARM_STATUS_STATE : Fld := ⟨35, 34⟩
def F.CLE_ARM_STATUS_CAT : Fld := ⟨33, 32⟩
def F.CLE_ARM_STATUS_SOURCE : Fld := ⟨31, 28⟩
def F.CLE_ARM_STATUS_LOST_CH : Fld := ⟨27, 20⟩
def F.CLE_ARM_STATUS_REFUSE : Fld := ⟨19, 16⟩
def F.CLE_CH_CFG_PARSEL : Fld := ⟨35, 35⟩
def F.CLE_CH_CFG_RATE : Fld := ⟨34, 32⟩
def F.CLE_CH_CFG_PHASE : Fld := ⟨31, 26⟩
def F.CLE_CH_MODE_MODE : Fld := ⟨35, 33⟩
def F.CLE_CH_MODE_SP_SRC : Fld := ⟨32, 32⟩
def F.CLE_CH_STATUS_MODE : Fld := ⟨35, 33⟩
def F.CLE_CH_STATUS_FB_STATE : Fld := ⟨32, 31⟩
def F.CLE_CH_STATUS_CAUSE : Fld := ⟨30, 28⟩
def F.CLE_CH_STATUS_REFUSE : Fld := ⟨27, 24⟩
def F.CLE_CH_STATUS_HOLD_CNT : Fld := ⟨23, 20⟩
def F.CLE_CH_STATUS_RATE : Fld := ⟨19, 17⟩
def F.CLE_CH_STATUS_PHASE : Fld := ⟨16, 11⟩
def F.CLE_CH_STATUS_PAR_ACT : Fld := ⟨10, 10⟩
def F.CLE_CH_STATUS_SP_SRC : Fld := ⟨9, 9⟩
def F.CLE_CH_STATUS_POS_VALID : Fld := ⟨8, 8⟩
def F.CLE_CH_STATUS_VEL_VALID : Fld := ⟨7, 7⟩
def F.CLE_CH_STATUS_SS_ACTIVE : Fld := ⟨6, 6⟩
def F.CLE_CH_STATUS_HO_ACTIVE : Fld := ⟨5, 5⟩
def F.CLE_CH_STATUS_CLAMPED : Fld := ⟨4, 4⟩
def F.CLE_CH_STATUS_STOP_REQ : Fld := ⟨3, 3⟩
def F.CLE_CH_MANUAL_VALUE : Fld := ⟨35, 0⟩
def F.CLE_CH_SP_VALUE : Fld := ⟨35, 0⟩
def F.CLE_CH_FLAGS_MODE_CHANGED : Fld := ⟨12, 12⟩
def F.CLE_CH_FLAGS_VDC_FAULT : Fld := ⟨11, 11⟩
def F.CLE_CH_FLAGS_STOP_DONE : Fld := ⟨10, 10⟩
def F.CLE_CH_FLAGS_SS_DONE : Fld := ⟨9, 9⟩
def F.CLE_CH_FLAGS_PARAM_REFUSED : Fld := ⟨8, 8⟩
def F.CLE_CH_FLAGS_CMD_REFUSED : Fld := ⟨7, 7⟩
def F.CLE_CH_FLAGS_HANDOVER_REFUSED : Fld := ⟨6, 6⟩
def F.CLE_CH_FLAGS_CLAMPED : Fld := ⟨5, 5⟩
def F.CLE_CH_FLAGS_SAT : Fld := ⟨4, 4⟩
def F.CLE_CH_FLAGS_CRC_ERR : Fld := ⟨3, 3⟩
def F.CLE_CH_FLAGS_FEEDBACK_LOST : Fld := ⟨2, 2⟩
def F.CLE_CH_FLAGS_FB_HOLD : Fld := ⟨1, 1⟩
def F.CLE_CH_FLAGS_PREDICTED : Fld := ⟨0, 0⟩
def F.CLE_CH_FLAG_CNT0_COUNT : Fld := ⟨31, 0⟩
def F.CLE_CH_EVMASK_EN : Fld := ⟨12, 0⟩
def F.CLE_CH_EXP_S1 : Fld := ⟨23, 16⟩
def F.CLE_CH_EXP_S2 : Fld := ⟨15, 8⟩
def F.CLE_CH_EXP_S3 : Fld := ⟨7, 0⟩
def F.CLE_CH_MEAS_VALUE : Fld := ⟨35, 0⟩
def F.CLE_CH_VEL_VALUE : Fld := ⟨35, 0⟩
def F.CLE_CH_OUT_VALUE : Fld := ⟨35, 0⟩
def F.PIF_CFG_EN : Fld := ⟨35, 35⟩
def F.PIF_CFG_MODE : Fld := ⟨34, 32⟩
def F.PIF_CFG_INV_DIR : Fld := ⟨31, 31⟩
def F.PIF_CFG_FILT : Fld := ⟨27, 24⟩
def F.PIF_CFG_AVG : Fld := ⟨23, 20⟩
def F.PIF_CFG_PICOT_DIV : Fld := ⟨19, 16⟩
def F.PIF_CFG_PICOT_SEL : Fld := ⟨15, 9⟩
def F.PIF_INC_CFG_MULT : Fld := ⟨35, 34⟩
def F.PIF_INC_CFG_IDX_GATE : Fld := ⟨33, 32⟩
def F.PIF_INC_CFG_DIR_SRC : Fld := ⟨31, 30⟩
def F.PIF_INC_CFG_REF_KIND : Fld := ⟨29, 28⟩
def F.PIF_INC_CFG_MISSING : Fld := ⟨27, 26⟩
def F.PIF_INC_CFG_TEETH_M1 : Fld := ⟨25, 17⟩
def F.PIF_INC_CFG_ILL_NS : Fld := ⟨16, 12⟩
def F.PIF_SC_CFG_INTERP_LOG2 : Fld := ⟨35, 31⟩
def F.PIF_SC_CFG_AMP_N : Fld := ⟨30, 28⟩
def F.PIF_SC_CFG_AMP_HI : Fld := ⟨27, 16⟩
def F.PIF_SC_CFG_AMP_LO : Fld := ⟨15, 4⟩
def F.PIF_SC_OFS_S : Fld := ⟨35, 18⟩
def F.PIF_SC_OFS_C : Fld := ⟨17, 0⟩
def F.PIF_SC_GAIN_S : Fld := ⟨35, 18⟩
def F.PIF_SC_GAIN_C : Fld := ⟨17, 0⟩
def F.PIF_SER_CFG_CLK_DIV : Fld := ⟨35, 22⟩
def F.PIF_SER_CFG_BITS : Fld := ⟨21, 16⟩
def F.PIF_SER_CFG_LEAD : Fld := ⟨15, 12⟩
def F.PIF_SER_CFG_TRAIL : Fld := ⟨11, 8⟩
def F.PIF_SER_CFG_ERR_POS : Fld := ⟨7, 4⟩
def F.PIF_SER_CFG_ERR_POL : Fld := ⟨3, 3⟩
def F.PIF_SER_CFG_GRAY : Fld := ⟨2, 2⟩
def F.PIF_SER_CFG_PARITY : Fld := ⟨1, 0⟩
def F.PIF_SER_CFG2_SIGNED : Fld := ⟨35, 35⟩
def F.PIF_SER_CFG2_ACK_TMO : Fld := ⟨34, 20⟩
def F.PIF_SER_CFG2_CRC_LEN : Fld := ⟨19, 16⟩
def F.PIF_SER_CFG2_CRC_POLY : Fld := ⟨15, 0⟩
def F.PIF_IDX_CPR_CPR : Fld := ⟨35, 0⟩
def F.PIF_IDX_CFG_AUTO_REF : Fld := ⟨35, 35⟩
def F.PIF_IDX_CFG_IDX_WIN : Fld := ⟨23, 0⟩
def F.PIF_CMD_CODE : Fld := ⟨3, 0⟩
def F.PIF_ARG_VALUE : Fld := ⟨35, 0⟩
def F.PIF_ARG_HI_VALUE : Fld := ⟨35, 0⟩
def F.PIF_CNT_VALUE : Fld := ⟨35, 0⟩
def F.PIF_CNT_HI_VALUE : Fld := ⟨35, 0⟩
def F.PIF_IDX_LATCH_VALUE : Fld := ⟨35, 0⟩
def F.PIF_IDX_LATCH_HI_VALUE : Fld := ⟨35, 0⟩
def F.PIF_IDX_REF_VALUE : Fld := ⟨35, 0⟩
def F.PIF_IDX_REF_HI_VALUE : Fld := ⟨35, 0⟩
def F.PIF_STATUS_ACTIVE : Fld := ⟨35, 35⟩
def F.PIF_STATUS_REF_VALID : Fld := ⟨34, 34⟩
def F.PIF_STATUS_VEL_VALID : Fld := ⟨33, 33⟩
def F.PIF_STATUS_DIR : Fld := ⟨32, 32⟩
def F.PIF_STATUS_AMP_BAD : Fld := ⟨31, 31⟩
def F.PIF_STATUS_CLOSED : Fld := ⟨30, 30⟩
def F.PIF_STATUS_REFUSE : Fld := ⟨29, 26⟩
def F.PIF_FLAGS_SER_WARN : Fld := ⟨8, 8⟩
def F.PIF_FLAGS_CMD_REFUSED : Fld := ⟨7, 7⟩
def F.PIF_FLAGS_PICOT_OVF : Fld := ⟨6, 6⟩
def F.PIF_FLAGS_SINCOS_SYNC : Fld := ⟨5, 5⟩
def F.PIF_FLAGS_SER_ERR : Fld := ⟨4, 4⟩
def F.PIF_FLAGS_AMP_ERR : Fld := ⟨3, 3⟩
def F.PIF_FLAGS_INDEX_UNEXPECTED : Fld := ⟨2, 2⟩
def F.PIF_FLAGS_ERR_ILLEGAL : Fld := ⟨1, 1⟩
def F.PIF_FLAGS_INDEX : Fld := ⟨0, 0⟩
def F.PIF_FLAG_CNT0_COUNT : Fld := ⟨31, 0⟩
def F.PIF_EVMASK_EN : Fld := ⟨8, 0⟩
def F.PIF_VEL_VALUE : Fld := ⟨35, 0⟩
def F.PIF_IDX_DRIFT_VALUE : Fld := ⟨35, 0⟩
def F.PIF_IDX_DRIFT_MAX_VALUE : Fld := ⟨35, 0⟩
def F.PIF_VEL_NUM_NUM : Fld := ⟨35, 0⟩
def F.PIF_VEL_CFG_VEL_SHIFT : Fld := ⟨35, 30⟩
def F.PIF_VEL_CFG_VEL_TMO : Fld := ⟨29, 16⟩
def F.PIF_SMP_BASE_ADDR : Fld := ⟨35, 0⟩
def F.PIF_PICOT_BASE_ADDR : Fld := ⟨35, 0⟩
def F.PIF_PICOT_CFG_SIZE_LOG2 : Fld := ⟨4, 0⟩
def F.PIF_PICOT_WR_COUNT : Fld := ⟨31, 0⟩
def F.CMP_CFG_KIND : Fld := ⟨35, 34⟩
def F.CMP_CFG_DIR : Fld := ⟨33, 32⟩
def F.CMP_CFG_FIRE : Fld := ⟨31, 31⟩
def F.CMP_CFG_TRG : Fld := ⟨30, 28⟩
def F.CMP_CFG_ACTION : Fld := ⟨27, 26⟩
def F.CMP_CFG_PIF : Fld := ⟨25, 21⟩
def F.CMP_CFG_ARM : Fld := ⟨20, 17⟩
def F.CMP_CFG_TAG : Fld := ⟨15, 0⟩
def F.CMP_VAL_VALUE : Fld := ⟨35, 0⟩
def F.CMP_VAL_HI_VALUE : Fld := ⟨35, 0⟩
def F.CMP_STEP_VALUE : Fld := ⟨35, 0⟩
def F.CMP_WIDTH_VALUE : Fld := ⟨35, 0⟩
def F.CMP_REPEAT_COUNT : Fld := ⟨23, 0⟩
def F.CMP_DELAY_DELAY : Fld := ⟨15, 0⟩
def F.CMP_PATH_OFS_OFS : Fld := ⟨23, 0⟩
def F.CMP_CMD_CODE : Fld := ⟨3, 0⟩
def F.CMP_STATUS_STATE : Fld := ⟨35, 34⟩
def F.CMP_STATUS_PRED : Fld := ⟨33, 31⟩
def F.CMP_STATUS_REFUSE : Fld := ⟨30, 27⟩
def F.CMP_STATUS_REMAIN : Fld := ⟨26, 3⟩
def F.CMP_FLAGS_CMD_REFUSED : Fld := ⟨3, 3⟩
def F.CMP_FLAGS_COMPARE_BEHIND : Fld := ⟨2, 2⟩
def F.CMP_FLAGS_LATE : Fld := ⟨1, 1⟩
def F.CMP_FLAGS_FIRED : Fld := ⟨0, 0⟩
def F.CMP_FLAG_CNT_COUNT : Fld := ⟨31, 0⟩
def F.CMP_EVMASK_EN : Fld := ⟨3, 0⟩
def F.TRG_CFG_EN : Fld := ⟨35, 35⟩
def F.TRG_CFG_INV : Fld := ⟨34, 34⟩
def F.TRG_CFG_EVT_ACTION : Fld := ⟨33, 32⟩
def F.TRG_EVT_WIDTH_WIDTH : Fld := ⟨35, 0⟩
def F.TRG_STATUS_LEVEL : Fld := ⟨35, 35⟩
def F.TRG_STATUS_PULSE_ON : Fld := ⟨34, 34⟩
def F.TRG_FLAGS_PICOT_OVF : Fld := ⟨2, 2⟩
def F.TRG_FLAGS_EVT : Fld := ⟨1, 1⟩
def F.TRG_FLAGS_FIRED : Fld := ⟨0, 0⟩
def F.TRG_FLAG_CNT_COUNT : Fld := ⟨31, 0⟩
def F.TRG_EVMASK_EN : Fld := ⟨2, 0⟩
def F.SSM_STATUS_STATE : Fld := ⟨35, 34⟩
def F.SSM_STATUS_SSA_PERMIT : Fld := ⟨33, 33⟩
def F.SSM_STATUS_DROP_CAUSE : Fld := ⟨32, 29⟩
def F.SSM_PAR_CRC_CRC : Fld := ⟨31, 0⟩
def F.SSM2_PAR_CRC_CRC : Fld := ⟨31, 0⟩
def F.SSM_FLAGS_DROP : Fld := ⟨8, 8⟩
def F.SSM_FLAGS_PEER_MISSING : Fld := ⟨7, 7⟩
def F.SSM_FLAGS_BORDER_STALE : Fld := ⟨6, 6⟩
def F.SSM_FLAGS_ENV_LOST : Fld := ⟨5, 5⟩
def F.SSM_FLAGS_ENV_ERR : Fld := ⟨4, 4⟩
def F.SSM_FLAGS_DISCREPANCY : Fld := ⟨3, 3⟩
def F.SSM_FLAGS_STOP_MON_FAIL : Fld := ⟨2, 2⟩
def F.SSM_FLAGS_STOP_REQ : Fld := ⟨1, 1⟩
def F.SSM_FLAGS_SCALE_LIMITED : Fld := ⟨0, 0⟩
def F.SSM_FLAG_CNT0_COUNT : Fld := ⟨31, 0⟩
def F.SSM_EVMASK_EN : Fld := ⟨8, 0⟩
def F.SSM_ARM_SCALE_VALUE : Fld := ⟨35, 0⟩
def F.SSM_ARM_MARGIN_VALUE : Fld := ⟨35, 0⟩
def F.SSM_ARM_SPEED_VALUE : Fld := ⟨35, 0⟩
def F.SSM_ARM_STATE_STOP_REQ : Fld := ⟨35, 35⟩
def F.SSM_ARM_STATE_CAT : Fld := ⟨34, 33⟩
def F.SSM_ARM_STATE_CAUSE : Fld := ⟨32, 30⟩
def F.SSM_ARM_STATE_MONITORING : Fld := ⟨29, 29⟩
def F.SSM_ARM_STATE_NEAREST : Fld := ⟨28, 20⟩
def F.SSM2_ARM_STATE_STOP_REQ : Fld := ⟨35, 35⟩
def F.SSM2_ARM_STATE_CAT : Fld := ⟨34, 33⟩
def F.SSM2_ARM_STATE_CAUSE : Fld := ⟨32, 30⟩
def F.SSM2_ARM_STATE_MONITORING : Fld := ⟨29, 29⟩
def F.SSM2_ARM_STATE_NEAREST : Fld := ⟨28, 20⟩
def F.SSM_CONN_OK : Fld := ⟨35, 35⟩
def F.SSM_CONN_ERR : Fld := ⟨34, 32⟩
def F.SSM_CONN_SEQ : Fld := ⟨31, 16⟩
def F.SSM_CONN_ERRCNT : Fld := ⟨15, 8⟩
def F.SSM2_CONN_OK : Fld := ⟨35, 35⟩
def F.SSM2_CONN_ERR : Fld := ⟨34, 32⟩
def F.SSM2_CONN_SEQ : Fld := ⟨31, 16⟩
def F.SSM2_CONN_ERRCNT : Fld := ⟨15, 8⟩
def F.SSM2_STATUS_SSA : Fld := ⟨35, 35⟩
def F.SSM2_STATUS_SSB : Fld := ⟨34, 34⟩
def F.SSM2_STATUS_DROP_CAUSE : Fld := ⟨33, 30⟩
def F.SSM2_STATUS_STATE : Fld := ⟨29, 28⟩
def F.SSM2_STATUS_T2_LOG2 : Fld := ⟨27, 25⟩
def F.SSM2_CMD_CODE : Fld := ⟨3, 0⟩
def F.SSM2_DISC_QTY : Fld := ⟨35, 32⟩
def F.SSM2_DISC_INDEX : Fld := ⟨31, 24⟩
def F.SSM2_DISC_RUN : Fld := ⟨23, 20⟩
def F.SSM2_DISC_CYCLE : Fld := ⟨15, 0⟩
def F.SSM2_FLAGS_CMD_REFUSED : Fld := ⟨10, 10⟩
def F.SSM2_FLAGS_OUT_FAULT : Fld := ⟨9, 9⟩
def F.SSM2_FLAGS_RESET_DONE : Fld := ⟨8, 8⟩
def F.SSM2_FLAGS_DROP : Fld := ⟨7, 7⟩
def F.SSM2_FLAGS_PEER_MISSING : Fld := ⟨6, 6⟩
def F.SSM2_FLAGS_BORDER_STALE : Fld := ⟨5, 5⟩
def F.SSM2_FLAGS_ENV_LOST : Fld := ⟨4, 4⟩
def F.SSM2_FLAGS_ENV_ERR : Fld := ⟨3, 3⟩
def F.SSM2_FLAGS_DISCREPANCY : Fld := ⟨2, 2⟩
def F.SSM2_FLAGS_STOP_MON_FAIL : Fld := ⟨1, 1⟩
def F.SSM2_FLAGS_STOP_REQ : Fld := ⟨0, 0⟩
def F.SSM2_FLAG_CNT0_COUNT : Fld := ⟨31, 0⟩
def F.SSM2_EVMASK_EN : Fld := ⟨10, 0⟩
def F.SSM2_ARM_MARGIN_VALUE : Fld := ⟨35, 0⟩
def F.SSM2_ARM_SPEED_VALUE : Fld := ⟨35, 0⟩
def F.CBUS_CFG_ETHERTYPE : Fld := ⟨15, 0⟩
def F.CBUS_MAC_HI_BYTES : Fld := ⟨23, 0⟩
def F.CBUS_MAC_LO_BYTES : Fld := ⟨23, 0⟩
def F.CBUS_TXIMG_BASE_ADDR : Fld := ⟨35, 0⟩
def F.CBUS_IMG_BASE_ADDR : Fld := ⟨35, 0⟩
def F.CBUS_CH_CFG_SPEED : Fld := ⟨35, 34⟩
def F.CBUS_CH_CFG_COMPAT : Fld := ⟨33, 33⟩
def F.CBUS_CH_CFG_MISS_N : Fld := ⟨32, 28⟩
def F.CBUS_CH_CFG_GUARD : Fld := ⟨27, 18⟩
def F.CBUS_CH_LAT_TX_LAT : Fld := ⟨17, 9⟩
def F.CBUS_CH_LAT_RX_LAT : Fld := ⟨8, 0⟩
def F.CBUS_CH_CMD_CODE : Fld := ⟨3, 0⟩
def F.CBUS_CH_ARG_STATION : Fld := ⟨5, 0⟩
def F.CBUS_CH_STATUS_STATE : Fld := ⟨35, 33⟩
def F.CBUS_CH_STATUS_FOUND : Fld := ⟨32, 26⟩
def F.CBUS_CH_STATUS_REFUSE : Fld := ⟨25, 22⟩
def F.CBUS_CH_STATUS_ACT_BANK : Fld := ⟨21, 21⟩
def F.CBUS_CH_FLAGS_PROBE_DONE : Fld := ⟨14, 14⟩
def F.CBUS_CH_FLAGS_LATE_APPLY : Fld := ⟨13, 13⟩
def F.CBUS_CH_FLAGS_DISPATCH_LATE : Fld := ⟨12, 12⟩
def F.CBUS_CH_FLAGS_MASTER_MUTE : Fld := ⟨11, 11⟩
def F.CBUS_CH_FLAGS_MUTE_WARN : Fld := ⟨10, 10⟩
def F.CBUS_CH_FLAGS_CRC_ERR : Fld := ⟨9, 9⟩
def F.CBUS_CH_FLAGS_TIMING_MARGIN : Fld := ⟨8, 8⟩
def F.CBUS_CH_FLAGS_MISSED_SLOT : Fld := ⟨7, 7⟩
def F.CBUS_CH_FLAGS_STATION_MISMATCH : Fld := ⟨6, 6⟩
def F.CBUS_CH_FLAGS_STATION_BACK : Fld := ⟨5, 5⟩
def F.CBUS_CH_FLAGS_STATION_LOST : Fld := ⟨4, 4⟩
def F.CBUS_CH_FLAGS_LINK_DOWN : Fld := ⟨3, 3⟩
def F.CBUS_CH_FLAGS_FOREIGN_MASTER : Fld := ⟨2, 2⟩
def F.CBUS_CH_FLAGS_CMD_REFUSED : Fld := ⟨1, 1⟩
def F.CBUS_CH_FLAGS_STATE_CHANGED : Fld := ⟨0, 0⟩
def F.CBUS_CH_FLAG_CNT0_COUNT : Fld := ⟨31, 0⟩
def F.CBUS_CH_EVMASK_EN : Fld := ⟨14, 0⟩
def F.CBUS_CH_CNT_MISS_COUNT : Fld := ⟨35, 0⟩
def F.CBUS_CH_CNT_CRC_COUNT : Fld := ⟨35, 0⟩
def F.CBUS_CH_CNT_NULL_COUNT : Fld := ⟨35, 0⟩
def F.CBUS_CH_CNT_NOTREADY_COUNT : Fld := ⟨35, 0⟩
def F.CBUS_STN_DELAY_P : Fld := ⟨35, 18⟩
def F.CBUS_STN_DELAY_U : Fld := ⟨17, 0⟩
def F.CBUS_STN_MEAS_TA : Fld := ⟨35, 24⟩
def F.CBUS_STN_MEAS_FD : Fld := ⟨23, 12⟩
def F.CBUS_STN_MEAS_FU : Fld := ⟨11, 0⟩
def F.CBUS_STN_STATUS_STATE : Fld := ⟨35, 33⟩
def F.CBUS_STN_STATUS_MISS_RUN : Fld := ⟨32, 28⟩
def F.CBUS_STN_STATUS_NULL_HOLD : Fld := ⟨27, 26⟩
def F.CBUS_STN_STATUS_EXTRAP : Fld := ⟨25, 25⟩
def F.CBUS_STN_STATUS_APPLY_SETUP : Fld := ⟨24, 5⟩
def F.CBUS_STN_STATUS_END : Fld := ⟨4, 4⟩
def F.CBUS_STN_ID_ID : Fld := ⟨35, 0⟩
def F.CBUS_SLOT_TIME_TIME : Fld := ⟨21, 0⟩
def F.CBUS_SLOT_CFG_EN : Fld := ⟨35, 35⟩
def F.CBUS_SLOT_CFG_KIND : Fld := ⟨34, 33⟩
def F.CBUS_SLOT_CFG_MUX_LOG2 : Fld := ⟨32, 30⟩
def F.CBUS_SLOT_CFG_MUX_PHASE : Fld := ⟨29, 24⟩
def F.CBUS_SLOT_CFG_STATION : Fld := ⟨23, 18⟩
def F.CBUS_SLOT_TX_TXMAP_FIRST : Fld := ⟨35, 25⟩
def F.CBUS_SLOT_TX_TXMAP_N : Fld := ⟨24, 19⟩
def F.CBUS_SLOT_TX_TX_WORDS : Fld := ⟨8, 0⟩
def F.CBUS_SLOT_RX_RX_WORDS : Fld := ⟨35, 27⟩
def F.CBUS_SLOT_RX_RX_SWORDS : Fld := ⟨26, 18⟩
def F.CBUS_SLOT_RX_RX_OFS : Fld := ⟨17, 0⟩
def F.CBUS_TXMAP_COUNT : Fld := ⟨35, 27⟩
def F.CBUS_TXMAP_OFFSET : Fld := ⟨14, 0⟩
def F.FED_CFG_FED_ID : Fld := ⟨35, 24⟩
def F.FED_CFG_ETHERTYPE : Fld := ⟨23, 8⟩
def F.FED_CFG_JUMBO : Fld := ⟨7, 7⟩
def F.FED_EXCH_CFG_EN : Fld := ⟨35, 35⟩
def F.FED_EXCH_CFG_EXCH_OFS : Fld := ⟨21, 0⟩
def F.FED_CLOCK_ID_HI_ID : Fld := ⟨31, 0⟩
def F.FED_CLOCK_ID_LO_ID : Fld := ⟨31, 0⟩
def F.FED_FLAGS_CMD_REFUSED : Fld := ⟨8, 8⟩
def F.FED_FLAGS_STREAM_REFUSED : Fld := ⟨7, 7⟩
def F.FED_FLAGS_OVERSIZE : Fld := ⟨6, 6⟩
def F.FED_FLAGS_FRAME_MISSED : Fld := ⟨5, 5⟩
def F.FED_FLAGS_FRAME_LATE : Fld := ⟨4, 4⟩
def F.FED_FLAGS_PHASE_MISMATCH : Fld := ⟨3, 3⟩
def F.FED_FLAGS_ID_CLASH : Fld := ⟨2, 2⟩
def F.FED_FLAGS_UNKNOWN_PEER : Fld := ⟨1, 1⟩
def F.FED_FLAGS_EXCH_ORDER : Fld := ⟨0, 0⟩
def F.FED_FLAG_CNT0_COUNT : Fld := ⟨31, 0⟩
def F.FED_EVMASK_EN : Fld := ⟨8, 0⟩
def F.FED_PORT_CFG_EN : Fld := ⟨35, 35⟩
def F.FED_PORT_CFG_SPEED : Fld := ⟨34, 33⟩
def F.FED_PORT_CFG_VLAN_EN : Fld := ⟨32, 32⟩
def F.FED_PORT_CFG_PCP : Fld := ⟨31, 29⟩
def F.FED_PORT_CFG_VID : Fld := ⟨28, 17⟩
def F.FED_PORT_MAC_HI_VALUE : Fld := ⟨31, 0⟩
def F.FED_PORT_MAC_LO_VALUE : Fld := ⟨31, 0⟩
def F.FED_PORT_IP_VALUE : Fld := ⟨31, 0⟩
def F.FED_PORT_LAT_TX_PHY : Fld := ⟨35, 18⟩
def F.FED_PORT_LAT_RX_PHY : Fld := ⟨17, 0⟩
def F.FED_PORT_ASYM_ASYM : Fld := ⟨35, 0⟩
def F.FED_PORT_STATUS_LINK : Fld := ⟨35, 35⟩
def F.FED_PORT_FLAGS_FCS_ERR : Fld := ⟨2, 2⟩
def F.FED_PORT_FLAGS_LINK_UP : Fld := ⟨1, 1⟩
def F.FED_PORT_FLAGS_LINK_DOWN : Fld := ⟨0, 0⟩
def F.FED_PORT_FLAG_CNT_COUNT : Fld := ⟨31, 0⟩
def F.FED_PORT_EVMASK_EN : Fld := ⟨2, 0⟩
def F.FED_PTP_CFG_EN : Fld := ⟨35, 35⟩
def F.FED_PTP_CFG_PROFILE : Fld := ⟨34, 34⟩
def F.FED_PTP_CFG_TRANSPORT : Fld := ⟨33, 33⟩
def F.FED_PTP_CFG_DELAY : Fld := ⟨32, 32⟩
def F.FED_PTP_CFG_ONE_STEP : Fld := ⟨31, 31⟩
def F.FED_PTP_CFG_SLAVE_ONLY : Fld := ⟨30, 30⟩
def F.FED_PTP_CFG_PORTS : Fld := ⟨29, 26⟩
def F.FED_PTP_CFG_DOMAIN : Fld := ⟨25, 18⟩
def F.FED_PTP_CFG_LOG_SYNC : Fld := ⟨17, 14⟩
def F.FED_PTP_CFG_LOG_DELAY : Fld := ⟨13, 10⟩
def F.FED_PTP_CFG_LOG_ANNOUNCE : Fld := ⟨9, 6⟩
def F.FED_PTP_DS_PRIORITY1 : Fld := ⟨35, 28⟩
def F.FED_PTP_DS_PRIORITY2 : Fld := ⟨27, 20⟩
def F.FED_PTP_DS_CLASS : Fld := ⟨19, 12⟩
def F.FED_PTP_DS_ACCURACY : Fld := ⟨11, 4⟩
def F.FED_PTP_VAR_VARIANCE : Fld := ⟨15, 0⟩
def F.FED_PTP_SERVO_KP_SH : Fld := ⟨35, 32⟩
def F.FED_PTP_SERVO_KI_SH : Fld := ⟨31, 28⟩
def F.FED_PTP_SERVO_LOCK_N : Fld := ⟨27, 24⟩
def F.FED_PTP_SERVO_LOCK_NS : Fld := ⟨23, 14⟩
def F.FED_PTP_SERVO_STEP_THR : Fld := ⟨13, 4⟩
def F.FED_PTP_SERVO_HOLD_N : Fld := ⟨3, 0⟩
def F.FED_PTP_CMD_CODE : Fld := ⟨3, 0⟩
def F.FED_PTP_STATUS_STATE : Fld := ⟨35, 33⟩
def F.FED_PTP_STATUS_STEERING : Fld := ⟨32, 32⟩
def F.FED_PTP_STATUS_PORT_STATE : Fld := ⟨31, 16⟩
def F.FED_PTP_STATUS_STEPS : Fld := ⟨15, 8⟩
def F.FED_PTP_OFS_VALUE : Fld := ⟨35, 0⟩
def F.FED_PTP_DELAY_VALUE : Fld := ⟨35, 0⟩
def F.FED_PTP_RATE_VALUE : Fld := ⟨35, 0⟩
def F.FED_PTP_GM_HI_ID : Fld := ⟨31, 0⟩
def F.FED_PTP_GM_LO_ID : Fld := ⟨31, 0⟩
def F.FED_PTP_TIME_TIME : Fld := ⟨35, 0⟩
def F.FED_PTP_TIME_HI_TIME : Fld := ⟨35, 0⟩
def F.FED_PTP_FLAGS_CMD_REFUSED : Fld := ⟨6, 6⟩
def F.FED_PTP_FLAGS_MSG_ERR : Fld := ⟨5, 5⟩
def F.FED_PTP_FLAGS_STATE_CHANGED : Fld := ⟨4, 4⟩
def F.FED_PTP_FLAGS_GM_CHANGED : Fld := ⟨3, 3⟩
def F.FED_PTP_FLAGS_TIME_JUMP : Fld := ⟨2, 2⟩
def F.FED_PTP_FLAGS_LOCK_LOST : Fld := ⟨1, 1⟩
def F.FED_PTP_FLAGS_LOCK : Fld := ⟨0, 0⟩
def F.FED_PTP_FLAG_CNT0_COUNT : Fld := ⟨31, 0⟩
def F.FED_PTP_EVMASK_EN : Fld := ⟨6, 0⟩
def F.FED_PEER_CFG_EN : Fld := ⟨35, 35⟩
def F.FED_PEER_CFG_SERVER : Fld := ⟨34, 34⟩
def F.FED_PEER_CFG_PORT : Fld := ⟨33, 32⟩
def F.FED_PEER_CFG_PEER_ID : Fld := ⟨31, 20⟩
def F.FED_PEER_CFG_SEND : Fld := ⟨19, 11⟩
def F.FED_PEER_ARMS_MASK : Fld := ⟨15, 0⟩
def F.FED_PEER_MAC_HI_BYTES : Fld := ⟨23, 0⟩
def F.FED_PEER_MAC_LO_BYTES : Fld := ⟨23, 0⟩
def F.FED_PEER_STATUS_MISS : Fld := ⟨35, 35⟩
def F.FED_PEER_STATUS_MISS_RUN : Fld := ⟨34, 30⟩
def F.FED_PEER_STATUS_MISS_CNT : Fld := ⟨29, 22⟩
def F.FED_PEER_LAYER_LAYER : Fld := ⟨35, 0⟩
def F.TIM_SRC_KIND : Fld := ⟨35, 34⟩
def F.TIM_SRC_INST : Fld := ⟨33, 31⟩
def F.TIM_CMD_CODE : Fld := ⟨3, 0⟩
def F.TIM_STATUS_SERVO : Fld := ⟨35, 33⟩
def F.TIM_STATUS_STEPPED : Fld := ⟨32, 32⟩
def F.TIM_STATUS_CAL_VALID : Fld := ⟨31, 31⟩
def F.TIM_STATUS_PTP_TIMESCALE : Fld := ⟨30, 30⟩
def F.TIM_RATE_RHO : Fld := ⟨35, 0⟩
def F.TIM_NOW_TIME : Fld := ⟨35, 0⟩
def F.TIM_NOW_HI_TIME : Fld := ⟨35, 0⟩
def F.TIM_CAL_TIME : Fld := ⟨35, 0⟩
def F.TIM_CAL_HI_TIME : Fld := ⟨35, 0⟩
def F.TIM_CAL_SET_TIME : Fld := ⟨35, 0⟩
def F.TIM_CAL_SET_HI_TIME : Fld := ⟨35, 0⟩
def F.TIM_PPS_IN_TIME : Fld := ⟨35, 0⟩
def F.TIM_PPS_IN_HI_TIME : Fld := ⟨35, 0⟩
def F.TIM_CAL_TRIM_AUTO : Fld := ⟨35, 35⟩
def F.TIM_CAL_TRIM_TRIM_SET : Fld := ⟨31, 16⟩
def F.TIM_CAL_TRIM_TRIM : Fld := ⟨15, 0⟩
def F.TIM_UTC_VALID : Fld := ⟨18, 18⟩
def F.TIM_UTC_LEAP61 : Fld := ⟨17, 17⟩
def F.TIM_UTC_LEAP59 : Fld := ⟨16, 16⟩
def F.TIM_UTC_OFFSET : Fld := ⟨15, 0⟩
def F.TIM_PPS_CFG_OUT_EN : Fld := ⟨35, 35⟩
def F.TIM_PPS_CFG_IN_EN : Fld := ⟨34, 34⟩
def F.TIM_PPS_CFG_WIDTH_MS : Fld := ⟨9, 0⟩
def F.TIM_FLAGS_CMD_REFUSED : Fld := ⟨6, 6⟩
def F.TIM_FLAGS_TRIM_LIMIT : Fld := ⟨5, 5⟩
def F.TIM_FLAGS_PPS_MISS : Fld := ⟨4, 4⟩
def F.TIM_FLAGS_CAL_INVALID : Fld := ⟨3, 3⟩
def F.TIM_FLAGS_TIME_JUMP : Fld := ⟨2, 2⟩
def F.TIM_FLAGS_LOCK_LOST : Fld := ⟨1, 1⟩
def F.TIM_FLAGS_LOCK : Fld := ⟨0, 0⟩
def F.TIM_FLAG_CNT0_COUNT : Fld := ⟨31, 0⟩
def F.TIM_EVMASK_CYC : Fld := ⟨15, 8⟩
def F.TIM_EVMASK_EN : Fld := ⟨6, 0⟩
def F.RED_CFG_MODE : Fld := ⟨35, 35⟩
def F.RED_CFG_ALARM_SIMPLEX : Fld := ⟨34, 34⟩
def F.RED_CFG_COMPAT_PLANE : Fld := ⟨33, 33⟩
def F.RED_CFG_RETIRE_WIN : Fld := ⟨32, 16⟩
def F.RED_CFG_HOLDOFF_S : Fld := ⟨15, 0⟩
def F.RED_SWAP_PERIOD_PERIOD_S : Fld := ⟨16, 0⟩
def F.RED_SWAP_PAT_LO_PAT : Fld := ⟨31, 0⟩
def F.RED_SWAP_PAT_HI_PAT : Fld := ⟨31, 0⟩
def F.RED_CMD_PLANE : Fld := ⟨4, 4⟩
def F.RED_CMD_CODE : Fld := ⟨3, 0⟩
def F.RED_STATUS_CHANTER : Fld := ⟨35, 35⟩
def F.RED_STATUS_GRANTED : Fld := ⟨34, 34⟩
def F.RED_STATUS_MODE : Fld := ⟨33, 33⟩
def F.RED_STATUS_SIMPLEX : Fld := ⟨32, 32⟩
def F.RED_STATUS_HALT : Fld := ⟨31, 31⟩
def F.RED_STATUS_SUSPENDED : Fld := ⟨30, 30⟩
def F.RED_STATUS_SCHED : Fld := ⟨29, 29⟩
def F.RED_STATUS_REFUSE : Fld := ⟨28, 25⟩
def F.RED_STATUS_TO_BOUNDARY : Fld := ⟨16, 0⟩
def F.RED_EPOCH_EPOCH : Fld := ⟨31, 0⟩
def F.RED_PLANE_STATE : Fld := ⟨35, 33⟩
def F.RED_PLANE_HOLDOFF : Fld := ⟨32, 32⟩
def F.RED_PLANE_PATH_P_OK : Fld := ⟨31, 31⟩
def F.RED_PLANE_PATH_W_OK : Fld := ⟨30, 30⟩
def F.RED_PLANE_MCHK : Fld := ⟨29, 26⟩
def F.RED_PLANE_FAULTS : Fld := ⟨25, 24⟩
def F.RED_LAST_SW_CAUSE : Fld := ⟨35, 32⟩
def F.RED_LAST_SW_GAP : Fld := ⟨31, 30⟩
def F.RED_LAST_SW_FROM : Fld := ⟨29, 29⟩
def F.RED_LAST_SW_CYCLE : Fld := ⟨15, 0⟩
def F.RED_REJECT_COUNT : Fld := ⟨35, 0⟩
def F.RED_HEALTH_VALID : Fld := ⟨35, 35⟩
def F.RED_HEALTH_LAST_PASS : Fld := ⟨34, 34⟩
def F.RED_HEALTH_PASSES : Fld := ⟨33, 18⟩
def F.RED_HEALTH_FAILS : Fld := ⟨17, 10⟩
def F.RED_FLAGS_DRONE_FAULT : Fld := ⟨14, 14⟩
def F.RED_FLAGS_CMD_REFUSED : Fld := ⟨13, 13⟩
def F.RED_FLAGS_HEALTH_FAIL : Fld := ⟨12, 12⟩
def F.RED_FLAGS_HALT : Fld := ⟨11, 11⟩
def F.RED_FLAGS_SIMPLEX : Fld := ⟨10, 10⟩
def F.RED_FLAGS_RETIRED : Fld := ⟨9, 9⟩
def F.RED_FLAGS_RECOVERED : Fld := ⟨8, 8⟩
def F.RED_FLAGS_IN_STEP : Fld := ⟨7, 7⟩
def F.RED_FLAGS_OUT_OF_STEP : Fld := ⟨6, 6⟩
def F.RED_FLAGS_PATH_W : Fld := ⟨5, 5⟩
def F.RED_FLAGS_PATH_P : Fld := ⟨4, 4⟩
def F.RED_FLAGS_SWAP_SKIPPED : Fld := ⟨3, 3⟩
def F.RED_FLAGS_SWAP_ABORTED : Fld := ⟨2, 2⟩
def F.RED_FLAGS_SWAPPED : Fld := ⟨1, 1⟩
def F.RED_FLAGS_FAILOVER : Fld := ⟨0, 0⟩
def F.RED_FLAG_CNT0_COUNT : Fld := ⟨31, 0⟩
def F.RED_EVMASK_EN : Fld := ⟨14, 0⟩
def F.XLK_STATUS_LINK : Fld := ⟨35, 34⟩
def F.XLK_STATUS_DIR : Fld := ⟨33, 32⟩
def F.XLK_STATUS_REPAIRED : Fld := ⟨31, 30⟩
def F.XLK_STATUS_LAST_COMPLETE : Fld := ⟨29, 29⟩
def F.XLK_BUDGET_ACTIVE : Fld := ⟨35, 35⟩
def F.XLK_BUDGET_WORDS : Fld := ⟨24, 0⟩
def F.XLK_COPY_ACTIVE : Fld := ⟨35, 35⟩
def F.XLK_COPY_WORDS : Fld := ⟨24, 0⟩
def F.XLK_COPY_MAX_ACTIVE : Fld := ⟨35, 35⟩
def F.XLK_COPY_MAX_WORDS : Fld := ⟨24, 0⟩
def F.XLK_RESYNC_ACTIVE : Fld := ⟨35, 35⟩
def F.XLK_RESYNC_WORDS : Fld := ⟨24, 0⟩
def F.XLK_UNDO_ACTIVE : Fld := ⟨35, 35⟩
def F.XLK_UNDO_WORDS : Fld := ⟨24, 0⟩
def F.XLK_FLUSH_BYTES : Fld := ⟨19, 0⟩
def F.XLK_FLUSH_MAX_BYTES : Fld := ⟨19, 0⟩
def F.XLK_RETRY_COUNT : Fld := ⟨35, 0⟩
def F.XLK_FLAGS_LINK_FAIL : Fld := ⟨5, 5⟩
def F.XLK_FLAGS_RESYNC_DONE : Fld := ⟨4, 4⟩
def F.XLK_FLAGS_FLUSH_LATE : Fld := ⟨3, 3⟩
def F.XLK_FLAGS_FLUSH_OVER : Fld := ⟨2, 2⟩
def F.XLK_FLAGS_OVER_BUDGET : Fld := ⟨1, 1⟩
def F.XLK_FLAGS_INCOMPLETE : Fld := ⟨0, 0⟩
def F.XLK_FLAG_CNT0_COUNT : Fld := ⟨31, 0⟩
def F.XLK_EVMASK_EN : Fld := ⟨5, 0⟩
def F.PLANE_ID_PLANE : Fld := ⟨35, 35⟩
def F.PLANE_STATUS_STATE : Fld := ⟨35, 33⟩
def F.PLANE_STATUS_REFUSE : Fld := ⟨32, 29⟩
def F.PLANE_EPOCH_EPOCH : Fld := ⟨31, 0⟩
def F.PLANE_MCHK_CAUSE : Fld := ⟨35, 32⟩
def F.PLANE_MCHK_CYCLE : Fld := ⟨15, 0⟩
def F.PLANE_CMD_CODE : Fld := ⟨3, 0⟩
def F.PLANE_FLAGS_CMD_REFUSED : Fld := ⟨1, 1⟩
def F.PLANE_FLAGS_MCHK : Fld := ⟨0, 0⟩
def F.PLANE_FLAG_CNT_COUNT : Fld := ⟨31, 0⟩
def F.PLANE_REPL_BASE_ADDR : Fld := ⟨28, 12⟩
def F.PLANE_REPL_SIZE_WORDS : Fld := ⟨24, 0⟩
def F.PLANE_REPL_TOTAL_WORDS : Fld := ⟨24, 0⟩
def F.SCH_CFG_QUANTUM_US : Fld := ⟨35, 20⟩
def F.SCH_CFG_LOAD_LOG2 : Fld := ⟨19, 15⟩
def F.SCH_CFG_LOAD_HIGH : Fld := ⟨14, 7⟩
def F.SCH_STATUS_MODE : Fld := ⟨35, 34⟩
def F.SCH_STATUS_GRAPH_STATE : Fld := ⟨33, 32⟩
def F.SCH_STATUS_GRAPH_KIND : Fld := ⟨31, 28⟩
def F.SCH_STATUS_REFUSE : Fld := ⟨27, 24⟩
def F.SCH_CMD_CODE : Fld := ⟨3, 0⟩
def F.SCH_POST_THREAD : Fld := ⟨8, 0⟩
def F.SCH_POST_ARG_PAYLOAD : Fld := ⟨35, 0⟩
def F.SCH_POSTQ_MAX : Fld := ⟨21, 11⟩
def F.SCH_POSTQ_DEPTH : Fld := ⟨10, 0⟩
def F.SCH_POST_STALL_COUNT : Fld := ⟨35, 0⟩
def F.SCH_POST_DISC_COUNT : Fld := ⟨35, 0⟩
def F.SCH_GRAPH_STATUS_NODE : Fld := ⟨35, 26⟩
def F.SCH_GRAPH_STATUS_EXEC : Fld := ⟨25, 22⟩
def F.SCH_GRAPH_STATUS_OP : Fld := ⟨21, 10⟩
def F.SCH_GRAPH_STATUS_CHECK : Fld := ⟨8, 8⟩
def F.SCH_GRAPH_STATUS_CODE : Fld := ⟨7, 0⟩
def F.SCH_GRAPH_TIME_TIME : Fld := ⟨35, 0⟩
def F.SCH_FLAGS_POST_DORMANT : Fld := ⟨8, 8⟩
def F.SCH_FLAGS_CMD_REFUSED : Fld := ⟨7, 7⟩
def F.SCH_FLAGS_GRAPH_TIMEOUT : Fld := ⟨6, 6⟩
def F.SCH_FLAGS_GRAPH_FAIL : Fld := ⟨5, 5⟩
def F.SCH_FLAGS_GRAPH_DONE : Fld := ⟨4, 4⟩
def F.SCH_FLAGS_LOAD_HIGH : Fld := ⟨3, 3⟩
def F.SCH_FLAGS_WAIT_WARN : Fld := ⟨2, 2⟩
def F.SCH_FLAGS_POST_FULL : Fld := ⟨1, 1⟩
def F.SCH_FLAGS_POST_HWM : Fld := ⟨0, 0⟩
def F.SCH_FLAG_CNT0_COUNT : Fld := ⟨31, 0⟩
def F.SCH_EVMASK_EN : Fld := ⟨8, 0⟩
def F.SCH_PRIO_DEPTH_MAX : Fld := ⟨19, 10⟩
def F.SCH_PRIO_DEPTH_DEPTH : Fld := ⟨9, 0⟩
def F.SCH_CORE_STATUS_BUSY : Fld := ⟨35, 35⟩
def F.SCH_CORE_STATUS_THREAD : Fld := ⟨34, 26⟩
def F.SCH_CORE_LOAD_CAPTURED : Fld := ⟨31, 16⟩
def F.SCH_CORE_LOAD_LOAD : Fld := ⟨15, 0⟩
def F.SCH_CORE_DISP_COUNT : Fld := ⟨35, 0⟩
def F.SCH_CORE_DISP_CAP_COUNT : Fld := ⟨35, 0⟩
def F.SCH_THR_CFG_CLASS : Fld := ⟨35, 32⟩
def F.SCH_THR_CFG_PRIO : Fld := ⟨31, 26⟩
def F.SCH_THR_CFG_AFF : Fld := ⟨25, 18⟩
def F.SCH_THR_CFG_WAIT_WARN : Fld := ⟨17, 0⟩
def F.SCH_THR_STATUS_STATE : Fld := ⟨35, 34⟩
def F.SCH_THR_STATUS_CORE : Fld := ⟨33, 31⟩
def F.SCH_THR_STATUS_POSTS : Fld := ⟨30, 20⟩
def F.SCH_THR_WAIT_VALUE : Fld := ⟨35, 0⟩
def F.SCH_THR_WAIT_MAX_VALUE : Fld := ⟨35, 0⟩
def F.SCH_THR_DISP_VALUE : Fld := ⟨35, 0⟩
def F.CST_CFG_SCRUB_H : Fld := ⟨35, 20⟩
def F.CST_CFG_SPARE_THR : Fld := ⟨19, 16⟩
def F.CST_CFG_SPARE_EN : Fld := ⟨15, 15⟩
def F.CST_STATUS_SPARES_FREE : Fld := ⟨35, 29⟩
def F.CST_STATUS_TAGS : Fld := ⟨28, 20⟩
def F.CST_STATUS_TAGS_MAX : Fld := ⟨19, 11⟩
def F.CST_STATUS_SPARING : Fld := ⟨10, 10⟩
def F.CST_CE_CNT_COUNT : Fld := ⟨35, 0⟩
def F.CST_UE_CNT_COUNT : Fld := ⟨35, 0⟩
def F.CST_STALL_RT_COUNT : Fld := ⟨35, 0⟩
def F.CST_STALL_BULK_COUNT : Fld := ⟨35, 0⟩
def F.CST_ERR_ADDR_KIND : Fld := ⟨35, 34⟩
def F.CST_ERR_ADDR_ADDR : Fld := ⟨28, 0⟩
def F.CST_SCRUB_POS : Fld := ⟨27, 0⟩
def F.CST_FLAGS_SCRUB_BEHIND : Fld := ⟨5, 5⟩
def F.CST_FLAGS_SCRUB_PASS : Fld := ⟨4, 4⟩
def F.CST_FLAGS_SPARES_OUT : Fld := ⟨3, 3⟩
def F.CST_FLAGS_SPARED : Fld := ⟨2, 2⟩
def F.CST_FLAGS_UE : Fld := ⟨1, 1⟩
def F.CST_FLAGS_CE : Fld := ⟨0, 0⟩
def F.CST_FLAG_CNT0_COUNT : Fld := ⟨31, 0⟩
def F.CST_EVMASK_EN : Fld := ⟨5, 0⟩
def F.CST_SPARE_USED : Fld := ⟨35, 35⟩
def F.CST_SPARE_ROW : Fld := ⟨16, 0⟩
def F.DMA_STATUS_INFLIGHT : Fld := ⟨35, 31⟩
def F.DMA_STATUS_INFLIGHT_MAX : Fld := ⟨30, 26⟩
def F.DMA_STALL_COUNT : Fld := ⟨35, 0⟩
def F.DMA_CH_CFG_PRIO : Fld := ⟨34, 32⟩
def F.DMA_CH_CFG_REQ : Fld := ⟨31, 26⟩
def F.DMA_CH_CFG_PACED : Fld := ⟨25, 25⟩
def F.DMA_CH_CFG_CONT_ON_ERR : Fld := ⟨24, 24⟩
def F.DMA_CH_CFG_BURST_M1 : Fld := ⟨23, 18⟩
def F.DMA_CH_CFG_RING_LOG2 : Fld := ⟨17, 14⟩
def F.DMA_CH_RING_ADDR : Fld := ⟨35, 0⟩
def F.DMA_CH_CMD_CODE : Fld := ⟨3, 0⟩
def F.DMA_CH_STATUS_STATE : Fld := ⟨35, 33⟩
def F.DMA_CH_STATUS_HEAD : Fld := ⟨32, 21⟩
def F.DMA_CH_STATUS_LAST_STATUS : Fld := ⟨20, 17⟩
def F.DMA_CH_STATUS_REFUSE : Fld := ⟨16, 13⟩
def F.DMA_CH_PROGRESS_DONE : Fld := ⟨23, 0⟩
def F.DMA_CH_REQ_PENDING : Fld := ⟨15, 0⟩
def F.DMA_CH_FLAGS_REPLAYED : Fld := ⟨8, 8⟩
def F.DMA_CH_FLAGS_CMD_REFUSED : Fld := ⟨7, 7⟩
def F.DMA_CH_FLAGS_REQ_OVF : Fld := ⟨6, 6⟩
def F.DMA_CH_FLAGS_PAUSED_POWER : Fld := ⟨5, 5⟩
def F.DMA_CH_FLAGS_STOPPED : Fld := ⟨4, 4⟩
def F.DMA_CH_FLAGS_STARVED : Fld := ⟨3, 3⟩
def F.DMA_CH_FLAGS_ERR : Fld := ⟨2, 2⟩
def F.DMA_CH_FLAGS_FULL : Fld := ⟨1, 1⟩
def F.DMA_CH_FLAGS_HALF : Fld := ⟨0, 0⟩
def F.DMA_CH_FLAG_CNT0_COUNT : Fld := ⟨31, 0⟩
def F.DMA_CH_EVMASK_EN : Fld := ⟨8, 0⟩
def F.FIO_CFG_SAG_RESTORE : Fld := ⟨35, 35⟩
def F.FIO_CFG_HOLD_N : Fld := ⟨34, 27⟩
def F.FIO_CMD_CODE : Fld := ⟨3, 0⟩
def F.FIO_STATUS_SUPPLY : Fld := ⟨35, 33⟩
def F.FIO_STATUS_FAILSAFE : Fld := ⟨32, 32⟩
def F.FIO_STATUS_SSA : Fld := ⟨31, 31⟩
def F.FIO_STATUS_SSA_REQ : Fld := ⟨30, 30⟩
def F.FIO_STATUS_REFUSE : Fld := ⟨29, 26⟩
def F.FIO_STATUS_VFIELD : Fld := ⟨15, 0⟩
def F.FIO_FLAGS_CMD_REFUSED : Fld := ⟨8, 8⟩
def F.FIO_FLAGS_PICOT_OVF : Fld := ⟨7, 7⟩
def F.FIO_FLAGS_SSA_MISMATCH : Fld := ⟨6, 6⟩
def F.FIO_FLAGS_SSA_DROP : Fld := ⟨5, 5⟩
def F.FIO_FLAGS_BEACON_LOST : Fld := ⟨4, 4⟩
def F.FIO_FLAGS_COMMIT_LOST : Fld := ⟨3, 3⟩
def F.FIO_FLAGS_SAG_RESTORED : Fld := ⟨2, 2⟩
def F.FIO_FLAGS_SAG_CUT : Fld := ⟨1, 1⟩
def F.FIO_FLAGS_SAG_WARN : Fld := ⟨0, 0⟩
def F.FIO_FLAG_CNT0_COUNT : Fld := ⟨31, 0⟩
def F.FIO_EVMASK_EN : Fld := ⟨8, 0⟩
def F.FIO_IMG_BASE_ADDR : Fld := ⟨35, 0⟩
def F.FIO_PICOT_BASE_ADDR : Fld := ⟨35, 0⟩
def F.FIO_PICOT_CFG_SIZE_LOG2 : Fld := ⟨4, 0⟩
def F.FIO_PICOT_WR_COUNT : Fld := ⟨31, 0⟩
def F.FIO_GRP_CFG_TYPE : Fld := ⟨35, 35⟩
def F.FIO_DI_CFG_PICOT : Fld := ⟨35, 34⟩
def F.FIO_DI_CFG_EV : Fld := ⟨33, 32⟩
def F.FIO_DI_CFG_INV : Fld := ⟨31, 31⟩
def F.FIO_DI_CFG_DEB : Fld := ⟨15, 0⟩
def F.FIO_DI_STATUS_LEVEL : Fld := ⟨35, 35⟩
def F.FIO_DI_STATUS_UNKNOWN : Fld := ⟨34, 34⟩
def F.FIO_DI_STATUS_RAW : Fld := ⟨33, 33⟩
def F.FIO_DI_STATUS_SAFETY : Fld := ⟨32, 32⟩
def F.FIO_DI_FLAGS_FALL : Fld := ⟨1, 1⟩
def F.FIO_DI_FLAGS_RISE : Fld := ⟨0, 0⟩
def F.FIO_DI_FLAG_CNT_COUNT : Fld := ⟨15, 0⟩
def F.FIO_DO_CFG_FAILSAFE : Fld := ⟨35, 35⟩
def F.FIO_DO_STATUS_CMD : Fld := ⟨35, 35⟩
def F.FIO_DO_STATUS_OUT : Fld := ⟨34, 34⟩
def F.FIO_DO_STATUS_READBACK : Fld := ⟨33, 33⟩
def F.FIO_DO_STATUS_FAULT : Fld := ⟨32, 30⟩
def F.FIO_DO_STATUS_RETRIES : Fld := ⟨29, 28⟩
def F.FIO_DO_CMD_CODE : Fld := ⟨3, 0⟩
def F.FIO_DO_FLAGS_CMD_REFUSED : Fld := ⟨4, 4⟩
def F.FIO_DO_FLAGS_DRIVE_FAIL : Fld := ⟨3, 3⟩
def F.FIO_DO_FLAGS_EXT_DRIVEN : Fld := ⟨2, 2⟩
def F.FIO_DO_FLAGS_OC_LATCHED : Fld := ⟨1, 1⟩
def F.FIO_DO_FLAGS_OVERCURRENT : Fld := ⟨0, 0⟩
def F.FIO_DO_FLAG_CNT0_COUNT : Fld := ⟨31, 0⟩
def F.FIO_DO_EVMASK_EN : Fld := ⟨4, 0⟩
def F.BOOT_STATUS_STAGE : Fld := ⟨35, 32⟩
def F.BOOT_STATUS_FAIL : Fld := ⟨31, 28⟩
def F.BOOT_STATUS_FAIL_FIRST : Fld := ⟨27, 24⟩
def F.BOOT_STATUS_BANK : Fld := ⟨23, 23⟩
def F.BOOT_STATUS_FALLBACK : Fld := ⟨22, 22⟩
def F.BOOT_STATUS_SLOW : Fld := ⟨21, 21⟩
def F.BOOT_STATUS_SIMPLEX : Fld := ⟨20, 20⟩
def F.BOOT_T_CYCLE_US : Fld := ⟨31, 0⟩
def F.BOOT_T_READY_US : Fld := ⟨31, 0⟩
def F.BOOT_SEL_PREF : Fld := ⟨35, 35⟩
def F.BOOT_SEL_TRY_VALID : Fld := ⟨34, 34⟩
def F.BOOT_SEL_TRY_BANK : Fld := ⟨33, 33⟩
def F.BOOT_SEL_VBAT_LOST : Fld := ⟨32, 32⟩
def F.BOOT_IMAGE_SVN : Fld := ⟨35, 29⟩
def F.BOOT_IMAGE_KEY_SLOT : Fld := ⟨28, 27⟩
def F.BOOT_IMAGE_SAFETY_SLOT : Fld := ⟨26, 25⟩
def F.BOOT_IMAGE_NSEC : Fld := ⟨24, 20⟩
def F.BOOT_IMAGE_ID_HI_ID : Fld := ⟨31, 0⟩
def F.BOOT_IMAGE_ID_LO_ID : Fld := ⟨31, 0⟩
def F.BOOT_FLAGS_CMD_REFUSED : Fld := ⟨10, 10⟩
def F.BOOT_FLAGS_UNLOCK_FAIL : Fld := ⟨9, 9⟩
def F.BOOT_FLAGS_DEBUG_UNLOCKED : Fld := ⟨8, 8⟩
def F.BOOT_FLAGS_OTP_DONE : Fld := ⟨7, 7⟩
def F.BOOT_FLAGS_ATTEST_DONE : Fld := ⟨6, 6⟩
def F.BOOT_FLAGS_BOOT_FAILED : Fld := ⟨5, 5⟩
def F.BOOT_FLAGS_FLASH_ERR : Fld := ⟨4, 4⟩
def F.BOOT_FLAGS_FLASH_DONE : Fld := ⟨3, 3⟩
def F.BOOT_FLAGS_LANE_REPAIRED : Fld := ⟨2, 2⟩
def F.BOOT_FLAGS_FALLBACK : Fld := ⟨1, 1⟩
def F.BOOT_FLAGS_READY : Fld := ⟨0, 0⟩
def F.BOOT_FLAG_CNT0_COUNT : Fld := ⟨31, 0⟩
def F.BOOT_EVMASK_EN : Fld := ⟨10, 0⟩
def F.BOOT_LANE_STATE : Fld := ⟨35, 34⟩
def F.BOOT_LANE_GROUPS : Fld := ⟨19, 0⟩
def F.BOOT_FLASH_ADDR_BANK : Fld := ⟨35, 35⟩
def F.BOOT_FLASH_ADDR_ADDR : Fld := ⟨27, 0⟩
def F.BOOT_FLASH_CMD_CODE : Fld := ⟨3, 0⟩
def F.BOOT_FLASH_BUF_BYTES : Fld := ⟨31, 0⟩
def F.BOOT_MEAS_BYTES : Fld := ⟨31, 0⟩
def F.SEC_OTP_PROV : Fld := ⟨35, 32⟩
def F.SEC_OTP_REVOKED : Fld := ⟨31, 28⟩
def F.SEC_OTP_DEBUG_OK : Fld := ⟨27, 24⟩
def F.SEC_OTP_ROLLBACK : Fld := ⟨23, 17⟩
def F.SEC_SERIAL_HI_SERIAL : Fld := ⟨31, 0⟩
def F.SEC_SERIAL_LO_SERIAL : Fld := ⟨31, 0⟩
def F.SEC_CMD_DEBUG_OK : Fld := ⟨8, 8⟩
def F.SEC_CMD_ARG : Fld := ⟨7, 4⟩
def F.SEC_CMD_CODE : Fld := ⟨3, 0⟩
def F.SEC_STATUS_BUSY : Fld := ⟨35, 35⟩
def F.SEC_STATUS_DEBUG : Fld := ⟨34, 33⟩
def F.SEC_STATUS_DEBUG_MAX : Fld := ⟨32, 31⟩
def F.SEC_STATUS_UNLOCK_FAILS : Fld := ⟨30, 29⟩
def F.SEC_STATUS_REFUSE : Fld := ⟨28, 25⟩
def F.SEC_DATA_BYTES : Fld := ⟨31, 0⟩
def F.SEC_CERT_LEN_BYTES : Fld := ⟨11, 0⟩
def F.SEC_RPT_BYTES : Fld := ⟨31, 0⟩
def F.SEC_CERT_BYTES : Fld := ⟨31, 0⟩
def F.BEL_DOM_CFG_MAX_DEPTH : Fld := ⟨35, 33⟩
def F.BEL_DOM_CFG_TOL_NS : Fld := ⟨31, 0⟩
def F.BEL_DOM_STATUS_STATE : Fld := ⟨35, 33⟩
def F.BEL_DOM_STATUS_CHOSEN : Fld := ⟨32, 30⟩
def F.BEL_DOM_STATUS_FLOORED : Fld := ⟨29, 29⟩
def F.BEL_DOM_STATUS_DEFERRED : Fld := ⟨28, 28⟩
def F.BEL_DOM_EXITS_VALUE : Fld := ⟨35, 0⟩
def F.BEL_DOM_WAIT_MAX_VALUE : Fld := ⟨35, 0⟩
def F.BEL_LTR_NS : Fld := ⟨24, 0⟩
def F.BEL_THERM_MAX : Fld := ⟨23, 12⟩
def F.BEL_THERM_TEMP : Fld := ⟨11, 0⟩
def F.BEL_THERM_CFG_WARN : Fld := ⟨11, 0⟩
def F.BEL_FLAGS_THERM_WARN : Fld := ⟨2, 2⟩
def F.BEL_FLAGS_DEFERRED : Fld := ⟨1, 1⟩
def F.BEL_FLAGS_WAKE_LATE : Fld := ⟨0, 0⟩
def F.BEL_FLAG_CNT_COUNT : Fld := ⟨23, 0⟩
def F.BEL_EVMASK_EN : Fld := ⟨2, 0⟩
def F.EVM_ROUTE_EN : Fld := ⟨35, 35⟩
def F.EVM_ROUTE_KIND : Fld := ⟨34, 33⟩
def F.EVM_ROUTE_TARGET : Fld := ⟨8, 0⟩
def F.EVM_SRC_CNT_COUNT : Fld := ⟨35, 0⟩
def F.EVM_VEC_CFG_HOLDOFF_RUN : Fld := ⟨17, 17⟩
def F.EVM_VEC_CFG_HOLD_PEND : Fld := ⟨16, 16⟩
def F.EVM_VEC_CFG_HOLDOFF_US : Fld := ⟨15, 0⟩
def F.EVM_VEC_CNT_COUNT : Fld := ⟨35, 0⟩
def F.EVM_STATUS_MSIX_EN : Fld := ⟨35, 35⟩
def F.EVM_STATUS_FUNC_MASK : Fld := ⟨34, 34⟩
def F.EVM_STATUS_REFUSE : Fld := ⟨33, 30⟩
def F.EVM_FLAGS_CMD_REFUSED : Fld := ⟨2, 2⟩
def F.EVM_FLAGS_NOT_GRANTED : Fld := ⟨1, 1⟩
def F.EVM_FLAGS_MSIX_OFF : Fld := ⟨0, 0⟩
def F.EVM_FLAG_CNT_COUNT : Fld := ⟨23, 0⟩
def F.EVM_EVMASK_EN : Fld := ⟨2, 0⟩
def F.RDB_CMD_CODE : Fld := ⟨3, 0⟩
def F.RDB_SNAP_CFG_MASK : Fld := ⟨35, 26⟩
def F.RDB_SNAP_DST_ADDR : Fld := ⟨35, 0⟩
def F.RDB_STATUS_STATE : Fld := ⟨35, 34⟩
def F.RDB_STATUS_REFUSE : Fld := ⟨33, 30⟩
def F.RDB_STATUS_WORDS : Fld := ⟨16, 0⟩
def F.RDB_FLAGS_CMD_REFUSED : Fld := ⟨2, 2⟩
def F.RDB_FLAGS_SNAP_LOST : Fld := ⟨1, 1⟩
def F.RDB_FLAGS_SNAP_DONE : Fld := ⟨0, 0⟩
def F.RDB_FLAG_CNT_COUNT : Fld := ⟨23, 0⟩
def F.RDB_EVMASK_EN : Fld := ⟨2, 0⟩
def F.RDB_RL_SEL_PRIO : Fld := ⟨5, 0⟩
def F.RDB_RL_ENTRY_VALID : Fld := ⟨35, 35⟩
def F.RDB_RL_ENTRY_THREAD : Fld := ⟨8, 0⟩
def F.RDB_PQ_ENTRY_VALUE : Fld := ⟨35, 0⟩
def F.RDB_PQ_PAYLOAD_VALUE : Fld := ⟨35, 0⟩
def F.RDB_BUF_WORD : Fld := ⟨35, 0⟩
def F.HIF_ID_PART : Fld := ⟨35, 20⟩
def F.HIF_ID_REV : Fld := ⟨19, 16⟩
def F.HIF_ID_VENDOR : Fld := ⟨15, 0⟩
def F.HIF_CAP_ARMS_M1 : Fld := ⟨35, 31⟩
def F.HIF_CAP_AXES : Fld := ⟨30, 23⟩
def F.HIF_CAP_CLE_CH : Fld := ⟨22, 15⟩
def F.HIF_CAP_PIF : Fld := ⟨14, 10⟩
def F.HIF_CAP_SINCOS : Fld := ⟨9, 6⟩
def F.HIF_CAP_CBUS_CH : Fld := ⟨5, 4⟩
def F.HIF_CAP_FED_PORTS : Fld := ⟨3, 1⟩
def F.HIF_CAP_HL4060 : Fld := ⟨0, 0⟩
def F.HIF_MAP_MAP_VER : Fld := ⟨7, 0⟩
def F.HIF_LINK_GEN : Fld := ⟨35, 33⟩
def F.HIF_LINK_WIDTH : Fld := ⟨32, 30⟩
def F.HIF_LINK_L1 : Fld := ⟨29, 29⟩
def F.HIF_LINK_BME : Fld := ⟨28, 28⟩
def F.HIF_LINK_D3HOT : Fld := ⟨27, 27⟩
def F.HIF_LINK_MPS : Fld := ⟨26, 24⟩
def F.HIF_LINK_MRRS : Fld := ⟨23, 21⟩
def F.HIF_LINK_TAGS : Fld := ⟨20, 14⟩
def F.HIF_NP_STALL_COUNT : Fld := ⟨35, 0⟩
def F.HIF_WR_DISC_COUNT : Fld := ⟨35, 0⟩
def F.HIF_BAD_ADDR_BAR2 : Fld := ⟨35, 35⟩
def F.HIF_BAD_ADDR_OFFSET : Fld := ⟨31, 0⟩
def F.HIF_FLAGS_CPL_ERR : Fld := ⟨6, 6⟩
def F.HIF_FLAGS_PERST : Fld := ⟨5, 5⟩
def F.HIF_FLAGS_FLR : Fld := ⟨4, 4⟩
def F.HIF_FLAGS_WR_DISCARDED : Fld := ⟨3, 3⟩
def F.HIF_FLAGS_BAD_ACCESS : Fld := ⟨2, 2⟩
def F.HIF_FLAGS_LINK_DOWN : Fld := ⟨1, 1⟩
def F.HIF_FLAGS_LINK_UP : Fld := ⟨0, 0⟩
def F.HIF_FLAG_CNT0_COUNT : Fld := ⟨31, 0⟩
def F.HIF_EVMASK_EN : Fld := ⟨6, 0⟩

/-- The registers of HIF, part 0, in the order of the spec. -/
def regRowsHIF0 : List RegRow := [
  ⟨0x0, [], [⟨F.HIF_ID_PART, .ro, 33064⟩, ⟨F.HIF_ID_REV, .ro, 0⟩, ⟨F.HIF_ID_VENDOR, .ro, 0⟩]⟩,
  ⟨0x1, [], [⟨F.HIF_CAP_ARMS_M1, .ro, 15⟩, ⟨F.HIF_CAP_AXES, .ro, 160⟩, ⟨F.HIF_CAP_CLE_CH, .ro, 192⟩, ⟨F.HIF_CAP_PIF, .ro, 24⟩, ⟨F.HIF_CAP_SINCOS, .ro, 8⟩, ⟨F.HIF_CAP_CBUS_CH, .ro, 2⟩, ⟨F.HIF_CAP_FED_PORTS, .ro, 4⟩, ⟨F.HIF_CAP_HL4060, .ro, 1⟩]⟩,
  ⟨0x2, [], [⟨F.HIF_MAP_MAP_VER, .ro, 1⟩]⟩,
  ⟨0x3, [], [⟨F.HIF_LINK_GEN, .ro, 0⟩, ⟨F.HIF_LINK_WIDTH, .ro, 0⟩, ⟨F.HIF_LINK_L1, .ro, 0⟩, ⟨F.HIF_LINK_BME, .ro, 0⟩, ⟨F.HIF_LINK_D3HOT, .ro, 0⟩, ⟨F.HIF_LINK_MPS, .ro, 0⟩, ⟨F.HIF_LINK_MRRS, .ro, 2⟩, ⟨F.HIF_LINK_TAGS, .ro, 0⟩]⟩,
  ⟨0x4, [], [⟨F.HIF_NP_STALL_COUNT, .clr, 0⟩]⟩,
  ⟨0x5, [], [⟨F.HIF_NP_STALL_COUNT, .clr, 0⟩]⟩,
  ⟨0x6, [], [⟨F.HIF_BAD_ADDR_BAR2, .ro, 0⟩, ⟨F.HIF_BAD_ADDR_OFFSET, .ro, 0⟩]⟩,
  ⟨0x7, [], [⟨F.HIF_FLAGS_CPL_ERR, .w1c, 0⟩, ⟨F.HIF_FLAGS_PERST, .w1c, 0⟩, ⟨F.HIF_FLAGS_FLR, .w1c, 0⟩, ⟨F.HIF_FLAGS_WR_DISCARDED, .w1c, 0⟩, ⟨F.HIF_FLAGS_BAD_ACCESS, .w1c, 0⟩, ⟨F.HIF_FLAGS_LINK_DOWN, .w1c, 0⟩, ⟨F.HIF_FLAGS_LINK_UP, .w1c, 0⟩]⟩,
  ⟨0x8, [], [⟨F.HIF_FLAG_CNT0_COUNT, .cnt, 0⟩]⟩,
  ⟨0x9, [], [⟨F.HIF_FLAG_CNT0_COUNT, .cnt, 0⟩]⟩,
  ⟨0xa, [], [⟨F.HIF_EVMASK_EN, .rw, 78⟩]⟩]

/-- The registers of HIF. -/
def regRowsHIF : List RegRow :=
  regRowsHIF0

/-- The registers of EVM, part 0, in the order of the spec. -/
def regRowsEVM0 : List RegRow := [
  ⟨0x20000, [(256, 1)], [⟨F.EVM_ROUTE_EN, .rw, 0⟩, ⟨F.EVM_ROUTE_KIND, .rw, 0⟩, ⟨F.EVM_ROUTE_TARGET, .rw, 0⟩]⟩,
  ⟨0x20100, [(256, 1)], [⟨F.EVM_SRC_CNT_COUNT, .ro, 0⟩]⟩,
  ⟨0x20200, [(64, 1)], [⟨F.EVM_VEC_CFG_HOLDOFF_RUN, .ro, 0⟩, ⟨F.EVM_VEC_CFG_HOLD_PEND, .ro, 0⟩, ⟨F.EVM_VEC_CFG_HOLDOFF_US, .rw, 0⟩]⟩,
  ⟨0x20240, [(64, 1)], [⟨F.EVM_VEC_CNT_COUNT, .ro, 0⟩]⟩,
  ⟨0x20280, [], [⟨F.EVM_STATUS_MSIX_EN, .ro, 0⟩, ⟨F.EVM_STATUS_FUNC_MASK, .ro, 0⟩, ⟨F.EVM_STATUS_REFUSE, .ro, 0⟩]⟩,
  ⟨0x20281, [], [⟨F.EVM_FLAGS_CMD_REFUSED, .w1c, 0⟩, ⟨F.EVM_FLAGS_NOT_GRANTED, .w1c, 0⟩, ⟨F.EVM_FLAGS_MSIX_OFF, .w1c, 0⟩]⟩,
  ⟨0x20282, [], [⟨F.EVM_FLAG_CNT_COUNT, .cnt, 0⟩]⟩,
  ⟨0x20283, [], [⟨F.EVM_EVMASK_EN, .rw, 5⟩]⟩]

/-- The registers of EVM. -/
def regRowsEVM : List RegRow :=
  regRowsEVM0

/-- The registers of BOOT, part 0, in the order of the spec. -/
def regRowsBOOT0 : List RegRow := [
  ⟨0x40000, [], [⟨F.BOOT_STATUS_STAGE, .ro, 0⟩, ⟨F.BOOT_STATUS_FAIL, .ro, 0⟩, ⟨F.BOOT_STATUS_FAIL_FIRST, .ro, 0⟩, ⟨F.BOOT_STATUS_BANK, .ro, 0⟩, ⟨F.BOOT_STATUS_FALLBACK, .ro, 0⟩, ⟨F.BOOT_STATUS_SLOW, .ro, 0⟩, ⟨F.BOOT_STATUS_SIMPLEX, .ro, 0⟩]⟩,
  ⟨0x40001, [], [⟨F.BOOT_T_CYCLE_US, .ro, 0⟩]⟩,
  ⟨0x40002, [], [⟨F.BOOT_T_CYCLE_US, .ro, 0⟩]⟩,
  ⟨0x40003, [], [⟨F.BOOT_SEL_PREF, .ro, 0⟩, ⟨F.BOOT_SEL_TRY_VALID, .ro, 0⟩, ⟨F.BOOT_SEL_TRY_BANK, .ro, 0⟩, ⟨F.BOOT_SEL_VBAT_LOST, .ro, 0⟩]⟩,
  ⟨0x40004, [], [⟨F.BOOT_IMAGE_SVN, .ro, 0⟩, ⟨F.BOOT_IMAGE_KEY_SLOT, .ro, 0⟩, ⟨F.BOOT_IMAGE_SAFETY_SLOT, .ro, 0⟩, ⟨F.BOOT_IMAGE_NSEC, .ro, 0⟩]⟩,
  ⟨0x40005, [], [⟨F.BOOT_IMAGE_ID_HI_ID, .ro, 0⟩]⟩,
  ⟨0x40006, [], [⟨F.BOOT_IMAGE_ID_HI_ID, .ro, 0⟩]⟩,
  ⟨0x40007, [], [⟨F.BOOT_FLAGS_CMD_REFUSED, .w1c, 0⟩, ⟨F.BOOT_FLAGS_UNLOCK_FAIL, .w1c, 0⟩, ⟨F.BOOT_FLAGS_DEBUG_UNLOCKED, .w1c, 0⟩, ⟨F.BOOT_FLAGS_OTP_DONE, .w1c, 0⟩, ⟨F.BOOT_FLAGS_ATTEST_DONE, .w1c, 0⟩, ⟨F.BOOT_FLAGS_BOOT_FAILED, .w1c, 0⟩, ⟨F.BOOT_FLAGS_FLASH_ERR, .w1c, 0⟩, ⟨F.BOOT_FLAGS_FLASH_DONE, .w1c, 0⟩, ⟨F.BOOT_FLAGS_LANE_REPAIRED, .w1c, 0⟩, ⟨F.BOOT_FLAGS_FALLBACK, .w1c, 0⟩, ⟨F.BOOT_FLAGS_READY, .w1c, 0⟩]⟩,
  ⟨0x40008, [], [⟨F.BOOT_FLAG_CNT0_COUNT, .cnt, 0⟩]⟩,
  ⟨0x40009, [], [⟨F.BOOT_FLAG_CNT0_COUNT, .cnt, 0⟩]⟩,
  ⟨0x4000a, [], [⟨F.BOOT_FLAG_CNT0_COUNT, .cnt, 0⟩]⟩,
  ⟨0x4000b, [], [⟨F.BOOT_EVMASK_EN, .rw, 2047⟩]⟩]

/-- The registers of BOOT, part 1, in the order of the spec. -/
def regRowsBOOT1 : List RegRow := [
  ⟨0x40020, [(15, 2), (2, 1)], [⟨F.BOOT_LANE_STATE, .ro, 0⟩, ⟨F.BOOT_LANE_GROUPS, .ro, 0⟩]⟩,
  ⟨0x40040, [], [⟨F.BOOT_FLASH_ADDR_BANK, .rw, 0⟩, ⟨F.BOOT_FLASH_ADDR_ADDR, .rw, 0⟩]⟩,
  ⟨0x40041, [], [⟨F.BOOT_FLASH_CMD_CODE, .wo, 0⟩]⟩,
  ⟨0x40080, [(64, 1)], [⟨F.BOOT_FLASH_BUF_BYTES, .rw, 0⟩]⟩,
  ⟨0x40200, [(9, 16), (16, 1)], [⟨F.BOOT_MEAS_BYTES, .ro, 0⟩]⟩]

/-- The registers of BOOT. -/
def regRowsBOOT : List RegRow :=
  regRowsBOOT0 ++ regRowsBOOT1

/-- The registers of RED, part 0, in the order of the spec. -/
def regRowsRED0 : List RegRow := [
  ⟨0x60000, [], [⟨F.RED_CFG_MODE, .rw, 0⟩, ⟨F.RED_CFG_ALARM_SIMPLEX, .rw, 1⟩, ⟨F.RED_CFG_COMPAT_PLANE, .rw, 0⟩, ⟨F.RED_CFG_RETIRE_WIN, .rw, 86400⟩, ⟨F.RED_CFG_HOLDOFF_S, .rw, 10⟩]⟩,
  ⟨0x60001, [], [⟨F.RED_SWAP_PERIOD_PERIOD_S, .rw, 3600⟩]⟩,
  ⟨0x60002, [], [⟨F.RED_SWAP_PAT_LO_PAT, .rw, 2863311530⟩]⟩,
  ⟨0x60003, [], [⟨F.RED_SWAP_PAT_LO_PAT, .rw, 2863311530⟩]⟩,
  ⟨0x60004, [], [⟨F.RED_CMD_PLANE, .wo, 0⟩, ⟨F.RED_CMD_CODE, .wo, 0⟩]⟩,
  ⟨0x60005, [], [⟨F.RED_STATUS_CHANTER, .ro, 0⟩, ⟨F.RED_STATUS_GRANTED, .ro, 0⟩, ⟨F.RED_STATUS_MODE, .ro, 0⟩, ⟨F.RED_STATUS_SIMPLEX, .ro, 0⟩, ⟨F.RED_STATUS_HALT, .ro, 0⟩, ⟨F.RED_STATUS_SUSPENDED, .ro, 0⟩, ⟨F.RED_STATUS_SCHED, .ro, 0⟩, ⟨F.RED_STATUS_REFUSE, .ro, 0⟩, ⟨F.RED_STATUS_TO_BOUNDARY, .ro, 0⟩]⟩,
  ⟨0x60006, [], [⟨F.RED_EPOCH_EPOCH, .ro, 0⟩]⟩,
  ⟨0x60008, [(2, 1)], [⟨F.RED_PLANE_STATE, .ro, 0⟩, ⟨F.RED_PLANE_HOLDOFF, .ro, 0⟩, ⟨F.RED_PLANE_PATH_P_OK, .ro, 0⟩, ⟨F.RED_PLANE_PATH_W_OK, .ro, 0⟩, ⟨F.RED_PLANE_MCHK, .ro, 0⟩, ⟨F.RED_PLANE_FAULTS, .ro, 0⟩]⟩,
  ⟨0x6000a, [], [⟨F.RED_LAST_SW_CAUSE, .ro, 0⟩, ⟨F.RED_LAST_SW_GAP, .ro, 0⟩, ⟨F.RED_LAST_SW_FROM, .ro, 0⟩, ⟨F.RED_LAST_SW_CYCLE, .ro, 0⟩]⟩,
  ⟨0x6000c, [(4, 1)], [⟨F.RED_REJECT_COUNT, .clr, 0⟩]⟩,
  ⟨0x60010, [(2, 1)], [⟨F.RED_HEALTH_VALID, .ro, 0⟩, ⟨F.RED_HEALTH_LAST_PASS, .ro, 0⟩, ⟨F.RED_HEALTH_PASSES, .ro, 0⟩, ⟨F.RED_HEALTH_FAILS, .ro, 0⟩]⟩,
  ⟨0x60012, [], [⟨F.RED_FLAGS_DRONE_FAULT, .w1c, 0⟩, ⟨F.RED_FLAGS_CMD_REFUSED, .w1c, 0⟩, ⟨F.RED_FLAGS_HEALTH_FAIL, .w1c, 0⟩, ⟨F.RED_FLAGS_HALT, .w1c, 0⟩, ⟨F.RED_FLAGS_SIMPLEX, .w1c, 0⟩, ⟨F.RED_FLAGS_RETIRED, .w1c, 0⟩, ⟨F.RED_FLAGS_RECOVERED, .w1c, 0⟩, ⟨F.RED_FLAGS_IN_STEP, .w1c, 0⟩, ⟨F.RED_FLAGS_OUT_OF_STEP, .w1c, 0⟩, ⟨F.RED_FLAGS_PATH_W, .w1c, 0⟩, ⟨F.RED_FLAGS_PATH_P, .w1c, 0⟩, ⟨F.RED_FLAGS_SWAP_SKIPPED, .w1c, 0⟩, ⟨F.RED_FLAGS_SWAP_ABORTED, .w1c, 0⟩, ⟨F.RED_FLAGS_SWAPPED, .w1c, 0⟩, ⟨F.RED_FLAGS_FAILOVER, .w1c, 0⟩]⟩]

/-- The registers of RED, part 1, in the order of the spec. -/
def regRowsRED1 : List RegRow := [
  ⟨0x60013, [], [⟨F.RED_FLAG_CNT0_COUNT, .cnt, 0⟩]⟩,
  ⟨0x60014, [], [⟨F.RED_FLAG_CNT0_COUNT, .cnt, 0⟩]⟩,
  ⟨0x60015, [], [⟨F.RED_FLAG_CNT0_COUNT, .cnt, 0⟩]⟩,
  ⟨0x60016, [], [⟨F.RED_FLAG_CNT0_COUNT, .cnt, 0⟩]⟩,
  ⟨0x60017, [], [⟨F.RED_EVMASK_EN, .rw, 24181⟩]⟩]

/-- The registers of RED. -/
def regRowsRED : List RegRow :=
  regRowsRED0 ++ regRowsRED1

/-- The registers of TIM, part 0, in the order of the spec. -/
def regRowsTIM0 : List RegRow := [
  ⟨0x82000, [], [⟨F.TIM_CYC_PERIOD_PERIOD_Q, .rw, 500⟩]⟩,
  ⟨0x82001, [], [⟨F.TIM_CYC_PHASE_PHASE_Q, .rw, 0⟩]⟩,
  ⟨0x82002, [], [⟨F.TIM_CYC_SYNC_OFS_VALUE, .rw, 0⟩]⟩,
  ⟨0x82003, [], [⟨F.TIM_CYC_SYNC_OFS_VALUE, .rw, 45000⟩]⟩,
  ⟨0x82004, [], [⟨F.TIM_CYC_SYNC_OFS_VALUE, .rw, 85000⟩]⟩,
  ⟨0x82005, [], [⟨F.TIM_CYC_SYNC_OFS_VALUE, .rw, 110000⟩]⟩,
  ⟨0x82006, [], [⟨F.TIM_CYC_SYNC_OFS_VALUE, .rw, 60000⟩]⟩,
  ⟨0x82007, [], [⟨F.TIM_CYC_CMD_CODE, .wo, 0⟩]⟩,
  ⟨0x82008, [], [⟨F.TIM_CYC_STATUS_STATE, .ro, 0⟩, ⟨F.TIM_CYC_STATUS_PHASE, .ro, 0⟩, ⟨F.TIM_CYC_STATUS_REFUSE, .ro, 0⟩, ⟨F.TIM_CYC_STATUS_LAST_ISLAND, .ro, 0⟩, ⟨F.TIM_CYC_STATUS_STEP_DEFERRED, .ro, 0⟩]⟩,
  ⟨0x82009, [], [⟨F.TIM_CYC_FLAGS_EVP_RANGE, .w1c, 0⟩, ⟨F.TIM_CYC_FLAGS_DISPATCH_LATE, .w1c, 0⟩, ⟨F.TIM_CYC_FLAGS_ENGINE_LATE, .w1c, 0⟩, ⟨F.TIM_CYC_FLAGS_FB_LATE, .w1c, 0⟩, ⟨F.TIM_CYC_FLAGS_TIME_STEPPED, .w1c, 0⟩, ⟨F.TIM_CYC_FLAGS_CMD_REFUSED, .w1c, 0⟩, ⟨F.TIM_CYC_FLAGS_TIME_LOST, .w1c, 0⟩, ⟨F.TIM_CYC_FLAGS_BEACON_MISS, .w1c, 0⟩]⟩,
  ⟨0x8200a, [], [⟨F.TIM_CYC_FLAG_CNT0_COUNT, .cnt, 0⟩]⟩,
  ⟨0x8200b, [], [⟨F.TIM_CYC_FLAG_CNT0_COUNT, .cnt, 0⟩]⟩]

/-- The registers of TIM, part 1, in the order of the spec. -/
def regRowsTIM1 : List RegRow := [
  ⟨0x8200c, [], [⟨F.TIM_CYC_NUM_NUM, .ro, 0⟩]⟩,
  ⟨0x8200d, [], [⟨F.TIM_CYC_NUM_NUM, .ro, 0⟩]⟩,
  ⟨0x8200e, [], [⟨F.TIM_CYC_CT0_CT0, .ro, 0⟩]⟩,
  ⟨0x8200f, [], [⟨F.TIM_CYC_CT0_CT0, .ro, 0⟩]⟩,
  ⟨0x82010, [], [⟨F.TIM_CYC_ACT_PERIOD_VALUE, .ro, 500⟩]⟩,
  ⟨0x82011, [], [⟨F.TIM_CYC_ACT_PERIOD_VALUE, .ro, 0⟩]⟩,
  ⟨0x82012, [], [⟨F.TIM_CYC_ACT_PERIOD_VALUE, .ro, 0⟩]⟩,
  ⟨0x82013, [], [⟨F.TIM_CYC_ACT_PERIOD_VALUE, .ro, 45000⟩]⟩,
  ⟨0x82014, [], [⟨F.TIM_CYC_ACT_PERIOD_VALUE, .ro, 85000⟩]⟩,
  ⟨0x82015, [], [⟨F.TIM_CYC_ACT_PERIOD_VALUE, .ro, 110000⟩]⟩,
  ⟨0x82016, [], [⟨F.TIM_CYC_ACT_PERIOD_VALUE, .ro, 60000⟩]⟩,
  ⟨0x82020, [(16, 1)], [⟨F.TIM_CYC_EVP_EN, .rw, 0⟩, ⟨F.TIM_CYC_EVP_DIV, .rw, 0⟩, ⟨F.TIM_CYC_EVP_SEL_PHASE, .rw, 0⟩, ⟨F.TIM_CYC_EVP_OFFSET_NS, .rw, 0⟩]⟩]

/-- The registers of TIM, part 2, in the order of the spec. -/
def regRowsTIM2 : List RegRow := [
  ⟨0x80000, [], [⟨F.TIM_SRC_KIND, .rw, 1⟩, ⟨F.TIM_SRC_INST, .rw, 0⟩]⟩,
  ⟨0x80001, [], [⟨F.TIM_CMD_CODE, .wo, 0⟩]⟩,
  ⟨0x80002, [], [⟨F.TIM_STATUS_SERVO, .ro, 0⟩, ⟨F.TIM_STATUS_STEPPED, .ro, 0⟩, ⟨F.TIM_STATUS_CAL_VALID, .ro, 0⟩, ⟨F.TIM_STATUS_PTP_TIMESCALE, .ro, 0⟩]⟩,
  ⟨0x80003, [], [⟨F.TIM_RATE_RHO, .ro, 0⟩]⟩,
  ⟨0x80004, [], [⟨F.TIM_NOW_TIME, .ro, 0⟩]⟩,
  ⟨0x80005, [], [⟨F.TIM_NOW_TIME, .ro, 0⟩]⟩,
  ⟨0x80006, [], [⟨F.TIM_NOW_TIME, .ro, 0⟩]⟩,
  ⟨0x80007, [], [⟨F.TIM_NOW_TIME, .ro, 0⟩]⟩,
  ⟨0x80008, [], [⟨F.TIM_NOW_TIME, .rw, 0⟩]⟩,
  ⟨0x80009, [], [⟨F.TIM_NOW_TIME, .rw, 0⟩]⟩,
  ⟨0x8000a, [], [⟨F.TIM_NOW_TIME, .ro, 0⟩]⟩,
  ⟨0x8000b, [], [⟨F.TIM_NOW_TIME, .ro, 0⟩]⟩]

/-- The registers of TIM, part 3, in the order of the spec. -/
def regRowsTIM3 : List RegRow := [
  ⟨0x8000c, [], [⟨F.TIM_CAL_TRIM_AUTO, .rw, 1⟩, ⟨F.TIM_CAL_TRIM_TRIM_SET, .rw, 0⟩, ⟨F.TIM_CAL_TRIM_TRIM, .ro, 0⟩]⟩,
  ⟨0x8000d, [], [⟨F.TIM_UTC_VALID, .ro, 0⟩, ⟨F.TIM_UTC_LEAP61, .ro, 0⟩, ⟨F.TIM_UTC_LEAP59, .ro, 0⟩, ⟨F.TIM_UTC_OFFSET, .ro, 0⟩]⟩,
  ⟨0x8000e, [], [⟨F.TIM_PPS_CFG_OUT_EN, .rw, 0⟩, ⟨F.TIM_PPS_CFG_IN_EN, .rw, 0⟩, ⟨F.TIM_PPS_CFG_WIDTH_MS, .rw, 100⟩]⟩,
  ⟨0x8000f, [], [⟨F.TIM_FLAGS_CMD_REFUSED, .w1c, 0⟩, ⟨F.TIM_FLAGS_TRIM_LIMIT, .w1c, 0⟩, ⟨F.TIM_FLAGS_PPS_MISS, .w1c, 0⟩, ⟨F.TIM_FLAGS_CAL_INVALID, .w1c, 0⟩, ⟨F.TIM_FLAGS_TIME_JUMP, .w1c, 0⟩, ⟨F.TIM_FLAGS_LOCK_LOST, .w1c, 0⟩, ⟨F.TIM_FLAGS_LOCK, .w1c, 0⟩]⟩,
  ⟨0x80010, [], [⟨F.TIM_FLAG_CNT0_COUNT, .cnt, 0⟩]⟩,
  ⟨0x80011, [], [⟨F.TIM_FLAG_CNT0_COUNT, .cnt, 0⟩]⟩,
  ⟨0x80012, [], [⟨F.TIM_EVMASK_CYC, .rw, 62⟩, ⟨F.TIM_EVMASK_EN, .rw, 94⟩]⟩]

/-- The registers of TIM. -/
def regRowsTIM : List RegRow :=
  regRowsTIM0 ++ regRowsTIM1 ++ regRowsTIM2 ++ regRowsTIM3

/-- The registers of BEL, part 0, in the order of the spec. -/
def regRowsBEL0 : List RegRow := [
  ⟨0xa0000, [(12, 4)], [⟨F.BEL_DOM_CFG_MAX_DEPTH, .rw, 4⟩, ⟨F.BEL_DOM_CFG_TOL_NS, .rw, 0⟩]⟩,
  ⟨0xa0001, [(12, 4)], [⟨F.BEL_DOM_STATUS_STATE, .ro, 0⟩, ⟨F.BEL_DOM_STATUS_CHOSEN, .ro, 0⟩, ⟨F.BEL_DOM_STATUS_FLOORED, .ro, 0⟩, ⟨F.BEL_DOM_STATUS_DEFERRED, .ro, 0⟩]⟩,
  ⟨0xa0002, [(12, 4)], [⟨F.BEL_DOM_EXITS_VALUE, .clr, 0⟩]⟩,
  ⟨0xa0003, [(12, 4)], [⟨F.BEL_DOM_EXITS_VALUE, .clr, 0⟩]⟩,
  ⟨0xa0040, [], [⟨F.BEL_LTR_NS, .rw, 0⟩]⟩,
  ⟨0xa0060, [(8, 1)], [⟨F.BEL_THERM_MAX, .clr, 2048⟩, ⟨F.BEL_THERM_TEMP, .ro, 0⟩]⟩,
  ⟨0xa0068, [], [⟨F.BEL_THERM_CFG_WARN, .rw, 1600⟩]⟩,
  ⟨0xa0080, [], [⟨F.BEL_FLAGS_THERM_WARN, .w1c, 0⟩, ⟨F.BEL_FLAGS_DEFERRED, .w1c, 0⟩, ⟨F.BEL_FLAGS_WAKE_LATE, .w1c, 0⟩]⟩,
  ⟨0xa0081, [], [⟨F.BEL_FLAG_CNT_COUNT, .cnt, 0⟩]⟩,
  ⟨0xa0082, [], [⟨F.BEL_EVMASK_EN, .rw, 5⟩]⟩]

/-- The registers of BEL. -/
def regRowsBEL : List RegRow :=
  regRowsBEL0

/-- The registers of SSM2, part 0, in the order of the spec. -/
def regRowsSSM20 : List RegRow := [
  ⟨0xc0001, [], [⟨F.SSM_PAR_CRC_CRC, .ro, 0⟩]⟩,
  ⟨0xc0023, [(16, 8)], [⟨F.SSM_ARM_STATE_STOP_REQ, .ro, 0⟩, ⟨F.SSM_ARM_STATE_CAT, .ro, 0⟩, ⟨F.SSM_ARM_STATE_CAUSE, .ro, 0⟩, ⟨F.SSM_ARM_STATE_MONITORING, .ro, 0⟩, ⟨F.SSM_ARM_STATE_NEAREST, .ro, 0⟩]⟩,
  ⟨0xc0200, [(128, 1)], [⟨F.SSM_CONN_OK, .ro, 0⟩, ⟨F.SSM_CONN_ERR, .ro, 0⟩, ⟨F.SSM_CONN_SEQ, .ro, 0⟩, ⟨F.SSM_CONN_ERRCNT, .clr, 0⟩]⟩,
  ⟨0xc0000, [], [⟨F.SSM2_STATUS_SSA, .ro, 0⟩, ⟨F.SSM2_STATUS_SSB, .ro, 0⟩, ⟨F.SSM2_STATUS_DROP_CAUSE, .ro, 1⟩, ⟨F.SSM2_STATUS_STATE, .ro, 0⟩, ⟨F.SSM2_STATUS_T2_LOG2, .ro, 0⟩]⟩,
  ⟨0xc0002, [], [⟨F.SSM2_CMD_CODE, .wo, 0⟩]⟩,
  ⟨0xc0003, [], [⟨F.SSM2_DISC_QTY, .ro, 0⟩, ⟨F.SSM2_DISC_INDEX, .ro, 0⟩, ⟨F.SSM2_DISC_RUN, .ro, 0⟩, ⟨F.SSM2_DISC_CYCLE, .ro, 0⟩]⟩,
  ⟨0xc0004, [], [⟨F.SSM2_FLAGS_CMD_REFUSED, .w1c, 0⟩, ⟨F.SSM2_FLAGS_OUT_FAULT, .w1c, 0⟩, ⟨F.SSM2_FLAGS_RESET_DONE, .w1c, 0⟩, ⟨F.SSM2_FLAGS_DROP, .w1c, 0⟩, ⟨F.SSM2_FLAGS_PEER_MISSING, .w1c, 0⟩, ⟨F.SSM2_FLAGS_BORDER_STALE, .w1c, 0⟩, ⟨F.SSM2_FLAGS_ENV_LOST, .w1c, 0⟩, ⟨F.SSM2_FLAGS_ENV_ERR, .w1c, 0⟩, ⟨F.SSM2_FLAGS_DISCREPANCY, .w1c, 0⟩, ⟨F.SSM2_FLAGS_STOP_MON_FAIL, .w1c, 0⟩, ⟨F.SSM2_FLAGS_STOP_REQ, .w1c, 0⟩]⟩,
  ⟨0xc0005, [], [⟨F.SSM2_FLAG_CNT0_COUNT, .cnt, 0⟩]⟩,
  ⟨0xc0006, [], [⟨F.SSM2_FLAG_CNT0_COUNT, .cnt, 0⟩]⟩,
  ⟨0xc0007, [], [⟨F.SSM2_FLAG_CNT0_COUNT, .cnt, 0⟩]⟩,
  ⟨0xc0008, [], [⟨F.SSM2_EVMASK_EN, .rw, 2047⟩]⟩,
  ⟨0xc0021, [(16, 8)], [⟨F.SSM2_ARM_MARGIN_VALUE, .ro, 0⟩]⟩]

/-- The registers of SSM2, part 1, in the order of the spec. -/
def regRowsSSM21 : List RegRow := [
  ⟨0xc0022, [(16, 8)], [⟨F.SSM2_ARM_MARGIN_VALUE, .ro, 0⟩]⟩]

/-- The registers of SSM2. -/
def regRowsSSM2 : List RegRow :=
  regRowsSSM20 ++ regRowsSSM21

/-- The registers of CBUS, part 0, in the order of the spec. -/
def regRowsCBUS0 : List RegRow := [
  ⟨0x100000, [], [⟨F.CBUS_CFG_ETHERTYPE, .rw, 34997⟩]⟩,
  ⟨0x100001, [], [⟨F.CBUS_MAC_HI_BYTES, .rw, 0⟩]⟩,
  ⟨0x100002, [], [⟨F.CBUS_MAC_HI_BYTES, .rw, 0⟩]⟩,
  ⟨0x100003, [], [⟨F.CBUS_TXIMG_BASE_ADDR, .rw, 0⟩]⟩,
  ⟨0x100004, [], [⟨F.CBUS_TXIMG_BASE_ADDR, .rw, 0⟩]⟩,
  ⟨0x102000, [(2, 8192)], [⟨F.CBUS_CH_CFG_SPEED, .rw, 1⟩, ⟨F.CBUS_CH_CFG_COMPAT, .rw, 0⟩, ⟨F.CBUS_CH_CFG_MISS_N, .rw, 3⟩, ⟨F.CBUS_CH_CFG_GUARD, .rw, 200⟩]⟩,
  ⟨0x102001, [(2, 8192)], [⟨F.CBUS_CH_LAT_TX_LAT, .rw, 0⟩, ⟨F.CBUS_CH_LAT_RX_LAT, .rw, 0⟩]⟩,
  ⟨0x102002, [(2, 8192)], [⟨F.CBUS_CH_CMD_CODE, .wo, 0⟩]⟩,
  ⟨0x102003, [(2, 8192)], [⟨F.CBUS_CH_ARG_STATION, .rw, 0⟩]⟩,
  ⟨0x102004, [(2, 8192)], [⟨F.CBUS_CH_STATUS_STATE, .ro, 0⟩, ⟨F.CBUS_CH_STATUS_FOUND, .ro, 0⟩, ⟨F.CBUS_CH_STATUS_REFUSE, .ro, 0⟩, ⟨F.CBUS_CH_STATUS_ACT_BANK, .ro, 0⟩]⟩,
  ⟨0x102005, [(2, 8192)], [⟨F.CBUS_CH_FLAGS_PROBE_DONE, .w1c, 0⟩, ⟨F.CBUS_CH_FLAGS_LATE_APPLY, .w1c, 0⟩, ⟨F.CBUS_CH_FLAGS_DISPATCH_LATE, .w1c, 0⟩, ⟨F.CBUS_CH_FLAGS_MASTER_MUTE, .w1c, 0⟩, ⟨F.CBUS_CH_FLAGS_MUTE_WARN, .w1c, 0⟩, ⟨F.CBUS_CH_FLAGS_CRC_ERR, .w1c, 0⟩, ⟨F.CBUS_CH_FLAGS_TIMING_MARGIN, .w1c, 0⟩, ⟨F.CBUS_CH_FLAGS_MISSED_SLOT, .w1c, 0⟩, ⟨F.CBUS_CH_FLAGS_STATION_MISMATCH, .w1c, 0⟩, ⟨F.CBUS_CH_FLAGS_STATION_BACK, .w1c, 0⟩, ⟨F.CBUS_CH_FLAGS_STATION_LOST, .w1c, 0⟩, ⟨F.CBUS_CH_FLAGS_LINK_DOWN, .w1c, 0⟩, ⟨F.CBUS_CH_FLAGS_FOREIGN_MASTER, .w1c, 0⟩, ⟨F.CBUS_CH_FLAGS_CMD_REFUSED, .w1c, 0⟩, ⟨F.CBUS_CH_FLAGS_STATE_CHANGED, .w1c, 0⟩]⟩,
  ⟨0x102006, [(2, 8192)], [⟨F.CBUS_CH_FLAG_CNT0_COUNT, .cnt, 0⟩]⟩]

/-- The registers of CBUS, part 1, in the order of the spec. -/
def regRowsCBUS1 : List RegRow := [
  ⟨0x102007, [(2, 8192)], [⟨F.CBUS_CH_FLAG_CNT0_COUNT, .cnt, 0⟩]⟩,
  ⟨0x102008, [(2, 8192)], [⟨F.CBUS_CH_FLAG_CNT0_COUNT, .cnt, 0⟩]⟩,
  ⟨0x102009, [(2, 8192)], [⟨F.CBUS_CH_FLAG_CNT0_COUNT, .cnt, 0⟩]⟩,
  ⟨0x10200a, [(2, 8192)], [⟨F.CBUS_CH_EVMASK_EN, .rw, 18559⟩]⟩,
  ⟨0x10200b, [(2, 8192)], [⟨F.CBUS_CH_CNT_MISS_COUNT, .clr, 0⟩]⟩,
  ⟨0x10200c, [(2, 8192)], [⟨F.CBUS_CH_CNT_MISS_COUNT, .clr, 0⟩]⟩,
  ⟨0x10200d, [(2, 8192)], [⟨F.CBUS_CH_CNT_MISS_COUNT, .clr, 0⟩]⟩,
  ⟨0x10200e, [(2, 8192)], [⟨F.CBUS_CH_CNT_MISS_COUNT, .clr, 0⟩]⟩,
  ⟨0x102020, [(2, 8192), (64, 4)], [⟨F.CBUS_STN_DELAY_P, .ro, 0⟩, ⟨F.CBUS_STN_DELAY_U, .ro, 0⟩]⟩,
  ⟨0x102021, [(2, 8192), (64, 4)], [⟨F.CBUS_STN_MEAS_TA, .ro, 0⟩, ⟨F.CBUS_STN_MEAS_FD, .ro, 0⟩, ⟨F.CBUS_STN_MEAS_FU, .ro, 0⟩]⟩,
  ⟨0x102022, [(2, 8192), (64, 4)], [⟨F.CBUS_STN_STATUS_STATE, .ro, 0⟩, ⟨F.CBUS_STN_STATUS_MISS_RUN, .ro, 0⟩, ⟨F.CBUS_STN_STATUS_NULL_HOLD, .ro, 0⟩, ⟨F.CBUS_STN_STATUS_EXTRAP, .ro, 0⟩, ⟨F.CBUS_STN_STATUS_APPLY_SETUP, .ro, 0⟩, ⟨F.CBUS_STN_STATUS_END, .ro, 0⟩]⟩,
  ⟨0x102023, [(2, 8192), (64, 4)], [⟨F.CBUS_STN_ID_ID, .ro, 0⟩]⟩]

/-- The registers of CBUS, part 2, in the order of the spec. -/
def regRowsCBUS2 : List RegRow := [
  ⟨0x102200, [(2, 8192), (2, 1024), (256, 4)], [⟨F.CBUS_SLOT_TIME_TIME, .rw, 0⟩]⟩,
  ⟨0x102201, [(2, 8192), (2, 1024), (256, 4)], [⟨F.CBUS_SLOT_CFG_EN, .rw, 0⟩, ⟨F.CBUS_SLOT_CFG_KIND, .rw, 0⟩, ⟨F.CBUS_SLOT_CFG_MUX_LOG2, .rw, 0⟩, ⟨F.CBUS_SLOT_CFG_MUX_PHASE, .rw, 0⟩, ⟨F.CBUS_SLOT_CFG_STATION, .rw, 0⟩]⟩,
  ⟨0x102202, [(2, 8192), (2, 1024), (256, 4)], [⟨F.CBUS_SLOT_TX_TXMAP_FIRST, .rw, 0⟩, ⟨F.CBUS_SLOT_TX_TXMAP_N, .rw, 0⟩, ⟨F.CBUS_SLOT_TX_TX_WORDS, .rw, 0⟩]⟩,
  ⟨0x102203, [(2, 8192), (2, 1024), (256, 4)], [⟨F.CBUS_SLOT_RX_RX_WORDS, .rw, 0⟩, ⟨F.CBUS_SLOT_RX_RX_SWORDS, .rw, 0⟩, ⟨F.CBUS_SLOT_RX_RX_OFS, .rw, 0⟩]⟩,
  ⟨0x103000, [(2, 8192), (2, 2048), (2048, 1)], [⟨F.CBUS_TXMAP_COUNT, .rw, 0⟩, ⟨F.CBUS_TXMAP_OFFSET, .rw, 0⟩]⟩]

/-- The registers of CBUS. -/
def regRowsCBUS : List RegRow :=
  regRowsCBUS0 ++ regRowsCBUS1 ++ regRowsCBUS2

/-- The registers of FED, part 0, in the order of the spec. -/
def regRowsFED0 : List RegRow := [
  ⟨0x120000, [], [⟨F.FED_CFG_FED_ID, .rw, 0⟩, ⟨F.FED_CFG_ETHERTYPE, .rw, 34998⟩, ⟨F.FED_CFG_JUMBO, .rw, 0⟩]⟩,
  ⟨0x120001, [], [⟨F.FED_EXCH_CFG_EN, .rw, 0⟩, ⟨F.FED_EXCH_CFG_EXCH_OFS, .rw, 50000⟩]⟩,
  ⟨0x120002, [], [⟨F.FED_CLOCK_ID_HI_ID, .ro, 0⟩]⟩,
  ⟨0x120003, [], [⟨F.FED_CLOCK_ID_HI_ID, .ro, 0⟩]⟩,
  ⟨0x120004, [], [⟨F.FED_FLAGS_CMD_REFUSED, .w1c, 0⟩, ⟨F.FED_FLAGS_STREAM_REFUSED, .w1c, 0⟩, ⟨F.FED_FLAGS_OVERSIZE, .w1c, 0⟩, ⟨F.FED_FLAGS_FRAME_MISSED, .w1c, 0⟩, ⟨F.FED_FLAGS_FRAME_LATE, .w1c, 0⟩, ⟨F.FED_FLAGS_PHASE_MISMATCH, .w1c, 0⟩, ⟨F.FED_FLAGS_ID_CLASH, .w1c, 0⟩, ⟨F.FED_FLAGS_UNKNOWN_PEER, .w1c, 0⟩, ⟨F.FED_FLAGS_EXCH_ORDER, .w1c, 0⟩]⟩,
  ⟨0x120005, [], [⟨F.FED_FLAG_CNT0_COUNT, .cnt, 0⟩]⟩,
  ⟨0x120006, [], [⟨F.FED_FLAG_CNT0_COUNT, .cnt, 0⟩]⟩,
  ⟨0x120007, [], [⟨F.FED_FLAG_CNT0_COUNT, .cnt, 0⟩]⟩,
  ⟨0x120008, [], [⟨F.FED_EVMASK_EN, .rw, 445⟩]⟩,
  ⟨0x120200, [(4, 32)], [⟨F.FED_PORT_CFG_EN, .rw, 0⟩, ⟨F.FED_PORT_CFG_SPEED, .rw, 3⟩, ⟨F.FED_PORT_CFG_VLAN_EN, .rw, 0⟩, ⟨F.FED_PORT_CFG_PCP, .rw, 7⟩, ⟨F.FED_PORT_CFG_VID, .rw, 0⟩]⟩,
  ⟨0x120201, [(4, 32)], [⟨F.FED_PORT_MAC_HI_VALUE, .rw, 0⟩]⟩,
  ⟨0x120202, [(4, 32)], [⟨F.FED_PORT_MAC_HI_VALUE, .rw, 0⟩]⟩]

/-- The registers of FED, part 1, in the order of the spec. -/
def regRowsFED1 : List RegRow := [
  ⟨0x120203, [(4, 32)], [⟨F.FED_PORT_MAC_HI_VALUE, .rw, 0⟩]⟩,
  ⟨0x120204, [(4, 32)], [⟨F.FED_PORT_LAT_TX_PHY, .rw, 0⟩, ⟨F.FED_PORT_LAT_RX_PHY, .rw, 0⟩]⟩,
  ⟨0x120205, [(4, 32)], [⟨F.FED_PORT_ASYM_ASYM, .rw, 0⟩]⟩,
  ⟨0x120206, [(4, 32)], [⟨F.FED_PORT_STATUS_LINK, .ro, 0⟩]⟩,
  ⟨0x120207, [(4, 32)], [⟨F.FED_PORT_FLAGS_FCS_ERR, .w1c, 0⟩, ⟨F.FED_PORT_FLAGS_LINK_UP, .w1c, 0⟩, ⟨F.FED_PORT_FLAGS_LINK_DOWN, .w1c, 0⟩]⟩,
  ⟨0x120208, [(4, 32)], [⟨F.FED_PORT_FLAG_CNT_COUNT, .cnt, 0⟩]⟩,
  ⟨0x120209, [(4, 32)], [⟨F.FED_PORT_EVMASK_EN, .rw, 3⟩]⟩,
  ⟨0x122000, [(8, 64)], [⟨F.FED_PTP_CFG_EN, .rw, 0⟩, ⟨F.FED_PTP_CFG_PROFILE, .rw, 0⟩, ⟨F.FED_PTP_CFG_TRANSPORT, .rw, 0⟩, ⟨F.FED_PTP_CFG_DELAY, .rw, 0⟩, ⟨F.FED_PTP_CFG_ONE_STEP, .rw, 1⟩, ⟨F.FED_PTP_CFG_SLAVE_ONLY, .rw, 0⟩, ⟨F.FED_PTP_CFG_PORTS, .rw, 0⟩, ⟨F.FED_PTP_CFG_DOMAIN, .rw, 0⟩, ⟨F.FED_PTP_CFG_LOG_SYNC, .rw, 13⟩, ⟨F.FED_PTP_CFG_LOG_DELAY, .rw, 0⟩, ⟨F.FED_PTP_CFG_LOG_ANNOUNCE, .rw, 0⟩]⟩,
  ⟨0x122001, [(8, 64)], [⟨F.FED_PTP_DS_PRIORITY1, .rw, 248⟩, ⟨F.FED_PTP_DS_PRIORITY2, .rw, 248⟩, ⟨F.FED_PTP_DS_CLASS, .rw, 248⟩, ⟨F.FED_PTP_DS_ACCURACY, .rw, 254⟩]⟩,
  ⟨0x122002, [(8, 64)], [⟨F.FED_PTP_VAR_VARIANCE, .rw, 65535⟩]⟩,
  ⟨0x122003, [(8, 64)], [⟨F.FED_PTP_SERVO_KP_SH, .rw, 1⟩, ⟨F.FED_PTP_SERVO_KI_SH, .rw, 4⟩, ⟨F.FED_PTP_SERVO_LOCK_N, .rw, 8⟩, ⟨F.FED_PTP_SERVO_LOCK_NS, .rw, 50⟩, ⟨F.FED_PTP_SERVO_STEP_THR, .rw, 1000⟩, ⟨F.FED_PTP_SERVO_HOLD_N, .rw, 4⟩]⟩,
  ⟨0x122004, [(8, 64)], [⟨F.FED_PTP_CMD_CODE, .wo, 0⟩]⟩]

/-- The registers of FED, part 2, in the order of the spec. -/
def regRowsFED2 : List RegRow := [
  ⟨0x122005, [(8, 64)], [⟨F.FED_PTP_STATUS_STATE, .ro, 0⟩, ⟨F.FED_PTP_STATUS_STEERING, .ro, 0⟩, ⟨F.FED_PTP_STATUS_PORT_STATE, .ro, 0⟩, ⟨F.FED_PTP_STATUS_STEPS, .ro, 0⟩]⟩,
  ⟨0x122006, [(8, 64)], [⟨F.FED_PTP_OFS_VALUE, .ro, 0⟩]⟩,
  ⟨0x122007, [(8, 64)], [⟨F.FED_PTP_OFS_VALUE, .ro, 0⟩]⟩,
  ⟨0x122008, [(8, 64)], [⟨F.FED_PTP_OFS_VALUE, .ro, 0⟩]⟩,
  ⟨0x122009, [(8, 64)], [⟨F.FED_PTP_GM_HI_ID, .ro, 0⟩]⟩,
  ⟨0x12200a, [(8, 64)], [⟨F.FED_PTP_GM_HI_ID, .ro, 0⟩]⟩,
  ⟨0x12200b, [(8, 64)], [⟨F.FED_PTP_TIME_TIME, .ro, 0⟩]⟩,
  ⟨0x12200c, [(8, 64)], [⟨F.FED_PTP_TIME_TIME, .ro, 0⟩]⟩,
  ⟨0x12200d, [(8, 64)], [⟨F.FED_PTP_FLAGS_CMD_REFUSED, .w1c, 0⟩, ⟨F.FED_PTP_FLAGS_MSG_ERR, .w1c, 0⟩, ⟨F.FED_PTP_FLAGS_STATE_CHANGED, .w1c, 0⟩, ⟨F.FED_PTP_FLAGS_GM_CHANGED, .w1c, 0⟩, ⟨F.FED_PTP_FLAGS_TIME_JUMP, .w1c, 0⟩, ⟨F.FED_PTP_FLAGS_LOCK_LOST, .w1c, 0⟩, ⟨F.FED_PTP_FLAGS_LOCK, .w1c, 0⟩]⟩,
  ⟨0x12200e, [(8, 64)], [⟨F.FED_PTP_FLAG_CNT0_COUNT, .cnt, 0⟩]⟩,
  ⟨0x12200f, [(8, 64)], [⟨F.FED_PTP_FLAG_CNT0_COUNT, .cnt, 0⟩]⟩,
  ⟨0x122010, [(8, 64)], [⟨F.FED_PTP_EVMASK_EN, .rw, 47⟩]⟩]

/-- The registers of FED, part 3, in the order of the spec. -/
def regRowsFED3 : List RegRow := [
  ⟨0x124000, [(16, 8)], [⟨F.FED_PEER_CFG_EN, .rw, 0⟩, ⟨F.FED_PEER_CFG_SERVER, .rw, 0⟩, ⟨F.FED_PEER_CFG_PORT, .rw, 0⟩, ⟨F.FED_PEER_CFG_PEER_ID, .rw, 0⟩, ⟨F.FED_PEER_CFG_SEND, .rw, 15⟩]⟩,
  ⟨0x124001, [(16, 8)], [⟨F.FED_PEER_ARMS_MASK, .rw, 0⟩]⟩,
  ⟨0x124002, [(16, 8)], [⟨F.FED_PEER_MAC_HI_BYTES, .rw, 0⟩]⟩,
  ⟨0x124003, [(16, 8)], [⟨F.FED_PEER_MAC_HI_BYTES, .rw, 0⟩]⟩,
  ⟨0x124004, [(16, 8)], [⟨F.FED_PEER_STATUS_MISS, .w1c, 0⟩, ⟨F.FED_PEER_STATUS_MISS_RUN, .ro, 0⟩, ⟨F.FED_PEER_STATUS_MISS_CNT, .clr, 0⟩]⟩,
  ⟨0x124005, [(16, 8)], [⟨F.FED_PEER_LAYER_LAYER, .ro, 0⟩]⟩]

/-- The registers of FED. -/
def regRowsFED : List RegRow :=
  regRowsFED0 ++ regRowsFED1 ++ regRowsFED2 ++ regRowsFED3

/-- The registers of FIO, part 0, in the order of the spec. -/
def regRowsFIO0 : List RegRow := [
  ⟨0x140000, [], [⟨F.FIO_CFG_SAG_RESTORE, .rw, 0⟩, ⟨F.FIO_CFG_HOLD_N, .rw, 16⟩]⟩,
  ⟨0x140001, [], [⟨F.FIO_CMD_CODE, .wo, 0⟩]⟩,
  ⟨0x140002, [], [⟨F.FIO_STATUS_SUPPLY, .ro, 0⟩, ⟨F.FIO_STATUS_FAILSAFE, .ro, 0⟩, ⟨F.FIO_STATUS_SSA, .ro, 0⟩, ⟨F.FIO_STATUS_SSA_REQ, .ro, 0⟩, ⟨F.FIO_STATUS_REFUSE, .ro, 0⟩, ⟨F.FIO_STATUS_VFIELD, .ro, 0⟩]⟩,
  ⟨0x140003, [], [⟨F.FIO_FLAGS_CMD_REFUSED, .w1c, 0⟩, ⟨F.FIO_FLAGS_PICOT_OVF, .w1c, 0⟩, ⟨F.FIO_FLAGS_SSA_MISMATCH, .w1c, 0⟩, ⟨F.FIO_FLAGS_SSA_DROP, .w1c, 0⟩, ⟨F.FIO_FLAGS_BEACON_LOST, .w1c, 0⟩, ⟨F.FIO_FLAGS_COMMIT_LOST, .w1c, 0⟩, ⟨F.FIO_FLAGS_SAG_RESTORED, .w1c, 0⟩, ⟨F.FIO_FLAGS_SAG_CUT, .w1c, 0⟩, ⟨F.FIO_FLAGS_SAG_WARN, .w1c, 0⟩]⟩,
  ⟨0x140004, [], [⟨F.FIO_FLAG_CNT0_COUNT, .cnt, 0⟩]⟩,
  ⟨0x140005, [], [⟨F.FIO_FLAG_CNT0_COUNT, .cnt, 0⟩]⟩,
  ⟨0x140006, [], [⟨F.FIO_FLAG_CNT0_COUNT, .cnt, 0⟩]⟩,
  ⟨0x140007, [], [⟨F.FIO_EVMASK_EN, .rw, 511⟩]⟩,
  ⟨0x140008, [], [⟨F.FIO_IMG_BASE_ADDR, .rw, 0⟩]⟩,
  ⟨0x140009, [], [⟨F.FIO_IMG_BASE_ADDR, .rw, 0⟩]⟩,
  ⟨0x14000a, [], [⟨F.FIO_PICOT_CFG_SIZE_LOG2, .rw, 10⟩]⟩,
  ⟨0x14000b, [], [⟨F.FIO_PICOT_WR_COUNT, .ro, 0⟩]⟩]

/-- The registers of FIO, part 1, in the order of the spec. -/
def regRowsFIO1 : List RegRow := [
  ⟨0x140020, [(4, 1)], [⟨F.FIO_GRP_CFG_TYPE, .rw, 0⟩]⟩,
  ⟨0x140200, [(32, 4)], [⟨F.FIO_DI_CFG_PICOT, .rw, 0⟩, ⟨F.FIO_DI_CFG_EV, .rw, 0⟩, ⟨F.FIO_DI_CFG_INV, .rw, 0⟩, ⟨F.FIO_DI_CFG_DEB, .rw, 1000⟩]⟩,
  ⟨0x140201, [(32, 4)], [⟨F.FIO_DI_STATUS_LEVEL, .ro, 0⟩, ⟨F.FIO_DI_STATUS_UNKNOWN, .ro, 1⟩, ⟨F.FIO_DI_STATUS_RAW, .ro, 0⟩, ⟨F.FIO_DI_STATUS_SAFETY, .ro, 0⟩]⟩,
  ⟨0x140202, [(32, 4)], [⟨F.FIO_DI_FLAGS_FALL, .w1c, 0⟩, ⟨F.FIO_DI_FLAGS_RISE, .w1c, 0⟩]⟩,
  ⟨0x140203, [(32, 4)], [⟨F.FIO_DI_FLAG_CNT_COUNT, .cnt, 0⟩]⟩,
  ⟨0x140400, [(16, 8)], [⟨F.FIO_DO_CFG_FAILSAFE, .rw, 0⟩]⟩,
  ⟨0x140401, [(16, 8)], [⟨F.FIO_DO_STATUS_CMD, .ro, 0⟩, ⟨F.FIO_DO_STATUS_OUT, .ro, 0⟩, ⟨F.FIO_DO_STATUS_READBACK, .ro, 0⟩, ⟨F.FIO_DO_STATUS_FAULT, .ro, 0⟩, ⟨F.FIO_DO_STATUS_RETRIES, .ro, 0⟩]⟩,
  ⟨0x140402, [(16, 8)], [⟨F.FIO_DO_CMD_CODE, .wo, 0⟩]⟩,
  ⟨0x140403, [(16, 8)], [⟨F.FIO_DO_FLAGS_CMD_REFUSED, .w1c, 0⟩, ⟨F.FIO_DO_FLAGS_DRIVE_FAIL, .w1c, 0⟩, ⟨F.FIO_DO_FLAGS_EXT_DRIVEN, .w1c, 0⟩, ⟨F.FIO_DO_FLAGS_OC_LATCHED, .w1c, 0⟩, ⟨F.FIO_DO_FLAGS_OVERCURRENT, .w1c, 0⟩]⟩,
  ⟨0x140404, [(16, 8)], [⟨F.FIO_DO_FLAG_CNT0_COUNT, .cnt, 0⟩]⟩,
  ⟨0x140405, [(16, 8)], [⟨F.FIO_DO_FLAG_CNT0_COUNT, .cnt, 0⟩]⟩,
  ⟨0x140406, [(16, 8)], [⟨F.FIO_DO_EVMASK_EN, .rw, 31⟩]⟩]

/-- The registers of FIO. -/
def regRowsFIO : List RegRow :=
  regRowsFIO0 ++ regRowsFIO1

/-- The registers of PIF, part 0, in the order of the spec. -/
def regRowsPIF0 : List RegRow := [
  ⟨0x160000, [(24, 32)], [⟨F.PIF_CFG_EN, .rw, 0⟩, ⟨F.PIF_CFG_MODE, .rw, 0⟩, ⟨F.PIF_CFG_INV_DIR, .rw, 0⟩, ⟨F.PIF_CFG_FILT, .rw, 0⟩, ⟨F.PIF_CFG_AVG, .rw, 4⟩, ⟨F.PIF_CFG_PICOT_DIV, .rw, 0⟩, ⟨F.PIF_CFG_PICOT_SEL, .rw, 0⟩]⟩,
  ⟨0x160001, [(24, 32)], [⟨F.PIF_INC_CFG_MULT, .rw, 2⟩, ⟨F.PIF_INC_CFG_IDX_GATE, .rw, 0⟩, ⟨F.PIF_INC_CFG_DIR_SRC, .rw, 0⟩, ⟨F.PIF_INC_CFG_REF_KIND, .rw, 0⟩, ⟨F.PIF_INC_CFG_MISSING, .rw, 1⟩, ⟨F.PIF_INC_CFG_TEETH_M1, .rw, 59⟩, ⟨F.PIF_INC_CFG_ILL_NS, .rw, 4⟩]⟩,
  ⟨0x160002, [(24, 32)], [⟨F.PIF_SC_CFG_INTERP_LOG2, .rw, 12⟩, ⟨F.PIF_SC_CFG_AMP_N, .rw, 4⟩, ⟨F.PIF_SC_CFG_AMP_HI, .rw, 576⟩, ⟨F.PIF_SC_CFG_AMP_LO, .rw, 64⟩]⟩,
  ⟨0x160003, [(24, 32)], [⟨F.PIF_SC_OFS_S, .rw, 0⟩, ⟨F.PIF_SC_OFS_C, .rw, 0⟩]⟩,
  ⟨0x160004, [(24, 32)], [⟨F.PIF_SC_OFS_S, .rw, 65536⟩, ⟨F.PIF_SC_OFS_C, .rw, 65536⟩]⟩,
  ⟨0x160005, [(24, 32)], [⟨F.PIF_SER_CFG_CLK_DIV, .rw, 1000⟩, ⟨F.PIF_SER_CFG_BITS, .rw, 25⟩, ⟨F.PIF_SER_CFG_LEAD, .rw, 0⟩, ⟨F.PIF_SER_CFG_TRAIL, .rw, 0⟩, ⟨F.PIF_SER_CFG_ERR_POS, .rw, 0⟩, ⟨F.PIF_SER_CFG_ERR_POL, .rw, 0⟩, ⟨F.PIF_SER_CFG_GRAY, .rw, 0⟩, ⟨F.PIF_SER_CFG_PARITY, .rw, 0⟩]⟩,
  ⟨0x160006, [(24, 32)], [⟨F.PIF_SER_CFG2_SIGNED, .rw, 0⟩, ⟨F.PIF_SER_CFG2_ACK_TMO, .rw, 2000⟩, ⟨F.PIF_SER_CFG2_CRC_LEN, .rw, 6⟩, ⟨F.PIF_SER_CFG2_CRC_POLY, .rw, 3⟩]⟩,
  ⟨0x160007, [(24, 32)], [⟨F.PIF_IDX_CPR_CPR, .rw, 0⟩]⟩,
  ⟨0x160008, [(24, 32)], [⟨F.PIF_IDX_CFG_AUTO_REF, .rw, 0⟩, ⟨F.PIF_IDX_CFG_IDX_WIN, .rw, 4⟩]⟩,
  ⟨0x160009, [(24, 32)], [⟨F.PIF_CMD_CODE, .wo, 0⟩]⟩,
  ⟨0x16000a, [(24, 32)], [⟨F.PIF_ARG_VALUE, .rw, 0⟩]⟩,
  ⟨0x16000b, [(24, 32)], [⟨F.PIF_ARG_VALUE, .rw, 0⟩]⟩]

/-- The registers of PIF, part 1, in the order of the spec. -/
def regRowsPIF1 : List RegRow := [
  ⟨0x160012, [(24, 32)], [⟨F.PIF_ARG_VALUE, .ro, 0⟩]⟩,
  ⟨0x160013, [(24, 32)], [⟨F.PIF_ARG_VALUE, .ro, 0⟩]⟩,
  ⟨0x160015, [(24, 32)], [⟨F.PIF_ARG_VALUE, .ro, 0⟩]⟩,
  ⟨0x160016, [(24, 32)], [⟨F.PIF_ARG_VALUE, .ro, 0⟩]⟩,
  ⟨0x160017, [(24, 32)], [⟨F.PIF_ARG_VALUE, .ro, 0⟩]⟩,
  ⟨0x160018, [(24, 32)], [⟨F.PIF_ARG_VALUE, .ro, 0⟩]⟩,
  ⟨0x16000c, [(24, 32)], [⟨F.PIF_STATUS_ACTIVE, .ro, 0⟩, ⟨F.PIF_STATUS_REF_VALID, .ro, 0⟩, ⟨F.PIF_STATUS_VEL_VALID, .ro, 0⟩, ⟨F.PIF_STATUS_DIR, .ro, 0⟩, ⟨F.PIF_STATUS_AMP_BAD, .ro, 0⟩, ⟨F.PIF_STATUS_CLOSED, .ro, 0⟩, ⟨F.PIF_STATUS_REFUSE, .ro, 0⟩]⟩,
  ⟨0x16000d, [(24, 32)], [⟨F.PIF_FLAGS_SER_WARN, .w1c, 0⟩, ⟨F.PIF_FLAGS_CMD_REFUSED, .w1c, 0⟩, ⟨F.PIF_FLAGS_PICOT_OVF, .w1c, 0⟩, ⟨F.PIF_FLAGS_SINCOS_SYNC, .w1c, 0⟩, ⟨F.PIF_FLAGS_SER_ERR, .w1c, 0⟩, ⟨F.PIF_FLAGS_AMP_ERR, .w1c, 0⟩, ⟨F.PIF_FLAGS_INDEX_UNEXPECTED, .w1c, 0⟩, ⟨F.PIF_FLAGS_ERR_ILLEGAL, .w1c, 0⟩, ⟨F.PIF_FLAGS_INDEX, .w1c, 0⟩]⟩,
  ⟨0x16000e, [(24, 32)], [⟨F.PIF_FLAG_CNT0_COUNT, .cnt, 0⟩]⟩,
  ⟨0x16000f, [(24, 32)], [⟨F.PIF_FLAG_CNT0_COUNT, .cnt, 0⟩]⟩,
  ⟨0x160010, [(24, 32)], [⟨F.PIF_FLAG_CNT0_COUNT, .cnt, 0⟩]⟩,
  ⟨0x160011, [(24, 32)], [⟨F.PIF_EVMASK_EN, .rw, 254⟩]⟩]

/-- The registers of PIF, part 2, in the order of the spec. -/
def regRowsPIF2 : List RegRow := [
  ⟨0x160014, [(24, 32)], [⟨F.PIF_VEL_VALUE, .ro, 0⟩]⟩,
  ⟨0x160019, [(24, 32)], [⟨F.PIF_VEL_VALUE, .ro, 0⟩]⟩,
  ⟨0x16001a, [(24, 32)], [⟨F.PIF_VEL_VALUE, .clr, 0⟩]⟩,
  ⟨0x16001b, [(24, 32)], [⟨F.PIF_VEL_NUM_NUM, .rw, 0⟩]⟩,
  ⟨0x16001c, [(24, 32)], [⟨F.PIF_VEL_CFG_VEL_SHIFT, .rw, 0⟩, ⟨F.PIF_VEL_CFG_VEL_TMO, .rw, 10⟩]⟩,
  ⟨0x160400, [], [⟨F.PIF_SMP_BASE_ADDR, .rw, 0⟩]⟩,
  ⟨0x160401, [], [⟨F.PIF_SMP_BASE_ADDR, .rw, 0⟩]⟩,
  ⟨0x160402, [], [⟨F.PIF_PICOT_CFG_SIZE_LOG2, .rw, 10⟩]⟩,
  ⟨0x160403, [], [⟨F.PIF_PICOT_WR_COUNT, .ro, 0⟩]⟩]

/-- The registers of PIF. -/
def regRowsPIF : List RegRow :=
  regRowsPIF0 ++ regRowsPIF1 ++ regRowsPIF2

/-- The registers of PLANE, part 0, in the order of the spec. -/
def regRowsPLANE0 : List RegRow := [
  ⟨0x600000, [], [⟨F.PLANE_ID_PLANE, .ro, 0⟩]⟩,
  ⟨0x600001, [], [⟨F.PLANE_STATUS_STATE, .ro, 0⟩, ⟨F.PLANE_STATUS_REFUSE, .ro, 0⟩]⟩,
  ⟨0x600002, [], [⟨F.PLANE_EPOCH_EPOCH, .ro, 0⟩]⟩,
  ⟨0x600003, [], [⟨F.PLANE_MCHK_CAUSE, .ro, 0⟩, ⟨F.PLANE_MCHK_CYCLE, .ro, 0⟩]⟩,
  ⟨0x600004, [], [⟨F.PLANE_CMD_CODE, .wo, 0⟩]⟩,
  ⟨0x600005, [], [⟨F.PLANE_FLAGS_CMD_REFUSED, .w1c, 0⟩, ⟨F.PLANE_FLAGS_MCHK, .w1c, 0⟩]⟩,
  ⟨0x600006, [], [⟨F.PLANE_FLAG_CNT_COUNT, .cnt, 0⟩]⟩,
  ⟨0x600020, [(16, 2)], [⟨F.PLANE_REPL_BASE_ADDR, .rw, 0⟩]⟩,
  ⟨0x600021, [(16, 2)], [⟨F.PLANE_REPL_SIZE_WORDS, .rw, 0⟩]⟩,
  ⟨0x600040, [], [⟨F.PLANE_REPL_TOTAL_WORDS, .ro, 0⟩]⟩]

/-- The registers of PLANE. -/
def regRowsPLANE : List RegRow :=
  regRowsPLANE0

/-- The registers of SCH, part 0, in the order of the spec. -/
def regRowsSCH0 : List RegRow := [
  ⟨0x620000, [], [⟨F.SCH_CFG_QUANTUM_US, .rw, 50⟩, ⟨F.SCH_CFG_LOAD_LOG2, .rw, 13⟩, ⟨F.SCH_CFG_LOAD_HIGH, .rw, 230⟩]⟩,
  ⟨0x620001, [], [⟨F.SCH_STATUS_MODE, .ro, 1⟩, ⟨F.SCH_STATUS_GRAPH_STATE, .ro, 0⟩, ⟨F.SCH_STATUS_GRAPH_KIND, .ro, 1⟩, ⟨F.SCH_STATUS_REFUSE, .ro, 0⟩]⟩,
  ⟨0x620002, [], [⟨F.SCH_CMD_CODE, .wo, 0⟩]⟩,
  ⟨0x620003, [], [⟨F.SCH_POST_THREAD, .wo, 0⟩]⟩,
  ⟨0x620004, [], [⟨F.SCH_POST_ARG_PAYLOAD, .rw, 0⟩]⟩,
  ⟨0x620005, [], [⟨F.SCH_POSTQ_MAX, .clr, 0⟩, ⟨F.SCH_POSTQ_DEPTH, .ro, 0⟩]⟩,
  ⟨0x620006, [], [⟨F.SCH_POST_STALL_COUNT, .clr, 0⟩]⟩,
  ⟨0x620007, [], [⟨F.SCH_POST_STALL_COUNT, .clr, 0⟩]⟩,
  ⟨0x620008, [], [⟨F.SCH_GRAPH_STATUS_NODE, .ro, 0⟩, ⟨F.SCH_GRAPH_STATUS_EXEC, .ro, 0⟩, ⟨F.SCH_GRAPH_STATUS_OP, .ro, 0⟩, ⟨F.SCH_GRAPH_STATUS_CHECK, .ro, 0⟩, ⟨F.SCH_GRAPH_STATUS_CODE, .ro, 0⟩]⟩,
  ⟨0x620009, [], [⟨F.SCH_GRAPH_TIME_TIME, .ro, 0⟩]⟩,
  ⟨0x62000a, [], [⟨F.SCH_FLAGS_POST_DORMANT, .w1c, 0⟩, ⟨F.SCH_FLAGS_CMD_REFUSED, .w1c, 0⟩, ⟨F.SCH_FLAGS_GRAPH_TIMEOUT, .w1c, 0⟩, ⟨F.SCH_FLAGS_GRAPH_FAIL, .w1c, 0⟩, ⟨F.SCH_FLAGS_GRAPH_DONE, .w1c, 0⟩, ⟨F.SCH_FLAGS_LOAD_HIGH, .w1c, 0⟩, ⟨F.SCH_FLAGS_WAIT_WARN, .w1c, 0⟩, ⟨F.SCH_FLAGS_POST_FULL, .w1c, 0⟩, ⟨F.SCH_FLAGS_POST_HWM, .w1c, 0⟩]⟩,
  ⟨0x62000b, [], [⟨F.SCH_FLAG_CNT0_COUNT, .cnt, 0⟩]⟩]

/-- The registers of SCH, part 1, in the order of the spec. -/
def regRowsSCH1 : List RegRow := [
  ⟨0x62000c, [], [⟨F.SCH_FLAG_CNT0_COUNT, .cnt, 0⟩]⟩,
  ⟨0x62000d, [], [⟨F.SCH_FLAG_CNT0_COUNT, .cnt, 0⟩]⟩,
  ⟨0x62000e, [], [⟨F.SCH_EVMASK_EN, .rw, 486⟩]⟩,
  ⟨0x620020, [(64, 1)], [⟨F.SCH_PRIO_DEPTH_MAX, .clr, 0⟩, ⟨F.SCH_PRIO_DEPTH_DEPTH, .ro, 0⟩]⟩,
  ⟨0x620080, [(8, 4)], [⟨F.SCH_CORE_STATUS_BUSY, .ro, 0⟩, ⟨F.SCH_CORE_STATUS_THREAD, .ro, 0⟩]⟩,
  ⟨0x620081, [(8, 4)], [⟨F.SCH_CORE_LOAD_CAPTURED, .ro, 0⟩, ⟨F.SCH_CORE_LOAD_LOAD, .ro, 0⟩]⟩,
  ⟨0x620082, [(8, 4)], [⟨F.SCH_CORE_DISP_COUNT, .ro, 0⟩]⟩,
  ⟨0x620083, [(8, 4)], [⟨F.SCH_CORE_DISP_CAP_COUNT, .ro, 0⟩]⟩,
  ⟨0x622000, [(512, 8)], [⟨F.SCH_THR_CFG_CLASS, .ro, 0⟩, ⟨F.SCH_THR_CFG_PRIO, .rw, 0⟩, ⟨F.SCH_THR_CFG_AFF, .rw, 0⟩, ⟨F.SCH_THR_CFG_WAIT_WARN, .rw, 0⟩]⟩,
  ⟨0x622001, [(512, 8)], [⟨F.SCH_THR_STATUS_STATE, .ro, 0⟩, ⟨F.SCH_THR_STATUS_CORE, .ro, 0⟩, ⟨F.SCH_THR_STATUS_POSTS, .ro, 0⟩]⟩,
  ⟨0x622002, [(512, 8)], [⟨F.SCH_THR_WAIT_VALUE, .ro, 0⟩]⟩,
  ⟨0x622003, [(512, 8)], [⟨F.SCH_THR_WAIT_VALUE, .clr, 0⟩]⟩]

/-- The registers of SCH, part 2, in the order of the spec. -/
def regRowsSCH2 : List RegRow := [
  ⟨0x622004, [(512, 8)], [⟨F.SCH_THR_WAIT_VALUE, .ro, 0⟩]⟩]

/-- The registers of SCH. -/
def regRowsSCH : List RegRow :=
  regRowsSCH0 ++ regRowsSCH1 ++ regRowsSCH2

/-- The registers of DMA, part 0, in the order of the spec. -/
def regRowsDMA0 : List RegRow := [
  ⟨0x640000, [], [⟨F.DMA_STATUS_INFLIGHT, .ro, 0⟩, ⟨F.DMA_STATUS_INFLIGHT_MAX, .clr, 0⟩]⟩,
  ⟨0x640001, [], [⟨F.DMA_STALL_COUNT, .clr, 0⟩]⟩,
  ⟨0x642000, [(64, 8)], [⟨F.DMA_CH_CFG_PRIO, .rw, 0⟩, ⟨F.DMA_CH_CFG_REQ, .rw, 0⟩, ⟨F.DMA_CH_CFG_PACED, .rw, 0⟩, ⟨F.DMA_CH_CFG_CONT_ON_ERR, .rw, 0⟩, ⟨F.DMA_CH_CFG_BURST_M1, .rw, 63⟩, ⟨F.DMA_CH_CFG_RING_LOG2, .rw, 0⟩]⟩,
  ⟨0x642001, [(64, 8)], [⟨F.DMA_CH_RING_ADDR, .rw, 0⟩]⟩,
  ⟨0x642002, [(64, 8)], [⟨F.DMA_CH_CMD_CODE, .wo, 0⟩]⟩,
  ⟨0x642003, [(64, 8)], [⟨F.DMA_CH_STATUS_STATE, .ro, 0⟩, ⟨F.DMA_CH_STATUS_HEAD, .ro, 0⟩, ⟨F.DMA_CH_STATUS_LAST_STATUS, .ro, 0⟩, ⟨F.DMA_CH_STATUS_REFUSE, .ro, 0⟩]⟩,
  ⟨0x642004, [(64, 8)], [⟨F.DMA_CH_PROGRESS_DONE, .ro, 0⟩]⟩,
  ⟨0x642005, [(64, 8)], [⟨F.DMA_CH_REQ_PENDING, .ro, 0⟩]⟩,
  ⟨0x642006, [(64, 8)], [⟨F.DMA_CH_FLAGS_REPLAYED, .w1c, 0⟩, ⟨F.DMA_CH_FLAGS_CMD_REFUSED, .w1c, 0⟩, ⟨F.DMA_CH_FLAGS_REQ_OVF, .w1c, 0⟩, ⟨F.DMA_CH_FLAGS_PAUSED_POWER, .w1c, 0⟩, ⟨F.DMA_CH_FLAGS_STOPPED, .w1c, 0⟩, ⟨F.DMA_CH_FLAGS_STARVED, .w1c, 0⟩, ⟨F.DMA_CH_FLAGS_ERR, .w1c, 0⟩, ⟨F.DMA_CH_FLAGS_FULL, .w1c, 0⟩, ⟨F.DMA_CH_FLAGS_HALF, .w1c, 0⟩]⟩,
  ⟨0x644000, [(64, 4)], [⟨F.DMA_CH_FLAG_CNT0_COUNT, .cnt, 0⟩]⟩,
  ⟨0x644001, [(64, 4)], [⟨F.DMA_CH_FLAG_CNT0_COUNT, .cnt, 0⟩]⟩,
  ⟨0x644002, [(64, 4)], [⟨F.DMA_CH_FLAG_CNT0_COUNT, .cnt, 0⟩]⟩]

/-- The registers of DMA, part 1, in the order of the spec. -/
def regRowsDMA1 : List RegRow := [
  ⟨0x642007, [(64, 8)], [⟨F.DMA_CH_EVMASK_EN, .rw, 454⟩]⟩]

/-- The registers of DMA. -/
def regRowsDMA : List RegRow :=
  regRowsDMA0 ++ regRowsDMA1

/-- The registers of CST, part 0, in the order of the spec. -/
def regRowsCST0 : List RegRow := [
  ⟨0x660000, [], [⟨F.CST_CFG_SCRUB_H, .rw, 24⟩, ⟨F.CST_CFG_SPARE_THR, .rw, 4⟩, ⟨F.CST_CFG_SPARE_EN, .rw, 1⟩]⟩,
  ⟨0x660001, [], [⟨F.CST_STATUS_SPARES_FREE, .ro, 64⟩, ⟨F.CST_STATUS_TAGS, .ro, 0⟩, ⟨F.CST_STATUS_TAGS_MAX, .clr, 0⟩, ⟨F.CST_STATUS_SPARING, .ro, 0⟩]⟩,
  ⟨0x660002, [], [⟨F.CST_CE_CNT_COUNT, .clr, 0⟩]⟩,
  ⟨0x660003, [], [⟨F.CST_CE_CNT_COUNT, .clr, 0⟩]⟩,
  ⟨0x660004, [], [⟨F.CST_CE_CNT_COUNT, .clr, 0⟩]⟩,
  ⟨0x660005, [], [⟨F.CST_CE_CNT_COUNT, .clr, 0⟩]⟩,
  ⟨0x660006, [], [⟨F.CST_ERR_ADDR_KIND, .ro, 0⟩, ⟨F.CST_ERR_ADDR_ADDR, .ro, 0⟩]⟩,
  ⟨0x660007, [], [⟨F.CST_SCRUB_POS, .ro, 0⟩]⟩,
  ⟨0x660008, [], [⟨F.CST_FLAGS_SCRUB_BEHIND, .w1c, 0⟩, ⟨F.CST_FLAGS_SCRUB_PASS, .w1c, 0⟩, ⟨F.CST_FLAGS_SPARES_OUT, .w1c, 0⟩, ⟨F.CST_FLAGS_SPARED, .w1c, 0⟩, ⟨F.CST_FLAGS_UE, .w1c, 0⟩, ⟨F.CST_FLAGS_CE, .w1c, 0⟩]⟩,
  ⟨0x660009, [], [⟨F.CST_FLAG_CNT0_COUNT, .cnt, 0⟩]⟩,
  ⟨0x66000a, [], [⟨F.CST_FLAG_CNT0_COUNT, .cnt, 0⟩]⟩,
  ⟨0x66000b, [], [⟨F.CST_EVMASK_EN, .rw, 46⟩]⟩]

/-- The registers of CST, part 1, in the order of the spec. -/
def regRowsCST1 : List RegRow := [
  ⟨0x660020, [(64, 1)], [⟨F.CST_SPARE_USED, .ro, 0⟩, ⟨F.CST_SPARE_ROW, .ro, 0⟩]⟩]

/-- The registers of CST. -/
def regRowsCST : List RegRow :=
  regRowsCST0 ++ regRowsCST1

/-- The registers of PLN, part 0, in the order of the spec. -/
def regRowsPLN0 : List RegRow := [
  ⟨0x681000, [(16, 32)], [⟨F.PLN_Q_BASE_ADDR, .rw, 0⟩]⟩,
  ⟨0x681001, [(16, 32)], [⟨F.PLN_Q_CFG_AUTOSTART, .rw, 0⟩, ⟨F.PLN_Q_CFG_HL4060, .rw, 0⟩, ⟨F.PLN_Q_CFG_CKP_FULL, .rw, 0⟩, ⟨F.PLN_Q_CFG_SRC, .rw, 0⟩, ⟨F.PLN_Q_CFG_SIZE_LOG2, .rw, 12⟩]⟩,
  ⟨0x681002, [(16, 32)], [⟨F.PLN_Q_WR_COUNT, .rw, 0⟩]⟩,
  ⟨0x681003, [(16, 32)], [⟨F.PLN_Q_WR_COUNT, .ro, 0⟩]⟩,
  ⟨0x681004, [(16, 32)], [⟨F.PLN_Q_WR_COUNT, .ro, 0⟩]⟩,
  ⟨0x681005, [(16, 32)], [⟨F.PLN_Q_STATUS_STATE, .ro, 0⟩, ⟨F.PLN_Q_STATUS_WAIT, .ro, 0⟩, ⟨F.PLN_Q_STATUS_REFUSE, .ro, 0⟩, ⟨F.PLN_Q_STATUS_CFG_PENDING, .ro, 0⟩, ⟨F.PLN_Q_STATUS_AT_REST, .ro, 1⟩, ⟨F.PLN_Q_STATUS_LOOKAHEAD, .ro, 0⟩]⟩,
  ⟨0x681006, [(16, 32)], [⟨F.PLN_Q_TAG_TRIGS, .ro, 0⟩, ⟨F.PLN_Q_TAG_TAG, .ro, 0⟩]⟩,
  ⟨0x681007, [(16, 32)], [⟨F.PLN_Q_MARK_VALUE, .ro, 0⟩]⟩,
  ⟨0x681008, [(16, 32)], [⟨F.PLN_Q_CMD_CODE, .wo, 0⟩]⟩,
  ⟨0x681009, [(16, 32)], [⟨F.PLN_Q_ARG_ADDR, .rw, 0⟩]⟩,
  ⟨0x68100a, [(16, 32)], [⟨F.PLN_Q_FLAGS_CMD_REFUSED, .w1c, 0⟩, ⟨F.PLN_Q_FLAGS_SRC_REFUSED, .w1c, 0⟩, ⟨F.PLN_Q_FLAGS_WR_RANGE, .w1c, 0⟩, ⟨F.PLN_Q_FLAGS_AHEAD_FAULT, .w1c, 0⟩, ⟨F.PLN_Q_FLAGS_TRIG_LATE, .w1c, 0⟩, ⟨F.PLN_Q_FLAGS_TRIG_CLIPPED, .w1c, 0⟩, ⟨F.PLN_Q_FLAGS_ZONE_NOT_HELD, .w1c, 0⟩, ⟨F.PLN_Q_FLAGS_LIMIT_CLAMPED, .w1c, 0⟩, ⟨F.PLN_Q_FLAGS_CKP_LOST, .w1c, 0⟩, ⟨F.PLN_Q_FLAGS_CKP_WRITTEN, .w1c, 0⟩, ⟨F.PLN_Q_FLAGS_STARVED, .w1c, 0⟩, ⟨F.PLN_Q_FLAGS_ENDED, .w1c, 0⟩, ⟨F.PLN_Q_FLAGS_FAULT, .w1c, 0⟩, ⟨F.PLN_Q_FLAGS_STITCH_EVENT, .w1c, 0⟩]⟩,
  ⟨0x68100b, [(16, 32)], [⟨F.PLN_Q_FLAG_CNT0_COUNT, .cnt, 0⟩]⟩]

/-- The registers of PLN, part 1, in the order of the spec. -/
def regRowsPLN1 : List RegRow := [
  ⟨0x68100c, [(16, 32)], [⟨F.PLN_Q_FLAG_CNT0_COUNT, .cnt, 0⟩]⟩,
  ⟨0x68100d, [(16, 32)], [⟨F.PLN_Q_FLAG_CNT0_COUNT, .cnt, 0⟩]⟩,
  ⟨0x68100e, [(16, 32)], [⟨F.PLN_Q_FLAG_CNT0_COUNT, .cnt, 0⟩]⟩,
  ⟨0x68100f, [(16, 32)], [⟨F.PLN_Q_EVMASK_EN, .rw, 55⟩]⟩,
  ⟨0x681010, [(16, 32)], [⟨F.PLN_Q_FAULT_CODE, .ro, 0⟩, ⟨F.PLN_Q_FAULT_TAG, .ro, 0⟩]⟩,
  ⟨0x681012, [(16, 32)], [⟨F.PLN_Q_FAULT_CODE, .ro, 0⟩, ⟨F.PLN_Q_FAULT_TAG, .ro, 0⟩]⟩,
  ⟨0x681011, [(16, 32)], [⟨F.PLN_Q_FAULT_POS_COUNT, .ro, 0⟩]⟩,
  ⟨0x681013, [(16, 32)], [⟨F.PLN_Q_FAULT_POS_COUNT, .ro, 0⟩]⟩,
  ⟨0x681014, [(16, 32)], [⟨F.PLN_Q_RESUME_TOL_TMO_S, .rw, 0⟩, ⟨F.PLN_Q_RESUME_TOL_TOL, .rw, 1024⟩]⟩,
  ⟨0x681015, [(16, 32)], [⟨F.PLN_CKP_BASE_ADDR, .rw, 0⟩]⟩,
  ⟨0x681016, [(16, 32)], [⟨F.PLN_CKP_CFG_SIZE_LOG2, .rw, 4⟩]⟩,
  ⟨0x681017, [(16, 32)], [⟨F.PLN_CKP_WR_COUNT, .ro, 0⟩]⟩]

/-- The registers of PLN, part 2, in the order of the spec. -/
def regRowsPLN2 : List RegRow := [
  ⟨0x681018, [(16, 32)], [⟨F.PLN_CKP_WR_COUNT, .rw, 0⟩]⟩,
  ⟨0x680000, [], [⟨F.PLN_FLAGS_BZ_CONFIG, .w1c, 0⟩]⟩,
  ⟨0x680001, [], [⟨F.PLN_FLAG_CNT_BZ_CONFIG, .cnt, 0⟩]⟩,
  ⟨0x680002, [], [⟨F.PLN_TGT_BASE_ADDR, .rw, 0⟩]⟩,
  ⟨0x680100, [(80, 1)], [⟨F.PLN_ZONE_HELD, .ro, 0⟩, ⟨F.PLN_ZONE_PEER, .ro, 0⟩, ⟨F.PLN_ZONE_WAITERS, .ro, 0⟩, ⟨F.PLN_ZONE_ARM, .ro, 0⟩]⟩,
  ⟨0x680180, [(16, 1)], [⟨F.PLN_BZ_CFG_EN, .rw, 0⟩, ⟨F.PLN_BZ_CFG_PEER_ID, .rw, 0⟩, ⟨F.PLN_BZ_CFG_PEER_BZ, .rw, 0⟩, ⟨F.PLN_BZ_CFG_TIMEOUT, .rw, 8⟩]⟩,
  ⟨0x6801c0, [(32, 1)], [⟨F.PLN_PROC_CFG_OFF_ON_STOP, .rw, 1⟩, ⟨F.PLN_PROC_CFG_LEAD, .rw, 0⟩]⟩,
  ⟨0x680200, [(16, 32)], [⟨F.PLN_ARM_OVR_OVR, .rw, 17179869184⟩]⟩,
  ⟨0x680201, [(16, 32)], [⟨F.PLN_ARM_SCALE_CFG_T_UP, .rw, 500⟩, ⟨F.PLN_ARM_SCALE_CFG_T_DOWN, .rw, 50⟩]⟩,
  ⟨0x680202, [(16, 32)], [⟨F.PLN_ARM_CFG_ZLEAD, .rw, 500⟩, ⟨F.PLN_ARM_CFG_ZPRIO, .rw, 0⟩]⟩,
  ⟨0x680203, [(16, 32)], [⟨F.PLN_ARM_SCALE_VALUE, .ro, 17179869184⟩]⟩,
  ⟨0x680204, [(16, 32)], [⟨F.PLN_ARM_SCALE_VALUE, .ro, 17179869184⟩]⟩]

/-- The registers of PLN, part 3, in the order of the spec. -/
def regRowsPLN3 : List RegRow := [
  ⟨0x680205, [(16, 32)], [⟨F.PLN_ARM_SCALE_VALUE, .ro, 17179869184⟩]⟩,
  ⟨0x680206, [(16, 32)], [⟨F.PLN_ARM_INHIBIT_FB_LOST, .ro, 0⟩, ⟨F.PLN_ARM_INHIBIT_SLV_LATE, .ro, 0⟩]⟩,
  ⟨0x680207, [(16, 32)], [⟨F.PLN_ARM_PROF_SPEED, .ro, 0⟩]⟩,
  ⟨0x680208, [(16, 32)], [⟨F.PLN_ARM_PROF_SPEED, .ro, 0⟩]⟩,
  ⟨0x680209, [(16, 32)], [⟨F.PLN_ARM_ZHELD0_MASK, .ro, 0⟩]⟩,
  ⟨0x68020a, [(16, 32)], [⟨F.PLN_ARM_ZHELD0_MASK, .ro, 0⟩]⟩,
  ⟨0x68020b, [(16, 32)], [⟨F.PLN_ARM_ZHELD0_MASK, .ro, 0⟩]⟩,
  ⟨0x68020c, [(16, 32)], [⟨F.PLN_ARM_ZWAIT_VALID, .ro, 0⟩, ⟨F.PLN_ARM_ZWAIT_ZONE, .ro, 0⟩]⟩,
  ⟨0x68020d, [(16, 32)], [⟨F.PLN_ARM_FLAGS_BZ_LINK, .w1c, 0⟩, ⟨F.PLN_ARM_FLAGS_PARAM_REFUSED, .w1c, 0⟩, ⟨F.PLN_ARM_FLAGS_ZONE_STOP, .w1c, 0⟩, ⟨F.PLN_ARM_FLAGS_ZONE_GRANTED, .w1c, 0⟩, ⟨F.PLN_ARM_FLAGS_PROFILE_LIMITED, .w1c, 0⟩, ⟨F.PLN_ARM_FLAGS_INHIBIT, .w1c, 0⟩, ⟨F.PLN_ARM_FLAGS_SCALE_ZERO, .w1c, 0⟩, ⟨F.PLN_ARM_FLAGS_SYNC_STOP, .w1c, 0⟩]⟩,
  ⟨0x68020e, [(16, 32)], [⟨F.PLN_ARM_FLAG_CNT0_COUNT, .cnt, 0⟩]⟩,
  ⟨0x68020f, [(16, 32)], [⟨F.PLN_ARM_FLAG_CNT0_COUNT, .cnt, 0⟩]⟩,
  ⟨0x680210, [(16, 32)], [⟨F.PLN_ARM_EVMASK_EN, .rw, 164⟩]⟩]

/-- The registers of PLN. -/
def regRowsPLN : List RegRow :=
  regRowsPLN0 ++ regRowsPLN1 ++ regRowsPLN2 ++ regRowsPLN3

/-- The registers of SLV, part 0, in the order of the spec. -/
def regRowsSLV0 : List RegRow := [
  ⟨0x6a0000, [], [⟨F.SLV_CFG_RELEASE_N, .rw, 16⟩, ⟨F.SLV_CFG_PHASE, .rw, 0⟩, ⟨F.SLV_CFG_DIV, .rw, 0⟩]⟩,
  ⟨0x6a0001, [], [⟨F.SLV_CMD_CODE, .wo, 0⟩]⟩,
  ⟨0x6a0002, [], [⟨F.SLV_ARG_ADDR, .rw, 0⟩]⟩,
  ⟨0x6a0003, [], [⟨F.SLV_STATUS_MOTION, .ro, 0⟩, ⟨F.SLV_STATUS_DYN, .ro, 0⟩, ⟨F.SLV_STATUS_REFUSE, .ro, 0⟩, ⟨F.SLV_STATUS_OUTCOME, .ro, 7⟩, ⟨F.SLV_STATUS_ITER_DONE, .ro, 0⟩, ⟨F.SLV_STATUS_ITER_PUB, .ro, 0⟩, ⟨F.SLV_STATUS_LATE_RUN, .ro, 0⟩, ⟨F.SLV_STATUS_SERVED_RUN, .ro, 0⟩, ⟨F.SLV_STATUS_INHIBIT, .ro, 0⟩, ⟨F.SLV_STATUS_FIRST_PENDING, .ro, 1⟩]⟩,
  ⟨0x6a0004, [], [⟨F.SLV_FLAGS_PARAM_CLAMP, .w1c, 0⟩, ⟨F.SLV_FLAGS_WINDOW_SHORT, .w1c, 0⟩, ⟨F.SLV_FLAGS_CMD_REFUSED, .w1c, 0⟩, ⟨F.SLV_FLAGS_ACTIVATED, .w1c, 0⟩, ⟨F.SLV_FLAGS_INHIBIT, .w1c, 0⟩, ⟨F.SLV_FLAGS_DYN_LATE, .w1c, 0⟩, ⟨F.SLV_FLAGS_SAT, .w1c, 0⟩, ⟨F.SLV_FLAGS_PIVOT, .w1c, 0⟩, ⟨F.SLV_FLAGS_REJECT, .w1c, 0⟩, ⟨F.SLV_FLAGS_LATE, .w1c, 0⟩]⟩,
  ⟨0x6a0005, [], [⟨F.SLV_FLAG_CNT0_COUNT, .cnt, 0⟩]⟩,
  ⟨0x6a0006, [], [⟨F.SLV_FLAG_CNT0_COUNT, .cnt, 0⟩]⟩,
  ⟨0x6a0007, [], [⟨F.SLV_FLAG_CNT0_COUNT, .cnt, 0⟩]⟩,
  ⟨0x6a0008, [], [⟨F.SLV_EVMASK_EN, .rw, 179⟩]⟩,
  ⟨0x6a0009, [], [⟨F.SLV_RES_BASE_ADDR, .rw, 0⟩]⟩,
  ⟨0x6a000b, [], [⟨F.SLV_RES_BASE_ADDR, .rw, 0⟩]⟩,
  ⟨0x6a000a, [], [⟨F.SLV_RES_SEL_SEL, .ro, 0⟩]⟩]

/-- The registers of SLV, part 1, in the order of the spec. -/
def regRowsSLV1 : List RegRow := [
  ⟨0x6a000c, [], [⟨F.SLV_PARAM_SEL_SEL, .rw, 0⟩]⟩,
  ⟨0x6a000d, [(5, 1)], [⟨F.SLV_FREEZE_MASK, .ro, 0⟩]⟩,
  ⟨0x6a0012, [], [⟨F.SLV_PIV_LOG_CYCLE, .ro, 0⟩, ⟨F.SLV_PIV_LOG_COL, .ro, 0⟩]⟩,
  ⟨0x6a0013, [], [⟨F.SLV_SAT_LOG_CYCLE, .ro, 0⟩, ⟨F.SLV_SAT_LOG_OP, .ro, 0⟩]⟩,
  ⟨0x6a0014, [], [⟨F.SLV_ID_M0_ID, .ro, 0⟩]⟩,
  ⟨0x6a0015, [], [⟨F.SLV_ID_M0_ID, .ro, 0⟩]⟩,
  ⟨0x6a0016, [], [⟨F.SLV_ID_M0_ID, .ro, 0⟩]⟩,
  ⟨0x6a0017, [], [⟨F.SLV_ID_M0_ID, .ro, 0⟩]⟩,
  ⟨0x6a0018, [], [⟨F.SLV_LIVE_EN0_EN, .rw, 0⟩]⟩,
  ⟨0x6a0019, [], [⟨F.SLV_LIVE_EN0_EN, .rw, 0⟩]⟩,
  ⟨0x6a0020, [(64, 1)], [⟨F.SLV_LIVE_VALUE, .rw, 0⟩]⟩]

/-- The registers of SLV. -/
def regRowsSLV : List RegRow :=
  regRowsSLV0 ++ regRowsSLV1

/-- The registers of EST, part 0, in the order of the spec. -/
def regRowsEST0 : List RegRow := [
  ⟨0x6c0000, [], [⟨F.EST_CFG_APPLY_AT_LAYER, .rw, 0⟩, ⟨F.EST_CFG_BLEND_N, .rw, 4000⟩]⟩,
  ⟨0x6c0001, [], [⟨F.EST_CMD_CODE, .wo, 0⟩]⟩,
  ⟨0x6c0002, [], [⟨F.EST_ARG_ADDR, .rw, 0⟩]⟩,
  ⟨0x6c0003, [], [⟨F.EST_ARG_ADDR, .rw, 0⟩]⟩,
  ⟨0x6c0004, [], [⟨F.EST_SUB_CFG_SIZE_LOG2, .rw, 4⟩]⟩,
  ⟨0x6c0005, [], [⟨F.EST_SUB_WR_COUNT, .rw, 0⟩]⟩,
  ⟨0x6c0006, [], [⟨F.EST_SUB_WR_COUNT, .ro, 0⟩]⟩,
  ⟨0x6c0007, [], [⟨F.EST_JOB_STATE, .ro, 0⟩, ⟨F.EST_JOB_ITER, .ro, 0⟩, ⟨F.EST_JOB_ACCEPTED, .ro, 0⟩, ⟨F.EST_JOB_LAMBDA_EXP, .ro, 0⟩, ⟨F.EST_JOB_REFUSE, .ro, 0⟩]⟩,
  ⟨0x6c0008, [], [⟨F.EST_JOB_ADDR_ADDR, .ro, 0⟩]⟩,
  ⟨0x6c0009, [], [⟨F.EST_LAST_STATUS, .ro, 0⟩, ⟨F.EST_LAST_CHECK, .ro, 0⟩, ⟨F.EST_LAST_REASON, .ro, 0⟩, ⟨F.EST_LAST_TAG, .ro, 0⟩]⟩,
  ⟨0x6c000a, [], [⟨F.EST_STALL_COUNT, .ro, 0⟩]⟩,
  ⟨0x6c000b, [], [⟨F.EST_CAL_BASE_ADDR, .rw, 0⟩]⟩]

/-- The registers of EST, part 1, in the order of the spec. -/
def regRowsEST1 : List RegRow := [
  ⟨0x6c000c, [], [⟨F.EST_CAL_PENDING, .ro, 0⟩, ⟨F.EST_CAL_BLENDING, .ro, 0⟩, ⟨F.EST_CAL_BLEND_K, .ro, 0⟩]⟩,
  ⟨0x6c000d, [], [⟨F.EST_CAL_GEN_GEN, .ro, 0⟩]⟩,
  ⟨0x6c000e, [], [⟨F.EST_OBS_BASE_ADDR, .rw, 0⟩]⟩,
  ⟨0x6c000f, [], [⟨F.EST_OBS_CFG_SIZE_LOG2, .rw, 12⟩]⟩,
  ⟨0x6c0010, [], [⟨F.EST_OBS_WR_COUNT, .ro, 0⟩]⟩,
  ⟨0x6c0011, [], [⟨F.EST_OBS_WR_COUNT, .ro, 0⟩]⟩,
  ⟨0x6c0012, [], [⟨F.EST_FLAGS_CMD_REFUSED, .w1c, 0⟩, ⟨F.EST_FLAGS_SUB_RANGE, .w1c, 0⟩, ⟨F.EST_FLAGS_SAT, .w1c, 0⟩, ⟨F.EST_FLAGS_PIVOT, .w1c, 0⟩, ⟨F.EST_FLAGS_OBS_REJECTED, .w1c, 0⟩, ⟨F.EST_FLAGS_CAL_DROPPED, .w1c, 0⟩, ⟨F.EST_FLAGS_CAL_MISMATCH, .w1c, 0⟩, ⟨F.EST_FLAGS_BLEND_DONE, .w1c, 0⟩, ⟨F.EST_FLAGS_APPLIED, .w1c, 0⟩, ⟨F.EST_FLAGS_PENDING_REPLACED, .w1c, 0⟩, ⟨F.EST_FLAGS_PENDING, .w1c, 0⟩, ⟨F.EST_FLAGS_JOB_REJECTED, .w1c, 0⟩, ⟨F.EST_FLAGS_JOB_DONE, .w1c, 0⟩]⟩,
  ⟨0x6c0013, [], [⟨F.EST_FLAG_CNT0_COUNT, .cnt, 0⟩]⟩,
  ⟨0x6c0014, [], [⟨F.EST_FLAG_CNT0_COUNT, .cnt, 0⟩]⟩,
  ⟨0x6c0015, [], [⟨F.EST_FLAG_CNT0_COUNT, .cnt, 0⟩]⟩,
  ⟨0x6c0016, [], [⟨F.EST_FLAG_CNT0_COUNT, .cnt, 0⟩]⟩,
  ⟨0x6c0017, [], [⟨F.EST_EVMASK_EN, .rw, 215⟩]⟩]

/-- The registers of EST, part 2, in the order of the spec. -/
def regRowsEST2 : List RegRow := [
  ⟨0x6c0020, [(8, 1)], [⟨F.EST_PROBE_CFG_EN, .rw, 0⟩, ⟨F.EST_PROBE_CFG_SRC, .rw, 0⟩, ⟨F.EST_PROBE_CFG_EDGE, .rw, 0⟩, ⟨F.EST_PROBE_CFG_MARK_POINT, .rw, 0⟩, ⟨F.EST_PROBE_CFG_INDEX, .rw, 0⟩, ⟨F.EST_PROBE_CFG_ARM, .rw, 0⟩, ⟨F.EST_PROBE_CFG_SENSOR, .rw, 0⟩, ⟨F.EST_PROBE_CFG_POINT, .rw, 0⟩]⟩]

/-- The registers of EST. -/
def regRowsEST : List RegRow :=
  regRowsEST0 ++ regRowsEST1 ++ regRowsEST2

/-- The registers of CLE, part 0, in the order of the spec. -/
def regRowsCLE0 : List RegRow := [
  ⟨0x6e0000, [], [⟨F.CLE_PAR_BASE_ADDR, .rw, 0⟩]⟩,
  ⟨0x6e0001, [], [⟨F.CLE_PAR_BASE_ADDR, .rw, 0⟩]⟩,
  ⟨0x6e0020, [(16, 4)], [⟨F.CLE_ARM_CFG_STOP_CAT, .rw, 1⟩]⟩,
  ⟨0x6e0021, [(16, 4)], [⟨F.CLE_ARM_CMD_CODE, .wo, 0⟩]⟩,
  ⟨0x6e0022, [(16, 4)], [⟨F.CLE_ARM_STATUS_STATE, .ro, 0⟩, ⟨F.CLE_ARM_STATUS_CAT, .ro, 0⟩, ⟨F.CLE_ARM_STATUS_SOURCE, .ro, 0⟩, ⟨F.CLE_ARM_STATUS_LOST_CH, .ro, 0⟩, ⟨F.CLE_ARM_STATUS_REFUSE, .ro, 0⟩]⟩,
  ⟨0x6e2000, [(192, 16)], [⟨F.CLE_CH_CFG_PARSEL, .rw, 0⟩, ⟨F.CLE_CH_CFG_RATE, .rw, 0⟩, ⟨F.CLE_CH_CFG_PHASE, .rw, 0⟩]⟩,
  ⟨0x6e2001, [(192, 16)], [⟨F.CLE_CH_MODE_MODE, .wo, 0⟩, ⟨F.CLE_CH_MODE_SP_SRC, .wo, 0⟩]⟩,
  ⟨0x6e2002, [(192, 16)], [⟨F.CLE_CH_STATUS_MODE, .ro, 0⟩, ⟨F.CLE_CH_STATUS_FB_STATE, .ro, 0⟩, ⟨F.CLE_CH_STATUS_CAUSE, .ro, 0⟩, ⟨F.CLE_CH_STATUS_REFUSE, .ro, 0⟩, ⟨F.CLE_CH_STATUS_HOLD_CNT, .ro, 0⟩, ⟨F.CLE_CH_STATUS_RATE, .ro, 0⟩, ⟨F.CLE_CH_STATUS_PHASE, .ro, 0⟩, ⟨F.CLE_CH_STATUS_PAR_ACT, .ro, 0⟩, ⟨F.CLE_CH_STATUS_SP_SRC, .ro, 0⟩, ⟨F.CLE_CH_STATUS_POS_VALID, .ro, 0⟩, ⟨F.CLE_CH_STATUS_VEL_VALID, .ro, 0⟩, ⟨F.CLE_CH_STATUS_SS_ACTIVE, .ro, 0⟩, ⟨F.CLE_CH_STATUS_HO_ACTIVE, .ro, 0⟩, ⟨F.CLE_CH_STATUS_CLAMPED, .ro, 0⟩, ⟨F.CLE_CH_STATUS_STOP_REQ, .ro, 0⟩]⟩,
  ⟨0x6e2003, [(192, 16)], [⟨F.CLE_CH_MANUAL_VALUE, .rw, 0⟩]⟩,
  ⟨0x6e2004, [(192, 16)], [⟨F.CLE_CH_MANUAL_VALUE, .rw, 0⟩]⟩,
  ⟨0x6e2005, [(192, 16)], [⟨F.CLE_CH_FLAGS_MODE_CHANGED, .w1c, 0⟩, ⟨F.CLE_CH_FLAGS_VDC_FAULT, .w1c, 0⟩, ⟨F.CLE_CH_FLAGS_STOP_DONE, .w1c, 0⟩, ⟨F.CLE_CH_FLAGS_SS_DONE, .w1c, 0⟩, ⟨F.CLE_CH_FLAGS_PARAM_REFUSED, .w1c, 0⟩, ⟨F.CLE_CH_FLAGS_CMD_REFUSED, .w1c, 0⟩, ⟨F.CLE_CH_FLAGS_HANDOVER_REFUSED, .w1c, 0⟩, ⟨F.CLE_CH_FLAGS_CLAMPED, .w1c, 0⟩, ⟨F.CLE_CH_FLAGS_SAT, .w1c, 0⟩, ⟨F.CLE_CH_FLAGS_CRC_ERR, .w1c, 0⟩, ⟨F.CLE_CH_FLAGS_FEEDBACK_LOST, .w1c, 0⟩, ⟨F.CLE_CH_FLAGS_FB_HOLD, .w1c, 0⟩, ⟨F.CLE_CH_FLAGS_PREDICTED, .w1c, 0⟩]⟩,
  ⟨0x6e2006, [(192, 16)], [⟨F.CLE_CH_FLAG_CNT0_COUNT, .cnt, 0⟩]⟩]

/-- The registers of CLE, part 1, in the order of the spec. -/
def regRowsCLE1 : List RegRow := [
  ⟨0x6e2007, [(192, 16)], [⟨F.CLE_CH_FLAG_CNT0_COUNT, .cnt, 0⟩]⟩,
  ⟨0x6e2008, [(192, 16)], [⟨F.CLE_CH_FLAG_CNT0_COUNT, .cnt, 0⟩]⟩,
  ⟨0x6e2009, [(192, 16)], [⟨F.CLE_CH_FLAG_CNT0_COUNT, .cnt, 0⟩]⟩,
  ⟨0x6e200a, [(192, 16)], [⟨F.CLE_CH_EVMASK_EN, .rw, 3542⟩]⟩,
  ⟨0x6e200b, [(192, 16)], [⟨F.CLE_CH_EXP_S1, .ro, 128⟩, ⟨F.CLE_CH_EXP_S2, .ro, 128⟩, ⟨F.CLE_CH_EXP_S3, .ro, 128⟩]⟩,
  ⟨0x6e200c, [(192, 16)], [⟨F.CLE_CH_MEAS_VALUE, .ro, 0⟩]⟩,
  ⟨0x6e200d, [(192, 16)], [⟨F.CLE_CH_MEAS_VALUE, .ro, 0⟩]⟩,
  ⟨0x6e200e, [(192, 16)], [⟨F.CLE_CH_MEAS_VALUE, .ro, 0⟩]⟩]

/-- The registers of CLE. -/
def regRowsCLE : List RegRow :=
  regRowsCLE0 ++ regRowsCLE1

/-- The registers of SSM, part 0, in the order of the spec. -/
def regRowsSSM0 : List RegRow := [
  ⟨0x700000, [], [⟨F.SSM_STATUS_STATE, .ro, 0⟩, ⟨F.SSM_STATUS_SSA_PERMIT, .ro, 0⟩, ⟨F.SSM_STATUS_DROP_CAUSE, .ro, 1⟩]⟩,
  ⟨0x700001, [], [⟨F.SSM_PAR_CRC_CRC, .ro, 0⟩]⟩,
  ⟨0x700002, [], [⟨F.SSM_FLAGS_DROP, .w1c, 0⟩, ⟨F.SSM_FLAGS_PEER_MISSING, .w1c, 0⟩, ⟨F.SSM_FLAGS_BORDER_STALE, .w1c, 0⟩, ⟨F.SSM_FLAGS_ENV_LOST, .w1c, 0⟩, ⟨F.SSM_FLAGS_ENV_ERR, .w1c, 0⟩, ⟨F.SSM_FLAGS_DISCREPANCY, .w1c, 0⟩, ⟨F.SSM_FLAGS_STOP_MON_FAIL, .w1c, 0⟩, ⟨F.SSM_FLAGS_STOP_REQ, .w1c, 0⟩, ⟨F.SSM_FLAGS_SCALE_LIMITED, .w1c, 0⟩]⟩,
  ⟨0x700003, [], [⟨F.SSM_FLAG_CNT0_COUNT, .cnt, 0⟩]⟩,
  ⟨0x700004, [], [⟨F.SSM_FLAG_CNT0_COUNT, .cnt, 0⟩]⟩,
  ⟨0x700005, [], [⟨F.SSM_FLAG_CNT0_COUNT, .cnt, 0⟩]⟩,
  ⟨0x700006, [], [⟨F.SSM_EVMASK_EN, .rw, 510⟩]⟩,
  ⟨0x700020, [(16, 8)], [⟨F.SSM_ARM_SCALE_VALUE, .ro, 0⟩]⟩,
  ⟨0x700021, [(16, 8)], [⟨F.SSM_ARM_SCALE_VALUE, .ro, 0⟩]⟩,
  ⟨0x700022, [(16, 8)], [⟨F.SSM_ARM_SCALE_VALUE, .ro, 0⟩]⟩,
  ⟨0x700023, [(16, 8)], [⟨F.SSM_ARM_STATE_STOP_REQ, .ro, 0⟩, ⟨F.SSM_ARM_STATE_CAT, .ro, 0⟩, ⟨F.SSM_ARM_STATE_CAUSE, .ro, 0⟩, ⟨F.SSM_ARM_STATE_MONITORING, .ro, 0⟩, ⟨F.SSM_ARM_STATE_NEAREST, .ro, 0⟩]⟩,
  ⟨0x700200, [(128, 1)], [⟨F.SSM_CONN_OK, .ro, 0⟩, ⟨F.SSM_CONN_ERR, .ro, 0⟩, ⟨F.SSM_CONN_SEQ, .ro, 0⟩, ⟨F.SSM_CONN_ERRCNT, .clr, 0⟩]⟩]

/-- The registers of SSM. -/
def regRowsSSM : List RegRow :=
  regRowsSSM0

/-- The registers of XLK, part 0, in the order of the spec. -/
def regRowsXLK0 : List RegRow := [
  ⟨0x720000, [], [⟨F.XLK_STATUS_LINK, .ro, 0⟩, ⟨F.XLK_STATUS_DIR, .ro, 0⟩, ⟨F.XLK_STATUS_REPAIRED, .ro, 0⟩, ⟨F.XLK_STATUS_LAST_COMPLETE, .ro, 0⟩]⟩,
  ⟨0x720001, [], [⟨F.XLK_BUDGET_ACTIVE, .ro, 0⟩, ⟨F.XLK_BUDGET_WORDS, .ro, 0⟩]⟩,
  ⟨0x720002, [], [⟨F.XLK_BUDGET_ACTIVE, .ro, 0⟩, ⟨F.XLK_BUDGET_WORDS, .ro, 0⟩]⟩,
  ⟨0x720003, [], [⟨F.XLK_BUDGET_ACTIVE, .ro, 0⟩, ⟨F.XLK_BUDGET_WORDS, .clr, 0⟩]⟩,
  ⟨0x720004, [], [⟨F.XLK_BUDGET_ACTIVE, .ro, 0⟩, ⟨F.XLK_BUDGET_WORDS, .ro, 0⟩]⟩,
  ⟨0x720005, [], [⟨F.XLK_BUDGET_ACTIVE, .ro, 0⟩, ⟨F.XLK_BUDGET_WORDS, .ro, 0⟩]⟩,
  ⟨0x720006, [], [⟨F.XLK_FLUSH_BYTES, .ro, 0⟩]⟩,
  ⟨0x720007, [], [⟨F.XLK_FLUSH_BYTES, .clr, 0⟩]⟩,
  ⟨0x720008, [], [⟨F.XLK_RETRY_COUNT, .clr, 0⟩]⟩,
  ⟨0x720009, [], [⟨F.XLK_FLAGS_LINK_FAIL, .w1c, 0⟩, ⟨F.XLK_FLAGS_RESYNC_DONE, .w1c, 0⟩, ⟨F.XLK_FLAGS_FLUSH_LATE, .w1c, 0⟩, ⟨F.XLK_FLAGS_FLUSH_OVER, .w1c, 0⟩, ⟨F.XLK_FLAGS_OVER_BUDGET, .w1c, 0⟩, ⟨F.XLK_FLAGS_INCOMPLETE, .w1c, 0⟩]⟩,
  ⟨0x72000a, [], [⟨F.XLK_FLAG_CNT0_COUNT, .cnt, 0⟩]⟩,
  ⟨0x72000b, [], [⟨F.XLK_FLAG_CNT0_COUNT, .cnt, 0⟩]⟩]

/-- The registers of XLK, part 1, in the order of the spec. -/
def regRowsXLK1 : List RegRow := [
  ⟨0x72000c, [], [⟨F.XLK_EVMASK_EN, .rw, 47⟩]⟩]

/-- The registers of XLK. -/
def regRowsXLK : List RegRow :=
  regRowsXLK0 ++ regRowsXLK1

/-- The registers of RDB, part 0, in the order of the spec. -/
def regRowsRDB0 : List RegRow := [
  ⟨0x7e0000, [], [⟨F.RDB_CMD_CODE, .wo, 0⟩]⟩,
  ⟨0x7e0001, [], [⟨F.RDB_SNAP_CFG_MASK, .rw, 0⟩]⟩,
  ⟨0x7e0002, [], [⟨F.RDB_SNAP_DST_ADDR, .rw, 0⟩]⟩,
  ⟨0x7e0003, [], [⟨F.RDB_STATUS_STATE, .ro, 0⟩, ⟨F.RDB_STATUS_REFUSE, .ro, 0⟩, ⟨F.RDB_STATUS_WORDS, .ro, 0⟩]⟩,
  ⟨0x7e0004, [], [⟨F.RDB_FLAGS_CMD_REFUSED, .w1c, 0⟩, ⟨F.RDB_FLAGS_SNAP_LOST, .w1c, 0⟩, ⟨F.RDB_FLAGS_SNAP_DONE, .w1c, 0⟩]⟩,
  ⟨0x7e0005, [], [⟨F.RDB_FLAG_CNT_COUNT, .cnt, 0⟩]⟩,
  ⟨0x7e0006, [], [⟨F.RDB_EVMASK_EN, .rw, 7⟩]⟩,
  ⟨0x7e0020, [], [⟨F.RDB_RL_SEL_PRIO, .rw, 0⟩]⟩,
  ⟨0x7e0100, [(512, 1)], [⟨F.RDB_RL_ENTRY_VALID, .ro, 0⟩, ⟨F.RDB_RL_ENTRY_THREAD, .ro, 0⟩]⟩,
  ⟨0x7e0800, [(1024, 2)], [⟨F.RDB_PQ_ENTRY_VALUE, .ro, 0⟩]⟩,
  ⟨0x7e0801, [(1024, 2)], [⟨F.RDB_PQ_ENTRY_VALUE, .ro, 0⟩]⟩,
  ⟨0x7f0000, [(65536, 1)], [⟨F.RDB_BUF_WORD, .ro, 0⟩]⟩]

/-- The registers of RDB. -/
def regRowsRDB : List RegRow :=
  regRowsRDB0

/-- The registers of CMP, part 0, in the order of the spec. -/
def regRowsCMP0 : List RegRow := [
  ⟨0x160800, [(16, 16)], [⟨F.CMP_CFG_KIND, .rw, 0⟩, ⟨F.CMP_CFG_DIR, .rw, 1⟩, ⟨F.CMP_CFG_FIRE, .rw, 0⟩, ⟨F.CMP_CFG_TRG, .rw, 0⟩, ⟨F.CMP_CFG_ACTION, .rw, 0⟩, ⟨F.CMP_CFG_PIF, .rw, 0⟩, ⟨F.CMP_CFG_ARM, .rw, 0⟩, ⟨F.CMP_CFG_TAG, .rw, 0⟩]⟩,
  ⟨0x160801, [(16, 16)], [⟨F.CMP_VAL_VALUE, .rw, 0⟩]⟩,
  ⟨0x160802, [(16, 16)], [⟨F.CMP_VAL_VALUE, .rw, 0⟩]⟩,
  ⟨0x160803, [(16, 16)], [⟨F.CMP_STEP_VALUE, .rw, 0⟩]⟩,
  ⟨0x160805, [(16, 16)], [⟨F.CMP_STEP_VALUE, .rw, 4295⟩]⟩,
  ⟨0x160804, [(16, 16)], [⟨F.CMP_REPEAT_COUNT, .rw, 0⟩]⟩,
  ⟨0x160806, [(16, 16)], [⟨F.CMP_DELAY_DELAY, .rw, 48⟩]⟩,
  ⟨0x160807, [(16, 16)], [⟨F.CMP_PATH_OFS_OFS, .rw, 0⟩]⟩,
  ⟨0x160808, [(16, 16)], [⟨F.CMP_CMD_CODE, .wo, 0⟩]⟩,
  ⟨0x160809, [(16, 16)], [⟨F.CMP_STATUS_STATE, .ro, 0⟩, ⟨F.CMP_STATUS_PRED, .ro, 0⟩, ⟨F.CMP_STATUS_REFUSE, .ro, 0⟩, ⟨F.CMP_STATUS_REMAIN, .ro, 0⟩]⟩,
  ⟨0x16080a, [(16, 16)], [⟨F.CMP_FLAGS_CMD_REFUSED, .w1c, 0⟩, ⟨F.CMP_FLAGS_COMPARE_BEHIND, .w1c, 0⟩, ⟨F.CMP_FLAGS_LATE, .w1c, 0⟩, ⟨F.CMP_FLAGS_FIRED, .w1c, 0⟩]⟩,
  ⟨0x16080b, [(16, 16)], [⟨F.CMP_FLAG_CNT_COUNT, .cnt, 0⟩]⟩]

/-- The registers of CMP, part 1, in the order of the spec. -/
def regRowsCMP1 : List RegRow := [
  ⟨0x16080c, [(16, 16)], [⟨F.CMP_EVMASK_EN, .rw, 14⟩]⟩]

/-- The registers of CMP. -/
def regRowsCMP : List RegRow :=
  regRowsCMP0 ++ regRowsCMP1

/-- The registers of TRG, part 0, in the order of the spec. -/
def regRowsTRG0 : List RegRow := [
  ⟨0x160c00, [(8, 8)], [⟨F.TRG_CFG_EN, .rw, 0⟩, ⟨F.TRG_CFG_INV, .rw, 0⟩, ⟨F.TRG_CFG_EVT_ACTION, .rw, 0⟩]⟩,
  ⟨0x160c01, [(8, 8)], [⟨F.TRG_EVT_WIDTH_WIDTH, .rw, 43⟩]⟩,
  ⟨0x160c02, [(8, 8)], [⟨F.TRG_STATUS_LEVEL, .ro, 0⟩, ⟨F.TRG_STATUS_PULSE_ON, .ro, 0⟩]⟩,
  ⟨0x160c03, [(8, 8)], [⟨F.TRG_FLAGS_PICOT_OVF, .w1c, 0⟩, ⟨F.TRG_FLAGS_EVT, .w1c, 0⟩, ⟨F.TRG_FLAGS_FIRED, .w1c, 0⟩]⟩,
  ⟨0x160c04, [(8, 8)], [⟨F.TRG_FLAG_CNT_COUNT, .cnt, 0⟩]⟩,
  ⟨0x160c05, [(8, 8)], [⟨F.TRG_EVMASK_EN, .rw, 4⟩]⟩]

/-- The registers of TRG. -/
def regRowsTRG : List RegRow :=
  regRowsTRG0

/-- The registers of SEC, part 0, in the order of the spec. -/
def regRowsSEC0 : List RegRow := [
  ⟨0x40400, [], [⟨F.SEC_OTP_PROV, .ro, 1⟩, ⟨F.SEC_OTP_REVOKED, .ro, 0⟩, ⟨F.SEC_OTP_DEBUG_OK, .ro, 1⟩, ⟨F.SEC_OTP_ROLLBACK, .ro, 0⟩]⟩,
  ⟨0x40401, [], [⟨F.SEC_SERIAL_HI_SERIAL, .ro, 0⟩]⟩,
  ⟨0x40402, [], [⟨F.SEC_SERIAL_HI_SERIAL, .ro, 0⟩]⟩,
  ⟨0x40403, [], [⟨F.SEC_CMD_DEBUG_OK, .wo, 0⟩, ⟨F.SEC_CMD_ARG, .wo, 0⟩, ⟨F.SEC_CMD_CODE, .wo, 0⟩]⟩,
  ⟨0x40404, [], [⟨F.SEC_STATUS_BUSY, .ro, 0⟩, ⟨F.SEC_STATUS_DEBUG, .ro, 0⟩, ⟨F.SEC_STATUS_DEBUG_MAX, .ro, 0⟩, ⟨F.SEC_STATUS_UNLOCK_FAILS, .ro, 0⟩, ⟨F.SEC_STATUS_REFUSE, .ro, 0⟩]⟩,
  ⟨0x40420, [(16, 1)], [⟨F.SEC_DATA_BYTES, .rw, 0⟩]⟩,
  ⟨0x40440, [], [⟨F.SEC_CERT_LEN_BYTES, .ro, 0⟩]⟩,
  ⟨0x40800, [(296, 1)], [⟨F.SEC_RPT_BYTES, .ro, 0⟩]⟩,
  ⟨0x40c00, [(512, 1)], [⟨F.SEC_RPT_BYTES, .ro, 0⟩]⟩]

/-- The registers of SEC. -/
def regRowsSEC : List RegRow :=
  regRowsSEC0

/-- The register rows of the block that slot `k` lies in (R490, R491). -/
def regBlock (k : Nat) : List RegRow :=
  if k < 0x20000 then regRowsHIF
  else if k < 0x40000 then regRowsEVM
  else if k < 0x40400 then regRowsBOOT
  else if k < 0x60000 then regRowsSEC
  else if k < 0x80000 then regRowsRED
  else if k < 0xA0000 then regRowsTIM
  else if k < 0xC0000 then regRowsBEL
  else if k < 0x100000 then regRowsSSM2
  else if k < 0x120000 then regRowsCBUS
  else if k < 0x140000 then regRowsFED
  else if k < 0x160000 then regRowsFIO
  else if k < 0x160800 then regRowsPIF
  else if k < 0x160C00 then regRowsCMP ++ regRowsPIF
  else if k < 0x600000 then regRowsTRG ++ regRowsPIF
  else if k < 0x620000 then regRowsPLANE
  else if k < 0x640000 then regRowsSCH
  else if k < 0x660000 then regRowsDMA
  else if k < 0x680000 then regRowsCST
  else if k < 0x6A0000 then regRowsPLN
  else if k < 0x6C0000 then regRowsSLV
  else if k < 0x6E0000 then regRowsEST
  else if k < 0x700000 then regRowsCLE
  else if k < 0x720000 then regRowsSSM
  else if k < 0x7E0000 then regRowsXLK
  else regRowsRDB

/-- Whether a distance of `d` slots from an array's first element is that of one of its elements. -/
def inDims : Nat → List (Nat × Nat) → Bool
  | d, [] => d == 0
  | d, (n, s) :: t => decide (d / s < n) && inDims (d % s) t

/-- Whether slot `k` is the row's register, or one of its array. -/
def RegRow.has (r : RegRow) (k : Nat) : Bool := decide (r.base ≤ k) && inDims (k - r.base) r.dims

/-- The fields of the register at slot `k`; none where no register lies (R18). -/
def regFields (k : Nat) : List RegField :=
  match (regBlock k).find? (fun r => r.has k) with
  | some r => r.fields
  | none => []

/-- A slot that a register occupies. -/
def isReg (k : Nat) : Bool := (regBlock k).any (fun r => r.has k)

/-- A word with the fields at their reset values and every reserved bit 0 (R18). -/
def resetWord (fs : List RegField) : Word := fs.foldl (fun w f => f.fld.set w f.reset) 0

/-- The reset value of the register at slot `k`; 0 where no register lies (R18). -/
def regReset (k : Nat) : Word := resetWord (regFields k)

end Sys2Proof.Machine
end

