-- ==== Sys2Proof/Machine/State.lean ====
section
/-! DEFINITION. The state of the HL8128 as plain data, and its value at reset.  The registers lie in sparse register
files, one for the single-copy dies and two for each plane (its replicated blocks and its own, R40, R491); what the
registers do not show lies in a structure for each block. -/

namespace Sys2Proof.Machine

/-- A sparse register file: the slots whose value is not the reset value, rising (R12). -/
abbrev RegFile := List (Nat × Word)

/-- A cycle configuration (R53, R55): period and phase in ticks of 250 ns, offsets in ns. -/
structure CycCfg where
  period : Nat
  phase : Nat
  sync : Nat
  fb : Nat
  solve : Nat
  commit : Nat
  apply : Nat
  deriving DecidableEq, Repr

/-- What a time beacon carries (R46): its departure in HTS72, the CYCLE bit, and n[15:0] with it. -/
structure Beacon where
  time : Nat
  cycle : Bool
  n : Nat
  deriving DecidableEq, Repr

/-- The cycle sequencer of the time keeper (R50 to R61). -/
structure CycleSt where
  /-- cycle starts so far; the current cycle is `starts - 1` (R52) -/
  starts : Nat
  /-- the tick of CT0 of the current cycle -/
  tick : Nat
  /-- the tick of the next cycle start -/
  nextTick : Nat
  /-- a cycle has begun since the sequencer entered RUNNING -/
  inCycle : Bool
  /-- the accepted configuration that waits for the end of the cycle or for CHANGING to end (R56) -/
  pend : Option CycCfg
  /-- cell time, in ps, from which the 16 µs of CHANGING are counted (R56) -/
  holdFrom : Nat
  /-- the PTP step that first lock left to take, in ps (R43, R44) -/
  step : Option Int
  /-- cell time has taken its one step (R43) -/
  stepped : Bool
  /-- the event points in force (R61) -/
  evp : List Word
  /-- event points written since the last cycle start (R61) -/
  evpNew : List Nat
  /-- beacons that islands 0..39 have missed in a row (R48) -/
  miss : List Nat
  /-- beacons that islands 0..39 have received in a row since they last missed one (R48) -/
  good : List Nat
  /-- the local cell-time counter of islands 0..39, as its distance in ps from the reference at the last beacon (R24, R48) -/
  clk : List Int
  /-- delay compensation of the beacon path of islands 0..39 in ps, measured at boot (R47) -/
  delay : List Nat
  /-- departure of the last beacon in ps of cell time, and what that beacon carried (R46) -/
  beaconAt : Nat
  beacon : Option Beacon
  deriving DecidableEq, Repr

/-- A die-to-die link (R29, R30). -/
structure LinkSt where
  retries : Nat
  failed : Bool
  deriving DecidableEq, Repr

/-- What a commit sends to the output stages (R57, R366). -/
structure CommitContent where
  plane : Plane
  epoch : Nat
  cycle : Nat
  /-- the command image words, with their store addresses -/
  cmd : List (Nat × Word)
  /-- DO0..DO15 levels -/
  douts : Nat
  /-- the PERMIT request of channel 1 on SAFE_STOP_A (R290) -/
  ssa : Bool
  deriving DecidableEq, Repr

/-- The cause of a role change (RED_LAST_SW.CAUSE). -/
inductive SwapCause where
  | heartbeat | mcheck | planned | reversion | host
  deriving DecidableEq, Repr

/-- What the Warden keeps of one plane besides its registers (R362 to R384). -/
structure WardPlane where
  /-- the interlock line is active (R32) -/
  interlock : Bool
  /-- the plane's machine-check line (R373) -/
  mchk : Bool
  /-- the heartbeat line has toggled since the last check (R372) -/
  toggled : Bool
  /-- cycles in a row without a toggle (R362) -/
  noToggle : Nat
  /-- cell-time seconds of its faults (R382) -/
  faults : List Nat
  /-- the next entry to IN_STEP starts the hold-off (R380) -/
  holdNext : Bool
  /-- a link that R28 found unusable at boot -/
  unusable : Bool
  /-- the plane die is held in reset (R374) -/
  inReset : Bool
  /-- cell time in ps of its last health report (R384) -/
  healthAt : Nat
  /-- cell time in ps at which it entered its present state (R362, R380) -/
  since : Nat
  deriving DecidableEq, Repr

/-- The redundancy arbiter of the Warden. -/
structure RedSt where
  wa : WardPlane
  wb : WardPlane
  /-- path P has arrived for the cycle under check (R372) -/
  pathP : Bool
  /-- APPLIED has been reported for this cycle (R370) -/
  applied : Option Nat
  /-- consecutive arrivals of path P and of path W since its fault -/
  pRun : Nat
  wRun : Nat
  /-- a swap is due at the commit, with its cause (R379) -/
  due : Option SwapCause
  /-- SWAP_NOW has been accepted (RED_CMD) -/
  hostSwap : Bool
  /-- the present swap period (R378) -/
  period : Nat
  /-- the Breath of this cycle carried SWAP = 1 (R379) -/
  swapSent : Bool
  /-- the swap due is announced to the Chanter's DMA engine (R425) -/
  announced : Bool
  /-- cell time, in ps, from which the Chanter runs cycles (R374); none while a takeover is not yet ready -/
  readyAt : Option Nat
  /-- the last commit that the Chanter applied or made -/
  lastCommit : Nat
  /-- the content of the last commit on its way to the output stages (R366) -/
  content : Option CommitContent
  /-- the Chanter's first cycle (R374) -/
  firstCycle : Nat
  /-- the hold-off of the scheduled plane ended in this period: a swap back is a reversion (R380) -/
  reversion : Bool
  /-- the Warden's device link fault stands, until the next boot (R30) -/
  linkFault : Bool
  deriving DecidableEq, Repr

/-- An item on XLK (R368, R371). -/
inductive XlkItem (β : Type) where
  | line (addr : Nat) (ws : List Word)
  | block (st : β)
  | breath (ws : List Word)
  deriving DecidableEq, Repr

/-- A loaded Bobbin (R410, R411). -/
structure Bobbin where
  w0 : Word
  w1 : Word
  w2 : Word
  w3 : Word
  w4 : Word
  w5 : Word
  deriving DecidableEq, Repr

/-- A burst in flight (R417). -/
structure Burst where
  ch : Nat
  /-- index of its first word in the transfer -/
  first : Nat
  len : Nat
  /-- words read from a PLANE source -/
  data : List Word
  /-- a word of it was read poisoned (R404) -/
  poison : Bool
  /-- Memory Read requests of a HOST source that hold a tag (R497) -/
  reads : Nat
  deriving DecidableEq, Repr

/-- The Bobbin a DMA channel works on (R412 to R422). -/
structure DmaCh where
  bob : Option Bobbin
  /-- words issued, and words acknowledged -/
  issued : Nat
  acked : Nat
  half : Bool
  /-- the first error: its status code and the number of good words before it -/
  err : Option (Nat × Nat)
  stop : Bool
  aborting : Bool
  /-- cell time in ps at which a starved channel last read the Bobbin at HEAD (R414) -/
  seen : Nat
  /-- the last word delivered: a packed burst can start within a byte (R11) -/
  tail : Word
  deriving DecidableEq, Repr

/-- The DMA engine (R416 to R425). -/
structure DmaSt where
  chs : List DmaCh
  bursts : List Burst
  /-- pending requests of the 64 request lines (R418) -/
  lines : List Nat
  /-- the channel last granted at each priority (R419) -/
  last : List Nat
  /-- no burst starts, for an announced swap (R425) -/
  hold : Bool
  /-- cell time in ps since which a ready burst waits for its turn in flight, and a read request for a tag (R419, R497) -/
  waits : Option Nat
  waitsTag : Option Nat
  deriving DecidableEq, Repr

/-- A post whose source stalls: where it comes from, its thread and payload, and the cell time in ps at which it came (R393). -/
structure StalledPost where
  src : PostSource
  thread : Nat
  payload : Word
  since : Nat
  deriving DecidableEq, Repr

/-- The thread scheduler (R388 to R397): lists, queue and stamps that its registers do not show. -/
structure SchedSt where
  /-- one ready list per priority, head first -/
  ready : List (List Nat)
  /-- accepted posts, oldest first -/
  posts : List (Nat × Word)
  /-- posts of stalled sources, in order (R393) -/
  stalled : List StalledPost
  /-- cell time in ps at which each READY thread entered READY -/
  since : List (Nat × Nat)
  /-- cell time in ps at which each core's thread was dispatched -/
  began : List Nat
  /-- busy ps of each core in the present load window, and the window's start -/
  busy : List Nat
  winStart : Nat
  /-- READY threads that were BLOCKED and have yet to take the post that woke them (R392) -/
  fresh : List Nat
  deriving DecidableEq, Repr

/-- A graph node (R398). -/
structure GNode where
  exec : Nat
  mask : Nat
  op : Nat
  thresh : Nat
  final : Bool
  arg : Word
  succ : List Nat
  deriving DecidableEq, Repr

/-- A dataflow graph that runs (R399). -/
structure GraphSt where
  kind : Nat
  nodes : List GNode
  tokens : List Nat
  /-- ready nodes, ascending -/
  ready : List Nat
  /-- running nodes with the core of a CORE node -/
  running : List (Nat × Nat)
  start : Nat
  timeout : Nat
  deriving DecidableEq, Repr

/-- The central store of a plane (R402 to R406). -/
structure StoreSt where
  /-- the words that are not 0, by rising word address -/
  words : List (Nat × Word)
  /-- pairs with an uncorrectable error or a poison check code, with the mask of their words written since -/
  bad : List (Nat × Nat)
  /-- corrected errors of a row in the present scrub period -/
  rows : List (Nat × Nat)
  /-- rows being copied into a spare, the first one in progress -/
  sparing : List Nat
  /-- cell time in ps at which the present scrub pass began (R405) -/
  scrubStart : Nat
  deriving DecidableEq, Repr

/-- The state-copy engine of a plane (R367 to R371, R381). -/
structure XlkSt where
  /-- dirty copy lines, oldest first (Chanter) -/
  dirty : List Nat
  /-- data words sent for the present cycle -/
  sent : Nat
  /-- words of the sweep that the budget of the last commit's cycle still leaves (R381) -/
  room : Nat
  exceeded : Bool
  /-- lines of the replicated segments that the present sweep has sent, in address order (Chanter, R381) -/
  swept : Nat
  sweeping : Bool
  /-- undo log (Drone): lines with their old contents -/
  undo : List (Nat × List Word)
  /-- the Prickings are loaded since the sweep ended (R381) -/
  loaded : Bool
  /-- the last commit's copy was complete when its flush was sent (R369) -/
  complete : Bool
  deriving DecidableEq, Repr

/-- The event matrix and the endpoint's MSI-X table (R474 to R478). -/
structure EvmSt where
  /-- MSI-X table: address low, address high, data, vector control -/
  table : List (List (BitVec 32))
  pba : List Nat
  /-- events raised and not yet asserted at the matrix -/
  raised : List Nat
  /-- events routed to a trigger output and not yet there -/
  trig : List Nat
  /-- vectors of the messages sent to the host, the newest first -/
  sent : List Nat
  /-- cell time in ps at which the last holdoff of each vector ends (R478) -/
  holdEnd : List Nat
  deriving DecidableEq, Repr

/-- A host access that waits for its domain, with the plane that held the grant when its TLP was decoded (R25, R493, R495): a write of a
register of a plane; a read TLP on BAR0 with its offset and dwords; a write and a read on BAR2. -/
inductive HeldAccess where
  | write (slot : Nat) (plane : Plane) (val : Word)
  | read (off dws : Nat) (granted : Option Plane)
  | bar2Write (off : Nat) (dws : List HostDword) (granted : Option Plane)
  | bar2Read (off n : Nat) (granted : Option Plane)
  deriving DecidableEq, Repr

/-- The endpoint (R486 to R502). -/
structure HifSt where
  /-- the low-half latch of R13: the register, by its slot in a fixed window where it has one, and the half written -/
  latch : Option (Nat × BitVec 32)
  /-- the 64-bit lanes of the last BAR0 or BAR2 completion, and whether it was poisoned -/
  cpl : List (BitVec 64)
  poisoned : Bool
  /-- the cause of the endpoint reset to report when the link is up (R499): true for FLR -/
  rst : Option Bool
  /-- Memory Writes of the DMA engine, the newest first: byte address and bytes (R497) -/
  out : List (Nat × List Byte)
  /-- Memory Reads of the DMA engine, the newest first: byte address and length (R497) -/
  reads : List (Nat × Nat)
  /-- words sent to PERIPHERAL ports, the newest first (R411) -/
  periph : List (Nat × Word)
  deriving DecidableEq, Repr

/-- Bellows (R467 to R472). -/
structure BelSt where
  /-- cell time in ps of the wake request that a domain answers -/
  wake : List (Option Nat)
  /-- a power-down of the domain has been decided and its entry runs, to this state -/
  entering : List (Option Nat)
  /-- a power-down of the domain, to this state, is deferred until no burst for it is in flight (R423) -/
  deferred : List (Option Nat)
  /-- host accesses waiting for their domain, in order -/
  held : List HeldAccess
  deriving DecidableEq, Repr

/-! ### The planner (R65 to R138) -/

/-- The modal state of an arm's stream, in program order (R70, R72, R77 to R80). -/
structure Modal where
  frame : Nat
  /-- user frames U0..U7, relative to WORLD; none where undefined -/
  users : List (Option (List Word))
  tool : List Word
  /-- mask of COUPLE; 0 when decoupled -/
  couple : Nat
  /-- values of LIMIT codes 0x01..0x06 -/
  limits : List Word
  tolPos : Word
  tolOri : Word
  deriving DecidableEq, Repr

/-- A Stitch as fetched (R65, R101): the count of its header, its header fields and operands, the fault its decode found (0
for none) and the modal state that governs it. -/
structure Stitch where
  op : Opcode
  pos : Nat
  count : Nat
  tag : Nat
  event : Bool
  blendOk : Bool
  feedLock : Bool
  ops : List Word
  fault : Nat
  modal : Modal
  deriving DecidableEq, Repr

/-- A stretch of the path with one set of limits: length, speed, acceleration and jerk (R115). -/
structure Ival where
  len : Rat
  v : Rat
  a : Rat
  j : Rat
  deriving DecidableEq, Repr

/-- A section of the path: what blends leave of a piece, or a blend. -/
structure Sect where
  geo : Geo
  isBlend : Bool
  /-- where the section starts in the piece, and its length, in the piece's own unit -/
  own : Rat
  len : Rat
  /-- the midpoint of a blend, in its own unit -/
  mid : Rat
  /-- the path coordinate of its start, and its extent in that coordinate -/
  x : Rat
  w : Rat
  /-- its Stitch, and the tag of the one after the junction for a blend -/
  st : Stitch
  tag2 : Nat
  /-- the limits over it, in its own unit (R115, R116) -/
  ivs : List Ival
  /-- a JOINT piece that has been planned from the published positions (R532); true for the others -/
  ready : Bool
  /-- exact stop at its end -/
  stop : Bool
  /-- whether the junction at its end can be blended is still to be found (R113, R120) -/
  todo : Bool
  /-- a ZONE_ENTER without grant stands at its end, at a junction that could be blended otherwise (R129) -/
  zone : Bool
  deriving DecidableEq, Repr

/-- A phase of a profile: its length in s, its jerk, and speed and acceleration at its start (R117). -/
structure Phase where
  dur : Rat
  jerk : Rat
  x : Rat
  v : Rat
  a : Rat
  deriving DecidableEq, Repr

/-- What an arm in WAITING waits for (R86, R87, R90, R92, R105). -/
structure Wait where
  /-- SYNC id, mode and mask; zone code; or the words of a WAITIO -/
  args : List Nat
  /-- cell time in ps at which the wait times out -/
  deadline : Option Nat
  /-- ps left of a frozen wait (R100) -/
  left : Option Nat
  /-- level of the last evaluation of an edge condition, where known (R90) -/
  level : Option Bool
  pos : Nat
  tag : Nat
  deriving DecidableEq, Repr

/-- An armed TRIG that has not fired (R84, R85). -/
structure ArmedTrig where
  unit : Nat
  act : Nat
  /-- place in the piece's own unit -/
  place : Rat
  width : Word
  /-- header count of the motion Stitch it is armed for; none until that is fetched -/
  motion : Option Nat
  /-- header count of the TRIG; it is armed from its reach on -/
  pos : Nat
  armed : Bool
  tag : Nat
  deriving DecidableEq, Repr

/-- What a RESUMING arm takes from its checkpoint record (R107): zones to regain, layer number and arm mask, and the pose and
joint positions at which it stands. -/
structure Resume where
  zones : List Nat
  layer : Word
  mask : Nat
  pose : List Word
  joints : List Word
  deriving DecidableEq, Repr

/-- An arm's planner and queue, but for its registers. -/
structure Arm where
  /-- ring base, size and source in force (R99) -/
  base : Nat
  size : Nat
  src : Nat
  /-- the start-up copy put a stream into the ring (R98) -/
  copied : Bool
  modal : Modal
  /-- fetched and unreached Stitches, in program order -/
  ahead : List Stitch
  /-- no further Stitch is fetched: a fault was fetched, or END was -/
  aheadFault : Bool
  endFetched : Bool
  /-- pose and joint values at the end of the last motion Stitch fetched, and the tool of that pose -/
  endPose : List Word
  endTool : List Word
  endJoints : List Word
  lastGeo : Option Geo
  sects : List Sect
  phases : List Phase
  /-- profile time since the start of the first phase, in s -/
  tau : Rat
  x : Rat
  v : Rat
  acc : Rat
  sigma : Rat
  sigmaPrev : Rat
  /-- the motion Stitch being run, by its header count -/
  cur : Option Nat
  /-- KIND of the target image (R530) -/
  kind : Nat
  /-- PROFILE_LIMITED stands (R114) -/
  limited : Bool
  /-- the profile is to be planned anew (R113) -/
  dirty : Bool
  /-- the path has been left on a stop profile of a fault, a HOLD, open loops or a LAYER that waits; one of open loops (R527), one
  of a LAYER whose record has no room (R105) -/
  stopping : Bool
  loopStop : Bool
  ckpStop : Bool
  wait : Option Wait
  /-- commands written and not yet taken (R100), and the one held in FAULT (R525) -/
  cmds : List Nat
  held : Option Nat
  /-- the Stitch that caused the fault, to be executed again (R100) -/
  redo : Option Stitch
  cleared : Bool
  trigs : List ArmedTrig
  /-- what a RESUMING arm takes from its record (R107) -/
  resume : Option Resume
  resumeBy : Option Nat
  /-- SYNC group, as an arm mask; 0 outside one (R126) -/
  group : Nat
  /-- checkpoint records composed and not yet written (R103) -/
  records : List (List Word)
  /-- positions of the 16 joints and external axes last commanded (R530, R531) -/
  joints : List Word
  /-- tool-centre pose last commanded, and the tool of the last motion Stitch reached -/
  pose : List Word
  tool : List Word
  /-- pose of the PART frame where it is frozen, and the mask of the COUPLE that has been reached (R80) -/
  part : List Word
  coupled : Nat
  /-- external axes that a JOINT has masked so far (R531) -/
  moved : Nat
  /-- the last reached Stitch -/
  last : Option Stitch
  /-- the cycle in which the arm came to rest, and the positions of its axes that the commit of that cycle published (R532) -/
  restN : Nat
  restPos : Option (List Word)
  /-- number of the last layer reached (R352) -/
  layer : Option Word
  deriving DecidableEq, Repr

/-- A ramp of a process set-point (R83). -/
structure Ramp where
  from0 : Rat
  target : Rat
  byPath : Bool
  /-- length in s or m, and how much of it is done -/
  total : Rat
  done : Rat
  arm : Nat
  deriving DecidableEq, Repr

/-- A process loop: its set-point before speed locking, its locks and its ramp (R82, R83, R135). -/
structure Loop where
  value : Rat
  /-- reference speed in m/s while the set-point follows the speed -/
  lock : Option Rat
  /-- reference speed of the last PROC with FEED_LOCK -/
  ref : Option Rat
  ramp : Option Ramp
  /-- the set-point of the last interpolation -/
  out : Rat
  deriving DecidableEq, Repr

/-- A pending request for a zone (R128, R130). -/
structure ZoneReq where
  zone : Nat
  arm : Nat
  peer : Bool
  cycle : Nat
  prio : Nat
  fed : Nat
  deriving DecidableEq, Repr

/-- A border-zone message of a peer's exchange frame (R132 to R134). -/
inductive BorderMsg where
  /-- a frame with an accepted ZONE section has come (R355) -/
  | frame (zone : Nat)
  | release (zone arm : Nat)
  | grant (zone arm : Nat)
  | request (zone arm prio fed : Nat)
  /-- the full holding state after frames return -/
  | holds (zone arm : Nat) (held : Bool)
  | config (zone : Nat) (ok : Bool)
  deriving DecidableEq, Repr

/-- A firing that the planner has predicted (R85, R257): its compare unit, its arm, its time in ps, and what the TRIG gives. -/
structure Pred where
  unit : Nat
  arm : Nat
  t : Nat
  late : Bool
  act : Nat
  width : Word
  tag : Nat
  deriving DecidableEq, Repr

/-- The planner of a plane. -/
structure PlnSt where
  arms : List Arm
  loops : List Loop
  reqs : List ZoneReq
  /-- border messages received since the last interpolation -/
  inbox : List BorderMsg
  /-- border zones whose pairing disagrees with the peer (R133), those whose frames are missing, and for how many interpolations
  in a row none came for each border zone (R134) -/
  bzBad : List Nat
  bzLost : List Nat
  bzMiss : List Nat
  /-- levels of DO0..DO15 in the command image (R91) -/
  douts : Nat
  /-- a CALIB_APPLY, or a LAYER with CAL, has been reached in this cycle (R81, R194) -/
  calib : Bool
  /-- arms whose PATH units are to be cancelled at the next commit (R259) -/
  cancels : List Nat
  /-- firings to be published at the next commit (R257), and those above four of a unit, moved on to the next window (R85) -/
  preds : List Pred
  excess : List Pred
  /-- border-zone words of this cycle's interpolation, for the peers (R132) -/
  outbox : List BorderMsg
  /-- the ZONE words, with their zones, of the interpolation before this one (R354) -/
  zoneWas : List (Nat × Word)
  /-- arms under FB_LOST, each with the arm that lost its feedback (R124) -/
  fbLost : List (Nat × Nat)
  deriving DecidableEq, Repr

/-- One joint or auxiliary axis in the kinematics section: linear or rotary, its range, and its limits of velocity (V36),
acceleration (A36) and jerk (LSB 2^-8). -/
structure AxisTab where
  linear : Bool
  lo : Word
  hi : Word
  vmax : Word
  amax : Word
  jmax : Word
  deriving DecidableEq, Repr

/-- A station bit that the device tables assign to an arm; its place is a word offset in the transmit window, or in the input image
for a bit that is read (R89, R315, R326). -/
structure StationBit where
  channel : Nat
  station : Nat
  word : Nat
  bit : Nat
  place : Nat
  deriving DecidableEq, Repr

/-- What the device tables and the kinematics section give an arm (R72, R76 to R78, R82, R89). -/
structure ArmTab where
  joints : List AxisTab
  /-- auxiliary axes assigned as e0..e7, by number 128..159 -/
  ext : List Nat
  loops : List Nat
  dis : List Nat
  dos : List Nat
  ins : List StationBit
  outs : List StationBit
  limits : List Word
  ceilings : List Word
  tool : List Word
  base : List Word
  part : List Word
  /-- auxiliary axes of the part's positioner chain, as a mask of axes 128..159 -/
  chain : Nat
  deriving DecidableEq, Repr

/-! ### The control-law engines (R200 to R230) -/

/-- A block-floating value m × 2^(e − 35) (R206); `sat` says that a saturation of R208 stands behind it. -/
structure Bf where
  m : Int
  e : Int
  sat : Bool := false
  deriving DecidableEq, Repr

/-- A soft start: its initial offset, its length in samples, the next sample and the fraction bits of its format (R211). -/
structure SoftStart where
  d0 : Int
  n : Nat
  j : Nat
  deriving DecidableEq, Repr

/-- The remainder of a hand-over in LSB of the torque format: R, the step and the later runs done (R220). -/
structure Remainder where
  r : Rat
  step : Rat
  i : Nat
  deriving DecidableEq, Repr

/-- A channel that brakes: its set-point, v0 and v(j) in V36 LSB, and the run j (R225). -/
structure Brake where
  q : Int
  v0 : Int
  v : Rat
  j : Nat
  deriving DecidableEq, Repr

/-- A CLE channel, but for its registers (R230). -/
structure Chan where
  /-- the mode and source requested since the last commit, and the requests whose commit has passed, oldest first (R218) -/
  req : Option (Nat × Nat)
  due : List (Nat × Nat)
  /-- cycle starts at its last run -/
  ran : Nat
  /-- the unwrapped station count and the last station word (R203) -/
  count : Int
  word : Option Word
  /-- the last fresh measured value; q_m of the last run with the start of its cycle in ps (R204) -/
  meas : Option Int
  prev : Int × Nat
  /-- last fresh position and velocity, and runs since (R222) -/
  qf : Int
  vf : Int
  stale : Nat
  /-- runs with an unchanged measurement under the conditions of FROZEN, and the CRC failures of the last 8 runs (R221) -/
  still : Nat
  crc : List Bool
  /-- AMPLITUDE and INVALID as they stand (R221) -/
  ampBad : Bool
  invBad : Bool
  /-- stored exponents of S1 to S3, and integrators with their residues (R208) -/
  e1 : Int
  e2 : Int
  e3 : Int
  ip : Int × Int
  iF : Int × Int
  iv : Int × Int
  /-- the states of BQ0 to BQ3; empty until the first input presets them (R213, R219) -/
  bq : List (Int × Int)
  /-- mantissa of the last S3 output after its clamp -/
  y3 : Int
  /-- |v_cmd| and |y3| of the last run as words, and its q_sp and v_ff (R221, R225) -/
  vcmd : Int
  torq : Int
  qsp : Int
  vff : Int
  /-- signs of the last clamps of S3 and S4 (R213) -/
  dir3 : Int
  dir4 : Int
  /-- a soft start is due at the next run, and the one that runs -/
  ssDue : Bool
  ss : Option SoftStart
  hand : Option Remainder
  slot : List Word
  brake : Option Brake
  /-- control bits STO and STOP_REQ with the category (R216, R224) -/
  sto : Bool
  stopReq : Bool
  stopCat : Nat
  /-- last fresh DC-link voltage, and samples since it was fresh (R214) -/
  vdc : Nat
  vdcAge : Nat
  /-- PARSEL in force, and a RATE and PHASE that a commit refused (R202, R227) -/
  parsel : Nat
  cfgRefused : Option (Nat × Nat)
  /-- parameter blocks taken so far (R227) -/
  loads : Nat
  deriving DecidableEq, Repr

/-- The stop of an arm, or of a channel that belongs to none (R224): 0 NONE, 1 BRAKING, 2 STOPPED; the category in force;
the standing requests by source bit, and the cell time in ps at which it began. -/
structure StopUnit where
  state : Nat
  cat : Nat
  reqs : List (Nat × Nat)
  since : Nat
  deriving DecidableEq, Repr

/-- The engines of a plane. -/
structure CleSt where
  chs : List Chan
  /-- stops of arms 0..15, then of channels 0..191 that belong to no arm -/
  stops : List StopUnit
  /-- frozen units, numbered as the stops (R148, R223) -/
  frozen : List Nat
  /-- process set-points taken at the commit (R210) -/
  psp : List Word
  deriving DecidableEq, Repr

/-! ### The coupled solver and the estimation (R139 to R198) -/

/-- A Pricking that a plane has loaded: its container, and the number of the activation that brought it (R149, R168). -/
structure Prick where
  ws : List Word
  gen : Nat
  deriving DecidableEq, Repr

/-- Where the motion job is: its prologue, body, epilogue, the dynamics program, or its end (R158, R154). -/
inductive JobPhase where
  | prologue | body | epilogue | dynamics | ended
  deriving DecidableEq, Repr

/-- The motion job of a cycle (R158). -/
structure SlvJob where
  phase : JobPhase
  /-- index of the next operation in the running program -/
  pc : Nat
  /-- body runs done, the cap and the last passing iterate with its index (0 for none) -/
  k : Nat
  cap : Nat
  best : Nat
  keep : List Word
  first : Bool
  outcome : Nat
  /-- extrapolated positions of the fill, and the axes that a PUB has written (R161, R162) -/
  fill : List Word
  pubbed : List Nat
  /-- the dynamics pass has ended -/
  dynDone : Bool
  /-- RESTART was written while the job ran (R147) -/
  again : Bool
  /-- axes that its warm start took from their measured positions because they had left freezing (R147) -/
  used : List Nat
  deriving DecidableEq, Repr

/-- The solver array of a plane: SRAM words that are not 0, the accumulators that are not 0, and the bits T and S (R139);
the loaded Prickings, and the jobs.  None of it is replicated (R169, R179). -/
structure SlvArr where
  sram : List (Nat × Word)
  acc : List (Nat × Int)
  t : Bool
  s : Bool
  mot : Option Prick
  dyn : Option Prick
  newMot : Option Prick
  newDyn : Option Prick
  job : Option SlvJob
  /-- the estimation Pricking, and the next operation of its program -/
  est : Option Prick
  estPc : Nat
  /-- the estimation job has run no operation yet: it finds the accumulators, T and S at 0 (R154) -/
  estFresh : Bool
  /-- the motion job is due and waits for the next TILE (R140) -/
  waiting : Bool
  deriving DecidableEq, Repr

/-- The solver's replicated state, but for its registers and result buffers (R169). -/
structure SlvSt where
  /-- store addresses of the Prickings in force and of those that are being activated -/
  mot : Option Nat
  dyn : Option Nat
  newMot : Option Nat
  newDyn : Option Nat
  /-- activations that took effect -/
  genM : Nat
  genD : Nat
  /-- axes that have left freezing since the last solve (R147) -/
  left : List Nat
  /-- the words of both result buffers as the state copy carries them, none outside it (R169) -/
  res : Option (List (Nat × Word))
  deriving DecidableEq, Repr

/-- An observation record that waits for its next sample (R185): its words, its time as HTS72 and the cycle in which it came. -/
structure ObsWait where
  ws : List Word
  time : Nat
  cycle : Nat
  deriving DecidableEq, Repr

/-- A sample of the feedback history (R172, R185): the cycle, its sample time in ps, and of each axis the position and whether
it was valid and its channel not in MODEL_HOLD. -/
structure Sample where
  cycle : Nat
  time : Nat
  pos : List (Word × Bool)
  deriving DecidableEq, Repr

/-- The intake of a plane (R184, R185), which each plane runs from its own copies. -/
structure IntakeSt where
  history : List Sample
  waiting : List ObsWait
  /-- edges of probes that wait for the intake: the probe, and words W0 to W6 of its record (R184) -/
  edges : List (Nat × List Word)
  deriving DecidableEq, Repr

/-- The estimation sequencer's replicated state, but for its registers (R179). -/
structure EstSt where
  /-- the held job's descriptor, and cell time in ps of its entry to LOADING -/
  job : Option (List Word)
  began : Nat
  /-- a job that has left CHECKING with a result to be taken at the next commit (R192): its result area -/
  ready : Option Nat
  /-- F at the start values and at the accepted iterate (R187) -/
  f0 : Nat
  f : Nat
  /-- accepted parameter values and point positions, and the values of a trial -/
  theta : List Word
  points : List Word
  /-- records used and rejected, weak points -/
  used : Nat
  rejected : Nat
  weak : Nat
  /-- what remains of R189 when the job ends: its STATUS -/
  status : Nat
  /-- host commands that act at the next commit (R198) -/
  cmds : List Nat
  /-- EST_CAL_BASE in force -/
  base : Nat
  /-- the generation in force is an applied calibration and no nominal one (R194, R197) -/
  applied : Bool
  /-- parameter tables applied before, with their NCOL and BUILD_IDs, whose parameters are at their nominal values (R195) -/
  past : List (Word × Nat × List Word)
  deriving DecidableEq, Repr

/-! ### The Cell Bus (R301 to R336) -/

/-- A response that PORT expects (R319, R320): slot and station, A and the receive window in ps, the sections that the slot allows,
its place in the input image, whether it is a mailbox, and whether a response has been accepted. -/
structure SlotWait where
  slot : Nat
  station : Nat
  arr : Nat
  lo : Nat
  hi : Nat
  rx : Nat
  srx : Nat
  ofs : Nat
  mgmt : Bool
  got : Bool
  deriving DecidableEq, Repr

/-- What the echoes of a station have given (R313, R314): its number, the round trip of each probe in ps, and the words of the last
echo. -/
structure EchoRec where
  k : Nat
  rts : List Int
  w0 : Word
  w1 : Word
  w2 : Word
  deriving DecidableEq, Repr

/-- A channel of the Cell Bus, but for its registers. -/
structure BusSt where
  /-- beacons of BEACONING, or probes of PROBE, sent so far -/
  cnt : Nat
  /-- end of the listen time in ps, and the cycle in which the channel last entered BACKOFF (R332) -/
  listen : Option Nat
  backAt : Option Nat
  /-- last bit of the present probe at the MDI, in ps (R314), and the echoes -/
  probeX : Nat
  echoes : List EchoRec
  waits : List SlotWait
  /-- stations whose next poll carries MUTE_RELEASE (R323) -/
  mutes : List Nat
  /-- a bank that takes effect at the next CT0; the bank in force has failed the check of CONFIG to RUN (R316) -/
  bank : Option Nat
  bad : Bool
  /-- accepted responses in a row, by station (R333) -/
  good : List Nat
  /-- the last mailbox reply: station and words (R318) -/
  reply : Nat × List Word
  /-- bytes of the last beacon, poll and probe that PORT has sent (R305, R309) -/
  beacon : List Nat
  poll : List Nat
  probe : List Nat
  deriving DecidableEq, Repr

/-- The Cell Bus logic of PORT, but for its registers. -/
structure CbusSt where
  chs : List BusSt
  /-- CBUS_TXIMG_BASE and CBUS_IMG_BASE in force (R336) -/
  txBase : Nat
  imgBase : Nat
  /-- the transmit buffers: the cycle of the commit, and the words of the frozen window that are not 0, by offset (R315) -/
  tx : Option (Nat × List (Nat × Word))
  /-- stations, by channel and number, whose response of the present cycle failed its FCS (R221, R308) -/
  crcFails : List (Nat × Nat)
  deriving DecidableEq, Repr

/-! ### SENSE: position interfaces, compare units and triggers (R232 to R263) -/

/-- An A or B edge (`onA`) with its stamp in ps, and the count, the direction and the timing history before it (R236, R246). -/
structure EdgeUndo where
  onA : Bool
  t : Nat
  count : Int
  neg : Bool
  edges : Nat
  last : Option (Int × Nat)
  t0 : Option (Int × Nat)
  tk : Option (Int × Nat)
  tj : Option (Int × Nat)
  since : Bool
  turned : Bool
  deriving DecidableEq, Repr

/-- A position interface, but for its registers.  Times are ps of cell time. -/
structure PifSt where
  /-- PIF_CFG, PIF_INC_CFG, PIF_SC_CFG, PIF_SER_CFG and PIF_SER_CFG2 in force (R244) -/
  inForce : List Word
  /-- SET_COUNT (2) and CORRECT (3) commands that act at the next latch -/
  cmds : List Nat
  /-- the extended counter (R243) -/
  count : Int
  /-- levels of A, B and Z; in SINCOS those of the sin and cos comparators -/
  a : Bool
  b : Bool
  z : Bool
  /-- the last direction was negative -/
  neg : Bool
  /-- ERR_ILLEGAL since the previous latch (R236) -/
  illegal : Bool
  /-- REF, with no event since enabling, and an ARM_REF that waits (R248) -/
  ref : Option Int
  first : Bool
  armed : Bool
  /-- the count at the last reference event -/
  idx : Int
  /-- A and B edges since reset that PICOT_DIV decimates (R250) -/
  dec : Nat
  /-- when the interface was enabled, and the valid edges or samples since then (R247) -/
  en : Nat
  edges : Nat
  /-- the last counted edge; the first and the last timed edge of this direction, and the last one before the previous latch:
  count and stamp (R246) -/
  last : Option (Int × Nat)
  t0 : Option (Int × Nat)
  tk : Option (Int × Nat)
  tj : Option (Int × Nat)
  /-- an edge was counted since the previous latch -/
  since : Bool
  /-- the direction has changed and no edge has been counted since (R246) -/
  turned : Bool
  /-- what the last A or B edge in INC has changed, for the case that the next one makes both an illegal transition (R236) -/
  undo : Option EdgeUndo
  /-- r, LSB 2^-8 count/s, the velocity word of the last sample, and its VEL_VALID (R247) -/
  r : Int
  v : Word
  velValid : Bool
  /-- PULSE: the last edge that a period is measured from, regular periods so far, and P_r (R238) -/
  period : Option Nat
  regular : Nat
  pr : Option Nat
  /-- SINCOS: quadrant count; conversions, the newest first, as count and stamp; the last value of R239's count -/
  qc : Option Int
  conv : List (Int × Nat)
  fine : Option Int
  /-- consecutive conversions that speak against AMP_BAD as it stands (R240) -/
  amp : Nat
  /-- SYNC_ERR of the last conversion -/
  sync : Bool
  /-- SSI and BISS: the previous position, the last two valid frames as count and start, and what the count commands of this
  cycle's latch added (R243, R244) -/
  pos : Option Int
  frames : List (Int × Nat)
  setBy : Option Int
  /-- Picots that wait (R250) -/
  fifo : List (List Word)
  deriving DecidableEq, Repr

/-- A firing that is due: its time in ps, and its trigger output, action, width in ps and tag. -/
structure Fire where
  t : Nat
  late : Bool
  trg : Nat
  act : Nat
  width : Nat
  tag : Nat
  deriving DecidableEq, Repr

/-- A compare unit, but for its registers: it looks for its value (R251), the value and the repeats left (R254), the fires
committed, the time of the last fire (R253) and the predictions placed (R257). -/
structure CmpSt where
  live : Bool
  /-- when the unit was disarmed, until the next conversion of a SINCOS interface has shown what it crossed before (R253) -/
  cut : Option Nat
  c : Int
  rem : Nat
  fires : List Fire
  last : Option Nat
  preds : List Fire
  deriving DecidableEq, Repr

/-- A pending pulse end: its time in ps, and the tag, PLACED and unit of its pulse. -/
structure PulseEnd where
  t : Nat
  tag : Nat
  placed : Bool
  unit : Nat
  deriving DecidableEq, Repr

/-- A trigger output (R260). -/
structure TrgSt where
  level : Bool
  pulse : Option PulseEnd
  deriving DecidableEq, Repr

/-- What a commit sends to SENSE (R257, R259). -/
inductive SenseMsg where
  | pred (p : Pred)
  | cancel (arm : Nat)
  deriving DecidableEq, Repr

/-- SENSE. -/
structure SenseSt where
  pifs : List PifSt
  cmps : List CmpSt
  trgs : List TrgSt
  /-- trigger Picots that wait (R250) -/
  fifo : List (List Word)
  /-- predictions and cancels on their way, the oldest first -/
  flight : List SenseMsg
  /-- PIF_SMP_BASE and PIF_PICOT_BASE in force (R263) -/
  smpBase : Nat
  picBase : Nat
  deriving DecidableEq, Repr

/-! ### Speed and separation monitoring (R264 to R300) -/

/-- A channel's state for one arm: the category and cause of its standing request, with the time and the speed at which it rose, its
reaction time, the end of its monitoring and whether that has been passed; how long every check has held; a drive loss (R274 to R277,
R282). -/
structure SsmArm where
  cat : Option Nat
  cause : Nat
  t0 : Nat
  v0 : Nat
  sens : Nat
  monitored : Bool
  failed : Bool
  okSince : Option Nat
  lostAt : Option Nat
  deriving DecidableEq, Repr

/-- A connection: lost, the consecutive accepted envelopes since it was, the last accepted SEQ, the time of the last acceptance, its
data words, and the newest envelope that a federation peer or the Warden's side has delivered (R278, R280). -/
structure SsmConn where
  lost : Bool
  run : Nat
  seq : Option Nat
  at' : Nat
  data : List Word
  mail : List Word
  deriving DecidableEq, Repr

/-- Results of an evaluation, as the channels compare them (R286). -/
structure SsmRes where
  cycle : Nat
  pos : List (Option Word)
  speed : List Nat
  margin : List Int
  stop : List Bool
  zones : List Bool
  deriving DecidableEq, Repr

/-- A channel of the monitor, but for its registers. -/
structure SsmSt where
  arms : List SsmArm
  conns : List SsmConn
  /-- its last results, those of the other channel that have come, and how often they were missing in a row -/
  own : Option SsmRes
  peer : Option SsmRes
  missing : Nat
  /-- channel 2: channel 1's results for its last cycle have come -/
  got : Bool
  /-- consecutive discrepant comparisons -/
  disc : Nat
  /-- border peers whose capsules are stale (R296) -/
  stale : List Nat
  /-- a readback mismatch stands (R291) -/
  fault : Bool
  /-- the output is at PERMIT, as this channel requests it -/
  permit : Bool
  /-- scales of the last evaluation, to be published at the commit (R284) -/
  scale : List Word
  /-- stop categories that channel 1 has published and channel 2 has sent (R284, R285) -/
  sent1 : List (Option Nat)
  sent2 : List (Option Nat)
  deriving DecidableEq, Repr

/-! ### FIELD (R428 to R445) -/

/-- A digital input, but for its registers: the stamp of its last raw edge in ps, and the time from which it settles (R430, R431). -/
structure DiSt where
  edge : Nat
  settle : Nat
  deriving DecidableEq, Repr

/-- A digital output, but for its registers (R436 to R439): a failsafe that holds it off, or the level that one holds; OC_LATCHED,
DRIVE_FAIL, a retry wait, one that CUT has cancelled, EXT_DRIVEN; and a fault that has ended and lets it follow its level at the next
CT0 + APPLY_OFS. -/
structure DoSt where
  safeOff : Bool
  hold : Option Bool
  latched : Bool
  failed : Bool
  retry : Bool
  again : Bool
  ext : Bool
  waits : Bool
  /-- cell time in ps at which the driven state last changed (R436 to R439) -/
  since : Nat
  deriving DecidableEq, Repr

/-- FIELD, but for its registers. -/
structure FioSt where
  dis : List DiSt
  dos : List DoSt
  /-- DI Picots that wait (R434) -/
  fifo : List (List Word)
  /-- FIO_IMG_BASE and FIO_PICOT_BASE in force -/
  imgBase : Nat
  picBase : Nat
  /-- SAFE_STOP_A is driven to PERMIT, and is read back so -/
  ssa : Bool
  /-- a commit marker with the current epoch has come in this cycle; cycles without one; cycles without a PERMIT request -/
  marked : Bool
  unmarked : Nat
  unasked : Nat
  /-- DO levels that take effect at the next CT0 + APPLY_OFS -/
  levels : Option Nat
  /-- since when values have been below 16.0 V, at or above 18.0 V, at or above 19.2 V (R440), in ps -/
  low : Option Nat
  back : Option Nat
  good : Option Nat
  deriving DecidableEq, Repr

/-! ### Network time and the federation (R337 to R360) -/

/-- A servo (R345): ρ and ρ_i in LSB 2^-40, the last θ in ns, the stamp of the last accepted Sync (HTS72), and the Syncs in a row that
have settled. -/
structure Servo where
  rho : Int
  rhoI : Int
  theta : Option Rat
  last : Option Nat
  close : Nat
  deriving DecidableEq, Repr

/-- A foreign master (R343): the port, its last Announce, and the cell times in ps of that and of the one before. -/
structure Foreign where
  port : Nat
  ann : PtpAnn
  at' : Nat
  prev : Option Nat
  deriving DecidableEq, Repr

/-- A PTP message that PORT sends: its messageType, port and sequence number, the time it carries in ns, its correctionField, the port
identity it answers, the data set of an Announce, and the domain and the transport, UDP with its checksum 0 or Ethernet (R341, R342). -/
structure PtpOut where
  kind : Nat
  port : Nat
  seq : Nat
  ns : Nat
  corr : Int
  dest : Nat
  ann : Option PtpAnn
  domain : Nat
  udp : Bool
  deriving DecidableEq, Repr

/-- A PTP instance, but for its registers (R342 to R346). -/
structure PtpSt where
  servo : Servo
  /-- O_i in ns at a cell time in HTS72 (R344) -/
  ofs : Rat
  ofsAt : Nat
  foreign : List Foreign
  /-- the Announce of the master on the SLAVE port -/
  parent : Option PtpAnn
  /-- a two-step Sync that waits for its Follow_Up: port, stamp and message -/
  sync : Option (Nat × Nat × PtpMsg)
  /-- t2 − t1 of the last Sync in ns, less its corrections -/
  d1 : Option Rat
  /-- meanPathDelay of each port in ns -/
  mpd : List Rat
  /-- the Delay_Req or Pdelay_Req of each port that waits for its answer: sequence number and egress time -/
  req : List (Option (Nat × Rat))
  /-- a two-step Pdelay_Resp of each port: sequence number, ingress time, t2 and correction -/
  resp : List (Option (Nat × Rat × Rat))
  seq : Nat
  /-- messages sent by the last command -/
  out : List PtpOut
  deriving DecidableEq, Repr

/-- PORT's federation logic and the time keeper, but for their registers. -/
structure FedSt where
  ptp : List PtpSt
  /-- the servo of PPS_IN and its state, coded as FED_PTP_STATUS.STATE -/
  pps : Servo
  ppsState : Nat
  /-- TIM_SRC in force: KIND and INST; a new ρ of cell time for the next beacon (R345, R347) -/
  src : Nat × Nat
  rhoNext : Option Int
  /-- the last PPS_IN edge in HTS72, and the end of the PPS_OUT pulse in ps (R348) -/
  ppsIn : Nat
  ppsOut : Option Nat
  /-- the calendar in 2^-15 s as last written, and the cell time in ps of that (R349) -/
  cal : Nat
  calAt : Nat
  /-- peers that have sent a frame in this cycle; peers that stand as missed (R355) -/
  got : List Nat
  missed : List Nat
  /-- checkpoint records that wait for a frame: peer, arm and count (R353, R357) -/
  ckps : List (Nat × Nat × Nat)
  /-- observation records sent to each peer (R352) -/
  obs : List Nat
  /-- the bytes of the last frame to each peer (R351) -/
  frames : List (List Nat)
  deriving DecidableEq, Repr
/-! ### Boot, security and debug (R446 to R466) -/

/-- A section of the image (R451). -/
structure ImgSection where
  ty : Nat
  ofs : Nat
  len : Nat
  words : Nat
  load : Nat
  hash : List Byte
  deriving DecidableEq, Repr

/-- The manifest of the image being booted (R449). -/
structure Manifest where
  svn : Nat
  slot : Nat
  provisionOk : Bool
  revokeOk : Bool
  sections : List ImgSection
  deriving DecidableEq, Repr

/-- A SEC command that runs (R459, R462): ATTEST with its nonce, ROLLBACK_COMMIT with the new count, PROVISION with slot, hash and
DEBUG_OK, REVOKE with its slot. -/
inductive SecJob where
  | attest (nonce : List Byte)
  | rollback (svn : Nat)
  | provision (slot : Nat) (hash : List Byte) (dbg : Bool)
  | revoke (slot : Nat)
  deriving DecidableEq, Repr

/-- A flash command: 1 READ, 2 PROGRAM, 3 ERASE; its bank, address and page (R461). -/
structure FlashCmd where
  code : Nat
  bank : Nat
  addr : Nat
  page : List Byte
  deriving DecidableEq, Repr

/-- Boot, the OTP, the flash port and JTAG, but for their registers. -/
structure BootSt where
  /-- power good has been reached since the last device reset; the device is held in thermal reset (R509) -/
  up : Bool
  hot : Bool
  /-- what boot found at power good -/
  found : PowerOn
  /-- frequency of REFCLK in MHz, as REFCLK_SEL said at power good (R510) -/
  refclkMHz : Nat
  /-- the reference clock is in range, and so are the rails of plane A and plane B (R509) -/
  refclk : Bool
  railA : Bool
  railB : Bool
  /-- VBAT has been lost since the last power good -/
  vbatLost : Bool
  /-- cell times of power good and of READY, in ps -/
  since : Nat
  readyAt : Nat
  /-- banks tried since the device reset (R455) -/
  tried : List Nat
  man : Option Manifest
  /-- the sections placed so far, with their bytes: TYPE and content -/
  placed : List (Nat × List Byte)
  /-- start-up graph work done: lane repair and store test for each plane (A, B) -/
  lanesDone : List Plane
  storeDone : List Plane
  /-- the safety parameters have been loaded by channel 1 and by channel 2; the START_UP graph is DONE on the first Chanter (R457) -/
  loaded1 : Bool
  loaded2 : Bool
  graphDone : Bool
  /-- key slots: none is blank; else the hash burned into it, where [] stands for Cerusk's delivery key (R458) -/
  keys : List (Option (List Byte))
  job : Option SecJob
  flash : Option FlashCmd
  /-- flash commands that were sent, the newest first -/
  flashed : List FlashCmd
  /-- JTAG: the instruction in force and the data register as last captured (R463) -/
  ir : Nat
  dr : List Byte
  /-- EXTEST stands (R465) -/
  extest : Bool
  /-- the challenge that waits for its response, and the number of challenges since reset (R464) -/
  chal : Option (List Byte)
  chals : Nat
  deriving DecidableEq, Repr

/-- A word that a station delivers: its channel and station, the offset of its slot's status word in the input image, its
place among the words that follow, and its feedback group (R203, R326). -/
structure StnWord where
  bus : Nat
  station : Nat
  ofs : Nat
  word : Nat
  group : Nat
  deriving DecidableEq, Repr

/-- The station words that the device tables map to a CLE channel (R203, R204, R212, R214). -/
structure ChanTab where
  pos : Option StnWord
  vel : Option StnWord
  force : Option StnWord
  vdc : Option StnWord
  /-- the Cell Bus channel that its command goes to -/
  cmd : Option Nat
  deriving DecidableEq, Repr

/-- A capsule: its link, its end points and its radius (R269, R270). -/
structure Capsule where
  link : Nat
  a : List Word
  b : List Word
  r : Word
  deriving DecidableEq, Repr

/-- An object capsule (R271): it lies in the PART frame, and the arms that are checked against it. -/
structure ObjectTab where
  part : Bool
  cap : Capsule
  arms : Nat
  clr : Word
  deriving DecidableEq, Repr

/-- What a sensor's safety data give (R278): T_SENS, C, Z_D and V_H. -/
structure SensorTab where
  tsens : Word
  c : Word
  zd : Word
  vh : Word
  deriving DecidableEq, Repr

/-- A human zone (R272): its capsule, the dual-channel pair mapped to it, and the sensor data of that pair. -/
structure ZoneTab where
  cap : Capsule
  di : Option (Nat × Nat)
  sensor : SensorTab
  deriving DecidableEq, Repr

/-- A connection of the safety parameters (R278): channel 1 or 2; the offset of its envelope in the input image, or none for a
federation peer, with the station's channel and number or the peer. -/
structure ConnTab where
  id : Nat
  chan : Nat
  kind : Nat
  place : Option Nat
  bus : Nat
  source : Nat
  ofs : Nat
  first : Nat
  wdUs : Nat
  seqWin : Nat
  sensor : SensorTab
  cover : Capsule
  deriving DecidableEq, Repr

/-- The safety parameters of an arm (R267, R297); a stopping table holds rows of v, S_s and T_s, one table for each load class. -/
structure ArmSafety where
  caps : List Capsule
  zr : Word
  dscale : Word
  vref : Word
  pstop : Nat
  vstill : Word
  tmonMs : Nat
  releaseMs : Nat
  tolV : Word
  tolD : Word
  cls : Option Nat
  stop : List (List (Word × Word × Word))
  deriving DecidableEq, Repr

/-- A border peer (R295, R296): the arms checked against it, the CLR_PAIR of those checks, BORDER_AGE_MAX, and its fallback
capsules, V_P and S_P. -/
structure BorderTab where
  peer : Nat
  arms : Nat
  clr : Word
  ageUs : Nat
  caps : List Capsule
  vp : Word
  sp : Word
  deriving DecidableEq, Repr

/-- The safety parameters section (R297), with the CRC it carries. -/
structure SafetyTab where
  crc : Nat
  conns : List ConnTab
  arms : List ArmSafety
  objects : List ObjectTab
  zones : List ZoneTab
  pairs : List (Nat × Nat × Word)
  tolPos : List Word
  discN : Nat
  borders : List BorderTab
  /-- the DIs of the reset pair, the lower one first (R293), and those that belong to a pair -/
  reset : Nat × Nat
  /-- DEB and INV of each input of a pair, and the TYPE of each group that holds one (R432) -/
  inputs : List (Nat × Nat × Bool)
  types : List (Nat × Bool)
  deriving DecidableEq, Repr

/-- What an operation of a graph node does outside its executor, as far as a rule states it of the start-up and resynchronisation graphs
(R400, R454, R381); which operation does which is the kernel's and Glolum's matter (R398). -/
inductive NodeOp where
  /-- lane training and repair (R27); the store test (R454); the safety load of channel 1 and of channel 2 (R297) -/
  | lanes | storeTest | safety1 | safety2
  /-- the echo measurement of the beacon paths (R47) -/
  | echoes
  /-- bank 0 of the bus schedule (R316); block 0 of every CLE channel (R227); Pricking activation (R168); the program copy (R98) -/
  | busLoad | cleLoad | prickings | programCopy
  /-- the cold start of the Cell Bus channels (R332); the first grant (R362) -/
  | busStart | firstGrant
  /-- the Pricking load that ends a resynchronisation (R381) -/
  | resyncLoad
  deriving DecidableEq, Repr

/-- What the boot image's device tables give the machine, as far as a rule names it (R22, R454). -/
structure Tables where
  /-- the PERIPHERAL ports of the DMA engine (R411), each with the power domain it lies in -/
  ports : List (Nat × Nat)
  /-- the three dataflow graphs, as words (R398, R400) -/
  startUp : List Word
  bist : List Word
  resync : List Word
  arms : List ArmTab
  /-- auxiliary axes 128..159; none for an axis that the tables do not declare -/
  aux : List (Option AxisTab)
  /-- declared separation pairs (R145) -/
  pairs : List (Nat × Nat)
  chans : List ChanTab
  /-- SIGMA of each probe, and where each observation of a station lies in the input image (R184) -/
  probeSigma : List Word
  obsAt : List Nat
  safety : Option SafetyTab
  /-- the stations of each channel, by number, with their identities (R332) -/
  stations : List (Nat × Nat × Word)
  /-- what the operations of graph nodes do: executor, OP, effect (R398) -/
  nodeOps : List (Nat × Nat × NodeOp)
  /-- the registers whose value at boot comes from the device tables: FED_CFG, PLANE_REPL_BASE and PLANE_REPL_SIZE; those of bank 0 of the
  bus schedule (R316), by slot -/
  regs : List (Nat × Word)
  busRegs : List (Nat × Word)
  /-- the threads that the kernel declares, with SCH_THR_CFG (R388) -/
  threads : List (Nat × Word)
  /-- the Cell Bus channels enabled, as a mask (R454) -/
  buses : Nat
  /-- TOL_NS of each power domain (R469) -/
  tol : List Nat
  /-- the Prickings of the image, by store address (R168); the streams of the program section: arm, store address and words (R98) -/
  prickings : List Nat
  streams : List (Nat × Nat × Nat)
  /-- Subsystem Vendor ID and Subsystem ID of the endpoint (R487) -/
  subsys : Nat
  deriving DecidableEq, Repr, Inhabited
/-- The replicated state of a plane (R40): what the Chanter captures at the commit and the Drone holds. -/
structure Rep where
  regs : RegFile
  /-- active values of the fields taken at the commit (R59), by the slot of their register -/
  act : RegFile
  sch : SchedSt
  dma : DmaSt
  pln : PlnSt
  slv : SlvSt
  est : EstSt
  cle : CleSt
  ssm : SsmSt
  deriving DecidableEq, Repr

/-- A compute plane with its store. -/
structure PlaneSt where
  rep : Rep
  /-- registers that are the plane's own: PLANE, CST, XLK, RDB and the graph registers of SCH -/
  regs : RegFile
  store : StoreSt
  xlk : XlkSt
  /-- block state received and not yet loaded (R370) -/
  staged : Option Rep
  graph : Option GraphSt
  arr : SlvArr
  /-- the parameter block of each channel in CLE SRAM, with the number of its load (R227) -/
  par : List (Nat × List Word)
  intake : IntakeSt
  deriving DecidableEq, Repr

/-- Why a step can stop the machine with a fault.  No command of this block stops it: every value the spec leaves open is
a free value, so the type is empty of causes but for the one below. -/
inductive Fault where
  /-- no command raises it; it stands for a state that no rule of the spec describes (safe) -/
  | undescribed
  deriving DecidableEq, Repr

/-- Why a command has no meaning. -/
inductive Refusal where
  /-- raised by the dispatcher for a command whose meaning is not written (safe) -/
  | notModelled (mnemonic : String)
  deriving DecidableEq, Repr

/-- The state of the HL8128. -/
structure State where
  /-- cell time in ps from 1970-01-01 00:00:00 TAI (R5, R42) -/
  now : Nat
  /-- registers of the single-copy dies -/
  dev : RegFile
  cyc : CycleSt
  links : List LinkSt
  red : RedSt
  /-- items on XLK, in the order sent -/
  xlk : List (XlkItem Rep)
  evm : EvmSt
  hif : HifSt
  bel : BelSt
  pa : PlaneSt
  pb : PlaneSt
  cbus : CbusSt
  fed : FedSt
  sense : SenseSt
  ssm2 : SsmSt
  fio : FioSt
  tab : Tables
  boot : BootSt
  /-- reads of the free values so far (the model's own, not the spec's) -/
  free : Nat
  /-- commands that wait, first in first out -/
  pending : List Instr
  deriving DecidableEq, Repr


/-! ## Reset -/

/-- A DMA channel without a Bobbin. -/
def DmaCh.initial : DmaCh := ⟨none, 0, 0, false, none, false, false, 0, 0⟩

/-- The DMA engine at reset. -/
def DmaSt.initial : DmaSt :=
  ⟨List.replicate 64 DmaCh.initial, [], List.replicate 64 0, List.replicate 8 63, false, none, none⟩

/-- The scheduler at reset: every list empty, every core idle. -/
def SchedSt.initial : SchedSt :=
  ⟨List.replicate 64 [], [], [], [], List.replicate 8 0, List.replicate 8 0, 0, []⟩

/-- The pose of no translation and no rotation. -/
def poseId : List Word := [0, 0, 0, 0x400000000, 0, 0, 0]

/-- The modal state before any Stitch. -/
def Modal.initial : Modal := ⟨0, List.replicate 8 none, poseId, 0, List.replicate 6 0, 0, 0⟩

/-- An arm's planner at reset: IDLE, at rest, with nothing fetched; its time scaling is 1 (R125). -/
def Arm.initial : Arm :=
  { base := 0, size := 12, src := 0, copied := false, modal := Modal.initial, ahead := [], aheadFault := false
    endFetched := false, endPose := poseId, endTool := poseId, endJoints := List.replicate 16 0, lastGeo := none, sects := [], phases := []
    tau := 0, x := 0, v := 0, acc := 0, sigma := 1, sigmaPrev := 1, cur := none, kind := 0, limited := false
    dirty := false, stopping := false, loopStop := false, ckpStop := false, wait := none, cmds := [], held := none, redo := none, cleared := false
    trigs := [], resume := none, resumeBy := none, group := 0, records := [], joints := List.replicate 16 0
    pose := poseId, tool := poseId, part := poseId, coupled := 0, moved := 0, last := none, restN := 0, restPos := none
    layer := none }

/-- A process loop at reset: off. -/
def Loop.initial : Loop := ⟨0, none, none, none, 0⟩

/-- The planner at reset. -/
def PlnSt.initial : PlnSt :=
  { arms := List.replicate 16 Arm.initial, loops := List.replicate 32 Loop.initial, reqs := [], inbox := []
    bzBad := [], bzLost := [], bzMiss := List.replicate 16 0, douts := 0, calib := false, cancels := [], preds := [], excess := [], outbox := [], zoneWas := [], fbLost := [] }

/-- A CLE channel at reset: OFF, with cleared filters; every stored exponent is -128 (R231). -/
def Chan.initial : Chan :=
  { req := none, due := [], ran := 0, count := 0, word := none, meas := none, prev := (0, 0), ampBad := false, invBad := false, parsel := 0
    cfgRefused := none, qf := 0, vf := 0, stale := 0, still := 0
    crc := [], e1 := -128, e2 := -128, e3 := -128, ip := (0, 0), iF := (0, 0), iv := (0, 0), bq := [], y3 := 0, vcmd := 0
    torq := 0, qsp := 0, vff := 0, dir3 := 0, dir4 := 0, ssDue := false, ss := none, hand := none, slot := [0, 0, 0, 0]
    brake := none, sto := false, stopReq := false, stopCat := 0, vdc := 0, vdcAge := 0, loads := 0 }

/-- The engines at reset. -/
def CleSt.initial : CleSt :=
  ⟨List.replicate 192 Chan.initial, List.replicate 208 ⟨0, 0, [], 0⟩, [], List.replicate 32 0⟩

/-- The solver array at reset. -/
def SlvArr.initial : SlvArr := ⟨[], [], false, false, none, none, none, none, none, none, 0, false, false⟩

/-- The solver's replicated state at reset. -/
def SlvSt.initial : SlvSt := ⟨none, none, none, none, 0, 0, [], none⟩

/-- The estimation sequencer at reset. -/
def EstSt.initial : EstSt := ⟨none, 0, none, 0, 0, [], [], 0, 0, 0, 0, [], 0, false, []⟩

/-- A channel of the separation monitor at reset: every connection lost, the output dropped (R294). -/
def SsmSt.initial : SsmSt :=
  { arms := List.replicate 16 ⟨none, 0, 0, 0, 0, false, false, none, none⟩
    conns := List.replicate 128 ⟨true, 0, none, 0, [], []⟩, own := none, peer := none, missing := 0, got := false, disc := 0, stale := []
    fault := false, permit := false, scale := List.replicate 16 0, sent1 := List.replicate 16 none
    sent2 := List.replicate 16 none }

/-- FIELD at reset: every output off, SAFE_STOP_A dropped. -/
def FioSt.initial : FioSt :=
  { dis := List.replicate 32 ⟨0, 0⟩, dos := List.replicate 16 ⟨false, none, false, false, false, false, false, false, 0⟩, fifo := []
    imgBase := 0, picBase := 0, ssa := false, marked := false, unmarked := 0, unasked := 0, levels := none, low := none
    back := none, good := none }

/-- The replicated state of a plane at reset. -/
def Rep.initial : Rep :=
  { regs := [], act := [], sch := SchedSt.initial, dma := DmaSt.initial, pln := PlnSt.initial, slv := SlvSt.initial
    est := EstSt.initial, cle := CleSt.initial, ssm := SsmSt.initial }

/-- The central store at reset: every word reads 0 (see notes/assumptions), no error, no spare in use. -/
def StoreSt.initial : StoreSt := ⟨[], [], [], [], 0⟩

/-- The state-copy engine at reset. -/
def XlkSt.initial : XlkSt := ⟨[], 0, 0, false, 0, false, [], false, false⟩

/-- A plane at reset; PLANE_ID names its die. -/
def PlaneSt.initial (q : Plane) : PlaneSt :=
  { rep := Rep.initial
    regs := if q = .b then [(R.PLANE_ID, F.PLANE_ID_PLANE.set 0 1)] else []
    store := StoreSt.initial
    xlk := XlkSt.initial
    staged := none
    graph := none
    arr := SlvArr.initial
    par := List.replicate 192 (0, [])
    intake := ⟨[], [], []⟩ }

/-- A position interface at reset: OFF, its count 0 (R243). -/
def PifSt.initial : PifSt :=
  { inForce := [regReset (R.PIF_CFG 0), regReset (R.PIF_INC_CFG 0), regReset (R.PIF_SC_CFG 0), regReset (R.PIF_SER_CFG 0),
      regReset (R.PIF_SER_CFG2 0)]
    cmds := [], count := 0, a := false, b := false, z := false, neg := false, illegal := false, ref := none, first := false
    armed := false, idx := 0, dec := 0, en := 0, edges := 0, last := none, t0 := none, tk := none, tj := none, since := false, turned := false, undo := none
    r := 0, v := 0, velValid := false, period := none, regular := 0, pr := none, qc := none, conv := [], fine := none
    amp := 0, sync := false, pos := none, frames := [], setBy := none, fifo := [] }

/-- A channel of the Cell Bus at reset: OFF. -/
def BusSt.initial : BusSt :=
  { cnt := 0, listen := none, backAt := none, probeX := 0, echoes := [], waits := [], mutes := [], bank := none, bad := false
    good := List.replicate 64 0, reply := (0, []), beacon := [], poll := [], probe := [] }

/-- A servo at reset. -/
def Servo.initial : Servo := ⟨0, 0, none, none, 0⟩

/-- A PTP instance at reset. -/
def PtpSt.initial : PtpSt :=
  { servo := Servo.initial, ofs := 0, ofsAt := 0, foreign := [], parent := none, sync := none, d1 := none
    mpd := List.replicate 4 0, req := List.replicate 4 none, resp := List.replicate 4 none, seq := 0, out := [] }

/-- The federation logic and the time keeper at reset: PTP instance 0 steers cell time (TIM_SRC). -/
def FedSt.initial : FedSt :=
  { ptp := List.replicate 8 PtpSt.initial, pps := Servo.initial, ppsState := 0, src := (1, 0), rhoNext := none, ppsIn := 0
    ppsOut := none, cal := 0, calAt := 0, got := [], missed := [], ckps := [], obs := List.replicate 16 0
    frames := List.replicate 16 [] }

/-- SENSE at reset. -/
def SenseSt.initial : SenseSt :=
  { pifs := List.replicate 24 PifSt.initial, cmps := List.replicate 16 ⟨false, none, 0, 0, [], none, []⟩
    trgs := List.replicate 8 ⟨false, none⟩, fifo := [], flight := [], smpBase := 0, picBase := 0 }

/-- Before an image is loaded there are no tables. -/
def Tables.initial : Tables :=
  { ports := [], startUp := [], bist := [], resync := [], arms := [], aux := [], pairs := [], chans := [], probeSigma := [], obsAt := []
    safety := none, stations := [], nodeOps := [], regs := [], busRegs := [], threads := [], buses := 0, tol := [], prickings := []
    streams := [], subsys := 0 }

/-- The device as it waits for power good for the first time: slot 0 of the OTP holds the delivery key (R458). -/
def BootSt.initial : BootSt :=
  { up := false, hot := false, found := ⟨.none, .none, true, true, [], 0, false, []⟩, refclkMHz := 25, refclk := true, railA := true, railB := true
    vbatLost := false, since := 0, readyAt := 0, tried := [], man := none, placed := [], lanesDone := [], storeDone := [], loaded1 := false
    loaded2 := false, graphDone := false, keys := [some [], none, none, none], job := none, flash := none, flashed := []
    ir := 0x01, dr := [], extest := false, chal := none, chals := 0 }

/-- The machine right after power-on: every register at its reset value, cell time not set, every queue empty. -/
def State.reset : State :=
  { now := 0
    dev := []
    cyc := ⟨0, 0, 0, false, none, 0, none, false, List.replicate 16 0, [], List.replicate 40 0, List.replicate 40 0,
      List.replicate 40 0, List.replicate 40 0, 0, none⟩
    links := List.replicate 15 ⟨0, false⟩
    red := 
      { wa := ⟨false, false, false, 0, [], false, false, true, 0, 0⟩
        wb := ⟨false, false, false, 0, [], false, false, true, 0, 0⟩
        pathP := false, applied := none, pRun := 0, wRun := 0, due := none, hostSwap := false, period := 0
        swapSent := false, announced := false, readyAt := none, lastCommit := 0, content := none, firstCycle := 0
        reversion := false, linkFault := false }
    xlk := []
    evm := ⟨List.replicate 64 [0, 0, 0, 0], [], [], [], [], List.replicate 64 0⟩
    hif := ⟨none, [], false, none, [], [], []⟩
    bel := ⟨List.replicate 12 none, List.replicate 12 none, List.replicate 12 none, []⟩
    pa := PlaneSt.initial .a
    pb := PlaneSt.initial .b
    cbus := ⟨List.replicate 2 BusSt.initial, 0, 0, none, []⟩
    fed := FedSt.initial
    sense := SenseSt.initial
    ssm2 := SsmSt.initial
    fio := FioSt.initial
    tab := Tables.initial
    boot := BootSt.initial
    free := 0
    pending := [] }

end Sys2Proof.Machine
end

