-- ==== Sys2Proof/Machine/Ops.lean ====
section
/-! DEFINITION. The named operations on the state: sparse maps, registers and their fields, the flag rule of R16 and R475,
the central store, and the machine check of a plane. -/

namespace Sys2Proof.Machine

/-! ## Sparse maps in canonical form -/

/-- The value at key `k`: the listed one, or the default. -/
def sGet {α : Type} (d : Nat → α) : List (Nat × α) → Nat → α
  | [], k => d k
  | e :: t, k => if e.1 = k then e.2 else sGet d t k

/-- The map without key `k`. -/
def sDel {α : Type} (m : List (Nat × α)) (k : Nat) : List (Nat × α) := m.filter (fun e => e.1 != k)

/-- The map with an entry added before the first larger key. -/
def sIns {α : Type} : List (Nat × α) → Nat → α → List (Nat × α)
  | [], k, v => [(k, v)]
  | e :: t, k, v => if k < e.1 then (k, v) :: e :: t else e :: sIns t k v

/-- The map with value `v` at key `k`; a default value is not listed. -/
def sPut {α : Type} [DecidableEq α] (d : Nat → α) (m : List (Nat × α)) (k : Nat) (v : α) : List (Nat × α) :=
  if v = d k then sDel m k else sIns (sDel m k) k v

/-- Strictly rising keys, none listed with its default value. -/
def sWf {α : Type} [DecidableEq α] (d : Nat → α) (m : List (Nat × α)) : Bool :=
  decide (m.Pairwise (fun a b => a.1 < b.1)) && m.all (fun e => decide (e.2 ≠ d e.1))

/-! ## Planes and registers -/

/-- The plane `q`. -/
def State.plane (s : State) : Plane → PlaneSt
  | .a => s.pa
  | .b => s.pb

/-- The state with plane `q` replaced. -/
def State.setPlane (s : State) (q : Plane) (p : PlaneSt) : State :=
  match q with
  | .a => { s with pa := p }
  | .b => { s with pb := p }

/-- The registers of a plane that are its own and not replicated: PLANE but for the segment registers (R386), the graph
registers of SCH (R401), CST (R426), XLK (R386) and RDB (R485). -/
def isLocal (k : Nat) : Bool :=
  (decide (0x600000 ≤ k) && decide (k < 0x600020)) || (k == R.SCH_STATUS) || (k == R.SCH_GRAPH_STATUS)
    || (k == R.SCH_GRAPH_TIME) || (decide (0x660000 ≤ k) && decide (k < 0x680000)) || decide (0x720000 ≤ k)

/-- A slot below the plane windows holds a register of a single-copy die. -/
def isDev (k : Nat) : Bool := decide (k < 0x600000)

/-- The word of the register at slot `k`; of plane `q` where `k` lies in the plane window. -/
def State.rd (s : State) (q : Plane) (k : Nat) : Word :=
  if isDev k then sGet regReset s.dev k
  else if isLocal k then sGet regReset (s.plane q).regs k
  else sGet regReset (s.plane q).rep.regs k

/-- The state with the register at slot `k` holding `v`. -/
def State.wr (s : State) (q : Plane) (k : Nat) (v : Word) : State :=
  if isDev k then { s with dev := sPut regReset s.dev k v }
  else
    let p := s.plane q
    if isLocal k then s.setPlane q { p with regs := sPut regReset p.regs k v }
    else s.setPlane q { p with rep := { p.rep with regs := sPut regReset p.rep.regs k v } }

/-- A field of a register. -/
def State.get (s : State) (q : Plane) (k : Nat) (f : Fld) : Nat := f.get (s.rd q k)

/-- The state with a field of a register replaced. -/
def State.put (s : State) (q : Plane) (k : Nat) (f : Fld) (n : Nat) : State := s.wr q k (f.set (s.rd q k) n)

/-- A field of a register of a single-copy die. -/
def State.dg (s : State) (k : Nat) (f : Fld) : Nat := s.get .a k f

/-- The state with a field of a register of a single-copy die replaced. -/
def State.dp (s : State) (k : Nat) (f : Fld) (n : Nat) : State := s.put .a k f n

/-- A one-bit field, as a truth value. -/
def State.is (s : State) (q : Plane) (k : Nat) (f : Fld) : Bool := s.get q k f == 1

/-- A word with the RW fields of a written one; RO and reserved bits stay (R14). -/
def rwMerge (k : Nat) (old v : Word) : Word :=
  (regFields k).foldl (fun w f => if f.acc = .rw then f.fld.set w (f.fld.get v) else w) old

/-- A write of a register's RW fields (R14). -/
def State.writeRw (s : State) (q : Plane) (k : Nat) (v : Word) : State := s.wr q k (rwMerge k (s.rd q k) v)

/-- The active value of an at-commit register of a plane (R59). -/
def State.act (s : State) (q : Plane) (k : Nat) : Word := sGet regReset (s.plane q).rep.act k

/-- A field of the active value of an at-commit register (R59). -/
def State.ag (s : State) (q : Plane) (k : Nat) (f : Fld) : Nat := f.get (s.act q k)

/-- The state with a saturating counter of a field increased. -/
def State.count (s : State) (q : Plane) (k : Nat) (f : Fld) (n : Nat) : State :=
  s.put q k f (satAdd f.width (s.get q k f) n)

/-- The state with the replicated state of a plane replaced. -/
def State.setRep (s : State) (q : Plane) (r : Rep) : State := s.setPlane q { s.plane q with rep := r }

/-- The replicated state of a plane. -/
def State.rep (s : State) (q : Plane) : Rep := (s.plane q).rep

/-- The Chanter: the plane that holds the grant (R362, R364). -/
def State.chanter (s : State) : Option Plane :=
  if s.dg R.RED_STATUS F.RED_STATUS_GRANTED = 1 then some (Plane.ofCode (s.dg R.RED_STATUS F.RED_STATUS_CHANTER)) else none

/-- `f` on the Chanter; nothing where no plane holds the grant (R491). -/
def State.onChanter (s : State) (f : Plane → State → State) : State :=
  match s.chanter with
  | some q => f q s
  | none => s

/-- The present cycle number (R52). -/
def State.n (s : State) : Nat := s.cyc.starts - 1

/-- CT0 of the present cycle, in ps (R50). -/
def State.ct0 (s : State) : Nat := s.cyc.tick * 250000

/-- T_cyc in force, in ps (R50). -/
def State.tcyc (s : State) : Nat := s.dg R.TIM_CYC_ACT_PERIOD F.TIM_CYC_ACT_PERIOD_VALUE * 250000

/-- CT0 of the present cycle as the islands schedule by it: the HTS72 value of its tick, in ps (R51). DEDUCED, log 124. -/
def State.ct0Hts (s : State) : Nat := psOfHts (htsOfPs s.ct0)

/-- The cell time, in ps, of an offset in force, counted from CT0 of the present cycle as the islands schedule by it (R51, R53). -/
def State.atOfs (s : State) (k : Nat) : Nat := s.ct0Hts + s.dg k F.TIM_CYC_ACT_PERIOD_VALUE * 1000

/-- The cell time, in ps, of APPLY_OFS of the next cycle, as the islands schedule by it (R51, R53). -/
def State.nextApply (s : State) : Nat :=
  psOfHts (htsOfPs (s.ct0 + s.tcyc)) + s.dg R.TIM_CYC_ACT_APPLY_OFS F.TIM_CYC_ACT_PERIOD_VALUE * 1000

/-- The state at cell time `t`, or later if it is later already. DESIGN CHOICE, log 2. -/
def State.toTime (s : State) (t : Nat) : State := { s with now := max s.now t }

/-! ## Flags and events -/

/-- A flag register with its counters and its event mask (R16, R475). -/
structure Bank where
  flags : Nat
  /-- slot of the first counter register -/
  cnt : Nat
  /-- slot of the event mask, or none where the flags raise no event through a mask -/
  mask : Option Nat
  /-- bit of the mask that enables flag 0 -/
  shift : Nat
  deriving DecidableEq, Repr

/-- Set flag `j` and count the occurrence (R16). -/
def State.flag (s : State) (q : Plane) (b : Bank) (j : Nat) : State :=
  let s1 := s.put q b.flags ⟨j, j⟩ 1
  s1.count q (b.cnt + j / 4) ⟨8 * (j % 4) + 7, 8 * (j % 4)⟩ 1

/-- The events of the event matrix itself (R484). -/
def bEVM : Bank := ⟨R.EVM_FLAGS, R.EVM_FLAG_CNT, some R.EVM_EVMASK, 0⟩

/-- An event leaves for the matrix (R475). DEDUCED, log 14. -/
def State.toMatrix (s : State) (ev : Nat) : State := { s with evm := { s.evm with raised := s.evm.raised ++ [ev] } }

/-! ### Links (R26, R30) -/

/-- The die-to-die link `l` has not failed (R30). -/
def State.linkUp (s : State) (l : Link) : Bool := !(nth s.links l.num ⟨0, false⟩).failed

/-- The links of a plane to its store and to the dies that serve both planes (R26). -/
def storeLink : Plane → Link
  | .a => .storeA
  | .b => .storeB
def portLink : Plane → Link
  | .a => .portA
  | .b => .portB
def senseLink : Plane → Link
  | .a => .senseA
  | .b => .senseB
def fieldLink : Plane → Link
  | .a => .fieldA
  | .b => .fieldB

/-- Whether an event of the block at a slot reaches the event matrix on PORT: from the Warden over warden–port, from FIELD over
warden–field and warden–port, from SENSE over port–sense (R33, R490). -/
def State.eventPath (s : State) (slot : Nat) : Bool :=
  if slot < 0x40000 then true
  else if slot < 0x100000 then s.linkUp .wardenPort
  else if slot < 0x140000 then true
  else if slot < 0x160000 then s.linkUp .wardenField && s.linkUp .wardenPort
  else s.linkUp .portSense

/-- Set a flag of EVM and raise E191 for it (R484). -/
def State.raiseEVM (s : State) (j : Nat) : State :=
  let s1 := s.flag .a bEVM j
  if bitN (s1.rd .a R.EVM_EVMASK).toNat j then s1.toMatrix 191 else s1

/-- Raise an event: a plane's only while it holds the grant, and NOT_GRANTED otherwise; nothing reaches PORT over a failed
plane–port link (R30, R33, R475). DEDUCED, log 14. -/
def State.event (s : State) (src : Option Plane) (ev : Nat) : State :=
  match src with
  | none => s.toMatrix ev
  | some q =>
    if !s.linkUp (portLink q) then s
    else if s.chanter = some q then s.toMatrix ev else s.raiseEVM 1

/-- The event of a flag at a slot sets out: a plane's under its grant, a single die's over its links (R33). -/
def State.notify (s : State) (q : Plane) (slot ev : Nat) : State :=
  if isDev slot then (if s.eventPath slot then s.event none ev else s) else s.event (some q) ev

/-- Whether flag `j` of a bank is enabled to raise its event. -/
def State.enabled (s : State) (q : Plane) (b : Bank) (j : Nat) : Bool :=
  match b.mask with
  | some m => bitN (s.rd q m).toNat (j + b.shift)
  | none => false

/-- Hardware sets flag `j`: the flag, its counter, and its event if enabled (R16, R475). -/
def State.raise (s : State) (q : Plane) (b : Bank) (ev j : Nat) : State :=
  let s1 := s.flag q b j
  if s1.enabled q b j then s1.notify q b.flags ev else s1

/-- Refuse a command: the reason in its REFUSE field and CMD_REFUSED raised. -/
def State.refuse (s : State) (q : Plane) (k : Nat) (f : Fld) (code : Nat) (b : Bank) (ev j : Nat) : State :=
  (s.put q k f code).raise q b ev j

/-! ## Machine checks, snapshots and wakes -/

/-- The flags of RDB (R485). -/
def bRDB : Bank := ⟨R.RDB_FLAGS, R.RDB_FLAG_CNT, some R.RDB_EVMASK, 0⟩

/-- A grant, a plane reset or a machine check discards a snapshot in progress (R480). -/
def State.snapLost (s : State) (q : Plane) : State :=
  if s.get q R.RDB_STATUS F.RDB_STATUS_STATE = 0 then s
  else (s.put q R.RDB_STATUS F.RDB_STATUS_STATE 0).raise q bRDB 190 1

/-- What the Warden keeps of plane `q`. -/
def State.ward (s : State) : Plane → WardPlane
  | .a => s.red.wa
  | .b => s.red.wb

/-- The state with what the Warden keeps of plane `q` replaced. -/
def State.setWard (s : State) (q : Plane) (w : WardPlane) : State :=
  match q with
  | .a => { s with red := { s.red with wa := w } }
  | .b => { s with red := { s.red with wb := w } }

/-- The flags of PLANE, which raise no event (R386). -/
def bPLANE : Bank := ⟨R.PLANE_FLAGS, R.PLANE_FLAG_CNT, none, 0⟩

/-- Plane `q` declares a machine check with a cause of PLANE_MCHK: it records the cause, raises MCHK, sets its line, and a
snapshot in progress is lost (R373, R480). -/
def State.mcheck (s : State) (q : Plane) (cause : Nat) : State :=
  let s1 := (s.put q R.PLANE_MCHK F.PLANE_MCHK_CAUSE cause).put q R.PLANE_MCHK F.PLANE_MCHK_CYCLE s.n
  let s2 := (s1.raise q bPLANE 0 0).dp (R.RED_PLANE q.code) F.RED_PLANE_MCHK cause
  (s2.setWard q { s2.ward q with mchk := true }).snapLost q

/-- The state of power domain `d`: 0 is RUN (R468). -/
def State.dom (s : State) (d : Nat) : Nat := s.dg (R.BEL_DOM_STATUS d) F.BEL_DOM_STATUS_STATE

/-- A wake request for domain `d`: one below RUN begins its exit; one that has not yet left RUN stays there, since the request
wins over the power-down, a deferred one too (R471). A domain that Bellows does not control is not woken (R468). DEDUCED, log
88. -/
def State.wake (s : State) (d : Nat) : State :=
  let s1 := { s with bel := { s.bel with entering := s.bel.entering.set d none, deferred := s.bel.deferred.set d none } }
  if s.dom d = 0 || s.dom d = 5 || (nth s.bel.wake d none).isSome then s1
  else { s1 with bel := { s1.bel with wake := s1.bel.wake.set d (some s.now) } }

/-- READY has been raised: BOOT_STATUS.STAGE is READY (R457). -/
def State.isReady (s : State) : Bool := s.dg R.BOOT_STATUS F.BOOT_STATUS_STAGE == 8

/-- Take the next free value. DESIGN CHOICE, log 5. -/
def State.draw (s : State) : Word × State := (Config.freeWord s.free, { s with free := s.free + 1 })

/-! ## The central store -/

/-- The flags of CST (R426). -/
def bCST : Bank := ⟨R.CST_FLAGS, R.CST_FLAG_CNT0, some R.CST_EVMASK, 0⟩

/-- The word at a store address of plane `q`. DESIGN CHOICE, log 7. -/
def State.sw (s : State) (q : Plane) (a : Nat) : Word := sGet (fun _ => (0 : Word)) (s.plane q).store.words a

/-- `n` words from address `a`. -/
def State.swords (s : State) (q : Plane) (a n : Nat) : List Word := (List.range n).map (fun i => s.sw q (a + i))

/-- The number of words of a store (R402). -/
def storeWords : Nat := 2 ^ 29

/-- Whether a pair of plane `q` is uncorrectable (R403). -/
def State.isBad (s : State) (q : Plane) (pair : Nat) : Bool := (s.plane q).store.bad.any (fun e => e.1 == pair)

/-- Whether one of `n` words from `a` would be read poisoned (R404). -/
def State.poisoned (s : State) (q : Plane) (a n : Nat) : Bool :=
  (s.plane q).store.bad.any (fun p => decide (a ≤ 2 * p.1 + 1) && decide (2 * p.1 < a + n))

/-- The state with the store of plane `q` replaced. -/
def State.setStore (s : State) (q : Plane) (st : StoreSt) : State := s.setPlane q { s.plane q with store := st }

/-- The replicated segments in force: base and size in words (R367). -/
def State.segments (s : State) (q : Plane) : List (Nat × Nat) :=
  (List.range 16).map (fun g => (s.ag q (R.PLANE_REPL_BASE g) F.PLANE_REPL_BASE_ADDR * 4096,
    s.ag q (R.PLANE_REPL_SIZE g) F.PLANE_REPL_SIZE_WORDS))

/-- Whether a store address lies in a replicated segment (R367). -/
def State.inRepl (s : State) (q : Plane) (a : Nat) : Bool :=
  (s.segments q).any (fun g => decide (g.1 ≤ a) && decide (a < g.1 + g.2))

/-- Mark the copy line of a written address dirty, in the Chanter (R368). -/
def State.markDirty (s : State) (q : Plane) (a : Nat) : State :=
  if s.chanter = some q && s.inRepl q a then
    let p := s.plane q
    if p.xlk.dirty.contains (a / 8) then s
    else s.setPlane q { p with xlk := { p.xlk with dirty := p.xlk.dirty ++ [a / 8] } }
  else s

/-- Rows under copy and spares still free (R406). -/
def State.spareFree (s : State) (q : Plane) : Nat :=
  s.get q R.CST_STATUS F.CST_STATUS_SPARES_FREE - (s.plane q).store.sparing.length

/-- A row that must be spared is queued for its copy, if sparing is enabled and a spare is free (R406). DEDUCED, log 87. -/
def State.spareStart (s : State) (q : Plane) (row : Nat) : State :=
  let st := (s.plane q).store
  if s.is q R.CST_CFG F.CST_CFG_SPARE_EN && decide (0 < s.spareFree q) && !st.sparing.contains row then
    (s.setStore q { st with sparing := st.sparing ++ [row] }).put q R.CST_STATUS F.CST_STATUS_SPARING 1
  else s

/-- The row of a store address (R402). -/
def rowOf (a : Nat) : Nat := a / 4096

/-- A corrected error: CE, its count, its address and the row's count, which can start a sparing copy (R403, R406). -/
def State.eccSingle (s : State) (q : Plane) (a : Nat) : State :=
  let s1 := (s.count q R.CST_CE_CNT F.CST_CE_CNT_COUNT 1).wr q R.CST_ERR_ADDR
    (F.CST_ERR_ADDR_ADDR.set (F.CST_ERR_ADDR_KIND.set 0 1) (a / 2 * 2))
  let st := (s1.plane q).store
  let c := sGet (fun _ => 0) st.rows (rowOf a) + 1
  let s2 := (s1.setStore q { st with rows := sPut (fun _ => 0) st.rows (rowOf a) c }).raise q bCST 184 0
  if max 1 (s2.get q R.CST_CFG F.CST_CFG_SPARE_THR) ≤ c then s2.spareStart q (rowOf a) else s2

/-- An uncorrectable error: UE, its count, its address, and the row's sparing (R403, R406). -/
def State.eccDouble (s : State) (q : Plane) (a : Nat) : State :=
  let s1 := (s.count q R.CST_UE_CNT F.CST_UE_CNT_COUNT 1).wr q R.CST_ERR_ADDR
    (F.CST_ERR_ADDR_ADDR.set (F.CST_ERR_ADDR_KIND.set 0 2) (a / 2 * 2))
  (s1.raise q bCST 184 1).spareStart q (rowOf a)

/-- Word `a` of an uncorrectable pair is written: the pair stays poisoned until both words are (R403). -/
def badWrite (bad : List (Nat × Nat)) (a : Nat) : List (Nat × Nat) :=
  (bad.map (fun e => if e.1 = a / 2 then (e.1, setBitN e.2 (a % 2)) else e)).filter (fun e => e.2 != 3)

/-- Store a word: a read-modify-write of its pair, whose read reports an uncorrectable pair (R403).  Addresses beyond the
store have no word (R402). -/
def State.sput (s : State) (q : Plane) (a : Nat) (v : Word) : State :=
  if a < storeWords then
    let s0 := if s.isBad q (a / 2) then s.eccDouble q a else s
    let st := (s0.plane q).store
    (s0.setStore q { st with words := sPut (fun _ => (0 : Word)) st.words a v, bad := badWrite st.bad a }).markDirty q a
  else s

/-- Store a whole pair: new check bits, and any error of the pair is gone (R403). -/
def State.sputPair (s : State) (q : Plane) (a : Nat) (v0 v1 : Word) : State :=
  if a < storeWords then
    let st := (s.plane q).store
    let w := sPut (fun _ => (0 : Word)) (sPut (fun _ => (0 : Word)) st.words a v0) (a + 1) v1
    (s.setStore q { st with words := w, bad := st.bad.filter (fun e => e.1 != a / 2) }).markDirty q a
  else s

/-- Store words from address `a` upward, whole pairs as such. -/
def State.sputs (s : State) (q : Plane) (a : Nat) : List Word → State
  | [] => s
  | [v] => s.sput q a v
  | v :: w :: t => if a % 2 = 0 then (s.sputPair q a v w).sputs q (a + 2) t
      else ((s.sput q a v).sput q (a + 1) w).sputs q (a + 2) t

/-- Write words that a single die delivers to both planes to each store that is in service and whose links carry them: the plane's link
to that die, and its plane–store link (R30, R36, R374). -/
def State.sputVia (s : State) (l : Plane → Link) (a : Nat) (ws : List Word) : State :=
  let go := fun (q : Plane) (s : State) =>
    if s.linkUp (l q) && s.linkUp (storeLink q) && !(s.ward q).inReset then s.sputs q a ws else s
  go .b (go .a s)

/-- The uncorrectable pairs among `n` words from `a`. -/
def State.badPairs (s : State) (q : Plane) (a n : Nat) : List Nat :=
  ((s.plane q).store.bad.map (·.1)).filter (fun p => decide (a ≤ 2 * p + 1) && decide (2 * p < a + n))

/-- A read of `n` words from `a` reports each uncorrectable pair that it meets (R403). -/
def State.reportBad (s : State) (q : Plane) (a n : Nat) : State := (s.badPairs q a n).foldl (fun s p => s.eccDouble q (2 * p)) s

/-- A block of plane `q` reads `n` words from `a`: a poisoned one is reported, and makes it declare STORE_UE (R403, R404). -/
def State.blockRead (s : State) (q : Plane) (a n : Nat) : State :=
  if s.poisoned q a n then (s.reportBad q a n).mcheck q 4 else s

/-! ## Registers that show what lies elsewhere -/

/-- Spare lanes of XLK in use in direction `d`, as the repair map shows them (R27). DEDUCED, log 11. -/
def xlkSpares (d : Nat) (s : State) : Nat :=
  let w := s.dg (R.BOOT_LANE Link.xlk.num d) F.BOOT_LANE_GROUPS
  ((List.range 2).filter (fun g => decide (16 ≤ w / 32 ^ g % 32))).length

/-- XLK_STATUS of plane `q`: the link is FAILED (R30), DOWN while a plane is held in reset, and UP otherwise; the Chanter sends
to a Drone that is up, and the Drone receives (R368, R386). DESIGN CHOICE, log 10. DEDUCED, log 11. -/
def xlkStatus (q : Plane) (s : State) : Word :=
  let st := fun p : Plane => s.dg (R.RED_PLANE p.code) F.RED_PLANE_STATE
  let link := if !s.linkUp .xlk then 2
    else if (s.ward .a).inReset || (s.ward .b).inReset then 0 else 1
  let up := fun p : Plane => link == 1 && (st p == 2 || st p == 3)
  let dir := if s.chanter = some q ∧ up q.other = true then 1 else if s.chanter = some q.other ∧ up q = true then 2 else 0
  F.XLK_STATUS_LINK.set (F.XLK_STATUS_DIR.set (F.XLK_STATUS_REPAIRED.set (s.rd q R.XLK_STATUS)
    (max (xlkSpares 0 s) (xlkSpares 1 s))) dir) link

/-- What a register of plane `q` shows: the stored word, but for the replicated words in force (R367) and the state of XLK
(R386). DESIGN CHOICE, log 10. DEDUCED, log 139. -/
def State.view (s : State) (q : Plane) (k : Nat) : Word :=
  if k = R.PLANE_REPL_TOTAL then wordN ((s.segments q).map (·.2)).sum
  else if k = R.XLK_STATUS then xlkStatus q s
  else s.rd q k

/-! ## Closed channels -/

/-- Whether CLE channel `c` of plane `q` is closed (R217). -/
def State.closedCh (s : State) (q : Plane) (c : Nat) : Bool :=
  let m := s.get q (R.CLE_CH_STATUS c) F.CLE_CH_STATUS_MODE
  decide (2 ≤ m) && decide (m ≤ 5)

/-- Whether any of the 192 CLE channels is closed, in the Chanter (R217). -/
def State.anyClosed (s : State) : Bool :=
  match s.chanter with
  | some q => (List.range 192).any (s.closedCh q)
  | none => false

/-! ## The floors of the power domains, and the end of a command (R467 to R472) -/

/-- The longest entry time of a state, in ns (R468). -/
def entryNs : Nat → Nat
  | 0 => 0 | 1 => 20 | 2 => 1000 | 3 => 20000 | _ => 5000000

/-- The longest exit latency of a state, in ns (R468). -/
def exitNs : Nat → Nat
  | 0 => 0 | 1 => 100 | 2 => 4000 | 3 => 150000 | _ => 25000000

/-- The deepest state of a domain that Bellows chooses in service (R467). -/
def deepestOf (d : Nat) : Nat := if d < 8 ∧ d % 4 ≠ 3 then 4 else 3

/-- The plane that a domain belongs to. PRESUMED, log 24. -/
def domPlane (d : Nat) : Option Plane := if d < 4 then some .a else if d < 8 then some .b else none

/-- The deepest state that the floors of R470, and R472 for PORT_HOST, allow a domain now. -/
def floorOf (d : Nat) (s : State) : Nat :=
  let graph := match domPlane d with
    | some q => s.get q R.SCH_STATUS F.SCH_STATUS_MODE == 1
    | none => false
  if !s.isReady || graph then 0
  else
    let st := match domPlane d with
      | some q => s.dg (R.RED_PLANE q.code) F.RED_PLANE_STATE
      | none => 0
    let closed := s.anyClosed
    if d = 8 then
      if (List.range 2).any (fun c => decide (s.dg (R.CBUS_CH_STATUS c) F.CBUS_CH_STATUS_STATE ≠ 0))
          || (List.range 4).any (fun f => s.dg (R.FED_PORT_CFG f) F.FED_PORT_CFG_EN == 1) then 0 else 1
    else if d = 9 then (if s.dg R.HIF_LINK F.HIF_LINK_L1 = 1 then 4 else 1)
    else if d = 10 ∨ d = 11 then (if closed then 1 else 4)
    else if st = 1 then (if d % 4 = 1 ∧ closed then 1 else 4)
    else if (st = 2 ∨ st = 3) ∧ 2 ≤ d % 4 then 0
    else if st = 2 then 1
    else 4

/-- MAX_DEPTH of a domain; 0b101..0b111 are taken as 0b100. -/
def maxDepth (d : Nat) (s : State) : Nat := min (s.dg (R.BEL_DOM_CFG d) F.BEL_DOM_CFG_MAX_DEPTH) 4

/-- Whether Bellows controls a domain: not one of a plane held in reset or retired (R468). -/
def belControls (d : Nat) (s : State) : Bool :=
  match domPlane d with
  | some q => !(s.ward q).inReset && decide (s.dom d ≠ 5)
  | none => decide (s.dom d ≠ 5)

/-- Domain `d` is in a state that its floor, MAX_DEPTH or TOL_NS forbids (R469 to R471). DESIGN CHOICE, log 15. -/
def tooDeep (d : Nat) (s : State) : Bool :=
  decide (0 < s.dom d) && belControls d s
    && (decide (min (maxDepth d s) (floorOf d s) < s.dom d) || decide (s.dg (R.BEL_DOM_CFG d) F.BEL_DOM_CFG_TOL_NS < exitNs (s.dom d)))

/-- Bellows looks again: a change of TOL_NS, MAX_DEPTH or a floor that forbids a domain's present state wakes it, where no wake
is under way (R471). DESIGN CHOICE, log 15. -/
def belRecheck (s : State) : State :=
  { s with bel := { s.bel with wake := (List.range 12).map (fun d =>
      match nth s.bel.wake d none with
      | some t => some t
      | none => if tooDeep d s then some s.now else none) } }

/-- The end of a command: the next state, in which Bellows has looked at every domain again (R471). DESIGN CHOICE, log 13.
DESIGN CHOICE, log 15. -/
def settled (s : State) : Host.Outcome State Fault Refusal := .next (belRecheck s)

end Sys2Proof.Machine
end

