-- ==== Sys2Proof/Machine/Dma.lean ====
section
/-! DEFINITION. The DMA engine: Bobbins, rings, channel states, bursts and errors (R410 to R425). -/

namespace Sys2Proof.Machine

/-- The flags of DMA channel `c` (R427). -/
def bDMA (c : Nat) : Bank := ⟨R.DMA_CH_FLAGS c, R.DMA_CH_FLAG_CNT0 c, some (R.DMA_CH_EVMASK c), 0⟩

/-- Raise flag `j` of channel `c`; its event is E(192 + c) (R427). -/
def dmaRaise (q : Plane) (c j : Nat) (s : State) : State := s.raise q (bDMA c) (192 + c) j

/-- A channel with no Bobbin. -/
def dmaIdle : DmaCh := ⟨none, 0, 0, false, none, false, false, 0, 0⟩

/-- The DMA engine of plane `q`. -/
def State.dma (s : State) (q : Plane) : DmaSt := (s.rep q).dma

/-- The state with the DMA engine of plane `q` replaced. -/
def State.setDma (s : State) (q : Plane) (x : DmaSt) : State := s.setRep q { s.rep q with dma := x }

/-- Channel `c` of the engine. -/
def State.dch (s : State) (q : Plane) (c : Nat) : DmaCh := nth (s.dma q).chs c dmaIdle

/-- The state with channel `c` replaced, and its completed words shown (DMA_CH_PROGRESS). -/
def setDch (q : Plane) (c : Nat) (x : DmaCh) (s : State) : State :=
  let d := s.dma q
  (s.setDma q { d with chs := d.chs.set c x }).put q (R.DMA_CH_PROGRESS c) F.DMA_CH_PROGRESS_DONE x.acked

/-- The state of a channel: 0 IDLE, 1 RUNNING, 2 STARVED, 3 PAUSED_POWER, 4 HALTED, 5 STOPPED (R416). -/
def dmaState (q : Plane) (c : Nat) (s : State) : Nat := s.get q (R.DMA_CH_STATUS c) F.DMA_CH_STATUS_STATE

/-- The state with a channel in another state. -/
def setDmaState (q : Plane) (c n : Nat) (s : State) : State := s.put q (R.DMA_CH_STATUS c) F.DMA_CH_STATUS_STATE n

/-- A configuration field of a channel. -/
def dmaCfg (q : Plane) (c : Nat) (f : Fld) (s : State) : Nat := s.get q (R.DMA_CH_CFG c) f

/-- The address of the Bobbin at HEAD (R412); the ring address has bits [2:0] taken as 0. -/
def bobAddr (q : Plane) (c : Nat) (s : State) : Nat :=
  (s.rd q (R.DMA_CH_RING c)).toNat / 8 * 8 + 6 * s.get q (R.DMA_CH_STATUS c) F.DMA_CH_STATUS_HEAD

/-- COUNT of a Bobbin (R410). -/
def Bobbin.count (b : Bobbin) : Nat := b.w0.toNat % 2 ^ 24

/-- The address space of a side: 0 PLANE, 1 HOST, 2 PERIPHERAL (R410). -/
def Bobbin.space (b : Bobbin) (dst : Bool) : Nat := (if dst then b.w4 else b.w2).toNat / 2 ^ 32

/-- The address of a side: SRC_HI and SRC_LO, or DST_HI and DST_LO (R410). -/
def Bobbin.addr (b : Bobbin) (dst : Bool) : Nat :=
  (if dst then b.w4 else b.w2).toNat % 2 ^ 28 * 2 ^ 36 + (if dst then b.w3 else b.w1).toNat

/-- PACK of a Bobbin (R410). -/
def Bobbin.pack (b : Bobbin) : Nat := b.w0.toNat / 2 ^ 28 % 4

/-- Whether a side of a Bobbin names an address its space has (R411). -/
def sideOk (b : Bobbin) (dst : Bool) (s : State) : Bool :=
  match b.space dst with
  | 0 => decide (b.addr dst + b.count ≤ storeWords)
  | 1 => true
  | 2 => decide (b.addr dst < 4096) && s.tab.ports.any (fun p => p.1 == b.addr dst)
  | _ => false

/-- Whether the PACK code suits the spaces (R411). -/
def packOk (b : Bobbin) : Bool :=
  let host := fun d => b.space d == 1
  if host false && host true then false
  else if !host false && !host true then b.pack == 0
  else
    let a := b.addr (host true)
    (b.pack == 1 && a % 8 == 0) || (b.pack == 2 && a % 4 == 0 && b.count % 8 == 0)

/-- The reserved bits of a Bobbin are 0 (R410). -/
def reservedOk (b : Bobbin) : Bool :=
  !bitN b.w0.toNat 30 && b.w0.toNat / 2 ^ 24 % 16 == 0 && b.w2.toNat / 2 ^ 28 % 16 == 0
    && b.w4.toNat / 2 ^ 28 % 16 == 0 && b.w5.toNat / 2 ^ 24 % 16 == 0

/-- The check of R411: a Bobbin that fails it completes with BAD_DESC. -/
def bobbinOk (b : Bobbin) (s : State) : Bool :=
  decide (b.count ≠ 0) && reservedOk b && sideOk b false s && sideOk b true s && packOk b

/-- Bursts of a channel in flight. -/
def inFlight (q : Plane) (c : Nat) (s : State) : List Burst := (s.dma q).bursts.filter (fun b => b.ch == c)

/-- The tags that the Memory Reads of bursts hold, of the endpoint's 64 (R497). -/
def tagsOf (l : List Burst) : Nat := (l.map (·.reads)).sum

/-- The engine's bursts in flight, shown with their largest number (DMA_STATUS), and their tags (HIF_LINK). -/
def setBursts (q : Plane) (l : List Burst) (s : State) : State :=
  let s1 := (s.setDma q { s.dma q with bursts := l }).put q R.DMA_STATUS F.DMA_STATUS_INFLIGHT l.length
  (s1.put q R.DMA_STATUS F.DMA_STATUS_INFLIGHT_MAX (max (s1.get q R.DMA_STATUS F.DMA_STATUS_INFLIGHT_MAX) l.length)).dp R.HIF_LINK
    F.HIF_LINK_TAGS (min 127 (tagsOf l))

/-- Half of the count, rounded up (R417). -/
def halfOf (b : Bobbin) : Nat := (b.count + 1) / 2

/-- HALF is raised when the completed words first reach half the count of a Bobbin with INT_HALF = 1 (R417). -/
def raiseHalf (q : Plane) (c : Nat) (s : State) : State :=
  let x := s.dch q c
  match x.bob with
  | some b => if bitN b.w0.toNat 33 && !x.half && decide (halfOf b ≤ x.acked)
      then dmaRaise q c 0 (setDch q c { x with half := true } s) else s
  | none => s

/-- A Bobbin completes with a status: W5, W0, the flags and HEAD, in the order of R415. -/
def bobWrite (q : Plane) (c st good : Nat) (b : Bobbin) (issued : Nat) (s : State) : State :=
  let a := bobAddr q c s
  let s1 := s.sput q (a + 5) (wordN (st * 2 ^ 32 + good))
  let keep := b.w0.toNat / 2 ^ 28 % 64
  let w0 := wordN (b2n (decide (st ≠ 0)) * 2 ^ 34 + keep % 4 * 2 ^ 28 + keep / 8 * 2 ^ 31 + (b.count - issued))
  let s2 := raiseHalf q c (s1.sput q a w0)
  let s3 := if bitN b.w0.toNat 32 || decide (st ≠ 0) then dmaRaise q c 1 s2 else s2
  let s4 := if st ≠ 0 then dmaRaise q c 2 s3 else s3
  let size := 2 ^ dmaCfg q c F.DMA_CH_CFG_RING_LOG2 s4
  let s5 := s4.put q (R.DMA_CH_STATUS c) F.DMA_CH_STATUS_HEAD
    ((s4.get q (R.DMA_CH_STATUS c) F.DMA_CH_STATUS_HEAD + 1) % size)
  s5.put q (R.DMA_CH_STATUS c) F.DMA_CH_STATUS_LAST_STATUS st

/-- The channel's state after a completion with a status: none where it goes on with the next Bobbin (R416, R422). A STOP or an
ABORT that waits wins over HALTED and STOPPED. DEDUCED, log 86. -/
def afterBob (q : Plane) (c st : Nat) (b : Bobbin) (x : DmaCh) (s : State) : Option State :=
  let cont := dmaCfg q c F.DMA_CH_CFG_CONT_ON_ERR s == 1
  let s1 := setDch q c dmaIdle s
  if x.aborting || x.stop then some (setDmaState q c 0 s1)
  else if st ≠ 0 && !cont then some (setDmaState q c 4 s1)
  else if bitN b.w0.toNat 31 then some (dmaRaise q c 4 (setDmaState q c 5 s1))
  else none

/-- The engine loads and checks the Bobbin at HEAD: STARVED if it is not owned, and completed at once with STORE_UE if it is
read poisoned, or with BAD_DESC if it fails its check, when the next one is loaded (R404, R411, R414). The fuel bounds the
Bobbins looked at in one step. DEDUCED, log 86. -/
def loadBob (q : Plane) (c : Nat) : Nat → State → State
  | 0, s => s
  | n + 1, s =>
    let a := bobAddr q c s
    let b : Bobbin := ⟨s.sw q a, s.sw q (a + 1), s.sw q (a + 2), s.sw q (a + 3), s.sw q (a + 4), s.sw q (a + 5)⟩
    let bad := s.poisoned q a 6
    if !bad && !bitN b.w0.toNat 35 then
      if dmaState q c s = 2 then setDch q c { s.dch q c with seen := s.now } s
      else dmaRaise q c 3 (setDmaState q c 2 (setDch q c { dmaIdle with stop := (s.dch q c).stop, seen := s.now } s))
    else
      let x := s.dch q c
      let s1 := setDmaState q c 1 (setDch q c { dmaIdle with bob := some b, stop := x.stop } s)
      if !bad && bobbinOk b s1 then s1
      else
        let st := if bad then 4 else 1
        let s2 := bobWrite q c st 0 b 0 (s1.reportBad q a 6)
        match afterBob q c st b (s1.dch q c) s2 with
        | some s3 => s3
        | none => loadBob q c n (setDch q c dmaIdle s2)

/-- A ring holds at most 4,096 Bobbins (R412). -/
def ringFuel : Nat := 4097

/-- A Bobbin whose bursts have all ended completes, and the channel goes on as R416 says. -/
def finishBob (q : Plane) (c st good : Nat) (s : State) : State :=
  let x := s.dch q c
  match x.bob with
  | some b =>
    let s1 := bobWrite q c st good b x.issued s
    match afterBob q c st b (s1.dch q c) s1 with
    | some s2 => s2
    | none => loadBob q c ringFuel (setDch q c dmaIdle s1)
  | none => s

/-- After a burst has ended: the Bobbin completes when an ABORT or an error stands and no burst is in flight, or when all words
are acknowledged; one that ABORT finds not yet complete is ABORTED (R417, R420, R422). DEDUCED, log 86. -/
def settleBob (q : Plane) (c : Nat) (s : State) : State :=
  let x := s.dch q c
  match x.bob, inFlight q c s with
  | some b, [] =>
    if x.aborting then finishBob q c 6 (match x.err with
      | some e => e.2
      | none => x.acked) s
    else match x.err with
    | some (st, good) => finishBob q c st good s
    | none => if x.acked = b.count then finishBob q c 0 x.acked s else s
  | _, _ => s

/-- The first failed word stands: an earlier one replaces a later one (R420). -/
def noteErr (e : Option (Nat × Nat)) (st good : Nat) : Option (Nat × Nat) :=
  match e with
  | none => some (st, good)
  | some (st', g') => if good < g' then some (st, good) else some (st', g')

/-- The power domain that a side of a burst needs: its plane's store, PORT_HOST, or that of the port (R423, R467). -/
def sideDom (q : Plane) (b : Bobbin) (dst : Bool) (s : State) : Nat :=
  match b.space dst with
  | 0 => 3 + 4 * q.code
  | 1 => 9
  | _ => (((s.tab.ports.find? (fun p => p.1 == b.addr dst)).map (·.2)).getD 8)

/-- A domain takes no new burst: it is below RUN, or it leaves RUN or is about to (R423). -/
def domBusy (d : Nat) (s : State) : Bool :=
  s.dom d != 0 || (nth s.bel.entering d none).isSome || (nth s.bel.deferred d none).isSome

/-- The channels paused for domains that are in RUN again run on (R423). -/
def dmaPowered (q : Plane) (s : State) : State :=
  each (List.range 64) (fun c s => match (s.dch q c).bob with
    | some b => if dmaState q c s = 3 ∧ domBusy (sideDom q b false s) s = false ∧ domBusy (sideDom q b true s) s = false
        then setDmaState q c 1 s else s
    | none => s) s

/-- A power-down that waited for the bursts of a domain: once none is in flight, it begins, unless a burst is held for the
domain, which wakes it (R423, R471). DEDUCED, log 88. -/
def dmaUndefer (q : Plane) (s : State) : State :=
  let uses := fun (d c : Nat) (s : State) => match (s.dch q c).bob with
    | some b => sideDom q b false s == d || sideDom q b true s == d
    | none => false
  dmaPowered q (each (List.range 12) (fun d s =>
    match nth s.bel.deferred d none with
    | none => s
    | some k =>
      if (s.dma q).bursts.any (fun u => uses d u.ch s) then s
      else
        let held := (List.range 64).any (fun c => dmaState q c s == 3 && uses d c s)
        { s with bel := { s.bel with
          deferred := s.bel.deferred.set d none
          entering := if held then s.bel.entering else s.bel.entering.set d (some k) } }) s)

/-- HOST-side bursts can be sent: Bus Master Enable, the link up and not D3hot (R498). -/
def hostUp (s : State) : Bool :=
  s.dg R.HIF_LINK F.HIF_LINK_BME == 1 && decide (s.dg R.HIF_LINK F.HIF_LINK_GEN ≠ 0) && s.dg R.HIF_LINK F.HIF_LINK_D3HOT == 0

/-- Whether channel `c` has a burst ready to be granted (R418, R419). -/
def burstReady (q : Plane) (c : Nat) (s : State) : Bool :=
  let x := s.dch q c
  match x.bob with
  | some b => dmaState q c s == 1 && decide (x.issued < b.count) && x.err.isNone && !x.aborting
      && (dmaCfg q c F.DMA_CH_CFG_PACED s == 0
        || decide (0 < nth (s.dma q).lines (dmaCfg q c F.DMA_CH_CFG_REQ s) 0))
  | none => false

/-- The channel granted: the highest priority with a ready burst, and there the next in channel order after the last one
granted at that priority (R419). -/
def burstPick (q : Plane) (s : State) : Option Nat :=
  (List.range 8).reverse.findSome? (fun p =>
    let last := nth (s.dma q).last p 63
    ((List.range 64).map (fun i => (last + 1 + i) % 64)).find? (fun c =>
      burstReady q c s && dmaCfg q c F.DMA_CH_CFG_PRIO s == p))

/-- The pending count of a request line, shown in the channels that name it (R418). DEDUCED, log 86. -/
def setLine (q : Plane) (l n : Nat) (s : State) : State :=
  let d := s.dma q
  each (List.range 64) (fun c s => if dmaCfg q c F.DMA_CH_CFG_REQ s = l
    then s.put q (R.DMA_CH_REQ c) F.DMA_CH_REQ_PENDING n else s) (s.setDma q { d with lines := d.lines.set l n })

/-- The bits of a packed string that lie below word `i` of a transfer, in whole bytes (R11); word `i` of an unpacked one lies at 8i. -/
def hostOfs (pack i : Nat) : Nat := if pack = 2 then 9 * i / 2 else 8 * i

/-- The bytes of HOST space that words `i` up to `i + n - 1` of a transfer lie in (R11). -/
def hostSpan (pack i n : Nat) : Nat := if pack = 2 then (36 * n + 4 * (i % 2) + 7) / 8 else 8 * n

/-- The requests that a span of HOST space is split into: of at most `most` bytes, none across a 4 KiB boundary (R497).  The fuel bounds
their number. -/
def splitSpan (most : Nat) : Nat → Nat → Nat → List (Nat × Nat)
  | 0, _, _ => []
  | f + 1, a, len =>
    if len = 0 then []
    else
      let k := min (min most (4096 - a % 4096)) len
      (a, k) :: splitSpan most f (a + k) (len - k)

/-- A Max Payload Size or Max Read Request Size in bytes, from its PCIe encoding (R503). -/
def pcieSize (code : Nat) : Nat := 128 * 2 ^ code

/-- The Memory Reads of a burst whose source is HOST (R497). -/
def readReqs (b : Bobbin) (i n : Nat) (s : State) : List (Nat × Nat) :=
  if b.space false = 1 then
    let len := hostSpan b.pack i n
    splitSpan (pcieSize (s.dg R.HIF_LINK F.HIF_LINK_MRRS)) len (b.addr false + hostOfs b.pack i) len
  else []

/-- A ready burst waits for its turn in flight, or its read requests for tags too (R419, R497). -/
def noteWait (q : Plane) (tag : Bool) (s : State) : State :=
  let d := s.dma q
  s.setDma q { d with waits := some (d.waits.getD s.now), waitsTag := if tag then some (d.waitsTag.getD s.now) else d.waitsTag }

/-- A burst has ended, and a wait with it: the island clocks of the wait are counted, 1.5 GHz for the engine and 1 GHz for the endpoint
(R23, R419, R503). -/
def endWaits (q : Plane) (s : State) : State :=
  let d := s.dma q
  let s1 := s.setDma q { d with waits := none, waitsTag := none }
  let s2 := match d.waits with
    | some t => s1.count q R.DMA_STALL F.DMA_STALL_COUNT ((s.now - t) * 3 / 2000)
    | none => s1
  match d.waitsTag with
  | some t => s2.count .a R.HIF_NP_STALL F.HIF_NP_STALL_COUNT ((s.now - t) / 1000)
  | none => s2

/-- The Chanter's engine grants one burst (R417 to R419, R423, R497, R498). -/
def issueBurst (q : Plane) (s0 : State) : State :=
  let s := dmaPowered q s0
  let d := s.dma q
  if d.hold then s
  else match burstPick q s with
    | none => s
    | some c =>
      let x := s.dch q c
      match x.bob with
      | none => s
      | some b =>
        let n := min (dmaCfg q c F.DMA_CH_CFG_BURST_M1 s + 1) (b.count - x.issued)
        let rq := readReqs b x.issued n s
        let low := [sideDom q b false s, sideDom q b true s].filter (fun i => domBusy i s)
        if 16 ≤ d.bursts.length then noteWait q false s
        else if !low.isEmpty then
          let due := low.filter (fun i => (nth s.bel.deferred i none).isNone)
          dmaPowered q (dmaRaise q c 5 (setDmaState q c 3 (each due (fun i s => s.wake i) s)))
        else if (b.space false == 1 || b.space true == 1) && !hostUp s then
          settleBob q c (setDch q c { x with err := noteErr x.err (if b.space false = 1 then 2 else 3) x.issued } s)
        else if 64 < tagsOf d.bursts + rq.length then noteWait q true s
        else
          let p := dmaCfg q c F.DMA_CH_CFG_PRIO s
          let s1 := s.setDma q { d with last := d.last.set p c }
          let s2 := if dmaCfg q c F.DMA_CH_CFG_PACED s = 1 then
              let l := dmaCfg q c F.DMA_CH_CFG_REQ s
              setLine q l (nth d.lines l 0 - 1) s1
            else s1
          let src := b.addr false + x.issued
          let good := if b.space false = 0 then
              ((List.range n).takeWhile (fun i => !s.isBad q ((src + i) / 2))).length else n
          let data := if b.space false = 0 then s.swords q src good else []
          let e' := if good < n then noteErr x.err 4 (x.issued + good) else x.err
          let s3 := setDch q c { x with issued := x.issued + n, err := e' } (if good < n then s2.reportBad q src n else s2)
          if good = 0 then settleBob q c s3
          else
            let s4 := { s3 with hif := { s3.hif with reads := rq.reverse ++ s3.hif.reads } }
            setBursts q ((s4.dma q).bursts ++ [⟨c, x.issued, good, data, decide (good < n), rq.length⟩]) s4

/-- BURST_ISSUE (R419). -/
def execBurstIssue (s : State) : Host.Outcome State Fault Refusal := settled (s.onChanter issueBurst)

/-- The bytes of words `i` and up of a transfer on the HOST side, unpacked or packed; where word `i` begins within a byte, the
high bits of the word before it, `prev`, fill that byte (R11). DESIGN CHOICE, log 138. -/
def hostBytes (pack i : Nat) (prev : Word) (ws : List Word) : List Byte :=
  if pack = 2 then
    let h := i % 2
    let n := (ws.zipIdx).foldl (fun a e => a + e.1.toNat * 2 ^ (36 * e.2 + 4 * h)) (h * (prev.toNat / 2 ^ 32))
    (List.range (hostSpan 2 i ws.length)).map (fun j => BitVec.ofNat 8 (n / 2 ^ (8 * j)))
  else ws.flatMap (fun w => (List.range 8).map (fun j => BitVec.ofNat 8 (w.toNat / 2 ^ (8 * j))))

/-- The words that bytes of HOST space carry from word `i` of a transfer on: bits [35:0] of each 64-bit lane, or 36 bits each of the packed
string (R11). -/
def hostWords (pack i : Nat) (l : List Byte) : List Word :=
  let n := l.reverse.foldl (fun a b => 256 * a + b.toNat) 0
  if pack = 2 then
    let h := 4 * (i % 2)
    (List.range ((8 * l.length - h) / 36)).map (fun k => wordN (n / 2 ^ (36 * k + h)))
  else (List.range (l.length / 8)).map (fun k => wordN (n / 2 ^ (64 * k)))

/-- The Memory Writes of bytes at an address, of at most Max Payload Size (R497). -/
def writeReqs (a : Nat) (l : List Byte) (s : State) : List (Nat × List Byte) :=
  (splitSpan (pcieSize (s.dg R.HIF_LINK F.HIF_LINK_MPS)) l.length a l.length).map (fun e => (e.1, (l.drop (e.1 - a)).take e.2))

/-- The destination takes words of a transfer, the first of which has index `i` and comes after `prev` (R411, R497). -/
def deliver (q : Plane) (b : Bobbin) (i : Nat) (prev : Word) (ws : List Word) (s : State) : State :=
  match b.space true with
  | 0 => s.sputs q (b.addr true + i) ws
  | 1 =>
    if ws = [] then s
    else
      let l := writeReqs (b.addr true + hostOfs b.pack i) (hostBytes b.pack i prev ws) s
      { s with hif := { s.hif with out := l.reverse ++ s.hif.out } }
  | _ => { s with hif := { s.hif with periph := List.reverse (ws.map (fun w => (b.addr true, w))) ++ s.hif.periph } }

/-- The oldest burst of a channel, and the others. -/
def popBurst (q : Plane) (c : Nat) (s : State) : Option (Burst × List Burst) :=
  let l := (s.dma q).bursts
  (l.find? (fun b => b.ch == c)).map (fun b => (b, l.eraseP (fun x => x.ch == c)))

/-- The words that a burst moves: those read from the store, and of another source what it has given (R411, R417). -/
def beatWords (b : Bobbin) (u : Burst) (x : Beats) : List Word :=
  match b.space false, x with
  | 0, .store n => u.data.take n
  | 1, .host l => (hostWords b.pack u.first l).take u.len
  | 2, .port ws => ws.take u.len
  | _, _ => []

/-- The words of a burst that its destination has acknowledged whole. -/
def ackWords (b : Bobbin) (u : Burst) (x : Beats) : List Word := if b.space false = 0 then u.data else beatWords b u x

/-- Words of a burst have been delivered, and it is in flight no more. -/
def takeBurst (q : Plane) (c : Nat) (b : Bobbin) (u : Burst) (rest : List Burst) (ws : List Word) (s : State) : State :=
  let x := s.dch q c
  setDch q c { x with tail := ws.getLastD x.tail } (endWaits q (setBursts q rest (deliver q b u.first x.tail ws s)))

/-- The destination acknowledges the oldest burst of channel `c` (R417). A source that has not given all its words leaves the
burst in flight. DEDUCED, log 86. -/
def ackBurst (q : Plane) (c : Nat) (data : Beats) (s : State) : State :=
  match popBurst q c s, (s.dch q c).bob with
  | some (u, rest), some b =>
    let ws := ackWords b u data
    if ws.length < u.len then s
    else
      let s1 := takeBurst q c b u rest ws s
      let x := s1.dch q c
      dmaUndefer q (settleBob q c (raiseHalf q c (setDch q c { x with acked := x.acked + u.len } s1)))
  | _, _ => s

/-- BURST_ACK (R417). -/
def execBurstAck (c : Fin 64) (data : Beats) (s : State) : Host.Outcome State Fault Refusal :=
  settled (s.onChanter (fun q => ackBurst q c data))

/-- The flags of HIF (R503). -/
def bHIF : Bank := ⟨R.HIF_FLAGS, R.HIF_FLAG_CNT0, some R.HIF_EVMASK, 0⟩

/-- The oldest burst of channel `c` fails after the words of `data` were good: they are written, and the Bobbin completes when its
other bursts have (R420, R421). -/
def failBurst (q : Plane) (c : Nat) (dst : Bool) (data : Beats) (s : State) : State :=
  match popBurst q c s, (s.dch q c).bob with
  | some (u, rest), some b =>
    let ws := beatWords b u data
    let s1 := takeBurst q c b u rest ws s
    let x := s1.dch q c
    let st := if x.issued = b.count then 5 else if dst then 3 else 2
    dmaUndefer q (settleBob q c (setDch q c { x with err := noteErr x.err st (u.first + ws.length) } s1))
  | _, _ => s

/-- The oldest burst of channel `c` is answered with an error; a Memory Read answered so raises CPL_ERR (R420, R498). -/
def errBurst (q : Plane) (c : Nat) (dst : Bool) (data : Beats) (s : State) : State :=
  match popBurst q c s, (s.dch q c).bob with
  | some _, some b => failBurst q c dst data (if !dst && b.space false == 1 then s.raise .a bHIF 191 6 else s)
  | _, _ => s

/-- Bursts in flight with a HOST side end with an error when the endpoint can no longer master: its link, its Bus Master Enable
or its power state is gone, or it is reset (R498, R499). DEDUCED, log 26. -/
def failHost (s : State) : State :=
  s.onChanter (fun q s => each ((s.dma q).bursts.map (·.ch)) (fun c s => match (s.dch q c).bob with
    | some b =>
      if b.space false = 1 then failBurst q c false (.store 0) s
      else if b.space true = 1 then failBurst q c true (.store 0) s else s
    | none => s) s)

/-- DMA_ERROR_RESPONSE (R420, R421). -/
def execDmaErrorResponse (c : Fin 64) (dst : Bool) (data : Beats) (s : State) : Host.Outcome State Fault Refusal :=
  settled (s.onChanter (fun q => errBurst q c dst data))

/-- Refuse a command of a channel (R416). -/
def dmaRefuse (q : Plane) (c code : Nat) (s : State) : State :=
  s.refuse q (R.DMA_CH_STATUS c) F.DMA_CH_STATUS_REFUSE code (bDMA c) (192 + c) 7

/-- A write of DMA_CH_CMD (R416, R422, R427). -/
def dmaCmd (q : Plane) (c code : Nat) (s0 : State) : State :=
  let s := s0.put q (R.DMA_CH_CMD c) F.DMA_CH_CMD_CODE code
  let st := dmaState q c s
  let x := s.dch q c
  match code with
  | 0 => s
  | 1 =>
    if st ≠ 0 ∧ st ≠ 5 then dmaRefuse q c 1 s
    else
      let l := dmaCfg q c F.DMA_CH_CFG_RING_LOG2 s
      if l < 1 ∨ 12 < l then dmaRefuse q c 2 s
      else loadBob q c ringFuel (setDmaState q c 1 (setDch q c dmaIdle s))
  | 2 =>
    if st = 1 then setDch q c { x with stop := true } s
    else if st = 2 then setDmaState q c 0 (setDch q c dmaIdle s)
    else dmaRefuse q c 1 s
  | 3 =>
    if st = 0 then dmaRefuse q c 1 s
    else if st = 1 ∨ st = 3 then settleBob q c (setDch q c { x with aborting := true } s)
    else setDmaState q c 0 (setDch q c dmaIdle s)
  | 4 => if st = 4 then loadBob q c ringFuel (setDmaState q c 1 (setDch q c dmaIdle s)) else dmaRefuse q c 1 s
  | 5 => if st = 2 then loadBob q c ringFuel s else dmaRefuse q c 1 s
  | _ => dmaRefuse q c 3 s

/-- DMA_START (R416). -/
def execDmaStart (c : Fin 64) (s : State) : Host.Outcome State Fault Refusal := settled (s.onChanter (fun q => dmaCmd q c 1))

/-- DMA_STOP: IDLE at the end of the current Bobbin (R416). -/
def execDmaStop (c : Fin 64) (s : State) : Host.Outcome State Fault Refusal := settled (s.onChanter (fun q => dmaCmd q c 2))

/-- ABORT: no more bursts are issued; the Bobbin completes with ABORTED once those in flight have (R422). -/
def execDmaAbort (c : Fin 64) (s : State) : Host.Outcome State Fault Refusal := settled (s.onChanter (fun q => dmaCmd q c 3))

/-- DMA_RESUME (R416). -/
def execDmaResume (c : Fin 64) (s : State) : Host.Outcome State Fault Refusal := settled (s.onChanter (fun q => dmaCmd q c 4))

/-- DOORBELL: a starved channel reads the Bobbin at HEAD again (R414). -/
def execDmaDoorbell (c : Fin 64) (s : State) : Host.Outcome State Fault Refusal := settled (s.onChanter (fun q => dmaCmd q c 5))

/-- DMA_CMD_RESERVED: codes 0x6..0xF are refused with REFUSE = 0x3 (R427). -/
def execDmaCmdReserved (c : Fin 64) (code : BitVec 4) (s : State) : Host.Outcome State Fault Refusal :=
  settled (s.onChanter (fun q => dmaCmd q c code.toNat))

/-- A write of DMA_CH_CFG or DMA_CH_RING: refused outside IDLE, STOPPED or HALTED (R416).  DMA_CH_REQ then shows the line
that the channel names. -/
def writeDmaCfg (q : Plane) (c : Nat) (ring : Bool) (v : Word) (s : State) : State :=
  let st := dmaState q c s
  if st = 0 ∨ st = 4 ∨ st = 5 then
    if ring then s.wr q (R.DMA_CH_RING c) v
    else
      let s1 := s.wr q (R.DMA_CH_CFG c) (F.DMA_CH_CFG_RING_LOG2.set (F.DMA_CH_CFG_BURST_M1.set
        (F.DMA_CH_CFG_CONT_ON_ERR.set (F.DMA_CH_CFG_PACED.set (F.DMA_CH_CFG_REQ.set (F.DMA_CH_CFG_PRIO.set 0
          (F.DMA_CH_CFG_PRIO.get v)) (F.DMA_CH_CFG_REQ.get v)) (F.DMA_CH_CFG_PACED.get v))
          (F.DMA_CH_CFG_CONT_ON_ERR.get v)) (F.DMA_CH_CFG_BURST_M1.get v)) (F.DMA_CH_CFG_RING_LOG2.get v))
      s1.put q (R.DMA_CH_REQ c) F.DMA_CH_REQ_PENDING (nth (s1.dma q).lines (F.DMA_CH_CFG_REQ.get v) 0)
  else dmaRefuse q c 4 s

/-- DMA_CFG_WRITE (R416). -/
def execDmaCfgWrite (c : Fin 64) (ring : Bool) (v : Word) (s : State) : Host.Outcome State Fault Refusal :=
  settled (s.onChanter (fun q => writeDmaCfg q c ring v))

/-- STARVED_REREAD: every 10 µs a starved channel reads the Bobbin at HEAD again (R414). -/
def execStarvedReread (c : Fin 64) (s : State) : Host.Outcome State Fault Refusal :=
  settled (s.onChanter (fun q s => if dmaState q c s = 2 then loadBob q c ringFuel (s.toTime ((s.dch q c).seen + 10 ^ 7)) else s))

/-- A request on a line of the Chanter: counted, or REQ_OVF at saturation in the paced channels that name it (R418). DEDUCED,
log 86. -/
def dmaRequest (q : Plane) (l : Nat) (s : State) : State :=
  let n := nth (s.dma q).lines l 0
  if n < 65535 then setLine q l (n + 1) s
  else each (List.range 64) (fun c s =>
    if dmaCfg q c F.DMA_CH_CFG_REQ s = l ∧ dmaCfg q c F.DMA_CH_CFG_PACED s = 1 then dmaRaise q c 6 s else s) s

/-- After a fault switch-over each Bobbin in progress restarts from the words completed at the last applied commit, with
REPLAYED raised; one that was being aborted completes (R422, R424). -/
def dmaReplay (q : Plane) (s : State) : State :=
  let s1 := setBursts q [] (s.setDma q { s.dma q with hold := false, waits := none, waitsTag := none })
  each (List.range 64) (fun c s => match (s.dch q c).bob with
    | some _ => settleBob q c (dmaRaise q c 8 (setDch q c { s.dch q c with issued := (s.dch q c).acked, err := none } s))
    | none => s) s1

end Sys2Proof.Machine
end

