-- ==== Sys2Proof/Machine/Bellows.lean ====
section
/-! DEFINITION. Bellows: the choice of a power state, its floors, power-down and wake (R467 to R473). -/

namespace Sys2Proof.Machine

/-- The flags of BEL (R483). -/
def bBEL : Bank := ⟨R.BEL_FLAGS, R.BEL_FLAG_CNT, some R.BEL_EVMASK, 0⟩

/-- The deepest state within a depth whose exit latency is tolerable and that the next scheduled action, `next` ns away, leaves
time for (R469). DEDUCED, log 88. -/
def chooseWithin (d depth next : Nat) (s : State) : Nat :=
  ((List.range 5).reverse.find? (fun k => decide (k ≤ depth) && decide (exitNs k ≤ s.dg (R.BEL_DOM_CFG d) F.BEL_DOM_CFG_TOL_NS)
    && decide (entryNs k + exitNs k ≤ next))).getD 0

/-- A channel of the Chanter's engine whose Bobbin uses a domain: whether bursts of it are in flight, and whether one is still to be
issued (R423). -/
structure DmaUse where
  ch : Nat
  flying : Bool
  more : Bool
  deriving DecidableEq, Repr

/-- The channels whose Bobbins use a domain. -/
def dmaUses (d : Nat) (s : State) : List DmaUse :=
  match s.chanter with
  | none => []
  | some q => (List.range 64).filterMap (fun c => match (s.dch q c).bob with
    | some b =>
      let x := s.dch q c
      if sideDom q b false s = d ∨ sideDom q b true s = d then
        some ⟨c, !(inFlight q c s).isEmpty, decide (x.issued < b.count) && x.err.isNone && !x.aborting⟩ else none
    | none => none)

/-- DOMAIN_POWER_DOWN: an idle domain begins its entry to the state chosen; bursts in flight defer it, and a held burst keeps it
up (R423, R469, R471). `next` is the time in ns to the domain's next scheduled action. DEDUCED, log 88. -/
def execDomainPowerDown (d : Fin 12) (next : Nat) (s : State) : Host.Outcome State Fault Refusal :=
  let free := min (maxDepth d s) (deepestOf d)
  let depth := min free (floorOf d s)
  let k := chooseWithin d depth next s
  let s1 := (s.dp (R.BEL_DOM_STATUS d) F.BEL_DOM_STATUS_CHOSEN k).dp (R.BEL_DOM_STATUS d) F.BEL_DOM_STATUS_FLOORED
    (b2n (decide (k < chooseWithin d free next s)))
  settled (if !belControls d s || (nth s.bel.wake d none).isSome || decide (k ≤ s.dom d) then
      (if belControls d s then s1 else s)
    else
      let uses := dmaUses d s1
      if uses.any (·.flying) then
        let s2 := ({ s1 with bel := { s1.bel with deferred := s1.bel.deferred.set d (some k) } }).raise .a bBEL 186 1
        s2.onChanter (fun q => each (uses.filter (fun u => u.more && dmaState q u.ch s2 == 1)) (fun u s =>
          dmaRaise q u.ch 5 (setDmaState q u.ch 3 s)))
      else if (match s1.chanter with
          | some q => uses.any (fun u => dmaState q u.ch s1 == 3)
          | none => false) then s1
      else { s1 with bel := { s1.bel with entering := s1.bel.entering.set d (some k) } })

/-- DOMAIN_ENTRY_DONE: the domain reaches the state chosen (R468). DEDUCED, log 88. -/
def execDomainEntryDone (d : Fin 12) (s : State) : Host.Outcome State Fault Refusal :=
  settled (match nth s.bel.entering d none with
    | some k =>
      let s1 := s.dp (R.BEL_DOM_STATUS d) F.BEL_DOM_STATUS_STATE k
      { s1 with bel := { s1.bel with
        entering := s1.bel.entering.set d none
        deferred := s1.bel.deferred.set d none } }
    | none => s)

/-- A wake request; channels paused for a domain that stays in RUN run on (R423, R471). -/
def wakeUp (d : Nat) (s : State) : State := (s.wake d).onChanter dmaPowered

/-- DOMAIN_WAKE_REQUEST (R471). -/
def execDomainWakeRequest (d : Fin 12) (s : State) : Host.Outcome State Fault Refusal := settled (wakeUp d s)

/-- WAKE_TIME: ahead of the domain's next scheduled action (R471). -/
def execWakeTime (d : Fin 12) (s : State) : Host.Outcome State Fault Refusal :=
  settled (wakeUp d s)

/-- A domain is in RUN, `ns` after its wake request: the exit is counted, the longest wait kept, and a wait beyond TOL_NS
raises WAKE_LATE (R471). -/
def exitDone (d ns : Nat) (s : State) : State :=
  match nth s.bel.wake d none with
  | none => s
  | some t0 =>
    let s0 := s.toTime (t0 + 1000 * ns)
    let s1 := (s0.dp (R.BEL_DOM_STATUS d) F.BEL_DOM_STATUS_STATE 0).count .a (R.BEL_DOM_EXITS d) F.BEL_DOM_EXITS_VALUE 1
    let s2 := s1.dp (R.BEL_DOM_WAIT_MAX d) F.BEL_DOM_WAIT_MAX_VALUE
      (min (max ns (s1.dg (R.BEL_DOM_WAIT_MAX d) F.BEL_DOM_WAIT_MAX_VALUE)) (2 ^ 36 - 1))
    let s3 := { s2 with bel := { s2.bel with wake := s2.bel.wake.set d none } }
    let s4 := if s3.dg (R.BEL_DOM_CFG d) F.BEL_DOM_CFG_TOL_NS < ns then s3.raise .a bBEL 186 0 else s3
    s4.onChanter dmaPowered

/-- A write of BEL_DOM_CFG (R471). -/
def writeDomCfg (d : Nat) (v : Word) (s : State) : State :=
  s.wr .a (R.BEL_DOM_CFG d) (F.BEL_DOM_CFG_TOL_NS.set (F.BEL_DOM_CFG_MAX_DEPTH.set 0
    (F.BEL_DOM_CFG_MAX_DEPTH.get v)) (F.BEL_DOM_CFG_TOL_NS.get v))

/-- THERMAL_READING: the reading and its maximum; THERM_WARN once per rise above WARN (R473). -/
def execThermalReading (die : Fin 8) (t : BitVec 12) (s : State) : Host.Outcome State Fault Refusal :=
  let k := R.BEL_THERM die
  let old := signedOf 12 (s.dg k F.BEL_THERM_TEMP)
  let warn := signedOf 12 (s.dg R.BEL_THERM_CFG F.BEL_THERM_CFG_WARN)
  let s1 := s.dp k F.BEL_THERM_TEMP t.toNat
  let s2 := if signedOf 12 (s.dg k F.BEL_THERM_MAX) < t.toInt then s1.dp k F.BEL_THERM_MAX t.toNat else s1
  settled (if old ≤ warn ∧ warn < t.toInt then s2.raise .a bBEL 189 2 else s2)

/-- The latency in ns that the endpoint reports in its LTR message: BEL_LTR while a channel of the Chanter has a Bobbin with a HOST side
loaded; 0 is no requirement (R472). -/
def ltrReport (s : State) : Nat :=
  match s.chanter with
  | some q => if (List.range 64).any (fun c => match (s.dch q c).bob with
      | some b => b.space false == 1 || b.space true == 1
      | none => false) then s.dg R.BEL_LTR F.BEL_LTR_NS else 0
  | none => 0

/-- The L1 acceptable latency that the endpoint advertises, by its PCIe code: code k is 2^k µs, and TOL_NS of PORT_HOST is
rounded down to one (R472). PRESUMED, log 138. -/
def l1Latency (s : State) : Nat :=
  ((List.range 7).reverse.find? (fun k => decide (2 ^ k * 1000 ≤ s.dg (R.BEL_DOM_CFG 9) F.BEL_DOM_CFG_TOL_NS))).getD 0

end Sys2Proof.Machine
end

