-- ==== Sys2Proof/Machine/Crypto.lean ====
section
/-! DEFINITION. SHA-512 (FIPS 180-4) and the verification of RSASSA-PSS signatures (RFC 8017) with the parameters of R450. -/

namespace Sys2Proof.Machine

/-- The greatest number of `k` bits above `r` that satisfies a downward closed test. -/
def greatest (p : Nat → Bool) : Nat → Nat → Nat
  | 0, r => r
  | k + 1, r => greatest p k (if p (r + 2 ^ k) then r + 2 ^ k else r)

/-- The first 80 primes. -/
def primes80 : List Nat := (List.range 410).filter (fun n => decide (1 < n) && (List.range' 2 19).all (fun d => d == n || n % d != 0))

/-- The first 64 bits of the fractional part of the cube root of a prime (FIPS 180-4). -/
def cubeFrac (p : Nat) : BitVec 64 := BitVec.ofNat 64 (greatest (fun r => decide (r * r * r ≤ p * 2 ^ 192)) 68 0)

/-- The first 64 bits of the fractional part of the square root of a prime (FIPS 180-4). -/
def squareFrac (p : Nat) : BitVec 64 := BitVec.ofNat 64 (greatest (fun r => decide (r * r ≤ p * 2 ^ 128)) 70 0)

/-- The 80 constants of SHA-512. -/
def shaK : List (BitVec 64) := primes80.map cubeFrac

/-- The initial value of SHA-512. -/
def shaInit : List (BitVec 64) := (primes80.take 8).map squareFrac

/-- A number as `n` bytes, most significant first. -/
def beBytes (n v : Nat) : List Byte := (List.range n).map (fun i => BitVec.ofNat 8 (v / 256 ^ (n - 1 - i)))

/-- The number of a list of bytes, most significant first. -/
def beNum (l : List Byte) : Nat := l.foldl (fun v b => v * 256 + b.toNat) 0

/-- The number of a list of bytes, least significant first. -/
def leNum (l : List Byte) : Nat := beNum l.reverse

/-- A number as `n` bytes, least significant first. -/
def numBytes (n v : Nat) : List Byte := (beBytes n v).reverse

/-- The `n` bytes from byte `i`. -/
def slice (l : List Byte) (i n : Nat) : List Byte := (l.drop i).take n

/-- The message schedule of a block: the words so far, newest first, extended `k` times. -/
def shaExpand : Nat → List (BitVec 64) → List (BitVec 64)
  | 0, w => w
  | k + 1, w =>
    let a := nth w 14 0
    let b := nth w 1 0
    let s0 := a.rotateRight 1 ^^^ a.rotateRight 8 ^^^ a >>> 7
    let s1 := b.rotateRight 19 ^^^ b.rotateRight 61 ^^^ b >>> 6
    shaExpand k ((nth w 15 0 + s0 + nth w 6 0 + s1) :: w)

/-- One round, on the eight working variables, with W_t and K_t. PRESUMED, log 114. -/
def shaRound (v : List (BitVec 64)) (wk : BitVec 64 × BitVec 64) : List (BitVec 64) :=
  match v with
  | [a, b, c, d, e, f, g, h] =>
    let t1 := h + (e.rotateRight 14 ^^^ e.rotateRight 18 ^^^ e.rotateRight 41) + ((e &&& f) ^^^ (~~~e &&& g)) + wk.2 + wk.1
    let t2 := (a.rotateRight 28 ^^^ a.rotateRight 34 ^^^ a.rotateRight 39) + ((a &&& b) ^^^ (a &&& c) ^^^ (b &&& c))
    [t1 + t2, a, b, c, d + t1, e, f, g]
  | v => v

/-- One block of 128 bytes. -/
def shaBlock (h : List (BitVec 64)) (block : List Byte) : List (BitVec 64) :=
  let m := (List.range 16).map (fun i => BitVec.ofNat 64 (beNum (slice block (8 * i) 8)))
  let w := (shaExpand 64 m.reverse).reverse
  List.zipWith (· + ·) h ((w.zip shaK).foldl shaRound h)

/-- The blocks of a padded message. -/
def shaBlocks : Nat → List Byte → List (BitVec 64) → List (BitVec 64)
  | 0, _, h => h
  | n + 1, l, h => shaBlocks n (l.drop 128) (shaBlock h (l.take 128))

/-- SHA-512: 64 bytes. PRESUMED, log 114. -/
def sha512 (m : List Byte) : List Byte :=
  let z := (128 - (m.length + 17) % 128) % 128
  let p := m ++ [0x80] ++ List.replicate z 0 ++ beBytes 16 (8 * m.length)
  (shaBlocks (p.length / 128) p shaInit).flatMap (fun x => beBytes 8 x.toNat)

/-- MGF1 with SHA-512: `n` bytes (RFC 8017, B.2.1). PRESUMED, log 114. -/
def mgf1 (seed : List Byte) (n : Nat) : List Byte :=
  ((List.range ((n + 63) / 64)).flatMap (fun i => sha512 (seed ++ beBytes 4 i))).take n

/-- m ^ 65537 mod n. PRESUMED, log 114. -/
def rsaPower (m n : Nat) : Nat :=
  let q := (List.range 16).foldl (fun x _ => x * x % n) (m % n)
  q * (m % n) % n

/-- The exclusive or of two strings. -/
def xorBytes (a b : List Byte) : List Byte := List.zipWith (fun x y => x ^^^ y) a b

/-- RSASSA-PSS-VERIFY for RSA-4096, exponent 65537, SHA-512, MGF1 with SHA-512, salt of 64 bytes, trailer 0xBC (R450; RFC 8017,
8.1.2 and 9.1.2). PRESUMED, log 114. -/
def pssVerify (modulus msg sig : List Byte) : Bool :=
  let n := beNum modulus
  let m := beNum sig
  let em := beBytes 512 (rsaPower m n)
  let h := slice em 447 64
  let db := xorBytes (em.take 447) (mgf1 h 447)
  let db0 := ((nth db 0 0) &&& 0x7F) :: db.drop 1
  decide (modulus.length = 512) && decide (sig.length = 512) && decide (2 ^ 4095 ≤ n) && decide (m < n)
    && (nth em 511 0 == 0xBC) && decide ((nth em 0 0).toNat < 128) && (db0.take 382).all (· == 0) && (nth db0 382 0 == 1)
    && (sha512 (List.replicate 8 0 ++ sha512 msg ++ db0.drop 383) == h)

/-- The key hash of a modulus and exponent 65537 (R450). PRESUMED, log 114. -/
def keyHash (modulus : List Byte) : List Byte := sha512 (modulus ++ beBytes 4 65537)

end Sys2Proof.Machine
end

