-- ==== Sys2Proof/Machine/Real.lean ====
section
/-! DEFINITION. Real numbers of the planner: roots, sines and angles, each within a bound of its value, and the rounding of a
real value to a word. -/

namespace Sys2Proof.Machine

/-- |x| of a rational. -/
def ratAbs (x : Rat) : Rat := if x < 0 then -x else x

/-- The smaller of two rationals. -/
def ratMin (x y : Rat) : Rat := if x ≤ y then x else y

/-- The larger of two rationals. -/
def ratMax (x y : Rat) : Rat := if x ≤ y then y else x

/-- The smallest of a rational and those of a list. -/
def ratMins (x : Rat) (l : List Rat) : Rat := l.foldl ratMin x

/-- A signed word with `k` fraction bits. -/
def fixed (w : Word) (k : Nat) : Rat := (w.toInt : Rat) / 2 ^ k

/-- A real value as the planner's own arithmetic gives it, within 2^-60 of the exact one. DESIGN CHOICE, log 41. -/
def near (x : Rat) : Rat := x + ratMax (-1 / 2 ^ 60) (ratMin (1 / 2 ^ 60) (Config.slack x))

/-- A value on the grid on which roots and series are formed. -/
def onGrid (x : Rat) : Rat := ((x * 2 ^ 100).floor : Rat) / 2 ^ 100

/-- The square root, cut to the grid; 0 below 0. -/
def rootGrid (x : Rat) : Rat := if x ≤ 0 then 0 else ((Nat.sqrt (x * 2 ^ 200).floor.toNat : Nat) : Rat) / 2 ^ 100

/-- The square root: exact where it lies on the grid. DESIGN CHOICE, log 41. -/
def root (x : Rat) : Rat := if rootGrid x * rootGrid x = x then rootGrid x else near (rootGrid x)

/-- π, to 39 places. -/
def piRat : Rat := 3141592653589793238462643383279502884197 / 10 ^ 39

/-- sin and cos of a small angle in radians, by their series. -/
def sinCosSeries (y : Rat) : Rat × Rat :=
  let e := (List.range 26).foldl (fun (e : Rat × Rat × Rat) (k : Nat) =>
    let t := onGrid (e.1 * y / (k + 1))
    match k % 4 with
    | 0 => (t, e.2.1, e.2.2 + e.1)
    | 1 => (t, e.2.1 + e.1, e.2.2)
    | 2 => (t, e.2.1, e.2.2 - e.1)
    | _ => (t, e.2.1 - e.1, e.2.2)) (1, 0, 0)
  e.2

/-- sin and cos of the angle doubled `n` times. -/
def doubled : Nat → Rat × Rat → Rat × Rat
  | 0, e => e
  | n + 1, e => doubled n (onGrid (2 * e.1 * e.2), onGrid (1 - 2 * e.1 * e.1))

/-- sin and cos of an angle in turns. DESIGN CHOICE, log 41. -/
def sinCos (t : Rat) : Rat × Rat :=
  let f := t - ((t + 1 / 2).floor : Rat)
  if f = 0 then (0, 1) else if f = 1 / 4 then (1, 0) else if f = -1 / 4 then (-1, 0) else if f = -1 / 2 then (0, -1)
  else
    let e := doubled 4 (sinCosSeries (onGrid (piRat * f / 8)))
    (near e.1, near e.2)

/-- The angle in radians of a small tangent, by its series. -/
def atanSeries (x : Rat) : Rat :=
  ((List.range 18).foldl (fun (e : Rat × Rat) (k : Nat) =>
    (onGrid (-e.1 * x * x), e.2 + e.1 / (2 * k + 1))) (x, 0)).2

/-- The tangent of half the angle of a tangent. -/
def halfTan (x : Rat) : Rat := onGrid (x / (1 + rootGrid (1 + x * x)))

/-- The angle in turns, 0 to 1/4, of the point `(c, s)` with `c` and `s` not negative. -/
def angleAcute (c s : Rat) : Rat :=
  16 * atanSeries (halfTan (halfTan (halfTan (onGrid (s / (rootGrid (c * c + s * s) + c)))))) / (2 * piRat)

/-- The angle in turns, 0 to 1/2, of the point `(c, s)` with `s` not negative. DESIGN CHOICE, log 41. -/
def angleOf (c s : Rat) : Rat :=
  if s = 0 then (if c < 0 then 1 / 2 else 0) else if c = 0 then 1 / 4
  else near (if c < 0 then 1 / 2 - angleAcute (-c) s else angleAcute c s)

/-- The integer of a real value: exact, or one of its two neighbours, where no rule states the rounding. DESIGN CHOICE, log 41.
-/
def roundReal (x : Rat) : Int := if x.den = 1 then x.num else x.floor + b2n (Config.roundsUp x)

/-- A real value as a word with `k` fraction bits, clamped to it. DESIGN CHOICE, log 41. -/
def ratWord (k : Nat) (x : Rat) : Word := wordI (sat36 (roundReal (x * 2 ^ k)))

end Sys2Proof.Machine
end

