-- ==== Sys2Proof/Machine/Geom.lean ====
section
/-! DEFINITION. The geometry of the pieces of a path: vectors, rotations, frames, LINE, ARC, SPLINE and blend, each as a place
at a path length with its derivatives (R71 to R75, R110, R115, R120 to R123). -/

namespace Sys2Proof.Machine

/-! ## Vectors and rotations -/

/-- A vector of space. -/
structure V3 where
  x : Rat
  y : Rat
  z : Rat
  deriving DecidableEq, Repr

/-- A quaternion. -/
structure Q4 where
  w : Rat
  x : Rat
  y : Rat
  z : Rat
  deriving DecidableEq, Repr

/-- The sum `u + k v`. -/
def vecAdd (u : V3) (k : Rat) (v : V3) : V3 := ⟨u.x + k * v.x, u.y + k * v.y, u.z + k * v.z⟩

/-- The null vector. -/
def vecZero : V3 := ⟨0, 0, 0⟩

/-- The multiple of a vector. -/
def vecMul (k : Rat) (v : V3) : V3 := vecAdd vecZero k v

/-- The scalar product. -/
def vecDot (u v : V3) : Rat := u.x * v.x + u.y * v.y + u.z * v.z

/-- The cross product. -/
def vecCross (u v : V3) : V3 := ⟨u.y * v.z - u.z * v.y, u.z * v.x - u.x * v.z, u.x * v.y - u.y * v.x⟩

/-- The length of a vector. -/
def vecLen (v : V3) : Rat := root (vecDot v v)

/-- The unit vector of a direction; the null vector has none. -/
def vecUnit (v : V3) : V3 :=
  let n := rootGrid (vecDot v v)
  if n = 0 then vecZero else vecMul (1 / n) v

/-- The product of two quaternions. -/
def quatMul (p q : Q4) : Q4 :=
  ⟨p.w * q.w - p.x * q.x - p.y * q.y - p.z * q.z, p.w * q.x + p.x * q.w + p.y * q.z - p.z * q.y,
    p.w * q.y - p.x * q.z + p.y * q.w + p.z * q.x, p.w * q.z + p.x * q.y - p.y * q.x + p.z * q.w⟩

/-- The inverse of a unit quaternion. -/
def quatInv (q : Q4) : Q4 := ⟨q.w, -q.x, -q.y, -q.z⟩

/-- The multiple of a quaternion, added to another. -/
def quatAdd (p : Q4) (k : Rat) (q : Q4) : Q4 := ⟨p.w + k * q.w, p.x + k * q.x, p.y + k * q.y, p.z + k * q.z⟩

/-- The scalar product of two quaternions. -/
def quatDot (p q : Q4) : Rat := p.w * q.w + p.x * q.x + p.y * q.y + p.z * q.z

/-- A quaternion brought to norm 1 (R71). -/
def quatUnit (q : Q4) : Q4 :=
  let n := rootGrid (quatDot q q)
  if n = 0 ∨ n = 1 then q else quatAdd ⟨0, 0, 0, 0⟩ (1 / n) q

/-- The vector part of a quaternion. -/
def quatVec (q : Q4) : V3 := ⟨q.x, q.y, q.z⟩

/-- A vector turned by a unit quaternion. -/
def quatTurn (q : Q4) (v : V3) : V3 := quatVec (quatMul (quatMul q ⟨0, v.x, v.y, v.z⟩) (quatInv q))

/-- The angle in turns of the rotation from one orientation to another; of q and −q the second is the nearer one (R71). -/
def rotationAngle (p q : Q4) : Rat :=
  if p = q then 0
  else
    let s := quatAdd p 1 q
    let d := quatAdd q (-1) p
    4 * angleOf (rootGrid (quatDot s s)) (rootGrid (quatDot d d))

/-- The unit axis, in the frame of the orientations, of the rotation from one to another. -/
def rotationAxis (p q : Q4) : V3 := vecUnit (quatVec (quatMul q (quatInv p)))

/-- Spherical linear interpolation at the fraction `f` (R73). -/
def slerp (p q : Q4) (f : Rat) : Q4 :=
  if p = q then p
  else
    let h := rotationAngle p q / 2
    let s := (sinCos h).1
    if s = 0 then p
    else quatUnit (quatAdd (quatAdd ⟨0, 0, 0, 0⟩ ((sinCos ((1 - f) * h)).1 / s) p) ((sinCos (f * h)).1 / s) q)

/-- Of q and −q the one nearer to `p` (R71). -/
def quatNear (p q : Q4) : Q4 := if quatDot p q < 0 then quatAdd ⟨0, 0, 0, 0⟩ (-1) q else q

/-! ## Poses as words (R71) -/

/-- The position of a pose, in m. -/
def posOf (p : List Word) : V3 := ⟨fixed (nth p 0 0) 30, fixed (nth p 1 0) 30, fixed (nth p 2 0) 30⟩

/-- The orientation of a pose. -/
def rotOf (p : List Word) : Q4 :=
  quatUnit ⟨fixed (nth p 3 0) 34, fixed (nth p 4 0) 34, fixed (nth p 5 0) 34, fixed (nth p 6 0) 34⟩

/-- A vector as words with `k` fraction bits. -/
def vecWords (k : Nat) (v : V3) : List Word := [ratWord k v.x, ratWord k v.y, ratWord k v.z]

/-- An orientation as words. -/
def quatWords (q : Q4) : List Word := [ratWord 34 q.w, ratWord 34 q.x, ratWord 34 q.y, ratWord 34 q.z]

/-- A pose as words. -/
def poseWords (p : V3) (q : Q4) : List Word := vecWords 30 p ++ quatWords q

/-- A quaternion operand brought to norm 1 (R71). -/
def unitQuat (q : List Word) : List Word := quatWords (rotOf ([0, 0, 0] ++ q))

/-- A pose read in a frame whose own pose is given, as a pose in WORLD (R72). -/
def compose (f p : List Word) : List Word :=
  poseWords (vecAdd (posOf f) 1 (quatTurn (rotOf f) (posOf p))) (quatMul (rotOf f) (rotOf p))

/-- The pose, relative to a frame's pose, of a pose in WORLD. -/
def relative (f p : List Word) : List Word :=
  poseWords (quatTurn (quatInv (rotOf f)) (vecAdd (posOf p) (-1) (posOf f))) (quatMul (quatInv (rotOf f)) (rotOf p))

/-- The pose of the origin seen from a pose. -/
def inverse (p : List Word) : List Word :=
  poseWords (vecMul (-1) (quatTurn (quatInv (rotOf p)) (posOf p))) (quatInv (rotOf p))

/-! ## Places of a curve -/

/-- A place of a piece: position, first and second derivative of the position by path length, orientation, and the rate of
rotation in turns per unit of path length, all in one frame (R115, R123). -/
structure Place where
  p : V3
  d : V3
  k : V3
  q : Q4
  w : V3
  deriving DecidableEq, Repr

/-- A place in the axes of the frame in which its frame's pose is given. -/
def Place.via (c : Place) (f : List Word) : Place :=
  let r := rotOf f
  ⟨vecAdd (posOf f) 1 (quatTurn r c.p), quatTurn r c.d, quatTurn r c.k, quatMul r c.q, quatTurn r c.w⟩

/-- A polynomial curve with vector coefficients, lowest first. -/
abbrev Poly := List V3

/-- The value of a polynomial curve. -/
def polyAt (c : Poly) (u : Rat) : V3 := c.foldr (fun a v => vecAdd a u v) vecZero

/-- The derivative of a polynomial curve. -/
def polyDiff (c : Poly) : Poly := (c.zipIdx.drop 1).map (fun e => vecMul e.2 e.1)

/-- The quintic Hermite curve through two ends with first and second derivatives (R75). -/
def hermite (p0 d0 dd0 p1 d1 dd1 : V3) : Poly :=
  let a := vecAdd (vecAdd (vecAdd p1 (-1) p0) (-1) d0) (-1 / 2) dd0
  let b := vecAdd (vecAdd d1 (-1) d0) (-1) dd0
  let c := vecAdd dd1 (-1) dd0
  [p0, d0, vecMul (1 / 2) dd0, vecAdd (vecAdd (vecMul 10 a) (-4) b) (1 / 2) c,
    vecAdd (vecAdd (vecMul (-15) a) 7 b) (-1) c, vecAdd (vecAdd (vecMul 6 a) (-3) b) (1 / 2) c]

/-- The arc length of a curve with derivative `c` from 0 to `u`: Simpson's rule over 64 intervals. DESIGN CHOICE, log 41. -/
def arcLength (c : Poly) (u : Rat) : Rat :=
  let f := fun (k : Nat) => let v := polyAt c (u * k / 64); rootGrid (vecDot v v)
  near ((u / 192) * ((List.range 65).map (fun k => ((if k = 0 ∨ k = 64 then 1 else if k % 2 = 1 then 4 else 2 : Nat) : Rat) * f k)).sum)

/-- The parameter at which the arc length from 0 is `s`: Newton's rule from `u`, held to 0..1. DESIGN CHOICE, log 41. -/
def arcParam (c : Poly) (s : Rat) : Nat → Rat → Rat
  | 0, u => u
  | n + 1, u =>
    let v := polyAt c u
    let g := rootGrid (vecDot v v)
    if g = 0 then u else arcParam c s n (ratMax 0 (ratMin 1 (onGrid (u + (s - arcLength c u) / g))))

/-- A curve with the orientations of its ends. -/
structure Curve where
  c : Poly
  q0 : Q4
  q1 : Q4
  deriving DecidableEq, Repr

/-- The length of a curve. -/
def Curve.length (c : Curve) : Rat := arcLength (polyDiff c.c) 1

/-- The place of a curve at its parameter `u`: orientation in proportion to path length (R73, R122). -/
def Curve.at (c : Curve) (u : Rat) : Place :=
  let v := polyAt (polyDiff c.c) u
  let a := polyAt (polyDiff (polyDiff c.c)) u
  let t := vecUnit v
  let g := vecDot v v
  let len := c.length
  { p := polyAt c.c u, d := t
    k := if g = 0 then vecZero else vecMul (1 / g) (vecAdd a (-(vecDot a t)) t)
    q := if len = 0 then c.q0 else slerp c.q0 c.q1 (arcLength (polyDiff c.c) u / len)
    w := if len = 0 then vecZero else vecMul (rotationAngle c.q0 c.q1 / len) (rotationAxis c.q0 c.q1) }

/-- The parameter of a curve at the path length `s`. -/
def Curve.param (c : Curve) (s : Rat) : Rat :=
  let len := c.length
  if s ≤ 0 ∨ len = 0 then 0 else if len ≤ s then 1 else arcParam (polyDiff c.c) s 12 (s / len)

/-! ## LINE and ARC (R73, R74) -/

/-- The length of a LINE; a rotation angle where its ends coincide (R110). -/
def lineLength (p0 p1 : List Word) : Rat :=
  if posOf p0 = posOf p1 then rotationAngle (rotOf p0) (rotOf p1) else vecLen (vecAdd (posOf p1) (-1) (posOf p0))

/-- A place of a LINE. -/
def lineAt (p0 p1 : List Word) (s : Rat) : Place :=
  let len := lineLength p0 p1
  let d := vecAdd (posOf p1) (-1) (posOf p0)
  let q0 := rotOf p0
  let q1 := rotOf p1
  if len = 0 then ⟨posOf p0, vecZero, vecZero, q0, vecZero⟩
  else
    { p := vecAdd (posOf p0) (s / len) d, d := vecMul (1 / len) d, k := vecZero
      q := slerp q0 q1 (s / len), w := vecMul (rotationAngle q0 q1 / len) (rotationAxis q0 q1) }

/-- The circle through three points: its centre, the vectors from there to the start and a quarter turn further, and the angle in
turns from the start through the second point to the third (R74). -/
structure Circle where
  c : V3
  e : V3
  f : V3
  turns : Rat
  deriving DecidableEq, Repr

/-- The circle of an ARC (R74). -/
def circleOf (a b d : V3) : Circle :=
  let u := vecAdd b (-1) a
  let v := vecAdd d (-1) a
  let n := vecCross u v
  let nn := vecDot n n
  let c := vecAdd a (1 / (2 * nn)) (vecAdd (vecMul (vecDot u u) (vecCross v n)) (vecDot v v) (vecCross n u))
  let e := vecAdd a (-1) c
  let f := vecCross (vecUnit n) e
  let g := vecAdd d (-1) c
  let h := angleOf (vecDot e g) (ratAbs (vecDot f g))
  ⟨c, e, f, if vecDot f g < 0 then 1 - h else h⟩

/-- The length of an ARC. -/
def arcLen (k : Circle) : Rat := 2 * piRat * vecLen k.e * k.turns

/-- A place of an ARC. -/
def arcAt (k : Circle) (q0 q1 : Q4) (s : Rat) : Place :=
  let r := vecLen k.e
  let len := arcLen k
  if len = 0 then ⟨vecAdd k.c 1 k.e, vecZero, vecZero, q0, vecZero⟩
  else
    let g := sinCos (s / (2 * piRat * r))
    let x := vecAdd (vecMul g.2 k.e) g.1 k.f
    let y := vecAdd (vecMul (-g.1) k.e) g.2 k.f
    { p := vecAdd k.c 1 x, d := vecMul (1 / r) y, k := vecMul (-1 / (r * r)) x
      q := slerp q0 q1 (s / len), w := vecMul (rotationAngle q0 q1 / len) (rotationAxis q0 q1) }

/-! ## Pieces -/

/-- The curve of a SPLINE (R75). -/
def splineCurve (p0 p1 d0 dd0 d1 dd1 : List Word) : Curve :=
  ⟨hermite (posOf p0) (posOf d0) (posOf dd0) (posOf p1) (posOf d1) (posOf dd1), rotOf p0, rotOf p1⟩

/-- The length of a piece that is no blend, in its own unit (R110). -/
def pieceLength : Geo → Rat
  | .line _ p0 p1 => lineLength p0 p1
  | .arc _ p0 via p1 => arcLen (circleOf (posOf p0) (posOf via) (posOf p1))
  | .spline _ p0 p1 d0 dd0 d1 dd1 => (splineCurve p0 p1 d0 dd0 d1 dd1).length
  | .joint _ _ => 1
  | .blend _ _ _ => 0

/-- A place of a piece that is no blend, in its frame. -/
def pieceAt (g : Geo) (s : Rat) : Place :=
  match g with
  | .line _ p0 p1 => lineAt p0 p1 s
  | .arc _ p0 via p1 => arcAt (circleOf (posOf p0) (posOf via) (posOf p1)) (rotOf p0) (rotOf p1) s
  | .spline _ p0 p1 d0 dd0 d1 dd1 => let c := splineCurve p0 p1 d0 dd0 d1 dd1; c.at (c.param s)
  | .joint _ _ | .blend _ _ _ => ⟨vecZero, vecZero, vecZero, ⟨1, 0, 0, 0⟩, vecZero⟩

/-- WORLD as a frame. -/
def worldFrame : Frame := ⟨0, [0, 0, 0, BitVec.ofNat 36 (2 ^ 34), 0, 0, 0]⟩

/-- The frame in which a piece that is no blend is given. -/
def pieceFrame : Geo → Frame
  | .line f _ _ | .arc f _ _ _ | .spline f _ _ _ _ _ _ => f
  | .joint _ _ | .blend _ _ _ => worldFrame

/-- Two pieces are given in one frame: PART, wherever it is, or frames of one pose (R72). -/
def sameFrame (f g : Frame) : Bool := f.id == g.id && (f.id == 2 || f.pose == g.pose)

/-- The frame of a blend: that of its two pieces, or WORLD. -/
def blendFrame (a b : Geo) : Frame := if sameFrame (pieceFrame a) (pieceFrame b) then pieceFrame a else worldFrame

/-- A place of one of the two pieces of a junction, in the frame of the junction. -/
def junctionAt (a b g : Geo) (s : Rat) : Place :=
  if sameFrame (pieceFrame a) (pieceFrame b) then pieceAt g s else (pieceAt g s).via (pieceFrame g).pose

/-- The curve of a blend of half-length `d` (R122). -/
def blendCurve (a b : Geo) (d : Rat) : Curve :=
  let pa := junctionAt a b a (pieceLength a - d)
  let pb := junctionAt a b b d
  ⟨hermite pa.p (vecMul (2 * d) pa.d) (vecMul (4 * d * d) pa.k) pb.p (vecMul (2 * d) pb.d) (vecMul (4 * d * d) pb.k),
    pa.q, quatNear pa.q pb.q⟩

/-- The length of a piece, in its own unit (R110). -/
def geoLength : Geo → Rat
  | .blend a b d => (blendCurve a b d).length
  | g => pieceLength g

/-- The frame of a piece. -/
def geoFrame : Geo → Frame
  | .blend a b _ => blendFrame a b
  | g => pieceFrame g

/-- A place of a piece in WORLD, with the pose of the PART frame. -/
def geoAt (part : List Word) (g : Geo) (s : Rat) : Place :=
  let f := geoFrame g
  let c := match g with
    | .blend a b d => let c := blendCurve a b d; c.at (c.param s)
    | g => pieceAt g s
  if f.id = 0 then c else c.via (if f.id = 2 then part else f.pose)

/-- The tool-centre pose at a place (R137). -/
def placePose (c : Place) : List Word := poseWords c.p c.q

/-- Linear and angular velocity and acceleration, 12 words, at a path speed and path acceleration (R123, R137). -/
def placeMotion (c : Place) (v acc : Rat) : List Word :=
  vecWords 24 (vecMul v c.d) ++ vecWords 24 (vecMul v c.w) ++ vecWords 16 (vecAdd (vecMul acc c.d) (v * v) c.k)
    ++ vecWords 16 (vecMul acc c.w)

/-! ## Junctions (R120 to R122) -/

/-- The unit tangents of two pieces at their junction. -/
def tangents (a b : Geo) : V3 × V3 :=
  (vecUnit (junctionAt a b a (pieceLength a)).d, vecUnit (junctionAt a b b 0).d)

/-- sin of half the turning angle φ of a junction (R121). -/
def halfTurnSin (a b : Geo) : Rat :=
  let t := tangents a b
  if vecCross t.1 t.2 = vecZero ∧ 0 < vecDot t.1 t.2 then 0
  else
    let d := vecAdd t.2 (-1) t.1
    root (vecDot d d / 4)

/-- The turning angle is at most 0.47 turn (R120). -/
def turnOk (a b : Geo) : Bool := let t := tangents a b; decide ((sinCos (47 / 100)).2 ≤ vecDot t.1 t.2)

/-- Rate of rotation of a piece in turns per metre: the same all along it (R73, R115). -/
def rotationRate (g : Geo) : Rat := vecLen (pieceAt g 0).w

/-- How far the orientation at the midpoint of a blend lies from the programmed one at the junction, in turns (R121). -/
def blendRotation (a b : Geo) (d : Rat) : Rat :=
  let m := ((blendCurve a b d).at (1 / 2)).q
  rotationAngle m (quatNear m (junctionAt a b a (pieceLength a)).q)

/-- The path length of the midpoint u = 0.5 of a blend (R122). -/
def blendMid (a b : Geo) (d : Rat) : Rat := arcLength (polyDiff (blendCurve a b d).c) (1 / 2)

end Sys2Proof.Machine
end

