-- ==== Sys2Proof/Machine/Stitch.lean ====
section
/-! DEFINITION. The decoding of Stitches: the header, the checks in the order of R534, and the modal state that a Stitch
leaves (R65 to R92, R108). -/

namespace Sys2Proof.Machine

/-- The number in the low `k` bits from bit `lo` of a word. -/
def bitsAt (w : Word) (lo k : Nat) : Nat := w.toNat / 2 ^ lo % 2 ^ k

/-- The opcode of a code (R68). -/
def opcodeOf : Nat → Option Opcode
  | 0x00 => some .nop | 0x01 => some .line | 0x02 => some .arc | 0x03 => some .spline | 0x04 => some .joint
  | 0x05 => some .dwell | 0x06 => some .frame | 0x07 => some .limit | 0x08 => some .blend | 0x09 => some .couple
  | 0x10 => some .proc | 0x11 => some .procramp | 0x12 => some .trig | 0x18 => some .sync | 0x19 => some .zoneEnter
  | 0x1A => some .zoneLeave | 0x1B => some .waitio | 0x1C => some .setio | 0x20 => some .layer | 0x21 => some .mark
  | 0x22 => some .calibApply | 0x3F => some .finish
  | _ => none

/-- The operand counts that R68 allows for an opcode, smallest and largest, and whether only those two are. -/
def countOk (op : Opcode) (n : Nat) : Bool :=
  match op with
  | .nop => true
  | .line => n == 8
  | .arc => n == 11
  | .spline => n == 14
  | .joint => decide (3 ≤ n) && decide (n ≤ 18)
  | .dwell | .couple | .zoneLeave | .mark => n == 1
  | .frame => n == 1 || n == 8
  | .limit | .blend | .zoneEnter | .setio | .layer => n == 2
  | .proc => n == 2 || n == 3
  | .procramp | .trig | .sync | .waitio => n == 3
  | .calibApply | .finish => n == 0

/-- A Stitch that moves the arm (R68). -/
def isMotion : Opcode → Bool
  | .line | .arc | .spline | .joint => true
  | _ => false

/-- An opcode of the HL4060 subset (R68). -/
def inHl4060 : Opcode → Bool
  | .couple | .procramp | .zoneEnter | .zoneLeave | .layer | .calibApply => false
  | _ => true

/-- A Stitch that forces an exact stop at its junction; ZONE_ENTER is left to R129 (R68). -/
def breaksBlend : Opcode → Bool
  | .dwell | .couple | .sync | .waitio | .finish => true
  | _ => false

/-- The tables of an arm. -/
def State.armTab (s : State) (a : Nat) : ArmTab := nth s.tab.arms a ⟨[], [], [], [], [], [], [], [], [], poseId, poseId, poseId, 0⟩

/-- The planner of plane `q`. -/
def State.pln (s : State) (q : Plane) : PlnSt := (s.rep q).pln

/-- The state with the planner of plane `q` replaced. -/
def State.setPln (s : State) (q : Plane) (p : PlnSt) : State := s.setRep q { s.rep q with pln := p }

/-- The planner of arm `a`. -/
def State.arm (s : State) (q : Plane) (a : Nat) : Arm := nth (s.pln q).arms a Arm.initial

/-- The state with the planner of arm `a` replaced. -/
def State.setArm (s : State) (q : Plane) (a : Nat) (x : Arm) : State :=
  s.setPln q { s.pln q with arms := (s.pln q).arms.set a x }

/-- The axis of bit `i` of a JOINT mask: a joint of the arm, or an external axis assigned to it (R76). -/
def State.jointAxis (s : State) (a i : Nat) : Option AxisTab :=
  let t := s.armTab a
  if i < 8 then t.joints[i]?
  else match t.ext[i - 8]? with
    | some k => nth s.tab.aux (k - 128) none
    | none => none

/-- A quaternion is close enough to norm 1 (R71). -/
def quatOk (q : List Word) : Bool :=
  let n := (q.map (fun w => w.toInt * w.toInt)).sum - 2 ^ 68
  decide (-(2 : Int) ^ 52 ≤ n) && decide (n ≤ 2 ^ 52)

/-- Of q and −q, the one nearer to `p` (R71), brought to norm 1. -/
def quatFor (p q : List Word) : List Word :=
  let u := unitQuat q
  if ((p.zip u).map (fun e => e.1.toInt * e.2.toInt)).sum < 0 then u.map (fun w => -w) else u

/-- A word of an operand list; 0 beyond its end. -/
def opW (ws : List Word) (i : Nat) : Word := nth ws (i - 1) 0

/-- Words W`i`..W`k` of an operand list. -/
def opWs (ws : List Word) (i k : Nat) : List Word := (List.range (k + 1 - i)).map (fun n => opW ws (i + n))

/-! ## Frames (R72, R80) -/

/-- The last published position of axis `i` (R161). -/
def axisPos (q : Plane) (i : Nat) (s : State) : Word :=
  s.sw q ((s.act q R.SLV_RES_BASE).toNat / 4096 * 4096 + 2048 * s.get q R.SLV_RES_SEL F.SLV_RES_SEL_SEL + 8 * i)

/-- The calibration in force, as far as the kinematics take it: each value with its parameter entry; none for the nominal
kinematics (R181, R193, R195). DESIGN CHOICE, log 41. -/
def calWords (q : Plane) (s : State) : List Word :=
  if s.rd q R.EST_CAL_GEN = 0 then []
  else
    let b := (s.rep q).est.base
    let t := (s.sw q (b + 4098)).toNat
    (List.range (bitsAt (s.sw q (b + 4107)) 0 11)).flatMap (fun i => s.sw q (b + i) :: s.swords q (t + 6 * i) 6)

/-- The arm to which an auxiliary axis is assigned, with its place among e0..e7 (R531). -/
def auxOwner (k : Nat) (s : State) : Option (Nat × Nat) :=
  (List.range 16).findSome? (fun a => (((s.armTab a).ext).findIdx? (· == 128 + k)).map (fun i => (a, i)))

/-- The commanded position of auxiliary axis `k` in the target image (R531). -/
def auxPos (q : Plane) (k : Nat) (s : State) : Word :=
  match auxOwner k s with
  | some (b, i) => nth (s.arm q b).joints (8 + i) 0
  | none => axisPos q (128 + k) s

/-- The pose of the arm's PART frame (R72, R80): it follows the commanded positions of its axes under COUPLE. -/
def partNow (q : Plane) (a : Nat) (s : State) : List Word :=
  let ar := s.arm q a
  if ar.coupled = 0 then ar.part
  else Config.partPose (calWords q s) (s.armTab a).part ar.coupled ((List.range 32).map (fun k => auxPos q k s))

/-- The frame that the modal state selects, with its pose (R72); `start` is the programmed start pose of the motion Stitch. -/
def frameOf (q : Plane) (a : Nat) (m : Modal) (start : List Word) (s : State) : Frame :=
  match m.frame with
  | 0 => ⟨0, poseId⟩
  | 1 => ⟨1, Config.basePose a (calWords q s) (s.armTab a).base⟩
  | 2 => ⟨2, partNow q a s⟩
  | 3 => ⟨3, start⟩
  | f => ⟨f, (nth m.users (f - 8) none).getD poseId⟩

/-- A pose of WORLD, as words of a frame. -/
def inFrame (fr : Frame) (p : List Word) : List Word := if fr.id = 0 then p else relative fr.pose p

/-- A pose of a frame, in WORLD. -/
def toWorld (fr : Frame) (p : List Word) : List Word := if fr.id = 0 then p else compose fr.pose p

/-- The programmed start pose in WORLD of the next motion Stitch: the end of the one before it, of the tool now in force.
DEDUCED, log 131. -/
def startPose (ar : Arm) : List Word :=
  if ar.modal.tool = ar.endTool then ar.endPose else compose (compose ar.endPose (inverse ar.endTool)) ar.modal.tool

/-- The frame and the words of the pose with which a Cartesian piece ends. -/
def geoEnd : Geo → Option (Frame × List Word)
  | .line f _ p1 | .arc f _ _ p1 | .spline f _ p1 _ _ _ _ => some (f, p1)
  | .joint _ _ | .blend _ _ _ => none

/-- The programmed start pose in a frame: the words themselves where the motion Stitch before was programmed in the same frame,
PART wherever it has moved to (R72). DEDUCED, log 131. -/
def startIn (fr : Frame) (ar : Arm) : List Word :=
  match ar.lastGeo.bind geoEnd with
  | some (f, p1) => if sameFrame f fr && decide (ar.modal.tool = ar.endTool) then p1 else inFrame fr (startPose ar)
  | none => inFrame fr (startPose ar)

/-- Squared distance of two points, in LSB². -/
def dist2 (p q : List Word) : Int := ((p.zip q).map (fun e => (e.1.toInt - e.2.toInt) * (e.1.toInt - e.2.toInt))).sum

/-- The cross product of two integer vectors. -/
def cross3 (u v : List Int) : List Int :=
  let g := fun (l : List Int) i => nth l i 0
  [g u 1 * g v 2 - g u 2 * g v 1, g u 2 * g v 0 - g u 0 * g v 2, g u 0 * g v 1 - g u 1 * g v 0]

/-- An ARC that has no circle, points closer than 2^10 LSB, or a radius above 32 m (R74).  The radius R of the circle
through three points has R² = a² b² c² / (4 |u × v|²). -/
def arcDegenerate (p0 via p1 : List Word) : Bool :=
  let a2 := dist2 p0 via
  let b2 := dist2 via p1
  let c2 := dist2 p0 p1
  let diff := fun (x y : List Word) => (x.zip y).map (fun e => e.2.toInt - e.1.toInt)
  let n2 := ((cross3 (diff p0 via) (diff p0 p1)).map (fun x => x * x)).sum
  decide (a2 ≤ 2 ^ 20) || decide (b2 ≤ 2 ^ 20) || decide (c2 ≤ 2 ^ 20) || decide (4 * n2 * 2 ^ 70 < a2 * b2 * c2)

/-- Bits of a word outside a mask are reserved (R73 on). DEDUCED, log 42. -/
def resvOk (w : Word) (mask : Nat) : Bool := w.toNat &&& (2 ^ 36 - 1 - mask) == 0

/-- The bits of a DI, DO or station bit that W1 of a WAITIO or SETIO names (R89). -/
def ioBits (out : Bool) (w : Word) : Nat :=
  if bitsAt w 34 2 = 0 then 2 ^ 35 + 2 ^ 34 + (if out then 15 else 31)
  else 2 ^ 35 + 2 ^ 34 + 2 ^ 33 + 0x3F * 2 ^ 24 + 0xFFFF * 2 ^ 8 + 0x3F

/-- The station bit of an arm that W1 names (R89). -/
def stationBit (l : List StationBit) (w : Word) : Option StationBit :=
  l.find? (fun b => b.channel == bitsAt w 33 1 && b.station == bitsAt w 24 6 && b.word == bitsAt w 8 16
    && b.bit == bitsAt w 0 6)

/-- The check of W1 of a WAITIO or SETIO: the fault code, or 0 (R89). -/
def ioCheck (out : Bool) (a : Nat) (w : Word) (s : State) : Nat :=
  let t := s.armTab a
  let k := bitsAt w 34 2
  if 2 ≤ k ∨ resvOk w (ioBits out w) = false ∨ (k = 1 ∧ 36 ≤ bitsAt w 0 6) then 4
  else if k = 0 then
    (if (if out then t.dos else t.dis).contains (if out then bitsAt w 0 4 else bitsAt w 0 5) then 0 else 8)
  else if (stationBit (if out then t.outs else t.ins) w).isSome then 0 else 8

/-- The limits and tolerances of a JOINT target (R76). DEDUCED, log 44. -/
def jointTargets (a : Nat) (ws : List Word) (s : State) : List (Nat × Word × Option AxisTab) :=
  ((bitsOf 16 (bitsAt (opW ws 1) 0 16)).zipIdx).map (fun e => (e.1, opW ws (3 + e.2), s.jointAxis a e.1))

/-- A signed word lies between two. -/
def between (lo x hi : Word) : Bool := decide (lo.toInt ≤ x.toInt) && decide (x.toInt ≤ hi.toInt)

/-- A Q36 value in 0..1. -/
def unitQ36 (w : Word) : Bool := decide (0 ≤ w.toInt) && decide (w.toInt ≤ 2 ^ 34)

/-- The PROC or PROCRAMP of a loop with FEED_LOCK has had its reference, in the planner or in look-ahead (R83). -/
def hasRef (pl : PlnSt) (ar : Arm) (loop : Nat) : Bool :=
  ((nth pl.loops loop Loop.initial).ref).isSome
    || ar.ahead.any (fun t => t.op == .proc && t.feedLock && t.fault == 0 && bitsAt (opW t.ops 1) 0 5 == loop)

/-- The fault that the operand checks of an opcode find, 0 for none (R534, 3). DEDUCED, log 42. -/
def operandFault (q : Plane) (a : Nat) (ar : Arm) (op : Opcode) (n : Nat) (lock : Bool) (ws : List Word) (s : State) : Nat :=
  let t := s.armTab a
  let w1 := opW ws 1
  match op with
  | .nop | .calibApply | .finish | .mark | .dwell => 0
  | .line => if !quatOk (opWs ws 4 7) || decide ((opW ws 8).toInt < 0) then 4 else 0
  | .arc =>
    if !quatOk (opWs ws 7 10) || decide ((opW ws 11).toInt < 0) then 4
    else
      let fr := frameOf q a ar.modal (startPose ar) s
      if arcDegenerate ((startIn fr ar).take 3) (opWs ws 1 3) (opWs ws 4 6) then 5 else 0
  | .spline => if !quatOk (opWs ws 10 13) || decide ((opW ws 14).toInt < 0) then 4 else 0
  | .joint =>
    let ts := jointTargets a ws s
    if !resvOk w1 0xFFFF || !unitQ36 (opW ws 2) then 4
    else if n ≠ 2 + ts.length ∨ ts = [] then 2
    else if ts.any (fun e => e.2.2.isNone) then 4
    else if ts.any (fun e => match e.2.2 with
      | some x => !between x.lo e.2.1 x.hi
      | none => false) then 0x12 else 0
  | .frame =>
    let o := bitsAt w1 32 4
    let id := bitsAt w1 0 5
    if 3 ≤ o then 4
    else if n ≠ (if o = 0 then 1 else 8) then 2
    else if !resvOk w1 (15 * 2 ^ 32 + 31) then 4
    else if o = 0 then
      (if 16 ≤ id ∨ (4 ≤ id ∧ id < 8) then 4 else if 8 ≤ id ∧ (nth ar.modal.users (id - 8) none).isNone then 6 else 0)
    else if (if o = 1 then decide (8 ≤ id) && decide (id < 16) else id == 0) && quatOk (opWs ws 5 8) then 0 else 4
  | .limit =>
    let c := bitsAt w1 0 8
    if !resvOk w1 0xFF || c == 0 || decide (6 < c) then 4
    else if c = 3 then (if opW ws 2 = 0 then 4 else 0)
    else if (opW ws 2).toInt ≤ 0 then 4 else 0
  | .blend => if (opW ws 1).toInt < 0 ∨ (opW ws 2).toInt < 0 then 4 else 0
  | .couple =>
    let m := bitsAt w1 0 32
    match bitsAt w1 32 4 with
    | 0 => if m = 0 then 0 else 4
    | 1 => if m &&& (2 ^ 32 - 1 - t.chain) ≠ 0 then 0x0F else 0
    | _ => 4
  | .proc =>
    let want := if lock then 3 else 2
    if !resvOk w1 31 || !unitQ36 (opW ws 2) then 4
    else if n ≠ want then 2
    else if lock && decide ((opW ws 3).toInt ≤ 0) then 4
    else if t.loops.contains (bitsAt w1 0 5) then 0 else 7
  | .procramp =>
    let l := bitsAt w1 0 5
    if !resvOk w1 (2 ^ 35 + 31) || !unitQ36 (opW ws 2) || (bitN w1.toNat 35 && decide ((opW ws 3).toInt < 0)) then 4
    else if !t.loops.contains l then 7
    else if lock && !hasRef (s.rep q).pln ar l then 4 else 0
  | .trig =>
    let u := bitsAt w1 0 4
    if !resvOk w1 0xFF || decide (4 ≤ bitsAt w1 4 4) || decide ((opW ws 2).toInt < 0) then 4
    else if s.dg (R.CMP_CFG u) F.CMP_CFG_KIND = 1 ∧ s.dg (R.CMP_CFG u) F.CMP_CFG_ARM = a then 0 else 9
  | .sync =>
    if !bitN (bitsAt w1 0 16) a || decide (3 ≤ bitsAt w1 32 4) || !resvOk w1 (15 * 2 ^ 32 + 0xFFFF)
      || !resvOk (opW ws 2) 0xFFFF then 4 else 0
  | .zoneEnter | .zoneLeave => if !resvOk w1 0x7F || decide (80 ≤ bitsAt w1 0 7) then 4 else 0
  | .waitio =>
    if ioCheck false a w1 s = 4 || !resvOk (opW ws 2) 3 then 4 else ioCheck false a w1 s
  | .setio => if ioCheck true a w1 s = 4 || !resvOk (opW ws 2) 1 then 4 else ioCheck true a w1 s
  | .layer => if resvOk (opW ws 2) 1 then 0 else 4

/-- A value held to a ceiling, as numbers of its format: unsigned for JERK_MAX, signed otherwise (R78). -/
def ceilTo (code : Nat) (v c : Word) : Word :=
  if code = 3 then (if c.toNat < v.toNat then c else v) else if c.toInt < v.toInt then c else v

/-- The modal state after a Stitch that passed its checks (R70, R72, R77 to R80). -/
def modalAfter (a : Nat) (op : Opcode) (ws : List Word) (m : Modal) (s : State) : Modal :=
  let w1 := opW ws 1
  match op with
  | .frame =>
    match bitsAt w1 32 4 with
    | 0 => { m with frame := bitsAt w1 0 5 }
    | 1 => { m with users := m.users.set (bitsAt w1 0 5 - 8) (some (opWs ws 2 4 ++ unitQuat (opWs ws 5 8))) }
    | _ => { m with tool := opWs ws 2 4 ++ unitQuat (opWs ws 5 8) }
  | .limit =>
    let c := bitsAt w1 0 8
    { m with limits := m.limits.set (c - 1) (ceilTo c (opW ws 2) (nth (s.armTab a).ceilings (c - 1) (opW ws 2))) }
  | .blend => { m with tolPos := opW ws 1, tolOri := opW ws 2 }
  | .couple => { m with couple := bitsAt w1 0 32 }
  | _ => m

/-- A programmed speed, DEFAULT_SPEED where 0 selects it, above SPEED_MAX, or a limit above its ceiling (R73, R78). -/
def clampsAt (a : Nat) (op : Opcode) (ws : List Word) (m : Modal) (s : State) : Bool :=
  let speed := fun (w : Word) => decide ((nth m.limits 0 0).toInt < (if w = 0 then nth m.limits 5 0 else w).toInt)
  match op with
  | .line => speed (opW ws 8)
  | .arc => speed (opW ws 11)
  | .spline => speed (opW ws 14)
  | .limit =>
    let c := bitsAt (opW ws 1) 0 8
    decide (ceilTo c (opW ws 2) (nth (s.armTab a).ceilings (c - 1) (opW ws 2)) ≠ opW ws 2)
  | _ => false

/-- The Stitch at a header word with its operands, checked in the order of R66, R108 and R534; the modal state that it leaves.
DEDUCED, log 42. -/
def decodeStitch (q : Plane) (a : Nat) (ar : Arm) (pos : Nat) (h : Word) (ws : List Word) (s : State) : Stitch × Modal :=
  let n := bitsAt h 24 6
  let lock := bitN h.toNat 21
  let mk := fun (op : Opcode) (fault : Nat) (m : Modal) =>
    (⟨op, pos, n, bitsAt h 0 16, bitN h.toNat 23, bitN h.toNat 22, lock, ws, fault, m⟩ : Stitch)
  match opcodeOf (bitsAt h 30 6) with
  | none => (mk .nop 1 ar.modal, ar.modal)
  | some op =>
    let f := if !countOk op n then 2
      else if bitsAt h 16 5 ≠ 0 then 3
      else if s.is q (R.PLN_Q_CFG a) F.PLN_Q_CFG_HL4060 && !inHl4060 op then 0x10
      else operandFault q a ar op n lock ws s
    let m := if f = 0 then modalAfter a op ws ar.modal s else ar.modal
    (mk op f m, m)

end Sys2Proof.Machine
end

