-- ==== Sys2Proof/Machine/Pricking.lean ====
section
/-! DEFINITION. The Pricking container: header, sections, the checks of ACTIVATE and of an estimation job, and the correctly
rounded functions of the solver array (R149 to R157, R167, R170, R533). -/

namespace Sys2Proof.Machine

/-! ## Header and sections (R149, R151) -/

/-- Word `i` of a container. -/
def hw (ws : List Word) (i : Nat) : Word := nth ws i 0

/-- LENGTH (H1). -/
def hLength (ws : List Word) : Nat := bitsAt (hw ws 1) 0 32
/-- KIND (H0): 1 MOTION, 2 DYNAMICS, 3 ESTIMATION. -/
def hKind (ws : List Word) : Nat := bitsAt (hw ws 0) 8 8
/-- NCOL (H2). -/
def hNcol (ws : List Word) : Nat := bitsAt (hw ws 2) 25 11
/-- NROW (H2). -/
def hNrow (ws : List Word) : Nat := bitsAt (hw ws 2) 11 14
/-- ITER_MAX (H3). -/
def hIterMax (ws : List Word) : Nat := bitsAt (hw ws 3) 32 4
/-- NSEC (H3). -/
def hNsec (ws : List Word) : Nat := bitsAt (hw ws 3) 24 8
/-- PRO_LEN, BODY_LEN and EPI_LEN (H4..H6). -/
def hPro (ws : List Word) : Nat := bitsAt (hw ws 4) 0 21
/-- BODY_LEN. -/
def hBody (ws : List Word) : Nat := bitsAt (hw ws 5) 0 21
/-- EPI_LEN. -/
def hEpi (ws : List Word) : Nat := bitsAt (hw ws 6) 0 21
/-- The number of operations. -/
def hOps (ws : List Word) : Nat := hPro ws + hBody ws + hEpi ws

/-- A region base that marks the region as absent (R139). -/
def absentBase : Nat := 0x3FFFFF

/-- The regions of R150 with their header words and lengths. -/
inductive Region where
  | iterate | meas | target | weight | damp | param | prev | cyc
  deriving DecidableEq, Repr

/-- Every region. -/
def Region.all : List Region := [.iterate, .meas, .target, .weight, .damp, .param, .prev, .cyc]

/-- The header word of a region's base (R149). -/
def Region.word : Region → Nat
  | .iterate => 11 | .meas => 12 | .target => 13 | .weight => 14 | .damp => 15 | .param => 17 | .prev => 18 | .cyc => 19

/-- The base of a region. -/
def regionBase (ws : List Word) (r : Region) : Nat := bitsAt (hw ws r.word) 0 22

/-- The words of a region (R150). -/
def regionLen (ws : List Word) : Region → Nat
  | .iterate => 160 | .meas => 160 | .target => 1216 | .weight => hNrow ws | .damp => 160 | .param => 1264
  | .prev => 1280 | .cyc => 5

/-- The entry of section table row `k`: TYPE, SRAM address, offset and length. -/
def secEntry (ws : List Word) (k : Nat) : Nat × Nat × Nat × Nat :=
  (bitsAt (hw ws (24 + 3 * k)) 28 8, bitsAt (hw ws (24 + 3 * k)) 0 22, (hw ws (25 + 3 * k)).toNat, (hw ws (26 + 3 * k)).toNat)

/-- The section table. -/
def sections (ws : List Word) : List (Nat × Nat × Nat × Nat) := (List.range (hNsec ws)).map (secEntry ws)

/-- The section of a type, if the Pricking has it. -/
def prickSec (ws : List Word) (t : Nat) : Option (Nat × Nat × Nat × Nat) := (sections ws).find? (fun e => e.1 == t)

/-- The words of a section; none of an absent one. -/
def secWords (ws : List Word) (t : Nat) : List Word :=
  match prickSec ws t with
  | some e => (ws.drop e.2.2.1).take e.2.2.2
  | none => []

/-- Word `i` of a section. -/
def secWord (ws : List Word) (t i : Nat) : Word :=
  match prickSec ws t with
  | some e => hw ws (e.2.2.1 + i)
  | none => 0

/-- The SRAM address of a section. -/
def secAddr (ws : List Word) (t : Nat) : Nat :=
  match prickSec ws t with
  | some e => e.2.1
  | none => 0

/-- ORDER .. RANGE (R151). -/
def sORDER : Nat := 1
/-- PATTERN. -/
def sPATTERN : Nat := 2
/-- SHIFT. -/
def sSHIFT : Nat := 3
/-- TAU. -/
def sTAU : Nat := 4
/-- LAMBDA. -/
def sLAMBDA : Nat := 5
/-- ROWS. -/
def sROWS : Nat := 6
/-- CONST. -/
def sCONST : Nat := 7
/-- LIVE. -/
def sLIVE : Nat := 8
/-- PROGRAM. -/
def sPROGRAM : Nat := 9
/-- RANGE. -/
def sRANGE : Nat := 10

/-! ## Checks (R167, R533) -/

/-- PATTERN: per column a count, then as many row positions above the column and below NCOL (R533). -/
def patternOk (ncol : Nat) : Nat → Nat → List Word → Bool
  | 0, _, _ => false
  | f + 1, col, ws =>
    if col = ncol then ws.isEmpty
    else match ws with
      | [] => false
      | k :: t =>
        decide (k.toNat ≤ t.length) && (t.take k.toNat).all (fun r => decide (col < r.toNat) && decide (r.toNat < ncol))
          && patternOk ncol f (col + 1) (t.drop k.toNat)

/-- The length of a section agrees with the header (R533). -/
def secLenOk (ws : List Word) (e : Nat × Nat × Nat × Nat) : Bool :=
  let n := e.2.2.2
  match e.1 with
  | 1 | 3 | 4 | 5 => n == hNcol ws
  | 2 => patternOk (hNcol ws) (hNcol ws + 1) 0 ((ws.drop e.2.2.1).take n)
  | 6 => n == hNrow ws
  | 8 => n % 4 == 0 && decide (n ≤ 128)
  | 9 => n == 3 * hOps ws
  | 10 => n % 3 == 0
  | _ => true

/-- The section types a kind requires (R151). -/
def required (kind : Nat) : List Nat := if kind = 1 then [1, 2, 3, 4, 5, 6, 9, 10] else [9]

/-- Container, sections and lengths (check 0x5 of R167). -/
def shapeOk (ws : List Word) : Bool :=
  let es := sections ws
  let fin := hLength ws - 1
  decide (24 + 3 * hNsec ws ≤ fin) && es.all (fun e => decide (e.2.2.1 + e.2.2.2 ≤ fin) && decide (1 ≤ e.1) && decide (e.1 ≤ 10))
    && decide ((es.map (·.1)).Nodup) && (required (hKind ws)).all (fun t => (es.map (·.1)).contains t) && es.all (secLenOk ws)

/-- Two ranges of addresses, as base and length, overlap. -/
def overlaps (a b : Nat × Nat) : Bool := decide (a.1 < b.1 + b.2) && decide (b.1 < a.1 + a.2)

/-- The PROGRAM of a Pricking in SRAM. -/
def progSpan (ws : List Word) : Nat × Nat := (secAddr ws sPROGRAM, 3 * hOps ws)

/-- The regions that a job writes: ITERATE for MOTION alone (R150). -/
def usedRegions (ws : List Word) : List Region :=
  Region.all.filter (fun r => regionBase ws r != absentBase && !(r == .iterate && hKind ws != 1))

/-- Regions, CONST and PROGRAM in the motion partition, and PROGRAM clear of the regions and of the other Prickings' PROGRAMs
(check 0x6 of R167, R139). -/
def placesOk (ws : List Word) (others : List (Nat × Nat)) : Bool :=
  let fits := fun (p : Nat × Nat) => decide (p.1 + p.2 ≤ 0x280000)
  let spans := (usedRegions ws).map (fun r => (regionBase ws r, regionLen ws r))
  spans.all fits && fits (progSpan ws) && fits (secAddr ws sCONST, (secWords ws sCONST).length)
    && !(spans ++ others).any (overlaps (progSpan ws))

/-- The three words of operation `i`. -/
def opWords (ws : List Word) (i : Nat) : Word × Word × Word :=
  (secWord ws sPROGRAM (3 * i), secWord ws sPROGRAM (3 * i + 1), secWord ws sPROGRAM (3 * i + 2))

/-- The code of an operation. -/
def opCode (o : Word × Word × Word) : Nat := bitsAt o.1 30 6

/-- One operation passes the load check (check 0x7 of R167). -/
def opOk (ws : List Word) (o : Word × Word × Word) : Bool :=
  let c := opCode o
  let dst := bitsAt o.1 0 22
  let col := bitsAt o.2.1 26 10
  (decide (c ≤ 0x12) || c == 0x3F)
    && !(c == 0x12 && (decide (1280 ≤ dst) || !(if hKind ws = 1 then decide (dst % 8 ≤ 2) else dst % 8 == 3 || dst % 8 == 4)))
    && !((c == 0x07 || (c == 0x05 && bitsAt o.2.2 29 1 == 1)) && decide (hNcol ws ≤ col))

/-- The operations, and the ends of body, epilogue and DYNAMICS program (check 0x7 of R167). -/
def opsOk (ws : List Word) : Bool :=
  let code := fun i => opCode (opWords ws i)
  let bodyEnds := decide (0 < hBody ws) && code (hPro ws + hBody ws - 1) == 0x11
  (List.range (hOps ws)).all (fun i => opOk ws (opWords ws i))
    && (if hKind ws = 1 then bodyEnds else hBody ws == 0 || bodyEnds)
    && (if hKind ws = 1 then decide (0 < hEpi ws) else decide (0 < hOps ws)) && code (hOps ws - 1) == 0x3F

/-- NCOL, NROW and ITER_MAX (check 0x8 of R167); `axes` is the number of declared axes. -/
def countsOk (ws : List Word) (axes : Nat) : Bool :=
  decide (1 ≤ hNcol ws) && decide (hNcol ws ≤ 1024) && hNcol ws == axes
    && (if hKind ws = 1 then decide (1 ≤ hIterMax ws) && decide (hIterMax ws ≤ 3) else hIterMax ws == 0)

/-- The CRC of R149. -/
def containerCrcOk (ws : List Word) : Bool := bitsAt (nth ws (hLength ws - 1) 0) 0 32 == crc32 (ws.take (hLength ws - 1))

/-- H9 of the motion Pricking with H7 and H9 of the dynamics Pricking, in array clocks, exceed their window, or the motion solve
exceeds its (R170); offsets in ns. -/
def windowShort (m d : Option (List Word)) (fb solve commit : Nat) : Bool :=
  let h := fun (p : Option (List Word)) i => match p with
    | some ws => (hw ws i).toNat
    | none => 0
  let it := match m with
    | some ws => hIterMax ws
    | none => 0
  decide ((solve - fb) * 6 < (h m 7 + it * h m 8) * 5) || decide ((commit - solve) * 6 < (h m 9 + h d 7 + h d 9) * 5)

/-! ## Correctly rounded functions (R153, R155) -/

/-- π × 2^160, rounded down. -/
def piFix : Nat := 4591442807048218921384805199743311128454155024418

/-- The terms x^k / k! of cos and sin in fixed point, added up from term `k` on. -/
def cosSinSum (x : Nat) : Nat → Nat → Nat → Int → Int → Int × Int
  | 0, _, _, c, s => (c, s)
  | f + 1, k, t, c, s =>
    let t' := t * x / 2 ^ 160 / (k + 1)
    let sg : Int := if k % 4 < 2 then t else -(t : Int)
    if k % 2 = 0 then cosSinSum x f (k + 1) t' (c + sg) s else cosSinSum x f (k + 1) t' c (s + sg)

/-- cos and sin of 2π A 2^-28 in Q36, rounded half to even (R153). -/
def cosSin (a : Int) : Int × Int :=
  let t := signedOf 28 (a % 2 ^ 28).toNat
  let x := 2 * piFix * t.natAbs / 2 ^ 28
  let r := cosSinSum x 80 0 (2 ^ 160) 0 0
  (rneShift r.1 126, rneShift (if t < 0 then -r.2 else r.2) 126)

/-- The integer square root, built from `k` bits downward. -/
def isqrtBits (n : Nat) : Nat → Nat → Nat
  | 0, r => r
  | k + 1, r => if (r + 2 ^ k) * (r + 2 ^ k) ≤ n then isqrtBits n k (r + 2 ^ k) else isqrtBits n k r

/-- √n rounded to the nearest integer (R153); a tie cannot occur. -/
def sqrtRne (n : Nat) : Nat :=
  let r := isqrtBits n 50 0
  if r < n - r * r then r + 1 else r

/-- A × 2^SH / B rounded half to even, with the cases of B = 0, and whether it saturates (R153, R156). -/
def divRne (a : Int) (sh : Nat) (b : Int) : Int × Bool :=
  if b = 0 then (if 0 < a then 2 ^ 35 - 1 else if a < 0 then -2 ^ 35 else 0, true)
  else
    let x := if 0 < b then rneDiv (a * 2 ^ sh) b.natAbs else rneDiv (-(a * 2 ^ sh)) b.natAbs
    (sat36 x, over36 x)

end Sys2Proof.Machine
end

