-- ==== Sys2Proof/Machine/Adjust.lean ====
section
/-! DEFINITION. The adjustment of an estimation job: residuals, cost, normal equations, Schur complement and covariance trace (R183, R187,
R188, R191).  What a Pricking predicts for a measurement and how that depends on the unknowns is its own program, and so is the error of
its arithmetic: both are open (R177, R179). -/

namespace Sys2Proof.Machine

/-- What an adjustment works on: the Pricking, the job descriptor, the valid records, and the entries of the parameter and the point
table. -/
structure Fit where
  ws : List Word
  desc : List Word
  recs : List (List Word)
  pars : List (List Word)
  pts : List (List Word)

/-- An iterate: parameters, and three words for each point. -/
structure Iterate where
  theta : List Word
  points : List Word

/-- A word as an exact number of LSB. -/
def lsb (w : Word) : Rat := (w.toInt : Rat)

/-- The sum of a list. -/
def ratSum (l : List Rat) : Rat := l.foldl (· + ·) 0

/-- The scalar product. -/
def dotList (a b : List Rat) : Rat := ratSum ((a.zip b).map (fun e => e.1 * e.2))

/-- KIND of a record: 1 TRACKER_POINT, 2 PROBE_TOUCH, 3 CAMERA_FEATURE (R183). -/
def recKind (r : List Word) : Nat := bitsAt (nth r 0 0) 32 4

/-- POINT of a record. -/
def recPoint (r : List Word) : Nat := bitsAt (nth r 0 0) 7 13

/-- The residuals of a record by its KIND (R183). -/
def residualCount (r : List Word) : Nat :=
  match recKind r with
  | 1 => 3
  | 2 => 1
  | _ => 2

/-- The position of the point of a record at an iterate. -/
def pointOf (x : Iterate) (r : List Word) : List Word := (x.points.drop (3 * recPoint r)).take 3

/-- What the Pricking predicts for a record: the target in the sensor's frame, the probe's tip, or u and v. -/
def predicted (f : Fit) (x : Iterate) (r : List Word) (c : Nat) : Rat := Config.estPredict f.ws r x.theta (pointOf x r) c

/-- Residual `c` of a record, in LSB of its values: the measured value less the predicted one; for PROBE_TOUCH the distance of the tip
from the point along the normal of the point table (R182, R183). -/
def residual (f : Fit) (x : Iterate) (r : List Word) (c : Nat) : Rat :=
  if recKind r = 2 then
    let pt := nth f.pts (recPoint r) []
    ratSum ((List.range 3).map (fun k => lsb (nth pt (3 + k) 0) / 2 ^ 35 * (predicted f x r k - lsb (nth (pointOf x r) k 0))))
  else lsb (nth r (3 + c) 0) - predicted f x r c

/-- The derivative of a residual by an unknown: by parameter `j`, or by coordinate `j - NCOL` of the record's point. -/
def slope (f : Fit) (x : Iterate) (r : List Word) (c j : Nat) : Rat := Config.estSlope f.ws r x.theta (pointOf x r) c j

/-- The weight 1/σ² of a record (R183). -/
def weightOf (r : List Word) : Rat := 1 / ((nth r 6 0).toNat : Rat) ^ 2

/-- The weight of the prior of a parameter; 0 where it has none (R181, R187). -/
def priorWeight (p : List Word) : Rat := if nth p 5 0 = 0 then 0 else 1 / ((nth p 5 0).toNat : Rat) ^ 2

/-- A weighted sum over the residuals of records. -/
def sumOver (recs : List (List Word)) (g : List Word → Nat → Rat) : Rat :=
  ratSum (recs.map (fun r => weightOf r * ratSum ((List.range (residualCount r)).map (g r))))

/-- F(x) of R187. -/
def cost (f : Fit) (x : Iterate) : Rat :=
  sumOver f.recs (fun r c => residual f x r c ^ 2)
    + ratSum ((f.pars.zip x.theta).map (fun e => priorWeight e.1 * (lsb e.2 - lsb (nth e.1 2 0)) ^ 2))

/-- The error of the array's own arithmetic at result `i` of a pass, with the λ exponent of a trial. DESIGN CHOICE, log 65. -/
def fitError (f : Fit) (x : Iterate) (k : Option Int) (i : Nat) : Rat := Config.estError f.ws f.desc f.recs x.theta x.points k i

/-- F as a 72-bit word with LSB 2^-32 (R187). -/
def costWord (f : Fit) (x : Iterate) : Nat := min (2 ^ 72 - 1) (roundReal ((cost f x + fitError f x none 0) * 2 ^ 32)).toNat

/-! ## Factorisation (R157, R188) -/

/-- What happens to pivot number `i`: its value, and whether it was regularised. -/
abbrev PivotRule := Nat → Rat → Rat × Bool

/-- The pivot rule of R157 for a threshold and a regularisation with `s` fraction bits. -/
def pivotRule (tau lam : Word) (s : Nat) (err d : Rat) : Rat × Bool :=
  if ratAbs (d + err) * 2 ^ s < (tau.toNat : Rat) then (d + err + (lam.toNat : Rat) / 2 ^ s, true) else (d, false)

/-- The solution of a symmetric system by LDLᵀ, given its rows from the diagonal on, and whether a pivot was regularised. -/
def ldlSolve (piv : PivotRule) : Nat → Nat → List (List Rat) → List Rat → List Rat × Bool
  | n + 1, k, (a :: row) :: rest, b :: bs =>
    let p := piv k a
    let d := p.1
    let rest' := rest.zipIdx.map (fun e => (e.1.zip (row.drop e.2)).map (fun z => z.1 - nth row e.2 0 / d * z.2))
    let x := ldlSolve piv n (k + 1) rest' ((bs.zip row).map (fun z => z.1 - z.2 / d * b))
    ((b - dotList row x.1) / d :: x.1, p.2 || x.2)
  | _, _, _, _ => ([], false)

/-- The rows from the diagonal on of a symmetric matrix given by its entries. -/
def upper (n : Nat) (h : Nat → Nat → Rat) : List (List Rat) :=
  (List.range n).map (fun i => (List.range (n - i)).map (fun j => h i (i + j)))

/-- The column of elimination place `c`: ORDER, or the places in turn where the Pricking has none (R151). -/
def orderAt (ws : List Word) (c : Nat) : Nat := if (prickSec ws sORDER).isSome then (secWord ws sORDER c).toNat else c

/-- The pivot rule of the columns of a Pricking (R157, R188). -/
def columnRule (f : Fit) (x : Iterate) (k : Option Int) : PivotRule := fun c d =>
  pivotRule (secWord f.ws sTAU c) (secWord f.ws sLAMBDA c) (bitsAt (secWord f.ws sSHIFT c) 8 6) (fitError f x k (1 + c)) d

/-- The pivot rule of the point blocks: τ_pt and λ_pt of the descriptor (R180, R188); the fraction bits of their words are the
Pricking's. DESIGN CHOICE, log 65. -/
def blockRule (f : Fit) (x : Iterate) (k : Option Int) (i : Nat) : PivotRule := fun c d =>
  pivotRule (nth f.desc 13 0) (nth f.desc 14 0) (Config.estPointFraction f.ws) (fitError f x k (2048 + 3 * i + c)) d

/-! ## The step (R188) -/

/-- The factor of the damped diagonal for a λ exponent; none for no damping (R188, R191). -/
def damping (k : Option Int) : Rat :=
  match k with
  | none => 1
  | some e => 1 + (if 0 ≤ e then 2 ^ e.toNat else 1 / 2 ^ (-e).toNat)

/-- The records of point `i`. -/
def recsOf (f : Fit) (i : Nat) : List (List Word) := f.recs.filter (fun r => recPoint r == i)

/-- A diagonal entry is damped. -/
def damped (k : Option Int) (i j : Nat) (h : Rat) : Rat := if i = j then h * damping k else h

/-- H_θθ: parameters, the prior on the diagonal, damped. -/
def hTheta (f : Fit) (x : Iterate) (k : Option Int) (i j : Nat) : Rat :=
  damped k i j (sumOver f.recs (fun r c => slope f x r c i * slope f x r c j)
    + (if i = j then priorWeight (nth f.pars i []) else 0))

/-- g_θ. -/
def gTheta (f : Fit) (x : Iterate) (i : Nat) : Rat :=
  sumOver f.recs (fun r c => slope f x r c i * residual f x r c)
    + priorWeight (nth f.pars i []) * (lsb (nth x.theta i 0) - lsb (nth (nth f.pars i []) 2 0))

/-- H_pp of point `i`, damped. -/
def hPoint (f : Fit) (x : Iterate) (k : Option Int) (i a b : Nat) : Rat :=
  let n := f.pars.length
  damped k a b (sumOver (recsOf f i) (fun r c => slope f x r c (n + a) * slope f x r c (n + b)))

/-- H_pθ of point `i`. -/
def hCross (f : Fit) (x : Iterate) (i a j : Nat) : Rat :=
  sumOver (recsOf f i) (fun r c => slope f x r c (f.pars.length + a) * slope f x r c j)

/-- g_p of point `i`. -/
def gPoint (f : Fit) (x : Iterate) (i a : Nat) : Rat :=
  sumOver (recsOf f i) (fun r c => slope f x r c (f.pars.length + a) * residual f x r c)

/-- H_pp⁻¹ times a vector of point `i`, and whether a pivot was regularised. -/
def solvePoint (f : Fit) (x : Iterate) (k : Option Int) (i : Nat) (v : Nat → Rat) : List Rat × Bool :=
  ldlSolve (blockRule f x k i) 3 0 (upper 3 (hPoint f x k i)) ((List.range 3).map v)

/-- Σ over the free points of H_θp H_pp⁻¹ v, for row `a` and the vector `v` of each point. -/
def eliminated (f : Fit) (x : Iterate) (k : Option Int) (free : List Nat) (a : Nat) (v : Nat → Nat → Rat) : Rat :=
  ratSum (free.map (fun i => dotList ((List.range 3).map (fun b => hCross f x i b a)) (solvePoint f x k i (v i)).1))

/-- S of the Schur complement over the free points, in the Pricking's ORDER (R188). -/
def schur (f : Fit) (x : Iterate) (k : Option Int) (free : List Nat) : List (List Rat) :=
  upper f.pars.length (fun c e =>
    let i := orderAt f.ws c
    let j := orderAt f.ws e
    hTheta f x k i j - eliminated f x k free i (fun p b => hCross f x p b j))

/-- S z = b with the pivot rule of the columns; unknowns and right-hand side by parameter. -/
def solveSchur (f : Fit) (x : Iterate) (k : Option Int) (free : List Nat) (b : Nat → Rat) : List Rat × Bool :=
  let n := f.pars.length
  let z := ldlSolve (columnRule f x k) n 0 (schur f x k free) ((List.range n).map (fun c => b (orderAt f.ws c)))
  ((List.range n).map (fun i => nth z.1 ((List.range n).findIdx (fun c => orderAt f.ws c == i)) 0), z.2)

/-- δθ (R188). -/
def stepTheta (f : Fit) (x : Iterate) (k : Option Int) (free : List Nat) : List Rat × Bool :=
  solveSchur f x k free (fun i => -gTheta f x i + eliminated f x k free i (fun p b => gPoint f x p b))

/-- δp of point `i` (R188). -/
def stepPoint (f : Fit) (x : Iterate) (k : Option Int) (i : Nat) (dTheta : List Rat) : List Rat × Bool :=
  let z := solvePoint f x k i (fun a =>
    gPoint f x i a + ratSum (dTheta.zipIdx.map (fun e => hCross f x i a e.2 * e.1)))
  (z.1.map (fun d => -d), z.2)

/-- A word moved by a step, with the error of the array's arithmetic; and whether it was clamped. -/
def moveWord (w : Word) (d : Rat) : Word × Bool :=
  let n := w.toInt + roundReal d
  (wordI (sat36 n), over36 n)

/-- A trial: the iterate after the step, whether a word was clamped, and whether a pivot was regularised (R188).  `free` are the free
points that are not weak. -/
def trialAt (f : Fit) (x : Iterate) (k : Int) (free : List Nat) : Iterate × Bool × Bool :=
  let t := stepTheta f x (some k) free
  let ps := free.map (fun i => (i, stepPoint f x (some k) i t.1))
  let err := fun i => fitError f x (some k) (32768 + i)
  let th := x.theta.zipIdx.map (fun e => moveWord e.1 (nth t.1 e.2 0 + err e.2))
  let pt := x.points.zipIdx.map (fun e => match ps.find? (fun p => p.1 == e.2 / 3) with
    | some p => moveWord e.1 (nth p.2.1 (e.2 % 3) 0 + err (1024 + e.2))
    | none => (e.1, false))
  (⟨th.map (·.1), pt.map (·.1)⟩,
    th.any (·.2) || pt.any (·.2) || Config.estSat f.ws f.desc f.recs x.theta x.points k,
    t.2 || ps.any (fun p => p.2.2))

/-- The covariance trace at an iterate, without damping, and whether a pivot was regularised (R191). -/
def traceWord (f : Fit) (x : Iterate) (free : List Nat) : Word × Bool :=
  let n := f.pars.length
  let z := (List.range n).map (fun i => solveSchur f x none free (fun j => if i = j then 1 else 0))
  let t := ratSum ((List.range n).map (fun i => nth (nth z i ([], false)).1 i 0 / ((nth (nth f.pars i []) 3 0).toNat : Rat) ^ 2))
  (wordN (min (2 ^ 36 - 1) (roundReal ((t + fitError f x none 65536) * 2 ^ 24)).toNat), z.any (·.2))

end Sys2Proof.Machine
end

