-- ==== Sys2Proof/Machine/BlockFloat.lean ====
section
/-! DEFINITION. The block-floating arithmetic of the control-law engines (R8, R206 to R209). -/

namespace Sys2Proof.Machine

/-- The significant bits of an integer, sign excluded. -/
def bitLen (x : Int) : Nat :=
  let n := if x < 0 then (-x - 1).toNat else x.toNat
  if n = 0 then 0 else Nat.log2 n + 1

/-- A word of format exponent `e` as a normalised value (R206). -/
def normBf (e : Int) (w : Int) : Bf :=
  if w = 0 then ⟨0, -128, false⟩
  else
    let k := 35 - bitLen w
    ⟨w * 2 ^ k, e - k, false⟩

/-- A value as a word of format exponent `e`, rounded half to even and saturated. -/
def wordBf (e : Int) (v : Bf) : Int := sat36 (rneShift v.m (e - v.e))

/-- 2^k. -/
def pow2 (k : Int) : Rat := if 0 ≤ k then 2 ^ k.toNat else 1 / 2 ^ (-k).toNat

/-- The value of a block-floating number. -/
def Bf.value (v : Bf) : Rat := v.m * pow2 (v.e - 35)

/-- The mantissa of a value at an exponent, rounded half to even. -/
def mantissa (x : Rat) (e : Int) : Int := rneRat (x * pow2 (35 - e))

/-- A value as a normalised block-floating number, its mantissa rounded half to even (R206). -/
def ratBf (x : Rat) : Bf :=
  if x = 0 then ⟨0, -128, false⟩
  else
    let e : Int := (Nat.log2 x.num.natAbs : Int) - Nat.log2 x.den
    let e' := max (-128) ((List.range 3).find? (fun k => !over36 (mantissa x (e + k))) |>.elim (e + 3) (fun k => e + k))
    ⟨mantissa x e', e', false⟩

/-- An accumulator of 80 bits with LSB 2^(e_w − 67), and whether a saturation of R208 stands behind it. -/
structure Acc where
  v : Int
  sat : Bool
  deriving DecidableEq, Repr

/-- A term or sum clamps to 80 bits and raises SAT (R208). -/
def Acc.of (x : Int) (sat : Bool) : Acc := ⟨satTo 80 x, sat || decide (satTo 80 x ≠ x)⟩

/-- The working exponent of a stage (R208 step 1). -/
def workExp (es : Int) (ins : List Bf) : Int := min 127 (ins.foldl (fun x v => max x v.e) es + 2)

/-- A value placed in the accumulator (R208 step 2). -/
def place (ew : Int) (v : Bf) : Acc := Acc.of (rneShift v.m (ew - 32 - v.e)) v.sat

/-- A product with a coefficient placed in the accumulator (R207, R208 step 2). -/
def prod (ew : Int) (v k : Bf) : Acc := Acc.of (rneShift (v.m * k.m) (ew + 3 - v.e - k.e)) (v.sat || k.sat)

/-- An integrator's residue placed in the accumulator (R208 step 6). -/
def placeRes (ew es : Int) (r : Int) : Acc := Acc.of (rneShift r (ew - es)) false

/-- The sum of two accumulator values (R208 step 3). -/
def Acc.plus (a b : Acc) : Acc := Acc.of (a.v + b.v) (a.sat || b.sat)

/-- The negative of an accumulator term. -/
def Acc.neg (a : Acc) : Acc := Acc.of (-a.v) a.sat

/-- Terms added left to right (R208 step 3). -/
def sumAcc : List Acc → Acc
  | [] => ⟨0, false⟩
  | a :: t => t.foldl Acc.plus a

/-- A value reduced for use as a multiplicand (R208 step 4). -/
def operand (ew : Int) (a : Acc) : Bf :=
  let m := rneShift a.v 32
  ⟨sat36 m, ew, a.sat || over36 m⟩

/-- An accumulator value limited to a placed limit, with the sign of the clamp; it raises no SAT (R208). -/
def limitAcc (ew : Int) (lim : Bf) (a : Acc) : Acc × Int :=
  let l := rneShift (if lim.m < 0 then -lim.m else lim.m) (ew - 32 - lim.e)
  if l < a.v then (⟨l, a.sat⟩, 1) else if a.v < -l then (⟨-l, a.sat⟩, -1) else (a, 0)

/-- Every value fits a mantissa with this g (R208 step 5). -/
def gFits (as : List Acc) (g : Int) : Bool := as.all (fun a => !over36 (rneShift a.v (32 + g)))

/-- What a stage stores: the mantissas, the exponent, the shift g and whether a mantissa saturated (R208 step 5). -/
structure Stored where
  ms : List Int
  e : Int
  g : Int
  sat : Bool
  deriving DecidableEq, Repr

/-- The smallest g with which every member fits, from a bound below it. -/
def findG (as : List Acc) : Nat → Int → Int
  | 0, g => g
  | k + 1, g => if gFits as g then g else findG as k (g + 1)

/-- The stored members of a stage renormalised (R208 step 5). -/
def store (ew : Int) (as : List Acc) : Stored :=
  let sat := as.any (fun a => a.sat)
  if as.all (fun a => decide (a.v = 0)) then ⟨as.map (fun _ => 0), -128, -128 - ew, sat⟩
  else
    let top : Nat := as.foldl (fun n a => max n (bitLen a.v)) 0
    let g := findG as 4 ((top : Int) - 69)
    if 127 < ew + g then
      let xs := as.map (fun a => rneShift a.v (32 + (127 - ew)))
      ⟨xs.map sat36, 127, 127 - ew, sat || xs.any over36⟩
    else
      let g' := max g (-128 - ew)
      ⟨as.map (fun a => rneShift a.v (32 + g')), ew + g', g', sat⟩

/-- The residue of an integrator stored with mantissa `m` (R208 step 6). -/
def residue (a : Acc) (m : Int) (g : Int) : Int :=
  if over36 (rneShift a.v (32 + g)) then 0
  else if 32 + g ≤ 0 then 0
  else rneShift (a.v - m * 2 ^ (32 + g).toNat) g

end Sys2Proof.Machine
end

