-- ==== Sys2Proof/Machine/CleStage.lean ====
section
/-! DEFINITION. One sample of a control-law channel: parameter blocks, soft start, the stages S0 to S4 and the bumpless
hand-over (R210 to R216, R219, R220, R227 to R229). -/

namespace Sys2Proof.Machine

/-! ## Parameter blocks -/

/-- Word `i` of a block, signed. -/
def pI (b : List Word) (i : Nat) : Int := (nth b i 0).toInt

/-- Word `i` of a block, unsigned. -/
def pN (b : List Word) (i : Nat) : Nat := (nth b i 0).toNat

/-- Bits of word `i` of a block. -/
def pB (b : List Word) (i lo k : Nat) : Nat := bitsAt (nth b i 0) lo k

/-- KIND: 0 rotary axis, 1 linear axis, 2 process (R228). -/
def pKind (b : List Word) : Nat := pB b 0 18 2

/-- A field of which 0 is taken as 1. -/
def atLeast1 (n : Nat) : Nat := max 1 n

/-- HO_RAMP (R228). -/
def pRamp (b : List Word) : Nat := atLeast1 (pB b 14 0 8)

/-- Coefficient `k` (R228, R229). -/
def coef (b : List Word) (k : Nat) : Bf := ⟨pI b (24 + k), signedOf 8 (pB b (56 + k / 4) (8 * (k % 4)) 8), false⟩

/-- Format exponents of positions, velocities, accelerations and torques (R206, R228). -/
def ePos (b : List Word) : Int := if pKind b = 0 then 7 else if pKind b = 1 then 5 else 1
/-- Of velocities. -/
def eVel (b : List Word) : Int := if pKind b = 2 then 1 else 11
/-- Of accelerations. -/
def eAcc (b : List Word) : Int := if pKind b = 2 then 1 else 19
/-- Of torques. -/
def eTrq (b : List Word) : Int := if pKind b = 2 then 1 else 19

/-- A block can be taken by channel `c` (R227, R214). -/
def blockOk (c : Nat) (b : List Word) : Bool :=
  pB b 0 28 8 == 4 && pB b 0 20 8 == 1 && (pKind b == 2) == decide (160 ≤ c) && pKind b != 3 && pB b 0 16 2 != 3
    && pB b 0 14 2 != 3 && !(pB b 0 13 1 == 1 && decide (23 < pB b 0 8 5))
    && (pN b 22 == 0 || decide (pN b 22 < 256 * pN b 23))

/-- The fields that no block may change while the channel is closed (R227). -/
def blockFixed (b : List Word) : List Nat :=
  [pKind b, pB b 0 16 2, pB b 0 14 2, pB b 0 13 1, pB b 0 8 5, pN b 1, pB b 2 0 6, pN b 3]

/-! ## Soft start (R211) -/

/-- What the soft start ramps. -/
inductive Ramped where
  | position | velocity | other
  deriving DecidableEq, Repr

/-- |x| of a rational. -/
def absQ (x : Rat) : Rat := if x < 0 then -x else x

/-- The conditions of R211 for N samples: `d` is |Δ0| in its unit, `t` is T_ch in s. -/
def rampOk (b : List Word) (w : Ramped) (d t : Rat) (n : Nat) : Bool :=
  let v : Rat := (pI b 9 : Rat) / 2 ^ 24
  let a : Rat := (pI b 10 : Rat) / 2 ^ 16
  let j : Rat := (pN b 11 : Rat) / 2 ^ 8
  let x : Rat := n * t
  let root := fun (lim : Rat) => decide (0 ≤ lim) && decide (100 * d * d ≤ 3 * lim * lim)
  match w with
  | .position => decide (15 / 8 * d ≤ v * x) && root (a * x * x) && decide (60 * d ≤ j * x * x * x)
  | .velocity => decide (15 / 8 * d ≤ a * x) && root (j * x * x)
  | .other => decide (pRamp b ≤ n)

/-- The smallest n in (lo, lo + 2^k] for which `p` holds, `p` being monotone. -/
def leastIn (p : Nat → Bool) : Nat → Nat → Nat
  | 0, lo => lo + 1
  | k + 1, lo => if p (lo + 2 ^ k) then leastIn p k lo else leastIn p k (lo + 2 ^ k)

/-- N (R211). Where no N fulfils the conditions, the rule names none. DESIGN CHOICE, log 58. -/
def rampN (b : List Word) (w : Ramped) (d t : Rat) : Nat :=
  if rampOk b w d t (2 ^ 128) then leastIn (rampOk b w d t) 128 0 else max 1 (Config.rampSamples (pI b 9) (pI b 10) (pI b 11))

/-- A rational to the nearest multiple of 2^-k, ties to even. -/
def toLsb (k : Int) (x : Rat) : Int := rneRat (if 0 ≤ k then x * 2 ^ k.toNat else x / 2 ^ (-k).toNat)

/-- o(j), o′(j) and o″(j) in the LSB of formats with exponents e0, e1 and e2; t is T_ch in s (R211). -/
def softOffset (x : SoftStart) (t : Rat) (e0 e1 e2 : Int) : Int × Int × Int :=
  let n : Int := x.n
  let j : Int := x.j
  let n5 := x.n ^ 5
  let o := x.d0 - rneDiv (x.d0 * j ^ 3 * (10 * n * n - 15 * n * j + 6 * j * j)) n5
  let u : Rat := (x.d0 : Rat) / n5
  let lsb := fun (e : Int) (y : Rat) => toLsb (e0 - e) (y)
  (o, lsb e1 (-30 * u * (j * j * (n - j) * (n - j) : Int) / t), lsb e2 (-60 * u * (j * (n - j) * (n - 2 * j) : Int) / (t * t)))

/-! ## One sample -/

/-- What a sample reads besides the channel's own state: the words of the result buffer, the process set-point, the host's
set-point and manual value, the station force, the DC-link voltage with its freshness, and T_ch in s. -/
structure Inputs where
  p : Int
  v : Int
  a : Int
  tdyn : Int
  tgrav : Int
  psp : Int
  sp : Int
  manual : Int
  force : Int
  vdc : Nat
  vdcFresh : Bool
  t : Rat
  qm : Int
  vm : Int
  deriving DecidableEq, Repr

/-- The set-points of S0 (R210): q_sp, v_ff and a_ff, and the word that S1 FORCE and S3 take. -/
structure SetPoints where
  q : Int
  v : Int
  a : Int
  w : Int
  deriving DecidableEq, Repr

/-- The set-points before the soft-start offset (R210). DESIGN CHOICE, log 58. -/
def basePoints (b : List Word) (mode src : Nat) (i : Inputs) : SetPoints :=
  if pKind b = 2 then
    let x := if src = 1 then i.sp else i.psp
    ⟨x, if mode = 3 then x else 0, 0, x⟩
  else if mode = 2 then (if src = 1 then ⟨i.sp, 0, 0, 0⟩ else ⟨i.p, i.v, i.a, 0⟩)
  else if mode = 3 then (if src = 1 then ⟨i.p, i.sp, 0, 0⟩ else ⟨i.p, i.v, i.a, 0⟩)
  else ⟨i.p, i.v, i.a, i.sp⟩

/-- The quantity that a soft start ramps in a mode: its measured value, its set-point, its kind and its format exponent; none in
TORQUE from the solver (R211). DESIGN CHOICE, log 58. -/
def rampedIn (b : List Word) (mode src : Nat) (c : Chan) (i : Inputs) (x : SetPoints) : Option (Int × Int × Ramped × Int) :=
  let k := fun (r : Ramped) => if pKind b = 2 then Ramped.other else r
  if mode = 2 then some (i.qm, x.q, k .position, ePos b)
  else if mode = 3 then some (i.vm, x.v, k .velocity, eVel b)
  else if mode = 5 then some (i.force, x.w, .other, eTrq b)
  else if mode = 4 ∧ (pKind b = 2 ∨ src = 1) then some (wordBf (eTrq b) ⟨c.y3, c.e3, false⟩, x.w, .other, eTrq b)
  else none

/-- S0: the set-points with the soft-start offset, the channel with its soft start advanced, and whether it has ended
(R210, R211). -/
def stage0 (b : List Word) (mode src : Nat) (i : Inputs) (c : Chan) : SetPoints × Chan × Bool :=
  let x := basePoints b mode src i
  match rampedIn b mode src c i x with
  | none => (x, { c with ssDue := false, ss := none }, false)
  | some (m, sp, w, e) =>
    let d0 := m - sp
    let ss := if c.ssDue then
        (if d0 = 0 then none else some ⟨d0, rampN b w (absQ ((d0 : Rat) / 2 ^ (35 - e).toNat)) i.t, 0⟩)
      else c.ss
    match ss with
    | none => (x, { c with ssDue := false, ss := none }, false)
    | some r =>
      let o := if w = .position ∨ mode = 2 then softOffset r i.t (ePos b) (eVel b) (eAcc b)
        else if mode = 3 then softOffset r i.t (eVel b) (eAcc b) (eAcc b) else softOffset r i.t e e e
      let y : SetPoints := if mode = 2 then ⟨sat36 (x.q + o.1), sat36 (x.v + o.2.1), sat36 (x.a + o.2.2), x.w⟩
        else if mode = 3 then ⟨x.q, sat36 (x.v + o.1), sat36 (x.a + o.2.1), x.w⟩
        else ⟨x.q, x.v, x.a, sat36 (x.w + o.1)⟩
      let ended := decide (r.n ≤ r.j)
      (y, { c with ssDue := false, ss := if ended then none else some { r with j := r.j + 1 } }, ended)

/-- The sign of an integer. -/
def sgnI (x : Int) : Int := if 0 < x then 1 else if x < 0 then -1 else 0

/-- An integrator's update: its value with its residue, plus the coefficient times the error unless `skip`, limited. -/
def integrate (ew es : Int) (i : Int × Int) (err k lim : Bf) (skip : Bool) : Acc :=
  let base := sumAcc [place ew ⟨i.1, es, false⟩, placeRes ew es i.2]
  (limitAcc ew lim (if skip then base else base.plus (prod ew err k))).1

/-- S1 in POSITION and FORCE: v_cmd, and the channel with the integrator and exponent of the stage (R212). -/
def stage1 (b : List Word) (mode : Nat) (x : SetPoints) (i : Inputs) (c : Chan) : Bf × Chan :=
  let pos := decide (mode = 2)
  let e := x.q - i.qm
  let ep : Bf := { normBf (ePos b) (sat36 e) with sat := over36 e }
  let vff := normBf (eVel b) x.v
  let fs := normBf (eTrq b) x.w
  let fm := normBf (eTrq b) i.force
  let ew := workExp c.e1 (if pos then [ep, vff] else [fs, fm])
  let integ := if pos then c.ip else c.iF
  let ti := place ew ⟨integ.1, c.e1, false⟩
  let err := if pos then ep else operand ew ((place ew fs).plus (place ew fm).neg)
  let u := if pos then sumAcc [prod ew err (coef b 0), ti, prod ew vff (coef b 2)] else sumAcc [prod ew err (coef b 3), ti]
  let v := limitAcc ew (normBf (eVel b) (pI b 15)) u
  let skip := decide (v.2 ≠ 0) && decide (v.2 = sgnI err.m)
  let ia := integrate ew c.e1 integ err (coef b (if pos then 1 else 4)) (normBf (eVel b) (pI b (if pos then 17 else 19))) skip
  let st := store ew [ia, v.1]
  let ni := (nth st.ms 0 0, residue ia (nth st.ms 0 0) st.g)
  (⟨nth st.ms 1 0, st.e, st.sat⟩, if pos then { c with ip := ni, e1 := st.e } else { c with iF := ni, e1 := st.e })

/-- One biquad: its output reduced for the next one, and its new states, with input x (R213). -/
def biquad (b : List Word) (k : Nat) (ew es : Int) (s : Option (Int × Int)) (x : Bf) : Acc × Bf × Acc × Acc :=
  let f := fun n => coef b (7 + 5 * k + n)
  let neg := fun (v : Bf) => ({ v with m := -v.m } : Bf)
  let s1 := match s with
    | some p => place ew ⟨p.1, es, false⟩
    | none => (place ew x).plus (prod ew x (neg (f 0)))
  let s2 := match s with
    | some p => place ew ⟨p.2, es, false⟩
    | none => (prod ew x (f 2)).plus (prod ew x (neg (f 4)))
  let y := (prod ew x (f 0)).plus s1
  let yo := operand ew y
  (y, yo, sumAcc [prod ew x (f 1), prod ew yo (neg (f 3)), s2], sumAcc [prod ew x (f 2), prod ew yo (neg (f 4))])

/-- S2: y2, and the channel with the integrator, the filters and the exponent of the stage (R213, R215). -/
def stage2 (b : List Word) (vcmd : Bf) (i : Inputs) (c : Chan) : Bf × Chan :=
  let vm := normBf (eVel b) i.vm
  let ew := workExp c.e2 [vcmd, vm]
  let ev := (place ew vcmd).plus (place ew vm).neg
  let err := operand ew ev
  let u := (prod ew err (coef b 5)).plus (place ew ⟨c.iv.1, c.e2, false⟩)
  let skip := decide (pB b 0 16 2 ≠ 0) || (decide (ev.v ≠ 0) && (decide (c.dir3 = sgnI ev.v) || decide (c.dir4 = sgnI ev.v)))
  let ia := integrate ew c.e2 c.iv err (coef b 6) (normBf (eTrq b) (pI b 18)) skip
  let q0 := biquad b 0 ew c.e2 c.bq[0]? (operand ew u)
  let q1 := biquad b 1 ew c.e2 c.bq[1]? q0.2.1
  let q2 := biquad b 2 ew c.e2 c.bq[2]? q1.2.1
  let q3 := biquad b 3 ew c.e2 c.bq[3]? q2.2.1
  let st := store ew [ia, q0.2.2.1, q0.2.2.2, q1.2.2.1, q1.2.2.2, q2.2.2.1, q2.2.2.2, q3.2.2.1, q3.2.2.2, q3.1]
  let m := fun k => nth st.ms k 0
  (⟨m 9, st.e, st.sat⟩,
    { c with iv := (m 0, residue ia (m 0) st.g), bq := [(m 1, m 2), (m 3, m 4), (m 5, m 6), (m 7, m 8)], e2 := st.e })

/-- The remainder r in LSB of the torque format at a run (R220). DEDUCED, log 57. -/
def handNow (c : Chan) : Rat × Option Remainder :=
  match c.hand with
  | none => (0, none)
  | some h =>
    let left := absQ h.r - h.i * h.step
    if left ≤ 0 then (0, none) else (if h.r < 0 then -left else left, some { h with i := h.i + 1 })

/-- The value of an LSB of the torque format of a channel. -/
def torqueLsb (b : List Word) : Rat := pow2 (eTrq b - 35)

/-- R_dc as a coefficient, and whether VDC_FAULT stands; the channel keeps the last fresh voltage (R214). -/
def vdcNow (b : List Word) (i : Inputs) (c : Chan) : Bf × Bool × Chan :=
  if pN b 22 = 0 then (⟨2 ^ 27, 8, false⟩, false, c)
  else
    let c1 := if i.vdcFresh then { c with vdc := i.vdc, vdcAge := 0 } else { c with vdcAge := c.vdcAge + 1 }
    (⟨rneDiv ((pN b 22 * 2 ^ 27 : Nat) : Int) (max c1.vdc (pN b 23)), 8, false⟩,
      decide (2 ≤ c1.vdcAge) || decide (c1.vdc < pN b 23), c1)

/-- y3 before its clamp, the channel, the working exponent and VDC_FAULT (R214). DEDUCED, log 57. -/
def stage3 (b : List Word) (mode src : Nat) (y2 : Bf) (x : SetPoints) (i : Inputs) (c0 : Chan) : Acc × Int × Chan × Bool :=
  let h := handNow c0
  let c := { c0 with hand := h.2 }
  let r := ratBf (h.1 * torqueLsb b)
  let man := normBf (eTrq b) i.manual
  let spw := normBf (eTrq b) x.w
  let td := normBf 19 i.tdyn
  let tg := normBf 19 i.tgrav
  let aff := normBf (eAcc b) x.a
  if mode = 1 then
    let ew := workExp c.e3 [man, r]
    ((place ew man).plus (place ew r), ew, c, false)
  else if pKind b = 2 then
    let d := vdcNow b i c
    let ew := workExp c.e3 (if mode = 4 then [spw, r] else [y2, spw, r])
    let m := if mode = 4 then spw else operand ew ((place ew y2).plus (prod ew spw (coef b 30)))
    ((prod ew m d.1).plus (place ew r), ew, d.2.2, d.2.1)
  else if mode = 4 then
    let ew := workExp c.e3 [if src = 1 then spw else td, tg, r]
    (sumAcc [if src = 1 then place ew spw else prod ew td (coef b 28), prod ew tg (coef b 29), place ew r], ew, c, false)
  else
    let ew := workExp c.e3 [y2, aff, td, tg, r]
    (sumAcc [place ew y2, prod ew aff (coef b 27), prod ew td (coef b 28), prod ew tg (coef b 29), place ew r], ew, c, false)

/-- What a sample gives besides the channel: out, y3 before its clamp as a word and as its exact value, and the flags. -/
structure Sampled where
  c : Chan
  out : Int
  pre : Int
  y : Rat
  clamped : Bool
  sat : Bool
  vdc : Bool
  ssDone : Bool
  deriving DecidableEq, Repr

/-- One sample in MANUAL or a closed mode (R210 to R215). DEDUCED, log 57. -/
def runStages (b : List Word) (mode src : Nat) (i : Inputs) (c0 : Chan) : Sampled :=
  let z := if mode = 1 then (⟨0, 0, 0, 0⟩, c0, false) else stage0 b mode src i c0
  let x : SetPoints := z.1
  let loop := decide (mode = 2) || decide (mode = 3) || decide (mode = 5)
  let v := if mode = 2 ∨ mode = 5 then stage1 b mode x i z.2.1 else (normBf (eVel b) x.v, z.2.1)
  let y2 := if loop then stage2 b v.1 i v.2 else (⟨0, -128, false⟩, v.2)
  let t := stage3 b mode src y2.1 x i y2.2
  let ew := t.2.1
  let l := limitAcc ew (normBf (eTrq b) (pI b 16)) t.1
  let st := store ew [l.1]
  let y3 : Bf := ⟨nth st.ms 0 0, st.e, st.sat⟩
  let sel : Bf := if pB b 0 16 2 = 1 ∧ loop = true then v.1
    else if pB b 0 16 2 = 2 ∧ mode ≠ 1 then ⟨x.q, ePos b, false⟩ else y3
  let k := coef b 31
  let raw := rneShift (sel.m * k.m) (70 - sel.e - k.e)
  let out := max (pI b 20) (min raw (pI b 21))
  let d4 : Int := if pI b 21 < raw then 1 else if raw < pI b 20 then -1 else 0
  { c := { t.2.2.1 with e3 := st.e, y3 := y3.m, vcmd := if loop then wordBf (eVel b) v.1 else 0
                        torq := wordBf (eTrq b) y3, qsp := x.q, vff := x.v, dir3 := l.2, dir4 := d4 }
    out := sat36 out
    pre := sat36 (rneShift t.1.v (eTrq b + 32 - ew))
    y := t.1.v * pow2 (ew - 67)
    clamped := decide (l.2 ≠ 0) || decide (d4 ≠ 0)
    sat := st.sat || y2.1.sat || v.1.sat || t.1.sat
    vdc := t.2.2.2
    ssDone := z.2.2 }

/-! ## Mode changes (R219, R220) -/

/-- A channel as a change into mode `mode` finds it: integrators at 0, filters to be preset, and a soft start due in a closed
mode. -/
def changing (mode : Nat) (soft : Bool) (c : Chan) : Chan :=
  { c with ip := (0, 0), iF := (0, 0), iv := (0, 0), bq := [], hand := none, ss := none
           ssDue := soft && decide (2 ≤ mode) }

/-- I_V preset to a value: its normalised mantissa, and the rest as its residue (R208, R220). -/
def presetIv (x : Rat) : (Int × Int) × Int :=
  let v := ratBf x
  ((v.m, rneRat ((x - v.value) * pow2 (67 - v.e))), v.e)

/-- The hand-over into a mode from MANUAL or a closed mode: the disagreement in torque LSB and the channel with its preset
integrator and remainder (R220); into MANUAL only the remainder (R219). D is taken before y0 is clamped or rounded, so that the
first output is y_old. DEDUCED, log 57. -/
def handOver (b : List Word) (mode src : Nat) (soft : Bool) (i : Inputs) (c : Chan) : Rat × Chan :=
  let n := changing mode soft c
  let u := torqueLsb b
  let yOld := (⟨c.y3, c.e3, false⟩ : Bf).value / u
  let y0 : Rat := if mode = 1 then i.manual else (runStages b mode src i n).y / u
  let d := yOld - y0
  let lim : Rat := absQ (pI b 18 : Rat)
  let iv : Rat := if mode = 2 ∨ mode = 3 ∨ mode = 5 then max (-lim) (min d lim) else 0
  let p := presetIv (iv * u)
  let r := d - iv
  let slew : Rat := absQ (pI b 13 : Rat)
  let byRamp : Rat := absQ r / pRamp b
  let step : Rat := if byRamp < slew then byRamp else slew
  (d, { n with iv := p.1, e2 := if mode = 1 ∨ mode = 4 then n.e2 else p.2
               hand := if r = 0 then none else some ⟨r, step, 0⟩ })

/-- A channel that enters OFF (R219): filters, offsets and remainder cleared. -/
def toOff (c : Chan) : Chan :=
  { c with ip := (0, 0), iF := (0, 0), iv := (0, 0), bq := [], hand := none, ss := none, ssDue := false, brake := none
           y3 := 0, vcmd := 0, torq := 0, dir3 := 0, dir4 := 0 }

end Sys2Proof.Machine
end

