-- ==== Sys2Proof/Machine/Profile.lean ====
section
/-! DEFINITION. Jerk-limited path-velocity profiles: transitions, levels, handover and the stop profile (R112 to R119).
Lengths, speeds, accelerations, jerks and times are exact rationals; the roots are those of the planner. -/

namespace Sys2Proof.Machine

/-- Duration of the transition between two speeds (R117). -/
def transTime (v0 v1 a j : Rat) : Rat :=
  let dv := ratAbs (v1 - v0)
  if a * a / j ≤ dv then dv / a + a / j else 2 * root (dv / j)

/-- Distance covered by the transition between two speeds (R117). -/
def transDist (v0 v1 a j : Rat) : Rat := if v0 = v1 then 0 else (v0 + v1) / 2 * transTime v0 v1 a j

/-- The state of a profile at the end of a phase. -/
def Phase.after (p : Phase) (t : Rat) : Rat × Rat × Rat :=
  (p.x + p.v * t + p.a * t * t / 2 + p.jerk * t * t * t / 6, p.v + p.a * t + p.jerk * t * t / 2, p.a + p.jerk * t)

/-- Phases laid one after another from a state, given as lengths and jerks. -/
def layPhases : Rat → Rat → Rat → List (Rat × Rat) → List Phase
  | _, _, _, [] => []
  | x, v, a, (t, j) :: rest =>
    let p : Phase := ⟨t, j, x, v, a⟩
    let e := p.after t
    p :: layPhases e.1 e.2.1 e.2.2 rest

/-- The phases of the transition from `v0` to `v1` starting at coordinate `x` (R117). -/
def transPhases (x v0 v1 a j : Rat) : List Phase :=
  let dv := ratAbs (v1 - v0)
  let g : Rat := if v0 < v1 then j else -j
  if v0 = v1 then []
  else if a * a / j ≤ dv then layPhases x v0 0 [(a / j, g), (dv / a - a / j, 0), (a / j, -g)]
  else
    let t := root (dv / j)
    let k : Rat := if v0 < v1 then dv / (t * t) else -(dv / (t * t))
    layPhases x v0 0 [(t, k), (t, -k)]

/-- A level of a profile: a speed over stretches of the path (R118, step 4). -/
structure Level where
  v : Rat
  ivs : List Ival
  deriving DecidableEq, Repr

/-- The length of a level. -/
def Level.len (l : Level) : Rat := (l.ivs.map (·.len)).sum

/-- The transition between two speeds that begins where the stretches begin: its distance and its limits, the least of the
stretches in which it lies (R115, R117, R118). DEDUCED, log 45. -/
def transFrom (v0 v1 : Rat) : Rat → Rat → Rat → List Ival → Rat × Rat × Rat
  | _, a, j, [] => (transDist v0 v1 a j, a, j)
  | len, a, j, i :: rest =>
    let a' := ratMin a i.a
    let j' := ratMin j i.j
    let d := transDist v0 v1 a' j'
    if d ≤ len + i.len then (d, a', j') else transFrom v0 v1 (len + i.len) a' j' rest

/-- The transition over the first stretches of a list. -/
def transOver (v0 v1 : Rat) (ivs : List Ival) : Rat × Rat × Rat :=
  match ivs with
  | [] => (0, 1, 1)
  | i :: _ => transFrom v0 v1 0 i.a i.j ivs

/-- The transitions of a level of speed `u` from and to slower neighbours: into it over its first stretches, out of it over its
last (R118, step 4). -/
def levelEnds (prev next u : Rat) (l : Level) : (Rat × Rat × Rat) × (Rat × Rat × Rat) :=
  (if prev < u then transOver prev u l.ivs else (0, 1, 1), if next < u then transOver u next l.ivs.reverse else (0, 1, 1))

/-- The distance that a level of speed `u` needs for its transitions from and to slower neighbours (R118, step 4). DEDUCED, log
45. -/
def levelNeed (prev next u : Rat) (l : Level) : Rat := let e := levelEnds prev next u l; e.1.1 + e.2.1

/-- Bisection between a speed that fits and one that does not, to 1 LSB of V36 (R118). DEDUCED, log 45. -/
def bisect (ok : Rat → Bool) : Nat → Rat → Rat → Rat
  | 0, lo, _ => lo
  | n + 1, lo, hi =>
    if hi - lo ≤ 1 / 2 ^ 24 then lo
    else
      let mid := (lo + hi) / 2
      if ok mid then bisect ok n mid hi else bisect ok n lo mid

/-- A level lowered until its transitions fit into its length: at most to the faster of its slower neighbours' speeds, with
which it then forms one level (R118). DEDUCED, log 45. -/
def lowerLevel (prev next : Rat) (l : Level) : Level :=
  if levelNeed prev next l.v l ≤ l.len then l
  else
    let lo := if prev < l.v ∧ next < l.v then ratMax prev next else ratMin prev next
    if l.v ≤ lo then l
    else if levelNeed prev next lo l ≤ l.len then
      { l with v := bisect (fun u => decide (levelNeed prev next u l ≤ l.len)) 64 lo l.v }
    else { l with v := lo }

/-- One pass over the levels; `last` is the speed required beyond them, if one is (R118, steps 2 and 3). DEDUCED, log 45. -/
def lowerPass (last : Option Rat) : Rat → List Level → List Level
  | _, [] => []
  | prev, l :: rest =>
    let next := match rest with
      | r :: _ => r.v
      | [] => last.getD l.v
    let l' := lowerLevel prev next l
    l' :: lowerPass last l'.v rest

/-- Adjacent levels of equal speed form one (R118, step 4); an exact stop stands by itself. DEDUCED, log 45. -/
def mergeLevels : List Level → List Level
  | [] => []
  | l :: rest =>
    match mergeLevels rest with
    | r :: t => if l.v = r.v ∧ l.v ≠ 0 then ⟨l.v, l.ivs ++ r.ivs⟩ :: t else l :: r :: t
    | [] => [l]

/-- The levels in the opposite direction. -/
def turnLevels (ls : List Level) : List Level := ls.reverse.map (fun l => ⟨l.v, l.ivs.reverse⟩)

/-- Backward and forward passes until the levels stand (R118). DEDUCED, log 45. -/
def settleLevels (last : Option Rat) (v0 : Rat) : Nat → List Level → List Level
  | 0, ls => ls
  | n + 1, ls =>
    let back := turnLevels (lowerPass (some v0) (last.getD (match ls.reverse with
      | l :: _ => l.v
      | [] => 0)) (turnLevels ls))
    let next := mergeLevels (lowerPass last v0 back)
    if next = ls then ls else settleLevels last v0 n next

/-- The levels of a profile from speed `v0` over stretches of the path; it ends at rest unless `free` (R112, R118). DEDUCED, log
45. -/
def levelsOf (free : Bool) (v0 : Rat) (ivs : List Ival) : List Level :=
  let ls := mergeLevels ((ivs.filter (fun l => decide (0 < l.len) || decide (l.v = 0))).map (fun i => ⟨i.v, [i]⟩))
  settleLevels (if free then none else some 0) v0 (4 * ls.length + 8) ls

/-- The levels can be run from speed `v0`: no level is slower than `v0` at the start, and every transition fits. -/
def levelsFit (v0 : Rat) (ls : List Level) : Bool :=
  (match ls with
    | l :: _ => decide (v0 ≤ l.v)
    | [] => decide (v0 = 0))
  && ((v0 :: ls.map (·.v)).zip (ls.zip ((ls.map (·.v)).drop 1 ++ [0]))).all (fun e =>
    decide (levelNeed e.1 e.2.2 e.2.1.v e.2.1 ≤ e.2.1.len))

/-- The phases over the levels: acceleration as early and deceleration as late as they can be (R118, step 4). -/
def runLevels : Rat → Rat → List Level → List Phase
  | _, _, [] => []
  | x, v0, l :: rest =>
    let next := match rest with
      | r :: _ => r.v
      | [] => 0
    let e := levelEnds v0 next l.v l
    let up := if v0 < l.v then transPhases x v0 l.v e.1.2.1 e.1.2.2 else []
    let cruise := l.len - e.1.1 - e.2.1
    let mid : List Phase := if 0 < l.v ∧ 0 < cruise then [⟨cruise / l.v, 0, x + e.1.1, l.v, 0⟩] else []
    let dn := if next < l.v then transPhases (x + l.len - e.2.1) l.v next e.2.2.1 e.2.2.2 else []
    up ++ mid ++ dn ++ runLevels (x + l.len) (if next < l.v then next else l.v) rest

/-- A profile over stretches of the path from coordinate `x` and speed `v0`, if one exists (R118). -/
def planPhases (x v0 : Rat) (ivs : List Ival) : Option (List Phase) :=
  let ls := levelsOf false v0 ivs
  if levelsFit v0 ls then some (runLevels x v0 ls) else none

/-- The end of look-ahead, not a limit, caps the speed: without the exact stop at that end the highest level would be faster
(R114). DEDUCED, log 45. -/
def lookaheadCaps (v0 : Rat) (closed opened : List Ival) : Bool :=
  let top := fun ls : List Level => (ls.map (·.v)).foldl ratMax 0
  decide (top (levelsOf false v0 closed) < top (levelsOf true v0 opened))

/-- The total time of a profile. -/
def profileTime (ps : List Phase) : Rat := (ps.map (·.dur)).sum

/-- Coordinate, speed and acceleration at a profile time; a profile ends at rest at `rest` (R112). -/
def evalPhases (rest : Rat) : List Phase → Rat → Rat × Rat × Rat
  | [], _ => (rest, 0, 0)
  | p :: t, tau =>
    if tau < p.dur then p.after tau
    else match t with
      | [] => ((p.after p.dur).1, 0, 0)
      | _ => evalPhases rest t (tau - p.dur)

/-- The phases up to a profile time. -/
def cutPhases : List Phase → Rat → List Phase
  | [], _ => []
  | p :: t, tau => if tau ≤ 0 then [] else if tau < p.dur then [{ p with dur := tau }] else p :: cutPhases t (tau - p.dur)

/-- The first profile time at or after `t0` at which the profile has no acceleration (R113): `t0` itself where it cruises or
stands, else the end of its transition. -/
def handover : List Phase → Rat → Rat → Rat
  | [], t0, _ => t0
  | p :: rest, t0, start =>
    let fin := start + p.dur
    if fin < t0 then handover rest t0 fin
    else if p.a = 0 ∧ (p.jerk = 0 ∨ t0 ≤ start) then ratMax t0 start
    else match rest with
      | [] => fin
      | r :: _ => if r.a = 0 then fin else handover rest t0 fin

/-- When a speed `v` with a deceleration `a` that the jerk `j` reduces comes to 0, if it does before the deceleration does. -/
def deadTime (v a j : Rat) : Option Rat :=
  if a < 0 ∧ 2 * j * v ≤ a * a then some ((-a - root (a * a - 2 * j * v)) / j) else none

/-- The time-optimal approach to rest from speed `v` and acceleration `a`, as lengths and jerks: a deceleration beyond the limit
is first reduced, and one that would outlast the speed ends with it (R119). -/
def approach (v a lim j : Rat) : List (Rat × Rat) :=
  match deadTime v a j with
  | some t => [(t, j)]
  | none =>
    let t1 := if a < -lim then (-lim - a) / j else 0
    let pre : List (Rat × Rat) := if a < -lim then [(t1, j)] else []
    let v1 := v + a * t1 + j * t1 * t1 / 2
    let a1 := a + j * t1
    let p := root (j * v1 + a1 * a1 / 2)
    if p ≤ lim then pre ++ [((a1 + p) / j, -j), (p / j, j)]
    else pre ++ [((a1 + lim) / j, -j), ((v1 + (a1 * a1 - 2 * lim * lim) / (2 * j)) / lim, 0), (lim / j, j)]

/-- The stop profile from a state of the path (R119). -/
def stopPhases (x v a lim j : Rat) : List Phase := if v = 0 ∧ a = 0 then [] else layPhases x v a (approach v a lim j)

/-- The profile time at which the profile reaches a coordinate, between two profile times, to 0.25 ns (R257). -/
def timeAt (ps : List Phase) (rest x : Rat) : Nat → Rat → Rat → Rat
  | 0, _, hi => hi
  | n + 1, lo, hi =>
    if hi - lo ≤ 1 / 4000000000 then hi
    else
      let mid := (lo + hi) / 2
      if (evalPhases rest ps mid).1 < x then timeAt ps rest x n mid hi else timeAt ps rest x n lo mid

end Sys2Proof.Machine
end

