-- ==== Sys2Proof/Machine/Path.lean ====
section
/-! DEFINITION. The path of an arm: its sections, the limits along them, corner blending and the planning of a profile over
them (R110 to R122, R126, R129, R532). -/

namespace Sys2Proof.Machine

/-- The limits that govern a piece: programmed speed, SPEED_MAX, ACCEL_MAX, JERK_MAX, ORIENT_RATE_MAX, JOINT_FRACTION. -/
structure Lims where
  prog : Rat
  speed : Rat
  acc : Rat
  jerk : Rat
  orient : Rat
  frac : Rat
  deriving DecidableEq, Repr

/-- The programmed speed word of a motion Stitch (R73); 0 for JOINT. -/
def speedWord (st : Stitch) : Word :=
  match st.op with
  | .line => opW st.ops 8
  | .arc => opW st.ops 11
  | .spline => opW st.ops 14
  | _ => 0

/-- The limits of a Stitch under its modal state, its speed clamped to SPEED_MAX (R73, R78). -/
def limsOf (st : Stitch) : Lims :=
  let l := fun i => nth st.modal.limits i 0
  let w := if speedWord st = 0 then l 5 else speedWord st
  { prog := ratMin (fixed w 24) (fixed (l 0) 24), speed := fixed (l 0) 24, acc := fixed (l 1) 16
    jerk := ((l 2).toNat : Rat) / 2 ^ 8, orient := fixed (l 3) 24, frac := fixed (l 4) 34 }

/-- On a blend each quantity is the smaller of the two pieces' (R115). -/
def Lims.meet (p n : Lims) : Lims :=
  ⟨ratMin p.prog n.prog, ratMin p.speed n.speed, ratMin p.acc n.acc, ratMin p.jerk n.jerk, ratMin p.orient n.orient,
    ratMin p.frac n.frac⟩

/-- The joints' limits of one order over |dq/ds|, each times JOINT_FRACTION (R115). -/
def jointTerms (frac : Rat) (lim : AxisTab → Rat) (axes : List AxisTab) (rates : List Rat) : List Rat :=
  (axes.zip rates).filterMap (fun e => if e.2 = 0 then none else some (frac * lim e.1 / ratAbs e.2))

/-- Speed, acceleration and jerk limit at a place of a Cartesian piece, given in WORLD (R115). -/
def sampleAt (a : Nat) (axes : List AxisTab) (tool : List Word) (l : Lims) (c : Place) : Ival :=
  let k := vecLen c.k
  let r := vecLen c.w
  let js := Config.jointRates a tool [c.p.x, c.p.y, c.p.z, c.q.w, c.q.x, c.q.y, c.q.z] [c.d.x, c.d.y, c.d.z, c.w.x, c.w.y, c.w.z]
  { len := 0
    v := ratMins (ratMin l.prog l.speed) ((if k = 0 then [] else [root (l.acc / k)])
      ++ (if r = 0 then [] else [l.orient / r]) ++ jointTerms l.frac (fun x => fixed x.vmax 24) axes js)
    a := ratMins l.acc (jointTerms l.frac (fun x => fixed x.amax 16) axes js)
    j := ratMins l.jerk (jointTerms l.frac (fun x => (x.jmax.toNat : Rat) / 2 ^ 8) axes js) }

/-- The stretches between samples at rising places: each has the lower limits of its two ends (R115). -/
def stretches : List (Rat × Ival) → List Ival
  | [] => []
  | [_] => []
  | p :: n :: rest => ⟨n.1 - p.1, ratMin p.2.v n.2.v, ratMin p.2.a n.2.a, ratMin p.2.j n.2.j⟩ :: stretches (n :: rest)

/-- The number of equal sample spacings of a LINE or ARC (R115). -/
def spacings (least : Nat) (len : Rat) : Nat := min 256 (max least (Rat.ceil (len * 500)).toNat)

/-- A LINE of zero length: a pure rotation (R73, R110). -/
def isRotation : Geo → Bool
  | .line _ p0 p1 => p0.take 3 == p1.take 3
  | _ => false

/-- Samples of a LINE or ARC, equally spaced over a part of it: place and limits (R115). -/
def lineSamples (f : Place → Ival) (g : Geo) (own len : Rat) (n : Nat) : List (Rat × Ival) :=
  (List.range (n + 1)).map (fun k => let s := own + len * k / n; (s, f (geoAt (geoFrame g).pose g s)))

/-- The samples of a curve at `n` + 1 equally spaced parameters from `u0` to `u1`, over the path lengths `own` to `own + len`: place
and limits (R115). -/
def curveSamples (f : Place → Ival) (fr : Frame) (c : Curve) (u0 u1 own len : Rat) (n : Nat) : List (Rat × Ival) :=
  (List.range (n + 1)).map (fun k =>
    let u := u0 + (u1 - u0) * k / n
    let b := c.at u
    let s := if k = 0 then own else if k = n then own + len
      else ratMax own (ratMin (own + len) (own + arcLength (polyDiff c.c) u - arcLength (polyDiff c.c) u0))
    (s, f (if fr.id = 0 then b else b.via fr.pose)))

/-- The axes that a JOINT moves: limits of the masked ones with their moves in turns or metres (R116). -/
def jointMoves (mask : Nat) (axes : Nat → Option AxisTab) (q0 q1 : List Word) : List (AxisTab × Rat) :=
  (bitsOf 16 mask).filterMap (fun i => match axes i with
    | some t =>
      let d := ratAbs (((nth q1 i 0).toInt - (nth q0 i 0).toInt : Int) / 2 ^ (if t.linear then 30 else 28))
      if d = 0 then none else some (t, d)
    | none => none)

/-- The limits in u of a JOINT piece (R76, R116). -/
def jointIval (l : Lims) (f : Rat) (ms : List (AxisTab × Rat)) : List Ival :=
  match ms with
  | [] => []
  | m :: rest =>
    let lim := fun (g : AxisTab → Rat) (k : Rat) => ratMins (k * g m.1 / m.2) (rest.map (fun e => k * g e.1 / e.2))
    [⟨1, lim (fun x => fixed x.vmax 24) (l.frac * f), lim (fun x => fixed x.amax 16) l.frac,
      lim (fun x => (x.jmax.toNat : Rat) / 2 ^ 8) l.frac⟩]

/-- The speed fraction of a JOINT: 0 selects JOINT_FRACTION (R76). DEDUCED, log 44. -/
def jointFraction (st : Stitch) : Rat :=
  fixed (if opW st.ops 2 = 0 then nth st.modal.limits 4 0 else opW st.ops 2) 34

/-- The limits over a section of a piece from place `own`, of length `len` (R115, R116). -/
def limitsOver (a : Nat) (axes : Nat → Option AxisTab) (st : Stitch) (g : Geo) (own len : Rat) : List Ival :=
  let l := limsOf st
  let f := sampleAt a ((List.range 8).filterMap axes) st.modal.tool l
  match g with
  | .joint q0 q1 => jointIval l (jointFraction st) (jointMoves (bitsAt (opW st.ops 1) 0 16) axes q0 q1)
  | .line _ _ _ =>
    if isRotation g then [⟨len, l.orient, l.acc * l.orient / l.speed, l.jerk * l.orient / l.speed⟩]
    else stretches (lineSamples f g own len (spacings 1 len))
  | .arc _ _ _ _ => stretches (lineSamples f g own len (spacings 16 len))
  | .spline fr p0 p1 d0 dd0 d1 dd1 =>
    let c := splineCurve p0 p1 d0 dd0 d1 dd1
    stretches (curveSamples f fr c (c.param own) (c.param (own + len)) own len 64)
  | .blend _ _ _ => []

/-- The limits over a blend: one speed, the lowest of its 17 samples; acceleration and jerk of each interval (R115). -/
def limitsBlend (a : Nat) (axes : Nat → Option AxisTab) (p n : Stitch) (ga gb : Geo) (d len : Rat) : List Ival :=
  let f := sampleAt a ((List.range 8).filterMap axes) n.modal.tool ((limsOf p).meet (limsOf n))
  let ss := curveSamples f (blendFrame ga gb) (blendCurve ga gb d) 0 1 0 len 16
  match ss with
  | [] => []
  | i :: rest => let v := ratMins i.2.v (rest.map (fun e => e.2.v)); (stretches ss).map (fun e => { e with v := v })

/-! ## Blending -/

/-- The largest of a start value and its 16 halvings that passes (R121). -/
def halve (ok : Rat → Bool) : Nat → Rat → Rat
  | 0, d => if ok d then d else 0
  | n + 1, d => if ok d then d else halve ok n (d / 2)

/-- The blend half-length at a junction (R121). -/
def blendHalf (p n : Sect) (tolPos tolOri : Rat) : Rat :=
  let half := ratMin (p.len / 2) (n.len / 2)
  let s := halfTurnSin p.geo n.geo
  let d3 := if s = 0 then half else if tolPos = 0 then 0 else ratMin half (8 * tolPos / (3 * s))
  if rotationRate p.geo = rotationRate n.geo then d3
  else halve (fun d => decide (blendRotation p.geo n.geo d ≤ tolOri)) 16 d3

/-- A JOINT piece. -/
def isJoint : Geo → Bool
  | .joint _ _ => true
  | _ => false

/-- R120 allows a blend between two sections under the tolerances of a modal state: the two sections as trimmed, and the blend
between them; tolerances that are both 0 ask for exact stops (R79). DEDUCED, log 48. -/
def blendOf (a : Nat) (axes : Nat → Option AxisTab) (p n : Sect) (m : Modal) : Option (Sect × Sect × Sect) :=
  if !p.st.blendOk || (m.tolPos == 0 && m.tolOri == 0) || isJoint p.geo || isJoint n.geo || isRotation p.geo || isRotation n.geo
    || !turnOk p.geo n.geo then none
  else
    let d := blendHalf p n (fixed m.tolPos 30) (fixed m.tolOri 28)
    if d < 1 / 2 ^ 20 then none
    else
      let g := Geo.blend p.geo n.geo d
      let len := geoLength g
      some ({ p with len := p.len - d, w := p.len - d, stop := false, zone := false, todo := false
                     ivs := limitsOver a axes p.st p.geo p.own (p.len - d) },
        { geo := g, isBlend := true, own := 0, len := len, mid := blendMid p.geo n.geo d, x := p.x + (p.len - d), w := len
          st := p.st, tag2 := n.st.tag, ivs := limitsBlend a axes p.st n.st p.geo n.geo d len, stop := false, zone := false
          todo := false, ready := true },
        { n with own := n.own + d, len := n.len - d, x := p.x + (p.len - d) + len, w := n.len - d
                 ivs := limitsOver a axes n.st n.geo (n.own + d) (n.len - d) })

/-- Coordinates of sections laid end to end from `x`; in a group every section has extent 1 (R126). -/
def layout (group : Bool) : Rat → List Sect → List Sect
  | _, [] => []
  | x, c :: rest =>
    let w : Rat := if group then 1 else c.len
    { c with x := x, w := w } :: layout group (x + w) rest

/-- The sections with the junction after the section of Stitch `pos` blended, if R120 allows it. DEDUCED, log 48. -/
def joinAt (a : Nat) (axes : Nat → Option AxisTab) (m : Modal) (pos : Nat) : List Sect → Option (List Sect)
  | p :: n :: rest =>
    if p.st.pos = pos && !p.isBlend && p.stop then
      (blendOf a axes p n m).map (fun t => t.1 :: t.2.1 :: layout false (t.2.2.x) (t.2.2 :: rest))
    else (joinAt a axes m pos (n :: rest)).map (p :: ·)
  | _ => none

/-! ## The profile over the sections -/

/-- Whether a Stitch holds the arm at its junction until something happens: a wait, a coordination or END (R69, R86 to R92). -/
def holdsArm (held : Nat → Bool) (st : Stitch) : Bool :=
  st.fault != 0 || (match st.op with
    | .dwell | .sync | .waitio | .finish => true
    | .zoneEnter => !held (bitsAt (opW st.ops 1) 0 7)
    | _ => false)

/-- A Stitch that has a piece of the path: a motion Stitch that did not fault at decode (R69, R101). DEDUCED, log 43. -/
def movesArm (st : Stitch) : Bool := isMotion st.op && st.fault == 0

/-- The unreached Stitches that stand at the junction after the motion Stitch at `pos`. DEDUCED, log 43. -/
def junctionItems (cur : Option Nat) (ahead : List Stitch) (pos : Nat) : List Stitch :=
  let l := if cur = some pos then ahead else (ahead.dropWhile (fun t => t.pos != pos)).drop 1
  l.takeWhile (fun t => !movesArm t)

/-- The sections up to the first junction where the arm must stand: at a Stitch that holds it, or before a JOINT piece not
yet planned from rest (R112, R532). -/
def runSects (ar : Arm) (held : Nat → Bool) : List Sect → List Sect
  | [] => []
  | c :: rest =>
    if !c.ready then []
    else if c.stop && (junctionItems ar.cur ar.ahead c.st.pos).any (holdsArm held) then [c] else c :: runSects ar held rest

/-- Limits scaled to the path coordinate of a section. -/
def scaled (c : Sect) : List Ival :=
  let k := if c.len = 0 then 1 else c.w / c.len
  c.ivs.map (fun i => ⟨i.len * k, i.v * k, i.a * k, i.j * k⟩)

/-- Stretches without their first `d`. -/
def dropLen : Rat → List Ival → List Ival
  | _, [] => []
  | d, i :: rest => if i.len ≤ d then dropLen (d - i.len) rest else { i with len := i.len - d } :: rest

/-- The stretches of the path from coordinate `x` on, with its exact stops; without the one at its very end where `open'` says
that only look-ahead ends there (R112, R114). -/
def stretchesFrom (x : Rat) (open' : Bool) (cs : List Sect) : List Ival :=
  (cs.zipIdx).flatMap (fun e =>
    let c := e.1
    if c.x + c.w ≤ x ∧ (c.x < x ∨ c.w = 0) then []
    else (if x ≤ c.x then scaled c else dropLen (x - c.x) (scaled c))
      ++ (if c.stop && !(open' && e.2 + 1 == cs.length) then [⟨0, 0, 1, 1⟩] else []))

/-- Two lists of stretches over the same extent, each place with the lower limits (R126). -/
def meetStretches : Nat → List Ival → List Ival → List Ival
  | n + 1, i :: l, k :: m =>
    let len := ratMin i.len k.len
    let v := ratMin i.v k.v
    let r := ⟨len, v, ratMin i.a k.a, ratMin i.j k.j⟩
    r :: meetStretches n (if i.len ≤ len then l else { i with len := i.len - len } :: l)
      (if k.len ≤ len then m else { k with len := k.len - len } :: m)
  | _, _, _ => []

/-- One set of pieces of a group: its limits in λ, the least of its members' (R126). -/
def meetAll (cs : List Sect) : List Ival :=
  cs.foldl (fun l c => if c.len = 0 then l else if l = [] then scaled c else meetStretches 4096 l (scaled c)) []

/-- The sections of the members of a group, set by set from coordinate `x` on: limits in λ, and whether a member stops (R126). -/
def groupStretches (x : Rat) (open' : Bool) : List (List Sect) → Nat → List Ival
  | _, 0 => []
  | ms, n + 1 =>
    if ms.any (·.isEmpty) then []
    else
      let heads := ms.filterMap (·.head?)
      let rest := ms.map (·.drop 1)
      (match heads with
        | [] => []
        | c :: _ =>
          if c.x + c.w ≤ x ∧ (c.x < x ∨ c.w = 0) then []
          else (if x ≤ c.x then meetAll heads else dropLen (x - c.x) (meetAll heads))
            ++ (if heads.any (·.stop) && !(open' && rest.any (·.isEmpty)) then [⟨0, 0, 1, 1⟩] else []))
        ++ groupStretches x open' rest n

/-- The sections that can be run end where the path in look-ahead ends, and not at an exact stop before it (R112, R114).
DEDUCED, log 45. -/
def lookOpen (ar : Arm) (run : List Sect) : Bool := run.length == ar.sects.length

/-- The coordinate at which the present profile ends. -/
def restOf (ar : Arm) : Rat := (evalPhases ar.x ar.phases (profileTime ar.phases)).1

/-- Phases that have ended are dropped, and profile time counts from the first that is left. -/
def rebase : Nat → List Phase → Rat → List Phase × Rat
  | n + 1, p :: rest, tau => if p.dur ≤ tau then rebase n rest (tau - p.dur) else (p :: rest, tau)
  | _, ps, tau => (ps, tau)

/-- The profile that replaces the present one from its handover point, over stretches of the path from a coordinate on; the
old profile is followed to its rest point where no other continuation meets the limits (R113, R118, R529). -/
def replanPhases (ar : Arm) (t2 : Rat) (ivs : Rat → List Ival) : List Phase :=
  let th := handover ar.phases (ar.tau + t2) 0
  let st := evalPhases ar.x ar.phases th
  let total := profileTime ar.phases
  let keep := if total < th then ar.phases ++ [⟨th - total, 0, restOf ar, 0, 0⟩] else cutPhases ar.phases th
  match planPhases st.1 st.2.1 (ivs st.1) with
  | some ps => keep ++ ps
  | none =>
    match planPhases (restOf ar) 0 (ivs (restOf ar)) with
    | some ps => ar.phases ++ ps
    | none => ar.phases

/-- A profile over new stretches can follow the present one from its handover point, which lies no later than a coordinate (R113,
R129). -/
def profileMeets (ar : Arm) (t2 start : Rat) (ivs : Rat → List Ival) : Bool :=
  let st := evalPhases ar.x ar.phases (handover ar.phases (ar.tau + t2) 0)
  decide (st.1 ≤ start) && (planPhases st.1 st.2.1 (ivs st.1)).isSome

/-- The path coordinate at which the blend after the section of Stitch `pos` starts. -/
def blendStart (pos : Nat) (cs : List Sect) : Rat :=
  match cs.find? (fun c => c.isBlend && c.st.pos == pos) with
  | some b => b.x
  | none => 0

/-- A junction can be blended and still be met from the present profile: its new sections (R113, R120, R129). -/
def tryBlend (ar : Arm) (t2 : Rat) (held : Nat → Bool) (pos : Nat) (cs : Option (List Sect)) : Option (List Sect) :=
  match cs with
  | none => none
  | some l =>
    if profileMeets ar t2 (blendStart pos l) (fun x => stretchesFrom x false (runSects ar held l)) then some l else none

end Sys2Proof.Machine
end

