-- ==== Sys2Proof/Machine/Pln.lean ====
section
/-! DEFINITION. The planner's own operations: queue states, flags, zones, arm faults, stops, waits and what a Stitch does when
it is reached (R69, R80 to R107, R124 to R131, R136). -/

namespace Sys2Proof.Machine

/-- The queue flags of arm `a` (R109). -/
def bPQ (a : Nat) : Bank := ⟨R.PLN_Q_FLAGS a, R.PLN_Q_FLAG_CNT0 a, some (R.PLN_Q_EVMASK a), 0⟩

/-- The planner flags of arm `a` (R138). -/
def bPA (a : Nat) : Bank := ⟨R.PLN_ARM_FLAGS a, R.PLN_ARM_FLAG_CNT0 a, some (R.PLN_ARM_EVMASK a), 0⟩

/-- Raise flag `j` of PLN_Q_FLAGS; they raise E(16 + a). -/
def raiseQ (q : Plane) (a j : Nat) (s : State) : State := s.raise q (bPQ a) (16 + a) j

/-- Raise flag `j` of PLN_ARM_FLAGS; they raise E(16 + a). -/
def raiseA (q : Plane) (a j : Nat) (s : State) : State := s.raise q (bPA a) (16 + a) j

/-- The queue state of an arm: 0 IDLE, 1 RUNNING, 2 WAITING, 3 HOLDING, 4 HELD, 5 ENDED, 6 FAULT, 7 RESUMING (R100). -/
def qState (q : Plane) (a : Nat) (s : State) : Nat := s.get q (R.PLN_Q_STATUS a) F.PLN_Q_STATUS_STATE

/-- Another queue state. -/
def setQState (q : Plane) (a n : Nat) (s : State) : State := s.put q (R.PLN_Q_STATUS a) F.PLN_Q_STATUS_STATE n

/-- PLN_Q_STATUS.WAIT. -/
def setWaitCode (q : Plane) (a n : Nat) (s : State) : State := s.put q (R.PLN_Q_STATUS a) F.PLN_Q_STATUS_WAIT n

/-- The wait code of an arm: 1 DWELL, 2 WAITIO, 3 SYNC, 4 ZONE, 5 CKP_FULL, 6 STARVED, 7 LOOPS_OPEN, 8 RESUME. -/
def waitCode (q : Plane) (a : Nat) (s : State) : Nat := s.get q (R.PLN_Q_STATUS a) F.PLN_Q_STATUS_WAIT

/-- Refuse a queue command (R100). -/
def refuseQ (q : Plane) (a code : Nat) (s : State) : State :=
  s.refuse q (R.PLN_Q_STATUS a) F.PLN_Q_STATUS_REFUSE code (bPQ a) (16 + a) 13

/-- The arm's path stands still: the profile speed is 0. -/
def Arm.rests (ar : Arm) : Bool := decide (ar.v = 0)

/-- The CLE channels of an arm's declared joints and assigned external axes (R148, R527). DEDUCED, log 53. -/
def State.armChannels (s : State) (a : Nat) : List Nat :=
  (List.range (s.armTab a).joints.length).map (fun j => 8 * a + j) ++ (s.armTab a).ext

/-- Every channel of the arm is in a closed mode (R217, R527). -/
def armClosed (q : Plane) (a : Nat) (s : State) : Bool := (s.armChannels a).all (s.closedCh q)

/-- The other members of the arm's SYNC group (R126). -/
def mates (ar : Arm) (a : Nat) : List Nat := (bitsOf 16 ar.group).filter (· != a)

/-! ## Zones -/

/-- The register and bit of a zone in PLN_ARM_ZHELD0..2 (R104, R138). -/
def zoneBit (a z : Nat) : Nat × Nat :=
  if z < 36 then (R.PLN_ARM_ZHELD0 a, z) else if z < 64 then (R.PLN_ARM_ZHELD1 a, z - 36) else (R.PLN_ARM_ZHELD2 a, z - 64)

/-- The arm holds zone `z`. -/
def holdsZone (q : Plane) (a z : Nat) (s : State) : Bool := bitN (s.rd q (zoneBit a z).1).toNat (zoneBit a z).2

/-- The zones that an arm holds, ascending. -/
def heldZones (q : Plane) (a : Nat) (s : State) : List Nat := (List.range 80).filter (fun z => holdsZone q a z s)

/-- PLN_ZONE.WAITERS and PLN_ARM_ZWAIT follow the pending requests. -/
def showReqs (q : Plane) (s : State) : State :=
  let rs := (s.pln q).reqs
  let s1 := each (List.range 80) (fun z s =>
    s.put q (R.PLN_ZONE z) F.PLN_ZONE_WAITERS (min 17 (rs.filter (fun r => r.zone == z)).length)) s
  each (List.range 16) (fun a s => match rs.find? (fun r => !r.peer && r.arm == a) with
    | some r => s.wr q (R.PLN_ARM_ZWAIT a) (F.PLN_ARM_ZWAIT_ZONE.set (F.PLN_ARM_ZWAIT_VALID.set 0 1) r.zone)
    | none => s.wr q (R.PLN_ARM_ZWAIT a) 0) s1

/-- The pending requests are others. -/
def setReqs (q : Plane) (rs : List ZoneReq) (s : State) : State := showReqs q (s.setPln q { s.pln q with reqs := rs })

/-- Arm `a` holds zone `z` from now on (R128); ZONE_GRANTED. -/
def takeZone (q : Plane) (a z : Nat) (s : State) : State :=
  let b := zoneBit a z
  let s1 := s.put q b.1 ⟨b.2, b.2⟩ 1
  let s2 := s1.wr q (R.PLN_ZONE z) (F.PLN_ZONE_ARM.set (F.PLN_ZONE_PEER.set (F.PLN_ZONE_HELD.set (s1.rd q (R.PLN_ZONE z)) 1) 0) a)
  raiseA q a 4 s2

/-- The peer cell holds border zone `z` (R128, R132). -/
def peerTakes (q : Plane) (arm z : Nat) (s : State) : State :=
  s.wr q (R.PLN_ZONE z) (F.PLN_ZONE_ARM.set (F.PLN_ZONE_PEER.set (F.PLN_ZONE_HELD.set (s.rd q (R.PLN_ZONE z)) 1) 1) arm)

/-- Zone `z` has no holder. -/
def freeZone (q : Plane) (z : Nat) (s : State) : State :=
  s.wr q (R.PLN_ZONE z) (F.PLN_ZONE_ARM.set (F.PLN_ZONE_PEER.set (F.PLN_ZONE_HELD.set (s.rd q (R.PLN_ZONE z)) 0) 0) 0)

/-- Arm `a` releases zone `z` (R88); the peer of a border zone is told (R132). DEDUCED, log 52. -/
def releaseZone (q : Plane) (a z : Nat) (s : State) : State :=
  let b := zoneBit a z
  let s1 := freeZone q z (s.put q b.1 ⟨b.2, b.2⟩ 0)
  if z < 64 then s1 else s1.setPln q { s1.pln q with outbox := (s1.pln q).outbox ++ [.release (z - 64) a] }

/-- The request that an arm has pending, if any. -/
def armReq (q : Plane) (a : Nat) (s : State) : Option ZoneReq := (s.pln q).reqs.find? (fun r => !r.peer && r.arm == a)

/-- Zones that an arm holds or has requested (R124). -/
def zonesOf (q : Plane) (a : Nat) (s : State) : List Nat :=
  heldZones q a s ++ (match armReq q a s with
    | some r => [r.zone]
    | none => [])

/-! ## Waits, stops and faults -/

/-- A wait's timer stops, and its next evaluation compares with no earlier one (R90, R100, R526). -/
def Wait.freeze (w : Wait) (now : Nat) : Wait :=
  match w.deadline with
  | some d => { w with deadline := none, left := some (d - now), level := none }
  | none => { w with level := none }

/-- A frozen wait's timer runs on (R100). -/
def Wait.thaw (w : Wait) (now : Nat) : Wait :=
  match w.left with
  | some d => { w with deadline := some (now + d), left := none }
  | none => w

/-- The timer of the arm's wait, if it has one, stops. -/
def freezeWait (q : Plane) (a : Nat) (s : State) : State :=
  let ar := s.arm q a
  s.setArm q a { ar with wait := ar.wait.map (fun w => w.freeze s.now) }

/-- A wait begins: a RUNNING arm enters WAITING; in the other states the wait is frozen from the start (R100, R526). -/
def enterWait (q : Plane) (a code : Nat) (w : Wait) (s : State) : State :=
  let s1 := setWaitCode q a code (s.setArm q a { s.arm q a with wait := some w })
  if qState q a s1 = 1 then setQState q a 2 s1 else freezeWait q a s1

/-- The cause of a wait is removed: WAITING becomes RUNNING and the profile is planned on (R100). -/
def endWait (q : Plane) (a : Nat) (s : State) : State :=
  let s1 := setWaitCode q a 0 (s.setArm q a { s.arm q a with wait := none, dirty := true })
  if qState q a s1 = 2 then setQState q a 1 s1 else s1

/-- Acceleration and jerk limits in force where arms that share a path coordinate are: those of the present stretch, the least
of them all (R119, R126). DESIGN CHOICE, log 132. -/
def limitsHere (ars : List Arm) : Rat × Rat :=
  match ars.filterMap (fun ar => (stretchesFrom ar.x false ar.sects).find? (fun i => decide (i.len ≠ 0))) with
  | i :: rest => (ratMins i.a (rest.map (·.a)), ratMins i.j (rest.map (·.j)))
  | [] => (1, 1)

/-- The stop profile takes over from the present state, for the whole of a SYNC group on its shared parameter (R102, R119, R127). -/
def stopPath (q : Plane) (a : Nat) (s : State) : State :=
  let ar := s.arm q a
  let ms := a :: mates ar a
  let l := limitsHere (ms.map (s.arm q))
  let ps := stopPhases ar.x ar.v ar.acc l.1 l.2
  each ms (fun b s => s.setArm q b { s.arm q b with phases := ps, tau := 0, stopping := true }) s

/-- The other members of the group have been stopped by this one: SYNC_STOP (R102, R127). -/
def stopMates (q : Plane) (a : Nat) (s : State) : State := each (mates (s.arm q a) a) (fun b s => raiseA q b 0 s) s

/-- Set-points of the arm's loops with OFF_ON_STOP go to 0 (R136). -/
def processOff (q : Plane) (a : Nat) (s : State) : State :=
  let p := s.pln q
  s.setPln q { p with loops := p.loops.zipIdx.map (fun e =>
    if (s.armTab a).loops.contains e.2 && s.is q (R.PLN_PROC_CFG e.2) F.PLN_PROC_CFG_OFF_ON_STOP
    then { e.1 with value := 0, lock := none, ramp := none, out := 0 } else e.1) }

/-- An arm fault (R102, R526): the stop profile, FAULT, the code with the tag and header count of its Stitch, and the stop of
the group. A fault that no Stitch caused has code 0 in CLE_ARM_STATUS's favour and freezes the wait. DEDUCED, log 50. -/
def armFault (q : Plane) (a code tag pos : Nat) (redo : Option Stitch) (s : State) : State :=
  if qState q a s = 6 then s
  else
    let s1 := stopMates q a (stopPath q a s)
    let s2 := if code = 0 then freezeWait q a (if (s1.arm q a).ckpStop then setWaitCode q a 5 s1 else s1)
      else setWaitCode q a 0 (s1.setArm q a { s1.arm q a with wait := none })
    let s3 := s2.setArm q a { s2.arm q a with redo := redo, cleared := false, held := none, resume := none, resumeBy := none
                                              loopStop := false, ckpStop := false }
    let s4 := (s3.wr q (R.PLN_Q_FAULT a) (F.PLN_Q_FAULT_CODE.set (F.PLN_Q_FAULT_TAG.set 0 tag) code)).wr q
      (R.PLN_Q_FAULT_POS a) (F.PLN_Q_FAULT_POS_COUNT.set 0 pos)
    raiseQ q a 1 (processOff q a (setQState q a 6 s4))

/-- The fault of a Stitch that the arm has reached. -/
def stitchFault (q : Plane) (a code : Nat) (st : Stitch) (s : State) : State := armFault q a code st.tag st.pos (some st) s

/-- A wait times out (R86, R87, R90): a fault of the Stitch that began it. -/
def waitFault (q : Plane) (a code : Nat) (s : State) : State :=
  match (s.arm q a).wait with
  | some w => armFault q a code w.tag w.pos (s.arm q a).last s
  | none => s

/-- The rising edge of an inhibit sets INHIBIT (R124). -/
def setInhibit (q : Plane) (a : Nat) (f : Fld) (on : Bool) (s : State) : State :=
  if s.get q (R.PLN_ARM_INHIBIT a) f = b2n on then s
  else
    let s1 := s.put q (R.PLN_ARM_INHIBIT a) f (b2n on)
    if on then raiseA q a 2 s1 else s1

/-! ## What a Stitch does when it is reached -/

/-- The last published positions of an arm's joints and external axes, 16 words (R532). -/
def armPos (q : Plane) (a : Nat) (s : State) : List Word :=
  let t := s.armTab a
  (List.range 16).map (fun i =>
    if i < t.joints.length then axisPos q (8 * a + i) s
    else if 8 ≤ i then (match t.ext[i - 8]? with
      | some k => axisPos q k s
      | none => 0)
    else 0)

/-- The commanded positions of an arm's joints: its joint targets with KIND 0x2, else those the solve published. -/
def cmdJoints (q : Plane) (a : Nat) (s : State) : List Word :=
  if (s.arm q a).kind = 2 then (s.arm q a).joints else armPos q a s

/-- The checkpoint record of a LAYER (R103, R104). DEDUCED, log 47. -/
def layerRecord (q : Plane) (a : Nat) (st : Stitch) (s : State) : List Word :=
  let ar := s.arm q a
  let m := st.modal
  let t := htsOfPs s.now
  let nj := (s.armTab a).joints.length
  let body := [wordN (2 ^ 28 + 2 ^ 20 + a * 2 ^ 16 + 104 * 2 ^ 8), opW st.ops 1, lo72 s.n, hi72 s.n, lo72 t, hi72 t,
      wordN st.pos, wordN (ar.group * 2 ^ 16 + st.tag)]
    ++ (List.range 8).map (fun j => if j < nj then nth (cmdJoints q a s) j 0 else 0)
    ++ ar.pose ++ [wordN m.frame] ++ m.tool ++ [wordN ar.coupled] ++ m.limits ++ [m.tolPos, m.tolOri]
    ++ [s.rd q (R.PLN_ARM_ZHELD0 a), s.rd q (R.PLN_ARM_ZHELD1 a), s.rd q (R.PLN_ARM_ZHELD2 a)]
    ++ [s.rd q R.EST_CAL_GEN, 0, 0, 0]
    ++ (m.users.flatMap (fun u => u.getD (List.replicate 7 0)))
  body ++ [wordN (crc32 body)] ++ List.replicate 24 0

/-- Set, or clear, one bit of a store word. -/
def putStoreBit (q : Plane) (addr bit : Nat) (v : Bool) (s : State) : State :=
  let w := (s.sw q addr).toNat
  s.sput q addr (wordN (if v then setBitN w bit else clrBitN w bit))

/-- SETIO at reach: the bit enters the command image (R89, R91). -/
def reachSetio (q : Plane) (a : Nat) (st : Stitch) (s : State) : State :=
  let w := opW st.ops 1
  let v := bitN (opW st.ops 2).toNat 0
  if bitsAt w 34 2 = 0 then
    let p := s.pln q
    let k := bitsAt w 0 4
    s.setPln q { p with douts := if v then setBitN p.douts k else clrBitN p.douts k }
  else match stationBit (s.armTab a).outs w with
    | some b => putStoreBit q (s.cbus.txBase + b.place) b.bit v s
    | none => s

/-- A set-point stays at 0 while its arm stops, if the loop has OFF_ON_STOP (R528). -/
def loopBarred (q : Plane) (a loop : Nat) (s : State) : Bool :=
  (qState q a s == 3 || qState q a s == 6) && s.is q (R.PLN_PROC_CFG loop) F.PLN_PROC_CFG_OFF_ON_STOP

/-- PROC and PROCRAMP at reach: a ramp without speed lock starts at the set-point as it last was, one with it at the value that
the speed scales (R82, R83). DEDUCED, log 133. -/
def reachProc (q : Plane) (a : Nat) (st : Stitch) (s : State) : State :=
  let i := bitsAt (opW st.ops 1) 0 5
  let p := s.pln q
  let l := nth p.loops i Loop.initial
  let v := fixed (opW st.ops 2) 34
  let l' : Loop :=
    if st.op = .proc then
      let r := if st.feedLock then some (fixed (opW st.ops 3) 24) else none
      { l with value := v, lock := r, ref := if st.feedLock then r else l.ref, ramp := none }
    else
      let path := bitN (opW st.ops 1).toNat 35
      let w := opW st.ops 3
      let total : Rat := if path then fixed w 30 else (w.toNat : Rat) / 2 ^ 32
      let lock := if st.feedLock then l.ref else none
      if w = 0 then { l with value := v, lock := lock, ramp := none }
      else
        let start := if lock.isNone && l.lock.isSome then l.out else l.value
        { l with value := start, lock := lock, ramp := some ⟨start, v, path, total, 0, a⟩ }
  if loopBarred q a i s then s.setPln q { p with loops := p.loops.set i { l' with value := 0, lock := none, ramp := none, out := 0 } }
  else s.setPln q { p with loops := p.loops.set i l' }

/-- Arms waiting at a SYNC with an id, with the mode and mask each gave (R86). -/
def syncWaiters (q : Plane) (id : Nat) (s : State) : List (Nat × Nat × Nat) :=
  (List.range 16).filterMap (fun b =>
    if waitCode q b s = 3 then
      match (s.arm q b).wait with
      | some w => if nth w.args 0 0 = id then some (b, nth w.args 1 0, nth w.args 2 0) else none
      | none => none
    else none)

/-- The members of a group start or end on one path coordinate, 0, with the sections still ahead (R126). -/
def regroup (q : Plane) (mask : Nat) (on : Bool) (s : State) : State :=
  let sig := (s.arm q ((bitsOf 16 mask).headD 0)).sigma
  each (bitsOf 16 mask) (fun b s =>
    let ar := s.arm q b
    let cs := ar.sects.filter (fun c => decide (ar.x < c.x + c.w) || (decide (c.w = 0) && decide (ar.x ≤ c.x) && c.st.pos ∉ ar.cur))
    s.setArm q b { ar with group := if on then mask else 0, sects := layout on 0 cs, phases := [], tau := 0, x := 0, v := 0
                           acc := 0, sigma := if on then sig else ar.sigma, cur := none, dirty := true }) s

/-- Two arms that wait on one id, each with its mode and mask, mismatch: they differ, and one is in the mask of the other (R86).
DEDUCED, log 134. -/
def syncClash (x y : Nat × Nat × Nat) : Bool := decide (x.2 ≠ y.2) && (bitN x.2.2 y.1 || bitN y.2.2 x.1)

/-- SYNC at reach (R86): the wait, a mismatch that faults every arm on the id, or the release of all. -/
def reachSync (q : Plane) (a : Nat) (st : Stitch) (s : State) : State :=
  let id := bitsAt (opW st.ops 2) 0 16
  let mode := bitsAt (opW st.ops 1) 32 4
  let mask := bitsAt (opW st.ops 1) 0 16
  let w3 := opW st.ops 3
  if mode = 1 ∧ (s.arm q a).group ≠ 0 then stitchFault q a 0x0A st s
  else
    let w : Wait := ⟨[id, mode, mask], if w3 = 0 then none else some (s.now + psOfD36 w3), none, none, st.pos, st.tag⟩
    let s1 := enterWait q a 3 w s
    let ws := syncWaiters q id s1
    if ws.any (syncClash (a, mode, mask)) then each ws (fun e s => waitFault q e.1 0x0A s) s1
    else if (bitsOf 16 mask).all (fun b => ws.any (fun e => e.1 == b && e.2 == (mode, mask))) then
      let s2 := each (bitsOf 16 mask) (fun b s => endWait q b s) s1
      if mode = 1 then regroup q mask true s2 else if mode = 2 then regroup q mask false s2 else s2
    else s1

/-- Another member still has motion before its LEAVE while this one reaches its LEAVE or END (R126). -/
def groupUneven (q : Plane) (a : Nat) (s : State) : Bool :=
  (mates (s.arm q a) a).any (fun b =>
    ((s.arm q b).ahead.takeWhile (fun t => !(t.op == .sync && bitsAt (opW t.ops 1) 32 4 == 2))).any (fun t => isMotion t.op))

/-- SYNC_MISMATCH on every member of the group (R126). -/
def groupMismatch (q : Plane) (a : Nat) (s : State) : State :=
  each (bitsOf 16 (s.arm q a).group) (fun b s => match (s.arm q b).last with
    | some t => stitchFault q b 0x0A t s
    | none => armFault q b 0x0A 0 0 none s) s

/-- ZONE_ENTER at reach: nothing for a zone held, else the wait for the grant (R87). -/
def reachZone (q : Plane) (a : Nat) (st : Stitch) (s : State) : State :=
  let z := bitsAt (opW st.ops 1) 0 7
  let w2 := opW st.ops 2
  let ar := s.arm q a
  let stood := ar.sects.any (fun c => c.zone && decide (ar.cur = some c.st.pos))
  let s0 := if stood then raiseA q a 5 (s.setArm q a { ar with sects := ar.sects.map (fun c => { c with zone := false }) }) else s
  if holdsZone q a z s then s
  else enterWait q a 4 ⟨[z], if w2 = 0 then none else some (s.now + psOfD36 w2), none, none, st.pos, st.tag⟩ s0

/-- The checkpoint ring has no room beside the records that are to be written: it is full (R105). -/
def ckpFull (q : Plane) (a : Nat) (s : State) : Bool :=
  let lg := s.get q (R.PLN_CKP_CFG a) F.PLN_CKP_CFG_SIZE_LOG2
  decide (lg ≠ 0) && decide (lg < 9) && decide (2 ^ lg ≤ (s.get q (R.PLN_CKP_WR a) F.PLN_CKP_WR_COUNT + 2 ^ 32
    - s.get q (R.PLN_CKP_RD a) F.PLN_CKP_RD_COUNT) % 2 ^ 32 + (s.arm q a).records.length)

/-- The wait at a LAYER whose record has no room (R105): an arm that moves there is brought to rest first, and reaches no
further Stitch. DEDUCED, log 47. -/
def waitCkp (q : Plane) (a : Nat) (st : Stitch) (s : State) : State :=
  let w : Wait := ⟨[], none, none, none, st.pos, st.tag⟩
  if qState q a s = 1 ∧ !(s.arm q a).rests then
    let s1 := stopPath q a s
    s1.setArm q a { s1.arm q a with wait := some w, ckpStop := true }
  else enterWait q a 5 w s

/-- LAYER at reach: its record, and the calibration that it applies (R92, R103, R105, R194). -/
def reachLayer (q : Plane) (a : Nat) (st : Stitch) (s : State) : State :=
  let ar := s.arm q a
  let full := ckpFull q a s && s.is q (R.PLN_Q_CFG a) F.PLN_Q_CFG_CKP_FULL
  let s1 := s.setArm q a { ar with records := ar.records ++ [layerRecord q a st s], layer := some (opW st.ops 1) }
  let s2 := if bitN (opW st.ops 2).toNat 0 || s1.ag q R.EST_CFG F.EST_CFG_APPLY_AT_LAYER == 1 then
      s1.setPln q { s1.pln q with calib := true } else s1
  if full then waitCkp q a st s2 else s2

/-- The part of a Stitch that its opcode does at reach (R69 to R92). DEDUCED, log 47. DEDUCED, log 51. -/
def reachEffect (q : Plane) (a : Nat) (st : Stitch) (s : State) : State :=
  match st.op with
  | .nop | .frame | .limit | .blend => s
  | .line | .arc | .spline =>
    s.setArm q a { s.arm q a with cur := some st.pos, kind := 1, tool := st.modal.tool }
  | .joint =>
    let ar := s.arm q a
    let ext := bitsAt (opW st.ops 1) 8 8
    s.setArm q a { ar with cur := some st.pos, kind := 2, tool := st.modal.tool, moved := ar.moved ||| ext }
  | .dwell =>
    let w := opW st.ops 1
    if w = 0 then s else enterWait q a 1 ⟨[], some (s.now + psOfD36 w), none, none, st.pos, st.tag⟩ s
  | .couple =>
    let m := bitsAt (opW st.ops 1) 0 32
    s.setArm q a { s.arm q a with coupled := m, part := partNow q a s }
  | .proc | .procramp => reachProc q a st s
  | .trig =>
    let ar := s.arm q a
    s.setArm q a { ar with trigs := ar.trigs.map (fun t => if t.pos = st.pos then { t with armed := true } else t) }
  | .sync =>
    if (s.arm q a).group ≠ 0 && bitsAt (opW st.ops 1) 32 4 == 2 && groupUneven q a s then groupMismatch q a s
    else reachSync q a st s
  | .zoneEnter => reachZone q a st s
  | .zoneLeave =>
    let z := bitsAt (opW st.ops 1) 0 7
    if holdsZone q a z s then releaseZone q a z s else raiseQ q a 7 s
  | .waitio =>
    let w3 := opW st.ops 3
    enterWait q a 2 ⟨[(opW st.ops 1).toNat, bitsAt (opW st.ops 2) 0 2], if w3 = 0 then none else some (s.now + psOfD36 w3),
      none, none, st.pos, st.tag⟩ s
  | .setio => reachSetio q a st s
  | .layer => reachLayer q a st s
  | .mark => s.wr q (R.PLN_Q_MARK a) (opW st.ops 1)
  | .calibApply => s.setPln q { s.pln q with calib := true }
  | .finish =>
    if (s.arm q a).group ≠ 0 && groupUneven q a s then groupMismatch q a s
    else if qState q a s = 1 then raiseQ q a 2 (setQState q a 5 s)
    else s.setArm q a { s.arm q a with redo := some st }

/-- A Stitch is reached (R65, R67, R69, R93, R101): REACH and TAG, STITCH_EVENT, and its effect; one that faulted at decode
becomes the arm fault. -/
def reachStitch (q : Plane) (a : Nat) (st : Stitch) (s : State) : State :=
  let ar := s.arm q a
  let s1 := s.setArm q a { ar with ahead := ar.ahead.filter (fun t => t.pos != st.pos), last := some st }
  let s2 := (s1.put q (R.PLN_Q_REACH a) F.PLN_Q_REACH_COUNT ((st.pos + 1 + st.count) % 2 ^ 32)).put q (R.PLN_Q_TAG a)
    F.PLN_Q_TAG_TAG st.tag
  let s3 := if st.event then raiseQ q a 0 s2 else s2
  if st.fault ≠ 0 then stitchFault q a st.fault st s3 else reachEffect q a st s3

end Sys2Proof.Machine
end

