-- ==== Sys2Proof/Machine/Cle.lean ====
section
/-! DEFINITION. The control-law engines: channels, feedback and its loss, modes, stops and parameter blocks (R200 to R231). -/

namespace Sys2Proof.Machine

/-- The cycle flags of TIM, which raise E94 (R64, R360). -/
def bCYC : Bank := ⟨R.TIM_CYC_FLAGS, R.TIM_CYC_FLAG_CNT0, some R.TIM_EVMASK, 8⟩

/-- Raise flag `j` of TIM_CYC_FLAGS. -/
def raiseCyc (j : Nat) (s : State) : State := s.raise .a bCYC 94 j

/-- The engines of plane `q`. -/
def State.cle (s : State) (q : Plane) : CleSt := (s.rep q).cle

/-- The state with the engines of plane `q` replaced. -/
def State.setCle (s : State) (q : Plane) (x : CleSt) : State := s.setRep q { s.rep q with cle := x }

/-- Channel `c`. -/
def State.chan (s : State) (q : Plane) (c : Nat) : Chan := nth (s.cle q).chs c Chan.initial

/-- The state with channel `c` replaced. -/
def State.setChan (s : State) (q : Plane) (c : Nat) (x : Chan) : State :=
  s.setCle q { s.cle q with chs := (s.cle q).chs.set c x }

/-- The parameter block in force for channel `c`; empty where there is none (R227). -/
def State.block (s : State) (q : Plane) (c : Nat) : List Word := (nth (s.plane q).par c (0, [])).2

/-- The flags of channel `c` (R231). -/
def bCH (c : Nat) : Bank := ⟨R.CLE_CH_FLAGS c, R.CLE_CH_FLAG_CNT0 c, some (R.CLE_CH_EVMASK c), 0⟩

/-- Raise flag `j` of channel `c`: E(32 + ⌊c/24⌋) (R231). -/
def raiseC (q : Plane) (c j : Nat) (s : State) : State := s.raise q (bCH c) (32 + c / 24) j

/-- Raise flag `j` of a channel if `on`. -/
def raiseIf (q : Plane) (c j : Nat) (on : Bool) (s : State) : State := if on then raiseC q c j s else s

/-- Refuse on channel `c`. -/
def refuseC (q : Plane) (c code : Nat) (s : State) : State :=
  s.refuse q (R.CLE_CH_STATUS c) F.CLE_CH_STATUS_REFUSE code (bCH c) (32 + c / 24) 7

/-- The mode in force: 0 OFF, 1 MANUAL, 2 POSITION, 3 VELOCITY, 4 TORQUE, 5 FORCE (R217). -/
def chMode (q : Plane) (c : Nat) (s : State) : Nat := s.get q (R.CLE_CH_STATUS c) F.CLE_CH_STATUS_MODE

/-- A field of CLE_CH_STATUS changes. -/
def putCh (q : Plane) (c : Nat) (f : Fld) (n : Nat) (s : State) : State := s.put q (R.CLE_CH_STATUS c) f n

/-- The feedback state: 0 NORMAL, 1 PREDICT, 2 MODEL_HOLD, 3 LOST (R222). -/
def fbState (q : Plane) (c : Nat) (s : State) : Nat := s.get q (R.CLE_CH_STATUS c) F.CLE_CH_STATUS_FB_STATE

/-- A mode is closed (R217). -/
def isClosed (m : Nat) : Bool := decide (2 ≤ m) && decide (m ≤ 5)

/-- T_ch of channel `c`, in ps (R202). -/
def tch (q : Plane) (c : Nat) (s : State) : Nat := s.tcyc * 2 ^ s.get q (R.CLE_CH_STATUS c) F.CLE_CH_STATUS_RATE

/-! ## The command slots (R216) -/

/-- The address of the command image in force. -/
def cmdBase (q : Plane) (s : State) : Nat := (s.act q R.CLE_CMD_BASE).toNat / 2 ^ 10 * 2 ^ 10

/-- The control word of a channel, CLAMPED as given. -/
def ctlWord (q : Plane) (c : Nat) (clamped : Bool) (s : State) : Word :=
  let x := s.chan q c
  let m := chMode q c s
  let f := fbState q c s
  wordN (m * 2 ^ 33 + b2n (decide (m ≠ 0)) * 2 ^ 32 + b2n x.sto * 2 ^ 31 + b2n x.stopReq * 2 ^ 30 + x.stopCat * 2 ^ 28
    + b2n (f == 1 || f == 2) * 2 ^ 27 + b2n clamped * 2 ^ 26)

/-- The slot of channel `c` goes to the command image. -/
def writeSlot4 (q : Plane) (c : Nat) (s : State) : State := s.sputs q (cmdBase q s + 4 * c) (s.chan q c).slot

/-- A new slot of channel `c`: out, y3 before its clamp and CLAMPED. -/
def setSlot (q : Plane) (c : Nat) (out pre : Int) (clamped : Bool) (s : State) : State :=
  let w := [wordI out, wordI pre, ctlWord q c clamped s, 0]
  writeSlot4 q c ((s.setChan q c { s.chan q c with slot := w }).wr q (R.CLE_CH_OUT c) (wordI out))

/-- The control word follows a change of the stop or the mode; out and CLAMPED stay. -/
def touchSlot (q : Plane) (c : Nat) (s : State) : State :=
  let w := (s.chan q c).slot
  setSlot q c (nth w 0 0).toInt (nth w 1 0).toInt (bitN (nth w 2 0).toNat 26) s

/-! ## Stops (R224 to R226) -/

/-- The channels that a stop of an arm covers: axes 8a to 8a + 7, and the external axes assigned to it (R224). -/
def State.stopChannels (s : State) (a : Nat) : List Nat := (List.range 8).map (fun j => 8 * a + j) ++ (s.armTab a).ext

/-- An arm is declared in the device tables. -/
def State.armDeclared (s : State) (a : Nat) : Bool := (s.armTab a).joints != []

/-- The unit of a channel: its arm, or 16 + c where it belongs to none (R224). DEDUCED, log 53. -/
def unitOf (c : Nat) (s : State) : Nat :=
  match (List.range 16).find? (fun a => s.armDeclared a && (s.stopChannels a).contains c) with
  | some a => a
  | none => 16 + c

/-- The channels of a unit. DEDUCED, log 53. -/
def unitChannels (u : Nat) (s : State) : List Nat := if u < 16 then s.stopChannels u else [u - 16]

/-- The axis channels of a unit that the device tables declare: those that freeze, and must close again (R148, R223). DEDUCED,
log 53. -/
def unitAxes (u : Nat) (s : State) : List Nat := if u < 16 then s.armChannels u else [u - 16]

/-- The stop of unit `u`. -/
def State.stopOf (s : State) (q : Plane) (u : Nat) : StopUnit := nth (s.cle q).stops u ⟨0, 0, [], 0⟩

/-- The stop of unit `u` changes; an arm's shows in CLE_ARM_STATUS (R231). -/
def setStop (q : Plane) (u : Nat) (x : StopUnit) (s : State) : State :=
  let s1 := s.setCle q { s.cle q with stops := (s.cle q).stops.set u x }
  if u < 16 then (s1.put q (R.CLE_ARM_STATUS u) F.CLE_ARM_STATUS_STATE x.state).put q
    (R.CLE_ARM_STATUS u) F.CLE_ARM_STATUS_CAT x.cat
  else s1

/-- The source bits of CLE_ARM_STATUS.SOURCE: host, monitors, Warden, feedback loss. -/
def srcHost : Nat := 0
/-- Separation monitoring. -/
def srcSsm : Nat := 1
/-- The Warden. -/
def srcWarden : Nat := 2
/-- Feedback loss. -/
def srcLoss : Nat := 3

/-- A request of the host or for a feedback loss ends with the stop; the others stand until they are withdrawn. DEDUCED, log 54.
-/
def standsOn (src : Nat) : Bool := src == srcSsm || src == srcWarden

/-- A channel changes its mode, with MODE_CHANGED. -/
def newMode (q : Plane) (c m : Nat) (s : State) : State :=
  if chMode q c s = m then s else raiseC q c 12 (putCh q c F.CLE_CH_STATUS_MODE m s)

/-- A channel enters OFF: slot 0 at once (R219). -/
def enterOff (q : Plane) (c : Nat) (s : State) : State :=
  let s1 := newMode q c 0 (s.setChan q c (toOff (s.chan q c)))
  let s2 := putCh q c F.CLE_CH_STATUS_CLAMPED 0
    (putCh q c F.CLE_CH_STATUS_SS_ACTIVE 0 (putCh q c F.CLE_CH_STATUS_HO_ACTIVE 0 s1))
  setSlot q c 0 0 false s2

/-- The configured stop category of a unit: CLE_ARM_CFG, or the block of a channel that belongs to no arm (R224). -/
def configuredCat (q : Plane) (u : Nat) (s : State) : Nat :=
  let k := if u < 16 then s.ag q (R.CLE_ARM_CFG u) F.CLE_ARM_CFG_STOP_CAT else pB (s.block q (u - 16)) 4 18 2
  if k = 3 then 1 else k

/-- One channel of a unit takes part in a stop of the category from now on (R224, R225). DEDUCED, log 53. -/
def stopChannel (q : Plane) (cat : Nat) (first : Bool) (c : Nat) (s : State) : State :=
  let x := s.chan q c
  let m := chMode q c s
  if cat = 0 then enterOff q c (s.setChan q c { x with sto := true, stopReq := false, stopCat := 0, brake := none })
  else if fbState q c s = 3 then
    touchSlot q c (s.setChan q c { x with stopReq := true, stopCat := cat, brake := none })
  else if !first && x.brake.isSome then s.setChan q c { x with stopCat := cat }
  else if isClosed m then
    s.setChan q c { x with brake := some ⟨x.qsp, x.vff, x.vff, 0⟩, ss := none, ssDue := false, stopCat := cat }
  else s.setChan q c { x with stopCat := cat }

/-- The end of a unit's stop (R224, R225): STO and OFF as the category requires, and on every channel where STOP_TMAX has
expired; a LOST channel receives STO whatever the category. DEDUCED, log 55. -/
def endStop (q : Plane) (u : Nat) (expired : Bool) (s : State) : State :=
  let st := s.stopOf q u
  let s1 := each (unitChannels u s) (fun c s =>
    let lost := fbState q c s == 3
    let off := expired || decide (st.cat < 2)
    let s1 := s.setChan q c { s.chan q c with sto := off || lost || (s.chan q c).sto }
    let s2 := if off && decide (chMode q c s1 ≠ 0) then enterOff q c s1 else touchSlot q c s1
    raiseC q c 10 (putCh q c F.CLE_CH_STATUS_STOP_REQ 0 s2)) s
  setStop q u { st with state := 2, reqs := st.reqs.filter (fun r => standsOn r.1) } s1

/-- A stop ends once v(j) is 0 on every braking channel (R225). -/
def checkStop (q : Plane) (u : Nat) (s : State) : State :=
  if (s.stopOf q u).state = 1 ∧ (unitChannels u s).all (fun c => match (s.chan q c).brake with
      | some b => decide (b.v = 0)
      | none => true) then endStop q u false s
  else s

/-- A stop request (R224); one that a stop which has ended already serves stands on only where it must be withdrawn (R226): the
lowest category that stands governs; a stop begins, or a more severe category replaces the one in force. The PATH units of an
arm whose stop begins are cancelled at the commit (R259). DEDUCED, log 54. -/
def requestStop (q : Plane) (u cat src : Nat) (s : State) : State :=
  let st := s.stopOf q u
  let reqs := (src, cat) :: st.reqs.filter (fun r => r.1 != src)
  let low := reqs.foldl (fun m r => min m r.2) 2
  let s1 := if u < 16 then s.put q (R.CLE_ARM_STATUS u) ⟨28 + src, 28 + src⟩ 1 else s
  if st.state = 2 ∧ st.cat ≤ low then setStop q u { st with reqs := reqs.filter (fun r => standsOn r.1) } s1
  else if st.state ≠ 0 ∧ st.cat ≤ low then setStop q u { st with reqs := reqs } s1
  else
    let first := decide (st.state ≠ 1)
    let s2 := setStop q u { state := 1, cat := low, reqs := reqs, since := if first then s.now else st.since } s1
    let s3 := if first ∧ u < 16 then s2.setPln q { s2.pln q with cancels := (s2.pln q).cancels ++ [u] } else s2
    let s4 := each (unitChannels u s) (fun c s => putCh q c F.CLE_CH_STATUS_STOP_REQ 1 (stopChannel q low first c s)) s3
    if low = 0 then checkStop q u s4 else s4

/-- A standing request is withdrawn; the lowest that is left governs. DEDUCED, log 54. -/
def withdrawStop (q : Plane) (u src : Nat) (s : State) : State :=
  let st := s.stopOf q u
  setStop q u { st with reqs := st.reqs.filter (fun r => r.1 != src) } s

/-- The Warden requests the configured stop of every arm (R30, R48, R224). -/
def wardenStop (q : Plane) (s : State) : State :=
  each (List.range 16) (fun a s => requestStop q a (configuredCat q a s) srcWarden s) s

/-- CLEAR (R226): a channel held in category 2 returns to its set-point source through a soft start. DEDUCED, log 53. -/
def clearStop (q : Plane) (u : Nat) (s : State) : State :=
  let s1 := each (unitChannels u s) (fun c s =>
    let x := s.chan q c
    let y := { x with sto := false, stopReq := false, stopCat := 0, brake := none }
    touchSlot q c (s.setChan q c (if x.brake.isSome && isClosed (chMode q c s) then { y with ssDue := true } else y))) s
  let s2 := setStop q u ⟨0, 0, [], 0⟩ s1
  if u < 16 then s2.put q (R.CLE_ARM_STATUS u) F.CLE_ARM_STATUS_SOURCE 0 else s2

/-! ## Feedback (R203 to R205, R221 to R223) -/

/-- A sample of a channel in a cycle: whether feedback has arrived, whether it is fresh, and the reports of R221; its raw count
and velocity words. -/
structure FbSample where
  arrived : Bool
  fresh : Bool
  amp : Bool
  invalid : Bool
  crc : Bool
  raw : Int
  vel : Int
  deriving DecidableEq, Repr

/-- A mapped station word in the present cycle (R205, R326). -/
def stationWord (q : Plane) (t : StnWord) (s : State) : FbSample :=
  let a := s.cbus.imgBase + t.ofs
  let st := s.sw q a
  let now := decide (bitsAt st 0 16 = s.n % 2 ^ 16)
  let arr := now && bitsAt st 35 1 == 1
  let inv := arr && bitsAt st (16 + t.group) 1 == 1
  ⟨now, arr && bitsAt st 34 1 == 0 && !inv, false, inv, s.cbus.crcFails.contains (t.bus, t.station),
    (s.sw q (a + 1 + t.word)).toInt, 0⟩

/-- A PIF sample in the present cycle (R205, R245). -/
def pifWord (q : Plane) (p : Nat) (s : State) : FbSample :=
  let a := s.sense.smpBase / 128 * 128 + 4 * p
  let st := s.sw q (a + 3)
  let now := decide (bitsAt st 0 16 = s.n % 2 ^ 16)
  ⟨now, now && bitsAt st 35 1 == 1, now && bitsAt st 32 1 == 1, false, false, int72 (s.sw q a) (s.sw q (a + 1)),
    (s.sw q (a + 2)).toInt⟩

/-- What the device tables map to channel `c`. -/
def State.chanTab (s : State) (c : Nat) : ChanTab := nth s.tab.chans c ⟨none, none, none, none, none⟩

/-- The sample of channel `c` (R203); none where nothing is mapped. -/
def chanSample (q : Plane) (c : Nat) (s : State) : Option FbSample :=
  let b := s.block q c
  if b = [] then none
  else if pB b 0 13 1 = 1 then some (pifWord q (pB b 0 8 5) s)
  else (s.chanTab c).pos.map (fun t => stationWord q t s)

/-- The extended count of a channel after a fresh sample: a station word of an axis is unwrapped (R203). -/
def unwrap (b : List Word) (x : FbSample) (c : Chan) : Chan :=
  if pB b 0 13 1 = 1 ∨ pKind b = 2 then { c with count := x.raw }
  else
    let w := wordI x.raw
    { c with count := match c.word with
               | none => x.raw
               | some v => c.count + (w - v).toInt
             word := some w }

/-- The measured value of a count, before its saturation (R203). -/
def rawMeas (b : List Word) (count : Int) : Int := rneShift (count * pI b 1) (pB b 2 0 6) + pI b 3

/-- v_m of a fresh sample (R204), with the new measured value `m`. -/
def measVel (q : Plane) (b : List Word) (c : Nat) (m : Int) (s : State) : Int :=
  let lsb : Nat := if pKind b = 0 then 4 else if pKind b = 1 then 6 else 0
  let x := s.chan q c
  match pB b 0 14 2, x.meas with
  | 0, some _ =>
    let g : Int := if pKind b = 0 then 62500000 else if pKind b = 1 then 15625000 else 1000000000
    sat36 (rneDiv ((m - x.prev.1) * g) ((s.ct0 - x.prev.2) / 1000))
  | 1, some _ => match (s.chanTab c).vel with
    | some t => sat36 (rneShift ((stationWord q t s).raw * pI b 1) ((pB b 2 0 6 + lsb : Nat) : Int))
    | none => 0
  | 2, some _ => (pifWord q (pB b 0 8 5) s).vel
  | _, _ => 0

/-- A fresh sample is measured: the unwrapped count, q_m and v_m, which are the last fresh values, FROZEN's count, VEL_VALID
(R203, R204, R221, R222). The values are not yet in force. DEDUCED, log 56. -/
def measure (q : Plane) (c : Nat) (x : FbSample) (s : State) : Int × Int × State :=
  let b := s.block q c
  let y := unwrap b x (s.chan q c)
  let raw := rawMeas b y.count
  let m := sat36 raw
  let v := measVel q b c m s
  let same := match y.meas with
    | some o => decide (o = m)
    | none => false
  let moving := decide ((pI b 5) < (if y.vcmd < 0 then -y.vcmd else y.vcmd))
    && decide ((pI b 6) < (if y.torq < 0 then -y.torq else y.torq))
  let fn := atLeast1 (pB b 4 24 8)
  let still := if !same then 0 else if moving then y.still + 1 else if fn ≤ y.still then y.still else 0
  let s1 := s.setChan q c { y with meas := some m, qf := m, vf := v, still := still, stale := 0 }
  let s2 := if y.meas.isSome then putCh q c F.CLE_CH_STATUS_VEL_VALID 1 s1 else s1
  (m, v, raiseIf q c 4 (over36 raw) s2)

/-- A measured value comes into force (R205). -/
def takeMeas (q : Plane) (c : Nat) (m v : Int) (s : State) : State :=
  let s1 := (s.wr q (R.CLE_CH_MEAS c) (wordI m)).wr q (R.CLE_CH_VEL c) (wordI v)
  putCh q c F.CLE_CH_STATUS_POS_VALID 1 s1

/-- Two units share a zone, a declared separation pair or a SYNC group (R124). -/
def armsShare (q : Plane) (a b : Nat) (s : State) : Bool :=
  (zonesOf q a s).any (fun z => (zonesOf q b s).contains z) || s.tab.pairs.contains (a, b) || s.tab.pairs.contains (b, a)
    || (mates (s.arm q a) a).contains b

/-- The frozen axes show in SLV_FREEZE (R148). -/
def showFrozen (q : Plane) (s : State) : State :=
  let axes := ((s.cle q).frozen.flatMap (fun u => unitAxes u s)).filter (fun c => decide (c < 160))
  each (List.range 5) (fun m s => s.wr q (R.SLV_FREEZE m)
    (wordN (maskOf ((axes.filter (fun i => decide (i / 32 = m))).map (fun i => i % 32))))) s

/-- FEEDBACK_LOST (R223): the unit freezes, arms that share with it are inhibited, its planner faults, and its stop is
requested. -/
def loseFeedback (q : Plane) (c : Nat) (s : State) : State :=
  let u := unitOf c s
  let s1 := raiseC q c 2 s
  let s2 := if c < 160 ∧ !(s1.cle q).frozen.contains u then
      showFrozen q (s1.setCle q { s1.cle q with frozen := (s1.cle q).frozen ++ [u] }) else s1
  let s3 := if u < 16 then
      let sh := (List.range 16).filter (fun b => decide (b ≠ u) && armsShare q u b s2)
      let s3 := each sh (fun b s => setInhibit q b F.PLN_ARM_INHIBIT_FB_LOST true
        (s.setPln q { s.pln q with fbLost := (s.pln q).fbLost ++ [(b, u)] })) s2
      (armFault q u 0 0 0 none s3).put q (R.CLE_ARM_STATUS u) F.CLE_ARM_STATUS_LOST_CH c
    else s2
  let s4 := requestStop q u (configuredCat q u s3) srcLoss s3
  let x := s4.chan q c
  if x.brake.isSome then touchSlot q c (s4.setChan q c { x with brake := none, stopReq := true }) else s4

/-- The end of freezing: every axis channel of the unit is closed again in NORMAL (R148, R223). -/
def unfreeze (q : Plane) (u : Nat) (s : State) : State :=
  let cs := unitAxes u s
  if (s.cle q).frozen.contains u ∧ cs.all (fun c => s.closedCh q c && fbState q c s == 0) then
    let s1 := s.setCle q { s.cle q with frozen := (s.cle q).frozen.filter (· != u) }
    let s2 := s1.setRep q { s1.rep q with slv := { (s1.rep q).slv with left := (s1.rep q).slv.left ++ cs } }
    showFrozen q s2
  else s

/-- The FB_LOST inhibits end whose arm is closed again and has left FAULT (R124). -/
def checkInhibits (q : Plane) (s : State) : State :=
  let ps := (s.pln q).fbLost
  let keep := ps.filter (fun e => !(armClosed q e.2 s && qState q e.2 s != 6))
  let s1 := s.setPln q { s.pln q with fbLost := keep }
  each ((ps.map (·.1)).filter (fun b => !(keep.map (·.1)).contains b))
    (fun b s => setInhibit q b F.PLN_ARM_INHIBIT_FB_LOST false s) s1

/-- A cause of R221 that stands, but STALE: FROZEN, AMPLITUDE, INVALID or CRC; 0 for none. DEDUCED, log 56. -/
def hardCause (b : List Word) (c : Chan) : Nat :=
  if atLeast1 (pB b 4 24 8) ≤ c.still then 2
  else if c.ampBad then 3 else if c.invBad then 4
  else if min 8 (atLeast1 (pB b 4 20 4)) ≤ (c.crc.filter id).length then 5 else 0

/-- The reports of a run: the CRC failures of the last 8 runs, and AMPLITUDE and INVALID, which stand until a good amplitude and until a
fresh sample (R221). -/
def noteReports (x : FbSample) (c : Chan) : Chan :=
  { c with
    crc := (x.crc :: c.crc).take 8
    ampBad := if x.arrived then x.amp else c.ampBad
    invBad := !x.fresh && (x.invalid || c.invBad) }

/-- A run of a closed channel on prediction; FB_LATE where it has no fresh sample (R222, R63). -/
def predict (q : Plane) (c : Nat) (fresh : Bool) (s : State) : State :=
  let b := s.block q c
  let x := s.chan q c
  let t : Rat := (tch q c s : Rat) / 10 ^ 12
  let lsb : Nat := if pKind b = 0 then 4 else if pKind b = 1 then 6 else 0
  let m := sat36 (x.qf + rneRat ((x.vf : Rat) * 2 ^ lsb * (x.stale : Nat) * t))
  let s1 := raiseC q c 0 ((s.wr q (R.CLE_CH_MEAS c) (wordI m)).wr q (R.CLE_CH_VEL c) (wordI x.vf))
  if fresh then s1 else raiseCyc 4 s1

/-- An open channel: no cause is evaluated, and a fresh sample ends a prediction (R221, R222). DEDUCED, log 56. -/
def feedbackOpen (q : Plane) (c : Nat) (fresh : Bool) (m v : Int) (s0 : State) : State :=
  let s := s0.setChan q c { s0.chan q c with ampBad := false, invBad := false }
  if !fresh then s
  else if fbState q c s = 3 then takeMeas q c m v s
  else takeMeas q c m v (putCh q c F.CLE_CH_STATUS_CAUSE 0 (putCh q c F.CLE_CH_STATUS_HOLD_CNT 0 (putCh q c F.CLE_CH_STATUS_FB_STATE 0 s)))

/-- The feedback state of a run (R221, R222). DEDUCED, log 56. -/
def feedbackRun (q : Plane) (c : Nat) (s0 : State) : State :=
  match chanSample q c s0 with
  | none => s0
  | some x =>
    let b := s0.block q c
    let ch := noteReports x (s0.chan q c)
    let s1 := raiseIf q c 3 x.crc (s0.setChan q c { ch with stale := ch.stale + 1 })
    let mv := if x.fresh then measure q c x s1 else (0, 0, s1)
    let s := mv.2.2
    let fs := fbState q c s
    if !s.closedCh q c then feedbackOpen q c x.fresh mv.1 mv.2.1 s
    else if fs = 3 then s
    else
      let hard := hardCause b (s.chan q c)
      let cause := if hard ≠ 0 then hard else if 2 ≤ (s.chan q c).stale then 1 else 0
      let hold := s.get q (R.CLE_CH_STATUS c) F.CLE_CH_STATUS_HOLD_CNT
      let next := if x.fresh && hard == 0 then 0
        else if fs = 2 then (if atLeast1 (pB b 4 32 4) ≤ hold then 3 else 2)
        else if hard ≠ 0 ∨ fs = 1 then 2 else 1
      let s2 := putCh q c F.CLE_CH_STATUS_CAUSE cause (putCh q c F.CLE_CH_STATUS_FB_STATE next s)
      match next with
      | 0 => takeMeas q c mv.1 mv.2.1 (putCh q c F.CLE_CH_STATUS_HOLD_CNT 0 s2)
      | 1 => predict q c x.fresh s2
      | 2 =>
        let s3 := if fs = 2 then s2 else raiseC q c 1 s2
        predict q c x.fresh (putCh q c F.CLE_CH_STATUS_HOLD_CNT (if fs = 2 then hold + 1 else 1) s3)
      | _ => loseFeedback q c s2

/-- The feedback of a run, and q_m with its cycle start for the velocity of the next (R204). -/
def feedback (q : Plane) (c : Nat) (s : State) : State :=
  let s1 := feedbackRun q c s
  s1.setChan q c { s1.chan q c with prev := ((s1.rd q (R.CLE_CH_MEAS c)).toInt, s1.ct0) }

/-! ## A run (R201, R202) -/

/-- The words that a run reads (R202, R210, R214). -/
def runInputs (q : Plane) (c : Nat) (s : State) : Inputs :=
  let base := (s.act q R.SLV_RES_BASE).toNat / 4096 * 4096 + 2048 * s.get q R.SLV_RES_SEL F.SLV_RES_SEL_SEL + 8 * c
  let w := fun k => if c < 160 then (s.sw q (base + k)).toInt else 0
  let t := s.chanTab c
  let v := t.vdc.map (fun t => stationWord q t s)
  { p := w 0, v := w 1, a := w 2, tdyn := w 3, tgrav := w 4
    psp := (nth (s.cle q).psp (c - 160) 0).toInt
    sp := (s.act q (R.CLE_CH_SP c)).toInt, manual := (s.act q (R.CLE_CH_MANUAL c)).toInt
    force := match t.force with
      | some f => (stationWord q f s).raw
      | none => 0
    vdc := match v with
      | some x => (wordI x.raw).toNat
      | none => 0
    vdcFresh := match v with
      | some x => x.fresh
      | none => false
    t := (tch q c s : Rat) / 10 ^ 12
    qm := (s.rd q (R.CLE_CH_MEAS c)).toInt, vm := (s.rd q (R.CLE_CH_VEL c)).toInt }

/-- One run of braking: v(j) and the set-point that follows it (R225). DEDUCED, log 55. DEDUCED, log 57. -/
def brakeStep (q : Plane) (c : Nat) (b : Brake) (s : State) : Brake :=
  let p := s.block q c
  let t : Rat := (tch q c s : Rat) / 10 ^ 12
  let lsb : Nat := if pKind p = 0 then 4 else if pKind p = 1 then 6 else 0
  let j := b.j + 1
  let dec : Rat := (pI p 7 : Rat) * 2 ^ 8 * j * t
  let v0 : Rat := absQ b.v0
  let left := if dec < v0 then v0 - dec else 0
  let v := sgnI b.v0 * left
  ⟨sat36 (b.q + rneRat (v * t * 2 ^ lsb)), b.v0, v, j⟩

/-- The inputs of a run with the set-point of the braking, if the channel brakes (R225). -/
def brakeInputs (x : Chan) (i : Inputs) : Inputs :=
  match x.brake with
  | some b => { i with p := b.q, v := rneRat b.v, a := 0 }
  | none => i

/-- The set-point source of a run: a braking channel follows its own set-point. -/
def runSrc (q : Plane) (c : Nat) (s : State) : Nat :=
  if (s.chan q c).brake.isSome then 0 else s.get q (R.CLE_CH_STATUS c) F.CLE_CH_STATUS_SP_SRC

/-- The reason for which a mode request is refused, but for the hand-over (R218); 0 for none. -/
def modeRefusal (q : Plane) (c m : Nat) (s : State) : Nat :=
  let u := unitOf c s
  let st := (s.stopOf q u).state
  if 5 < m then 1
  else if m = 5 ∧ 160 ≤ c then 2
  else if isClosed m && s.get q (R.CLE_CH_STATUS c) F.CLE_CH_STATUS_POS_VALID == 0 then 3
  else if m ≠ 0 ∧ fbState q c s = 3 then 4
  else if (if u < 16 then st ≠ 0 else st = 1) then 5
  else if m ≠ 0 ∧ s.block q c = [] then 7
  else 0

/-- A mode change that is carried out: the channel as prepared, its mode and source in force (R219). -/
def putMode (q : Plane) (c m src : Nat) (x : Chan) (s : State) : State :=
  putCh q c F.CLE_CH_STATUS_SP_SRC src (newMode q c m (s.setChan q c x))

/-- A mode request taken at the channel's run (R218 to R220). -/
def takeMode (q : Plane) (c m src : Nat) (i : Inputs) (s : State) : State :=
  let b := s.block q c
  let x := s.chan q c
  let old := chMode q c s
  let code := modeRefusal q c m s
  if code ≠ 0 then refuseC q c code s
  else
    let s1 := if unitOf c s < 16 ∨ (s.stopOf q (unitOf c s)).state = 0 then s else clearStop q (unitOf c s) s
    if m = 0 then
      let lost := decide (fbState q c s1 = 3)
      let s2 := if lost then putCh q c F.CLE_CH_STATUS_POS_VALID 0 (putCh q c F.CLE_CH_STATUS_CAUSE 0
          (putCh q c F.CLE_CH_STATUS_HOLD_CNT 0 (putCh q c F.CLE_CH_STATUS_FB_STATE 0 s1))) else s1
      putCh q c F.CLE_CH_STATUS_SP_SRC src (enterOff q c s2)
    else if m = old ∧ src = s.get q (R.CLE_CH_STATUS c) F.CLE_CH_STATUS_SP_SRC then s1
    else if old = 0 then putMode q c m src (changing m true x) s1
    else
      let h := handOver b m src true i x
      if isClosed m && decide (absQ (pI b 12 : Rat) < absQ h.1) then raiseC q c 6 (refuseC q c 6 s1)
      else putMode q c m src h.2 s1

/-- The run of the stages, with the slot, the flags and the status fields they set (R208 to R216). -/
def runChannelStages (q : Plane) (c : Nat) (i : Inputs) (s : State) : State :=
  let r := runStages (s.block q c) (chMode q c s) (runSrc q c s) i (s.chan q c)
  let s1 := s.setChan q c r.c
  let ex := fun (e : Int) => (e + 256).toNat % 256
  let s2 := s1.wr q (R.CLE_CH_EXP c) (F.CLE_CH_EXP_S1.set (F.CLE_CH_EXP_S2.set (F.CLE_CH_EXP_S3.set 0 (ex r.c.e3)) (ex r.c.e2)) (ex r.c.e1))
  let s3 := putCh q c F.CLE_CH_STATUS_SS_ACTIVE (b2n r.c.ss.isSome) (putCh q c F.CLE_CH_STATUS_HO_ACTIVE (b2n r.c.hand.isSome)
    (putCh q c F.CLE_CH_STATUS_CLAMPED (b2n r.clamped) s2))
  setSlot q c r.out r.pre r.clamped (raiseIf q c 9 r.ssDone (raiseIf q c 11 r.vdc (raiseIf q c 5 r.clamped (raiseIf q c 4 r.sat s3))))

/-- The braking of a run: a channel in TORQUE or FORCE first changes to VELOCITY, and at the end of category 2 one in VELOCITY
changes to POSITION to hold its set-point, both without the HANDOVER_MAX refusal (R224, R225). DEDUCED, log 55. -/
def runBrake (q : Plane) (c : Nat) (s : State) : State :=
  match (s.chan q c).brake with
  | none => s
  | some b =>
    let s1 := s.setChan q c { s.chan q c with brake := some (brakeStep q c b s) }
    let x := s1.chan q c
    let change := fun (m : Nat) (soft : Bool) =>
      newMode q c m (s1.setChan q c (handOver (s1.block q c) m 0 soft (brakeInputs x (runInputs q c s1)) x).2)
    let m := chMode q c s1
    let st := s1.stopOf q (unitOf c s1)
    if m = 4 ∨ m = 5 then change 3 false
    else if m = 3 ∧ st.state = 2 ∧ st.cat = 2 then change 2 true
    else s1

/-- Whether channel `c` runs in the present cycle and has not yet (R202). -/
def runDue (q : Plane) (c : Nat) (s : State) : Bool :=
  decide (s.cyc.starts ≠ 0) && decide ((s.chan q c).ran ≠ s.cyc.starts)
    && decide (s.n % 2 ^ s.get q (R.CLE_CH_STATUS c) F.CLE_CH_STATUS_RATE = s.get q (R.CLE_CH_STATUS c) F.CLE_CH_STATUS_PHASE)

/-- A run of a channel (R201): its feedback, its braking, the requests whose commit has passed, its stages and its slot. -/
def runChannel (q : Plane) (c : Nat) (s0 : State) : State :=
  if !runDue q c s0 then s0
  else
    let here := match chanSample q c s0 with
      | some x => x.arrived
      | none => false
    let s := if here then s0 else s0.toTime (s0.atOfs R.TIM_CYC_ACT_FB_DEADLINE)
    let s1 := runBrake q c (feedback q c (s.setChan q c { s.chan q c with ran := s.cyc.starts }))
    let s2 := each (s1.chan q c).due (fun r s => takeMode q c r.1 r.2 (brakeInputs (s.chan q c) (runInputs q c s)) s)
      (s1.setChan q c { s1.chan q c with due := [] })
    let m := chMode q c s2
    let s3 := if m = 0 then setSlot q c 0 0 false (putCh q c F.CLE_CH_STATUS_CLAMPED 0 s2)
      else if fbState q c s2 = 3 then touchSlot q c s2
      else runChannelStages q c (brakeInputs (s2.chan q c) (runInputs q c s2)) s2
    let u := unitOf c s3
    checkInhibits q (unfreeze q u (checkStop q u s3))

/-- CHANNEL_RUN (R201). DEDUCED, log 56. -/
def execChannelRun (c : Fin 192) (s : State) : Host.Outcome State Fault Refusal := settled (s.onChanter (fun q s => runChannel q c s))

/-- STOP_TMAX: the stop ends with STO on every channel of the unit (R225). DEDUCED, log 55. -/
def execStopTmax (c : Fin 192) (s : State) : Host.Outcome State Fault Refusal :=
  settled (s.onChanter (fun q s =>
    let u := unitOf c s
    let st := s.stopOf q u
    if st.state = 1 then endStop q u true (s.toTime (st.since + psOfD36 (nth (s.block q c) 8 0))) else s))

/-! ## Registers -/

/-- A write of CLE_CH_MODE is one request, and the register shows it (R14, R218). -/
def writeMode (q : Plane) (c m src : Nat) (s : State) : State :=
  ((s.setChan q c { s.chan q c with req := some (m, src) }).put q (R.CLE_CH_MODE c) F.CLE_CH_MODE_MODE m).put q (R.CLE_CH_MODE c)
    F.CLE_CH_MODE_SP_SRC src

/-- MODE_REQUEST (R218). -/
def execModeRequest (c : Fin 192) (m : BitVec 3) (src : Bool) (s : State) : Host.Outcome State Fault Refusal :=
  settled (s.onChanter (fun q s => writeMode q c m.toNat (b2n src) s))

/-- A write of CLE_CH_CFG (R202): a RATE or PHASE out of range, or a change of either while the channel is closed, is refused
and the value in force stays. DEDUCED, log 59. -/
def writeChCfg (q : Plane) (c : Nat) (v : Word) (s : State) : State :=
  let k := F.CLE_CH_CFG_RATE.get v
  let p := F.CLE_CH_CFG_PHASE.get v
  let r := R.CLE_CH_CFG c
  let keep := s.put q r F.CLE_CH_CFG_PARSEL (F.CLE_CH_CFG_PARSEL.get v)
  if k = 7 ∨ 2 ^ k ≤ p then refuseC q c 9 keep
  else if s.closedCh q c ∧ (k ≠ s.get q r F.CLE_CH_CFG_RATE ∨ p ≠ s.get q r F.CLE_CH_CFG_PHASE) then refuseC q c 10 keep
  else ((keep.setChan q c { keep.chan q c with cfgRefused := none }).put q r F.CLE_CH_CFG_RATE k).put q r F.CLE_CH_CFG_PHASE p

/-- CH_CFG_WRITE (R202). -/
def execChCfgWrite (c : Fin 192) (v : Word) (s : State) : Host.Outcome State Fault Refusal :=
  settled (s.onChanter (fun q s => writeChCfg q c v s))

/-- A command of CLE_ARM_CMD (R224, R226, R231). -/
def armCmd (q : Plane) (a code : Nat) (s0 : State) : State :=
  let s := s0.put q (R.CLE_ARM_CMD a) F.CLE_ARM_CMD_CODE code
  match code with
  | 0 => s
  | 4 =>
    let st := s.stopOf q a
    if st.state = 1 ∨ st.reqs ≠ [] then s.put q (R.CLE_ARM_STATUS a) F.CLE_ARM_STATUS_REFUSE 1 else clearStop q a s
  | _ => if code ≤ 3 then requestStop q a (code - 1) srcHost s else s.put q (R.CLE_ARM_STATUS a) F.CLE_ARM_STATUS_REFUSE 2

/-- STOP0 (R224). -/
def execStop0 (a : Fin 16) (s : State) : Host.Outcome State Fault Refusal := settled (s.onChanter (fun q s => armCmd q a 1 s))

/-- STOP1 (R224). -/
def execStop1 (a : Fin 16) (s : State) : Host.Outcome State Fault Refusal := settled (s.onChanter (fun q s => armCmd q a 2 s))

/-- STOP2 (R224). -/
def execStop2 (a : Fin 16) (s : State) : Host.Outcome State Fault Refusal := settled (s.onChanter (fun q s => armCmd q a 3 s))

/-- CLEAR (R226). -/
def execArmStopClear (a : Fin 16) (s : State) : Host.Outcome State Fault Refusal := settled (s.onChanter (fun q s => armCmd q a 4 s))

/-- A reserved code of CLE_ARM_CMD is refused with REFUSE = 0x2 (R231). -/
def execArmCmdReserved (a : Fin 16) (code : BitVec 4) (s : State) : Host.Outcome State Fault Refusal :=
  settled (s.onChanter (fun q s => armCmd q a code.toNat s))

/-! ## The commit (R59, R218, R227) -/

/-- The block that CLE_CH_CFG.PARSEL names in the store (R227). -/
def parWords (q : Plane) (c h : Nat) (s : State) : List Word :=
  s.swords q ((s.act q R.CLE_PAR_BASE).toNat / 2 ^ 15 * 2 ^ 15 + 128 * c + 64 * h) 64

/-- Channel `c` of plane `q` takes a block into CLE SRAM. -/
def putPar (q : Plane) (c k : Nat) (b : List Word) (s : State) : State :=
  let p := s.plane q
  s.setPlane q { p with par := p.par.set c (k, b) }

/-- PARAM_BLOCK_COPY: the block is checked and copied (R227). DEDUCED, log 59. -/
def takeBlock (q : Plane) (c h : Nat) (s0 : State) : State :=
  let s := s0.blockRead q ((s0.act q R.CLE_PAR_BASE).toNat / 2 ^ 15 * 2 ^ 15 + 128 * c + 64 * h) 64
  let b := parWords q c h s
  let old := s.block q c
  let bad := fun code s => raiseC q c 8 (putCh q c F.CLE_CH_STATUS_REFUSE code s)
  if !blockOk c b then bad 7 s
  else if s.closedCh q c && decide (old ≠ []) && decide (blockFixed b ≠ blockFixed old) then bad 8 s
  else
    let x := s.chan q c
    putCh q c F.CLE_CH_STATUS_PAR_ACT h (putPar q c (x.loads + 1) b (s.setChan q c { x with loads := x.loads + 1 }))

/-- A RATE and PHASE written come into force, or are refused once if the channel has closed meanwhile; the value in force stays
until the next write (R202). DEDUCED, log 59. -/
def commitRate (q : Plane) (c : Nat) (s : State) : State :=
  let k := s.ag q (R.CLE_CH_CFG c) F.CLE_CH_CFG_RATE
  let p := s.ag q (R.CLE_CH_CFG c) F.CLE_CH_CFG_PHASE
  if k = s.get q (R.CLE_CH_STATUS c) F.CLE_CH_STATUS_RATE ∧ p = s.get q (R.CLE_CH_STATUS c) F.CLE_CH_STATUS_PHASE then s
  else if (s.chan q c).cfgRefused = some (k, p) then s
  else if s.closedCh q c then refuseC q c 10 (s.setChan q c { s.chan q c with cfgRefused := some (k, p) })
  else putCh q c F.CLE_CH_STATUS_PHASE p (putCh q c F.CLE_CH_STATUS_RATE k s)

/-- The commit's work for a channel: a RATE and PHASE, a PARSEL that has changed, and a request that may now be taken (R202,
R218, R227). DEDUCED, log 59. -/
def commitChannel (q : Plane) (c : Nat) (s : State) : State :=
  let h := s.ag q (R.CLE_CH_CFG c) F.CLE_CH_CFG_PARSEL
  let s1 := commitRate q c s
  let s2 := if h = (s1.chan q c).parsel then s1 else takeBlock q c h (s1.setChan q c { s1.chan q c with parsel := h })
  let x := s2.chan q c
  if x.req.isSome then s2.setChan q c { x with req := none, due := x.due ++ x.req.toList } else s2

/-- A channel that is due and has not run is not done at the commit (R63, R201). DEDUCED, log 37. -/
def engineLate (q : Plane) (s : State) : Bool := (List.range 192).any (fun c => runDue q c s)

/-- The engines' part of the commit: the repeated slots, then the shadow values that have come into force, and the set-points of
the process channels (R137, R210). -/
def cleCommit (q : Plane) (s : State) : State :=
  let s1 := each ((List.range 192).filter (fun c => decide ((s.chan q c).ran ≠ s.cyc.starts))) (writeSlot4 q) s
  let tgt := (s1.act q R.PLN_TGT_BASE).toNat / 2048 * 2048
  s1.setCle q { s1.cle q with psp := (List.range 32).map (fun p => s1.sw q (tgt + 1152 + 2 * p)) }

/-- The fields marked at commit have come into force (R59). -/
def cleShadow (q : Plane) (s : State) : State := each (List.range 192) (commitChannel q) s

/-- The start-up graph loads block 0 of every channel (R227). -/
def cleLoadAll (q : Plane) (s : State) : State := each (List.range 192) (fun c s => takeBlock q c 0 s) s

/-- A Drone takes the blocks that the state it has loaded names and its SRAM does not hold (R227, R230). DEDUCED, log 59. -/
def cleSync (q : Plane) (s : State) : State :=
  each ((List.range 192).filter (fun c => decide ((nth (s.plane q).par c (0, [])).1 ≠ (s.chan q c).loads)))
    (fun c s => putPar q c (s.chan q c).loads (parWords q c (s.get q (R.CLE_CH_STATUS c) F.CLE_CH_STATUS_PAR_ACT) s) s) s

end Sys2Proof.Machine
end

