-- ==== Sys2Proof/Machine/Sched.lean ====
section
/-! DEFINITION. The hardware task scheduler in thread mode: ready lists, dispatch, posts and observation (R387 to R397). -/

namespace Sys2Proof.Machine

/-- The flags of SCH (R401). -/
def bSCH : Bank := ⟨R.SCH_FLAGS, R.SCH_FLAG_CNT0, some R.SCH_EVMASK, 0⟩

/-- The scheduler of plane `q`. -/
def State.sch (s : State) (q : Plane) : SchedSt := (s.rep q).sch

/-- The state with the scheduler of plane `q` replaced. -/
def State.setSch (s : State) (q : Plane) (x : SchedSt) : State := s.setRep q { s.rep q with sch := x }

/-- The scheduler of plane `q` is in THREAD mode. -/
def inThread (q : Plane) (s : State) : Bool := s.get q R.SCH_STATUS F.SCH_STATUS_MODE == 0

/-- The priority of a thread in force (R391). -/
def thrPrio (q : Plane) (t : Nat) (s : State) : Nat := s.ag q (R.SCH_THR_CFG t) F.SCH_THR_CFG_PRIO

/-- Core `k` is in the affinity of a thread in force (R391). -/
def thrOn (q : Plane) (t k : Nat) (s : State) : Bool := bitN (s.ag q (R.SCH_THR_CFG t) F.SCH_THR_CFG_AFF) k

/-- The state of a thread: 0 DORMANT, 1 BLOCKED, 2 READY, 3 RUNNING (R389). -/
def thrState (q : Plane) (t : Nat) (s : State) : Nat := s.get q (R.SCH_THR_STATUS t) F.SCH_THR_STATUS_STATE

/-- The thread that core `k` runs. -/
def onCore (q : Plane) (k : Nat) (s : State) : Option Nat :=
  if s.is q (R.SCH_CORE_STATUS k) F.SCH_CORE_STATUS_BUSY
  then some (s.get q (R.SCH_CORE_STATUS k) F.SCH_CORE_STATUS_THREAD) else none

/-- The ready list of a priority, its depth and its largest depth shown (R395). -/
def setReady (q : Plane) (p : Nat) (l : List Nat) (s : State) : State :=
  let x := s.sch q
  let s1 := (s.setSch q { x with ready := x.ready.set p l }).put q (R.SCH_PRIO_DEPTH p) F.SCH_PRIO_DEPTH_DEPTH l.length
  s1.put q (R.SCH_PRIO_DEPTH p) F.SCH_PRIO_DEPTH_MAX (max (s1.get q (R.SCH_PRIO_DEPTH p) F.SCH_PRIO_DEPTH_MAX) l.length)

/-- A thread enters READY at the head or the tail of its priority's list (R390). -/
def toReady (q : Plane) (t : Nat) (head : Bool) (s : State) : State :=
  let p := thrPrio q t s
  let l := nth (s.sch q).ready p []
  let s1 := setReady q p (if head then t :: l else l ++ [t]) s
  let x := s1.sch q
  (s1.setSch q { x with since := sPut (fun _ => 0) x.since t s.now }).put q (R.SCH_THR_STATUS t) F.SCH_THR_STATUS_STATE 2

/-- A thread leaves the ready list that holds it. -/
def outReady (q : Plane) (t : Nat) (s : State) : State :=
  each (List.range 64) (fun p s => let l := nth (s.sch q).ready p []
    if l.contains t then setReady q p (l.filter (· != t)) s else s) s

/-- The post queue's occupancy shown (R395). -/
def showPosts (q : Plane) (s : State) : State :=
  let d := (s.sch q).posts.length
  (s.put q R.SCH_POSTQ F.SCH_POSTQ_DEPTH d).put q R.SCH_POSTQ F.SCH_POSTQ_MAX (max (s.get q R.SCH_POSTQ F.SCH_POSTQ_MAX) d)

/-- Pending posts of a thread. -/
def postsOf (q : Plane) (t : Nat) (s : State) : Nat := ((s.sch q).posts.filter (fun e => e.1 == t)).length

/-- The pending posts of a thread shown in SCH_THR_STATUS. -/
def showThrPosts (q : Plane) (t : Nat) (s : State) : State :=
  s.put q (R.SCH_THR_STATUS t) F.SCH_THR_STATUS_POSTS (postsOf q t s)

/-- A woken thread takes its oldest post when it is dispatched (R392). DEDUCED, log 85. -/
def takePost (q : Plane) (t : Nat) (s : State) : State :=
  let x := s.sch q
  if x.fresh.contains t then
    showThrPosts q t (showPosts q (s.setSch q { x with
      fresh := x.fresh.filter (· != t), posts := x.posts.eraseP (fun e => e.1 == t) }))
  else s

/-- A thread starts on core `k`, whose domain it wakes: its waiting time, counts and warning (R390, R395, R396, R471). DEDUCED,
log 85. -/
def dispatchOn (q : Plane) (t k : Nat) (s0 : State) : State :=
  let s := s0.wake (4 * q.code)
  let wait := min ((s.now - sGet (fun _ => 0) (s.sch q).since t) / 1000) (2 ^ 36 - 1)
  let s1 := outReady q t s
  let x := s1.sch q
  let s2 := s1.setSch q { x with began := x.began.set k s.now }
  let s3 := (s2.put q (R.SCH_THR_STATUS t) F.SCH_THR_STATUS_STATE 3).put q (R.SCH_THR_STATUS t) F.SCH_THR_STATUS_CORE k
  let s4 := s3.wr q (R.SCH_CORE_STATUS k) (F.SCH_CORE_STATUS_THREAD.set (F.SCH_CORE_STATUS_BUSY.set 0 1) t)
  let s5 := (s4.wr q (R.SCH_THR_WAIT t) (wordN wait)).wr q (R.SCH_THR_WAIT_MAX t)
    (wordN (max wait (s4.rd q (R.SCH_THR_WAIT_MAX t)).toNat))
  let s6 := (s5.count q (R.SCH_THR_DISP t) F.SCH_THR_DISP_VALUE 1).count q (R.SCH_CORE_DISP k) F.SCH_CORE_DISP_COUNT 1
  let warn := s6.get q (R.SCH_THR_CFG t) F.SCH_THR_CFG_WAIT_WARN
  takePost q t (if warn ≠ 0 ∧ warn * 1000 < wait then s6.raise q bSCH 185 2 else s6)

/-- Core `k` is left: its busy time is added and it is idle. -/
def leaveCore (q : Plane) (k : Nat) (s : State) : State :=
  let x := s.sch q
  let b := nth x.busy k 0 + (s.now - max (nth x.began k 0) x.winStart)
  (s.setSch q { x with busy := x.busy.set k b }).wr q (R.SCH_CORE_STATUS k) 0

/-- The READY thread that a free core takes: of the highest priority whose affinity includes it, the first in its list
(R390, 1). -/
def pickFor (q : Plane) (k : Nat) (s : State) : Option Nat :=
  (List.range 64).reverse.findSome? (fun p => (nth (s.sch q).ready p []).find? (fun t => thrOn q t k s))

/-- Core `k` becomes free (R390, 1). -/
def coreFree (q : Plane) (k : Nat) (s : State) : State :=
  if inThread q s then
    match pickFor q k s with
    | some t => dispatchOn q t k s
    | none => s
  else s

/-- A running thread is preempted; it goes to the head, or after its quantum to the tail, of its list (R390, 3). -/
def preempt (q : Plane) (k : Nat) (head : Bool) (s : State) : State :=
  match onCore q k s with
  | some t => toReady q t head (leaveCore q k s)
  | none => s

/-- The core that a thread that became READY takes from a thread of lower priority: the one that runs the lowest
priority, the lowest-numbered core on a tie (R390, 2). -/
def victim (q : Plane) (t : Nat) (s : State) : Option Nat :=
  let c := (List.range 8).filterMap (fun k => match onCore q k s with
    | some u => if thrOn q t k s && decide (thrPrio q u s < thrPrio q t s) then some (thrPrio q u s, k) else none
    | none => none)
  (c.foldl (fun b e => match b with
    | none => some e
    | some x => if e.1 < x.1 then some e else some x) none).map (·.2)

/-- A thread that became READY is placed, and after it a thread that it preempts, which has become READY in its turn; each preempts a
lower priority than its own, so 64 rounds are enough (R389; R390, 2 and 3). DEDUCED, log 85. -/
def placeFrom (q : Plane) : Nat → Nat → State → State
  | 0, _, s => s
  | n + 1, t, s =>
    match (List.range 8).find? (fun k => (onCore q k s).isNone && thrOn q t k s) with
    | some k => dispatchOn q t k s
    | none => match victim q t s with
      | some k =>
        let s1 := dispatchOn q t k (preempt q k true s)
        match onCore q k s with
        | some u => placeFrom q n u s1
        | none => s1
      | none => s

/-- A thread that became READY is placed, if it is READY still (R390, 2). -/
def placeReady (q : Plane) (t : Nat) (s : State) : State :=
  if inThread q s && thrState q t s == 2 then placeFrom q 64 t s else s

/-- A core is free and the thread that left it has become READY (R390, 1 and 2). -/
def refill (q : Plane) (k t : Nat) (s : State) : State := placeReady q t (coreFree q k s)

/-- The post queue accepts a post and wakes its thread (R389, R392, R393). -/
def acceptPost (q : Plane) (t : Nat) (v : Word) (s : State) : State :=
  let x := s.sch q
  let d := x.posts.length + 1
  let s1 := showThrPosts q t (showPosts q (s.setSch q { x with posts := x.posts ++ [(t, v)] }))
  let s2 := if d = 896 then s1.raise q bSCH 185 0 else if d = 1024 then s1.raise q bSCH 185 1 else s1
  if thrState q t s2 = 1 then
    let y := s2.sch q
    placeReady q t (toReady q t false (s2.setSch q { y with fresh := y.fresh ++ [t] }))
  else s2

/-- Whether the queue takes a post of this source at the present occupancy (R393). -/
def admits (src : PostSource) (depth : Nat) : Bool :=
  match src with
  | .matrix | .core => decide (depth < 1024)
  | .dma | .block | .host => decide (depth < 896)

/-- The place of a source in the order of R392. -/
def postRank : PostSource → Nat
  | .matrix => 0 | .dma => 1 | .block => 2 | .core => 3 | .host => 4

/-- Clocks of the scheduler and DMA island, at 1.5 GHz, from a cell time until now (R23). -/
def islandClocks (since : Nat) (s : State) : Nat := (s.now - since) * 3 / 2000

/-- Stalled posts enter as places become free, in the order of R392 and within a source in order; the clocks of each stall are counted
(R393). -/
def drainPosts (q : Plane) : Nat → State → State
  | 0, s => s
  | n + 1, s =>
    let x := s.sch q
    let pick := (List.range 5).findSome? (fun r =>
      (x.stalled.find? (fun e => postRank e.src == r)).filter (fun e => admits e.src x.posts.length))
    match pick with
    | some e => drainPosts q n (acceptPost q e.thread e.payload
        ((s.setSch q { x with stalled := x.stalled.erase e }).count q R.SCH_POST_STALL F.SCH_POST_STALL_COUNT (islandClocks e.since s)))
    | none => s

/-- Let stalled posts in. -/
def drainAll (q : Plane) (s : State) : State := drainPosts q (s.sch q).stalled.length s

/-- A post arrives, a crossing into FABRIC: discarded for a DORMANT thread, stalled at the watermark of its source, and accepted
otherwise (R392 to R394, R471). -/
def postTo (q : Plane) (src : PostSource) (t : Nat) (v : Word) (s0 : State) : State :=
  let s := s0.wake (4 * q.code + 2)
  if thrState q t s = 0 then (s.count q R.SCH_POST_DISC F.SCH_POST_DISC_COUNT 1).raise q bSCH 185 8
  else
    let x := s.sch q
    if admits src x.posts.length && !x.stalled.any (fun e => e.src == src) then drainAll q (acceptPost q t v s)
    else s.setSch q { x with stalled := x.stalled ++ [⟨src, t, v, s.now⟩] }

/-- POST: a post from the matrix, the DMA engine, a block or a core of the Chanter (R392). -/
def execPost (src : PostSource) (t : Fin 512) (v : Word) (s : State) : Host.Outcome State Fault Refusal :=
  settled (s.onChanter (fun q => postTo q src t v))

/-- A write of SCH_POST in plane `q` posts SCH_POST_ARG (R392, 5). -/
def hostPost (q : Plane) (t : Nat) (s : State) : State :=
  postTo q .host t (s.rd q R.SCH_POST_ARG) (s.put q R.SCH_POST F.SCH_POST_THREAD t)

/-- HOST_POST: through the alias window (R392). -/
def execHostPost (t : Fin 512) (s : State) : Host.Outcome State Fault Refusal := settled (s.onChanter (fun q => hostPost q t))

/-- THREAD_BLOCK: the thread of a core waits; with a post pending it is READY again at the tail, else BLOCKED, and the core
is free (R389, R390). -/
def execThreadBlock (core : Fin 8) (s : State) : Host.Outcome State Fault Refusal :=
  settled (s.onChanter (fun q s => match onCore q core s with
    | some t =>
      if inThread q s then
        let s1 := leaveCore q core s
        let s2 := if postsOf q t s = 0 then s1.put q (R.SCH_THR_STATUS t) F.SCH_THR_STATUS_STATE 1
          else
            let x := s1.sch q
            toReady q t false (s1.setSch q { x with fresh := x.fresh ++ [t] })
        drainAll q (refill q core t s2)
      else s
    | none => s))

/-- The quantum in force, in ps (R390). -/
def quantumPs (q : Plane) (s : State) : Nat := max 10 (s.ag q R.SCH_CFG F.SCH_CFG_QUANTUM_US) * 1000000

/-- QUANTUM_EXPIRY: the thread of a core has run for its quantum, and is preempted to the tail if a READY thread of its priority may run
there (R390, 3 and 4). -/
def execQuantumExpiry (core : Fin 8) (s : State) : Host.Outcome State Fault Refusal :=
  settled (s.onChanter (fun q s0 => match onCore q core s0 with
    | some t =>
      if inThread q s0 then
        let s := s0.toTime (nth (s0.sch q).began core 0 + quantumPs q s0)
        if (nth (s.sch q).ready (thrPrio q t s) []).any (fun u => thrOn q u core s)
        then drainAll q (refill q core t (preempt q core false s)) else s
      else s0
    | none => s0))

/-- A write of SCH_THR_CFG: refused for AFF = 0 or a DORMANT thread (R391). -/
def writeThrCfg (q : Plane) (t : Nat) (v : Word) (s : State) : State :=
  if F.SCH_THR_CFG_AFF.get v = 0 ∨ thrState q t s = 0 then
    s.refuse q R.SCH_STATUS F.SCH_STATUS_REFUSE 1 bSCH 185 7
  else s.wr q (R.SCH_THR_CFG t) (F.SCH_THR_CFG_CLASS.set v (s.get q (R.SCH_THR_CFG t) F.SCH_THR_CFG_CLASS))

/-- THR_CFG_WRITE (R391). -/
def execThrCfgWrite (t : Fin 512) (v : Word) (s : State) : Host.Outcome State Fault Refusal :=
  settled (s.onChanter (fun q => writeThrCfg q t v))

/-- At the commit: READY threads move to the list of a new priority; a RUNNING thread whose core left its affinity, or that now
stands below a READY thread that may run there, is preempted, and R390 applies (R391). DEDUCED, log 85. -/
def schedCommit (q : Plane) (s : State) : State :=
  let s1 := each (List.range 64) (fun p s => each (nth (s.sch q).ready p []) (fun t s =>
    if thrPrio q t s = p then s else
      let w := sGet (fun _ => 0) (s.sch q).since t
      let s2 := toReady q t false (outReady q t s)
      let x := s2.sch q
      s2.setSch q { x with since := sPut (fun _ => 0) x.since t w }) s) s
  if inThread q s1 then
    drainAll q (each (List.range 8) (fun k s => match onCore q k s with
      | some t =>
        if !thrOn q t k s then refill q k t (preempt q k true s)
        else match pickFor q k s with
          | some u => if thrPrio q t s < thrPrio q u s then refill q k t (preempt q k true s) else s
          | none => s
      | none => coreFree q k s) s1)
  else s1

/-- At a grant the new Chanter enters THREAD mode; each thread that was RUNNING is READY at the head of its list, waiting
from the grant (R397). -/
def schedGrant (q : Plane) (s : State) : State :=
  let s1 := s.put q R.SCH_STATUS F.SCH_STATUS_MODE 0
  let s2 := each (List.range 8) (fun k s => preempt q k true s) s1
  drainAll q (each (List.range 8) (coreFree q) s2)

/-- The load of a core: its busy ps over those of the window, LSB 2^-16, at most its largest value (R396). DESIGN CHOICE, log
90. -/
def loadOf (busy win : Nat) : Nat := min 65535 (roundReal ((busy * 65536 : Nat) / (win : Rat))).toNat

/-- The cycles of a load window in force, as a power of 2 (R396). -/
def loadLog2 (q : Plane) (s : State) : Nat :=
  let l := s.ag q R.SCH_CFG F.SCH_CFG_LOAD_LOG2
  if 8 ≤ l ∧ l ≤ 20 then l else 13

/-- The loads of the window that ends at this cycle start (R396). -/
def loadWindowEnd (q : Plane) (s : State) : State :=
  let x := s.sch q
  let win := s.now - x.winStart
  let s1 := each (List.range 8) (fun k s =>
    let part := if (onCore q k s).isSome then s.now - max (nth x.began k 0) x.winStart else 0
    let l := loadOf (nth x.busy k 0 + part) win
    let s' := s.put q (R.SCH_CORE_LOAD k) F.SCH_CORE_LOAD_LOAD l
    if s'.get q R.SCH_CFG F.SCH_CFG_LOAD_HIGH * 256 < s'.get q (R.SCH_CORE_LOAD k) F.SCH_CORE_LOAD_LOAD
    then s'.raise q bSCH 185 3 else s') s
  s1.setSch q { s1.sch q with busy := List.replicate 8 0, winStart := s.now }

/-- LOAD_WINDOW_END: at a cycle start with n mod 2^LOAD_LOG2 = 0 a window ends and the next begins; at the first such start no
window is complete (R396). DEDUCED, log 85. -/
def execLoadWindowEnd (s : State) : Host.Outcome State Fault Refusal :=
  settled (s.onChanter (fun q s =>
    if s.n % 2 ^ loadLog2 q s ≠ 0 then s
    else if s.n = 0 then s.setSch q { s.sch q with busy := List.replicate 8 0, winStart := s.now }
    else loadWindowEnd q s))

/-- SCH_CMD CAPTURE: the loads and dispatch counts of all cores are copied (R396). -/
def schCapture (q : Plane) (s : State) : State :=
  each (List.range 8) (fun k s => (s.put q (R.SCH_CORE_LOAD k) F.SCH_CORE_LOAD_CAPTURED
    (s.get q (R.SCH_CORE_LOAD k) F.SCH_CORE_LOAD_LOAD)).wr q (R.SCH_CORE_DISP_CAP k) (s.rd q (R.SCH_CORE_DISP k))) s

/-- A write of SCH_CMD in plane `q`. -/
def schCmd (q : Plane) (code : Nat) (s : State) : State :=
  let s1 := s.put q R.SCH_CMD F.SCH_CMD_CODE code
  if code = 0 then s1 else if code = 1 then schCapture q s1
  else s1.refuse q R.SCH_STATUS F.SCH_STATUS_REFUSE 2 bSCH 185 7

/-- SCH_CAPTURE (R396). -/
def execSchCapture (s : State) : Host.Outcome State Fault Refusal := settled (s.onChanter (fun q => schCmd q 1))

/-- SCH_CMD_RESERVED: codes 0x2..0xF are refused with REFUSE = 0x2 (R401). -/
def execSchCmdReserved (code : BitVec 4) (s : State) : Host.Outcome State Fault Refusal :=
  settled (s.onChanter (fun q => schCmd q code.toNat))

end Sys2Proof.Machine
end

