-- ==== Sys2Proof/Machine/Graph.lean ====
section
/-! DEFINITION. Dataflow graphs on the scheduler of a plane: the load check, tokens, ready nodes and executors (R398, R399). -/

namespace Sys2Proof.Machine

/-- A node of a graph image (R398). -/
def graphNode (ws : List Word) (j : Nat) : GNode :=
  let w := fun i => (nth ws (4 + 4 * j + i) 0).toNat
  { exec := w 0 / 2 ^ 32, mask := w 0 / 2 ^ 24 % 2 ^ 8, op := w 0 / 2 ^ 12 % 2 ^ 12, thresh := w 0 / 2 ^ 6 % 2 ^ 6
    final := bitN (w 0) 5, arg := nth ws (5 + 4 * j) 0
    succ := ([w 2 / 2 ^ 20 % 2 ^ 10, w 2 / 2 ^ 10 % 2 ^ 10, w 2 % 2 ^ 10].take (w 3 % 4)) }

/-- The successor count of node `j` as its word holds it. -/
def graphSuccs (ws : List Word) (j : Nat) : Nat := (nth ws (7 + 4 * j) 0).toNat

/-- The graph in an image, if it passes its load check: CRC, TYPE, VERSION, NODES, executors, successor counts and numbers (R399). -/
def graphLoad (ws : List Word) : Option (Nat × Nat × List GNode) :=
  let g0 := (nth ws 0 0).toNat
  let n := g0 % 2 ^ 11
  let body := ws.take (4 + 4 * n)
  let ns := (List.range n).map (graphNode ws)
  let t := psOfD36 (nth ws 1 0)
  if g0 / 2 ^ 28 == 6 && g0 / 2 ^ 20 % 2 ^ 8 == 1 && decide (1 ≤ n) && decide (n ≤ 1024)
      && (nth ws (4 + 4 * n) 0).toNat % 2 ^ 32 == crc32 body && ns.all (fun x => decide (x.exec ≤ 8))
      && (List.range n).all (fun j => decide (graphSuccs ws j ≤ 3)) && ns.all (fun x => x.succ.all (fun y => decide (y < n)))
  then some (g0 / 2 ^ 16 % 2 ^ 4, if nth ws 1 0 = 0 then psOfD36 (wordN (2 ^ 36 - 1)) else t, ns) else none

/-- The state with the graph of plane `q` replaced. -/
def State.setGraph (s : State) (q : Plane) (g : Option GraphSt) : State := s.setPlane q { s.plane q with graph := g }

/-- A core takes up or leaves a graph node. -/
def coreBusy (q : Plane) (k : Nat) (b : Bool) (s : State) : State :=
  s.put q (R.SCH_CORE_STATUS k) F.SCH_CORE_STATUS_BUSY (b2n b)

/-- The core that a ready node starts on, if its executor is free now: the lowest-numbered idle core of the mask for CORE; any other
executor runs one node at a time (R399, 3).  The core is 8 for the others. -/
def startsOn (g : GraphSt) (x : GNode) : Option Nat :=
  if x.exec = 0 then
    (List.range 8).find? (fun k => bitN x.mask k && !g.running.any (fun r => r.2 == k))
  else if g.running.any (fun r => (nth g.nodes r.1 ⟨0, 0, 0, 0, false, 0, []⟩).exec == x.exec) then none
  else some 8

/-- Ready nodes start in ascending number while their executors are free (R399, 3). -/
def graphStart (q : Plane) (s : State) : State :=
  match (s.plane q).graph with
  | none => s
  | some g0 => each g0.ready (fun j s => match (s.plane q).graph with
    | none => s
    | some g => match startsOn g (nth g.nodes j ⟨0, 0, 0, 0, false, 0, []⟩) with
      | none => s
      | some k =>
        let s1 := s.setGraph q (some { g with ready := g.ready.erase j, running := g.running ++ [(j, k)] })
        if k < 8 then coreBusy q k true s1 else s1) s

/-- A list of numbers in ascending order with one more. -/
def insertAsc (n : Nat) (l : List Nat) : List Nat := l.takeWhile (fun x => decide (x ≤ n)) ++ n :: l.dropWhile (fun x => decide (x ≤ n))

/-- Node `j` receives a token; at THRESH it is ready and its tokens are reduced (R399, 2). -/
def graphToken (g : GraphSt) (j : Nat) : GraphSt :=
  let th := (nth g.nodes j ⟨0, 0, 0, 0, false, 0, []⟩).thresh
  let n := nth g.tokens j 0 + 1
  if th ≤ n then { g with tokens := g.tokens.set j (n - th), ready := insertAsc j g.ready }
  else { g with tokens := g.tokens.set j n }

/-- The graph of a plane ends: its cores are free, its time from start to end is shown, and GRAPH_STATE with flag `j` (R399). -/
def graphEnd (q : Plane) (state j start : Nat) (s : State) : State :=
  let s1 := each (List.range 8) (fun k s => coreBusy q k false s) (s.setGraph q none)
  ((s1.wr q R.SCH_GRAPH_TIME (d36OfPs (s.now - start))).put q R.SCH_STATUS F.SCH_STATUS_GRAPH_STATE state).raise q bSCH 185 j

/-- A graph starts on plane `q` with THRESH tokens on node 0, or fails its check (R399). -/
def graphBegin (q : Plane) (ws : List Word) (s : State) : State :=
  let s1 := (s.put q R.SCH_STATUS F.SCH_STATUS_MODE 1).wr q R.SCH_GRAPH_STATUS 0
  match graphLoad ws with
  | some (kind, timeout, ns) =>
    let s2 := (s1.put q R.SCH_STATUS F.SCH_STATUS_GRAPH_KIND kind).put q R.SCH_STATUS F.SCH_STATUS_GRAPH_STATE 1
    graphStart q (s2.setGraph q (some
      { kind := kind, nodes := ns, tokens := List.replicate ns.length 0, ready := [0], running := [], start := s2.now
        timeout := timeout }))
  | none =>
    let w := F.SCH_GRAPH_STATUS_CODE.set (F.SCH_GRAPH_STATUS_CHECK.set 0 1) 1
    graphEnd q 3 5 s.now (s1.wr q R.SCH_GRAPH_STATUS w)

end Sys2Proof.Machine
end

