-- ==== Sys2Proof/Machine/Red.lean ====
section
/-! DEFINITION. The redundancy arbiter: plane states, grants, heartbeats, fault switch-over, planned swaps, recovery and the
state copy (R361 to R386). -/

namespace Sys2Proof.Machine

/-- The flags of RED (R385). -/
def bRED : Bank := ⟨R.RED_FLAGS, R.RED_FLAG_CNT0, some R.RED_EVMASK, 0⟩

/-- The event that a flag of RED raises (R385). -/
def redEvent (j : Nat) : Nat :=
  match j with
  | 0 | 11 => 56
  | 1 | 2 | 3 => 57
  | 4 | 5 => 58
  | 6 | 7 => 59
  | 8 | 9 | 14 => 60
  | 10 => 61
  | 12 => 62
  | _ => 63

/-- Raise flag `j` of RED_FLAGS. -/
def redRaise (j : Nat) (s : State) : State := s.raise .a bRED (redEvent j) j

/-- Refuse a command of RED with a reason (RED_STATUS.REFUSE). -/
def redRefuse (code : Nat) (s : State) : State := redRaise 13 (s.dp R.RED_STATUS F.RED_STATUS_REFUSE code)

/-- The flags of XLK (R386). -/
def bXLK : Bank := ⟨R.XLK_FLAGS, R.XLK_FLAG_CNT0, some R.XLK_EVMASK, 0⟩

/-- Raise flag `j` of a plane's XLK_FLAGS; those of the Chanter raise E59 (R386). -/
def xlkRaise (q : Plane) (j : Nat) (s : State) : State := if s.chanter = some q then s.raise q bXLK 59 j else s.flag q bXLK j

/-- The state of plane `q`: 0 BOOT, 1 CHANTER, 2 IN_STEP, 3 OUT_OF_STEP, 4 RECOVERING, 5 RETIRED (R362). -/
def planeState (q : Plane) (s : State) : Nat := s.dg (R.RED_PLANE q.code) F.RED_PLANE_STATE

/-- Plane `q` is in another state from now on, shown in RED_PLANE and in its own PLANE_STATUS. -/
def setPlaneState (q : Plane) (n : Nat) (s : State) : State :=
  let s1 := (s.dp (R.RED_PLANE q.code) F.RED_PLANE_STATE n).put q R.PLANE_STATUS F.PLANE_STATUS_STATE n
  s1.setWard q { s1.ward q with since := s1.now }

/-- Whole seconds of cell time. -/
def State.secs (s : State) : Nat := s.now / 10 ^ 12

/-- The XLK link has failed (R30). -/
def xlkFailed (s : State) : Bool := (nth s.links Link.xlk.num ⟨0, false⟩).failed

/-- The power domains of a plane: CORES, ENGINES, FABRIC, STORE (R467). -/
def planeDoms (q : Plane) : List Nat := (List.range 4).map (fun i => 4 * q.code + i)

/-- Every domain of a plane shows a state that Bellows does not choose: OFF for a retired plane, HELD for one held in reset,
RUN when released (R468). -/
def setDoms (q : Plane) (n : Nat) (s : State) : State :=
  each (planeDoms q) (fun d s => { (s.dp (R.BEL_DOM_STATUS d) F.BEL_DOM_STATUS_STATE n) with
    bel := { s.bel with
      wake := s.bel.wake.set d none
      entering := s.bel.entering.set d none
      deferred := s.bel.deferred.set d none } }) s

/-- The plane die and its store controller are held in reset: every register and block state of the plane takes its reset value
but PLANE_MCHK, the spare map and the words of the store (R374, R406). DEDUCED, log 87. -/
def planeReset (q : Plane) (s : State) : State :=
  let p := s.plane q
  let keep := p.regs.filter (fun e => e.1 == R.PLANE_MCHK || e.1 == R.PLANE_ID
    || (decide (R.CST_SPARE 0 ≤ e.1) && decide (e.1 ≤ R.CST_SPARE 63)))
  let used := (List.range 64).filter (fun r => F.CST_SPARE_USED.get (sGet regReset keep (R.CST_SPARE r)) == 1)
  let s1 := (s.snapLost q)
  let s2 := s1.setPlane q { PlaneSt.initial q with
    regs := keep
    store := { StoreSt.initial with words := p.store.words, bad := p.store.bad } }
  let s3 := (s2.put q R.CST_STATUS F.CST_STATUS_SPARES_FREE (64 - used.length)).put q R.SCH_STATUS F.SCH_STATUS_MODE 3
  s3.setWard q { s3.ward q with interlock := false, inReset := true, mchk := false, toggled := false, noToggle := 0 }

/-- SIMPLEX is entered when a plane is RETIRED (R383). -/
def enterSimplex (s : State) : State :=
  if s.dg R.RED_STATUS F.RED_STATUS_SIMPLEX = 1 then s
  else redRaise 10 (s.dp R.RED_STATUS F.RED_STATUS_SIMPLEX 1)

/-- Plane `q` is retired: held in reset, interlock inactive, its domains OFF, and the device simplex (R382, R383). -/
def retire (q : Plane) (s : State) : State :=
  enterSimplex (redRaise 9 (setPlaneState q 5 (setDoms q 4 (planeReset q s))))

/-- Plane `q` enters RECOVERING, held in reset (R374, R380). -/
def recover (q : Plane) (s : State) : State :=
  let s1 := setPlaneState q 4 (setDoms q 5 (planeReset q s))
  let s2 := s1.dp (R.RED_PLANE q.code) F.RED_PLANE_HOLDOFF 0
  s2.setWard q { s2.ward q with holdNext := true }

/-- A fault of plane `q` is counted; those older than RETIRE_WIN no longer count (R382). -/
def countFault (q : Plane) (s : State) : State :=
  let w := s.ward q
  let win := s.dg R.RED_CFG F.RED_CFG_RETIRE_WIN
  let l := w.faults.filter (fun t => decide (s.secs < t + win)) ++ [s.secs]
  (s.setWard q { w with faults := l }).dp (R.RED_PLANE q.code) F.RED_PLANE_FAULTS (min l.length 3)

/-- A faulted plane recovers, or is retired at its third fault within the window (R362, R382). -/
def faultPlane (q : Plane) (s : State) : State :=
  let s1 := countFault q s
  if 3 ≤ (s1.ward q).faults.length then retire q s1 else recover q s1

/-- The Drone faults: DRONE_FAULT when it enters RECOVERING (R362). -/
def droneFault (q : Plane) (s : State) : State :=
  let s1 := faultPlane q s
  if planeState q s1 = 4 then redRaise 14 s1 else s1

/-- Write words of plane `q` without dirty marks: the copy of R370 and its rollback. -/
def putLine (q : Plane) (line : Nat) (ws : List Word) (s : State) : State :=
  let st := (s.plane q).store
  let w := ws.zipIdx.foldl (fun m e => sPut (fun _ => (0 : Word)) m (8 * line + e.2) e.1) st.words
  s.setStore q { st with words := w, bad := st.bad.filter (fun e => e.1 / 4 != line) }

/-- The words of the undo log are shown in XLK_UNDO. -/
def setUndo (q : Plane) (l : List (Nat × List Word)) (s : State) : State :=
  let p := s.plane q
  (s.setPlane q { p with xlk := { p.xlk with undo := l } }).put q R.XLK_UNDO F.XLK_UNDO_WORDS (8 * l.length)

/-- DRONE_ROLLBACK: every line of the undo log is written back, the oldest contents of a line last, and the staged state is
discarded (R370). DEDUCED, log 89. -/
def rollback (q : Plane) (s : State) : State :=
  let s1 := each (s.plane q).xlk.undo (fun e s => putLine q e.1 e.2 s) s
  let s2 := setUndo q [] s1
  { s2.setPlane q { s2.plane q with staged := none } with xlk := [] }

/-- GRANT: the interlocks change, the epoch advances, GRANT reaches the output stages and both planes, and the alias window
follows (R364).  The new Chanter rolls back, enters THREAD mode, holds no estimation Pricking until it reloads that of a held job from its
store (R179), and snapshots in progress are lost. -/
def grant (q : Plane) (s : State) : State :=
  let e := (s.dg R.RED_EPOCH F.RED_EPOCH_EPOCH + 1) % 2 ^ 32
  let s1 := (s.setWard q.other { s.ward q.other with interlock := false })
  let s2 := s1.setWard q { s1.ward q with interlock := true, noToggle := 0, toggled := false }
  let s3 := ((s2.dp R.RED_EPOCH F.RED_EPOCH_EPOCH e).dp R.RED_STATUS F.RED_STATUS_GRANTED 1).dp R.RED_STATUS
    F.RED_STATUS_CHANTER q.code
  let s4 := s3.put q R.PLANE_EPOCH F.PLANE_EPOCH_EPOCH e
  let s5 := if (s4.ward q.other).inReset then s4 else s4.put q.other R.PLANE_EPOCH F.PLANE_EPOCH_EPOCH e
  let s6 := ((setPlaneState q 1 s5).dp (R.RED_PLANE q.code) F.RED_PLANE_PATH_P_OK (b2n (!xlkFailed s5))).dp
    (R.RED_PLANE q.code) F.RED_PLANE_PATH_W_OK 1
  let s7 := (rollback q s6).snapLost q
  let s8 := schedGrant q (s7.snapLost q.other)
  let p := s8.plane q
  let s9 := s8.setPlane q { p with
    xlk := { p.xlk with dirty := [], sent := 0, room := 0, exceeded := false }
    arr := { p.arr with est := none, estPc := 0, waiting := false } }
  { s9 with red := { s9.red with pathP := false, applied := none, due := none, swapSent := false, announced := false } }

/-- The plane is eligible for a grant: IN_STEP, and out of its hold-off unless a fault ignores it (R363). -/
def eligible (q : Plane) (fault : Bool) (s : State) : Bool :=
  planeState q s == 2 && (fault || s.dg (R.RED_PLANE q.code) F.RED_PLANE_HOLDOFF == 0) && !(s.ward q).mchk

/-- Record a role change in RED_LAST_SW. -/
def lastSw (cause : Nat) (src : Plane) (gap cycle : Nat) (s : State) : State :=
  s.wr .a R.RED_LAST_SW (F.RED_LAST_SW_CYCLE.set (F.RED_LAST_SW_FROM.set (F.RED_LAST_SW_GAP.set
    (F.RED_LAST_SW_CAUSE.set 0 cause) gap) src.code) cycle)

/-- HALT: no plane is granted and the failed plane is RETIRED (R376). -/
def halt (q : Plane) (s : State) : State :=
  let s1 := retire q (countFault q s)
  let s2 := (s1.dp R.RED_STATUS F.RED_STATUS_GRANTED 0).dp R.RED_STATUS F.RED_STATUS_HALT 1
  redRaise 11 { s2 with red := { s2.red with readyAt := none } }

/-- FAULT_SWITCHOVER of the Chanter `q`: the failed plane is reset, and an eligible Drone is granted; else HALT (R374,
R376).  The new Chanter runs no cycle before it is ready. -/
def switchOver (q : Plane) (cause : Nat) (s : State) : State :=
  if eligible q.other true s then
    let s1 := faultPlane q s
    let s2 := dmaReplay q.other (grant q.other s1)
    let s3 := lastSw cause q 0 0 (redRaise 0 s2)
    { s3 with red := { s3.red with readyAt := none, hostSwap := false, reversion := false } }
  else halt q s

/-- MACHINE_CHECK_LINE: a cause that no other command declares is recorded first; the line of the Chanter starts the fault
switch-over, and that of the Drone its recovery (R362, R373). -/
def execMachineCheckLine (q : Plane) (cause : BitVec 4) (s : State) : Host.Outcome State Fault Refusal :=
  let s1 := if (s.ward q).mchk then s else s.mcheck q cause.toNat
  settled (if s1.chanter = some q then switchOver q 2 s1
    else if planeState q s1 = 2 ∨ planeState q s1 = 3 then droneFault q s1 else s1)

/-- The Chanter, once its takeover is ready and from its first cycle on (R374). -/
def runningChanter (s : State) : Option Plane :=
  match s.chanter, s.red.readyAt with
  | some q, some _ => if s.red.firstCycle ≤ s.n then some q else none
  | _, _ => none

/-- TAKEOVER_READY at cell time `t` ps: the first cycle is the first whose FB_DEADLINE is at or after it (R374). -/
def execTakeoverReady (t : Nat) (s : State) : Host.Outcome State Fault Refusal :=
  let s1 := s.toTime t
  settled (match s1.chanter, s1.red.readyAt with
    | some _, none =>
      let m := if s1.now ≤ s1.atOfs R.TIM_CYC_ACT_FB_DEADLINE then s1.n else s1.n + 1
      let s2 := (s1.dp R.RED_LAST_SW F.RED_LAST_SW_GAP (m - s1.red.lastCommit - 1)).dp R.RED_LAST_SW F.RED_LAST_SW_CYCLE m
      { s2 with red := { s2.red with readyAt := some s2.now, firstCycle := m } }
    | _, _ => s1)

/-- The Drone enters RECOVERING with a fault counted. DEDUCED, log 82. -/
def resyncFailed (q : Plane) (s : State) : State := droneFault q s

/-- RESYNC runs on a plane in OUT_OF_STEP, once no other graph runs there; one that fails its check ends in recovery (R381,
R400). DEDUCED, log 82. -/
def startResync (q : Plane) (s : State) : State :=
  if (s.plane q).graph.isSome || planeState q s != 3 then s
  else
    let s1 := graphBegin q s.tab.resync s
    if (s1.plane q).graph.isNone then resyncFailed q s1 else s1

/-- Plane `q` enters OUT_OF_STEP: resynchronisation starts at once (R362, R381); a hold-off that ran starts anew at the next
entry to IN_STEP (R380). -/
def outOfStep (q : Plane) (s : State) : State :=
  let w := s.ward q
  let held := s.dg (R.RED_PLANE q.code) F.RED_PLANE_HOLDOFF == 1
  let s1 := (s.setWard q { w with holdNext := w.holdNext || held }).dp (R.RED_PLANE q.code) F.RED_PLANE_HOLDOFF 0
  let s2 := redRaise 6 (setPlaneState q 3 s1)
  let d := s2.plane q
  let s3 := s2.setPlane q { d with xlk := { d.xlk with loaded := false } }
  let c := s3.plane q.other
  startResync q ((s3.setPlane q.other { c with xlk := { c.xlk with swept := 0, sweeping := true } }).put q.other R.XLK_RESYNC
    F.XLK_RESYNC_ACTIVE 1)

/-- The Drone enters OUT_OF_STEP if it is IN_STEP. -/
def loseStep (q : Plane) (s : State) : State := if planeState q s = 2 then outOfStep q s else s

/-- Plane `q` enters IN_STEP; after a fault its hold-off starts (R380). -/
def enterInStep (q : Plane) (s : State) : State :=
  let w := s.ward q
  let s1 := if w.holdNext then (s.setWard q { w with holdNext := false }).dp (R.RED_PLANE q.code) F.RED_PLANE_HOLDOFF 1 else s
  (redRaise 7 (setPlaneState q 2 s1)).put q R.SCH_STATUS F.SCH_STATUS_MODE 2

/-- The swap schedule applies: native mode (R378, R384). -/
def native (s : State) : Bool := s.dg R.RED_STATUS F.RED_STATUS_MODE == 0

/-- The swap period of the present cell time (R378). -/
def periodOf (s : State) : Nat := s.secs / s.dg R.RED_SWAP_PERIOD F.RED_SWAP_PERIOD_PERIOD_S

/-- The scheduled Chanter of period `p`: bit p mod 64 of the pattern (R378). -/
def scheduled (p : Nat) (s : State) : Plane :=
  let i := p % 64
  if i < 32 then Plane.ofCode (b2n (bitN (s.rd .a R.RED_SWAP_PAT_LO).toNat i))
  else Plane.ofCode (b2n (bitN (s.rd .a R.RED_SWAP_PAT_HI).toNat (i - 32)))

/-- The cause of a swap that is due at the commit, if one is (R379, R380, R384). DEDUCED, log 84. -/
def swapDue (s : State) : Option SwapCause :=
  match s.chanter with
  | none => none
  | some q =>
    if !native s || !eligible q.other false s || s.dg R.RED_STATUS F.RED_STATUS_SIMPLEX == 1 then none
    else if s.red.hostSwap then some .host
    else if s.dg R.RED_STATUS F.RED_STATUS_SUSPENDED = 0 ∧ scheduled (periodOf s) s = q.other then
      some (if s.red.reversion then .reversion else .planned)
    else none

/-- The code of a cause in RED_LAST_SW. -/
def SwapCause.code : SwapCause → Nat
  | .heartbeat => 1 | .mcheck => 2 | .planned => 3 | .reversion => 4 | .host => 5

/-- The DMA engine of a plane holds or resumes its issuing (R425). -/
def dmaHold (q : Plane) (h : Bool) (s : State) : State := s.setDma q { s.dma q with hold := h }

/-- SWAP_ANNOUNCE, 2 µs before the commit: if a swap will be due, the Chanter's engine starts no burst (R425). -/
def execSwapAnnounce (s : State) : Host.Outcome State Fault Refusal :=
  settled (match s.chanter, swapDue s with
    | some q, some _ => dmaHold q true { s with red := { s.red with announced := true } }
    | _, _ => s)

/-- SWAP_DECISION at CT0(n+1): GRANT to the scheduled plane, or STAY with SWAP_ABORTED (R379). -/
def execSwapDecision (s : State) : Host.Outcome State Fault Refusal :=
  settled (match s.chanter with
    | none => s
    | some q =>
      if !s.red.swapSent then s
      else
        let cause := s.red.due.getD .planned
        if s.red.applied = some s.red.lastCommit && eligible q.other false s && !(s.ward q).mchk then
          let s1 := grant q.other (enterInStep q s)
          let s2 := dmaHold q.other false (dmaHold q false s1)
          let s3 := lastSw cause.code q 0 s2.n (redRaise 1 s2)
          { s3 with red := { s3.red with readyAt := some s3.now, firstCycle := s3.n, hostSwap := false, reversion := false } }
        else
          let s1 := redRaise 2 (dmaHold q false s)
          { s1 with red := { s1.red with swapSent := false, announced := false, due := none } })

/-- SWAP_PERIOD_BOUNDARY: the new period names its scheduled Chanter, and SWAP_SKIPPED is raised if that plane is neither the
Chanter nor eligible, once in a period (R378, R379). -/
def execSwapPeriodBoundary (s : State) : Host.Outcome State Fault Refusal :=
  let p := periodOf s
  let q := scheduled p s
  let new := decide (p ≠ s.red.period)
  let s1 := { s.dp R.RED_STATUS F.RED_STATUS_SCHED q.code with red := { s.red with period := p, reversion := s.red.reversion && !new } }
  settled (if new && native s && decide (s.chanter ≠ some q) && !eligible q false s then redRaise 3 s1 else s1)

/-- The hold-off in ps (R380, R385). -/
def holdoffPs (s : State) : Nat := max 1 (s.dg R.RED_CFG F.RED_CFG_HOLDOFF_S) * 10 ^ 12

/-- HOLDOFF_END, HOLDOFF_S after the plane entered IN_STEP: it is eligible, and a reversion is due if it is the scheduled Chanter
(R380). -/
def execHoldoffEnd (q : Plane) (s : State) : Host.Outcome State Fault Refusal :=
  settled (if s.dg (R.RED_PLANE q.code) F.RED_PLANE_HOLDOFF = 1 then
      let s0 := s.toTime ((s.ward q).since + holdoffPs s)
      let s1 := s0.dp (R.RED_PLANE q.code) F.RED_PLANE_HOLDOFF 0
      if scheduled (periodOf s1) s1 = q then { s1 with red := { s1.red with reversion := true } } else s1
    else s)

/-- RESYNC_TIMEOUT: a plane still OUT_OF_STEP 60 s after it entered that state is retired (R362, R382). -/
def execResyncTimeout (q : Plane) (s : State) : Host.Outcome State Fault Refusal :=
  settled (if planeState q s = 3 then retire q (s.toTime ((s.ward q).since + 60 * 10 ^ 12)) else s)

/-- HEALTH_PASS_DONE: in compatibility mode the Drone's self-test pass publishes its report; a failed one is a fault
(R384). -/
def execHealthPassDone (ok : Bool) (s : State) : Host.Outcome State Fault Refusal :=
  settled (match s.chanter with
    | none => s
    | some c =>
      let q := c.other
      if native s ∨ (planeState q s ≠ 2 ∧ planeState q s ≠ 3) then s
      else
        let k := R.RED_HEALTH q.code
        let s1 := ((s.dp k F.RED_HEALTH_VALID 1).dp k F.RED_HEALTH_LAST_PASS (b2n ok)).count .a k F.RED_HEALTH_PASSES 1
        let s2 := s1.setWard q { s1.ward q with healthAt := s1.now }
        if ok then s2 else droneFault q (redRaise 12 (s2.count .a k F.RED_HEALTH_FAILS 1)))

/-- HEARTBEAT_CHECK at CT0(n+1) + 2 µs: both paths of cycle n are checked; a standing path fault counts as missing, and ends
after 16 arrivals in a row (R362, R372). DEDUCED, log 83. DEDUCED, log 84. -/
def execHeartbeatCheck (s : State) : Host.Outcome State Fault Refusal :=
  let s0 := s.toTime (s.ct0Hts + 2000000)
  settled (match s0.chanter, s0.red.readyAt with
    | some q, some _ =>
      if s0.n ≤ s0.red.firstCycle then s0 else
      let k := R.RED_PLANE q.code
      let pStood := s0.dg k F.RED_PLANE_PATH_P_OK == 0
      let wStood := s0.dg k F.RED_PLANE_PATH_W_OK == 0
      let pRun := if s0.red.pathP then s0.red.pRun + 1 else 0
      let wRun := if (s0.ward q).toggled then s0.red.wRun + 1 else 0
      let pHere := s0.red.pathP && !pStood
      let wHere := (s0.ward q).toggled && !wStood
      let w := s0.ward q
      let d := s0.ward q.other
      let miss := if d.toggled then 0 else d.noToggle + 1
      let sw := (s0.setWard q { w with toggled := false }).setWard q.other { d with toggled := false, noToggle := miss }
      let s1 := { sw with red := { sw.red with pathP := false, pRun := pRun, wRun := wRun } }
      let s2 := if pStood && decide (16 ≤ pRun) && !xlkFailed s1 then s1.dp k F.RED_PLANE_PATH_P_OK 1 else s1
      let s3 := if wStood && decide (16 ≤ wRun) then s2.dp k F.RED_PLANE_PATH_W_OK 1 else s2
      if !pHere && !wHere then switchOver q 1 s3
      else
        let s4 := if !pHere then
            loseStep q.other (if pStood then s3 else redRaise 4 (s3.dp k F.RED_PLANE_PATH_P_OK 0))
          else s3
        let s5 := if !wHere && !wStood then redRaise 5 (s4.dp k F.RED_PLANE_PATH_W_OK 0) else s4
        if decide (2 ≤ miss) && (planeState q.other s5 == 2 || planeState q.other s5 == 3) && !xlkFailed s5
        then droneFault q.other s5 else s5
    | _, _ => s0)

/-- The link of a plane that its requests to an output stage cross (R26, R32). -/
def stageLink (q : Plane) (stage : Stage) : Link :=
  match stage with
  | .port => portLink q
  | .sense => senseLink q
  | .field => fieldLink q
  | .warden => match q with
    | .a => .wardenA
    | .b => .wardenB

/-- The link of a plane discards its request to an output stage: the interlock line is inactive, or the link has failed (R30, R32).
-/
def linkDrops (q : Plane) (stage : Stage) (s : State) : Bool := !(s.ward q).interlock || !s.linkUp (stageLink q stage)

/-- OUTPUT_STAGE_REQUEST: a link whose interlock is inactive discards the request, unless it had passed the link before (`passed`); at the
stage a request with a stale epoch, or from a plane that does not hold the grant, is discarded and counted in RED_REJECT; epoch 0 is
never current (R32, R364, R365). -/
def execOutputStageRequest (stage : Stage) (q : Plane) (req : StageReq) (s : State) : Host.Outcome State Fault Refusal :=
  let current := decide (req.epoch ≠ 0) && req.epoch.toNat == s.dg R.RED_EPOCH F.RED_EPOCH_EPOCH
  settled (if (linkDrops q stage s && !req.passed) || (decide (s.chanter = some q) && current) then s
    else s.count .a (R.RED_REJECT stage.num) F.RED_REJECT_COUNT 1)

/-- A write of RED_CMD (R379, R382, R385). -/
def redCmd (code : Nat) (q : Plane) (s0 : State) : State :=
  let s := (s0.dp R.RED_CMD F.RED_CMD_CODE code).dp R.RED_CMD F.RED_CMD_PLANE q.code
  match code with
  | 0 => s
  | 1 => match s.chanter with
    | some c => if native s && eligible c.other false s then { s with red := { s.red with hostSwap := true } } else redRefuse 1 s
    | none => redRefuse 1 s
  | 2 => s.dp R.RED_STATUS F.RED_STATUS_SUSPENDED 1
  | 3 => s.dp R.RED_STATUS F.RED_STATUS_SUSPENDED 0
  | 4 =>
    if planeState q s = 5 ∧ (s.ward q).unusable = false ∧ s.dg R.RED_STATUS F.RED_STATUS_HALT = 0 then
      recover q (s.dp R.RED_STATUS F.RED_STATUS_SIMPLEX (b2n (decide (planeState q.other s = 5))))
    else redRefuse 2 s
  | 5 => if s.chanter = some q then redRefuse 3 s else if planeState q s = 5 then s else retire q s
  | _ => redRefuse 5 s

/-- SWAP_NOW (R379). DEDUCED, log 84. -/
def execSwapNow (s : State) : Host.Outcome State Fault Refusal := settled (redCmd 1 .a s)

/-- SUSPEND (R385). -/
def execRedSuspend (s : State) : Host.Outcome State Fault Refusal := settled (redCmd 2 .a s)

/-- RESUME_SWAPS (R385). -/
def execResumeSwaps (s : State) : Host.Outcome State Fault Refusal := settled (redCmd 3 .a s)

/-- READMIT: recovery of a RETIRED plane starts again (R382). -/
def execRedReadmit (q : Plane) (s : State) : Host.Outcome State Fault Refusal := settled (redCmd 4 q s)

/-- RETIRE: a plane that is not the Chanter (R382). -/
def execRedRetire (q : Plane) (s : State) : Host.Outcome State Fault Refusal := settled (redCmd 5 q s)

/-- RED_CMD_RESERVED: refused with REFUSE = 0x5 (R385). -/
def execRedCmdReserved (code : BitVec 4) (s : State) : Host.Outcome State Fault Refusal := settled (redCmd code.toNat .a s)

/-- A write of PLANE_CMD, through either fixed window (R386). -/
def planeCmd (q : Plane) (code : Nat) (s0 : State) : State :=
  let s := s0.put q R.PLANE_CMD F.PLANE_CMD_CODE code
  if code = 0 then s else if code = 1 then s.mcheck q 8
  else (s.put q R.PLANE_STATUS F.PLANE_STATUS_REFUSE 5).raise q bPLANE 0 1

/-- MCHK_TEST: the plane declares a machine check with cause TEST (R386). -/
def execMchkTest (q : Plane) (s : State) : Host.Outcome State Fault Refusal := settled (planeCmd q 1 s)

/-- PLANE_CMD_RESERVED: refused with REFUSE = 0x5 (R386). -/
def execPlaneCmdReserved (q : Plane) (code : BitVec 4) (s : State) : Host.Outcome State Fault Refusal :=
  settled (planeCmd q code.toNat s)

/-- Two segments overlap (R367). -/
def segOverlap (a b : Nat × Nat) : Bool := decide (0 < a.2) && decide (0 < b.2) && decide (a.1 < b.1 + b.2) && decide (b.1 < a.1 + a.2)

/-- The reason for which a set of segments is refused: 2 alignment, 3 total, 4 overlap; 0 for none (R367). -/
def segCheck (l : List (Nat × Nat)) : Nat :=
  if l.any (fun g => decide (g.2 % 4096 ≠ 0)) then 2
  else if 2 ^ 24 < (l.map (·.2)).sum then 3
  else if (l.zipIdx).any (fun a => (l.zipIdx).any (fun b => decide (a.2 < b.2) && segOverlap a.1 b.1)) then 4
  else 0

/-- The segments as written (R367). -/
def segWritten (q : Plane) (s : State) : List (Nat × Nat) :=
  (List.range 16).map (fun g => (s.get q (R.PLANE_REPL_BASE g) F.PLANE_REPL_BASE_ADDR * 4096,
    s.get q (R.PLANE_REPL_SIZE g) F.PLANE_REPL_SIZE_WORDS))

/-- A write of PLANE_REPL_BASE or PLANE_REPL_SIZE: refused while a channel is closed, and where the set it leaves breaks a
rule; else it takes effect at the next commit (R367). -/
def writeSegment (q : Plane) (g : Nat) (size : Bool) (v : Word) (s : State) : State :=
  let refuse := fun code => (s.put q R.PLANE_STATUS F.PLANE_STATUS_REFUSE code).raise q bPLANE 0 1
  let s1 := if size then s.put q (R.PLANE_REPL_SIZE g) F.PLANE_REPL_SIZE_WORDS (F.PLANE_REPL_SIZE_WORDS.get v)
    else s.put q (R.PLANE_REPL_BASE g) F.PLANE_REPL_BASE_ADDR (F.PLANE_REPL_BASE_ADDR.get v)
  if s.anyClosed then refuse 1 else match segCheck (segWritten q s1) with
    | 0 => s1
    | code => refuse code

/-- REPL_SEGMENT_WRITE (R367). -/
def execReplSegmentWrite (g : Fin 16) (size : Bool) (v : Word) (s : State) : Host.Outcome State Fault Refusal :=
  settled (s.onChanter (fun q => writeSegment q g size v))

end Sys2Proof.Machine
end

