-- ==== Sys2Proof/Machine/Slv.lean ====
section
/-! DEFINITION. The coupled solver: the solver array and its operations, the motion job of a cycle, results, the late rule and
activation (R139 to R171). -/

namespace Sys2Proof.Machine

/-- The flags of SLV, which raise E40 (R171). -/
def bSLV : Bank := ⟨R.SLV_FLAGS, R.SLV_FLAG_CNT0, some R.SLV_EVMASK, 0⟩

/-- Raise flag `j` of SLV_FLAGS. -/
def raiseS (q : Plane) (j : Nat) (s : State) : State := s.raise q bSLV 40 j

/-- The flags of EST (R199). -/
def bEST : Bank := ⟨R.EST_FLAGS, R.EST_FLAG_CNT0, some R.EST_EVMASK, 0⟩

/-- Raise flag `j` of EST_FLAGS: E41, E42 or E43 (R199). -/
def raiseE (q : Plane) (j : Nat) (s : State) : State :=
  s.raise q bEST (if j ≤ 1 ∨ 9 ≤ j then 41 else if j ≤ 7 then 42 else 43) j

/-- The solver array of plane `q`. -/
def State.arr (s : State) (q : Plane) : SlvArr := (s.plane q).arr

/-- The state with the solver array of plane `q` replaced. -/
def State.setArr (s : State) (q : Plane) (x : SlvArr) : State := s.setPlane q { s.plane q with arr := x }

/-- The solver's replicated state. -/
def State.slv (s : State) (q : Plane) : SlvSt := (s.rep q).slv

/-- The state with the solver's replicated state replaced. -/
def State.setSlv (s : State) (q : Plane) (x : SlvSt) : State := s.setRep q { s.rep q with slv := x }

/-- The estimation sequencer's replicated state. -/
def State.est (s : State) (q : Plane) : EstSt := (s.rep q).est

/-- The state with the estimation sequencer's replaced. -/
def State.setEst (s : State) (q : Plane) (x : EstSt) : State := s.setRep q { s.rep q with est := x }

/-- The word at an SRAM address (R139). -/
def State.sram (s : State) (q : Plane) (a : Nat) : Word := sGet (fun _ => (0 : Word)) (s.arr q).sram (a % 2 ^ 22)

/-- Words are written to SRAM from an address upward; one past its last word lies at its first. DESIGN CHOICE, log 136. -/
def sramPuts (q : Plane) (a : Nat) (ws : List Word) (s : State) : State :=
  let x := s.arr q
  s.setArr q { x with sram := (ws.zipIdx).foldl (fun m e => sPut (fun _ => (0 : Word)) m ((a + e.2) % 2 ^ 22) e.1) x.sram }

/-- An accumulator. -/
def SlvArr.a (x : SlvArr) (k : Nat) : Int := sGet (fun _ => (0 : Int)) x.acc k

/-- The words of a loaded Pricking; none where none is loaded. -/
def prickWords (p : Option Prick) : List Word :=
  match p with
  | some x => x.ws
  | none => []

/-! ## Result buffers (R161) -/

/-- The base of the result buffers in force. -/
def resBase (q : Plane) (s : State) : Nat := (s.act q R.SLV_RES_BASE).toNat / 4096 * 4096

/-- The published buffer, and the pending one. -/
def pubBuf (q : Plane) (s : State) : Nat := resBase q s + 2048 * s.get q R.SLV_RES_SEL F.SLV_RES_SEL_SEL
/-- The pending buffer. DEDUCED, log 62. -/
def pendBuf (q : Plane) (s : State) : Nat := resBase q s + 2048 * (1 - s.get q R.SLV_RES_SEL F.SLV_RES_SEL_SEL)

/-- Axis `i` is frozen (R148). -/
def isFrozen (q : Plane) (i : Nat) (s : State) : Bool := bitN (s.rd q (R.SLV_FREEZE (i / 32))).toNat (i % 32)

/-- The fill of axis `i`: the eight words it writes (R161). -/
def fillWords (q : Plane) (i : Nat) (s : State) : List Word :=
  let p := fun k => s.sw q (pubBuf q s + 8 * i + k)
  let old := (s.sw q (pendBuf q s + 8 * i)).toInt
  [wordI (sat36 (2 * (p 0).toInt - old)), p 1, 0, p 3, p 4, 2, 0, 0]

/-- The extrapolation fill of the pending buffer, with its words that hold 0; the positions that it wrote are returned (R161). -/
def fillPending (q : Plane) (s : State) : List Word × State :=
  let ws := (List.range 160).map (fun i => fillWords q i s)
  (ws.map (fun w => nth w 0 0), (s.sputs q (pendBuf q s) ws.flatten).sputs q (pendBuf q s + 1283) (List.replicate 765 0))

/-- FROZEN axes are overwritten: the last published position, at rest (R148, R158). -/
def overwriteFrozen (q : Plane) (s : State) : State :=
  each ((List.range 160).filter (fun i => isFrozen q i s)) (fun i s =>
    let b := pendBuf q s + 8 * i
    (s.sputs q b [s.sw q (pubBuf q s + 8 * i), 0, 0]).sput q (b + 5) ((s.sw q (b + 5)) ||| 1)) s

/-! ## Regions (R144 to R150, R159) -/

/-- The entries of RANGE: first parameter word, count, minimum and maximum (R146). DEDUCED, log 62. -/
def ranges (ws : List Word) : List (Nat × Nat × Int × Int) :=
  let r := secWords ws sRANGE
  (List.range (r.length / 3)).map (fun k =>
    (bitsAt (nth r (3 * k) 0) 0 12, bitsAt (nth r (3 * k) 0) 12 12, (nth r (3 * k + 1) 0).toInt, (nth r (3 * k + 2) 0).toInt))

/-- A parameter word clamped to the range that covers it (R146). DEDUCED, log 62. -/
def clampParam (rs : List (Nat × Nat × Int × Int)) (i : Nat) (w : Word) : Word :=
  match rs.find? (fun r => decide (r.1 ≤ i) && decide (i < r.1 + r.2.1)) with
  | some r => wordI (min (max w.toInt r.2.2.1) r.2.2.2)
  | none => w

/-- The parameter block in force: words 0..1263 (R145). -/
def paramBlock (q : Plane) (s : State) : List Word :=
  s.swords q ((s.act q R.SLV_PARAM_BASE).toNat / 4096 * 4096 + 2048 * s.ag q R.SLV_PARAM_SEL F.SLV_PARAM_SEL_SEL) 1264

/-- KIND of arm `a` in the target image (R137). -/
def tgtKind (q : Plane) (a : Nat) (s : State) : Nat := bitsAt (s.sw q ((s.act q R.PLN_TGT_BASE).toNat / 2048 * 2048 + 64 * a)) 32 4

/-- The effective relative weight of a row (R144); arms with KIND 0x2 by `joint`. -/
def rowWeight (par : List Word) (joint : Nat → Bool) (row : Word) : Word :=
  let x := bitsAt row 24 8
  let y := bitsAt row 16 8
  let p := fun i => nth par i 0
  match bitsAt row 32 4 with
  | 1 => if joint x then 0 else p (2 * x)
  | 2 => if joint x then 0 else p (2 * x + 1)
  | 3 => p (32 + 3 * x)
  | 4 => p (992 + (x * (31 - x) / 2 + y - x - 1))
  | 5 => if decide (x < 128) && joint (x / 8) then p (34 + 3 * x) else p (33 + 3 * x)
  | 6 => p (1112 + (x - 128))
  | _ => 0

/-- The words of a region for a job (R150); `first` in a first solved cycle, `it` the iterate, `par` the clamped parameters.
DEDUCED, log 62. -/
def regionWords (q : Plane) (ws : List Word) (first : Bool) (it par : List Word) (s : State) : Region → List Word
  | .iterate => it
  | .meas => (List.range 160).map (fun i => s.rd q (R.CLE_CH_MEAS i))
  | .target => s.swords q ((s.act q R.PLN_TGT_BASE).toNat / 2048 * 2048) 1216
  | .weight => (List.range (hNrow ws)).map (fun r => rowWeight par (fun a => tgtKind q a s == 2) (secWord ws sROWS r))
  | .damp => (List.range 160).map (fun i => if isFrozen q i s then hw ws 16 else nth par (672 + i) 0)
  | .param => par
  | .prev => s.swords q (pendBuf q s) 1280
  | .cyc => [d36OfPs s.tcyc, wordI (rneDiv (256 * 10 ^ 12) (max 1 s.tcyc)), lo72 s.n, hi72 s.n, wordN (b2n first)]

/-- The entries of LIVE: SRAM address, minimum, maximum, default (R151). -/
def liveEntries (ws : List Word) : List (Nat × Int × Int × Word) :=
  let l := secWords ws sLIVE
  (List.range (l.length / 4)).map (fun k =>
    (bitsAt (nth l (4 * k) 0) 0 22, (nth l (4 * k + 1) 0).toInt, (nth l (4 * k + 2) 0).toInt, nth l (4 * k + 3) 0))

/-- A live constant at its use (R159): its value, and whether it was clamped. -/
def liveValue (q : Plane) (slot : Nat) (e : Nat × Int × Int × Word) (s : State) : Word × Bool :=
  let en := if slot < 32 then bitN (s.act q R.SLV_LIVE_EN0).toNat slot else bitN (s.act q R.SLV_LIVE_EN1).toNat (slot - 32)
  let v := (s.act q (R.SLV_LIVE slot)).toInt
  let c := min (max v e.2.1) e.2.2.1
  if en then (wordI c, decide (c ≠ v)) else (e.2.2.2, false)

/-- The live constants of a job (R159). -/
def writeLive (q : Plane) (ws : List Word) (slot0 : Nat) (s : State) : State :=
  each (liveEntries ws).zipIdx (fun e s =>
    let v := liveValue q (slot0 + e.2) e.1 s
    let s1 := sramPuts q e.1.1 [v.1] s
    if v.2 then raiseS q 9 s1 else s1) s

/-- The parameter table entries of a calibration: targets in the motion and dynamics Pricking (R181, R196). -/
def calTarget (q : Plane) (table i : Nat) (dyn : Bool) (s : State) : Nat := bitsAt (s.sw q (table + 6 * i + b2n dyn)) 0 22

/-- Values go to the targets of a parameter table, if the calibration was made for the Pricking in force of this kind: the BUILD_IDs are those
of the motion and of the dynamics Pricking (R193, R196). -/
def writeTargets (q : Plane) (dyn : Bool) (table : Word) (ids : List Word) (n : Nat) (value : Nat → Word) (s : State) : State :=
  let active := if dyn then [s.rd q R.SLV_ID_D0, s.rd q R.SLV_ID_D1] else [s.rd q R.SLV_ID_M0, s.rd q R.SLV_ID_M1]
  if (if dyn then ids.drop 2 else ids.take 2) ≠ active then s
  else each (List.range n) (fun i s =>
    let a := calTarget q table.toNat i dyn s
    if a = absentBase then s else sramPuts q a [value i] s) s

/-- The values in force go to their places: those of tables applied before at nominal, then the calibration in force; the first
generation is nominal, and writes none (R195, R196). DEDUCED, log 67. -/
def writeCal (q : Plane) (dyn : Bool) (s : State) : State :=
  let b := (s.est q).base
  let s1 := each (s.est q).past (fun p s =>
    writeTargets q dyn p.1 p.2.2 p.2.1 (fun i => s.sw q (p.1.toNat + 6 * i + 2)) s) s
  if s.rd q R.EST_CAL_GEN = 0 then s1
  else writeTargets q dyn (s.sw q (b + 4098)) (s.swords q (b + 4099) 4) (bitsAt (s.sw q (b + 4107)) 0 11) (fun i => s.sw q (b + i)) s1

/-- The regions, the calibration and the live constants of a job, in this order (R150, R159, R196). -/
def writeRegions (q : Plane) (ws : List Word) (first : Bool) (it : List Word) (s : State) : State :=
  let raw := paramBlock q s
  let rs := ranges (if hKind ws = 1 then ws else prickWords (s.arr q).mot)
  let par := raw.zipIdx.map (fun e => clampParam rs e.2 e.1)
  let s1 := if hKind ws = 1 then each ((par.zip raw).filter (fun e => decide (e.1 ≠ e.2))) (fun _ s => raiseS q 9 s) s else s
  let s2 := each (usedRegions ws) (fun r s => sramPuts q (regionBase ws r) (regionWords q ws first it par s1 r) s) s1
  writeLive q ws (if hKind ws = 1 then 0 else 32) (writeCal q (hKind ws == 2) s2)

/-! ## The motion job (R158 to R163) -/

/-- The running motion job. -/
def State.job (s : State) (q : Plane) : Option SlvJob := (s.arr q).job

/-- The state with the motion job replaced. -/
def setJob (q : Plane) (j : SlvJob) (s : State) : State := s.setArr q { s.arr q with job := some j }

/-- Accumulators, T and S are 0. -/
def clearBits (q : Plane) (s : State) : State := s.setArr q { s.arr q with acc := [], t := false, s := false }

/-- The dynamics pass starts, if a dynamics Pricking is active; otherwise the job has ended (R158, R165). -/
def startDynamics (q : Plane) (j : SlvJob) (s : State) : State :=
  let s1 := overwriteFrozen q s
  match (s1.arr q).dyn with
  | some d => setJob q { j with phase := .dynamics, pc := if hPro d.ws = 0 then hBody d.ws else 0, pubbed := [] }
      (clearBits q (writeRegions q d.ws j.first [] s1))
  | none => setJob q { j with phase := .ended } s1

/-- The loop has ended: the epilogue on the last passing iterate, or the extrapolation (R158). -/
def leaveLoop (q : Plane) (j : SlvJob) (s : State) : State :=
  let m := prickWords (s.arr q).mot
  if j.best = 0 then startDynamics q j s
  else
    let s1 := if regionBase m .iterate = absentBase then s else sramPuts q (regionBase m .iterate) j.keep s
    setJob q { j with phase := .epilogue, pc := hPro m + hBody m, pubbed := [] } s1

/-- The iterate of a motion job (R147). -/
def warmStart (q : Plane) (first : Bool) (s : State) : List Word :=
  (List.range 160).map (fun i =>
    if first || ((s.slv q).left.contains i && !isFrozen q i s) then s.rd q (R.CLE_CH_MEAS i) else s.sw q (pubBuf q s + 8 * i))

/-- MOTION_JOB_START: the fill, then the regions and the prologue of a solved cycle; a cycle without a Pricking or off the
divider goes on to the dynamics pass (R158, R162, R163). DEDUCED, log 62. -/
def startJob (q : Plane) (s : State) : State :=
  let f := fillPending q s
  let s1 := f.2
  let j : SlvJob := { phase := .prologue, pc := 0, k := 0, cap := 0, best := 0, keep := [], first := false, outcome := 7
                      fill := f.1, pubbed := [], dynDone := false, again := false, used := [] }
  match (s1.arr q).mot with
  | none => startDynamics q j s1
  | some m =>
    if s1.ag q R.SLV_CFG F.SLV_CFG_DIV = 1 ∧ s1.n % 2 ≠ s1.ag q R.SLV_CFG F.SLV_CFG_PHASE then
      startDynamics q { j with outcome := 5 } s1
    else
      let first := s1.get q R.SLV_STATUS F.SLV_STATUS_FIRST_PENDING == 1
      let s2 := clearBits q (writeRegions q m.ws first (warmStart q first s1) s1)
      setJob q { j with
        first := first, cap := if first then 3 else hIterMax m.ws, phase := if hPro m.ws = 0 then .body else .prologue
        used := (s1.slv q).left.filter (fun i => !isFrozen q i s1) } s2

/-- The array is free of an estimation program: a motion job that waits takes it (R140). -/
def freeArray (q : Plane) (s : State) : State :=
  let x := s.arr q
  if x.waiting && (x.est.isNone || x.estPc == 0) then startJob q (s.setArr q { x with waiting := false }) else s

/-- The Pricking at a store address. -/
def prickAt (q : Plane) (a : Nat) (s : State) : List Word := s.swords q a (bitsAt (s.sw q (a + 1)) 0 32)

/-- The estimation Pricking stands in the estimation partition, its job not begun (R154, R176, R179). -/
def installEst (q : Plane) (ws : List Word) (s : State) : State :=
  let s1 := sramPuts q (secAddr ws sCONST) (secWords ws sCONST) s
  let s2 := sramPuts q (secAddr ws sPROGRAM) (secWords ws sPROGRAM) s1
  s2.setArr q { s2.arr q with est := some ⟨ws, 0⟩, estPc := 0, estFresh := true }

/-- A new Chanter reloads the Pricking of a held estimation job from its own store (R179). -/
def reloadEst (q : Plane) (s : State) : State :=
  match (s.est q).job with
  | some d => if (s.arr q).est.isNone && decide (2 ≤ s.get q R.EST_JOB F.EST_JOB_STATE) then
      installEst q (prickAt q (nth d 1 0).toNat s) s else s
  | none => s

/-- The motion job takes the array at the interpolation, or at the next TILE of an estimation job that holds it, or at its end (R140).
-/
def requestJob (q : Plane) (s0 : State) : State :=
  let s := reloadEst q s0
  freeArray q (s.setArr q { s.arr q with waiting := true, job := none })

/-- The cell time of the deadline of the present cycle. -/
def solveDeadline (s : State) : Nat := s.atOfs R.TIM_CYC_ACT_SOLVE_DEADLINE

/-- SOLVE_DEADLINE on a job that has not left its loop (R158, R162). DEDUCED, log 64. -/
def deadline (q : Plane) (s : State) : State :=
  match s.job q with
  | none => s
  | some j =>
    match j.phase with
    | .prologue => leaveLoop q { j with outcome := 3 } (raiseS q 0 s)
    | .body =>
      if j.best = 0 then leaveLoop q { j with outcome := 3 } (raiseS q 0 s)
      else if j.first then leaveLoop q { j with outcome := 0 } s
      else leaveLoop q { j with outcome := 2 } (raiseS q 0 s)
    | _ => s

/-- SOLVE_DEADLINE (R158). DEDUCED, log 64. -/
def execSolveDeadline (s : State) : Host.Outcome State Fault Refusal :=
  settled (if s.cyc.starts = 0 then s
    else
      ((s.toTime (solveDeadline s)).dp R.TIM_CYC_STATUS F.TIM_CYC_STATUS_PHASE 2).onChanter (fun q s1 =>
        deadline q (if (s1.arr q).waiting then startJob q (s1.setArr q { s1.arr q with waiting := false }) else s1)))

/-! ## Operations (R152 to R157) -/

/-- Who holds the array: the motion job (`none` for estimation), the program it runs and the index of its next operation.
DEDUCED, log 60. DEDUCED, log 61. -/
def running (q : Plane) (s : State) : Option (Bool × List Word × Nat) :=
  match s.job q with
  | some j =>
    match j.phase with
    | .prologue | .body => if s.now < solveDeadline s then some (true, prickWords (s.arr q).mot, j.pc) else none
    | .epilogue => some (true, prickWords (s.arr q).mot, j.pc)
    | .dynamics => some (true, prickWords (s.arr q).dyn, j.pc)
    | .ended => (s.arr q).est.map (fun p => (false, p.ws, (s.arr q).estPc))
  | none => (s.arr q).est.map (fun p => (false, p.ws, (s.arr q).estPc))

/-- The words of an operation in SRAM. -/
def sramOp (q : Plane) (ws : List Word) (pc : Nat) (s : State) : Word × Word × Word :=
  let a := secAddr ws sPROGRAM + 3 * pc
  (s.sram q a, s.sram q (a + 1), s.sram q (a + 2))

/-- The fields of an operation (R152). -/
structure SolverOp where
  acc : Nat
  dst : Nat
  col : Nat
  srcA : Nat
  srcB : Nat
  sh : Nat
  c : Bool
  imm : Word
  deriving DecidableEq, Repr

/-- The fields of three words. -/
def SolverOp.of (o : Word × Word × Word) : SolverOp :=
  ⟨bitsAt o.1 22 8, bitsAt o.1 0 22, bitsAt o.2.1 26 10, bitsAt o.2.1 0 22, bitsAt o.2.2 0 22, bitsAt o.2.2 30 6,
    bitsAt o.2.2 29 1 == 1, o.2.1⟩

/-- SAT is raised and the log written at the operation that clamps (R155); an estimation job raises its own (R188). -/
def satAt (q : Plane) (motion : Bool) (pc : Nat) (s : State) : State :=
  if motion then raiseS q 3 (s.wr q R.SLV_SAT_LOG (F.SLV_SAT_LOG_CYCLE.set (F.SLV_SAT_LOG_OP.set 0 pc) (s.n % 2 ^ 15)))
  else raiseE q 10 s

/-- The index after an operation: the prologue runs into the body, or past it in a dynamics program (R154). -/
def nextPc (ws : List Word) (phase : JobPhase) (pc : Nat) : JobPhase × Nat :=
  match phase with
  | .prologue => if pc + 1 = hPro ws then (.body, pc + 1) else (.prologue, pc + 1)
  | .dynamics => if pc + 1 = hPro ws then (.dynamics, pc + 1 + hBody ws) else (.dynamics, pc + 1)
  | p => (p, pc + 1)

/-- The array goes on to the next operation. DEDUCED, log 60. -/
def advance (q : Plane) (motion : Bool) (ws : List Word) (s : State) : State :=
  if motion then
    match s.job q with
    | some j => let n := nextPc ws j.phase j.pc; setJob q { j with phase := n.1, pc := n.2 } s
    | none => s
  else
    let x := s.arr q
    freeArray q (s.setArr q { x with estPc := if hOps ws ≤ x.estPc + 1 then 0 else x.estPc + 1 })

/-- The first operation of an estimation job finds the accumulators, T and S at 0 (R154). -/
def beginEst (q : Plane) (s : State) : State :=
  if (s.arr q).estFresh then (clearBits q s).setArr q { (clearBits q s).arr q with estFresh := false } else s

/-- One operation: if the next operation of the program that holds the array has code `code`, `f` is its effect on the array,
and the array goes on. `f` answers with whether a clamp occurred. DEDUCED, log 60. -/
def solverOp (code : Nat) (f : Plane → SolverOp → State → State × Bool) (s : State) : State :=
  s.onChanter (fun q s =>
    match running q s with
    | none => s
    | some (motion, ws, pc) =>
      let o := sramOp q ws pc s
      if opCode o ≠ code then s
      else
        let r := f q (SolverOp.of o) (if motion then s else beginEst q s)
        advance q motion ws (if r.2 then satAt q motion pc r.1 else r.1))

/-- An accumulator takes a value clamped to 80 bits (R155). -/
def putAcc (q : Plane) (k : Nat) (x : Int) (s : State) : State × Bool :=
  let y := s.arr q
  (s.setArr q { y with acc := sPut (fun _ => (0 : Int)) y.acc k (satTo 80 x) }, decide (satTo 80 x ≠ x))

/-- A destination takes a value saturated to 36 bits (R155). -/
def putDst (q : Plane) (a : Nat) (x : Int) (s : State) : State × Bool := (sramPuts q a [wordI (sat36 x)] s, over36 x)

/-- The signed word at an SRAM address. -/
def srcWord (q : Plane) (a : Nat) (s : State) : Int := (s.sram q a).toInt

/-- NOP has no effect (R153). -/
def execSolverNop (s : State) : Host.Outcome State Fault Refusal := settled (solverOp 0x00 (fun _ _ s => (s, false)) s)

/-- ACLR clears an accumulator (R153). -/
def execAclr (s : State) : Host.Outcome State Fault Refusal := settled (solverOp 0x01 (fun q o s => putAcc q o.acc 0 s) s)

/-- MAC adds an exact product (R153). -/
def execMac (s : State) : Host.Outcome State Fault Refusal :=
  settled (solverOp 0x02 (fun q o s => putAcc q o.acc ((s.arr q).a o.acc + srcWord q o.srcA s * srcWord q o.srcB s) s) s)

/-- MSU subtracts an exact product (R153). -/
def execMsu (s : State) : Host.Outcome State Fault Refusal :=
  settled (solverOp 0x03 (fun q o s => putAcc q o.acc ((s.arr q).a o.acc - srcWord q o.srcA s * srcWord q o.srcB s) s) s)

/-- ALD loads A × 2^SH (R153, R156). -/
def execAld (s : State) : Host.Outcome State Fault Refusal :=
  settled (solverOp 0x04 (fun q o s => putAcc q o.acc (srcWord q o.srcA s * 2 ^ o.sh) s) s)

/-- A word of a section of the Pricking that holds the array; 0 where the Pricking has no such section. DESIGN CHOICE, log 136.
-/
def colWord (q : Plane) (t col : Nat) (s : State) : Word :=
  match running q s with
  | some (_, ws, _) => secWord ws t col
  | none => 0

/-- ARND rounds an accumulator by s_COL or SH into a word (R153, R155). -/
def execArnd (s : State) : Host.Outcome State Fault Refusal :=
  settled (solverOp 0x05 (fun q o s =>
    let k := if o.c then bitsAt (colWord q sSHIFT o.col s) 0 6 else o.sh
    putDst q o.dst (rneShift ((s.arr q).a o.acc) k) s) s)

/-- DIV writes the rounded quotient (R153, R156). -/
def execDiv (s : State) : Host.Outcome State Fault Refusal :=
  settled (solverOp 0x06 (fun q o s =>
    let r := divRne (srcWord q o.srcA s) o.sh (srcWord q o.srcB s)
    (sramPuts q o.dst [wordI r.1] s, r.2)) s)

/-- PIVOT is raised and logged (R157, R188). -/
def pivotAt (q : Plane) (motion : Bool) (col : Nat) (s : State) : State :=
  if motion then raiseS q 2 (s.wr q R.SLV_PIV_LOG (F.SLV_PIV_LOG_CYCLE.set (F.SLV_PIV_LOG_COL.set 0 col) (s.n % 2 ^ 16)))
  else raiseE q 9 s

/-- PIV regularises a pivot below its threshold (R157). -/
def execPiv (s : State) : Host.Outcome State Fault Refusal :=
  settled (solverOp 0x07 (fun q o s =>
    let d := srcWord q o.dst s
    if d.natAbs < (colWord q sTAU o.col s).toNat then
      let r := putDst q o.dst (d + (colWord q sLAMBDA o.col s).toNat) s
      let motion := match running q s with
        | some (m, _) => m
        | none => true
      (pivotAt q motion o.col r.1, r.2)
    else (s, false)) s)

/-- CS writes the correctly rounded cosine and sine (R153, R155). -/
def execCs (s : State) : Host.Outcome State Fault Refusal :=
  settled (solverOp 0x08 (fun q o s =>
    let r := cosSin (srcWord q o.srcA s)
    (sramPuts q o.dst [wordI r.1, wordI r.2] s, false)) s)

/-- SQRT writes the correctly rounded square root of an unsigned word (R153, R156). -/
def execSqrt (s : State) : Host.Outcome State Fault Refusal :=
  settled (solverOp 0x09 (fun q o s => putDst q o.dst (sqrtRne ((s.sram q o.srcA).toNat * 2 ^ o.sh)) s) s)

/-- CLMP clamps a word to 0..B (R153). -/
def execClmp (s : State) : Host.Outcome State Fault Refusal :=
  settled (solverOp 0x0A (fun q o s => putDst q o.dst (min (max (srcWord q o.srcA s) 0) (srcWord q o.srcB s)) s) s)

/-- ADD writes a saturated sum (R153). -/
def execAdd (s : State) : Host.Outcome State Fault Refusal :=
  settled (solverOp 0x0B (fun q o s => putDst q o.dst (srcWord q o.srcA s + srcWord q o.srcB s) s) s)

/-- SUB writes a saturated difference (R153). -/
def execSub (s : State) : Host.Outcome State Fault Refusal :=
  settled (solverOp 0x0C (fun q o s => putDst q o.dst (srcWord q o.srcA s - srcWord q o.srcB s) s) s)

/-- LDI writes an immediate word (R153). -/
def execLdi (s : State) : Host.Outcome State Fault Refusal :=
  settled (solverOp 0x0D (fun q o s => (sramPuts q o.dst [o.imm] s, false)) s)

/-- CMPLE sets T from a signed comparison of two accumulators (R153). -/
def execCmple (s : State) : Host.Outcome State Fault Refusal :=
  settled (solverOp 0x0E (fun q o s =>
    let x := s.arr q
    (s.setArr q { x with t := decide (x.a o.acc ≤ x.a (o.srcA % 256)) }, false)) s)

/-- STEP sets S when an increment exceeds its bound (R153). -/
def execStep (s : State) : Host.Outcome State Fault Refusal :=
  settled (solverOp 0x0F (fun q o s =>
    if srcWord q o.srcB s < ((srcWord q o.srcA s).natAbs : Int) then (s.setArr q { s.arr q with s := true }, false) else (s, false)) s)

/-- TILE: the pre-emption point of an estimation job, at which a motion job that waits takes the array; it has no effect in
MOTION and DYNAMICS (R140, R153, R178). -/
def execTile (s : State) : Host.Outcome State Fault Refusal :=
  settled (s.onChanter (fun q s =>
    let s1 := solverOp 0x10 (fun _ _ s => (s, false)) s
    let took := match running q s with
      | some (false, ws, pc) => opCode (sramOp q ws pc s) == 0x10
      | _ => false
    if took && (s1.arr q).waiting then startJob q (s1.setArr q { s1.arr q with waiting := false }) else s1))

/-- The publish test at an ITER of the body (R158, R160, R162). DEDUCED, log 61. -/
def publishTest (q : Plane) (j : SlvJob) (s : State) : State :=
  let x := s.arr q
  let m := prickWords x.mot
  let b := regionBase m .iterate
  let k := j.k + 1
  if x.t && !x.s then
    let keep := if b = absentBase then [] else (List.range 160).map (fun i => s.sram q (b + i))
    let j1 := { j with k := k, best := k, keep := keep, pc := hPro m }
    let s1 := s.setArr q { x with t := false, s := false }
    if k < j.cap then setJob q j1 s1 else leaveLoop q { j1 with outcome := 0 } s1
  else if j.best = 0 then leaveLoop q { j with k := k, outcome := 4 } (raiseS q 1 s)
  else leaveLoop q { j with k := k, outcome := 1 } s

/-- ITER ends a body run with the publish test (R160). -/
def execIter (s : State) : Host.Outcome State Fault Refusal :=
  settled (s.onChanter (fun q s =>
    match running q s, s.job q with
    | some (motion, ws, pc), some j =>
      if opCode (sramOp q ws pc s) ≠ 0x11 then s
      else if motion && decide (j.phase = .body) then publishTest q j s else advance q motion ws s
    | some (motion, ws, pc), none => if opCode (sramOp q ws pc s) ≠ 0x11 then s else advance q motion ws s
    | none, _ => s))

/-- PUB writes a word of the pending result and clears EXTRAP of its axis (R153, R161), which a PUB of the dynamics pass, whose
words 3 and 4 are no set-point, leaves. DESIGN CHOICE, log 136. -/
def execPub (s : State) : Host.Outcome State Fault Refusal :=
  settled (solverOp 0x12 (fun q o s =>
    match s.job q with
    | some j =>
      if j.phase = .ended then (s, false)
      else
        let b := pendBuf q s
        let i := o.dst / 8
        let s1 := s.sput q (b + o.dst) (s.sram q o.srcA)
        let s2 := if j.phase = .dynamics then s1 else s1.sput q (b + 8 * i + 5) (s1.sw q (b + 8 * i + 5) &&& ~~~(2 : Word))
        (setJob q { j with pubbed := if j.pubbed.contains i then j.pubbed else j.pubbed ++ [i] } s2, false)
    | none => (s, false)) s)

/-- END ends the epilogue, and the dynamics pass follows; or it ends the dynamics program (R153, R158). DEDUCED, log 61. -/
def execSolverEnd (s : State) : Host.Outcome State Fault Refusal :=
  settled (s.onChanter (fun q s =>
    match running q s with
    | none => s
    | some (motion, ws, pc) =>
      if opCode (sramOp q ws pc s) ≠ 0x3F then s
      else if !motion then freeArray q (s.setArr q { s.arr q with estPc := 0 })
      else match s.job q with
        | some j => match j.phase with
          | .epilogue => startDynamics q j s
          | .dynamics => setJob q { j with phase := .ended, dynDone := true } s
          | _ => advance q motion ws s
        | none => s))

/-! ## The commit (R161 to R165) -/

/-- The set-points of an unfinished epilogue return to their fill (R162). -/
def dropEpilogue (q : Plane) (j : SlvJob) (s : State) : State :=
  each j.pubbed (fun i s =>
    let b := pendBuf q s + 8 * i
    (s.sputs q b [nth j.fill i 0, s.sw q (pubBuf q s + 8 * i + 1), 0]).sput q (b + 5) (s.sw q (b + 5) ||| 2)) s

/-- Words 3 and 4 of an unfinished dynamics pass return to their fill (R165). -/
def dropDynamics (q : Plane) (j : SlvJob) (s : State) : State :=
  each j.pubbed (fun i s =>
    let p := pubBuf q s + 8 * i
    s.sputs q (pendBuf q s + 8 * i + 3) [s.sw q (p + 3), s.sw q (p + 4)]) s

/-- The SLV_LATE inhibit of every arm (R124, R164). -/
def setLate (q : Plane) (on : Bool) (s : State) : State :=
  each (List.range 16) (fun a s => setInhibit q a F.PLN_ARM_INHIBIT_SLV_LATE on s) (s.put q R.SLV_STATUS F.SLV_STATUS_INHIBIT (b2n on))

/-- LATE_RUN and SERVED_RUN after a solved cycle, and the inhibit (R164). -/
def lateRun (q : Plane) (outcome : Nat) (s : State) : State :=
  let late := outcome == 2 || outcome == 3 || outcome == 4 || outcome == 6
  let served := outcome == 0 || outcome == 1
  let l := if late then min 31 (s.get q R.SLV_STATUS F.SLV_STATUS_LATE_RUN + 1) else 0
  let v := if served then min 31 (s.get q R.SLV_STATUS F.SLV_STATUS_SERVED_RUN + 1) else 0
  let s1 := (s.put q R.SLV_STATUS F.SLV_STATUS_LATE_RUN l).put q R.SLV_STATUS F.SLV_STATUS_SERVED_RUN v
  let inh := s1.is q R.SLV_STATUS F.SLV_STATUS_INHIBIT
  if 3 ≤ l ∧ !inh then raiseS q 5 (setLate q true s1)
  else if inh ∧ atLeast1 (s1.ag q R.SLV_CFG F.SLV_CFG_RELEASE_N) ≤ v then setLate q false s1
  else s1

/-- The pending buffer of a job is published (R161, R162, R164). -/
def publish (q : Plane) (j : SlvJob) (s : State) : State :=
  let o := j.outcome
  let s1 := s.sputs q (pendBuf q s + 1280) [lo72 s.n, hi72 s.n, wordN o]
  let s2 := (s1.put q R.SLV_RES_SEL F.SLV_RES_SEL_SEL (1 - s1.get q R.SLV_RES_SEL F.SLV_RES_SEL_SEL)).put q
    R.SLV_STATUS F.SLV_STATUS_OUTCOME o
  if o = 5 ∨ o = 7 then s2
  else
    let s3 := (s2.put q R.SLV_STATUS F.SLV_STATUS_ITER_DONE (min 3 j.k)).put q R.SLV_STATUS F.SLV_STATUS_ITER_PUB
      (if o ≤ 2 then j.best else 0)
    let s4 := if j.first && !j.again then s3.put q R.SLV_STATUS F.SLV_STATUS_FIRST_PENDING 0 else s3
    lateRun q o (s4.setSlv q { s4.slv q with left := (s4.slv q).left.filter (fun i => !j.used.contains i) })

/-- RESULT_PUBLISH, EPILOGUE_LATE, DYN_LATE and LATE_RUN_UPDATE; an axis frozen since the fill is overwritten here too (R57, R148, R161 to
R165). -/
def slvCommit (q : Plane) (s0 : State) : State :=
  let s := deadline q (if (s0.arr q).waiting then startJob q (s0.setArr q { s0.arr q with waiting := false }) else s0)
  match s.job q with
  | none => s
  | some j =>
    let dyn := (s.arr q).dyn.isSome
    let r : SlvJob × State := match j.phase with
      | .epilogue =>
        let s1 := raiseS q 0 (dropEpilogue q j s)
        ({ j with outcome := 6 }, if dyn then raiseS q 4 s1 else s1)
      | .dynamics => (j, raiseS q 4 (dropDynamics q j s))
      | _ => (j, s)
    let s1 := publish q r.1 (overwriteFrozen q r.2)
    s1.setArr q { s1.arr q with job := none }

/-! ## Activation (R167, R168, R170) -/

/-- The axes that the device tables declare (R142). -/
def declaredAxes (s : State) : Nat := (s.tab.arms.map (fun t => t.joints.length)).sum + s.tab.aux.countP (fun a => a.isSome)

/-- A channel 0..159 is closed. -/
def axisClosed (q : Plane) (s : State) : Bool := (List.range 160).any (s.closedCh q)

/-- The PROGRAMs of the other Prickings that the array holds: those in force, which run until a new one takes effect, and one of the other
kind that is being activated (R139, R167). -/
def otherProgs (q : Plane) (kind : Nat) (s : State) : List (Nat × Nat) :=
  let x := s.arr q
  ([x.mot, x.dyn, if kind = 1 then x.newDyn else x.newMot].filterMap id).map (fun p => progSpan p.ws)

/-- A range of store words lies wholly in one replicated segment (R367). -/
def wholeRepl (q : Plane) (a n : Nat) (s : State) : Bool := (s.segments q).any (fun g => decide (g.1 ≤ a) && decide (a + n ≤ g.1 + g.2))

/-- The first check of R167 that fails, by its REFUSE code; 0 where all pass. -/
def activateCheck (q : Plane) (a : Nat) (s : State) : Nat :=
  let len := bitsAt (s.sw q (a + 1)) 0 32
  let nsec := bitsAt (s.sw q (a + 3)) 24 8
  if axisClosed q s then 1
  else if len < 24 + 3 * nsec + 1 ∨ storeWords < a + len then 5
  else
    let ws := prickAt q a s
    if !containerCrcOk ws then 2
    else if bitsAt (hw ws 0) 24 12 ≠ 0x7E5 ∨ bitsAt (hw ws 0) 16 8 ≠ 1 then 3
    else if hKind ws ≠ 1 ∧ hKind ws ≠ 2 then 4
    else if !shapeOk ws then 5
    else if !placesOk ws (otherProgs q (hKind ws) s) then 6
    else if !opsOk ws then 7
    else if !countsOk ws (declaredAxes s) then 8
    else if !wholeRepl q a len s then 9
    else 0

/-- The bounds of R170 are compared with their windows, and WINDOW_SHORT raised. DEDUCED, log 36. -/
def checkWindows (q : Plane) (s : State) : State :=
  let o := fun k => s.dg k F.TIM_CYC_ACT_PERIOD_VALUE
  let x := s.arr q
  if windowShort (x.mot.map (·.ws)) (x.dyn.map (·.ws)) (o R.TIM_CYC_ACT_FB_DEADLINE) (o R.TIM_CYC_ACT_SOLVE_DEADLINE)
    (o R.TIM_CYC_ACT_COMMIT_OFS) then raiseS q 8 s else s

/-- A loaded Pricking takes effect in the array of plane `q`: CONST and PROGRAM stand in its SRAM (R168). DEDUCED, log 63. -/
def installPrick (q : Plane) (p : Prick) (s : State) : State :=
  let s1 := sramPuts q (secAddr p.ws sCONST) (secWords p.ws sCONST) s
  let s2 := sramPuts q (secAddr p.ws sPROGRAM) (secWords p.ws sPROGRAM) s1
  let x := s2.arr q
  s2.setArr q (if hKind p.ws = 1 then { x with mot := some p, newMot := none } else { x with dyn := some p, newDyn := none })

/-- The applied calibration is dropped: a generation with nominal values in force (R197). DEDUCED, log 67. -/
def dropCal (q : Plane) (s : State) : State :=
  let b := (s.est q).base
  let table := (s.sw q (b + 4098)).toNat
  let g := s.rd q R.EST_CAL_GEN + 1
  let v := (List.range (bitsAt (s.sw q (b + 4107)) 0 11)).map (fun i => s.sw q (table + 6 * i + 2))
  let s1 := ((s.sputs q b v).sputs q (b + 2048) v).sput q (b + 4096) g
  let s2 := (s1.wr q R.EST_CAL_GEN g).setEst q { s1.est q with applied := false }
  raiseE q 7 (s2.put q R.EST_CAL F.EST_CAL_BLENDING 0)

/-- PRICKING_EFFECT for the motion or the dynamics Pricking of the Chanter: status, identity, a first solved cycle, ACTIVATED,
WINDOW_SHORT and the calibration (R168, R147, R170, R197). DEDUCED, log 63. -/
def takeEffect (q : Plane) (dyn : Bool) (s : State) : State :=
  let x := s.arr q
  match (if dyn then x.newDyn else x.newMot) with
  | none => s
  | some p =>
    let id0 := s.rd q (if dyn then R.SLV_ID_D0 else R.SLV_ID_M0)
    let id1 := s.rd q (if dyn then R.SLV_ID_D1 else R.SLV_ID_M1)
    let s1 := installPrick q p s
    let v := s1.slv q
    let s2 := s1.setSlv q (if dyn then { v with dyn := v.newDyn, newDyn := none, genD := p.gen }
      else { v with mot := v.newMot, newMot := none, genM := p.gen })
    let s3 := (s2.wr q (if dyn then R.SLV_ID_D0 else R.SLV_ID_M0) (hw p.ws 20)).wr q
      (if dyn then R.SLV_ID_D1 else R.SLV_ID_M1) (hw p.ws 21)
    let s4 := s3.put q R.SLV_STATUS (if dyn then F.SLV_STATUS_DYN else F.SLV_STATUS_MOTION) 2
    let s5 := raiseS q 6 (if dyn then s4 else s4.put q R.SLV_STATUS F.SLV_STATUS_FIRST_PENDING 1)
    let s6 := if dyn then s5 else checkWindows q s5
    if (id0 ≠ hw p.ws 20 ∨ id1 ≠ hw p.ws 21) ∧ (s6.est q).applied then dropCal q s6 else s6

/-- The other plane is in step and has not loaded the Pricking of this activation (R168). DEDUCED, log 63. -/
def peerLacks (q : Plane) (dyn : Bool) (s : State) : Bool :=
  let p := fun (x : SlvArr) => if dyn then x.newDyn else x.newMot
  planeState q.other s == 2 && decide (p (s.arr q.other) ≠ p (s.arr q))

/-- PRICKING_EFFECT at a commit (R168). DEDUCED, log 63. -/
def slvEffects (q : Plane) (s : State) : State :=
  let s1 := if (s.arr q).newMot.isSome && !peerLacks q false s then takeEffect q false s else s
  if (s1.arr q).newDyn.isSome && !peerLacks q true s1 then takeEffect q true s1 else s1

/-- The Pricking that plane `q` holds with a number of activation, if it is one of two and the plane is in step; else the one at an address
of its own store (R168). -/
def heldPrick (q : Plane) (x y : Option Prick) (a g : Nat) (s : State) : Prick :=
  let fresh : Prick := ⟨prickAt q a s, g⟩
  if planeState q s ≠ 2 then fresh
  else match [x, y].filterMap id |>.find? (fun p => p.gen == g) with
    | some p => p
    | none => fresh

/-- The Pricking in force is the one that plane `q` holds. -/
def syncInForce (q : Plane) (x y : Option Prick) (a g : Nat) (s : State) : State :=
  let p := heldPrick q x y a g s
  if x = some p then s else installPrick q p s

/-- A Drone takes the result buffers from the state copy (R169). -/
def takeResults (q : Plane) (s : State) : State :=
  match (s.slv q).res with
  | none => s
  | some l =>
    let b := resBase q s
    let inBuf := fun a => decide (b ≤ a) && decide (a < b + 4096)
    let st := (s.plane q).store
    let s1 := s.setStore q { st with
      words := l.foldl (fun m e => sPut (fun _ => (0 : Word)) m e.1 e.2) (st.words.filter (fun e => !inBuf e.1))
      bad := st.bad.filter (fun e => !inBuf (2 * e.1)) }
    s1.setSlv q { s1.slv q with res := none }

/-- A Drone loads from its own store what the state it holds names: the Prickings in force and those being activated.  One that is not in
step loads them anew at each commit, and so at the end of its resynchronisation (R168, R169). -/
def slvSync (q : Plane) (s0 : State) : State :=
  let s := takeResults q s0
  let v := s.slv q
  let x := s.arr q
  let s1 := match v.mot with
    | some a => syncInForce q x.mot x.newMot a v.genM s
    | none => s
  let s2 := match v.dyn with
    | some a => syncInForce q x.dyn x.newDyn a v.genD s1
    | none => s1
  s2.setArr q { s2.arr q with
    newMot := v.newMot.map (fun a => ⟨prickAt q a s2, v.genM + 1⟩)
    newDyn := v.newDyn.map (fun a => ⟨prickAt q a s2, v.genD + 1⟩) }

/-- Before the first cycle the other plane loads an accepted Pricking as the Chanter does, unless it is held in reset (R168). -/
def peerLoads (q : Plane) (dyn : Bool) (p : Prick) (a : Nat) (s : State) : State :=
  let d := q.other
  if (s.ward d).inReset then s
  else
    let x := s.arr d
    let own : Prick := ⟨prickAt d a s, p.gen⟩
    s.setArr d (if dyn then { x with newDyn := some own } else { x with newMot := some own })

/-- Before the first cycle a Pricking takes effect once every plane that is not retired has loaded it (R168). -/
def effectNow (q : Plane) (dyn : Bool) (s : State) : State :=
  let d := q.other
  let gen := fun (x : SlvArr) => (if dyn then x.newDyn else x.newMot).map (·.gen)
  if planeState d s = 5 then takeEffect q dyn s
  else if gen (s.arr d) ≠ gen (s.arr q) then s
  else match (if dyn then (s.arr d).newDyn else (s.arr d).newMot) with
    | some p => takeEffect q dyn (installPrick d p s)
    | none => s

/-- An accepted ACTIVATE: the Pricking is loaded; it takes effect at a commit, or at once while no cycles run (R168). DEDUCED,
log 63. -/
def acceptPrick (q : Plane) (a : Nat) (s : State) : State :=
  let ws := prickAt q a s
  let dyn := hKind ws == 2
  let v := s.slv q
  let p : Prick := ⟨ws, if dyn then v.genD + 1 else v.genM + 1⟩
  let x := s.arr q
  let s1 := s.setArr q (if dyn then { x with newDyn := some p } else { x with newMot := some p })
  let s2 := s1.setSlv q (if dyn then { v with newDyn := some a } else { v with newMot := some a })
  let s3 := s2.put q R.SLV_STATUS (if dyn then F.SLV_STATUS_DYN else F.SLV_STATUS_MOTION) 1
  if s.cyc.starts = 0 then effectNow q dyn (peerLoads q dyn p a s3) else s3

/-- A command of SLV_CMD (R147, R167, R171). -/
def slvCmd (q : Plane) (code : Nat) (s0 : State) : State :=
  let s := s0.put q R.SLV_CMD F.SLV_CMD_CODE code
  let refuse := fun n s => s.refuse q R.SLV_STATUS F.SLV_STATUS_REFUSE n bSLV 40 7
  match code with
  | 0 => s
  | 1 =>
    let a := (s.rd q R.SLV_ARG).toNat
    let s1 := s.blockRead q a (bitsAt (s.sw q (a + 1)) 0 32)
    let n := activateCheck q a s
    if n = 0 then acceptPrick q a s1 else refuse n s1
  | 2 =>
    let s1 := s.put q R.SLV_STATUS F.SLV_STATUS_FIRST_PENDING 1
    match s1.job q with
    | some j => setJob q { j with again := true } s1
    | none => s1
  | _ => refuse 10 s

/-- ACTIVATE (R167). -/
def execActivate (s : State) : Host.Outcome State Fault Refusal := settled (s.onChanter (fun q s => slvCmd q 1 s))

/-- RESTART (R147). -/
def execRestart (s : State) : Host.Outcome State Fault Refusal := settled (s.onChanter (fun q s => slvCmd q 2 s))

/-- A reserved code of SLV_CMD is refused with REFUSE = 0xA (R171). -/
def execSlvCmdReserved (code : BitVec 4) (s : State) : Host.Outcome State Fault Refusal :=
  settled (s.onChanter (fun q s => slvCmd q code.toNat s))

end Sys2Proof.Machine
end

