-- ==== Sys2Proof/Machine/Est.lean ====
section
/-! DEFINITION. Estimation and in-build calibration: jobs, results, the calibration table and the intake (R172 to R199). -/

namespace Sys2Proof.Machine

/-! ## Jobs (R173 to R180) -/

/-- The state of the sequencer: 0 IDLE, 1 LOADING, 2 ITERATING, 3 CHECKING (R176). -/
def estState (q : Plane) (s : State) : Nat := s.get q R.EST_JOB F.EST_JOB_STATE

/-- Word `i` of the held job's descriptor. -/
def descW (q : Plane) (i : Nat) (s : State) : Word :=
  match (s.est q).job with
  | some d => nth d i 0
  | none => 0

/-- NPT of a descriptor. -/
def dNpt (d : List Word) : Nat := bitsAt (nth d 4 0) 22 14
/-- NOBS of a descriptor. -/
def dNobs (d : List Word) : Nat := bitsAt (nth d 6 0) 0 19
/-- RING of a descriptor. -/
def dRing (d : List Word) : Bool := bitsAt (nth d 6 0) 35 1 == 1
/-- ITER_CAP, 0 for 50. -/
def dCap (d : List Word) : Nat := if bitsAt (nth d 8 0) 30 6 = 0 then 50 else bitsAt (nth d 8 0) 30 6
/-- K0. -/
def dK0 (d : List Word) : Int := signedOf 8 (bitsAt (nth d 8 0) 22 8)
/-- EPS, 0 for 10^-6. -/
def dEps (d : List Word) : Nat := if nth d 9 0 = 0 then 68719 else (nth d 9 0).toNat
/-- TIME_BUDGET in ps, 0 for 10 s. -/
def dBudget (d : List Word) : Nat := if nth d 10 0 = 0 then 10 ^ 13 else psOfD36 (nth d 10 0)
/-- COV_MAX, 0 for 0.01. -/
def dCov (d : List Word) : Nat := if nth d 11 0 = 0 then 167772 else (nth d 11 0).toNat

/-- The base of the intake ring of a plane, and its size in records (R184); none where the intake is stopped. -/
def obsRing (q : Plane) (s : State) : Option (Nat × Nat) :=
  let k := s.get q R.EST_OBS_CFG F.EST_OBS_CFG_SIZE_LOG2
  if 8 ≤ k ∧ k ≤ 18 then some ((s.rd q R.EST_OBS_BASE).toNat / 2 ^ (5 + k) * 2 ^ (5 + k), 2 ^ k) else none

/-- The records of a job (R180, R184). -/
def jobRecords (q : Plane) (d : List Word) (s : State) : List (List Word) :=
  let w5 := (nth d 5 0).toNat
  if dRing d then
    match obsRing q s with
    | some (b, n) => (List.range (dNobs d)).map (fun i => s.swords q (b + 24 * ((w5 + i) % n)) 24)
    | none => []
  else (List.range (dNobs d)).map (fun i => s.swords q (w5 + 24 * i) 24)

/-- A record of a linear block whose joint words were never filled (R186). DESIGN CHOICE, log 65. -/
def unfilled (d r : List Word) : Bool :=
  !dRing d && bitsAt (nth r 0 0) 24 1 == 1 && (r.drop 8).all (fun w => w == 0) && Config.estUnfilled r

/-- A record is valid for a job (R173, R186). -/
def recordOk (d r : List Word) : Bool :=
  let k := recKind r
  bitsAt (nth r 7 0) 32 4 == 0 && decide (recPoint r < dNpt d) && !unfilled d r
    && (if bitsAt (nth d 0 0) 16 4 = 1 then k == 1 || k == 2 else k == 3)

/-- The valid records of a job. -/
def validRecords (q : Plane) (d : List Word) (s : State) : List (List Word) := (jobRecords q d s).filter (recordOk d)

/-- The records of a ring job have been overwritten (R186). -/
def overrun (q : Plane) (d : List Word) (s : State) : Bool :=
  match dRing d, obsRing q s with
  | true, some (_, n) => decide (n < (s.get q R.EST_OBS_WR F.EST_OBS_WR_COUNT + 2 ^ 32 - (nth d 5 0).toNat % 2 ^ 32) % 2 ^ 32)
  | _, _ => false

/-- A free point (R182). -/
def pointFree (q : Plane) (d : List Word) (i : Nat) (s : State) : Bool := bitsAt (s.sw q ((nth d 3 0).toNat + 8 * i + 6)) 0 1 == 1

/-- A free point with fewer than 2 valid records from distinct sensors is weak, and held (R188). -/
def pointWeak (recs : List (List Word)) (i : Nat) : Bool :=
  decide (((recs.filter (fun r => bitsAt (nth r 0 0) 7 13 == i)).map (fun r => bitsAt (nth r 0 0) 25 7)).dedup.length < 2)

/-- The range of store words lies in the replicated segments (R177). -/
def inSegments (q : Plane) (a n : Nat) (s : State) : Bool := n == 0 || wholeRepl q a n s

/-- The words of a result record (R190). -/
def resultLen (ncol npt : Nat) : Nat := 17 + ncol + 3 * npt

/-- The reason for which LOADING refuses a job: the first failing check of R177; 0 where all pass. -/
def loadCheck (q : Plane) (a : Nat) (d ws : List Word) (s : State) : Nat :=
  let kind := bitsAt (nth d 0 0) 16 4
  let lo := 0x280000
  let inEst := fun (b n : Nat) => decide (lo ≤ b) && decide (b + n ≤ absentBase)
  let ncol := hNcol ws
  let tab := (nth d 2 0).toNat
  let entryOk := fun i =>
    let w0 := s.sw q (tab + 6 * i)
    let ok := fun (t : Nat) => decide (t < lo) || t == absentBase
    bitsAt w0 34 2 != 3 && ok (bitsAt w0 0 22) && ok (bitsAt (s.sw q (tab + 6 * i + 1)) 0 22)
  if bitsAt (nth d 19 0) 0 32 ≠ crc32 (d.take 19) then 1
  else if bitsAt (nth d 0 0) 28 8 ≠ 2 ∨ bitsAt (nth d 0 0) 20 8 ≠ 1 ∨ (kind ≠ 1 ∧ kind ≠ 2) then 2
  else if !containerCrcOk ws ∨ bitsAt (hw ws 0) 24 12 ≠ 0x7E5 ∨ bitsAt (hw ws 0) 16 8 ≠ 1 ∨ hKind ws ≠ 3 then 3
  else if 1200 < (hw ws 10).toNat ∨ !inEst (secAddr ws sPROGRAM) (max (3 * hOps ws) (secWords ws sPROGRAM).length)
    ∨ ((prickSec ws sCONST).isSome ∧ !inEst (secAddr ws sCONST) (secWords ws sCONST).length) then 4
  else if ncol < 1 ∨ 1024 < ncol ∨ 8192 < dNpt d ∨ hNrow ws < dNpt d ∨ dNobs d < 1 ∨ 262144 < dNobs d then 5
  else if !(List.range ncol).all entryOk then 6
  else if !inSegments q a 20 s ∨ !inSegments q tab (6 * ncol) s ∨ !inSegments q (nth d 3 0).toNat (8 * dNpt d) s
    ∨ (!dRing d ∧ !inSegments q (nth d 5 0).toNat (24 * dNobs d) s) ∨ !inSegments q (nth d 7 0).toNat (resultLen ncol (dNpt d)) s then 7
  else 0

/-- EST_LAST after a job: STATUS, CHECK and REASON with the tag. -/
def putLast (q : Plane) (status check reason : Nat) (d : List Word) (s : State) : State :=
  s.wr q R.EST_LAST (F.EST_LAST_STATUS.set (F.EST_LAST_CHECK.set (F.EST_LAST_REASON.set (F.EST_LAST_TAG.set 0 (bitsAt (nth d 0 0) 0 16)) reason) check) status)

/-- The head of a result record, words R0 to R15, for `ncol` parameters and `npt` points that follow it (R190). -/
def resultHead (q : Plane) (d : List Word) (status check fail : Nat) (trace : Word) (ncol npt : Nat) (s : State) : List Word :=
  let e := s.est q
  [wordN (3 * 2 ^ 28 + 2 ^ 20 + status * 2 ^ 16 + bitsAt (nth d 0 0) 0 16),
    wordN (check * 2 ^ 32 + fail * 2 ^ 22 + s.get q R.EST_JOB F.EST_JOB_ACCEPTED * 2 ^ 8 + s.get q R.EST_JOB F.EST_JOB_ITER),
    lo72 e.f0, hi72 e.f0, lo72 e.f, hi72 e.f, trace, wordN e.used, wordN e.rejected, wordN e.weak, nth d 2 0,
    wordN (npt * 2 ^ 11 + ncol), nth d 15 0, nth d 16 0, nth d 17 0, nth d 18 0]

/-- The whole result record goes to the result area (R190). DEDUCED, log 66. -/
def writeResult (q : Plane) (status check fail : Nat) (trace : Word) (s : State) : State :=
  match (s.est q).job with
  | none => s
  | some d =>
    let e := s.est q
    let body := resultHead q d status check fail trace e.theta.length (e.points.length / 3) s ++ e.theta ++ e.points
    s.sputs q (nth d 7 0).toNat (body ++ [wordN (crc32 body)])

/-- The job leaves the sequencer, and its Pricking the array, which a waiting motion job takes (R140). -/
def dropJob (q : Plane) (s : State) : State :=
  let s1 := s.setEst q { s.est q with job := none }
  freeArray q ((s1.setArr q { s1.arr q with est := none, estPc := 0 }).put q R.EST_JOB F.EST_JOB_STATE 0)

/-- A job ends without CHECKING: ABORTED, NO_DATA or OVERRUN, with its result record (R176, R189, R190). DEDUCED, log 66. -/
def endJob (q : Plane) (status : Nat) (s : State) : State :=
  match (s.est q).job with
  | none => s
  | some d => raiseE q 0 (dropJob q (putLast q status 4 0 d (writeResult q status 4 0 0 s)))

/-- A parameter's nominal value (R181). -/
def nominal (q : Plane) (table i : Nat) (s : State) : Word := s.sw q (table + 6 * i + 2)

/-- The value in force of parameter `i`, with its nominal value from a parameter table (R193, R195). DEDUCED, log 67. -/
def inForce (q : Plane) (table : Word) (i : Nat) (s : State) : Word :=
  let b := (s.est q).base
  if (s.est q).applied && decide (i < bitsAt (s.sw q (b + 4107)) 0 11) then s.sw q (b + i) else nominal q table.toNat i s

/-- The calibration in force is that of a parameter table and of BUILD_IDs (R187). -/
def calMatches (q : Plane) (table : Word) (ids : List Word) (s : State) : Bool :=
  let b := (s.est q).base
  decide (s.sw q (b + 4098) = table) && decide (s.swords q (b + 4099) 4 = ids)

/-- The BUILD_IDs of a descriptor: W15 to W18. -/
def dIds (d : List Word) : List Word := [nth d 15 0, nth d 16 0, nth d 17 0, nth d 18 0]

/-- The start value of parameter `i` of a job (R187). -/
def startValue (q : Plane) (d : List Word) (i : Nat) (s : State) : Word :=
  if calMatches q (nth d 2 0) (dIds d) s then inForce q (nth d 2 0) i s else nominal q (nth d 2 0).toNat i s

/-- What the adjustment of a job works on (R173, R181, R182). -/
def fitOf (q : Plane) (d ws : List Word) (s : State) : Fit :=
  ⟨ws, d, validRecords q d s, (List.range (hNcol ws)).map (fun i => s.swords q ((nth d 2 0).toNat + 6 * i) 6),
    (List.range (dNpt d)).map (fun i => s.swords q ((nth d 3 0).toNat + 8 * i) 8)⟩

/-- The free points that are not weak (R188). -/
def movable (q : Plane) (d : List Word) (f : Fit) (s : State) : List Nat :=
  (List.range (dNpt d)).filter (fun i => pointFree q d i s && !pointWeak f.recs i)

/-- The start values of a job (R187). -/
def startValues (q : Plane) (d ws : List Word) (s : State) : Iterate :=
  ⟨(List.range (hNcol ws)).map (fun i => startValue q d i s),
    (List.range (dNpt d)).flatMap (fun i => s.swords q ((nth d 3 0).toNat + 8 * i) 3)⟩

/-- The start of ITERATING: start values, records and F (R187). -/
def startIterating (q : Plane) (d ws : List Word) (s : State) : State :=
  let fit := fitOf q d ws s
  let x := startValues q d ws s
  let f := costWord fit x
  let e := s.est q
  let s1 := s.setEst q { e with f0 := f, f := f, theta := x.theta, points := x.points, used := fit.recs.length
                                rejected := dNobs d - fit.recs.length
                                weak := ((List.range (dNpt d)).filter (fun i => pointFree q d i s && pointWeak fit.recs i)).length }
  let s2 := ((s1.put q R.EST_JOB F.EST_JOB_STATE 2).put q R.EST_JOB F.EST_JOB_LAMBDA_EXP ((dK0 d + 256).toNat % 256))
  s2.sput q (nth d 7 0).toNat (wordN (3 * 2 ^ 28 + 2 ^ 20 + bitsAt (nth d 0 0) 0 16))

/-- What a result record of BAD_JOB returns: the start values, where the counts of the job are legal; else none (R189, R190).
DEDUCED, log 66. -/
def badValues (q : Plane) (d ws : List Word) (r : Nat) (s : State) : State :=
  if (r = 4 ∨ r = 6) ∧ 1 ≤ hNcol ws ∧ hNcol ws ≤ 1024 ∧ dNpt d ≤ 8192 ∧ dNpt d ≤ hNrow ws then
    let x := startValues q d ws s
    s.setEst q { s.est q with theta := x.theta, points := x.points }
  else s

/-- JOB_LOAD: the next submission is taken and its descriptor and Pricking are checked (R174 to R177); a ring job whose records
are overwritten by the first pass ends (R186). DEDUCED, log 66. -/
def loadJob (q : Plane) (s : State) : State :=
  let k := s.get q R.EST_SUB_CFG F.EST_SUB_CFG_SIZE_LOG2
  let rd := s.get q R.EST_SUB_RD F.EST_SUB_RD_COUNT
  if estState q s ≠ 0 ∨ k = 0 ∨ k = 7 ∨ rd = s.get q R.EST_SUB_WR F.EST_SUB_WR_COUNT then s
  else
    let a := (s.sw q ((s.rd q R.EST_SUB_BASE).toNat / 2 ^ k * 2 ^ k + rd % 2 ^ k)).toNat
    let d := s.swords q a 20
    let s0 := s.blockRead q a 20
    let s1 := ((s0.put q R.EST_SUB_RD F.EST_SUB_RD_COUNT ((rd + 1) % 2 ^ 32)).wr q R.EST_JOB_ADDR (wordN a)).wr q R.EST_JOB
      (F.EST_JOB_STATE.set (F.EST_JOB_REFUSE.set 0 (s.get q R.EST_JOB F.EST_JOB_REFUSE)) 1)
    let s2 := s1.setEst q { s1.est q with job := some d, began := s1.now, theta := [], points := [], f0 := 0, f := 0
                                          used := 0, rejected := 0, weak := 0, status := 0 }
    let ws := prickAt q (nth d 1 0).toNat s2
    let r := loadCheck q a d ws s2
    if r = 0 then
      let s3 := startIterating q d ws (installEst q ws s2)
      if overrun q d s3 then endJob q 8 s3 else s3
    else
      let s3 := putLast q 6 4 r d s2
      if r = 1 ∨ r = 2 ∨ r = 7 then dropJob q s3
      else raiseE q 0 (dropJob q (writeResult q 6 4 0 0 (badValues q d ws r s3)))

/-- JOB_LOAD (R176). -/
def execJobLoad (s : State) : Host.Outcome State Fault Refusal := settled (s.onChanter (fun q s => loadJob q s))

/-- A write of EST_SUB_WR (R174). -/
def writeSubWr (q : Plane) (v : Nat) (s : State) : State :=
  let n := 2 ^ s.get q R.EST_SUB_CFG F.EST_SUB_CFG_SIZE_LOG2
  let old := s.get q R.EST_SUB_WR F.EST_SUB_WR_COUNT
  let rd := s.get q R.EST_SUB_RD F.EST_SUB_RD_COUNT
  if (v + 2 ^ 32 - old) % 2 ^ 32 ≤ n ∧ (v + 2 ^ 32 - rd) % 2 ^ 32 ≤ n then s.put q R.EST_SUB_WR F.EST_SUB_WR_COUNT v
  else raiseE q 11 s

/-- EST_SUB_WR_WRITE (R174). -/
def execEstSubWrWrite (v : BitVec 32) (s : State) : Host.Outcome State Fault Refusal :=
  settled (s.onChanter (fun q s => writeSubWr q v.toNat s))

/-! ## The iteration (R187 to R189) -/

/-- The words of the held job's Pricking: a new Chanter reloads it from its own store (R179). -/
def estWords (q : Plane) (d : List Word) (s : State) : List Word × State :=
  match (s.arr q).est with
  | some p => (p.ws, s)
  | none => let ws := prickAt q (nth d 1 0).toNat s; (ws, installEst q ws s)

/-- The job goes to CHECKING with a STATUS (R176). -/
def toChecking (q : Plane) (status : Nat) (s : State) : State :=
  (s.setEst q { s.est q with status := status }).put q R.EST_JOB F.EST_JOB_STATE 3

/-- A trial: the step is accepted or rejected, and the job ends at the first condition of R189 that holds (R188, R189). -/
def trial (q : Plane) (d ws : List Word) (s : State) : State :=
  let e := s.est q
  let fit := fitOf q d ws s
  let k := signedOf 8 (s.get q R.EST_JOB F.EST_JOB_LAMBDA_EXP)
  let t := trialAt fit ⟨e.theta, e.points⟩ k (movable q d fit s)
  let f := costWord fit t.1
  let s1 := if t.2.1 then raiseE q 10 s else s
  let s2 := if t.2.2 then raiseE q 9 s1 else s1
  let it := s2.get q R.EST_JOB F.EST_JOB_ITER + 1
  let ok := decide (f < e.f)
  let k' := if ok then max (k - 2) (-32) else k + 3
  let s3 := (s2.put q R.EST_JOB F.EST_JOB_ITER it).put q R.EST_JOB F.EST_JOB_LAMBDA_EXP ((k' + 256).toNat % 256)
  let s4 := if ok then
      ((s3.setEst q { e with f := f, theta := t.1.theta, points := t.1.points }).count q R.EST_JOB F.EST_JOB_ACCEPTED 1).sputs q
        ((nth d 7 0).toNat + 16) (t.1.theta ++ t.1.points)
    else s3
  if ok ∧ ((e.f - f) * 2 ^ 36 ≤ dEps d * e.f ∨ f = 0) then toChecking q 1 s4
  else if dCap d ≤ it then toChecking q 2 s4
  else if dBudget d ≤ s4.now - e.began then toChecking q 3 s4
  else if 40 < k' then toChecking q 4 s4
  else s4

/-- ITERATION_END (R189, R186). -/
def execIterationEnd (s : State) : Host.Outcome State Fault Refusal :=
  settled (s.onChanter (fun q s =>
    match (s.est q).job with
    | some d =>
      if estState q s ≠ 2 then s
      else if overrun q d s then endJob q 8 s
      else if validRecords q d s = [] then endJob q 7 s
      else let w := estWords q d s; trial q d w.1 w.2
    | none => s))

/-- EST_TIMEOUT: the trial in progress is abandoned (R189). -/
def execEstTimeout (s : State) : Host.Outcome State Fault Refusal :=
  settled (s.onChanter (fun q s =>
    match (s.est q).job with
    | some d => if estState q s = 2 then toChecking q 3 (s.toTime ((s.est q).began + dBudget d)) else s
    | none => s))

/-! ## Plausibility and the pending calibration (R191, R192) -/

/-- |a − b| of two signed words. -/
def distW (a b : Word) : Nat := (a.toInt - b.toInt).natAbs

/-- The checks of R191 on a result: CHECK, and the first failing parameter. -/
def plausible (q : Plane) (table : Word) (theta : List Word) (trace : Word) (cov : Nat) (s : State) : Nat × Nat :=
  let t := table.toNat
  let bound := fun i => decide (distW (nth theta i 0) (nominal q t i s) ≤ (s.sw q (t + 6 * i + 3)).toNat)
  let step := fun i => decide (distW (nth theta i 0) (inForce q table i s) ≤ (s.sw q (t + 6 * i + 4)).toNat)
  match (List.range theta.length).find? (fun i => !bound i), (List.range theta.length).find? (fun i => !step i) with
  | some i, _ => (1, i)
  | none, some i => (2, i)
  | none, none => (if trace.toNat ≤ cov then 0 else 3, 0)

/-- CHECKING_DONE: the trace, whose pass a ring job may not survive (R186), and the checks, the result record, JOB_DONE, and JOB_REJECTED for a failed check; a result with
CHECK 0 waits for the next commit (R190 to R192). -/
def checkDone (q : Plane) (s : State) : State :=
  match (s.est q).job with
  | none => s
  | some d =>
    if estState q s ≠ 3 then s
    else if overrun q d s then endJob q 8 s
    else
      let w := estWords q d s
      let e := w.2.est q
      let fit := fitOf q d w.1 w.2
      let tr := traceWord fit ⟨e.theta, e.points⟩ (movable q d fit w.2)
      let trace := tr.1
      let s1 := if tr.2 then raiseE q 9 w.2 else w.2
      let elig := e.status == 1 || bitsAt (nth d 12 0) 1 1 == 1
      let c := if !elig || s1.get q R.EST_JOB F.EST_JOB_ACCEPTED == 0 then (4, 0)
        else if bitsAt (nth d 12 0) 0 1 = 1 then (5, 0)
        else plausible q (nth d 2 0) e.theta trace (dCov d) s1
      let s2 := putLast q e.status c.1 0 d (writeResult q e.status c.1 c.2 trace s1)
      let s3 := dropJob q (if c.1 = 1 ∨ c.1 = 2 ∨ c.1 = 3 then raiseE q 1 s2 else s2)
      raiseE q 0 (if c.1 = 0 then s3.setEst q { s3.est q with ready := some (nth d 7 0).toNat } else s3)

/-- CHECKING_DONE (R191). -/
def execCheckingDone (s : State) : Host.Outcome State Fault Refusal := settled (s.onChanter (fun q s => checkDone q s))

/-- A result record becomes the pending calibration (R192, R193). -/
def makePending (q : Plane) (a : Nat) (s : State) : State :=
  let b := (s.est q).base
  let n := bitsAt (s.sw q (a + 11)) 0 11
  let s1 := s.sputs q (b + 3072) (s.swords q (a + 16) n)
  let s2 := (s1.sput q (b + 4097) (s1.sw q (a + 10))).sputs q (b + 4103) (s1.swords q (a + 12) 4)
  let w := s2.sw q (b + 4107)
  let s3 := s2.sput q (b + 4107) (Fld.set ⟨21, 11⟩ w n)
  let had := s.is q R.EST_CAL F.EST_CAL_PENDING
  let s4 := raiseE q 2 (s3.put q R.EST_CAL F.EST_CAL_PENDING 1)
  if had then raiseE q 3 s4 else s4

/-! ## Application and blend (R194, R195) -/

/-- BLEND_N in force. -/
def blendN (q : Plane) (s : State) : Nat := atLeast1 (s.ag q R.EST_CFG F.EST_CFG_BLEND_N)

/-- The values in force at a blend counter (R195). -/
def putBlend (q : Plane) (k : Nat) (s : State) : State :=
  let b := (s.est q).base
  let n := bitsAt (s.sw q (b + 4107)) 0 11
  let m := blendN q s
  let v := fun i =>
    let st := (s.sw q (b + 1024 + i)).toInt
    if m ≤ k then s.sw q (b + 2048 + i) else wordI (st + rneDiv (((s.sw q (b + 2048 + i)).toInt - st) * k) m)
  (s.sputs q b ((List.range n).map v)).put q R.EST_CAL F.EST_CAL_BLEND_K (min k (2 ^ 16 - 1))

/-- The tables whose parameters are at nominal after an application: one applied before that has more parameters, or another
table (R195). DEDUCED, log 67. -/
def pastTables (q : Plane) (table : Word) (n : Nat) (ids : List Word) (s : State) : List (Word × Nat × List Word) :=
  let b := (s.est q).base
  let old := (s.sw q (b + 4098), bitsAt (s.sw q (b + 4107)) 0 11, s.swords q (b + 4099) 4)
  ((s.est q).past ++ [old]).dedup.filter (fun p => decide (0 < p.2.1) && !(p.1 == table && p.2.2 == ids && decide (p.2.1 ≤ n)))

/-- The pending calibration is applied (R194): a new generation, its start and target, and an empty pending slot; parameters beyond its NCOL
are nominal (R195). -/
def applyCal (q : Plane) (k : Nat) (s : State) : State :=
  let b := (s.est q).base
  let w := s.sw q (b + 4107)
  let n := bitsAt w 11 11
  let table := s.sw q (b + 4097)
  let ids := s.swords q (b + 4103) 4
  let start := (List.range n).map (fun i => inForce q table i s)
  let beyond := (List.range (bitsAt w 0 11 - n)).map (fun i => nominal q (s.sw q (b + 4098)).toNat (n + i) s)
  let g := s.rd q R.EST_CAL_GEN + 1
  let s0 := (s.sputs q (b + n) beyond).setEst q { s.est q with applied := true, past := pastTables q table n ids s }
  let s1 := ((s0.sputs q (b + 1024) start).sputs q (b + 2048) (s0.swords q (b + 3072) n)).sput q (b + 4098) table
  let s2 := ((s1.sputs q (b + 4099) ids).sput q (b + 4107) (wordN n)).sput q (b + 4096) g
  let s3 := (s2.wr q R.EST_CAL_GEN g).wr q R.EST_CAL (F.EST_CAL_BLENDING.set 0 (b2n (decide (k < blendN q s))))
  raiseE q 4 (putBlend q k s3)

/-- The pending BUILD_IDs are those of the active Prickings (R194). -/
def calFits (q : Plane) (s : State) : Bool :=
  decide (s.swords q ((s.est q).base + 4103) 4 = [s.rd q R.SLV_ID_M0, s.rd q R.SLV_ID_M1, s.rd q R.SLV_ID_D0, s.rd q R.SLV_ID_D1])

/-- Checkpoint records composed in this cycle show the generation of the calibration that their LAYER applies (R104, R194).
DEDUCED, log 67. -/
def regen (q : Plane) (s : State) : State :=
  let fix := fun (r : List Word) =>
    if nth r 2 0 = lo72 s.n ∧ nth r 3 0 = hi72 s.n then
      let body := (r.take 103).set 43 (s.rd q R.EST_CAL_GEN)
      body ++ [wordN (crc32 body)] ++ r.drop 104
    else r
  s.setPln q { s.pln q with arms := (s.pln q).arms.map (fun ar => { ar with records := ar.records.map fix }) }

/-- The counter of a blend advances, and the values in force follow (R195). DEDUCED, log 67. -/
def blendStep (q : Plane) (s : State) : State :=
  if s.is q R.EST_CAL F.EST_CAL_BLENDING then
    let k := s.get q R.EST_CAL F.EST_CAL_BLEND_K + 1
    let s1 := putBlend q k s
    if blendN q s ≤ k then raiseE q 5 (s1.put q R.EST_CAL F.EST_CAL_BLENDING 0) else s1
  else s

/-! ## Host commands (R198) -/

/-- Refuse a command of EST (R199). -/
def refuseE (q : Plane) (n : Nat) (s : State) : State := s.refuse q R.EST_JOB F.EST_JOB_REFUSE n bEST 41 12

/-- NOMINAL: the nominal values in force as a new generation. DEDUCED, log 67. -/
def putNominal (q : Plane) (s : State) : State :=
  let b := (s.est q).base
  let n := bitsAt (s.sw q (b + 4107)) 0 11
  let table := (s.sw q (b + 4098)).toNat
  let v := (List.range n).map (fun i => nominal q table i s)
  let g := s.rd q R.EST_CAL_GEN + 1
  let s1 := ((s.sputs q b v).sputs q (b + 2048) v).sput q (b + 4096) g
  ((s1.wr q R.EST_CAL_GEN g).setEst q { s1.est q with applied := false }).put q R.EST_CAL F.EST_CAL_BLENDING 0

/-- LOAD_PENDING: the result record at EST_ARG is checked and becomes pending. Of what R191 needs and a record does not hold,
COV_MAX is the default of R180 and ACCEPT_UNCONVERGED is 0. DEDUCED, log 67. -/
def loadPending (q : Plane) (s : State) : State :=
  let a := (s.rd q R.EST_ARG).toNat
  let n := bitsAt (s.sw q (a + 11)) 0 11
  let len := resultLen n (bitsAt (s.sw q (a + 11)) 11 14)
  let ws := s.swords q a len
  let head := nth ws 0 0
  let ok := decide (a + len ≤ storeWords) && bitsAt (nth ws (len - 1) 0) 0 32 == crc32 (ws.take (len - 1))
    && bitsAt head 28 8 == 3 && bitsAt head 20 8 == 1
  let checked := bitsAt head 16 4 == 1 && bitsAt (nth ws 1 0) 8 8 != 0
  let c := plausible q (nth ws 10 0) ((ws.drop 16).take n) (nth ws 6 0) 167772 s
  if ok && checked && decide (c.1 = 0) then makePending q a s
  else refuseE q 3 (if ok && checked then raiseE q 1 s else s)

/-- A command of EST_CMD at the commit (R198). DEDUCED, log 67. -/
def estCommand (q : Plane) (code : Nat) (s : State) : State :=
  match code with
  | 1 => if estState q s = 2 ∨ estState q s = 3 then endJob q 5 s else s
  | 2 => s.put q R.EST_CAL F.EST_CAL_PENDING 0
  | 3 =>
    if axisClosed q s then refuseE q 1 s
    else if !s.is q R.EST_CAL F.EST_CAL_PENDING then refuseE q 2 s
    else if calFits q s then applyCal q (blendN q s) s else raiseE q 6 s
  | 4 => if axisClosed q s then refuseE q 1 s else putNominal q s
  | 5 => loadPending q s
  | _ => s

/-- A write of EST_CMD: codes 1 to 5 act at the next commit, a reserved one is refused (R198, R199). DEDUCED, log 67. -/
def estCmd (q : Plane) (code : Nat) (s0 : State) : State :=
  let s := s0.put q R.EST_CMD F.EST_CMD_CODE code
  if code = 0 then s
  else if code ≤ 5 then s.setEst q { s.est q with cmds := (s.est q).cmds ++ [code] }
  else refuseE q 4 s

/-- ABORT (R198). -/
def execEstAbort (s : State) : Host.Outcome State Fault Refusal := settled (s.onChanter (fun q s => estCmd q 1 s))

/-- DISCARD (R198). -/
def execDiscard (s : State) : Host.Outcome State Fault Refusal := settled (s.onChanter (fun q s => estCmd q 2 s))

/-- APPLY (R198). -/
def execEstApply (s : State) : Host.Outcome State Fault Refusal := settled (s.onChanter (fun q s => estCmd q 3 s))

/-- NOMINAL (R198). -/
def execNominal (s : State) : Host.Outcome State Fault Refusal := settled (s.onChanter (fun q s => estCmd q 4 s))

/-- LOAD_PENDING (R198). -/
def execLoadPending (s : State) : Host.Outcome State Fault Refusal := settled (s.onChanter (fun q s => estCmd q 5 s))

/-- A reserved code of EST_CMD is refused with REFUSE = 0x4 (R199). -/
def execEstCmdReserved (code : BitVec 4) (s : State) : Host.Outcome State Fault Refusal :=
  settled (s.onChanter (fun q s => estCmd q code.toNat s))

/-- The estimation's part of a commit: an application, the host's commands, a new pending result, the blend and the stall count
(R175, R192 to R198). DEDUCED, log 67. DEDUCED, log 68. -/
def estCommit (q : Plane) (s : State) : State :=
  let base := (s.rd q R.EST_CAL_BASE).toNat / 2 ^ 13 * 2 ^ 13
  let s0 := if axisClosed q s then s else s.setEst q { s.est q with base := base }
  let due := (s0.pln q).calib && s0.is q R.EST_CAL F.EST_CAL_PENDING
  let s1 := if !due then s0 else if calFits q s0 then regen q (applyCal q 0 s0) else raiseE q 6 s0
  let s2 := s1.setPln q { s1.pln q with calib := false }
  let cmds := (s2.est q).cmds
  let s3 := each cmds (estCommand q) (s2.setEst q { s2.est q with cmds := [] })
  let s4 := match (s3.est q).ready with
    | some a => makePending q a (s3.setEst q { s3.est q with ready := none })
    | none => s3
  let s5 := blendStep q s4
  if s5.get q R.EST_SUB_WR F.EST_SUB_WR_COUNT = s5.get q R.EST_SUB_RD F.EST_SUB_RD_COUNT then s5
  else s5.count q R.EST_STALL F.EST_STALL_COUNT 1

/-! ## The intake (R183 to R185) -/

/-- The intake of plane `q`. -/
def State.intake (s : State) (q : Plane) : IntakeSt := (s.plane q).intake

/-- The state with the intake of plane `q` replaced. -/
def State.setIntake (s : State) (q : Plane) (x : IntakeSt) : State := s.setPlane q { s.plane q with intake := x }

/-- The sample of axis `c` in the present cycle: its measured position from the inputs of this plane, and whether its channel was valid and
not in MODEL_HOLD (R185, R203). -/
def sampleOf (q : Plane) (c : Nat) (s : State) : Word × Bool :=
  match chanSample q c s with
  | none => (0, false)
  | some x => (wordI (sat36 (rawMeas (s.block q c) (unwrap (s.block q c) x (s.chan q c)).count)), x.fresh && decide (fbState q c s ≠ 2))

/-- The samples of the present cycle join the history of 256 cycles (R172, R185). DEDUCED, log 68. -/
def takeSample (q : Plane) (s : State) : State :=
  let x : Sample := ⟨s.n, s.atOfs R.TIM_CYC_ACT_SYNC_OFS, (List.range 160).map (fun c => sampleOf q c s)⟩
  s.setIntake q { s.intake q with history := (x :: (s.intake q).history).take 256 }

/-- A record goes to the ring of plane `q` (R184). -/
def putRecord (q : Plane) (ws : List Word) (s : State) : State :=
  match obsRing q s with
  | none => s
  | some (b, n) =>
    let c := s.get q R.EST_OBS_WR F.EST_OBS_WR_COUNT
    (s.sputs q (b + 24 * (c % n)) ((ws ++ List.replicate 24 0).take 24)).put q R.EST_OBS_WR F.EST_OBS_WR_COUNT ((c + 1) % 2 ^ 32)

/-- A record is written with a REJECT code, and OBS_REJECTED raised; a Drone raises no event (R185, R33). -/
def rejectRecord (q : Plane) (ws : List Word) (code : Nat) (s : State) : State :=
  let r := (ws ++ List.replicate 24 0).take 7 ++ [wordN (code * 2 ^ 32)] ++ List.replicate 16 0
  let s1 := (putRecord q r s).put q R.EST_OBS_REJ F.EST_OBS_REJ_COUNT ((s.get q R.EST_OBS_REJ F.EST_OBS_REJ_COUNT + 1) % 2 ^ 32)
  if s.chanter = some q then raiseE q 8 s1 else s1.flag q bEST 8

/-- The axes whose positions words W8 to W23 hold: joints of the arm, then the auxiliary axes of its part's chain (R183). -/
def recordAxes (a : Nat) (s : State) : List (Option Nat) :=
  let t := s.armTab a
  let js := (List.range 8).map (fun j => if j < t.joints.length then some (8 * a + j) else none)
  let ch := (bitsOf 32 t.chain).map (fun k => some (128 + k))
  ((js ++ ch) ++ List.replicate 16 none).take 16

/-- Word `w` between two samples (R185); times as integers of 2^-32 s. -/
def interpolate (q0 q1 : Word) (t0 t1 t : Nat) : Word :=
  wordI (q0.toInt + rneDiv ((q1.toInt - q0.toInt) * ((t : Int) - t0)) (t1 - t0))

/-- A waiting record is filled or rejected once its samples exist (R185); none while it still waits. DEDUCED, log 68. -/
def resolveRecord (q : Plane) (o : ObsWait) (s : State) : Option State :=
  let hist := (s.intake q).history
  let time := fun (x : Sample) => htsOfPs x.time
  let arm := bitsAt (nth o.ws 0 0) 20 4
  match hist.find? (fun x => decide (time x ≤ o.time)) with
  | none => if hist ≠ [] then some (rejectRecord q o.ws 3 s)
    else if o.cycle + 2 < s.n then some (rejectRecord q o.ws 4 s) else none
  | some x0 =>
    match hist.find? (fun x => x.cycle == x0.cycle + 1) with
    | none => if o.cycle + 2 < s.n then some (rejectRecord q o.ws 4 s) else none
    | some x1 =>
      let axes := recordAxes arm s
      let bad := axes.any (fun a => match a with
        | some i => !(nth x0.pos i (0, false)).2 || !(nth x1.pos i (0, false)).2
        | none => false)
      if bad then some (rejectRecord q o.ws 5 s)
      else
        let w := axes.map (fun a => match a with
          | some i => interpolate (nth x0.pos i (0, false)).1 (nth x1.pos i (0, false)).1 (time x0) (time x1) o.time
          | none => 0)
        some (putRecord q (o.ws.take 7 ++ [0] ++ w) s)

/-- A record from a station or a probe enters the intake of a plane (R184, R185). DEDUCED, log 68. -/
def intakeRecord (q : Plane) (ws : List Word) (s : State) : State :=
  let k := bitsAt (nth ws 0 0) 32 4
  let arm := bitsAt (nth ws 0 0) 20 4
  if k < 1 ∨ 3 < k then rejectRecord q ws 1 s
  else if nth ws 6 0 = 0 then rejectRecord q ws 2 s
  else if bitsAt (nth ws 0 0) 24 1 = 0 then putRecord q (ws.take 7 ++ List.replicate 17 0) s
  else if (s.armTab arm).joints = [] then rejectRecord q ws 6 s
  else s.setIntake q { s.intake q with waiting := (s.intake q).waiting ++ [⟨ws.take 7, of72 (nth ws 1 0) (nth ws 2 0), s.n⟩] }

/-- Words W0 to W6 of the record of a probe edge at HTS72 `t` (R184); none where the probe is not enabled.  EN alone waits for the commit
(R199). -/
def probeRecord (q : Plane) (k t : Nat) (s : State) : Option (List Word) :=
  let c := s.rd q (R.EST_PROBE_CFG k)
  let arm := F.EST_PROBE_CFG_ARM.get c
  let point := if F.EST_PROBE_CFG_MARK_POINT.get c = 1 then bitsAt (s.rd q (R.PLN_Q_MARK arm)) 0 13 else F.EST_PROBE_CFG_POINT.get c
  if F.EST_PROBE_CFG_EN.get (s.act q (R.EST_PROBE_CFG k)) = 0 ∨ (F.EST_PROBE_CFG_SRC.get c = 1 ∧ 23 < F.EST_PROBE_CFG_INDEX.get c) then none
  else some [wordN (2 * 2 ^ 32 + F.EST_PROBE_CFG_SENSOR.get c * 2 ^ 25 + 2 ^ 24 + arm * 2 ^ 20 + point * 2 ^ 7),
    lo72 t, hi72 t, 0, 0, 0, nth s.tab.probeSigma k 0]

/-- The planes whose intake runs: every plane that is not held in reset. DEDUCED, log 68. -/
def intakePlanes (s : State) : List Plane := [Plane.a, Plane.b].filter (fun q => !(s.ward q).inReset)

/-- An edge of a DI (`src` 0) or of a PIF (1) at `t` ps reaches the planes over their links: each probe that it is the source
of, in its direction, has a record for the intake (R184, R36). DEDUCED, log 68. -/
def probeEdge (via : Plane → Link) (src idx : Nat) (falling : Bool) (t : Nat) (s : State) : State :=
  each ((intakePlanes s).filter (fun q => s.linkUp (via q))) (fun q s =>
    let hit := (List.range 8).filter (fun k =>
      let c := s.rd q (R.EST_PROBE_CFG k)
      F.EST_PROBE_CFG_SRC.get c == src && F.EST_PROBE_CFG_INDEX.get c == idx && F.EST_PROBE_CFG_EDGE.get c == b2n falling)
    s.setIntake q { s.intake q with
      edges := (s.intake q).edges ++ hit.filterMap (fun k => (probeRecord q k (htsOfPs t) s).map (fun r => (k, r))) }) s

/-- The observation of station record `k` in the input image of a plane (R184). -/
def stationRecord (q : Plane) (k : Nat) (s : State) : List Word := s.swords q (s.cbus.imgBase + nth s.tab.obsAt k 0) 7

/-- The intake of a plane takes an observation: of a station that the device tables map, the oldest edge of a probe, or a record of a
federation port (R184). -/
def takeObs (q : Plane) (src : ObsSource) (s : State) : State :=
  match src with
  | .station k => if k.val < s.tab.obsAt.length then intakeRecord q (stationRecord q k s) s else s
  | .probe k =>
    match (s.intake q).edges.find? (fun e => e.1 == k.val) with
    | none => s
    | some e => intakeRecord q e.2 (s.setIntake q { s.intake q with edges := (s.intake q).edges.erase e })
  | .federation ws => if s.linkUp (portLink q) then putRecord q ws s else s

/-- OBS_INTAKE: an observation from a station, a probe edge or a federation port (R184). -/
def execObsIntake (src : ObsSource) (s : State) : Host.Outcome State Fault Refusal :=
  settled (each (intakePlanes s) (fun q s => if (obsRing q s).isNone then s else takeObs q src s) s)

/-- OBS_INTERPOLATION: the oldest waiting record is filled or rejected (R185). -/
def execObsInterpolation (s : State) : Host.Outcome State Fault Refusal :=
  settled (each (intakePlanes s) (fun q s =>
    match (s.intake q).waiting with
    | o :: rest => match resolveRecord q o s with
      | some s1 => s1.setIntake q { s1.intake q with waiting := rest }
      | none => s
    | [] => s) s)

end Sys2Proof.Machine
end

