-- ==== Sys2Proof/Machine/Interp.lean ====
section
/-! DEFINITION. What the planner does at an interpolation: fetch, reach, queue commands, zones, time scaling, planning and
the target image (R93, R99 to R101, R106, R107, R111 to R113, R123 to R137, R525 to R532). -/

namespace Sys2Proof.Machine

/-- T_cyc in force, in s. -/
def State.cycSec (s : State) : Rat := (s.tcyc : Rat) / 10 ^ 12

/-! ## Fetch -/

/-- A vector of one frame in the directions of another. -/
def turnVector (f g : Frame) (v : List Word) : List Word :=
  vecWords 30 (quatTurn (quatInv (rotOf g.pose)) (quatTurn (rotOf f.pose) (posOf v)))

/-- The first and second derivative with which a SPLINE starts (R75). -/
def splineStart (fr : Frame) (p0 p1 : List Word) (last : Option Geo) : List Word × List Word :=
  match last with
  | some (.spline f _ _ _ _ d1 dd1) => if sameFrame f fr then (d1, dd1) else (turnVector f fr d1, turnVector f fr dd1)
  | _ => (((p1.take 3).zip (p0.take 3)).map (fun (e : Word × Word) => wordI (sat36 (e.1.toInt - e.2.toInt))), [0, 0, 0])

/-- The path of a motion Stitch, from the programmed end of the one before it (R71 to R76), with the end pose and joint
values. -/
def geoOf (q : Plane) (a : Nat) (st : Stitch) (s : State) : Geo × List Word × List Word :=
  let ar := s.arm q a
  let fr := frameOf q a st.modal (startPose ar) s
  let p0 := startIn fr ar
  let w := st.ops
  let fin := fun (g : Geo) (p1 : List Word) =>
    let e := toWorld fr p1
    (g, e, (Config.inverseKinematics a st.modal.tool e).take 8 ++ ar.endJoints.drop 8)
  match st.op with
  | .arc => let p1 := opWs w 4 6 ++ quatFor (p0.drop 3) (opWs w 7 10); fin (.arc fr p0 (opWs w 1 3) p1) p1
  | .spline =>
    let p1 := opWs w 1 3 ++ quatFor (p0.drop 3) (opWs w 10 13)
    let d := splineStart fr p0 p1 ar.lastGeo
    fin (.spline fr p0 p1 d.1 d.2 (opWs w 4 6) (opWs w 7 9)) p1
  | .joint =>
    let q1 := (jointTargets a w s).foldl (fun l e => l.set e.1 e.2.1) ar.endJoints
    (.joint ar.endJoints q1, (Config.forwardKinematics a (calWords q s) st.modal.tool q1).take 7, q1)
  | _ => let p1 := opWs w 1 3 ++ quatFor (p0.drop 3) (opWs w 4 7); fin (.line fr p0 p1) p1

/-- The length of a piece in its own unit: a JOINT piece that moves no axis has none (R110, R116). -/
def geoLen (st : Stitch) (axes : Nat → Option AxisTab) (g : Geo) : Rat :=
  match g with
  | .joint q0 q1 => if jointMoves (bitsAt (opW st.ops 1) 0 16) axes q0 q1 = [] then 0 else 1
  | _ => geoLength g

/-- TRIGs wait for their motion Stitch: their places in its unit, clipped to its end (R84): a fraction of a JOINT, else metres of
tool-centre path, of which a rotation has none. -/
def placeTrigs (st : Stitch) (g : Geo) (len : Rat) (ts : List ArmedTrig) : List ArmedTrig × Nat :=
  let frac := if st.op = .joint then 2 ^ 34 else 2 ^ 30
  let fin : Rat := if st.op = .joint then 1 else if isRotation g then 0 else len
  let l := ts.map (fun t => if t.motion.isSome then (t, false)
    else
      let p := t.place / frac
      ({ t with motion := some st.pos, place := if fin < p then len else ratMin p len }, decide (fin < p)))
  (l.map (·.1), (l.filter (·.2)).length)

/-- A motion Stitch enters the path (R110, R111). -/
def addMotion (q : Plane) (a : Nat) (st : Stitch) (s : State) : State :=
  let ar := s.arm q a
  let axes := s.jointAxis a
  let g := geoOf q a st s
  let len := geoLen st axes g.1
  let x := match ar.sects.reverse with
    | c :: _ => c.x + c.w
    | [] => restOf ar
  let sec : Sect :=
    { geo := g.1, isBlend := false, own := 0, len := len, mid := 0, x := x, w := if ar.group ≠ 0 then 1 else len, st := st
      tag2 := st.tag, ivs := limitsOver a axes st g.1 0 len, stop := true, todo := true, zone := false, ready := !isJoint g.1 }
  let ts := placeTrigs st g.1 len ar.trigs
  let s1 := s.setArm q a { ar with sects := ar.sects ++ [sec], endPose := g.2.1, endTool := st.modal.tool, endJoints := g.2.2
                                   lastGeo := some g.1, trigs := ts.1, dirty := true }
  each (List.range ts.2) (fun _ => raiseQ q a 8) s1

/-- A Stitch enters look-ahead (R70, R84, R93, R101). -/
def acceptStitch (q : Plane) (a : Nat) (st : Stitch) (m : Modal) (clamp : Bool) (s : State) : State :=
  let ar := s.arm q a
  if st.fault ≠ 0 then
    let s1 := s.setArm q a { ar with ahead := ar.ahead ++ [st], aheadFault := true, dirty := true }
    let s2 := (s1.wr q (R.PLN_Q_AHEAD a) (F.PLN_Q_AHEAD_CODE.set (F.PLN_Q_AHEAD_TAG.set 0 st.tag) st.fault)).wr q
      (R.PLN_Q_AHEAD_POS a) (F.PLN_Q_AHEAD_POS_COUNT.set 0 st.pos)
    raiseQ q a 10 s2
  else
    let s1 := if clamp then raiseQ q a 6 s else s
    let s2 := if isMotion st.op then addMotion q a st s1 else s1
    let b := s2.arm q a
    let tr : List ArmedTrig := if st.op = .trig then
        [⟨bitsAt (opW st.ops 1) 0 4, bitsAt (opW st.ops 1) 4 4, (opW st.ops 2).toInt, opW st.ops 3, none, st.pos, false, st.tag⟩] else []
    s2.setArm q a { b with ahead := b.ahead ++ [st], modal := m, trigs := b.trigs ++ tr
                           endFetched := b.endFetched || st.op == .finish }

/-- The TRIGs of an arm that have been moved on to a later window and have not fired (R85). -/
def movedTrigs (q : Plane) (a : Nat) (s : State) : Nat := ((s.pln q).excess.filter (fun e => e.arm == a)).length

/-- Take the next Stitch of the ring if all its words lie below WR (R93). DEDUCED, log 42. DEDUCED, log 49. -/
def fetchOne (q : Plane) (a : Nat) (s : State) : Option State :=
  let ar := s.arm q a
  let size := 2 ^ ar.size
  let base := ar.base / size * size
  let f := s.get q (R.PLN_Q_FETCH a) F.PLN_Q_FETCH_COUNT
  let avail := (s.get q (R.PLN_Q_WR a) F.PLN_Q_WR_COUNT + 2 ^ 32 - f) % 2 ^ 32
  let at' := fun k => base + (f + k) % size
  let h := s.sw q (at' 0)
  let n := bitsAt h 24 6
  if ar.size < 8 ∨ 24 < ar.size ∨ ar.aheadFault ∨ ar.endFetched ∨ 1024 ≤ ar.ahead.length ∨ 64 ≤ ar.trigs.length + movedTrigs q a s
    ∨ avail < 1 + n
  then none
  else
    let ws := (List.range n).map (fun k => s.sw q (at' (k + 1)))
    let s0 := each (List.range (n + 1)) (fun k s => s.blockRead q (at' k) 1) s
    let d := decodeStitch q a ar f h ws s0
    let clamp := d.1.fault == 0 && clampsAt a d.1.op ws ar.modal s0
    some (acceptStitch q a d.1 d.2 clamp (s0.put q (R.PLN_Q_FETCH a) F.PLN_Q_FETCH_COUNT ((f + 1 + n) % 2 ^ 32)))

/-- Fetch up to `k` Stitches. -/
def fetchMany (q : Plane) (a : Nat) : Nat → State → State
  | 0, s => s
  | k + 1, s => match fetchOne q a s with
    | some s1 => fetchMany q a k s1
    | none => s

/-- The fetch of one cycle: at most 256 Stitches; a starved arm runs on once it has some (R93, R112). DEDUCED, log 42. -/
def fetchArm (q : Plane) (a : Nat) (s : State) : State :=
  let st := qState q a s
  let s1 := if st = 1 ∨ st = 2 ∨ st = 3 ∨ st = 4 then fetchMany q a 256 s else s
  let s2 := s1.put q (R.PLN_Q_STATUS a) F.PLN_Q_STATUS_LOOKAHEAD (s1.arm q a).ahead.length
  let s3 := s2.put q (R.PLN_Q_TAG a) F.PLN_Q_TAG_TRIGS (((s2.arm q a).trigs.filter (·.armed)).length + movedTrigs q a s2)
  if waitCode q a s3 = 6 ∧ (s3.arm q a).ahead ≠ [] then endWait q a s3 else s3

/-! ## Reach -/

/-- The path coordinate at which the motion section of a Stitch is entered: its start, or the midpoint of the blend before it
(R69). -/
def entryOf (cs : List Sect) (pos : Nat) : Option Rat :=
  match cs with
  | b :: c :: rest =>
    if c.st.pos = pos ∧ !c.isBlend ∧ b.isBlend then some (b.x + (if b.len = 0 then 0 else b.mid * b.w / b.len))
    else if b.st.pos = pos ∧ !b.isBlend then (if b.ready then some b.x else none)
    else entryOf (c :: rest) pos
  | [b] => if b.st.pos = pos ∧ !b.isBlend ∧ b.ready then some b.x else none
  | [] => none

/-- The coordinate of the junction after a motion Stitch: its end, or the midpoint of its blend. -/
def exitOf (cs : List Sect) (pos : Nat) : Option Rat :=
  match cs with
  | c :: rest =>
    if c.st.pos = pos ∧ !c.isBlend then
      match rest with
      | b :: _ => if b.isBlend then some (b.x + (if b.len = 0 then 0 else b.mid * b.w / b.len)) else some (c.x + c.w)
      | [] => some (c.x + c.w)
    else exitOf rest pos
  | [] => none

/-- The first unreached Stitch is reached at the present path parameter (R69); an arm at rest stands at a junction that lies
within the error of its roots. DESIGN CHOICE, log 41. DEDUCED, log 43. -/
def reachable (ar : Arm) : Option Stitch :=
  match ar.ahead with
  | [] => none
  | st :: _ =>
    if ar.wait.isSome then none
    else
      let x := if movesArm st then entryOf ar.sects st.pos
        else match ar.cur with
          | none => if ar.rests then some ar.x else none
          | some c => exitOf ar.sects c
      match x with
      | some y => if y ≤ ar.x ∨ (ar.rests = true ∧ y ≤ ar.x + 1 / 2 ^ 50) then some st else none
      | none => none

/-- Queue states in which Stitches are reached: while RUNNING, and while the path is left by a stop (R69, R528). -/
def reaches (q : Plane) (a : Nat) (s : State) : Bool :=
  let st := qState q a s
  st == 1 || st == 3 || (st == 6 && ((s.arm q a).redo).isNone)

/-- Everything that the path parameter has reached, in program order (R69). -/
def reachMany (q : Plane) (a : Nat) : Nat → State → State
  | 0, s => s
  | k + 1, s =>
    if reaches q a s then
      match reachable (s.arm q a) with
      | some st => reachMany q a k (reachStitch q a st s)
      | none => s
    else s

/-- Sections that the path has left, before the one of the present motion Stitch, are dropped; those of a group go together. -/
def dropPassed (ar : Arm) : Arm :=
  match ar.cur with
  | none => ar
  | some c => if ar.group ≠ 0 then ar else { ar with sects := ar.sects.dropWhile (fun t => t.st.pos != c && decide (t.x + t.w < ar.x)) }

/-- The level of the input that a WAITIO names; none where it reads UNKNOWN (R89, R90, R433). -/
def ioLevel (q : Plane) (a : Nat) (w : Word) (s : State) : Option Bool :=
  if bitsAt w 34 2 = 0 then
    let b := s.fio.imgBase
    let k := bitsAt w 0 5
    if bitN (s.sw q (b + 1)).toNat k then none else some (bitN (s.sw q b).toNat k)
  else (stationBit (s.armTab a).ins w).map (fun e => bitN (s.sw q (s.cbus.imgBase + e.place)).toNat e.bit)

/-- WAITIO_EVALUATION (R90). -/
def evalWaitio (q : Plane) (a : Nat) (s : State) : State :=
  if waitCode q a s ≠ 2 ∨ qState q a s ≠ 2 then s
  else match (s.arm q a).wait with
    | none => s
    | some w =>
      let l := ioLevel q a (wordN (nth w.args 0 0)) s
      let met := match nth w.args 1 0 with
        | 0 => l == some false
        | 1 => l == some true
        | 2 => w.level == some false && l == some true
        | _ => w.level == some true && l == some false
      if met then endWait q a s else s.setArm q a { s.arm q a with wait := some { w with level := l } }

/-! ## Queue commands (R99, R100, R106, R107, R525 to R527) -/

/-- The ring configuration written takes effect (R99); bits of the base below SIZE_LOG2 count as 0. -/
def applyQCfg (q : Plane) (a : Nat) (s : State) : State :=
  let ar := s.arm q a
  let size := s.get q (R.PLN_Q_CFG a) F.PLN_Q_CFG_SIZE_LOG2
  let base := (s.rd q (R.PLN_Q_BASE a)).toNat / 2 ^ size * 2 ^ size
  let s1 := (s.setArm q a { ar with base := base, size := size, src := s.get q (R.PLN_Q_CFG a) F.PLN_Q_CFG_SRC }).put q
    (R.PLN_Q_STATUS a) F.PLN_Q_STATUS_CFG_PENDING 0
  if base = ar.base ∧ size = ar.size then s1
  else
    let wr := s.get q (R.PLN_Q_WR a) F.PLN_Q_WR_COUNT
    (s1.put q (R.PLN_Q_FETCH a) F.PLN_Q_FETCH_COUNT wr).put q (R.PLN_Q_REACH a) F.PLN_Q_REACH_COUNT wr

/-- Nothing of the stream is left: no look-ahead, path or TRIG; the arm stands where it is. -/
def clearStream (ar : Arm) : Arm :=
  { ar with ahead := [], aheadFault := false, endFetched := false, sects := [], phases := [], tau := 0, x := 0, v := 0
            acc := 0, cur := none, dirty := false, stopping := false, loopStop := false, ckpStop := false, wait := none
            redo := none, cleared := false, trigs := [], endPose := ar.pose, endTool := ar.tool, endJoints := ar.joints
            lastGeo := none, resume := none, resumeBy := none }

/-- START's modal state: WORLD, no user frame, the default tool and limits, no blending (R72, R78, R79). DEDUCED, log 50. -/
def startModal (a : Nat) (s : State) : Modal :=
  let t := s.armTab a
  { Modal.initial with tool := t.tool, limits := t.limits }

/-- An arm leaves its group (R100); the others keep theirs without it. -/
def leaveGroup (q : Plane) (a : Nat) (s : State) : State :=
  let m := (s.arm q a).group
  each (bitsOf 16 m) (fun b s =>
    let ar := s.arm q b
    s.setArm q b { ar with group := if b = a then 0 else clrBitN m a }) s

/-- FLUSH (R100, R107): FETCH := WR, look-ahead emptied, TRIGs dropped, zones and requests released, the group left. -/
def flushArm (q : Plane) (a : Nat) (s : State) : State :=
  let s1 := leaveGroup q a (each (heldZones q a s) (fun z s => releaseZone q a z s) s)
  let s2 := setReqs q ((s1.pln q).reqs.filter (fun r => r.peer || r.arm != a)) s1
  let s3 := (s2.setPln q { s2.pln q with excess := (s2.pln q).excess.filter (fun e => e.arm != a)
                                         preds := (s2.pln q).preds.filter (fun e => e.arm != a) }).setArm q a
    (clearStream (s2.arm q a))
  let s4 := s3.put q (R.PLN_Q_FETCH a) F.PLN_Q_FETCH_COUNT (s3.get q (R.PLN_Q_WR a) F.PLN_Q_WR_COUNT)
  let s5 := (s4.put q (R.PLN_Q_STATUS a) F.PLN_Q_STATUS_LOOKAHEAD 0).put q (R.PLN_Q_TAG a) F.PLN_Q_TAG_TRIGS 0
  applyQCfg q a (setQState q a 0 (setWaitCode q a 0 s5))

/-- A stop of the group ends when no member is held or faulted (R127). -/
def groupFree (q : Plane) (a : Nat) (s : State) : Bool :=
  (mates (s.arm q a) a).all (fun b => let t := qState q b s; t ≠ 3 && t ≠ 4 && t ≠ 6)

/-- The arm, and with it its group, moves on from its rest point (R100, R127). -/
def unstop (q : Plane) (a : Nat) (s : State) : State :=
  if groupFree q a s then
    each (a :: mates (s.arm q a) a) (fun b s => s.setArm q b { s.arm q b with stopping := false, dirty := true }) s
  else s

/-- RELEASE (R100, R526): the faulting Stitch is executed again; a frozen wait resumes its timer. DEDUCED, log 51. -/
def releaseArm (q : Plane) (a : Nat) (s : State) : State :=
  let ar := s.arm q a
  let s1 := unstop q a (s.setArm q a { ar with redo := none, cleared := false })
  match ar.redo with
  | some st =>
    let s2 := setQState q a 1 s1
    if st.fault ≠ 0 then stitchFault q a st.fault st s2 else reachEffect q a st s2
  | none => match (s1.arm q a).wait with
    | some w => setQState q a 2 (s1.setArm q a { s1.arm q a with wait := some (w.thaw s1.now) })
    | none => setQState q a 1 (setWaitCode q a 0 s1)

/-- Sections of skipped motion are taken out: the section before runs to its own end again, and later motion starts there.
DEDUCED, log 48. -/
def rebuildPath (q : Plane) (a : Nat) (s : State) : State :=
  let ar := s.arm q a
  let keep := match ar.cur with
    | some c => (ar.sects.filter (fun t => t.st.pos == c && !t.isBlend)).map (fun t =>
        let full := geoLen t.st (s.jointAxis a) t.geo
        let len := full - t.own
        let w := if ar.group ≠ 0 then 1 else len
        { t with len := len, w := w, stop := true, todo := true, zone := false, ivs := limitsOver a (s.jointAxis a) t.st t.geo t.own len })
    | none => []
  let fin := match keep with
    | c :: _ => match geoEnd c.geo, c.geo with
      | some (f, p1), _ => (toWorld f p1, (Config.inverseKinematics a c.st.modal.tool (toWorld f p1)).take 8 ++ ar.joints.drop 8)
      | none, .joint _ q1 => ((Config.forwardKinematics a (calWords q s) c.st.modal.tool q1).take 7, q1)
      | none, _ => (ar.pose, ar.joints)
    | [] => (ar.pose, ar.joints)
  let s1 := s.setArm q a { ar with sects := keep, endPose := fin.1, endJoints := fin.2, endTool := ar.tool
                                   lastGeo := (keep.head?).map (·.geo), dirty := true }
  each (ar.ahead.filter movesArm) (addMotion q a) s1

/-- SKIP (R100): the next unreached Stitch, or the faulting one, is discarded. DEDUCED, log 48. -/
def skipStitch (q : Plane) (a : Nat) (s : State) : State :=
  let ar := s.arm q a
  match ar.redo, ar.ahead with
  | some st, _ => s.setArm q a { ar with redo := none, aheadFault := ar.aheadFault && decide (st.fault = 0)
                                         endFetched := ar.endFetched && decide (st.op ≠ .finish) }
  | none, st :: rest =>
    let s1 := s.setArm q a { ar with ahead := rest, aheadFault := ar.aheadFault && decide (st.fault = 0)
                                     endFetched := ar.endFetched && decide (st.op ≠ .finish)
                                     trigs := ar.trigs.filter (fun t => t.pos != st.pos && decide (t.motion ≠ some st.pos)) }
    if movesArm st then rebuildPath q a s1 else s1
  | none, [] => s

/-- The words of a checkpoint record in the store (R106). -/
def recordAt (q : Plane) (a : Nat) (s : State) : List Word := s.swords q (s.rd q (R.PLN_Q_ARG a)).toNat 104

/-- The checks of RESUME_AT in order: the REFUSE code, or 0 (R106). -/
def resumeCheck (q : Plane) (a : Nat) (s : State) : Nat :=
  let ws := recordAt q a s
  let st := qState q a s
  let w0 := nth ws 0 0
  let tol := s.get q (R.PLN_Q_RESUME_TOL a) F.PLN_Q_RESUME_TOL_TOL
  let size := (s.arm q a).size
  if !((st == 0 || st == 5) && (s.arm q a).rests) then 1
  else if size < 8 ∨ 24 < size then 2
  else if crc32 (ws.take 103) ≠ bitsAt (nth ws 103 0) 0 32 then 3
  else if bitsAt w0 28 8 ≠ 1 ∨ bitsAt w0 20 8 ≠ 1 ∨ bitsAt w0 8 8 ≠ 104 then 4
  else if bitsAt w0 16 4 ≠ a then 5
  else if (List.range (s.armTab a).joints.length).any (fun j =>
      decide (tol < ((s.rd q (R.CLE_CH_MEAS (8 * a + j))).toInt - (nth ws (8 + j) 0).toInt).natAbs)) then 6
  else 0

/-- The modal state of a record (R104, R107). -/
def recordModal (ws : List Word) : Modal :=
  let w := fun i => nth ws i 0
  { frame := bitsAt (w 23) 0 5
    users := (List.range 8).map (fun u =>
      let l := (List.range 7).map (fun i => w (47 + 7 * u + i))
      if l.all (· == 0) then none else some l)
    tool := (List.range 7).map (fun i => w (24 + i))
    couple := bitsAt (w 31) 0 32
    limits := (List.range 6).map (fun i => w (32 + i))
    tolPos := w 38
    tolOri := w 39 }

/-- The zones of a record (R104). -/
def recordZones (ws : List Word) : List Nat :=
  bitsOf 36 (nth ws 40 0).toNat ++ (bitsOf 28 (nth ws 41 0).toNat).map (· + 36) ++ (bitsOf 16 (nth ws 42 0).toNat).map (· + 64)

/-- RESUME_AT accepted (R107). -/
def resumeArm (q : Plane) (a : Nat) (s : State) : State :=
  let ws := recordAt q a s
  let s0 := each (List.range 13) (fun k s => s.blockRead q ((s.rd q (R.PLN_Q_ARG a)).toNat + 8 * k) 8) s
  let m := recordModal ws
  let tmo := s.get q (R.PLN_Q_RESUME_TOL a) F.PLN_Q_RESUME_TOL_TMO_S
  let ar := clearStream (s0.arm q a)
  let s1 := s0.setArm q a { ar with modal := m, coupled := m.couple
                                    resume := some ⟨recordZones ws, nth ws 1 0, bitsAt (nth ws 7 0) 16 16,
                                      (List.range 7).map (fun i => nth ws (16 + i) 0), (List.range 8).map (fun i => nth ws (8 + i) 0)⟩
                                    resumeBy := if tmo = 0 then none else some (s0.now + tmo * 10 ^ 12) }
  let p := s1.pln q
  let s2 := s1.setPln q { p with loops := p.loops.zipIdx.map (fun e =>
    if (s.armTab a).loops.contains e.2 then { e.1 with value := 0, lock := none, ramp := none, out := 0 } else e.1) }
  setWaitCode q a 8 (setQState q a 7 s2)

/-- The arm runs with its loops closed, or comes to rest and enters WAITING with LOOPS_OPEN (R527). -/
def checkLoops (q : Plane) (a : Nat) (s : State) : State :=
  let ar := s.arm q a
  if qState q a s = 1 ∧ ar.wait.isNone then
    if ar.rests then
      (if ar.loopStop || !armClosed q a s then
        let s1 := stopPath q a s
        setQState q a 2 (setWaitCode q a 7 (s1.setArm q a { s1.arm q a with loopStop := false }))
      else s)
    else if !ar.loopStop && !armClosed q a s then
      let s1 := stopPath q a s
      s1.setArm q a { s1.arm q a with loopStop := true }
    else s
  else if qState q a s = 2 ∧ waitCode q a s = 7 ∧ armClosed q a s then unstop q a (setQState q a 1 (setWaitCode q a 0 s))
  else s

/-- A queue command takes effect (R100, R106, R525). -/
def queueCmd (q : Plane) (a code : Nat) (s0 : State) : State :=
  let s := s0.setArm q a { s0.arm q a with held := none }
  let st := qState q a s
  let ar := s.arm q a
  match code with
  | 0 => s0
  | 1 =>
    if st ≠ 0 then refuseQ q a 1 s
    else if ar.size < 8 ∨ 24 < ar.size then refuseQ q a 2 s
    else
      let t := s.armTab a
      checkLoops q a (setQState q a 1 (s.setArm q a { clearStream ar with
        modal := startModal a s, part := t.part, coupled := 0, dirty := true, restPos := some (armPos q a s) }))
  | 2 =>
    if st = 1 then processOff q a (stopMates q a (setQState q a 3 (stopPath q a s)))
    else if st = 2 then setQState q a 4 (freezeWait q a s)
    else refuseQ q a 1 s
  | 3 => if st = 4 then checkLoops q a (releaseArm q a s) else refuseQ q a 1 s
  | 4 =>
    if st ≠ 6 then refuseQ q a 1 s
    else if ar.rests then setQState q a 4 (s.setArm q a { ar with cleared := true })
    else s.setArm q a { ar with held := some 4 }
  | 5 => if st = 4 then skipStitch q a s else refuseQ q a 1 s
  | 6 =>
    if st = 6 ∧ !ar.rests then s.setArm q a { ar with held := some 6 }
    else if st = 4 ∨ st = 5 ∨ st = 6 ∨ st = 7 then flushArm q a s else refuseQ q a 1 s
  | 7 =>
    if st = 5 then checkLoops q a (setQState q a 1 (s.setArm q a { ar with endFetched := false, dirty := true }))
    else refuseQ q a 1 s
  | 8 => if resumeCheck q a s = 0 then resumeArm q a s else refuseQ q a (resumeCheck q a s) s
  | _ => refuseQ q a 7 s

/-- An arm that has come to rest: HOLDING becomes HELD, and the wait of a LAYER begins (R100, R105). -/
def restHeld (q : Plane) (a : Nat) (s : State) : State :=
  let ar := s.arm q a
  if !ar.rests then s
  else
    let s1 := if ar.ckpStop then setWaitCode q a 5 (s.setArm q a { ar with ckpStop := false }) else s
    if qState q a s1 = 3 then freezeWait q a (setQState q a 4 s1)
    else if qState q a s1 = 1 ∧ ar.ckpStop then setQState q a 2 s1 else s1

/-- A command held in FAULT acts once the arm is at rest (R525). -/
def actHeld (q : Plane) (a : Nat) (s : State) : State :=
  match (s.arm q a).held with
  | some c => if (s.arm q a).rests ∧ qState q a s = 6 then queueCmd q a c s else s
  | none => s

/-- Commands written since the last interpolation take effect (R100). DEDUCED, log 29. -/
def takeCmds (q : Plane) (a : Nat) (s : State) : State :=
  let cs := (s.arm q a).cmds
  each cs (queueCmd q a) (s.setArm q a { s.arm q a with cmds := [] })

/-- A RESUMING arm runs once every recorded zone is its own and every arm of its group resumes at the same layer: at rest at the
recorded pose (R107). -/
def resumeDone (q : Plane) (a : Nat) (s : State) : State :=
  let ar := s.arm q a
  match ar.resume with
  | some r =>
    if qState q a s = 7 && r.zones.all (fun z => holdsZone q a z s) && (bitsOf 16 r.mask).all (fun b => b == a ||
        (match (s.arm q b).resume with
          | some x => x.layer == r.layer
          | none => false)) then
      let js := r.joints ++ ar.joints.drop 8
      let s1 := s.setArm q a { ar with resumeBy := none, dirty := true, group := r.mask, pose := r.pose, joints := js
                                       endPose := r.pose, endJoints := js, tool := ar.modal.tool, endTool := ar.modal.tool
                                       restPos := some (armPos q a s) }
      checkLoops q a (setQState q a 1 (setWaitCode q a 0 s1))
    else s
  | none => s

/-- Coordinates laid on again with the extents unchanged. -/
def layoutKeep : Rat → List Sect → List Sect
  | _, [] => []
  | x, c :: rest => { c with x := x } :: layoutKeep (x + c.w) rest

/-- Sections laid on again from the first. -/
def relay (cs : List Sect) : List Sect :=
  match cs with
  | c :: rest => c :: layoutKeep (c.x + c.w) rest
  | [] => []

/-- The positions that the commit of the cycle in which the arm came to rest has published (R532). -/
def noteRest (q : Plane) (a : Nat) (s : State) : State :=
  let ar := s.arm q a
  if ar.rests ∧ ar.restPos.isNone ∧ ar.restN < s.n then s.setArm q a { ar with restPos := some (armPos q a s) } else s

/-- A JOINT piece at whose start the arm has come to rest is planned from the positions published then (R532). DEDUCED, log 44.
-/
def readyJoint (q : Plane) (a : Nat) (s : State) : State :=
  let ar := s.arm q a
  match ar.ahead, ar.restPos with
  | st :: _, some ps =>
    if st.op = .joint ∧ ar.rests ∧ ar.wait.isNone ∧ qState q a s = 1 then
      let q1 := (jointTargets a st.ops s).foldl (fun l e => l.set e.1 e.2.1) ps
      let g := Geo.joint ps q1
      let len := geoLen st (s.jointAxis a) g
      let cs := ar.sects.map (fun c => if c.st.pos = st.pos ∧ !c.ready then
        { c with geo := g, len := len, w := if ar.group ≠ 0 then 1 else len, ready := true
                 ivs := limitsOver a (s.jointAxis a) st g 0 len } else c)
      if cs = ar.sects then s
      else s.setArm q a { ar with sects := relay cs, dirty := true }
    else s
  | _, _ => s

/-! ## Zones (R128 to R134) -/

/-- This cell arbitrates border zone `b`: the lower federation ID of the two (R132). -/
def ownsBz (q : Plane) (b : Nat) (s : State) : Bool :=
  decide (s.dg R.FED_CFG F.FED_CFG_FED_ID < s.get q (R.PLN_BZ_CFG b) F.PLN_BZ_CFG_PEER_ID)

/-- Zone `z` can be granted by this cell (R132 to R134). -/
def grantable (q : Plane) (z : Nat) (s : State) : Bool :=
  s.get q (R.PLN_ZONE z) F.PLN_ZONE_HELD == 0 && (decide (z < 64) ||
    (s.get q (R.PLN_BZ_CFG (z - 64)) F.PLN_BZ_CFG_EN == 1 && ownsBz q (z - 64) s
      && !(s.pln q).bzBad.contains (z - 64) && !(s.pln q).bzLost.contains (z - 64)))

/-- Seconds of profile time from now to a path coordinate at σ = 1; none where the profile does not get there. -/
def timeTo (ar : Arm) (x : Rat) : Option Rat :=
  if x ≤ ar.x then some 0
  else if x ≤ restOf ar then some (timeAt ar.phases (restOf ar) x 64 ar.tau (profileTime ar.phases) - ar.tau) else none

/-- The ZONE_ENTER for which the arm would place a request now, with its zone (R128). -/
def zoneWanted (q : Plane) (a : Nat) (s : State) : Option (Nat × Nat × Nat) :=
  let ar := s.arm q a
  if qState q a s = 7 then
    (match ar.resume with
      | some r => (r.zones.find? (fun z => !holdsZone q a z s)).map (fun z => (z, 0, 0))
      | none => none)
  else match if waitCode q a s = 4 then ar.wait else none with
    | some w => some (nth w.args 0 0, w.tag, w.pos)
    | none =>
      match ar.ahead.find? (fun t => t.op == .zoneEnter && t.fault == 0 && !holdsZone q a (bitsAt (opW t.ops 1) 0 7) s) with
      | none => none
      | some t =>
        let before := (ar.ahead.takeWhile (fun u => u.pos != t.pos)).filter movesArm
        let x := match before.reverse, ar.cur with
          | m :: _, _ => exitOf ar.sects m.pos
          | [], some c => exitOf ar.sects c
          | [], none => some ar.x
        let lead := s.get q (R.PLN_ARM_CFG a) F.PLN_ARM_CFG_ZLEAD
        match x with
        | none => none
        | some y =>
          let near := match timeTo ar y with
            | some d => decide (lead ≠ 0) && decide (d ≤ (lead : Rat) / 1000)
            | none => false
          if near || (ar.rests && decide (y ≤ ar.x)) then some (bitsAt (opW t.ops 1) 0 7, t.tag, t.pos) else none

/-- ZONE_REQUEST: an arm without a pending request places one, within the limit of 8 zones; one that stands at its ZONE_ENTER
does not pass it by the fault (R87, R100, R128). DESIGN CHOICE, log 135. -/
def placeRequest (q : Plane) (a : Nat) (s : State) : State :=
  if (armReq q a s).isSome then s
  else match zoneWanted q a s with
    | none => s
    | some (z, tag, pos) =>
      if 8 ≤ (heldZones q a s).length then
        armFault q a 0x0D tag pos (if waitCode q a s = 4 then (s.arm q a).last else none) s
      else
        let fed := s.dg R.FED_CFG F.FED_CFG_FED_ID
        let r : ZoneReq := ⟨z, a, false, s.n, s.get q (R.PLN_ARM_CFG a) F.PLN_ARM_CFG_ZPRIO, fed⟩
        let s1 := setReqs q ((s.pln q).reqs ++ [r]) s
        if 64 ≤ z ∧ !ownsBz q (z - 64) s then
          s1.setPln q { s1.pln q with outbox := (s1.pln q).outbox ++ [.request (z - 64) a r.prio fed] }
        else s1

/-- A grant reaches an arm: the wait at the ZONE_ENTER ends, or its junction is planned again (R128, R129). -/
def grantTo (q : Plane) (a z : Nat) (s : State) : State :=
  let s1 := setReqs q ((s.pln q).reqs.filter (fun r => r.peer || r.arm != a)) (takeZone q a z s)
  let ar := s1.arm q a
  if waitCode q a s1 = 4 ∧ qState q a s1 = 2 then endWait q a s1
  else if waitCode q a s1 = 4 then setWaitCode q a 0 (s1.setArm q a { ar with wait := none, dirty := true })
  else s1.setArm q a { ar with dirty := true }

/-- The order in which requests for a zone are served (R130). -/
def reqBefore (x y : ZoneReq) : Bool :=
  if x.cycle ≠ y.cycle then decide (x.cycle < y.cycle)
  else if x.prio ≠ y.prio then decide (y.prio < x.prio)
  else if x.fed ≠ y.fed then decide (x.fed < y.fed)
  else decide (x.arm ≤ y.arm)

/-- ZONE_GRANT: a free zone goes to the first of its requests (R130). -/
def grantZone (q : Plane) (z : Nat) (s : State) : State :=
  if !grantable q z s then s
  else match (s.pln q).reqs.filter (fun r => r.zone == z) with
    | [] => s
    | r0 :: rest =>
      let r := rest.foldl (fun b r => if reqBefore b r then b else r) r0
      if r.peer then
        let s1 := setReqs q ((s.pln q).reqs.filter (fun x => !(x.peer && x.zone == z))) (peerTakes q r.arm z s)
        s1.setPln q { s1.pln q with outbox := (s1.pln q).outbox ++ [.grant (z - 64) r.arm] }
      else grantTo q r.arm z s

/-- The pairing of border zone `b` agrees with the peer's report, or not: then BZ_CONFIG when that is found (R133). -/
def bzConfig (q : Plane) (b : Nat) (ok : Bool) (s : State) : State :=
  let p := s.pln q
  if ok then s.setPln q { p with bzBad := p.bzBad.filter (· != b) }
  else if p.bzBad.contains b then s
  else s.setPln q { p with bzBad := p.bzBad ++ [b] } |>.raise q ⟨R.PLN_FLAGS, R.PLN_FLAG_CNT, none, 0⟩ 0 0

/-- A frame of the peer of border zone `b` has come (R134). -/
def bzFrame (q : Plane) (b : Nat) (s : State) : State :=
  let p := s.pln q
  s.setPln q { p with bzLost := p.bzLost.filter (· != b), bzMiss := p.bzMiss.set b 0 }

/-- The peer's frames are missing: the zone is granted to no one, and the arms that hold or want it are told (R134). -/
def bzLose (q : Plane) (b : Nat) (s : State) : State :=
  let p := s.pln q
  if p.bzLost.contains b then s
  else
    let s1 := s.setPln q { p with bzLost := p.bzLost ++ [b] }
    each ((List.range 16).filter (fun a => (zonesOf q a s1).contains (64 + b))) (fun a => raiseA q a 7) s1

/-- One more cycle without a frame of the peer of a border zone in use; TIMEOUT of them lose it (R134). DEDUCED, log 52. -/
def bzCount (q : Plane) (msgs : List BorderMsg) (b : Nat) (s : State) : State :=
  let p := s.pln q
  if s.get q (R.PLN_BZ_CFG b) F.PLN_BZ_CFG_EN = 0 ∨ msgs.contains (.frame b) = true then s
  else
    let n := nth p.bzMiss b 0 + 1
    let s1 := s.setPln q { p with bzMiss := p.bzMiss.set b n }
    if max 1 (s.get q (R.PLN_BZ_CFG b) F.PLN_BZ_CFG_TIMEOUT) ≤ n then bzLose q b s1 else s1

/-- The peer's holding of a border zone, as it reports it: the other cell shows it; the owner takes it after frames were missing
(R132, R134). DEDUCED, log 52. -/
def peerHolds (q : Plane) (b arm : Nat) (held : Bool) (s : State) : State :=
  let z := R.PLN_ZONE (64 + b)
  let mine := s.get q z F.PLN_ZONE_HELD == 1 && s.get q z F.PLN_ZONE_PEER == 0
  if (ownsBz q b s && !(s.pln q).bzLost.contains b) || mine then s
  else if held then peerTakes q arm (64 + b) s
  else if s.get q z F.PLN_ZONE_PEER = 1 then freeZone q (64 + b) s else s

/-- BORDER_MSG_APPLY: one message of a peer (R130, R132 to R134); a grant of a zone that is not paired, or not wanted any more,
has no effect. DEDUCED, log 52. DESIGN CHOICE, log 135. -/
def borderMsg (q : Plane) (m : BorderMsg) (s : State) : State :=
  match m with
  | .frame b => bzFrame q b s
  | .release b _ => if s.get q (R.PLN_ZONE (64 + b)) F.PLN_ZONE_PEER = 1 then freeZone q (64 + b) s else s
  | .grant b arm =>
    if (s.pln q).reqs.any (fun r => !r.peer && r.arm == arm && r.zone == 64 + b) && !(s.pln q).bzBad.contains b
      && s.get q (R.PLN_BZ_CFG b) F.PLN_BZ_CFG_EN == 1 && !ownsBz q b s then grantTo q arm (64 + b) s else s
  | .request b arm prio fed =>
    if ownsBz q b s then setReqs q ((s.pln q).reqs ++ [⟨64 + b, arm, true, s.n, prio, fed⟩]) s else s
  | .holds b arm held => peerHolds q b arm held s
  | .config b ok => bzConfig q b ok s

/-! ## Time scaling and evaluation (R123 to R127) -/

/-- OVR × SSM of an arm (R123). -/
def ownScale (q : Plane) (a : Nat) (s : State) : Rat :=
  fixed (s.act q (R.PLN_ARM_OVR a)) 34 * fixed (s.rd q (R.PLN_ARM_SSM a)) 34

/-- The SYNC coupling term (R123). -/
def coupling (q : Plane) (a : Nat) (s : State) : Rat :=
  let ar := s.arm q a
  let own := ownScale q a s
  if ar.group = 0 ∨ own = 0 then 1 else ratMins own ((mates ar a).map (fun b => ownScale q b s)) / own

/-- An inhibit of R124 stands for the arm, or for one of its group (R127). -/
def inhibited (q : Plane) (a : Nat) (s : State) : Bool :=
  (a :: mates (s.arm q a) a).any (fun b => (s.rd q (R.PLN_ARM_INHIBIT b)) != 0)

/-- TIME_SCALING_UPDATE: σ_eff moves toward σ_tgt (R125, R127). -/
def scaleArm (q : Plane) (a : Nat) (s : State) : State :=
  let ar := s.arm q a
  let lead := if ar.group = 0 then a else (bitsOf 16 ar.group).headD a
  let ms := fun f => ((max 1 (s.get q (R.PLN_ARM_SCALE_CFG lead) f) : Nat) : Rat) / 1000
  let c := coupling q a s
  let tgt := if inhibited q a s then 0 else ownScale q a s * c
  let up := s.cycSec / ms F.PLN_ARM_SCALE_CFG_T_UP
  let down := s.cycSec / ms F.PLN_ARM_SCALE_CFG_T_DOWN
  let sg := if ar.sigma < tgt then ratMin tgt (ar.sigma + up) else ratMax tgt (ar.sigma - down)
  let s1 := s.setArm q a { ar with sigma := sg, sigmaPrev := ar.sigma }
  let s2 := (s1.wr q (R.PLN_ARM_SCALE a) (ratWord 34 sg)).wr q (R.PLN_ARM_COUPLE a) (ratWord 34 c)
  if sg = 0 ∧ ar.sigma ≠ 0 then raiseA q a 1 s2 else s2

/-- The place in a section of a path coordinate, in the section's own unit. -/
def placeIn (c : Sect) (x : Rat) : Rat := c.own + (if c.w = 0 then 0 else ratMax 0 (ratMin c.len ((x - c.x) * c.len / c.w)))

/-- The first section in which a path coordinate lies, and the place in its own unit. -/
def firstAt (x : Rat) : List Sect → Option (Sect × Rat)
  | [] => none
  | [c] => some (c, placeIn c x)
  | c :: rest => if x < c.x + c.w ∨ (x = c.x + c.w ∧ c.stop) then some (c, placeIn c x) else firstAt x rest

/-- The section of the present motion Stitch where the path coordinate lies in it, else the first in which it lies; with the place in
its own unit. -/
def sectAt (cur : Option Nat) (cs : List Sect) (x : Rat) : Option (Sect × Rat) :=
  match cs.find? (fun c => !c.isBlend && cur == some c.st.pos && decide (c.x ≤ x) && decide (x ≤ c.x + c.w)) with
  | some c => some (c, placeIn c x)
  | none => firstAt x cs

/-- Own unit per path coordinate at a place. -/
def ownScaleAt (cur : Option Nat) (cs : List Sect) (x : Rat) : Rat :=
  match sectAt cur cs x with
  | some (c, _) => if c.w = 0 then 1 else c.len / c.w
  | none => 1

/-- Metres of tool-centre path up to a coordinate: pieces other than rotations and JOINTs (R83). -/
def metresTo (cs : List Sect) (x : Rat) : Rat :=
  (cs.map (fun c => if isJoint c.geo || isRotation c.geo || decide (c.w = 0) || decide (x ≤ c.x) then 0
    else ratMin c.len ((x - c.x) * c.len / c.w))).sum

/-- PATH_OFS in ps (R257). -/
def pathOfs (u : Nat) (s : State) : Int := 1000 * signedOf 24 (s.dg (R.CMP_PATH_OFS u) F.CMP_PATH_OFS_OFS)

/-- The half-length of a blend section, and the length of the piece before it. -/
def blendParts (axes : Nat → Option AxisTab) (c : Sect) : Rat × Rat :=
  match c.geo with
  | .blend g _ d => (d, geoLen c.st axes g)
  | g => (0, geoLen c.st axes g)

/-- The path coordinate of a place of a motion Stitch; where a blend replaces part of it, in proportion to length (R84). -/
def placeCoord (axes : Nat → Option AxisTab) (pos : Nat) (p : Rat) : List Sect → Option Rat
  | [] => none
  | c :: rest =>
    let at' := fun (k : Rat) => c.x + (if c.len = 0 then 0 else k * c.w / c.len)
    let h := blendParts axes c
    let share := fun (k : Rat) => if h.1 = 0 then (0 : Rat) else ratMax 0 (ratMin 1 (k / h.1))
    if !c.isBlend && c.st.pos == pos && decide (p ≤ c.own + c.len) then some (at' (ratMax 0 (p - c.own)))
    else if c.isBlend && c.st.pos == pos then some (at' (share (p - (h.2 - h.1)) * c.mid))
    else match rest with
      | n :: _ => if c.isBlend && !n.isBlend && n.st.pos == pos && decide (p < n.own) then
          some (at' (c.mid + share p * (c.len - c.mid)))
        else placeCoord axes pos p rest
      | [] => if !c.isBlend && c.st.pos == pos then some (c.x + c.w) else none

/-- The firing of an armed TRIG at this interpolation, if its position lies in the stretch of the path (R257, R258). DEDUCED,
log 49. -/
def predictTrig (q : Plane) (a : Nat) (t : ArmedTrig) (s : State) : Option Pred :=
  let ar := s.arm q a
  let tau := ar.tau + ar.sigma * s.cycSec
  let x1 := (evalPhases ar.x ar.phases tau).1
  let win : Int := (s.nextApply : Int) + pathOfs t.unit s
  let mk := fun (tx : Rat) (late : Bool) =>
    (⟨t.unit, a, (rneRat ((win : Rat) / 500 + tx * 2000000000) * 500).toNat, late, t.act, t.width, t.tag⟩ : Pred)
  match t.motion with
  | none => none
  | some pos =>
    match placeCoord (s.jointAxis a) pos t.place ar.sects with
    | none => some (mk 0 true)
    | some xf =>
      if xf < ar.x then some (mk 0 true)
      else if xf ≤ x1 ∧ ar.x < x1 then
        some (mk ((if xf ≤ ar.x then 0 else timeAt ar.phases ar.x xf 64 ar.tau tau - ar.tau) / ar.sigma) false)
      else none

/-- The armed TRIGs of an arm that fire in this window; a unit fires at most four, and the rest move on (R85, R257). DEDUCED,
log 49. -/
def predictArm (q : Plane) (a : Nat) (s : State) : State :=
  let ar := s.arm q a
  let new := ar.trigs.filterMap (fun t => if t.armed then (predictTrig q a t s).map (fun p => (t.pos, p)) else none)
  let left := { ar with trigs := ar.trigs.filter (fun t => !new.any (fun e => e.1 == t.pos)) }
  let p := s.pln q
  let win : Int := s.nextApply
  let old := (p.excess.filter (fun e => e.arm == a)).map (fun e => { e with t := (win + pathOfs e.unit s).toNat, late := true })
  let all := old ++ (new.map (·.2)).mergeSort (fun x y => decide (x.t ≤ y.t))
  let nth4 := fun (u : Nat) => (all.filter (fun e => e.unit == u))
  let go := (List.range 16).flatMap (fun u => (nth4 u).take 4)
  let wait := (List.range 16).flatMap (fun u => (nth4 u).drop 4)
  let s1 := (s.setArm q a left)
  let s2 := s1.setPln q { s1.pln q with preds := (s1.pln q).preds ++ go
                                        excess := (s1.pln q).excess.filter (fun e => e.arm != a) ++ wait }
  each wait (fun _ s => raiseQ q a 9 s) s2

/-- The profile is evaluated at τ(n) (R123). -/
def evalArm (q : Plane) (a : Nat) (s : State) : State :=
  let ar := s.arm q a
  let tau := ar.tau + ar.sigma * s.cycSec
  let e0 := evalPhases ar.x ar.phases tau
  let e := (e0.1, ratMax 0 e0.2.1, e0.2.2)
  let r := rebase 4096 ar.phases tau
  let k := ownScaleAt ar.cur ar.sects e.1
  let rested := decide (e.2.1 = 0)
  let dm := metresTo ar.sects e.1 - metresTo ar.sects ar.x
  let p := s.pln q
  let loops := p.loops.map (fun l => match l.ramp with
    | some m => if m.arm = a then
        let d := m.done + (if m.byPath then dm else s.cycSec)
        if m.total ≤ d then { l with value := m.target, ramp := none }
        else { l with value := m.from0 + (m.target - m.from0) * d / m.total, ramp := some { m with done := d } }
      else l
    | none => l)
  let s1 := s.setPln q { p with loops := loops }
  let s2 := s1.setArm q a { ar with tau := r.2, phases := r.1, x := e.1, v := e.2.1, acc := e.2.2
                                    restN := if rested && !ar.rests then s.n else ar.restN
                                    restPos := if rested && ar.rests then ar.restPos else none }
  let s3 := (s2.wr q (R.PLN_ARM_PROF a) (ratWord 24 (e.2.1 * k))).wr q (R.PLN_ARM_PATH a) (ratWord 24 (ar.sigma * e.2.1 * k))
  s3.put q (R.PLN_Q_STATUS a) F.PLN_Q_STATUS_AT_REST (b2n (decide (ar.sigma * e.2.1 = 0)))

/-! ## Planning -/

/-- A section lies between an unreached JOIN and its LEAVE, or the arm is in a group and none stands before it (R126). -/
def grouped (ar : Arm) (pos : Nat) : Bool :=
  let before := if ar.ahead.any (fun t => t.pos == pos) then ar.ahead.takeWhile (fun t => t.pos != pos) else []
  match (before.reverse.filter (fun t => t.op == .sync && t.fault == 0 && bitsAt (opW t.ops 1) 32 4 != 0)) with
  | t :: _ => bitsAt (opW t.ops 1) 32 4 == 1
  | [] => decide (ar.group ≠ 0)

/-- What stands at the junction after the section of Stitch `pos`: something that breaks a blend, and a ZONE_ENTER without its grant
(R68, R129). -/
def junctionBars (q : Plane) (a pos : Nat) (s : State) : Bool × Bool :=
  let ar := s.arm q a
  let l := junctionItems ar.cur ar.ahead pos
  (l.any (fun t => breaksBlend t.op || t.fault != 0),
    l.any (fun t => t.op == .zoneEnter && !holdsZone q a (bitsAt (opW t.ops 1) 0 7) s))

/-- A mark on the section of Stitch `pos`. -/
def markSect (q : Plane) (a pos : Nat) (todo zone : Bool) (s : State) : State :=
  let ar := s.arm q a
  s.setArm q a { ar with sects := ar.sects.map (fun c =>
    if c.st.pos = pos ∧ !c.isBlend then { c with todo := todo, zone := zone } else c) }

/-- The junction after the section of Stitch `pos`: blended, an exact stop, or an exact stop for want of a grant; ZONE_STOP
where a grant comes too late (R113, R120, R129). DEDUCED, log 51. -/
def joinOne (q : Plane) (a pos : Nat) (s : State) : State :=
  let ar := s.arm q a
  match (ar.sects.dropWhile (fun c => c.st.pos != pos || c.isBlend)) with
  | c :: n :: _ =>
    let bars := junctionBars q a pos s
    let b := if bars.1 then none else joinAt a (s.jointAxis a) n.st.modal pos ar.sects
    if b.isNone then markSect q a pos false false s
    else if bars.2 then markSect q a pos true true s
    else match tryBlend ar (2 * s.cycSec) (fun z => holdsZone q a z s) pos b with
      | some cs => s.setArm q a { ar with sects := cs }
      | none => markSect q a pos false false (if c.zone then raiseA q a 5 s else s)
  | _ => s

/-- The junctions of an arm that are still to be planned, outside a group (R113, R126). -/
def joinArm (q : Plane) (a : Nat) (s : State) : State :=
  let ar := s.arm q a
  each ((ar.sects.filter (fun c => c.todo && !c.isBlend && !grouped ar c.st.pos)).map (·.st.pos)) (joinOne q a) s

/-- The path coordinate stretches of a group from a coordinate on. -/
def groupIvals (q : Plane) (ms : List Nat) (open' : Bool) (s : State) (x : Rat) : List Ival :=
  groupStretches x open' (ms.map (fun b => let ar := s.arm q b; runSects ar (fun z => holdsZone q b z s) ar.sects)) 4096

/-- The sections that every member of a group has left are dropped from all. -/
def dropGroup (q : Plane) (ms : List Nat) : Nat → State → State
  | 0, s => s
  | k + 1, s =>
    if ms.all (fun b => let ar := s.arm q b; match ar.sects with
        | c :: _ :: _ => decide (c.x + c.w < ar.x) && ar.cur != some c.st.pos
        | _ => false) then
      dropGroup q ms k (each ms (fun b s => s.setArm q b { s.arm q b with sects := (s.arm q b).sects.drop 1 }) s)
    else s

/-- Extents of the sets of pieces of a group: 1, and 0 for one in which no member moves, which takes no time (R116, R126). -/
def alignGroup (q : Plane) (ms : List Nat) (s : State) : State :=
  let still := fun (i : Nat) => ms.all (fun b => match ((s.arm q b).sects)[i]? with
    | some c => decide (c.len = 0)
    | none => false)
  each ms (fun b s =>
    let ar := s.arm q b
    s.setArm q b { ar with sects := relay (ar.sects.zipIdx.map (fun e =>
      if e.1.x < ar.x then e.1 else { e.1 with w := if still e.2 then 0 else 1 })) }) s

/-- A junction of the members at section index `i`: blended for all or for none, and met from the present profile (R126, R129). -/
def groupJoin (q : Plane) (ms : List Nat) (i : Nat) (s : State) : State :=
  let js := ms.map (fun b => let ar := s.arm q b; (b, ar.sects[i]?, ar.sects[i + 1]?))
  if js.any (fun e => match e.2.1, e.2.2 with
      | some c, some _ => c.isBlend || !c.stop || !c.todo || !grouped (s.arm q e.1) c.st.pos
      | _, _ => true) then s
  else
    let pos := fun (e : Nat × Option Sect × Option Sect) => (e.2.1.map (·.st.pos)).getD 0
    let news := js.map (fun e => if (junctionBars q e.1 (pos e) s).1 then none
      else (joinAt e.1 (s.jointAxis e.1) ((e.2.2.map (·.st.modal)).getD Modal.initial) (pos e) (s.arm q e.1).sects).map (fun cs => (e.1, cs)))
    let mark := fun (todo zone : Bool) (s : State) => each js (fun e s => markSect q e.1 (pos e) todo zone s) s
    if news.any (·.isNone) then mark false false s
    else if js.any (fun e => (junctionBars q e.1 (pos e) s).2) then mark true true s
    else
      let s1 := alignGroup q ms (each (news.filterMap id) (fun e s =>
        let ar := s.arm q e.1
        s.setArm q e.1 { ar with sects := layout true ((e.2.head?.map (·.x)).getD 0) e.2 }) s)
      let lead := s1.arm q (ms.headD 0)
      if profileMeets lead (2 * s.cycSec) (blendStart (pos (js.headD (0, none, none))) lead.sects) (groupIvals q ms false s1) then s1
      else mark false false (each js (fun e s => if (e.2.1.map (·.zone)).getD false then raiseA q e.1 5 s else s) s)

/-- PROFILE_LIMITED rises when the end of look-ahead begins to cap the speed (R114). -/
def noteLimited (q : Plane) (a : Nat) (lim : Bool) (s : State) : State :=
  let ar := s.arm q a
  let s1 := s.setArm q a { ar with limited := lim }
  if lim && !ar.limited then raiseA q a 3 s1 else s1

/-- The profile of a group over its members' sections (R126). -/
def planGroup (q : Plane) (mask : Nat) (s0 : State) : State :=
  let ms := bitsOf 16 mask
  let s1 := alignGroup q ms (dropGroup q ms 2048 s0)
  let s := each (List.range (s1.arm q (ms.headD 0)).sects.length) (groupJoin q ms) s1
  let lead := s.arm q (ms.headD 0)
  let ps := replanPhases lead (2 * s.cycSec) (groupIvals q ms false s)
  let open' := ms.any (fun b => let ar := s.arm q b; lookOpen ar (runSects ar (fun z => holdsZone q b z s) ar.sects))
  let lim := open' && lookaheadCaps lead.v (groupIvals q ms false s lead.x) (groupIvals q ms true s lead.x)
  each ms (fun b s => noteLimited q b lim (s.setArm q b { s.arm q b with phases := ps, dirty := false })) s

/-- REPLAN of one arm outside a group, with PROFILE_LIMITED (R111 to R114). -/
def planArm (q : Plane) (a : Nat) (s0 : State) : State :=
  let s := joinArm q a s0
  let ar := s.arm q a
  let run := runSects ar (fun z => holdsZone q a z s) ar.sects
  let lim := lookOpen ar run && lookaheadCaps ar.v (stretchesFrom ar.x false run) (stretchesFrom ar.x true run)
  noteLimited q a lim (s.setArm q a { ar with
    phases := replanPhases ar (2 * s.cycSec) (fun x => stretchesFrom x false run), dirty := false })

/-- The arms whose path changed are planned anew. -/
def replan (q : Plane) (a : Nat) (s : State) : State :=
  let ar := s.arm q a
  if !ar.dirty || ar.stopping || qState q a s ≠ 1 then s
  else if ar.group = 0 then planArm q a s
  else if (bitsOf 16 ar.group).all (fun b => qState q b s == 1) then planGroup q ar.group s else s

/-- STARVED: the arm is at rest at the end of its path and its ring is empty (R112). -/
def checkStarved (q : Plane) (a : Nat) (s : State) : State :=
  let ar := s.arm q a
  if qState q a s = 1 ∧ ar.rests ∧ ar.ahead = [] ∧ !ar.endFetched ∧ restOf ar ≤ ar.x
    ∧ s.get q (R.PLN_Q_WR a) F.PLN_Q_WR_COUNT = s.get q (R.PLN_Q_FETCH a) F.PLN_Q_FETCH_COUNT then
    raiseQ q a 3 (enterWait q a 6 ⟨[], none, none, none, 0, 0⟩ s)
  else s

end Sys2Proof.Machine
end

