-- ==== Sys2Proof/Machine/Pif.lean ====
section
/-! DEFINITION. SENSE: position interfaces, their samples and Picots, compare units and trigger outputs (R232 to R263). -/

namespace Sys2Proof.Machine

/-! ## State and flags -/

/-- The flags of interface `p`: E(96 + p) (R263). -/
def bPIF (p : Nat) : Bank := ⟨R.PIF_FLAGS p, R.PIF_FLAG_CNT0 p, some (R.PIF_EVMASK p), 0⟩

/-- The flags of compare unit `u`: E(120 + u). -/
def bCMP (u : Nat) : Bank := ⟨R.CMP_FLAGS u, R.CMP_FLAG_CNT u, some (R.CMP_EVMASK u), 0⟩

/-- The flags of trigger output `k`: E(136 + k). -/
def bTRG (k : Nat) : Bank := ⟨R.TRG_FLAGS k, R.TRG_FLAG_CNT k, some (R.TRG_EVMASK k), 0⟩

/-- Raise flag `j` of interface `p`. -/
def raisePif (p j : Nat) (s : State) : State := s.raise .a (bPIF p) (96 + p) j

/-- Raise flag `j` of compare unit `u`. -/
def raiseCmp (u j : Nat) (s : State) : State := s.raise .a (bCMP u) (120 + u) j

/-- Raise flag `j` of trigger output `k`. -/
def raiseTrg (k j : Nat) (s : State) : State := s.raise .a (bTRG k) (136 + k) j

/-- Refuse on interface `p`. -/
def refusePif (p code : Nat) (s : State) : State :=
  s.refuse .a (R.PIF_STATUS p) F.PIF_STATUS_REFUSE code (bPIF p) (96 + p) 7

/-- Refuse on compare unit `u`. -/
def refuseCmp (u code : Nat) (s : State) : State :=
  s.refuse .a (R.CMP_STATUS u) F.CMP_STATUS_REFUSE code (bCMP u) (120 + u) 3

/-- Interface `p`. -/
def State.pif (s : State) (p : Nat) : PifSt := nth s.sense.pifs p PifSt.initial

/-- The state with interface `p` replaced. -/
def State.setPif (s : State) (p : Nat) (x : PifSt) : State := { s with sense := { s.sense with pifs := s.sense.pifs.set p x } }

/-- Compare unit `u`. -/
def State.cmp (s : State) (u : Nat) : CmpSt := nth s.sense.cmps u ⟨false, none, 0, 0, [], none, []⟩

/-- The state with compare unit `u` replaced. -/
def State.setCmp (s : State) (u : Nat) (x : CmpSt) : State := { s with sense := { s.sense with cmps := s.sense.cmps.set u x } }

/-- Trigger output `k`. -/
def State.trg (s : State) (k : Nat) : TrgSt := nth s.sense.trgs k ⟨false, none⟩

/-- The level at the pin of TRGk (R260). PRESUMED, log 123. -/
def trgPin (k : Nat) (s : State) : Bool :=
  xor ((s.trg k).level && s.dg (R.TRG_CFG k) F.TRG_CFG_EN == 1) (s.dg (R.TRG_CFG k) F.TRG_CFG_INV == 1)

/-- The state with trigger output `k` replaced, shown in TRG_STATUS. -/
def State.setTrg (s : State) (k : Nat) (x : TrgSt) : State :=
  ({ s with sense := { s.sense with trgs := s.sense.trgs.set k x } }.dp (R.TRG_STATUS k) F.TRG_STATUS_LEVEL (b2n x.level)).dp
    (R.TRG_STATUS k) F.TRG_STATUS_PULSE_ON (b2n x.pulse.isSome)

/-- Register `i` of the five configuration registers in force. -/
def PifSt.cfg (x : PifSt) (i : Nat) (f : Fld) : Nat := f.get (nth x.inForce i 0)

/-- The mode in force: 0 where the interface is disabled (R233). -/
def PifSt.mode (x : PifSt) : Nat := if x.cfg 0 F.PIF_CFG_EN = 1 then x.cfg 0 F.PIF_CFG_MODE else 0

/-- PIF_STATUS shows the interface. -/
def showPif (p : Nat) (s : State) : State :=
  let x := s.pif p
  let k := R.PIF_STATUS p
  (((s.dp k F.PIF_STATUS_ACTIVE (b2n (x.mode != 0))).dp k F.PIF_STATUS_REF_VALID (b2n x.ref.isSome)).dp k
    F.PIF_STATUS_VEL_VALID (b2n x.velValid)).dp k F.PIF_STATUS_DIR (b2n x.neg)

/-! ## Picots (R249, R250) -/

/-- A Picot. -/
def picotOf (src ch edge : Nat) (late neg : Bool) (tag t : Nat) (w3 : Word) : List Word :=
  let h := htsOfPs t
  [wordN (src * 2 ^ 32 + ch * 2 ^ 27 + edge * 2 ^ 24 + b2n late * 2 ^ 23 + b2n neg * 2 ^ 22 + tag), lo72 h, hi72 h, w3]

/-- A Picot of interface `p` enters its FIFO, and that of an edge is a probe's (R184); a full one drops it (R250). -/
def pifPicot (p edge t : Nat) (s : State) : State :=
  let x := s.pif p
  if !bitN (x.cfg 0 F.PIF_CFG_PICOT_SEL) edge then s
  else if 64 ≤ x.fifo.length then raisePif p 6 s
  else
    let s1 := s.setPif p { x with fifo := x.fifo ++ [picotOf 1 p edge false x.neg 0 t (wordI x.count)] }
    if edge ≤ 5 then probeEdge senseLink 1 p (decide (edge % 2 = 1)) t s1 else s1

/-- An A or B edge makes a Picot at every 2^PICOT_DIV-th (R250). -/
def abPicot (p edge t : Nat) (s : State) : State :=
  let x := s.pif p
  if !bitN (x.cfg 0 F.PIF_CFG_PICOT_SEL) edge then s
  else
    let s1 := s.setPif p { x with dec := x.dec + 1 }
    if (x.dec + 1) % 2 ^ x.cfg 0 F.PIF_CFG_PICOT_DIV = 0 then pifPicot p edge t s1 else s1

/-- A trigger Picot of output `k` (R249). -/
def trgPicot (k edge : Nat) (late : Bool) (tag t : Nat) (placed : Bool) (unit : Nat) (s : State) : State :=
  if 64 ≤ s.sense.fifo.length then raiseTrg k 2 s
  else { s with sense := { s.sense with
    fifo := s.sense.fifo ++ [picotOf 3 k edge late false tag t (wordN (b2n placed * 2 ^ 35 + unit))] } }

/-- PICOT_DRAIN: the oldest Picot of a FIFO goes to the ring in both stores (R250); FIFO 24 is that of the triggers. DEDUCED,
log 74. -/
def execPicotDrain (f : Fin 25) (s : State) : Host.Outcome State Fault Refusal :=
  let lg := s.dg R.PIF_PICOT_CFG F.PIF_PICOT_CFG_SIZE_LOG2
  let l := if f.val < 24 then (s.pif f).fifo else s.sense.fifo
  settled (match l with
    | [] => s
    | w :: rest =>
      if lg < 6 ∨ 16 < lg then s
      else
        let wr := s.dg R.PIF_PICOT_WR F.PIF_PICOT_WR_COUNT
        let s1 := if f.val < 24 then s.setPif f { s.pif f with fifo := rest } else { s with sense := { s.sense with fifo := rest } }
        (s1.sputVia senseLink (s.sense.picBase / 2 ^ (2 + lg) * 2 ^ (2 + lg) + 4 * (wr % 2 ^ lg)) w).dp R.PIF_PICOT_WR
          F.PIF_PICOT_WR_COUNT ((wr + 1) % 2 ^ 32))

/-! ## Trigger outputs (R260) -/

/-- A time to the nearest slot of 0.5 ns. -/
def slotOf (t : Nat) : Nat := (rneDiv t 500).toNat * 500

/-- The first slot at or after a time. -/
def slotUp (t : Nat) : Nat := (t + 499) / 500 * 500

/-- A pulse width in ps: rounded to 0.5 ns, at least 10 ns (R232, R263). -/
def widthPs (w : Word) : Nat := max 10000 ((rneDiv ((w.toNat : Int) * 2000000000) (2 ^ 32)).toNat * 500)

/-- The pending pulse end of output `k` acts (R260). DEDUCED, log 74. -/
def endPulse (k : Nat) (s : State) : State :=
  match (s.trg k).pulse with
  | none => s
  | some e => trgPicot k 4 false e.tag e.t e.placed e.unit (s.setTrg k ⟨false, none⟩)

/-- An action on output `k` at time `t`: a pulse end of the same slot or earlier comes first (R260). -/
def trgAct (k t : Nat) (placed late : Bool) (unit act width tag : Nat) (s0 : State) : State :=
  let s := match (s0.trg k).pulse with
    | some e => if e.t ≤ t then endPulse k s0 else s0
    | none => s0
  let x := s.trg k
  let fin := t + width
  let keep := match x.pulse with
    | some e => decide (fin ≤ e.t)
    | none => false
  let y : TrgSt := match act with
    | 0 => ⟨true, if keep then x.pulse else some ⟨fin, tag, placed, unit⟩⟩
    | 1 => ⟨true, none⟩
    | 2 => ⟨false, none⟩
    | _ => ⟨!x.level, none⟩
  let s1 := raiseTrg k (if placed then 0 else 1) (s.setTrg k y)
  trgPicot k act late tag t placed unit s1

/-- A fire of compare unit `u` acts at its time, FIRED and LATE raised; it is the unit's last fire (R253, R263). -/
def fireAct (u : Nat) (f : Fire) (s : State) : State :=
  let s1 := (s.toTime f.t).setCmp u { s.cmp u with last := some f.t }
  let s2 := raiseCmp u 0 (trgAct f.trg f.t true f.late u f.act f.width f.tag s1)
  if f.late then raiseCmp u 1 s2 else s2

/-! ## Compare units (R251 to R262) -/

/-- A field of CMP_CFG. -/
def cmpCfg (u : Nat) (f : Fld) (s : State) : Nat := s.dg (R.CMP_CFG u) f

/-- CMP_STATUS.STATE is `n`. -/
def setCmpState (u n : Nat) (s : State) : State := s.dp (R.CMP_STATUS u) F.CMP_STATUS_STATE n

/-- STEP: a signed count, or an unsigned period for TIME (R254). -/
def cmpStep (u : Nat) (s : State) : Int :=
  let w := s.rd .a (R.CMP_STEP u)
  if cmpCfg u F.CMP_CFG_KIND s = 0 then w.toInt else w.toNat

/-- The earliest time of the unit's next fire: 20 ns after the one before (R232, R253). -/
def cmpFrom (u : Nat) (s : State) : Nat :=
  let x := s.cmp u
  match x.fires.getLast?, x.last with
  | some f, _ => f.t + 20000
  | none, some t => t + 20000
  | none, none => 0

/-- A fire is committed for time `t`, moved on where the spacing asks for it (R253). DEDUCED, log 73. -/
def commitFire (u t : Nat) (late : Bool) (s : State) : State :=
  let x := s.cmp u
  let e := cmpFrom u s
  let f : Fire := ⟨max t e, late || decide (t < e), cmpCfg u F.CMP_CFG_TRG s, cmpCfg u F.CMP_CFG_ACTION s,
    widthPs (s.rd .a (R.CMP_WIDTH u)), cmpCfg u F.CMP_CFG_TAG s⟩
  s.setCmp u { x with fires := x.fires ++ [f] }

/-- After a fire is committed: the next value, or none (R254). -/
def advanceCmp (u : Nat) (s : State) : State :=
  let x := s.cmp u
  let st := cmpStep u s
  if st ≠ 0 ∧ 0 < x.rem then
    let s1 := s.setCmp u { x with c := x.c + st, rem := x.rem - 1 }
    if x.live then setCmpState u 1 s1 else s1
  else s.setCmp u { x with live := false, cut := none }

/-- The value of a unit is behind (R252). -/
def isBehind (u : Nat) (s : State) : Bool :=
  let c := (s.cmp u).c
  if cmpCfg u F.CMP_CFG_KIND s = 0 then
    let x := s.pif (cmpCfg u F.CMP_CFG_PIF s)
    match cmpCfg u F.CMP_CFG_DIR s with
    | 1 => decide (c ≤ x.count)
    | 2 => decide (x.count ≤ c)
    | _ => if x.neg then decide (x.count < c) else decide (c < x.count)
  else decide (c * 1000000000000 < (s.now : Int) * 4294967296)

/-- A value that is behind: COMPARE_BEHIND, and the unit waits, disarms or fires late (R252). -/
def behindAct (u : Nat) (s : State) : State :=
  let s1 := raiseCmp u 2 s
  if cmpCfg u F.CMP_CFG_FIRE s = 1 then advanceCmp u (commitFire u (slotUp s.now) true s1)
  else if cmpCfg u F.CMP_CFG_KIND s = 0 then setCmpState u 2 s1
  else setCmpState u 0 (s1.setCmp u { s1.cmp u with live := false })

/-- Crossings of a LOCAL unit as the count goes from `old` to `new`, each at its own time; a unit that has been disarmed fires for those
before (R251, R253, R254). -/
def crossUnit (u p : Nat) (old new : Int) (tx : Int → Nat) : Nat → State → State
  | 0, s => s
  | k + 1, s =>
    let x := s.cmp u
    let d := cmpCfg u F.CMP_CFG_DIR s
    let up := decide (old < x.c) && decide (x.c ≤ new) && d % 2 == 1
    let down := decide (x.c < old) && decide (new ≤ x.c) && decide (2 ≤ d)
    let open' := x.live || (match x.cut with
      | some t => decide (tx x.c ≤ t)
      | none => false)
    if open' && cmpCfg u F.CMP_CFG_KIND s == 0 && cmpCfg u F.CMP_CFG_PIF s == p && (up || down) then
      crossUnit u p old new tx k (advanceCmp u (commitFire u
        (slotOf (tx x.c) + 500 * s.dg (R.CMP_DELAY u) F.CMP_DELAY_DELAY) false s))
    else s

/-- The count of interface `p` changes by counting: crossings, then the new count and direction (R251). -/
def countTo (p : Nat) (new : Int) (tx : Int → Nat) (s : State) : State :=
  let x := s.pif p
  if new = x.count then s
  else
    let s1 := s.setPif p { x with count := new, neg := decide (new < x.count) }
    each (List.range 16) (fun u s => crossUnit u p x.count new tx ((new - x.count).natAbs + 1) s) s1

/-- The armed LOCAL units on interface `p` are checked against a count that a command has changed (R244, R252). DEDUCED, log 73.
-/
def recheckUnits (p : Nat) (s : State) : State :=
  each (List.range 16) (fun u s =>
    if (s.cmp u).live && cmpCfg u F.CMP_CFG_KIND s == 0 && cmpCfg u F.CMP_CFG_PIF s == p
      && s.dg (R.CMP_STATUS u) F.CMP_STATUS_STATE == 1 && isBehind u s then behindAct u s else s) s

/-- After a fire of a LOCAL or TIME unit: REMAIN counts down, the unit disarms after its last one, and a next value that is
behind acts (R252, R254). DEDUCED, log 73. -/
def afterFire (u : Nat) (s : State) : State :=
  let k := R.CMP_STATUS u
  let s1 := s.dp k F.CMP_STATUS_REMAIN (s.dg k F.CMP_STATUS_REMAIN - 1)
  let x := s1.cmp u
  if x.fires ≠ [] then s1
  else if !x.live then setCmpState u 0 s1
  else if s1.dg k F.CMP_STATUS_STATE = 1 ∧ isBehind u s1 then behindAct u s1 else s1

/-- LOCAL_FIRE: the oldest committed fire of the unit acts (R253). -/
def execLocalFire (u : Fin 16) (s : State) : Host.Outcome State Fault Refusal :=
  settled (match (s.cmp u).fires with
    | [] => s
    | f :: rest => afterFire u (fireAct u f (s.setCmp u { s.cmp u with fires := rest })))

/-- TIME_FIRE: a late fire that waits acts; else the unit fires at C, rounded to 0.5 ns (R255). -/
def execTimeFire (u : Fin 16) (s : State) : Host.Outcome State Fault Refusal :=
  let x := s.cmp u
  let s1 := if x.fires = [] ∧ x.live ∧ cmpCfg u F.CMP_CFG_KIND s = 2 then
      advanceCmp u (commitFire u ((rneDiv (x.c * 2000000000) (2 ^ 32)).toNat * 500) false s)
    else s
  settled (match (s1.cmp u).fires with
    | [] => s1
    | f :: rest => afterFire u (fireAct u f (s1.setCmp u { s1.cmp u with fires := rest })))

/-- The reason for which ARM is refused; 0 for none (R251, R253, R254, R257). -/
def armRefusal (u : Nat) (s : State) : Nat :=
  let kind := cmpCfg u F.CMP_CFG_KIND s
  let dir := cmpCfg u F.CMP_CFG_DIR s
  let p := cmpCfg u F.CMP_CFG_PIF s
  let m := (s.pif p).mode
  let st := cmpStep u s
  if kind = 3 ∨ dir = 0 then 6
  else if kind = 1 then 2
  else if kind = 2 then 0
  else if 24 ≤ p ∨ m = 0 ∨ 4 ≤ m then 3
  else if s.dg (R.CMP_DELAY u) F.CMP_DELAY_DELAY < (if m = 3 then 2000 else 48) then 4
  else if st ≠ 0 ∧ (dir = 3 ∨ decide (0 < st) ≠ decide (dir = 1)) then 5 else 0

/-- ARM (R252). DEDUCED, log 73. -/
def armUnit (u : Nat) (s : State) : State :=
  if armRefusal u s ≠ 0 then refuseCmp u (armRefusal u s) s
  else if s.dg (R.CMP_STATUS u) F.CMP_STATUS_STATE ≠ 0 then s
  else
    let v := of72 (s.rd .a (R.CMP_VAL u)) (s.rd .a (R.CMP_VAL_HI u))
    let n := s.dg (R.CMP_REPEAT u) F.CMP_REPEAT_COUNT
    let c := if cmpCfg u F.CMP_CFG_KIND s = 0 then signedOf 72 v else v
    let s1 := s.setCmp u { s.cmp u with live := true, cut := none, c := c, rem := n }
    let s2 := (setCmpState u 1 s1).dp (R.CMP_STATUS u) F.CMP_STATUS_REMAIN (if cmpStep u s = 0 then 0 else n)
    if isBehind u s2 then behindAct u s2 else s2

/-- The crossings of a SINCOS interface show at its next conversion. -/
def seesLater (u : Nat) (s : State) : Bool := cmpCfg u F.CMP_CFG_KIND s == 0 && (s.pif (cmpCfg u F.CMP_CFG_PIF s)).mode == 3

/-- DISARM: committed fires stand, and so does one whose crossing came before (R253). DEDUCED, log 73. -/
def disarmUnit (u : Nat) (s : State) : State :=
  let x := s.cmp u
  setCmpState u 0 (s.setCmp u { x with live := false, cut := if x.live && seesLater u s then some s.now else x.cut })

/-- A conversion of interface `p` has shown every crossing before it. -/
def endCuts (p : Nat) (s : State) : State :=
  each (List.range 16) (fun u s =>
    if (s.cmp u).cut.isSome && cmpCfg u F.CMP_CFG_PIF s == p then s.setCmp u { s.cmp u with cut := none } else s) s

/-- FIRE_NOW: the unit's action at once, not placed (R261). DEDUCED, log 73. -/
def fireNow (u : Nat) (s : State) : State :=
  raiseCmp u 0 (trgAct (cmpCfg u F.CMP_CFG_TRG s) (slotUp s.now) false false u (cmpCfg u F.CMP_CFG_ACTION s)
    (widthPs (s.rd .a (R.CMP_WIDTH u))) (cmpCfg u F.CMP_CFG_TAG s) s)

/-- A write of CMP_CMD (R263). -/
def cmpCmd (u code : Nat) (s : State) : State :=
  match code with
  | 0 => s
  | 1 => armUnit u s
  | 2 => disarmUnit u s
  | 3 => fireNow u s
  | _ => refuseCmp u 7 s

/-- ARM (R252). -/
def execArm (u : Fin 16) (s : State) : Host.Outcome State Fault Refusal := settled (cmpCmd u 1 s)

/-- DISARM (R253). -/
def execDisarm (u : Fin 16) (s : State) : Host.Outcome State Fault Refusal := settled (cmpCmd u 2 s)

/-- FIRE_NOW (R261). -/
def execFireNow (u : Fin 16) (s : State) : Host.Outcome State Fault Refusal := settled (cmpCmd u 3 s)

/-- CMP_CMD_RESERVED: codes 0x4 to 0xF (R263). -/
def execCmpCmdReserved (u : Fin 16) (code : BitVec 4) (s : State) : Host.Outcome State Fault Refusal :=
  settled (if code.toNat < 4 then s else refuseCmp u 7 s)

/-- The slot of a configuration register of unit `u`. -/
def cmpSlot (u : Nat) : CmpReg → Nat
  | .cfg => R.CMP_CFG u
  | .val => R.CMP_VAL u
  | .valHi => R.CMP_VAL_HI u
  | .step => R.CMP_STEP u
  | .rept => R.CMP_REPEAT u
  | .width => R.CMP_WIDTH u
  | .delay => R.CMP_DELAY u
  | .pathOfs => R.CMP_PATH_OFS u

/-- The owner arm of a PATH unit holds armed TRIGs on it (R262). -/
def holdsTrigs (u : Nat) (s : State) : Bool :=
  cmpCfg u F.CMP_CFG_KIND s == 1 && (match s.chanter with
    | some q => (s.arm q (cmpCfg u F.CMP_CFG_ARM s)).trigs.any (fun t => t.armed && t.unit == u)
    | none => false)

/-- A write of a configuration register of unit `u` (R262). -/
def writeCmp (u : Nat) (r : CmpReg) (v : Word) (s : State) : State :=
  if s.dg (R.CMP_STATUS u) F.CMP_STATUS_STATE ≠ 0 ∨ holdsTrigs u s then refuseCmp u 1 s else s.writeRw .a (cmpSlot u r) v

/-- CMP_CONFIG_WRITE (R262). -/
def execCmpConfigWrite (u : Fin 16) (r : CmpReg) (v : Word) (s : State) : Host.Outcome State Fault Refusal :=
  settled (writeCmp u r v s)

/-- PULSE_END: the pending pulse end acts at its time (R260). -/
def execPulseEnd (k : Fin 8) (s : State) : Host.Outcome State Fault Refusal :=
  settled (match (s.trg k).pulse with
    | none => s
    | some e => endPulse k (s.toTime e.t))

/-- ROUTED_TRIGGER: the oldest event routed to a trigger output applies EVT_ACTION (R261). -/
def execRoutedTrigger (s : State) : Host.Outcome State Fault Refusal :=
  settled (match s.evm.trig with
    | [] => s
    | k :: rest => trgAct k (slotUp s.now) false false 0 (s.dg (R.TRG_CFG k) F.TRG_CFG_EVT_ACTION)
        (widthPs (s.rd .a (R.TRG_EVT_WIDTH k))) 0 { s with evm := { s.evm with trig := rest } })

/-! ## Path firings (R257 to R259) -/

/-- PRED shows the firings held (R259). -/
def showPreds (u : Nat) (s : State) : State := s.dp (R.CMP_STATUS u) F.CMP_STATUS_PRED (min 7 (s.cmp u).preds.length)

/-- A prediction reaches SENSE (R257, R258). -/
def placePred (p : Pred) (s : State) : State :=
  let u := p.unit
  if s.tcyc < (pathOfs u s).natAbs then refuseCmp u 8 s
  else
    let late := p.late || decide (p.t < s.now)
    let f : Fire := ⟨max p.t (slotUp s.now), late, cmpCfg u F.CMP_CFG_TRG s, p.act, widthPs p.width, p.tag⟩
    let l := (s.cmp u).preds
    showPreds u (s.setCmp u { s.cmp u with
      preds := l.takeWhile (fun g => decide (g.t ≤ f.t)) ++ f :: l.dropWhile (fun g => decide (g.t ≤ f.t)) })

/-- PATH_PREDICTION: the next item on its way from a commit, if it is a prediction, reaches SENSE. -/
def execPathPrediction (s : State) : Host.Outcome State Fault Refusal :=
  settled (match s.sense.flight with
    | .pred p :: rest => placePred p { s with sense := { s.sense with flight := rest } }
    | _ => s)

/-- PATH_FIRE: the earliest placed firing of the unit acts (R257). -/
def execPathFire (u : Fin 16) (s : State) : Host.Outcome State Fault Refusal :=
  settled (match (s.cmp u).preds with
    | [] => s
    | f :: rest =>
      let e := match (s.cmp u).last with
        | some t => t + 20000
        | none => 0
      showPreds u (fireAct u { f with t := max f.t e, late := f.late || decide (f.t < e) }
        (s.setCmp u { s.cmp u with preds := rest })))

/-- A cancel of arm `a` reaches SENSE: later firings of its PATH units are dropped, each with a Picot (R259). -/
def cancelArm (a : Nat) (s : State) : State :=
  each (List.range 16) (fun u s =>
    if cmpCfg u F.CMP_CFG_KIND s = 1 ∧ cmpCfg u F.CMP_CFG_ARM s = a then
      let x := s.cmp u
      let drop := x.preds.filter (fun f => decide (s.now ≤ f.t))
      let s1 := s.setCmp u { x with preds := x.preds.filter (fun f => decide (f.t < s.now)) }
      showPreds u (each drop (fun f s => trgPicot f.trg 5 false f.tag f.t true u s) s1)
    else s) s

/-- PATH_CANCEL: the next item on its way, if it is a cancel, reaches SENSE (R259). DEDUCED, log 74. -/
def execPathCancel (s : State) : Host.Outcome State Fault Refusal :=
  settled (match s.sense.flight with
    | .cancel a :: rest => cancelArm a { s with sense := { s.sense with flight := rest } }
    | _ => s)

/-- The commit publishes its predictions and cancels, and tells SENSE which interfaces a closed channel names (R244, R257,
R259). DEDUCED, log 74. -/
def senseCommit (q : Plane) (s : State) : State :=
  let p := s.pln q
  let s1 := { s.setPln q { p with preds := [], cancels := [] } with
    sense := { s.sense with flight := s.sense.flight ++ p.preds.map .pred ++ p.cancels.map .cancel } }
  let used := ((List.range 192).filter (fun c => s.closedCh q c && pB (s.block q c) 0 13 1 == 1)).map (fun c => pB (s.block q c) 0 8 5)
  each (List.range 24) (fun i s => s.dp (R.PIF_STATUS i) F.PIF_STATUS_CLOSED (b2n (used.contains i))) s1

/-! ## Counting (R235 to R240, R243) -/

/-- A counted edge joins the timing history; a change of direction restarts it, and its first edge is not timed (R246). DEDUCED,
log 72. -/
def timeEdge (p : Nat) (new : Int) (t : Nat) (s : State) : State :=
  let x := s.pif p
  let neg := decide (new < x.count)
  let turned := x.turned || (x.last.isSome && neg != x.neg)
  let e := some (new, t)
  s.setPif p { x with
    last := e, edges := x.edges + 1, since := true, turned := false
    t0 := if turned then none else if x.t0.isSome then x.t0 else e
    tk := if turned then none else e
    tj := if turned then none else x.tj }

/-- A counted edge: `d` positions, with INV_DIR (R233). -/
def countEdge (p : Nat) (d : Int) (t : Nat) (s : State) : State :=
  let x := s.pif p
  let d' := if x.cfg 0 F.PIF_CFG_INV_DIR = 1 then -d else d
  if d = 0 then s else countTo p (x.count + d') (fun _ => t) (timeEdge p (x.count + d') t s)

/-- A reference event: the count is latched, and sets REF or is checked against it (R248). -/
def refEvent (p t : Nat) (s : State) : State :=
  let x := s.pif p
  let s1 := pifPicot p 6 t (raisePif p 0 (s.setPif p { x with idx := x.count, first := false }))
  let auto := x.first && s.dg (R.PIF_IDX_CFG p) F.PIF_IDX_CFG_AUTO_REF == 1
  if x.armed || auto then showPif p (s1.setPif p { s1.pif p with ref := some x.count, armed := false })
  else match x.ref with
    | none => s1
    | some r =>
      let cpr : Int := if x.mode = 2 then x.cfg 1 F.PIF_INC_CFG_TEETH_M1 + 1 else (s.rd .a (R.PIF_IDX_CPR p)).toNat
      if cpr = 0 then s1
      else
        let e := (x.count - r + cpr / 2) % cpr - cpr / 2
        let s2 := s1.wr .a (R.PIF_IDX_DRIFT p) (wordI (sat36 e))
        let s3 := if (s.rd .a (R.PIF_IDX_DRIFT_MAX p)).toInt.natAbs < e.natAbs then s2.wr .a (R.PIF_IDX_DRIFT_MAX p) (wordI (sat36 e))
          else s2
        if s.dg (R.PIF_IDX_CFG p) F.PIF_IDX_CFG_IDX_WIN < e.natAbs then raisePif p 2 s3 else s3

/-- The place of levels A and B in the order 00, 10, 11, 01 of positive motion (R235). -/
def abState (a b : Bool) : Int :=
  match a, b with
  | false, false => 0
  | true, false => 1
  | true, true => 2
  | false, true => 3

/-- What an INC edge counts (R235). -/
def incCount (mult : Nat) (onA a0 b0 a1 b1 : Bool) : Int :=
  let d : Int := if (abState a1 b1 - abState a0 b0) % 4 = 1 then 1 else -1
  match mult with
  | 0 => if onA && !b1 then d else 0
  | 1 => if onA then d else 0
  | _ => d

/-- The tooth edge of PULSE mode: its count, and whether it is a reference event (R237, R238). -/
def toothEdge (p t : Nat) (s : State) : State :=
  let x := s.pif p
  let neg := match x.cfg 1 F.PIF_INC_CFG_DIR_SRC with
    | 0 => false
    | 1 => true
    | _ => x.b
  let one : Int := if neg then -1 else 1
  let miss := max 1 (x.cfg 1 F.PIF_INC_CFG_MISSING)
  let kind := x.cfg 1 F.PIF_INC_CFG_REF_KIND
  match x.period, x.pr with
  | none, _ => countEdge p one t (s.setPif p { x with period := some t })
  | some t0, none =>
    let n := x.regular + 1
    countEdge p one t (s.setPif p { x with period := some t, regular := n, pr := if 2 ≤ n then some (t - t0) else none })
  | some t0, some pr =>
    let d := t - t0
    if kind = 1 ∧ (2 * miss + 1) * pr ≤ 2 * d then
      refEvent p t (countEdge p (one * (miss + 1)) t (s.setPif p { x with period := some t }))
    else if kind = 2 ∧ 2 * d ≤ pr then refEvent p t s
    else countEdge p one t (s.setPif p { x with period := some t, pr := some d })

/-- A change of the B level that gives the direction: the tooth periods and the velocity history restart with the new sign (R237, R238,
R246). -/
def toothTurn (p : Nat) (b : Bool) (s : State) : State :=
  let x := s.pif p
  s.setPif p { x with
    period := none, regular := 0, pr := none, t0 := none, tk := none, tj := none, turned := x.last.isSome
    neg := b != (x.cfg 0 F.PIF_CFG_INV_DIR == 1) }

/-- What an A or B edge is about to change. -/
def PifSt.before (x : PifSt) (onA : Bool) (t : Nat) : EdgeUndo :=
  ⟨onA, t, x.count, x.neg, x.edges, x.last, x.t0, x.tk, x.tj, x.since, x.turned⟩

/-- An edge of the other line within ILL_NS of the last one: both are one illegal transition, and the last one counts for
nothing (R236). DEDUCED, log 69. -/
def illegalPair (p : Nat) (u : EdgeUndo) (s : State) : State :=
  let x := s.pif p
  raisePif p 1 (s.setPif p { x with
    count := u.count, neg := u.neg, edges := u.edges, last := u.last, t0 := u.t0, tk := u.tk, tj := u.tj, since := u.since
    turned := u.turned, illegal := true, undo := none })

/-- The edge whose stamp an edge of the other line at `t` follows by less than ILL_NS (R236). -/
def PifSt.pairOf (x : PifSt) (onA : Bool) (t : Nat) : Option EdgeUndo :=
  x.undo.filter (fun u => u.onA != onA && decide (t < u.t + 1000 * max 1 (x.cfg 1 F.PIF_INC_CFG_ILL_NS)))

/-- The EDGE code of an edge (R249). -/
def edgeCode (l : PifLine) (level : Bool) : Nat :=
  (match l with
    | .a => 0
    | .b => 2
    | .z => 4) + (if level then 0 else 1)

/-- One accepted edge at time `t` (R234, R235, R237, R248). DEDUCED, log 69. -/
def pifEdge (p : Nat) (l : PifLine) (level : Bool) (t : Nat) (s : State) : State :=
  let x := s.pif p
  match l with
  | .z =>
    if x.z = level then s
    else
      let s1 := s.setPif p { x with z := level }
      if x.mode = 0 then s1
      else
        let s2 := pifPicot p (edgeCode l level) t s1
        let gate := x.cfg 1 F.PIF_INC_CFG_IDX_GATE == 0 || (x.a && x.b)
        if level && gate && (x.mode == 1 || x.mode == 3) then refEvent p t s2 else s2
  | _ =>
    let onA := decide (l = .a)
    if (if onA then x.a else x.b) = level then s
    else
      let a1 := if onA then level else x.a
      let b1 := if onA then x.b else level
      let s1 := s.setPif p { x with a := a1, b := b1 }
      match x.mode with
      | 1 => abPicot p (edgeCode l level) t (match x.pairOf onA t with
          | some u => illegalPair p u s1
          | none => countEdge p (incCount (x.cfg 1 F.PIF_INC_CFG_MULT) onA x.a x.b a1 b1) t
              (s1.setPif p { s1.pif p with undo := some (x.before onA t) }))
      | 2 =>
        let s2 := if onA then (if level then toothEdge p t s1 else s1)
          else if x.cfg 1 F.PIF_INC_CFG_DIR_SRC = 2 then toothTurn p level s1
          else s1
        abPicot p (edgeCode l level) t s2
      | 3 =>
        let d : Int := if (abState a1 b1 - abState x.a x.b) % 4 = 3 then 1 else -1
        abPicot p (edgeCode l level) t (s1.setPif p { s1.pif p with qc := x.qc.map (· + d) })
      | _ => s1

/-- PIF_EDGE: an edge stamped `t` (0.5 ns) after which the level holds for `held` ns; the glitch filter rejects shorter pulses
(R234). `other` tells how much later, in 0.5 ns, the other of A and B changed: within ILL_NS the two are one illegal transition
(R236). Two edges in two commands make one in the same way. DEDUCED, log 69. -/
def execPifEdge (p : Fin 24) (line : PifLine) (level : Bool) (t : Nat) (held : Nat) (other : Option Nat) (s : State) :
    Host.Outcome State Fault Refusal :=
  let x := s.pif p
  let s1 := s.toTime (500 * t)
  let partner : PifLine := if line = .a then .b else .a
  let flip := !(if line = .a then x.b else x.a)
  settled (if held < 4 * x.cfg 0 F.PIF_CFG_FILT then s
    else showPif p (match other with
      | none => pifEdge p line level (500 * t) s1
      | some d =>
        if line = .z then pifEdge p line level (500 * t) s1
        else if x.mode = 1 ∧ d < 2 * max 1 (x.cfg 1 F.PIF_INC_CFG_ILL_NS) ∧ (if line = .a then x.a else x.b) ≠ level then
          let s2 := raisePif p 1 (s1.setPif p { x with a := !x.a, b := !x.b, illegal := true, undo := none })
          abPicot p (edgeCode partner flip) (500 * (t + d)) (abPicot p (edgeCode line level) (500 * t) s2)
        else pifEdge p partner flip (500 * (t + d)) (pifEdge p line level (500 * t) s1)))

/-- Whether y / x is at least the tangent of (2k - 1) / 2^(i + 1) of a turn. -/
def tanLe (i k y x : Nat) : Bool :=
  let r := cosSinSum (2 * piFix * (2 * k - 1) / 2 ^ (i + 1)) 80 0 (2 ^ 160) 0 0
  decide ((x : Int) * r.2 ≤ (y : Int) * r.1)

/-- The number of half-steps that an angle in the first quadrant has passed, from bit `k` downward. -/
def fineBits (i y x : Nat) : Nat → Nat → Nat
  | 0, r => r
  | k + 1, r => if tanLe i (r + 2 ^ k) y x then fineBits i y x k (r + 2 ^ k) else fineBits i y x k r

/-- atan2(s, c) in units of 2^-i period, rounded half to even (R239); s and c are not both 0. With four steps to a period the
only ties are the odd eighths, which lie between an even and an odd step. DEDUCED, log 70. -/
def fineAngle (i : Nat) (sn cs : Int) : Nat :=
  let z : Nat × Int × Int := if 0 ≤ sn ∧ 0 < cs then (0, sn, cs) else if 0 < sn then (1, -cs, sn)
    else if cs < 0 then (2, -sn, -cs) else (3, cs, -sn)
  let y := z.2.1
  let x := z.2.2
  if i = 2 then (z.1 + b2n (decide (x < y) || (decide (x = y) && decide (z.1 % 2 = 1)))) % 4
  else (z.1 * 2 ^ (i - 2) + fineBits i y.toNat x.toNat (i - 1) 0) % 2 ^ i

/-- The quadrant count among Qc - 1, Qc and Qc + 1 that is congruent to the fine angle's quadrant (R239). -/
def quadrantNear (qc : Int) (qf : Nat) : Option Int := [qc, qc - 1, qc + 1].find? (fun n => decide (n % 4 = (qf : Int)))

/-- SINCOS_CONVERSION at stamp `t` (0.5 ns): amplitude, fine angle, quadrant and count (R239, R240). DEDUCED, log 70. -/
def execSincosConversion (p : Fin 24) (sn cs : BitVec 18) (t : Nat) (s : State) : Host.Outcome State Fault Refusal :=
  let x := s.pif p
  let sgn := fun (w : Word) (f : Fld) => signedOf 18 (f.get w)
  let ofs := s.rd .a (R.PIF_SC_OFS p)
  let gain := s.rd .a (R.PIF_SC_GAIN p)
  let a := (sn.toInt - sgn ofs F.PIF_SC_OFS_S) * F.PIF_SC_OFS_S.get gain
  let b := (cs.toInt - sgn ofs F.PIF_SC_OFS_C) * F.PIF_SC_OFS_C.get gain
  settled (if x.mode ≠ 3 then s
    else
      let i := x.cfg 2 F.PIF_SC_CFG_INTERP_LOG2
      let amp := (a * a + b * b) * 256
      let out := decide (amp < (x.cfg 2 F.PIF_SC_CFG_AMP_LO : Int) * 2 ^ 64) || decide ((x.cfg 2 F.PIF_SC_CFG_AMP_HI : Int) * 2 ^ 64 < amp)
      let bad := s.dg (R.PIF_STATUS p) F.PIF_STATUS_AMP_BAD == 1
      let n := if out != bad then x.amp + 1 else 0
      let flip := decide (max 1 (x.cfg 2 F.PIF_SC_CFG_AMP_N) ≤ n)
      let bad' := if flip then !bad else bad
      let s0 := s.toTime (500 * t)
      let s1 := if flip then (if bad then s0 else raisePif p 3 s0).dp (R.PIF_STATUS p) F.PIF_STATUS_AMP_BAD (b2n bad') else s0
      let dr := s1.draw
      let th := if a = 0 ∧ b = 0 then dr.1.toNat % 2 ^ i else fineAngle i a b
      let s2 := if a = 0 ∧ b = 0 then dr.2 else s1
      let qf := th / 2 ^ (i - 2)
      let qc := x.qc.getD qf
      let fq := quadrantNear qc qf
      let val : Int := 2 ^ (i - 2) * (if bad' then qc else fq.getD qc) + (if bad' || fq.isNone then 0 else (th % 2 ^ (i - 2) : Nat))
      let lost := fq.isNone && !bad'
      let s3 := if lost then raisePif p 5 s2 else s2
      let d := match x.fine with
        | none => 0
        | some v => if x.cfg 0 F.PIF_CFG_INV_DIR = 1 then v - val else val - v
      let new := x.count + d
      let told := match x.conv with
        | [] => 500 * t
        | e :: _ => e.2
      let tx := fun (c : Int) => if d = 0 then 500 * t else told + (roundReal ((c - x.count : Rat) * (500 * t - told : Nat) / d)).toNat
      let y := { s3.pif p with amp := if flip then 0 else n, qc := some qc, fine := some val, sync := lost, edges := x.edges + 1
                               conv := ((new, 500 * t) :: x.conv).take 257 }
      showPif p (endCuts p (countTo p new tx (s3.setPif p y))))

/-! ## Velocity (R246, R247) -/

/-- r of INC and PULSE at the latch instant `tl` (R246). DEDUCED, log 72. -/
def edgeRate (x : PifSt) (tmo tl : Nat) : Int :=
  match x.last with
  | none => 0
  | some l =>
    if tmo ≤ tl - l.2 then 0
    else
      let j := if x.tj.isSome then x.tj else if decide (x.t0 ≠ x.tk) then x.t0 else none
      match x.since, x.tk, j with
      | true, some k, some j => roundReal (((k.1 - j.1) * 256000000000000 : Int) / (k.2 - j.2 : Nat))
      | _, _, _ =>
        let b : Int := min x.r.natAbs (roundReal (256000000000000 / (tl - l.2 : Nat)))
        if x.neg then -b else b

/-- r from the newest and an older pair of count and time (R247). -/
def pairRate : Option (Int × Nat) → Option (Int × Nat) → Int
  | some k, some j => if k.2 ≤ j.2 then 0 else roundReal (((k.1 - j.1) * 256000000000000 : Int) / (k.2 - j.2 : Nat))
  | _, _ => 0

/-- r at the latch instant (R246, R247). -/
def rateAt (p tl : Nat) (s : State) : Int :=
  let x := s.pif p
  match x.mode with
  | 1 | 2 => edgeRate x (1000000000 * max 1 (s.dg (R.PIF_VEL_CFG p) F.PIF_VEL_CFG_VEL_TMO)) tl
  | 3 => pairRate x.conv.head? ((x.conv.take (2 ^ min 8 (x.cfg 0 F.PIF_CFG_AVG) + 1)).getLast?)
  | 4 | 5 => pairRate x.frames.head? x.frames.getLast?
  | _ => 0

/-- The velocity of the sample at `tl` (R247). -/
def velocity (p tl : Nat) (s : State) : State :=
  let x := s.pif p
  let r := rateAt p tl s
  let two := decide (2 ≤ x.edges)
  let old := (x.mode == 1 || x.mode == 2) && decide (1000000000 ≤ tl - x.en)
  let v := if two && x.mode != 0 then
      wordI (sat36 (rneShift (r * (s.rd .a (R.PIF_VEL_NUM p)).toInt) (s.dg (R.PIF_VEL_CFG p) F.PIF_VEL_CFG_VEL_SHIFT : Nat))) else 0
  s.setPif p { x with r := r, v := v, velValid := x.mode != 0 && (two || old), tj := x.tk, since := false }

/-- VEL_TIMEOUT: VEL_TMO after the last counted edge the velocity is 0 (R246). -/
def execVelTimeout (p : Fin 24) (s : State) : Host.Outcome State Fault Refusal :=
  let x := s.pif p
  let tmo := 1000000000 * max 1 (s.dg (R.PIF_VEL_CFG p) F.PIF_VEL_CFG_VEL_TMO)
  settled (match x.last with
    | some l => if x.mode = 1 ∨ x.mode = 2 then (s.toTime (l.2 + tmo)).setPif p { x with r := 0, v := 0 } else s
    | none => s)

/-! ## Samples (R244, R245) -/

/-- The sample of interface `p` with a count goes to both stores (R245). -/
def putSample (p : Nat) (count : Int) (serErr warn : Bool) (s : State) : State :=
  let x := s.pif p
  let bad := s.dg (R.PIF_STATUS p) F.PIF_STATUS_AMP_BAD == 1
  let fresh := x.mode != 0 && !x.illegal && !bad && !serErr && !x.sync
  let st := b2n fresh * 2 ^ 35 + b2n x.velValid * 2 ^ 34 + b2n x.illegal * 2 ^ 33 + b2n bad * 2 ^ 32 + b2n serErr * 2 ^ 31
    + b2n warn * 2 ^ 30 + b2n x.sync * 2 ^ 29 + b2n x.ref.isSome * 2 ^ 28 + b2n x.setBy.isSome * 2 ^ 27 + s.n % 2 ^ 16
  let c := (count % 2 ^ 72).toNat
  (showPif p s).sputVia senseLink (s.sense.smpBase / 128 * 128 + 4 * p) [lo72 c, hi72 c, x.v, wordN st]

/-- A count command acts: SET_COUNT moves REF with the count, CORRECT removes the drift (R244). DEDUCED, log 71. -/
def countCmd (p code : Nat) (s : State) : State :=
  let x := s.pif p
  let d : Int := if code = 2 then int72 (s.rd .a (R.PIF_ARG p)) (s.rd .a (R.PIF_ARG_HI p)) - x.count
    else -(s.rd .a (R.PIF_IDX_DRIFT p)).toInt
  let s1 := s.setPif p { x with count := x.count + d, setBy := some (x.setBy.getD 0 + d)
                                ref := if code = 2 then x.ref.map (· + d) else x.ref
                                last := x.last.map (fun e => (e.1 + d, e.2)), t0 := x.t0.map (fun e => (e.1 + d, e.2))
                                tk := x.tk.map (fun e => (e.1 + d, e.2)), tj := x.tj.map (fun e => (e.1 + d, e.2))
                                conv := x.conv.map (fun e => (e.1 + d, e.2)), frames := x.frames.map (fun e => (e.1 + d, e.2)) }
  recheckUnits p (if code = 2 then s1 else s1.wr .a (R.PIF_IDX_DRIFT p) 0)

/-- The slots of the five configuration registers of interface `p`. -/
def pifSlots (p : Nat) : List Nat := [R.PIF_CFG p, R.PIF_INC_CFG p, R.PIF_SC_CFG p, R.PIF_SER_CFG p, R.PIF_SER_CFG2 p]

/-- The velocity history is cleared (R244, R256). DEDUCED, log 72. -/
def clearVel (t : Nat) (x : PifSt) : PifSt :=
  { x with en := t, edges := 0, last := none, t0 := none, tk := none, tj := none, since := false, turned := false, undo := none, r := 0, v := 0, velValid := false
           conv := [], frames := [] }

/-- The configuration of interface `p` takes effect; a change of MODE or EN starts its decoding anew (R244). DEDUCED, log 72. -/
def takePifCfg (p t : Nat) (s : State) : State :=
  let x := s.pif p
  let ws := (pifSlots p).map (fun k => s.rd .a k)
  let same := decide (nth ws 0 0 >>> 32 = nth x.inForce 0 0 >>> 32)
  let y := { x with inForce := ws }
  if same then s.setPif p y
  else (s.setPif p { clearVel t y with
      first := true, period := none, regular := 0, pr := none, qc := none, fine := none, amp := 0, sync := false
      pos := none }).dp (R.PIF_STATUS p) F.PIF_STATUS_AMP_BAD 0

/-- The latch of interface `p` (R239, R244, R245); a serial interface delivers its sample at the end of its frame. DEDUCED, log
71. -/
def latchPif (p tl : Nat) (s0 : State) : State :=
  let s := s0.setPif p { s0.pif p with setBy := none }
  let x := s.pif p
  let serial := x.mode == 4 || x.mode == 5
  let s1 := if serial then s else velocity p tl s
  let at' := match x.mode, x.conv with
    | 3, e :: _ => x.count + roundReal ((rateAt p tl s * (tl - e.2 : Nat) : Int) / 256000000000000)
    | _, _ => x.count
  let s2 := each x.cmds (countCmd p) (s1.setPif p { s1.pif p with cmds := [] })
  let s3 := if serial then s2 else putSample p at' false false s2
  showPif p (takePifCfg p tl (s3.setPif p { s3.pif p with illegal := false }))

/-- The latch of every interface at CT0(n) + SYNC_OFS; the bases are those in force until then (R245, R263). DEDUCED, log 71. -/
def latchAll (s : State) : State :=
  let tl := s.atOfs R.TIM_CYC_ACT_SYNC_OFS
  let s0 := { s with sense := { s.sense with smpBase := (s.rd .a R.PIF_SMP_BASE).toNat, picBase := (s.rd .a R.PIF_PICOT_BASE).toNat } }
  each (List.range 24) (fun p s => latchPif p tl s) s0

/-! ## Serial frames (R241 to R243) -/

/-- Gray code to binary. -/
def ungray : Nat → Nat → Nat
  | 0, g => g
  | k + 1, g => Nat.xor g (ungray k (g / 2))

/-- The number of 1 bits among the low `k` bits. -/
def ones (k n : Nat) : Nat := (bitsOf k n).length

/-- A valid position: the counter is set by the first one, then moves by differences (R243). -/
def takePos (p : Nat) (pos : Nat) (s : State) : State :=
  let x := s.pif p
  let n := x.cfg 3 F.PIF_SER_CFG_BITS
  let v : Int := if x.cfg 4 F.PIF_SER_CFG2_SIGNED = 1 then signedOf n pos else pos
  let d := match x.pos with
    | none => v - x.count
    | some o => signedOf n ((v - o) % 2 ^ n).toNat
  let d' := if x.pos.isSome ∧ x.cfg 0 F.PIF_CFG_INV_DIR = 1 then -d else d
  let c := x.count + d'
  let t := s.atOfs R.TIM_CYC_ACT_SYNC_OFS
  s.setPif p { x with count := c, pos := some v, edges := x.edges + 1, frames := ((c, t) :: x.frames).take 2
                      neg := if c = x.count then x.neg else decide (c < x.count) }

/-- The sample after a serial frame: the count without what this cycle's commands added (R244, R245). DEDUCED, log 71. -/
def serialSample (p : Nat) (err warn : Bool) (s : State) : State :=
  let s1 := velocity p (s.atOfs R.TIM_CYC_ACT_SYNC_OFS) s
  let x := s1.pif p
  putSample p (x.count - x.setBy.getD 0) err warn s1

/-- SSI_FRAME_END: SL was high at the start (`idle`), and `raw` holds the bits read, the last one lowest (R241). -/
def execSsiFrameEnd (p : Fin 24) (idle : Bool) (raw : Nat) (s : State) : Host.Outcome State Fault Refusal :=
  let x := s.pif p
  let n := x.cfg 3 F.PIF_SER_CFG_BITS
  let tr := x.cfg 3 F.PIF_SER_CFG_TRAIL
  let par := x.cfg 3 F.PIF_SER_CFG_PARITY
  let body := if par = 0 then raw else raw / 2
  let pos := body / 2 ^ tr % 2 ^ n
  let ep := x.cfg 3 F.PIF_SER_CFG_ERR_POS
  let err := decide (ep < tr) && bitN body (tr - 1 - ep) == (x.cfg 3 F.PIF_SER_CFG_ERR_POL == 1)
  let odd := (ones (n + tr) body + raw % 2) % 2
  let parBad := (par == 1 && odd == 1) || (par == 2 && odd == 0)
  let bad := !idle || err || parBad
  settled (if x.mode ≠ 4 then s
    else if bad then serialSample p true false (raisePif p 4 s)
    else serialSample p false false (takePos p (if x.cfg 3 F.PIF_SER_CFG_GRAY = 1 then ungray 48 pos else pos) s))

/-- One bit, MSB first, of a CRC of `n` bits with generator terms `g`. -/
def crcMsb (n g : Nat) : Nat → Nat → Nat → Nat
  | 0, _, c => c
  | k + 1, w, c =>
    let top := bitN c (n - 1) != bitN w k
    crcMsb n g k w (if top then Nat.xor (c * 2 % 2 ^ n) (g % 2 ^ n) else c * 2 % 2 ^ n)

/-- BISS_FRAME_END: `start` is when the start bit came after the first clock edge, in 10 ns, and `raw` the bits after CDS: the
position, nE, nW and the inverted CRC, the last one lowest (R242). -/
def execBissFrameEnd (p : Fin 24) (start : Option Nat) (raw : Nat) (s : State) : Host.Outcome State Fault Refusal :=
  let x := s.pif p
  let n := x.cfg 3 F.PIF_SER_CFG_BITS
  let cl := x.cfg 4 F.PIF_SER_CFG2_CRC_LEN
  let data := raw / 2 ^ cl % 2 ^ (n + 2)
  let crc := crcMsb cl (x.cfg 4 F.PIF_SER_CFG2_CRC_POLY) (n + 2) data 0
  let crcBad := decide (0 < cl) && decide (raw % 2 ^ cl ≠ 2 ^ cl - 1 - crc)
  let lost := match start with
    | none => true
    | some d => decide (x.cfg 4 F.PIF_SER_CFG2_ACK_TMO < d)
  let bad := lost || !bitN data 1 || crcBad
  let warn := !lost && !bitN data 0
  let s1 := if warn then raisePif p 8 s else s
  settled (if x.mode ≠ 5 then s
    else if bad then serialSample p true warn (raisePif p 4 s1)
    else serialSample p false warn (takePos p (data / 4) s1))

/-! ## Commands and configuration (R244, R263) -/

/-- The slot of a configuration register of interface `p`. -/
def pifSlot (p : Nat) : PifReg → Nat
  | .cfg => R.PIF_CFG p
  | .inc => R.PIF_INC_CFG p
  | .sc => R.PIF_SC_CFG p
  | .ser => R.PIF_SER_CFG p
  | .ser2 => R.PIF_SER_CFG2 p

/-- The reason for which a configuration word is refused; 0 for none (R233, R263). -/
def pifRefusal (p : Nat) (r : PifReg) (v : Word) : Nat :=
  match r with
  | .cfg =>
    let m := F.PIF_CFG_MODE.get v
    if 6 ≤ m ∨ (m = 3 ∧ 8 ≤ p) then 4 else 0
  | .inc => if F.PIF_INC_CFG_MULT.get v = 3 ∨ 2 ≤ F.PIF_INC_CFG_IDX_GATE.get v ∨ F.PIF_INC_CFG_REF_KIND.get v = 3 then 5 else 0
  | .sc =>
    let i := F.PIF_SC_CFG_INTERP_LOG2.get v
    if i < 2 ∨ 16 < i then 5 else 0
  | .ser =>
    let d := F.PIF_SER_CFG_CLK_DIV.get v
    let b := F.PIF_SER_CFG_BITS.get v
    if d < 100 ∨ 10000 < d ∨ b < 8 ∨ 48 < b ∨ F.PIF_SER_CFG_PARITY.get v = 3 then 5 else 0
  | .ser2 => 0

/-- A write of a configuration register of interface `p` (R244). -/
def writePif (p : Nat) (r : PifReg) (v : Word) (s : State) : State :=
  if s.dg (R.PIF_STATUS p) F.PIF_STATUS_CLOSED = 1 then refusePif p 1 s
  else if pifRefusal p r v ≠ 0 then refusePif p (pifRefusal p r v) s
  else s.writeRw .a (pifSlot p r) v

/-- PIF_CONFIG_WRITE (R244). -/
def execPifConfigWrite (p : Fin 24) (r : PifReg) (v : Word) (s : State) : Host.Outcome State Fault Refusal :=
  settled (writePif p r v s)

/-- A 72-bit value is captured in a register pair (R7). -/
def capture72 (k : Nat) (x : Int) (s : State) : State :=
  let n := (x % 2 ^ 72).toNat
  (s.wr .a k (lo72 n)).wr .a (k + 1) (hi72 n)

/-- A write of PIF_CMD (R244, R248, R263). -/
def pifCmd (p code : Nat) (s : State) : State :=
  let x := s.pif p
  match code with
  | 0 => s
  | 1 => (capture72 (R.PIF_IDX_REF p) (x.ref.getD 0) (capture72 (R.PIF_IDX_LATCH p) x.idx
      (capture72 (R.PIF_CNT p) x.count s))).wr .a (R.PIF_VEL p) x.v
  | 2 => if s.dg (R.PIF_STATUS p) F.PIF_STATUS_CLOSED = 1 then refusePif p 1 s else s.setPif p { x with cmds := x.cmds ++ [2] }
  | 3 => if s.dg (R.PIF_STATUS p) F.PIF_STATUS_CLOSED = 1 then refusePif p 1 s
      else if x.ref.isNone then refusePif p 2 s else s.setPif p { x with cmds := x.cmds ++ [3] }
  | 4 => s.setPif p { x with armed := true }
  | 5 => showPif p (s.setPif p { x with ref := none, armed := false })
  | _ => refusePif p 3 s

/-- PIF_CAPTURE (R263). -/
def execPifCapture (p : Fin 24) (s : State) : Host.Outcome State Fault Refusal := settled (pifCmd p 1 s)

/-- SET_COUNT (R244). -/
def execSetCount (p : Fin 24) (s : State) : Host.Outcome State Fault Refusal := settled (pifCmd p 2 s)

/-- CORRECT (R244). -/
def execCorrect (p : Fin 24) (s : State) : Host.Outcome State Fault Refusal := settled (pifCmd p 3 s)

/-- ARM_REF (R248). -/
def execArmRef (p : Fin 24) (s : State) : Host.Outcome State Fault Refusal := settled (pifCmd p 4 s)

/-- CLEAR_REF (R248). -/
def execClearRef (p : Fin 24) (s : State) : Host.Outcome State Fault Refusal := settled (pifCmd p 5 s)

/-- PIF_CMD_RESERVED: codes 0x6 to 0xF (R263). -/
def execPifCmdReserved (p : Fin 24) (code : BitVec 4) (s : State) : Host.Outcome State Fault Refusal :=
  settled (if code.toNat < 6 then s else refusePif p 3 s)

/-! ## A step of cell time (R256) -/

/-- A time moved with a step. DESIGN CHOICE, log 33. -/
def moved (d : Int) (t : Nat) : Nat := ((t : Int) + d).toNat

/-- What SENSE holds moves with a step of cell time by `d` ps; TIME units are checked anew, and the velocity history restarts.
DESIGN CHOICE, log 33. -/
def senseStep (d : Int) (s : State) : State :=
  let x := s.sense
  let mv := fun (f : Fire) => { f with t := moved d f.t }
  let s1 := { s with sense := { x with
    cmps := x.cmps.map (fun c => { c with fires := c.fires.map mv, preds := c.preds.map mv, last := c.last.map (moved d) })
    trgs := x.trgs.map (fun k => { k with pulse := k.pulse.map (fun e => { e with t := moved d e.t }) })
    pifs := x.pifs.map (fun p => if p.mode = 0 then p else clearVel s.now p) } }
  each (List.range 16) (fun u s =>
    let c := s.cmp u
    if c.live && cmpCfg u F.CMP_CFG_KIND s == 2 && s.dg (R.CMP_STATUS u) F.CMP_STATUS_STATE == 1 && isBehind u s then
      let st := cmpStep u s
      let need := if 0 < st then (((s.now : Int) * 4294967296 + 999999999999) / 1000000000000 - c.c + st - 1) / st else 0
      if 0 < st ∧ 0 < c.rem then
        let k := min need.toNat (c.rem + 1)
        let s2 := raiseCmp u 2 s
        let s3 := if cmpCfg u F.CMP_CFG_FIRE s = 1 then commitFire u (slotUp s.now) true s2 else s2
        let s4 := s3.setCmp u { s3.cmp u with c := c.c + st * k, rem := c.rem - k, live := decide (k ≤ c.rem) }
        let s5 := s4.dp (R.CMP_STATUS u) F.CMP_STATUS_REMAIN (c.rem - k + b2n (cmpCfg u F.CMP_CFG_FIRE s == 1))
        if k ≤ c.rem ∨ cmpCfg u F.CMP_CFG_FIRE s = 1 then s5 else setCmpState u 0 s5
      else behindAct u s
    else s) s1

end Sys2Proof.Machine
end

