-- ==== Sys2Proof/Machine/Ssm.lean ====
section
/-! DEFINITION. Speed and separation monitoring: both channels, their envelopes, comparison, stop requests and outputs (R264 to
R300). -/

namespace Sys2Proof.Machine

/-! ## State, flags and registers of a channel -/

/-- The state of a channel; channel 1 is that of plane `q`. -/
def State.ssm (s : State) (ch : SsmChan) (q : Plane) : SsmSt :=
  match ch with
  | .one => (s.rep q).ssm
  | .two => s.ssm2

/-- The state with that of a channel replaced. -/
def State.setSsm (s : State) (ch : SsmChan) (q : Plane) (x : SsmSt) : State :=
  match ch with
  | .one => s.setRep q { s.rep q with ssm := x }
  | .two => { s with ssm2 := x }

/-- The flags of SSM. -/
def bSSM : Bank := ⟨R.SSM_FLAGS, R.SSM_FLAG_CNT0, some R.SSM_EVMASK, 0⟩

/-- The flags of SSM2. -/
def bSSM2 : Bank := ⟨R.SSM2_FLAGS, R.SSM2_FLAG_CNT0, some R.SSM2_EVMASK, 0⟩

/-- Raise flag `j` of SSM2_FLAGS (R300). -/
def raiseM2 (j : Nat) (s : State) : State :=
  s.raise .a bSSM2 (if j ≤ 1 then 52 else if j = 2 ∨ j = 6 then 53 else if j ≤ 5 then 54 else 55) j

/-- Raise flag `j`, numbered as in SSM_FLAGS, of a channel (R300). -/
def raiseM (ch : SsmChan) (q : Plane) (j : Nat) (s : State) : State :=
  match ch with
  | .one => s.raise q bSSM (if j = 0 then 48 else if j ≤ 2 then 49 else if j = 3 ∨ 7 ≤ j then 50 else 51) j
  | .two => raiseM2 (j - 1) s

/-- The slot of a channel's register. -/
def ssmSlot (ch : SsmChan) (k1 k2 : Nat) : Nat :=
  match ch with
  | .one => k1
  | .two => k2

/-- The connection register of a channel. -/
def connSlot (ch : SsmChan) (c : Nat) : Nat := ssmSlot ch (R.SSM_CONN c) (R.SSM2_CONN c)

/-- The number of a channel. -/
def ssmNum : SsmChan → Nat
  | .one => 1
  | .two => 2

/-- The connections that a channel consumes, numbered (R278). -/
def SafetyTab.used (t : SafetyTab) (ch : SsmChan) : List (ConnTab × Nat) :=
  (t.conns.zipIdx).filter (fun e => e.1.chan == ssmNum ch)

/-- Connection `c`. -/
def SsmSt.conn (x : SsmSt) (c : Nat) : SsmConn := nth x.conns c ⟨true, 0, none, 0, [], []⟩

/-- What a channel keeps for arm `a`. -/
def SsmSt.arm (x : SsmSt) (a : Nat) : SsmArm := nth x.arms a ⟨none, 0, 0, 0, 0, false, false, none, none⟩

/-- Connection `c` of a channel is replaced. -/
def setConn (ch : SsmChan) (q : Plane) (c : Nat) (x : SsmConn) (s : State) : State :=
  s.setSsm ch q { s.ssm ch q with conns := (s.ssm ch q).conns.set c x }

/-- What a channel keeps for arm `a` is replaced. -/
def setSsmArm (ch : SsmChan) (q : Plane) (a : Nat) (x : SsmArm) (s : State) : State :=
  s.setSsm ch q { s.ssm ch q with arms := (s.ssm ch q).arms.set a x }

/-- The safety parameters of arm `a`. -/
def SafetyTab.arm (t : SafetyTab) (a : Nat) : ArmSafety :=
  nth t.arms a ⟨[], 0, 0, 0, 1, 0, 0, 0, 0, 0, none, []⟩

/-! ## Outputs (R290 to R294) -/

/-- SAFE_STOP_A drops. DEDUCED, log 77. -/
def ssaOff (s : State) : State :=
  (({ s with fio := { s.fio with ssa := false } }.dp R.SSM2_STATUS F.SSM2_STATUS_SSA 0).dp R.FIO_STATUS F.FIO_STATUS_SSA 0).dp
    R.FIO_STATUS F.FIO_STATUS_SSA_REQ 0

/-- The ARM_STATE register of a channel shows what the channel keeps for arm `a`, with a NEAREST code (R300). -/
def showArm (ch : SsmChan) (q : Plane) (a near : Nat) (s : State) : State :=
  let x := (s.ssm ch q).arm a
  let on := x.cat.isSome
  let mon := on && (!x.monitored || x.cat == some 2)
  s.wr q (ssmSlot ch (R.SSM_ARM_STATE a) (R.SSM2_ARM_STATE a)) (wordN (b2n on * 2 ^ 35 + x.cat.getD 0 * 2 ^ 33
    + (if on then x.cause else 0) * 2 ^ 30 + b2n mon * 2 ^ 29 + near * 2 ^ 20))

/-- The NEAREST code that a channel shows for arm `a`. -/
def nearShown (ch : SsmChan) (q : Plane) (a : Nat) (s : State) : Nat :=
  s.get q (ssmSlot ch (R.SSM_ARM_STATE a) (R.SSM2_ARM_STATE a)) F.SSM_ARM_STATE_NEAREST

/-- A request of category 0 for arm `a` stands in a channel with cause DROP (R292). DEDUCED, log 78. -/
def requestDrop (ch : SsmChan) (q : Plane) (a : Nat) (s : State) : State :=
  let x := (s.ssm ch q).arm a
  let y : SsmArm := if x.cat.isSome then { x with cat := some 0, cause := 6 }
    else ⟨some 0, 6, s.now, nth (((s.ssm ch q).own.map (·.speed)).getD []) a 0, 0, false, false, none, x.lostAt⟩
  let s1 := setSsmArm ch q a y s
  let s2 := showArm ch q a (nearShown ch q a s1) s1
  if x.cat.isSome then s2 else raiseM ch q 1 s2

/-- A channel drops its own output with a cause; both channels request category 0 of every arm (R292). DEDUCED, log 137. -/
def dropOut (ch : SsmChan) (q : Plane) (cause : Nat) (s : State) : State :=
  let x := s.ssm ch q
  if !x.permit then s
  else
    let s1 := s.setSsm ch q { x with permit := false }
    let s2 := match ch with
      | .one => ssaOff ((s1.put q R.SSM_STATUS F.SSM_STATUS_SSA_PERMIT 0).put q R.SSM_STATUS F.SSM_STATUS_DROP_CAUSE cause)
      | .two => (s1.dp R.SSM2_STATUS F.SSM2_STATUS_SSB 0).dp R.SSM2_STATUS F.SSM2_STATUS_DROP_CAUSE cause
    each (List.range 16) (fun a s => requestDrop .one q a (requestDrop .two q a s)) (raiseM ch q 8 s2)

/-- The plane whose channel 1 acts: the Chanter, or plane A where none is. -/
def ssmPlane (s : State) : Plane := s.chanter.getD .a

/-- Both outputs drop (R292). -/
def dropBoth (cause : Nat) (s : State) : State := dropOut .two (ssmPlane s) cause (dropOut .one (ssmPlane s) cause s)

/-! ## Times (R266, R285) -/

/-- k of R285. -/
def t2Log (s : State) : Nat := ((List.range 8).find? (fun k => decide (125000000 ≤ 2 ^ k * s.tcyc))).getD 7

/-- T_r in ps for a sensor's T_SENS in ps (R266). DEDUCED, log 137. -/
def reaction (sens : Nat) (s : State) : Nat :=
  sens + 2 * (2 ^ t2Log s * s.tcyc) + s.tcyc + s.dg R.TIM_CYC_ACT_APPLY_OFS F.TIM_CYC_ACT_PERIOD_VALUE * 1000

/-- ps as seconds. -/
def secRat (t : Nat) : Rat := (t : Rat) / 1000000000000

/-- Seconds as ps. -/
def psOfRat (t : Rat) : Nat := (roundReal (t * 1000000000000)).toNat

/-- S_s in m and T_s in s at speed `v` (R267): linear between rows, and beyond the last one along its slope. -/
def stopAt : List (Word × Word × Word) → Rat → Rat × Rat
  | [], _ => (0, 0)
  | [r], _ => (fixed r.2.1 30, (r.2.2.toNat : Rat) / 4294967296)
  | a :: b :: t, v =>
    let va := fixed a.1 24
    let vb := fixed b.1 24
    if v ≤ vb ∨ t = [] then
      let k := if vb = va then 0 else (v - va) / (vb - va)
      let lin := fun (x y : Rat) => x + (y - x) * k
      (lin (fixed a.2.1 30) (fixed b.2.1 30), lin ((a.2.2.toNat : Rat) / 4294967296) ((b.2.2.toNat : Rat) / 4294967296))
    else stopAt (b :: t) v

/-- The stopping table of arm `a` in force in a channel (R267, R282). -/
def stopTable (ch : SsmChan) (q : Plane) (t : SafetyTab) (a : Nat) (s : State) : List (Word × Word × Word) :=
  let p := t.arm a
  let c := match p.cls with
    | some n => if n ≤ 3 then n else 3
    | none => match (t.used ch).find? (fun e => e.1.kind == 4 && e.1.first == a) with
      | some e =>
        let x := (s.ssm ch q).conn e.2
        if x.lost then 3 else bitsAt (nth x.data 0 0) 0 2
      | none => 3
  nth p.stop c []

/-! ## Envelopes (R278 to R282) -/

/-- CRC-32C with initial value CONN_ID (R279). -/
def crc32c (id : Nat) (ws : List Word) : Nat := Nat.xor ((ws.flatMap crcBytes).foldl (crcByte 0x82F63B78) id) 0xFFFFFFFF

/-- The newest envelope of a connection: in the input image for a channel 1 station, else as delivered. -/
def newest (ch : SsmChan) (q : Plane) (k : ConnTab) (c : Nat) (s : State) : List Word :=
  match ch, k.place with
  | .one, some p =>
    let b := s.cbus.imgBase
    if bitsAt (s.sw q (b + k.ofs)) 35 1 = 0 then []
    else s.swords q (b + p) (bitsAt (s.sw q (b + p)) 20 8 + 2)
  | _, _ => ((s.ssm ch q).conn c).mail

/-- N fits the KIND (R280, R281). -/
def lengthOk (kind : Nat) (ws : List Word) : Bool :=
  let n := bitsAt (nth ws 0 0) 20 8
  let w1 := nth ws 1 0
  decide (ws.length = n + 2) && (match kind with
    | 1 => decide (n = 1 + 3 * bitsAt w1 0 4) && decide (1 ≤ bitsAt w1 0 4) && decide (bitsAt w1 0 4 ≤ 8)
    | 2 => decide (n = 1 + 3 * bitsAt w1 0 6) && decide (bitsAt w1 0 6 ≤ 32)
    | 5 => decide (n = 5 + 7 * bitsAt (nth ws 5 0) 0 4)
    | _ => decide (n = 1))

/-- The error code of an envelope (R280); 0 where it is accepted, and none where it is not new. DEDUCED, log 137. -/
def envelopeCode (k : ConnTab) (x : SsmConn) (ws : List Word) : Option Nat :=
  let w0 := nth ws 0 0
  let seq := bitsAt w0 4 16
  let body := ws.take (bitsAt w0 20 8 + 1)
  if bitsAt (nth ws (bitsAt w0 20 8 + 1) 0) 0 32 ≠ crc32c k.id body then some 1
  else if bitsAt w0 28 8 ≠ k.kind then some 2
  else if !lengthOk k.kind ws then some 5
  else match x.seq with
    | none => some 0
    | some l =>
      if seq = l then none
      else if x.lost && x.run == 0 then some 0
      else if (seq + 65536 - l) % 65536 ≤ k.seqWin then some 0 else some 3

/-- A connection is lost (R280). DEDUCED, log 77. -/
def loseConn (ch : SsmChan) (q : Plane) (c : Nat) (s : State) : State :=
  let x := (s.ssm ch q).conn c
  let s1 := setConn ch q c { x with lost := true, run := 0 } s
  raiseM ch q 5 ((s1.put q (connSlot ch c) F.SSM_CONN_OK 0).put q (connSlot ch c) F.SSM_CONN_ERR 4)

/-- ENVELOPE_CHECK of one connection (R280). DEDUCED, log 77. -/
def checkConn (ch : SsmChan) (q : Plane) (k : ConnTab) (c : Nat) (s : State) : State :=
  let x := (s.ssm ch q).conn c
  let ws := newest ch q k c s
  let r := connSlot ch c
  let s1 := if ws = [] then s
    else match envelopeCode k x ws with
      | none => s
      | some 0 =>
        let n := x.run + 1
        let w0 := nth ws 0 0
        let lost := x.lost && decide (n < 2)
        let s1 := setConn ch q c { x with lost := lost, run := n, seq := some (bitsAt w0 4 16), at' := s.now
                                          data := (ws.drop 1).take (bitsAt w0 20 8) } s
        (s1.put q r F.SSM_CONN_OK (b2n (!lost))).put q r F.SSM_CONN_SEQ (bitsAt w0 4 16)
      | some e =>
        let s1 := setConn ch q c { x with run := 0 } s
        raiseM ch q 4 ((s1.put q r F.SSM_CONN_ERR e).put q r F.SSM_CONN_ERRCNT (satAdd 8 (s.get q r F.SSM_CONN_ERRCNT) 1))
  let y := (s1.ssm ch q).conn c
  if !y.lost && decide (y.at' + k.wdUs * 1000000 ≤ s1.now) then loseConn ch q c s1 else s1

/-- The DRIVE connection that delivers axis `i` (R281). -/
def driveConn (ch : SsmChan) (q : Plane) (t : SafetyTab) (i : Nat) (s : State) : Option (ConnTab × Nat) :=
  (t.used ch).find? (fun e =>
    let x := (s.ssm ch q).conn e.2
    let j := i - e.1.first
    e.1.kind == 1 && decide (e.1.first ≤ i) && (decide (j < bitsAt (nth x.data 0 0) 0 4) || (x.data.isEmpty && j == 0)))

/-- The words that a DRIVE connection delivers for axis `i`: position, velocity, status (R281). -/
def driveAxis (ch : SsmChan) (q : Plane) (t : SafetyTab) (i : Nat) (s : State) : Option (Word × Word × Word × Bool) :=
  (driveConn ch q t i s).map (fun e =>
    let x := (s.ssm ch q).conn e.2
    let j := i - e.1.first
    (nth x.data (1 + 3 * j) 0, nth x.data (2 + 3 * j) 0, nth x.data (3 + 3 * j) 0, x.lost))

/-- Position and velocity of axis `i` as a channel has them (R283). -/
def axisIn (ch : SsmChan) (q : Plane) (t : SafetyTab) (i : Nat) (s : State) : Option (Word × Word) :=
  match ch with
  | .one => some (s.rd q (R.CLE_CH_MEAS i), s.rd q (R.CLE_CH_VEL i))
  | .two => (driveAxis .two q t i s).map (fun e => (e.1, e.2.1))

/-- The time since which axis `i` is lost in a channel: its DRIVE connection, since WD_TIME ended, or its VALID = 0 (R280, R282). -/
def axisLost (ch : SsmChan) (q : Plane) (t : SafetyTab) (i : Nat) (s : State) : Option Nat :=
  match driveConn ch q t i s, driveAxis ch q t i s with
  | some c, some e =>
    let x := (s.ssm ch q).conn c.2
    if x.lost then some (if x.run = 0 then x.at' + c.1.wdUs * 1000000 else s.now)
    else if bitsAt e.2.2.1 35 1 = 0 then some s.now else none
  | _, _ => none

/-- The earliest loss of an axis of arm `a`. -/
def armLost (ch : SsmChan) (q : Plane) (t : SafetyTab) (a : Nat) (s : State) : Option Nat :=
  match (((List.range 8).map (8 * a + ·)) ++ (s.armTab a).ext).filterMap (fun i => axisLost ch q t i s) with
  | [] => none
  | x :: l => some (l.foldl min x)

/-! ## Geometry (R268 to R273) -/

/-- A placed capsule: the six words of its segment, and its radius in m. -/
structure Placed where
  seg : List Word
  r : Rat
  deriving DecidableEq, Repr

/-- The calibration values that a channel uses: those in force, or none (R196, R283). -/
def calOf (ch : SsmChan) (q : Plane) (s : State) : List Word :=
  match ch with
  | .one => calWords q s
  | .two => []

/-- The joint words of arm `a`. -/
def armWords (ch : SsmChan) (q : Plane) (t : SafetyTab) (a : Nat) (s : State) : List (Word × Word) :=
  (List.range 8).map (fun j => (axisIn ch q t (8 * a + j) s).getD (0, 0))

/-- The capsules of arm `a`, placed (R270). -/
def armCaps (ch : SsmChan) (q : Plane) (t : SafetyTab) (a : Nat) (s : State) : List Placed :=
  let js := (armWords ch q t a s).map (·.1)
  (t.arm a).caps.map (fun c => ⟨Config.placeLink (ssmNum ch) (calOf ch q s) a js c.link c.a c.b, fixed c.r 30⟩)

/-- v_r of arm `a` in V36 LSB: the largest speed of a capsule end point (R268). -/
def armSpeed (ch : SsmChan) (q : Plane) (t : SafetyTab) (a : Nat) (s : State) : Nat :=
  let ws := armWords ch q t a s
  let v := fun (l : Nat) (p : List Word) => Config.pointSpeed (ssmNum ch) (calOf ch q s) a (ws.map (·.1)) (ws.map (·.2)) l p
  (t.arm a).caps.foldl (fun m c => max m (max (v c.link c.a) (v c.link c.b))) 0

/-- A capsule whose end points lie in WORLD. -/
def worldCap (c : Capsule) : Placed := ⟨c.a ++ c.b, fixed c.r 30⟩

/-- A segment, six words, as an end point in m and the vector to the other end. -/
def segmentOf (w : List Word) : V3 × V3 := (posOf w, vecAdd (posOf (w.drop 3)) (-1) (posOf w))

/-- The squared distance of a point from a segment. -/
def pointSegmentSq (p : V3) (g : V3 × V3) : Rat :=
  let e := vecAdd p (-1) g.1
  let n := vecDot g.2 g.2
  let r := vecAdd e (-(if n = 0 then 0 else ratMax 0 (ratMin 1 (vecDot e g.2 / n)))) g.2
  vecDot r r

/-- The squared least distance of two segments: between an end of one and the other, or between inner points (R269). -/
def segmentSq (x y : List Word) : Rat :=
  let g := segmentOf x
  let h := segmentOf y
  let ends := ratMins (pointSegmentSq g.1 h) [pointSegmentSq (vecAdd g.1 1 g.2) h, pointSegmentSq h.1 g,
    pointSegmentSq (vecAdd h.1 1 h.2) g]
  let w := vecAdd g.1 (-1) h.1
  let uv := vecDot g.2 h.2
  let det := vecDot g.2 g.2 * vecDot h.2 h.2 - uv * uv
  if det = 0 then ends
  else
    let k := (uv * vecDot h.2 w - vecDot h.2 h.2 * vecDot g.2 w) / det
    let l := (vecDot g.2 g.2 * vecDot h.2 w - uv * vecDot g.2 w) / det
    if 0 ≤ k ∧ k ≤ 1 ∧ 0 ≤ l ∧ l ≤ 1 then
      let r := vecAdd (vecAdd w k g.2) (-l) h.2
      ratMin ends (vecDot r r)
    else ends

/-- The least distance in m of two segments as a channel forms it, within 1 µm of the exact one (R264, R269). DESIGN CHOICE, log
41. -/
def segmentDistance (ch : SsmChan) (x y : List Word) : Rat :=
  rootGrid (segmentSq x y) + ratMax (-1 / 1000000) (ratMin (1 / 1000000) (Config.distanceError (ssmNum ch) x y))

/-- The distance of two capsules in m; 0 where they overlap (R269). -/
def capDist (ch : SsmChan) (x y : Placed) : Rat := ratMax 0 (segmentDistance ch x.seg y.seg - x.r - y.r)

/-- The least distance of two sets of capsules; none where one is empty. -/
def setDist (ch : SsmChan) (xs ys : List Placed) : Option Rat :=
  (xs.flatMap (fun x => ys.map (capDist ch x))).foldl (fun m d => some (match m with
    | some k => ratMin k d
    | none => d)) none

/-- A DI of a dual-channel pair reads 1, as its channel has it over its own link: the lower-numbered input over the plane–field
link of the granted plane, the higher over the warden–field link (R272, R432). DEDUCED, log 76. -/
def diFree (ch : SsmChan) (p : Nat × Nat) (s : State) : Bool :=
  let k := ssmSlot ch p.1 p.2
  s.linkUp (match ch with
    | .one => fieldLink (ssmPlane s)
    | .two => .wardenField) && s.dg (R.FIO_DI_STATUS k) F.FIO_DI_STATUS_LEVEL == 1 && s.dg (R.FIO_DI_STATUS k) F.FIO_DI_STATUS_UNKNOWN == 0

/-- The ZONES connection that a zone is mapped to. -/
def zoneConn (ch : SsmChan) (t : SafetyTab) (z : Nat) : Option (ConnTab × Nat) :=
  (t.used ch).find? (fun e => e.1.kind == 3 && decide (e.1.first ≤ z) && decide (z < e.1.first + 32))

/-- Human zone `z` is occupied (R272). DEDUCED, log 76. -/
def zoneOccupied (ch : SsmChan) (q : Plane) (t : SafetyTab) (z : Nat) (s : State) : Bool :=
  match t.zones[z]? with
  | none => false
  | some y =>
    let byConn := match zoneConn ch t z with
      | some e =>
        let x := (s.ssm ch q).conn e.2
        !x.lost && bitsAt (nth x.data 0 0) (z - e.1.first) 1 == 0
      | none => false
    let byDi := match y.di with
      | some p => !diFree ch p s
      | none => false
    byConn || byDi

/-- A human that is present: its code in NEAREST, its sensor data and its capsule (R272, R282). DEDUCED, log 137. -/
def humans (ch : SsmChan) (q : Plane) (t : SafetyTab) (s : State) : List (Nat × SensorTab × Placed) :=
  let pts := (t.used ch).flatMap (fun e =>
    let x := (s.ssm ch q).conn e.2
    if e.1.kind = 2 ∧ !x.lost then
      (List.range (bitsAt (nth x.data 0 0) 0 6)).map (fun p =>
        let w := (List.range 3).map (fun i => nth x.data (1 + 3 * p + i) 0)
        (e.1.first + p, e.1.sensor, (⟨w ++ w, 0⟩ : Placed)))
    else [])
  let zs := ((List.range 32).filter (fun z => zoneOccupied ch q t z s)).filterMap (fun z =>
    t.zones[z]?.map (fun y => (256 + z, (match zoneConn ch t z with
      | some e => e.1.sensor
      | none => y.sensor), worldCap y.cap)))
  let cov := (t.used ch).filterMap (fun e =>
    if (e.1.kind = 2 ∨ e.1.kind = 3) ∧ ((s.ssm ch q).conn e.2).lost then
      some ((if e.1.kind = 3 then 256 else 0) + e.1.first, e.1.sensor, worldCap e.1.cover) else none)
  pts ++ zs ++ cov

/-- One check of an arm: its cause, the code of its human, T_SENS in ps, the distance, the right-hand side at the measured speeds,
the distance from which it counts as clear (R277), and the scale that it permits (R274, R275). -/
structure SsmCheck where
  cause : Nat
  code : Nat
  sens : Nat
  d : Rat
  rhs : Rat
  clear : Rat
  perm : Rat
  deriving DecidableEq, Repr

/-- The largest number up to `n` for which `ok` holds, by bisection from bit `k` downward; 0 where it holds for none. -/
def bisectNat (ok : Nat → Bool) (n : Nat) : Nat → Nat → Nat
  | 0, r => r
  | k + 1, r => if r + 2 ^ k ≤ n ∧ ok (r + 2 ^ k) then bisectNat ok n k (r + 2 ^ k) else bisectNat ok n k r

/-- The permitted share of V_REF, to 1 LSB of V36 (R275). DEDUCED, log 76. -/
def permShare (vref : Nat) (ok : Rat → Bool) : Rat :=
  if vref = 0 then 1
  else (bisectNat (fun n => ok ((n : Rat) / 16777216)) vref 36 0 : Rat) / vref

/-- T_DOWN of arm `a` in s. -/
def downSec (q : Plane) (a : Nat) (s : State) : Rat := ((max 1 (s.get q (R.PLN_ARM_SCALE_CFG a) F.PLN_ARM_SCALE_CFG_T_DOWN) : Nat) : Rat) / 1000

/-- The check of arm `a` against a human (R265, R274, R275). DEDUCED, log 75. DEDUCED, log 137. -/
def humanCheck (ch : SsmChan) (q : Plane) (t : SafetyTab) (a : Nat) (v : Rat) (caps : List Placed)
    (h : Nat × SensorTab × Placed) (s : State) : Option SsmCheck :=
  (setDist ch caps [h.2.2]).map (fun d =>
    let p := t.arm a
    let tab := stopTable ch q t a s
    let sens := psOfD36 h.2.1.tsens
    let tr := secRat (reaction sens s)
    let k := fixed h.2.1.c 30 + fixed h.2.1.zd 30 + fixed p.zr 30
    let sp := fun (v T : Rat) => fixed h.2.1.vh 24 * (T + (stopAt tab v).2) + v * T + (stopAt tab v).1 + k
    let ds := fixed p.dscale 30
    let trq := tr + downSec q a s
    ⟨1, h.1, sens, d, sp v tr, sp 0 tr + ds, permShare p.vref.toNat (fun v => decide (sp v trq + ds ≤ d))⟩)

/-- The check of a rule of R273 with the share of V_REF that it permits. DEDUCED, log 76. DEDUCED, log 137. -/
def ruleCheck (cause : Nat) (d : Rat) (rhs : Rat) (vref : Nat) (ok : Rat → Bool) : SsmCheck :=
  ⟨cause, 0, 0, d, rhs, rhs, permShare vref ok⟩

/-- What a peer cell brings to the checks: the arms checked against it, CLR_PAIR, V_P, S_P and its capsules (R295). -/
structure BorderBody where
  arms : Nat
  clr : Rat
  vp : Rat
  sp : Rat
  caps : List Placed
  deriving DecidableEq, Repr

/-- The checks of arm `a` against the other arms, the objects and the border capsules (R273, R295). -/
def ruleChecks (ch : SsmChan) (q : Plane) (t : SafetyTab) (a : Nat) (vs : List Rat) (caps : List (List Placed))
    (borders : List BorderBody) (s : State) : List SsmCheck :=
  let p := t.arm a
  let v := nth vs a 0
  let mine := nth caps a []
  let tr := secRat (reaction 0 s)
  let trq := tr + downSec q a s
  let tab := stopTable ch q t a s
  let ds := fixed p.dscale 30
  let pairs := t.pairs.filterMap (fun e =>
    if e.1 = a ∨ e.2.1 = a then
      let b := if e.1 = a then e.2.1 else e.1
      let vb := nth vs b 0
      let tb := stopTable ch q t b s
      let rb := fixed (t.arm b).vref 24
      let ra := fixed p.vref 24
      let need := fun (x y T : Rat) => fixed e.2.2 30 + (x + y) * T + (stopAt tab x).1 + (stopAt tb y).1
      (setDist ch mine (nth caps b [])).map (fun d => ruleCheck 2 d (need v vb tr) p.vref.toNat
        (fun x => decide (need x (if ra = 0 then 0 else x / ra * rb) trq + ds ≤ d)))
    else none)
  let aux := (List.range 32).map (fun k => ((axisIn ch q t (128 + k) s).getD (0, 0)).1)
  let objs := t.objects.filterMap (fun o =>
    if bitN o.arms a then
      let c : Placed := if o.part then ⟨Config.placePart (ssmNum ch) (calOf ch q s) aux o.cap.a o.cap.b, fixed o.cap.r 30⟩
        else worldCap o.cap
      let need := fun (x T : Rat) => fixed o.clr 30 + x * T + (stopAt tab x).1
      (setDist ch mine [c]).map (fun d => ruleCheck 3 d (need v tr) p.vref.toNat (fun x => decide (need x trq + ds ≤ d)))
    else none)
  let bords := borders.filterMap (fun b =>
    if bitN b.arms a then
      let need := fun (x T : Rat) => b.clr + (x + b.vp) * T + (stopAt tab x).1 + b.sp
      (setDist ch mine b.caps).map (fun d => ruleCheck 4 d (need v tr) p.vref.toNat (fun x => decide (need x trq + ds ≤ d)))
    else none)
  pairs ++ objs ++ bords

/-! ## Border capsules (R295, R296) -/

/-- What a peer brings to the checks of an evaluation that starts at `te`, and whether it is the fallback because the envelope
is stale or lost. DEDUCED, log 76. DEDUCED, log 137. -/
def borderOf (ch : SsmChan) (q : Plane) (t : SafetyTab) (b : BorderTab) (te : Nat) (s : State) : BorderBody × Bool :=
  let body := fun (vp sp : Word) (caps : List Placed) => (⟨b.arms, fixed b.clr 30, fixed vp 24, fixed sp 30, caps⟩ : BorderBody)
  let back := fun (vp sp : Word) => body vp sp (b.caps.map worldCap)
  match (t.used ch).find? (fun e => e.1.kind == 5 && e.1.place.isNone && e.1.source == b.peer) with
  | none => (back b.vp b.sp, false)
  | some e =>
    let x := (s.ssm ch q).conn e.2
    let w := fun i => nth x.data i 0
    if x.data = [] then (back b.vp b.sp, true)
    else
      let age : Int := te - psOfHts (of72 (w 0) (w 1))
      if x.lost ∨ (b.ageUs * 1000000 : Int) < age then (back (w 2) (w 3), true)
      else
        let grow := fixed (w 2) 24 * ((age : Rat) / 1000000000000)
        (body (w 2) (w 3) ((List.range (bitsAt (w 4) 0 4)).map (fun i =>
          (⟨(List.range 6).map (fun k => w (5 + 7 * i + k)), fixed (w (11 + 7 * i)) 30 + grow⟩ : Placed))), false)

/-! ## The evaluation (R274 to R288) -/

/-- The stop that the evaluation asks for of an arm: category and cause; the most severe one (R274, R282). DEDUCED, log 75. -/
def wantedStop (p : ArmSafety) (cs : List SsmCheck) (lost : Bool) : Option (Nat × Nat × Nat) :=
  let fails := cs.filter (fun c => decide (c.d < c.rhs))
  let cat := if p.pstop = 2 then 2 else 1
  match fails.mergeSort (fun x y => decide (x.cause ≤ y.cause)) with
  | f :: _ => if lost && cat == 2 then some (1, 5, 0) else some (cat, f.cause, f.sens)
  | [] => if lost then some (1, 5, 0) else none

/-- The check with the least margin. DEDUCED, log 75. -/
def leastCheck (cs : List SsmCheck) : Option SsmCheck :=
  cs.foldl (fun m c => match m with
    | some k => if c.d - c.rhs < k.d - k.rhs then some c else some k
    | none => some c) none

/-- The margin word of an arm's checks (R274). DEDUCED, log 75. -/
def marginOf (cs : List SsmCheck) : Int :=
  match leastCheck cs with
  | some c => (ratWord 30 (c.d - c.rhs)).toInt
  | none => 2 ^ 35 - 1

/-- The scale word of an arm's checks (R275). DEDUCED, log 75. -/
def scaleOf (cs : List SsmCheck) : Word := ratWord 34 (cs.foldl (fun m c => ratMin m c.perm) 1)

/-- A channel's stop request and monitoring for an arm after an evaluation (R274, R276, R277). DEDUCED, log 137. -/
def updateArm (ch : SsmChan) (q : Plane) (t : SafetyTab) (a v : Nat) (cs : List SsmCheck) (lost : Option Nat) (s : State) : State :=
  let p := t.arm a
  let x := (s.ssm ch q).arm a
  let want := wantedStop p cs lost.isSome
  let ok := cs.all (fun c => decide (c.clear ≤ c.d) && decide (c.rhs ≤ c.d)) && lost.isNone
  let x1 : SsmArm := { x with
    okSince := if ok then some (x.okSince.getD s.now) else none
    lostAt := lost.map x.lostAt.getD }
  let x2 : SsmArm := match want, x.cat with
    | some w, none => { x1 with cat := some w.1, cause := w.2.1, t0 := s.now, v0 := v, sens := w.2.2, monitored := false, failed := false }
    | some w, some c => if w.1 < c then { x1 with cat := some w.1, cause := w.2.1 } else x1
    | none, _ => x1
  let moves := decide (p.vstill.toNat < v)
  let bad := x2.monitored && moves && x2.cat == some 2
  let s1 := setSsmArm ch q a { x2 with failed := if moves then x2.failed || bad else false } s
  let s2 := if x.cat.isNone && x2.cat.isSome then raiseM ch q 1 s1 else s1
  let s3 := if bad && !x2.failed then dropOut ch q 4 (raiseM ch q 2 s2) else s2
  let near := match leastCheck (cs.filter (fun c => c.cause == 1)) with
    | some c => c.code
    | none => 0
  let s4 := showArm ch q a near s3
  (s4.wr q (ssmSlot ch (R.SSM_ARM_MARGIN a) (R.SSM2_ARM_MARGIN a)) (wordI (marginOf cs))).wr q
    (ssmSlot ch (R.SSM_ARM_SPEED a) (R.SSM2_ARM_SPEED a)) (wordN v)

/-- The first discrepancy of two sets of results: its quantity and its index (R286). -/
def discrepancy (t : SafetyTab) (x y : SsmRes) : Option (Nat × Nat) :=
  let far := fun (i j : Int) (tol : Word) => decide ((tol.toNat : Int) < (i - j).natAbs)
  let pos := (List.range 160).find? (fun i => match nth x.pos i none, nth y.pos i none with
    | some a, some b => far a.toInt b.toInt (nth t.tolPos i 0)
    | _, _ => false)
  let spd := (List.range 16).find? (fun a => far (nth x.speed a 0) (nth y.speed a 0) (t.arm a).tolV)
  let mar := (List.range 16).find? (fun a => far (nth x.margin a 0) (nth y.margin a 0) (t.arm a).tolD)
  let req := (List.range 16).find? (fun a => nth x.stop a false != nth y.stop a false
    && decide (((t.arm a).tolD.toNat : Int) < nth x.margin a 0) && decide (((t.arm a).tolD.toNat : Int) < nth y.margin a 0))
  let zon := (List.range 32).find? (fun z => nth x.zones z false != nth y.zones z false)
  (pos.map (fun i => (1, i))).or ((spd.map (fun i => (2, i))).or ((mar.map (fun i => (3, i))).or
    ((req.map (fun i => (5, i))).or (zon.map (fun i => (6, i))))))

/-- CHANNEL_COMPARE: a channel compares its results with the other's for the same cycle; DISC_N discrepant comparisons in a row
drop its output (R286, R287). DEDUCED, log 79. -/
def compareRes (ch : SsmChan) (q : Plane) (t : SafetyTab) (s : State) : State :=
  let x := s.ssm ch q
  match x.own, x.peer with
  | some a, some b =>
    if a.cycle ≠ b.cycle then s
    else
      let d := discrepancy t a b
      let n := if d.isSome then x.disc + 1 else 0
      let s1 := s.setSsm ch q { x with disc := n, peer := none }
      let s2 := match d, ch with
        | some e, .two => s1.wr .a R.SSM2_DISC (F.SSM2_DISC_QTY.set (F.SSM2_DISC_INDEX.set (F.SSM2_DISC_CYCLE.set 0 a.cycle) e.2) e.1)
        | _, _ => s1
      let s3 := match ch with
        | .two => s2.dp R.SSM2_DISC F.SSM2_DISC_RUN (min n 15)
        | .one => s2
      if d.isSome then
        let s4 := raiseM ch q 3 s3
        if max 1 t.discN ≤ n then dropOut ch q 2 s4 else s4
      else s3
  | _, _ => s

/-- The channels' evaluation start of the present cycle (R284, R285). -/
def evalStart (s : State) : Nat := s.atOfs R.TIM_CYC_ACT_FB_DEADLINE

/-- One evaluation of a channel: envelopes, borders, checks of every arm, requests and results (R274 to R286). DEDUCED, log 137.
-/
def evaluate (ch : SsmChan) (q : Plane) (t : SafetyTab) (s0 : State) : State :=
  let s1 := each (t.used ch) (fun e s => checkConn ch q e.1 e.2 s) s0
  let te := evalStart s1
  let bs := t.borders.map (fun b => (b.peer, borderOf ch q t b te s1))
  let stale := (bs.filter (fun b => b.2.2)).map (·.1)
  let old := (s1.ssm ch q).stale
  let s2 := each (stale.filter (fun p => !old.contains p)) (fun _ s => raiseM ch q 6 s)
    (s1.setSsm ch q { s1.ssm ch q with stale := stale })
  let borders := bs.map (fun b => b.2.1)
  let speeds := (List.range 16).map (fun a => armSpeed ch q t a s2)
  let vs := speeds.map (fun v => (v : Rat) / 16777216)
  let caps := (List.range 16).map (fun a => armCaps ch q t a s2)
  let hs := humans ch q t s2
  let checks := (List.range 16).map (fun a =>
    hs.filterMap (fun h => humanCheck ch q t a (nth vs a 0) (nth caps a []) h s2) ++ ruleChecks ch q t a vs caps borders s2)
  let lost := (List.range 16).map (fun a => armLost ch q t a s2)
  let s3 := each (List.range 16) (fun a s => updateArm ch q t a (nth speeds a 0) (nth checks a []) (nth lost a none) s) s2
  let x := s3.ssm ch q
  let res : SsmRes :=
    { cycle := s3.n
      pos := (List.range 160).map (fun i => (axisIn ch q t i s2).map (·.1))
      speed := speeds
      margin := checks.map marginOf
      stop := (List.range 16).map (fun a => ((x.arm a).cat).isSome)
      zones := (List.range 32).map (fun z => zoneOccupied ch q t z s2) }
  s3.setSsm ch q { x with own := some res, scale := checks.map scaleOf }

/-- Results of the other channel were due and have not come: at the third time in a row the channel drops its output (R288).
DEDUCED, log 78. -/
def peerCheck (ch : SsmChan) (q : Plane) (due : Bool) (s : State) : State :=
  let x := s.ssm ch q
  if !due then s
  else
    let got := match x.own, x.peer with
      | some a, some b => decide (a.cycle = b.cycle)
      | _, _ => false
    if got || x.own.isNone then s.setSsm ch q { x with missing := 0 }
    else
      let s1 := s.setSsm ch q { x with missing := x.missing + 1 }
      if x.missing + 1 = 3 then dropOut ch q 3 (raiseM ch q 7 s1) else s1

/-- SSM_CH1_EVAL: the Chanter's evaluation from FB_DEADLINE, after the comparison of its last results (R284, R286, R288). -/
def ssmEvalOne (q : Plane) (s : State) : State :=
  match s.tab.safety with
  | none => s
  | some t =>
    if s.get q R.SSM_STATUS F.SSM_STATUS_STATE ≠ 1 then s
    else
      let due := match (s.ssm .one q).own with
        | some r => decide (r.cycle % 2 ^ t2Log s = 0)
        | none => false
      evaluate .one q t (compareRes .one q t (peerCheck .one q due s))

/-- The stop requests of both channels for every arm reach the CLE; the lower category governs (R224, R284, R285). DEDUCED, log
78. -/
def ssmStops (q : Plane) (s : State) : State :=
  each (List.range 16) (fun a s =>
    let x := s.ssm .one q
    match nth x.sent1 a none, nth x.sent2 a none with
    | none, none => if (s.stopOf q a).reqs.any (fun r => r.1 == srcSsm) then withdrawStop q a srcSsm s else s
    | some c, none => requestStop q a c srcSsm s
    | none, some c => requestStop q a c srcSsm s
    | some c, some d => requestStop q a (min c d) srcSsm s) s

/-- Channel 1 at the commit: scales to the planner, stop requests to the CLE, results to the Warden (R284). -/
def ssmCommit (q : Plane) (s : State) : State :=
  if s.get q R.SSM_STATUS F.SSM_STATUS_STATE ≠ 1 then s
  else
    let x := s.ssm .one q
    let s1 := each (List.range 16) (fun a s =>
      let w := nth x.scale a 0
      let old := s.rd q (R.PLN_ARM_SSM a)
      let s1 := (s.wr q (R.SSM_ARM_SCALE a) w).wr q (R.PLN_ARM_SSM a) w
      if decide (w.toNat < 2 ^ 34) && !decide (old.toNat < 2 ^ 34) then raiseM .one q 0 s1 else s1) s
    let s2 := s1.setSsm .one q { s1.ssm .one q with sent1 := x.arms.map (·.cat) }
    let s3 := match x.own with
      | some r => if r.cycle = s.n ∧ r.cycle % 2 ^ t2Log s = 0 then { s2 with ssm2 := { s2.ssm2 with peer := some r, got := true } } else s2
      | none => s2
    let s4 := match s.tab.safety with
      | some t => compareRes .two q t s3
      | none => s3
    ssmStops q s4

/-- Channel 2 at its evaluation: the results of channel 1 for its last cycle have been compared, or are missing (R288). DEDUCED,
log 78. -/
def missCheck (q : Plane) (s : State) : State :=
  if s.ssm2.own.isNone then s
  else if s.ssm2.got then { s with ssm2 := { s.ssm2 with missing := 0, got := false } }
  else
    let s1 := { s with ssm2 := { s.ssm2 with missing := s.ssm2.missing + 1 } }
    if s.ssm2.missing + 1 = 3 then dropOut .two q 3 (raiseM .two q 7 s1) else s1

/-- SSM_CH2_EVAL_DONE: in a cycle of its period channel 2 evaluates, compares, and sends its requests and results to the Chanter (R285,
R286, R288). -/
def execSsmCh2EvalDone (s : State) : Host.Outcome State Fault Refusal :=
  settled (match s.tab.safety with
    | none => s
    | some t =>
      let k := t2Log s
      let s0 := s.dp R.SSM2_STATUS F.SSM2_STATUS_T2_LOG2 k
      if s0.dg R.SSM2_STATUS F.SSM2_STATUS_STATE ≠ 1 ∨ s0.n % 2 ^ k ≠ 0 then s0
      else
        let q := ssmPlane s0
        let s2 := evaluate .two q t (missCheck q s0)
        let s3 := compareRes .two q t s2
        s3.onChanter (fun q s =>
          let x := s.ssm .one q
          ssmStops q (s.setSsm .one q { x with peer := s.ssm2.own, sent2 := s.ssm2.arms.map (·.cat) })))

/-! ## Deadlines and commands (R276, R277, R280, R282, R291 to R293) -/

/-- CONNECTION_WATCHDOG: WD_TIME without an accepted envelope (R280). -/
def execConnectionWatchdog (ch : SsmChan) (c : Fin 128) (s : State) : Host.Outcome State Fault Refusal :=
  settled (match s.tab.safety with
    | none => s
    | some t =>
      let q := ssmPlane s
      let x := (s.ssm ch q).conn c
      match t.conns[c.val]? with
      | some k => if k.chan = ssmNum ch ∧ !x.lost then loseConn ch q c (s.toTime (x.at' + k.wdUs * 1000000)) else s
      | none => s)

/-- STOP_MONITOR_DEADLINE: an arm not still by its deadline drops the channel's output (R276). -/
def execStopMonitorDeadline (ch : SsmChan) (a : Fin 16) (s : State) : Host.Outcome State Fault Refusal :=
  settled (match s.tab.safety with
    | none => s
    | some t =>
      let q := ssmPlane s
      let x := (s.ssm ch q).arm a
      if x.cat.isNone ∨ x.monitored then s
      else
        let ts := (stopAt (stopTable ch q t a s) ((x.v0 : Rat) / 16777216)).2
        let s1 := s.toTime (x.t0 + reaction x.sens s + psOfRat ts + (t.arm a).tmonMs * 1000000000)
        let v := match (s1.ssm ch q).own with
          | some r => nth r.speed a 0
          | none => 0
        let bad := decide ((t.arm a).vstill.toNat < v)
        let s2 := showArm ch q a (nearShown ch q a s1) (setSsmArm ch q a { x with monitored := true, failed := bad } s1)
        if bad then dropOut ch q 4 (raiseM ch q 2 s2) else s2)

/-- STOP_RELEASE: every check has held for RELEASE_T, and the request clears (R277). -/
def execStopRelease (ch : SsmChan) (a : Fin 16) (s : State) : Host.Outcome State Fault Refusal :=
  settled (match s.tab.safety with
    | none => s
    | some t =>
      let q := ssmPlane s
      let x := (s.ssm ch q).arm a
      match x.cat, x.okSince with
      | some _, some since =>
        if x.cause = 6 ∧ !((s.ssm .one q).permit && s.ssm2.permit) then s
        else
          let s1 := s.toTime (since + (t.arm a).releaseMs * 1000000000)
          let s2 := setSsmArm ch q a { x with cat := none, cause := 0, monitored := false, failed := false } s1
          showArm ch q a (nearShown ch q a s2) s2
      | _, _ => s)

/-- DRIVE_LOSS_DROP: a drive loss that stands at T_r + T_s(V_REF) after it began (R282). -/
def execDriveLossDrop (ch : SsmChan) (a : Fin 16) (s : State) : Host.Outcome State Fault Refusal :=
  settled (match s.tab.safety with
    | none => s
    | some t =>
      let q := ssmPlane s
      match ((s.ssm ch q).arm a).lostAt with
      | none => s
      | some t0 =>
        let ts := (stopAt (stopTable ch q t a s) (fixed (t.arm a).vref 24)).2
        dropOut ch q 5 (s.toTime (t0 + reaction 0 s + psOfRat ts)))

/-- A readback mismatch of either output: OUT_FAULT, and both outputs drop (R291, R292). One of an output that is DROPPED
stands. DEDUCED, log 79. -/
def outFault (stands : Bool) (s : State) : State :=
  let q := ssmPlane s
  let s1 := if stands then s.setSsm .one q { s.ssm .one q with fault := true } else s
  dropBoth 6 (raiseM2 9 (if stands then { s1 with ssm2 := { s1.ssm2 with fault := true } } else s1))

/-- SSB_TEST_PULSE: SAFE_STOP_B as read back in the pulse and after it (R291). -/
def execSsbTestPulse (low high : Bool) (s : State) : Host.Outcome State Fault Refusal :=
  settled (if s.ssm2.permit && (low || !high) then outFault false s else s)

/-- A cause of R292 stands in a channel. DEDUCED, log 77. -/
def causeStands (ch : SsmChan) (q : Plane) (t : SafetyTab) (s : State) : Bool :=
  let x := s.ssm ch q
  let run := match ch with
    | .one => s.get q R.SSM_STATUS F.SSM_STATUS_STATE == 1
    | .two => s.dg R.SSM2_STATUS F.SSM2_STATUS_STATE == 1
  !run || decide (max 1 t.discN ≤ x.disc) || decide (3 ≤ x.missing) || x.arms.any (fun a => a.failed || a.lostAt.isSome) || x.fault

/-- SAFETY_RESET: the falling edges of a pulse on either DI of the reset pair, with widths and times in µs (R293). DEDUCED, log
79. -/
def execSafetyReset (width1 width2 end1 end2 : Nat) (s : State) : Host.Outcome State Fault Refusal :=
  let ok := fun (w : Nat) => decide (100000 ≤ w) && decide (w ≤ 2000000)
  settled (match s.tab.safety, s.chanter with
    | some t, some q =>
      if ok width1 && ok width2 && decide (end1 ≤ end2 + 500000) && decide (end2 ≤ end1 + 500000) && s.isReady
          && decide (s.dg R.FIO_STATUS F.FIO_STATUS_SUPPLY < 2) && !s.boot.extest && !causeStands .one q t s
          && !causeStands .two q t s && !((s.ssm .one q).permit && s.ssm2.permit) then
        let s1 := s.setSsm .one q { s.ssm .one q with permit := true }
        let s2 := { s1 with ssm2 := { s1.ssm2 with permit := true } }
        let s3 := (s2.put q R.SSM_STATUS F.SSM_STATUS_SSA_PERMIT 1).put q R.SSM_STATUS F.SSM_STATUS_DROP_CAUSE 0
        let s4 := (s3.dp R.SSM2_STATUS F.SSM2_STATUS_SSB 1).dp R.SSM2_STATUS F.SSM2_STATUS_DROP_CAUSE 0
        let s5 := { s4 with fio := { s4.fio with ssa := true, unasked := 0 } }
        raiseM2 8 ((s5.dp R.SSM2_STATUS F.SSM2_STATUS_SSA 1).dp R.FIO_STATUS F.FIO_STATUS_SSA 1)
      else s
    | _, _ => s)

/-- A write of SSM2_CMD (R292, R300). -/
def ssm2Cmd (code : Nat) (s : State) : State :=
  match code with
  | 0 => s
  | 1 => dropBoth 7 s
  | _ => raiseM2 10 s

/-- DROP (R292). -/
def execDrop (s : State) : Host.Outcome State Fault Refusal := settled (ssm2Cmd 1 s)

/-- SSM2_CMD_RESERVED: codes 0x2 to 0xF are ignored (R300). -/
def execSsm2CmdReserved (code : BitVec 4) (s : State) : Host.Outcome State Fault Refusal :=
  settled (if code.toNat < 2 then s else raiseM2 10 s)

/-- A channel loads the safety parameters and checks their CRC (R297). -/
def ssmLoad (ch : SsmChan) (q : Plane) (ok : Bool) (s : State) : State :=
  let crc := match s.tab.safety with
    | some t => t.crc
    | none => 0
  let st := if ok && s.tab.safety.isSome then 1 else 2
  let cause := fun (k : Nat) (f : Fld) (s : State) => if st = 2 ∧ !(s.ssm ch q).permit then s.put q k f 8 else s
  match ch with
  | .one => cause R.SSM_STATUS F.SSM_STATUS_DROP_CAUSE
      ((s.wr q R.SSM_PAR_CRC (wordN (crc % 2 ^ 32))).put q R.SSM_STATUS F.SSM_STATUS_STATE st)
  | .two => cause R.SSM2_STATUS F.SSM2_STATUS_DROP_CAUSE
      ((s.wr q R.SSM2_PAR_CRC (wordN (crc % 2 ^ 32))).dp R.SSM2_STATUS F.SSM2_STATUS_STATE st)

end Sys2Proof.Machine
end

