-- ==== Sys2Proof/Machine/Fio.lean ====
section
/-! DEFINITION. FIELD: inputs and their Picots, outputs and their faults, the field supply, SAFE_STOP_A and the failsafe (R428 to
R445). -/

namespace Sys2Proof.Machine

/-! ## Flags -/

/-- The flags of FIO. -/
def bFIO : Bank := ⟨R.FIO_FLAGS, R.FIO_FLAG_CNT0, some R.FIO_EVMASK, 0⟩

/-- Raise flag `j` of FIO_FLAGS (R445). -/
def raiseFio (j : Nat) (s : State) : State :=
  s.raise .a bFIO (if j ≤ 2 then 180 else if j ≤ 4 then 181 else if j ≤ 6 then 182 else 183) j

/-- Refuse a command of FIO with a reason. -/
def fioRefuse (code : Nat) (s : State) : State := raiseFio 8 (s.dp R.FIO_STATUS F.FIO_STATUS_REFUSE code)

/-- The flags of input `k`; the bits of FIO_DI_CFG.EV enable them (R434). -/
def bDI (k : Nat) : Bank := ⟨R.FIO_DI_FLAGS k, R.FIO_DI_FLAG_CNT k, some (R.FIO_DI_CFG k), 32⟩

/-- The flags of output `k`. -/
def bDO (k : Nat) : Bank := ⟨R.FIO_DO_FLAGS k, R.FIO_DO_FLAG_CNT0 k, some (R.FIO_DO_EVMASK k), 0⟩

/-- Raise flag `j` of output `k` (R445). -/
def raiseDo (k j : Nat) (s : State) : State := s.raise .a (bDO k) (176 + k / 4) j

/-- The supply state: 0 NORMAL, 1 WARN, 2 CUT, 3 CUT_HELD. -/
def supply (s : State) : Nat := s.dg R.FIO_STATUS F.FIO_STATUS_SUPPLY

/-- The supply state is CUT or CUT_HELD. -/
def cutOff (s : State) : Bool := decide (2 ≤ supply s)

/-- FIELD has missed 64 beacons in a row and has not been back to normal since (R444). -/
def fieldLost (s : State) : Bool := decide (64 ≤ nth s.cyc.miss 36 0)

/-! ## Inputs (R429 to R434) -/

/-- The state with what FIELD keeps of input `k` replaced. -/
def setDi (k : Nat) (x : DiSt) (s : State) : State := { s with fio := { s.fio with dis := s.fio.dis.set k x } }

/-- What FIELD keeps of input `k`. -/
def State.di (s : State) (k : Nat) : DiSt := nth s.fio.dis k ⟨0, 0⟩

/-- DEB in µs. -/
def debUs (k : Nat) (s : State) : Nat := s.dg (R.FIO_DI_CFG k) F.FIO_DI_CFG_DEB

/-- The time for which a raw level must be stable to settle, in ps (R431). -/
def settlePs (k : Nat) (s : State) : Nat := max (debUs k s) 10 * 1000000

/-- Input `k` reports UNKNOWN from now on (R431). -/
def diUnknown (k : Nat) (s : State) : State :=
  let s1 := (s.dp (R.FIO_DI_STATUS k) F.FIO_DI_STATUS_UNKNOWN 1).dp (R.FIO_DI_STATUS k) F.FIO_DI_STATUS_LEVEL 0
  setDi k { s.di k with settle := s.now + settlePs k s } s1

/-- DI_RAW_EDGE: the comparator of input `k` changes to `level`, stamped `t` in steps of 10 ns (R430). -/
def execDiRawEdge (k : Fin 32) (level : Bool) (t : Nat) (s : State) : Host.Outcome State Fault Refusal :=
  let raw := level != (s.dg (R.FIO_DI_CFG k) F.FIO_DI_CFG_INV == 1)
  let ps := t * 10000
  let s0 := s.toTime ps
  settled (if b2n raw = s.dg (R.FIO_DI_STATUS k) F.FIO_DI_STATUS_RAW then s0
    else setDi k ⟨ps, ps + settlePs k s⟩ (s0.dp (R.FIO_DI_STATUS k) F.FIO_DI_STATUS_RAW (b2n raw)))

/-- SUPPLY_Q (R433). -/
def supplyQ (s : State) : Nat := b2n (decide (supply s ≠ 0))

/-- A Picot of an input enters the FIFO, and is a probe's edge (R184, R434). -/
def diPicot (k : Nat) (level : Nat) (t : Nat) (s : State) : State :=
  let sel := s.dg (R.FIO_DI_CFG k) F.FIO_DI_CFG_PICOT
  if fieldLost s || !bitN sel (1 - level) then s
  else if 64 ≤ s.fio.fifo.length then raiseFio 7 s
  else probeEdge fieldLink 0 k (decide (level = 0)) t { s with fio := { s.fio with
    fifo := s.fio.fifo ++ [picotOf 2 k (1 - level) false false 0 t (wordN (supplyQ s * 2 ^ 35 + debUs k s))] } }

/-- DEBOUNCE_EXPIRY: the raw level has been stable for DEB (R430, R434). -/
def execDebounceExpiry (k : Fin 32) (s : State) : Host.Outcome State Fault Refusal :=
  let raw := s.dg (R.FIO_DI_STATUS k) F.FIO_DI_STATUS_RAW
  settled (if s.dg (R.FIO_DI_STATUS k) F.FIO_DI_STATUS_UNKNOWN = 1 ∨ raw = s.dg (R.FIO_DI_STATUS k) F.FIO_DI_STATUS_LEVEL then s
    else
      let e := (s.di k).edge
      let s1 := (s.toTime (e + debUs k s * 1000000)).dp (R.FIO_DI_STATUS k) F.FIO_DI_STATUS_LEVEL raw
      diPicot k raw e (s1.raise .a (bDI k) (144 + k) (1 - raw)))

/-- DI_SETTLE: an UNKNOWN input takes its stable level, with no Picot and no event (R431). DEDUCED, log 102. -/
def execDiSettle (k : Fin 32) (s : State) : Host.Outcome State Fault Refusal :=
  settled (if s.dg (R.FIO_DI_STATUS k) F.FIO_DI_STATUS_UNKNOWN = 0 ∨ cutOff s then s
    else
      let s1 := (s.toTime (s.di k).settle).dp (R.FIO_DI_STATUS k) F.FIO_DI_STATUS_UNKNOWN 0
      s1.dp (R.FIO_DI_STATUS k) F.FIO_DI_STATUS_LEVEL (s.dg (R.FIO_DI_STATUS k) F.FIO_DI_STATUS_RAW))

/-- Both stores, over FIELD's links to the planes, but that of a retired plane (R433). -/
def State.sputLive (s : State) (a : Nat) (ws : List Word) : State :=
  each [Plane.a, Plane.b] (fun q s =>
    if planeState q s = 5 ∨ s.linkUp (fieldLink q) = false ∨ s.linkUp (storeLink q) = false ∨ (s.ward q).inReset = true then s
    else s.sputs q a ws) s

/-- DI_PICOT_DRAIN: the oldest Picot goes to the ring in both stores (R434). -/
def execDiPicotDrain (s : State) : Host.Outcome State Fault Refusal :=
  let lg := s.dg R.FIO_PICOT_CFG F.FIO_PICOT_CFG_SIZE_LOG2
  settled (match s.fio.fifo with
    | [] => s
    | w :: rest =>
      if lg < 6 ∨ 16 < lg ∨ fieldLost s = true then s
      else
        let wr := s.dg R.FIO_PICOT_WR F.FIO_PICOT_WR_COUNT
        let s1 := { s with fio := { s.fio with fifo := rest } }
        (s1.sputVia fieldLink (s.fio.picBase / 2 ^ (2 + lg) * 2 ^ (2 + lg) + 4 * (wr % 2 ^ lg)) w).dp R.FIO_PICOT_WR
          F.FIO_PICOT_WR_COUNT ((wr + 1) % 2 ^ 32))

/-- Bits, one for each index below `n`. -/
def maskWhere (n : Nat) (p : Nat → Bool) : Nat := maskOf ((List.range n).filter p)

/-- DI_IMAGE_WRITE: the DI image at CT0(n) + SYNC_OFS, and the bases from then on (R433, R445). -/
def diImage (s0 : State) : State :=
  let s := { s0 with fio := { s0.fio with
    imgBase := (s0.rd .a R.FIO_IMG_BASE).toNat / 4 * 4
    picBase := (s0.rd .a R.FIO_PICOT_BASE).toNat } }
  if fieldLost s then s
  else
    let lv := maskWhere 32 (fun k => s.dg (R.FIO_DI_STATUS k) F.FIO_DI_STATUS_LEVEL == 1)
    let un := maskWhere 32 (fun k => s.dg (R.FIO_DI_STATUS k) F.FIO_DI_STATUS_UNKNOWN == 1)
    let fl := maskWhere 16 (fun k => s.dg (R.FIO_DO_STATUS k) F.FIO_DO_STATUS_FAULT != 0)
    let rb := maskWhere 16 (fun k => s.dg (R.FIO_DO_STATUS k) F.FIO_DO_STATUS_READBACK == 1)
    s.sputLive s.fio.imgBase [wordN (supplyQ s * 2 ^ 35 + lv), wordN un,
      wordN (s.dg R.FIO_STATUS F.FIO_STATUS_SSA * 2 ^ 35 + fl * 2 ^ 16 + rb),
      wordN (s.n % 2 ^ 16 * 2 ^ 20 + supply s * 2 ^ 17 + s.dg R.FIO_STATUS F.FIO_STATUS_VFIELD)]

/-- The inputs of group `g`. -/
def groupDis (g : Nat) : List Nat := (List.range 8).map (fun i => 8 * g + i)

/-- Input `k` is named by the safety parameters (R432). -/
def safetyDi (k : Nat) (s : State) : Bool := s.dg (R.FIO_DI_STATUS k) F.FIO_DI_STATUS_SAFETY == 1

/-- A host write of FIO_GRP_CFG (R429, R431, R432). DEDUCED, log 101. -/
def writeGrp (g : Nat) (v : Word) (s : State) : State :=
  let t := F.FIO_GRP_CFG_TYPE.get v
  if t = s.dg (R.FIO_GRP_CFG g) F.FIO_GRP_CFG_TYPE then s
  else if (groupDis g).any (fun k => safetyDi k s) then fioRefuse 1 s
  else each (groupDis g) diUnknown (s.dp (R.FIO_GRP_CFG g) F.FIO_GRP_CFG_TYPE t)

/-- A host write of FIO_DI_CFG: PICOT and EV at once; a changed DEB or INV makes the input UNKNOWN, and is refused for an input
of the safety parameters (R431, R432). DEDUCED, log 101. -/
def writeDi (k : Nat) (v : Word) (s : State) : State :=
  let r := R.FIO_DI_CFG k
  let s1 := (s.dp r F.FIO_DI_CFG_PICOT (F.FIO_DI_CFG_PICOT.get v)).dp r F.FIO_DI_CFG_EV (F.FIO_DI_CFG_EV.get v)
  let deb := F.FIO_DI_CFG_DEB.get v
  let inv := F.FIO_DI_CFG_INV.get v
  if deb = s.dg r F.FIO_DI_CFG_DEB ∧ inv = s.dg r F.FIO_DI_CFG_INV then s1
  else if safetyDi k s then fioRefuse 1 s1
  else
    let raw := s.dg (R.FIO_DI_STATUS k) F.FIO_DI_STATUS_RAW
    let s2 := if inv = s.dg r F.FIO_DI_CFG_INV then s1 else s1.dp (R.FIO_DI_STATUS k) F.FIO_DI_STATUS_RAW (1 - raw)
    diUnknown k ((s2.dp r F.FIO_DI_CFG_DEB deb).dp r F.FIO_DI_CFG_INV inv)

/-- FIELD_CONFIG_WRITE (R432). -/
def execFieldConfigWrite (r : FieldReg) (v : Word) (s : State) : Host.Outcome State Fault Refusal :=
  settled (match r with
    | .grp g => writeGrp g v s
    | .di k => writeDi k v s)

/-- The safety parameters set DEB, INV and TYPE, and mark their inputs (R432). -/
def fieldSafety (t : SafetyTab) (s : State) : State :=
  let s1 := each t.types (fun e s => s.dp (R.FIO_GRP_CFG e.1) F.FIO_GRP_CFG_TYPE (b2n e.2)) s
  each t.inputs (fun e s =>
    let r := R.FIO_DI_CFG e.1
    let s2 := (s.dp r F.FIO_DI_CFG_DEB e.2.1).dp r F.FIO_DI_CFG_INV (b2n e.2.2)
    diUnknown e.1 (s2.dp (R.FIO_DI_STATUS e.1) F.FIO_DI_STATUS_SAFETY 1)) s1

/-! ## Outputs (R435 to R439) -/

/-- What FIELD keeps of output `k`. -/
def State.dout (s : State) (k : Nat) : DoSt := nth s.fio.dos k ⟨false, none, false, false, false, false, false, false, 0⟩

/-- The code of FIO_DO_STATUS.FAULT: the first cause that applies (R436). -/
def doFault (k : Nat) (s : State) : Nat :=
  let x := s.dout k
  if cutOff s then 5 else if x.safeOff then 6 else if x.latched then 2 else if x.failed then 4 else if x.retry then 1
  else if x.ext then 3 else 0

/-- Whether output `k` is driven on (R436). -/
def doDriven (k : Nat) (s : State) : Bool :=
  let x := s.dout k
  (x.hold.getD (s.dg (R.FIO_DO_STATUS k) F.FIO_DO_STATUS_CMD == 1)) && !cutOff s && !x.safeOff && !x.latched && !x.failed
    && !x.retry && !x.waits

/-- Whether output `k` is driven on, as its status shows. -/
def doOn (k : Nat) (s : State) : Bool := s.dg (R.FIO_DO_STATUS k) F.FIO_DO_STATUS_OUT == 1

/-- OUT, READBACK and FAULT of output `k` follow its causes; the time of a change of the driven state is kept. DEDUCED, log 102.
PRESUMED, log 123. -/
def showDo (k : Nat) (s0 : State) : State :=
  let r := R.FIO_DO_STATUS k
  let s := if doDriven k s0 = doOn k s0 then s0
    else { s0 with fio := { s0.fio with dos := s0.fio.dos.set k { s0.dout k with since := s0.now } } }
  let s1 := (s.dp r F.FIO_DO_STATUS_OUT (b2n (doDriven k s))).dp r F.FIO_DO_STATUS_FAULT (doFault k s)
  s1.dp r F.FIO_DO_STATUS_READBACK (b2n (doDriven k s || (s.dout k).ext))

/-- Replace what FIELD keeps of output `k`, and show it. -/
def setDo (k : Nat) (x : DoSt) (s : State) : State := showDo k { s with fio := { s.fio with dos := s.fio.dos.set k x } }

/-- The state `us` µs after the last change of the driven state of output `k`, at the earliest. -/
def doAfter (k us : Nat) (s : State) : State := s.toTime ((s.dout k).since + us * 1000000)

/-- RETRIES of output `k`. -/
def doRetries (k : Nat) (s : State) : Nat := s.dg (R.FIO_DO_STATUS k) F.FIO_DO_STATUS_RETRIES

/-- DO_COMMIT_CONTENT: FIELD takes the content of a commit whose epoch is current, over a plane–field link that has not failed (R30,
R366, R435). -/
def takeDouts (s : State) : State :=
  match s.red.content with
  | some p =>
    if s.linkUp (fieldLink p.plane) = false then s
    else if s.chanter = some p.plane ∧ p.epoch = s.dg R.RED_EPOCH F.RED_EPOCH_EPOCH then
      let f := { s.fio with levels := some p.douts, marked := true, unmarked := 0
                            unasked := if p.ssa then 0 else s.fio.unasked }
      ({ s with fio := f }).dp R.FIO_STATUS F.FIO_STATUS_SSA_REQ (b2n p.ssa)
    else s.count .a (R.RED_REJECT Stage.field.num) F.RED_REJECT_COUNT 1
  | none => s

/-- DO_COMMIT_CONTENT. -/
def execDoCommitContent (s : State) : Host.Outcome State Fault Refusal := settled (takeDouts s)

/-- An output takes its commanded level at CT0 + APPLY_OFS: a command to 0 cancels a pending retry; a retry that CUT has
cancelled counts as its switch-on (R435, R437, R439, R441). DEDUCED, log 103. -/
def applyDo (lv : Option Nat) (k : Nat) (s : State) : State :=
  let r := R.FIO_DO_STATUS k
  let s1 := match lv with
    | some l => s.dp r F.FIO_DO_STATUS_CMD (b2n (bitN l k))
    | none => s
  let x := s1.dout k
  let cmd := s1.dg r F.FIO_DO_STATUS_CMD == 1
  let fires := x.again && x.waits && cmd && !cutOff s
  let s2 := if fires then s1.dp r F.FIO_DO_STATUS_RETRIES (min 3 (doRetries k s1 + 1)) else s1
  setDo k { x with
    retry := x.retry && cmd
    again := x.again && cutOff s
    waits := x.waits && cutOff s } s2

/-- FIELD's part of CT0 + APPLY_OFS (R435). -/
def fieldApply (s : State) : State :=
  each (List.range 16) (applyDo s.fio.levels) { s with fio := { s.fio with levels := none } }

/-- OVERCURRENT: an output that has limited for 200 µs is switched off, to be retried or latched (R437). -/
def execOvercurrent (k : Fin 16) (s : State) : Host.Outcome State Fault Refusal :=
  settled (if doOn k s then
      let s1 := raiseDo k 0 (doAfter k 200 s)
      if 3 ≤ doRetries k s then raiseDo k 1 (setDo k { s1.dout k with latched := true } s1)
      else setDo k { s1.dout k with retry := true } s1
    else s)

/-- OC_RETRY: the output is switched on again 10 ms after it went off (R437). DEDUCED, log 103. -/
def execOcRetry (k : Fin 16) (s : State) : Host.Outcome State Fault Refusal :=
  settled (if (s.dout k).retry then
      setDo k { s.dout k with retry := false }
        ((doAfter k 10000 s).dp (R.FIO_DO_STATUS k) F.FIO_DO_STATUS_RETRIES (min 3 (doRetries k s + 1)))
    else s)

/-- RETRY_COUNT_RESET: the output has been on for 1 s (R437). -/
def execRetryCountReset (k : Fin 16) (s : State) : Host.Outcome State Fault Refusal :=
  settled (if doOn k s then (doAfter k 1000000 s).dp (R.FIO_DO_STATUS k) F.FIO_DO_STATUS_RETRIES 0 else s)

/-- EXT_DRIVEN: the readback has been high for 100 µs after the blanking of 50 µs (R436, R438). -/
def execExtDriven (k : Fin 16) (s : State) : Host.Outcome State Fault Refusal :=
  settled (if doOn k s || (s.dout k).ext then s else raiseDo k 2 (setDo k { s.dout k with ext := true } (doAfter k 150 s)))

/-- EXT_DRIVEN_END (R438). -/
def execExtDrivenEnd (k : Fin 16) (s : State) : Host.Outcome State Fault Refusal :=
  settled (setDo k { s.dout k with ext := false } s)

/-- DRIVE_FAIL: the readback has been low for 100 µs after the blanking of 50 µs (R436, R439). -/
def execDriveFail (k : Fin 16) (s : State) : Host.Outcome State Fault Refusal :=
  settled (if doOn k s then raiseDo k 3 (setDo k { s.dout k with failed := true } (doAfter k 150 s)) else s)

/-- FIO_DO_CMD CLEAR of output `k` (R437, R439). DEDUCED, log 104. -/
def doClear (k : Nat) (s : State) : State :=
  let x := s.dout k
  if x.latched || x.failed then
    setDo k { x with latched := false, failed := false, waits := true } (s.dp (R.FIO_DO_STATUS k) F.FIO_DO_STATUS_RETRIES 0)
  else raiseDo k 4 (s.dp R.FIO_STATUS F.FIO_STATUS_REFUSE 5)

/-- A write of FIO_DO_CMD (R445). -/
def doCmd (k code : Nat) (s : State) : State :=
  match code with
  | 0 => s
  | 1 => doClear k s
  | _ => raiseDo k 4 (s.dp R.FIO_STATUS F.FIO_STATUS_REFUSE 4)

/-- DO_CLEAR. -/
def execDoClear (k : Fin 16) (s : State) : Host.Outcome State Fault Refusal := settled (doCmd k 1 s)

/-- DO_CMD_RESERVED: codes 0x2 to 0xF (R445). DEDUCED, log 104. -/
def execDoCmdReserved (k : Fin 16) (code : BitVec 4) (s : State) : Host.Outcome State Fault Refusal :=
  settled (if 2 ≤ code.toNat then doCmd k code.toNat s else s)

/-! ## SAFE_STOP_A (R290, R442) -/

/-- SSA_MISMATCH: both channels drop with OUT_FAULT; a mismatch of an output that is DROPPED stands. DEDUCED, log 79. -/
def ssaMismatch (s : State) : State := outFault (!s.fio.ssa) (raiseFio 6 s)

/-- SSA_MISMATCH (R442). -/
def execSsaMismatch (s : State) : Host.Outcome State Fault Refusal := settled (ssaMismatch s)

/-- SSA_TEST_PULSE: the level read back in the low pulse that PERMIT carries every 100 ms (R442). -/
def execSsaTestPulse (low : Bool) (s : State) : Host.Outcome State Fault Refusal :=
  settled (if s.fio.ssa && low then ssaMismatch s else s)

/-- SSA_DROP: no PERMIT request for 4 cycles (R290, R442). -/
def execSsaDrop (s : State) : Host.Outcome State Fault Refusal :=
  settled (if s.fio.ssa && decide (4 ≤ s.fio.unasked) then dropOut .one (ssmPlane s) 9 (raiseFio 5 (ssaOff s)) else s)

/-! ## Field supply (R440, R441) -/

/-- A supply state. -/
def setSupply (n : Nat) (s : State) : State := s.dp R.FIO_STATUS F.FIO_STATUS_SUPPLY n

/-- WARN is entered: its 10 ms to NORMAL count from here. DEDUCED, log 103. -/
def enterWarn (s : State) : State :=
  let s1 := setSupply 1 s
  { s1 with fio := { s1.fio with good := s1.fio.good.map (fun _ => s1.now) } }

/-- SAG_CUT: every output and SAFE_STOP_A go off, and the inputs report UNKNOWN (R437, R440, R442). -/
def enterCut (s : State) : State :=
  let s1 := raiseFio 1 (setSupply 2 s)
  let s2 := each (List.range 16) (fun k s =>
    let x := s.dout k
    setDo k { x with retry := false, again := x.again || x.retry } s) s1
  let s3 := each (List.range 32) diUnknown s2
  if s3.fio.ssa then ssaMismatch s3 else s3

/-- The end of CUT or CUT_HELD: outputs return at the next CT0 + APPLY_OFS, inputs settle from now (R441). DEDUCED, log 102. -/
def leaveCut (s : State) : State :=
  let s1 := raiseFio 2 (enterWarn s)
  let s2 := each (List.range 16) (fun k s => setDo k { s.dout k with waits := true } s) s1
  each (List.range 32) diUnknown s2

/-- SUPPLY_MEASUREMENT: a mean value of VFIELD, LSB 2^-10 V (R440). -/
def execSupplyMeasurement (v : BitVec 16) (s : State) : Host.Outcome State Fault Refusal :=
  let since := fun (p : Bool) (o : Option Nat) => if p then some (o.getD s.now) else none
  let x := v.toNat
  let f := { s.fio with low := since (decide (x < 16384)) s.fio.low, back := since (decide (18432 ≤ x)) s.fio.back
                        good := since (decide (19661 ≤ x)) s.fio.good }
  let s1 := ({ s with fio := f }).dp R.FIO_STATUS F.FIO_STATUS_VFIELD x
  let s2 := if supply s1 = 0 ∧ x < 19456 then raiseFio 0 (enterWarn s1) else s1
  settled (if supply s2 ≠ 2 ∧ x < 12288 then enterCut s2 else s2)

/-- SAG_CUT: values below 16.0 V for 1 ms (R440). -/
def execSagCut (s : State) : Host.Outcome State Fault Refusal :=
  settled (match s.fio.low with
    | some t => if supply s = 1 ∨ supply s = 3 then enterCut (s.toTime (t + 1000000000)) else s
    | none => s)

/-- SUPPLY_NORMAL: values at or above 19.2 V for 10 ms (R440). -/
def execSupplyNormal (s : State) : Host.Outcome State Fault Refusal :=
  settled (match s.fio.good with
    | some t => if supply s = 1 then setSupply 0 (s.toTime (t + 10000000000)) else s
    | none => s)

/-- SAG_RESTORED: values at or above 18.0 V for 10 ms (R440). -/
def execSagRestored (s : State) : Host.Outcome State Fault Refusal :=
  settled (match s.fio.back with
    | some t =>
      if supply s = 2 then
        let s1 := s.toTime (t + 10000000000)
        if s.dg R.FIO_CFG F.FIO_CFG_SAG_RESTORE = 1 then leaveCut s1 else setSupply 3 s1
      else s
    | none => s)

/-! ## The failsafe (R443, R444) -/

/-- Each output goes to its FAILSAFE level. DEDUCED, log 102. -/
def failsafe (s : State) : State :=
  each (List.range 16) (fun k s =>
    let x := s.dout k
    setDo k (if s.dg (R.FIO_DO_CFG k) F.FIO_DO_CFG_FAILSAFE = 1 then { x with hold := some (doOn k s) } else { x with safeOff := true }) s)
    (s.dp R.FIO_STATUS F.FIO_STATUS_FAILSAFE 1)

/-- COMMIT_LOST: HOLD_N cycles in a row have brought no commit marker (R443). -/
def execCommitLost (s : State) : Host.Outcome State Fault Refusal :=
  settled (if max 3 (s.dg R.FIO_CFG F.FIO_CFG_HOLD_N) ≤ s.fio.unmarked ∧ s.dg R.FIO_STATUS F.FIO_STATUS_FAILSAFE = 0
    then failsafe (raiseFio 3 s) else s)

/-- BEACON_LOST: FIELD has missed 64 beacons (R444). DEDUCED, log 104. -/
def beaconLost (s : State) : State :=
  let s1 := failsafe (raiseFio 4 s)
  if s1.fio.ssa then dropOut .one (ssmPlane s1) 9 (ssaOff s1) else s1

/-- FIO_CMD FS_ACK: refused while no failsafe stands, or commits or beacons are missing (R443, R444). DEDUCED, log 103. -/
def fsAck (s : State) : State :=
  if s.dg R.FIO_STATUS F.FIO_STATUS_FAILSAFE = 0 ∨ s.fio.unmarked ≠ 0 ∨ fieldLost s = true then fioRefuse 3 s
  else each (List.range 16) (fun k s => setDo k { s.dout k with safeOff := false, hold := none, waits := true } s)
    (s.dp R.FIO_STATUS F.FIO_STATUS_FAILSAFE 0)

/-- FIELD counts, at CT0, the cycles without a commit marker and without a PERMIT request (R290, R443). -/
def fieldCycle (s : State) : State :=
  let f := s.fio
  { s with fio := { f with
    marked := false
    unmarked := if f.marked then 0 else f.unmarked + 1
    unasked := if f.marked && s.dg R.FIO_STATUS F.FIO_STATUS_SSA_REQ == 1 then 0 else f.unasked + 1 } }

/-- A write of FIO_CMD (R445). -/
def fioCmd (code : Nat) (s : State) : State :=
  match code with
  | 0 => s
  | 1 => if supply s = 3 then leaveCut s else fioRefuse 2 s
  | 2 => fsAck s
  | _ => fioRefuse 4 s

/-- SAG_ACK (R440). -/
def execSagAck (s : State) : Host.Outcome State Fault Refusal := settled (fioCmd 1 s)

/-- FS_ACK (R443). -/
def execFsAck (s : State) : Host.Outcome State Fault Refusal := settled (fioCmd 2 s)

/-- FIO_CMD_RESERVED: codes 0x3 to 0xF (R445). -/
def execFioCmdReserved (code : BitVec 4) (s : State) : Host.Outcome State Fault Refusal :=
  settled (if 3 ≤ code.toNat then fioCmd code.toNat s else s)

/-- The registers of FIO lie at these slots. -/
def isFio (k : Nat) : Bool := decide (R.FIO_CFG ≤ k) && decide (k < R.FIO_CFG + 0x20000)

/-- The Field die is reset: its outputs off, every input UNKNOWN, every register at its reset value (R431, R508). -/
def fieldReset (s : State) : State :=
  let s1 := { s with dev := s.dev.filter (fun e => !isFio e.1), fio := FioSt.initial }
  let s2 := { s1 with ssm2 := { s1.ssm2 with fault := false } }
  let q := ssmPlane s
  each (List.range 32) diUnknown (s2.setSsm .one q { s2.ssm .one q with fault := false })

/-- FIELD_POWER_UP: the Field die comes out of reset with its outputs off and every input UNKNOWN; the safety parameters set their
inputs again (R431, R432). -/
def execFieldPowerUp (s : State) : Host.Outcome State Fault Refusal :=
  let s1 := fieldReset s
  settled (match s1.tab.safety with
    | some t => fieldSafety t s1
    | none => s1)

end Sys2Proof.Machine
end

