-- ==== Sys2Proof/Machine/Image.lean ====
section
/-! DEFINITION. The sections of the configuration image whose inner layout the spec leaves to Glolum and the Adely kernel (R452, R398):
what they say is an opaque function of their bytes. -/

namespace Sys2Proof.Config

open Sys2Proof.Machine

/-- The dataflow graphs and the operations of their nodes, from the KERNEL section (R400). DESIGN CHOICE, log 40. UNVERIFIED,
log 81. -/
opaque readKernel : List Byte → Tables

/-- What the sections of the image declare, from their bytes by TYPE (R452). DESIGN CHOICE, log 40. -/
opaque readImage : List (Nat × List Byte) → Tables

end Sys2Proof.Config
end

