-- ==== Sys2Proof/Machine/Tim.lean ====
section
/-! DEFINITION. Network time: PTP instances and their servo, the choice of master, the source of cell time, PPS and the calendar (R337
to R349, R359, R360). -/

namespace Sys2Proof.Machine

/-! ## Flags -/

/-- The flags of FED (R359). -/
def bFED : Bank := ⟨R.FED_FLAGS, R.FED_FLAG_CNT0, some R.FED_EVMASK, 0⟩

/-- Raise flag `j` of FED_FLAGS. -/
def raiseFed (j : Nat) (s : State) : State := s.raise .a bFED 92 j

/-- Raise flag `j` of federation port `f`. -/
def raisePort (f j : Nat) (s : State) : State :=
  s.raise .a ⟨R.FED_PORT_FLAGS f, R.FED_PORT_FLAG_CNT f, some (R.FED_PORT_EVMASK f), 0⟩ (80 + f) j

/-- Raise flag `j` of PTP instance `i`. -/
def raisePtp (i j : Nat) (s : State) : State :=
  s.raise .a ⟨R.FED_PTP_FLAGS i, R.FED_PTP_FLAG_CNT0 i, some (R.FED_PTP_EVMASK i), 0⟩ (84 + i) j

/-- Raise flag `j` of TIM_FLAGS (R360). -/
def raiseTim (j : Nat) (s : State) : State := s.raise .a ⟨R.TIM_FLAGS, R.TIM_FLAG_CNT0, some R.TIM_EVMASK, 0⟩ 94 j

/-! ## Stamps (R338 to R340, R344) -/

/-- An HTS72 value in ns. -/
def nsOfHts (h : Nat) : Rat := (h : Rat) * 1000000000 / 4294967296

/-- TX_INT and RX_INT of a port in ns (R338). -/
def portInt (f : Nat) (s : State) : Rat × Rat :=
  nth [(872, 1064), (436 / 5, 532 / 5), (176 / 5, 224 / 5), (128 / 5, 192 / 5)] (s.dg (R.FED_PORT_CFG f) F.FED_PORT_CFG_SPEED) (0, 0)

/-- A transmit stamp at the MAC as cell time at the MDI in ns (R339). -/
def txStamp (f h : Nat) (s : State) : Rat :=
  nsOfHts h + (portInt f s).1 + (s.dg (R.FED_PORT_LAT f) F.FED_PORT_LAT_TX_PHY : Rat) / 64

/-- A receive stamp at the MAC as cell time at the MDI in ns (R339). -/
def rxStamp (f h : Nat) (s : State) : Rat :=
  nsOfHts h - (portInt f s).2 - (s.dg (R.FED_PORT_LAT f) F.FED_PORT_LAT_RX_PHY : Rat) / 64

/-- delayAsymmetry of a port in ns (R340). -/
def portAsym (f : Nat) (s : State) : Rat := ((s.rd .a (R.FED_PORT_ASYM f)).toInt : Rat) / 65536

/-- A correctionField in ns. -/
def corrNs (c : Int) : Rat := (c : Rat) / 65536

/-- Instance `i`. -/
def State.ptp (s : State) (i : Nat) : PtpSt := nth s.fed.ptp i PtpSt.initial

/-- The state with instance `i` replaced. -/
def State.setPtp (s : State) (i : Nat) (x : PtpSt) : State := { s with fed := { s.fed with ptp := s.fed.ptp.set i x } }

/-- Instance `i` steers cell time (R347). -/
def steers (i : Nat) (s : State) : Bool := s.fed.src == (1, i)

/-- O_i at a cell time in ns; 0 for the instance that steers (R344). -/
def ofsOf (i : Nat) (c : Rat) (s : State) : Rat :=
  let x := s.ptp i
  if steers i s then 0 else x.ofs - (x.servo.rho : Rat) / 1099511627776 * (c - nsOfHts x.ofsAt)

/-- A cell time in ns as instance time. -/
def instTime (i : Nat) (c : Rat) (s : State) : Rat := c + ofsOf i c s

/-! ## The servo (R345 to R347) -/

/-- KP_SH, KI_SH, LOCK_N, LOCK_NS and STEP_THR of a servo. -/
structure ServoPar where
  kp : Nat
  ki : Nat
  lockN : Nat
  lockNs : Nat
  thr : Nat
  deriving DecidableEq, Repr

/-- The settings of instance `i`. -/
def servoPar (i : Nat) (s : State) : ServoPar :=
  let r := R.FED_PTP_SERVO i
  ⟨s.dg r F.FED_PTP_SERVO_KP_SH, s.dg r F.FED_PTP_SERVO_KI_SH, max 1 (s.dg r F.FED_PTP_SERVO_LOCK_N),
    s.dg r F.FED_PTP_SERVO_LOCK_NS, max 100 (s.dg r F.FED_PTP_SERVO_STEP_THR)⟩

/-- A quotient rounded half to even to 2^-40 (R345). -/
def quo40 (x d : Rat) : Int := if d ≤ 0 then 0 else rneRat (x / d * 1099511627776)

/-- ρ clamped to ±`lim` (R345). -/
def clampTo (lim x : Int) : Int := if x < -lim then -lim else if lim < x then lim else x

/-- The limit of ρ in LSB 2^-40: 100 ppm for cell time, 500 ppm for a virtual clock (R337). -/
def rhoLimit (cell : Bool) : Int := if cell then 109951162 else 549755813

/-- What a Sync does to a servo: the servo, its state, LOCK and TIME_JUMP. -/
structure SyncEffect where
  servo : Servo
  state : Nat
  lock : Bool
  jump : Bool
  deriving DecidableEq, Repr

/-- An accepted Sync with offset `th` in ns, stamped `h`, in state `st` (R345, R346); a clock that steps at a TIME_JUMP leaves
its rate. DEDUCED, log 106. -/
def servoSync (p : ServoPar) (cell : Bool) (st : Nat) (x : Servo) (th : Rat) (h : Nat) : SyncEffect :=
  let dt : Rat := match x.last with
    | some l => nsOfHts h - nsOfHts l
    | none => 0
  let lim := rhoLimit cell
  let y := { x with theta := some th, last := some h }
  if st = 2 then
    match x.theta with
    | none => ⟨y, 2, false, false⟩
    | some th0 =>
      let rho := clampTo lim (x.rho + quo40 (th - th0) dt)
      let near := decide (th - th0 ≤ (p.lockNs : Rat)) && decide (th0 - th ≤ (p.lockNs : Rat))
      let n := if near then x.close + 1 else 0
      if p.lockN ≤ n then ⟨{ y with rho := rho, rhoI := rho, close := 0 }, 3, true, false⟩
      else ⟨{ y with rho := rho, close := n }, 2, false, false⟩
  else if st = 3 ∨ st = 4 then
    let jump := decide ((p.thr : Rat) < th) || decide (th < -(p.thr : Rat))
    if jump && !cell then ⟨y, 3, false, true⟩
    else
      let ri := clampTo lim (x.rhoI + quo40 (th / 2 ^ p.ki) dt)
      ⟨{ y with rhoI := ri, rho := clampTo lim (ri + quo40 (th / 2 ^ p.kp) dt) }, 3, false, jump⟩
  else ⟨y, st, false, false⟩

/-- The state of instance `i`: 0 DISABLED, 1 MASTER, 2 ACQUIRE, 3 TRACK, 4 HOLDOVER. -/
def ptpState (i : Nat) (s : State) : Nat := s.dg (R.FED_PTP_STATUS i) F.FED_PTP_STATUS_STATE

/-- The state of the steering source (R360). -/
def steerState (s : State) : Nat :=
  if s.fed.src.1 = 1 then ptpState s.fed.src.2 s else if s.fed.src.1 = 2 then s.fed.ppsState else 0

/-- TIM_STATUS and TIM_UTC show the steering source; each instance shows whether it steers (R347, R349). -/
def showTim (s : State) : State :=
  let s1 := each (List.range 8) (fun i s => s.dp (R.FED_PTP_STATUS i) F.FED_PTP_STATUS_STEERING (b2n (steers i s)))
    (s.dp R.TIM_STATUS F.TIM_STATUS_SERVO (steerState s))
  match if s.fed.src.1 = 1 then (s.ptp s.fed.src.2).parent else none with
  | none => s1.dp R.TIM_STATUS F.TIM_STATUS_PTP_TIMESCALE 0
  | some a =>
    let u := F.TIM_UTC_VALID.set (F.TIM_UTC_LEAP61.set (F.TIM_UTC_LEAP59.set (F.TIM_UTC_OFFSET.set 0 a.utc.toNat) (b2n a.leap59))
      (b2n a.leap61)) (b2n a.utcValid)
    (s1.dp R.TIM_STATUS F.TIM_STATUS_PTP_TIMESCALE (b2n a.ptpScale)).wr .a R.TIM_UTC u

/-- Instance `i` enters a state (R346). -/
def ptpEnter (i st : Nat) (s : State) : State :=
  if ptpState i s = st then s
  else
    let x := s.ptp i
    let sv := if st = 2 then { x.servo with theta := none, last := none, close := 0 } else x.servo
    showTim (raisePtp i 4 ((s.setPtp i { x with servo := sv }).dp (R.FED_PTP_STATUS i) F.FED_PTP_STATUS_STATE st))

/-- The first lock of the source of cell time since power-up: one step by the latest offset, deferred while a channel is closed
(R43, R44). DEDUCED, log 109. -/
def firstLock (th : Rat) (s : State) : State :=
  if s.cyc.stepped || s.cyc.step.isSome then s
  else
    let s1 := { s with cyc := { s.cyc with step := some (-(roundReal (th * 1000))) } }
    if s.anyClosed then s1.dp R.TIM_CYC_STATUS F.TIM_CYC_STATUS_STEP_DEFERRED 1 else s1

/-- A step that waits follows the offset; a deferred one is declined once slewing has brought it to 1 µs (R44, R347). DEDUCED,
log 109. -/
def followStep (th : Rat) (s : State) : State :=
  match s.cyc.step with
  | none => s
  | some _ =>
    if s.dg R.TIM_CYC_STATUS F.TIM_CYC_STATUS_STEP_DEFERRED = 1 ∧ th ≤ 1000 ∧ -1000 ≤ th then
      ({ s with cyc := { s.cyc with step := none, stepped := true } }.dp R.TIM_CYC_STATUS F.TIM_CYC_STATUS_STEP_DEFERRED 0).dp
        R.TIM_STATUS F.TIM_STATUS_STEPPED 1
    else { s with cyc := { s.cyc with step := some (-(roundReal (th * 1000))) } }

/-- What a Sync of the steering source, in state `st` before it, does to cell time; LOCK shows that it entered TRACK (R347, R360). -/
def steerCell (e : SyncEffect) (st : Nat) (th : Rat) (s : State) : State :=
  let s1 := followStep th { s with fed := { s.fed with rhoNext := some e.servo.rho } }
  let s2 := if e.lock then firstLock th s1 else s1
  let s3 := if e.state = 3 ∧ st ≠ 3 then raiseTim 0 s2 else s2
  if e.jump then raiseTim 2 s3 else s3

/-- θ as FED_PTP_OFS shows it (R359). -/
def ofsWord (th : Rat) : Word := wordI (sat36 (roundReal (th * 256)))

/-- An accepted Sync of instance `i` with offset `th`, stamped `h`. DEDUCED, log 106. -/
def takeSync (i : Nat) (th : Rat) (h : Nat) (s : State) : State :=
  let st := ptpState i s
  let cell := steers i s
  let x := s.ptp i
  let e := servoSync (servoPar i s) cell st x.servo th h
  let now := nsOfHts h
  let step : Rat := if !cell && (e.lock || e.jump) then th else 0
  let y := { x with
    servo := if step = 0 then e.servo else { e.servo with theta := some 0 }
    ofs := ofsOf i now s - step
    ofsAt := h }
  let s1 := ((s.setPtp i y).wr .a (R.FED_PTP_OFS i) (ofsWord th)).wr .a (R.FED_PTP_RATE i) (wordI e.servo.rho)
  let s2 := if e.state = st then s1 else ptpEnter i e.state s1
  let s3 := if e.lock then raisePtp i 0 s2 else s2
  let s4 := if e.jump then raisePtp i 2 s3 else s3
  if cell then steerCell e st th s4 else s4

/-! ## The choice of master (R342, R343): the BMCA of IEEE 1588-2019 -/

/-- clockIdentity of the device. -/
def clockId (s : State) : Nat :=
  s.dg R.FED_CLOCK_ID_HI F.FED_CLOCK_ID_HI_ID * 2 ^ 32 + s.dg R.FED_CLOCK_ID_LO F.FED_CLOCK_ID_HI_ID

/-- The port identity of port `f` (R342). -/
def portId (f : Nat) (s : State) : Nat := clockId s * 65536 + f + 1

/-- The instance's own data set (R343). -/
def ownData (i : Nat) (s : State) : PtpAnn :=
  let r := R.FED_PTP_DS i
  let b := fun (f : Fld) => BitVec.ofNat 8 (s.dg r f)
  { src := clockId s * 65536, gm := BitVec.ofNat 64 (clockId s), p1 := b F.FED_PTP_DS_PRIORITY1, cls := b F.FED_PTP_DS_CLASS
    acc := b F.FED_PTP_DS_ACCURACY, var := BitVec.ofNat 16 (s.dg (R.FED_PTP_VAR i) F.FED_PTP_VAR_VARIANCE)
    p2 := b F.FED_PTP_DS_PRIORITY2, steps := 0, utc := 0, utcValid := false, leap61 := false, leap59 := false, ptpScale := false }

/-- The numbers by which data sets of different grandmasters compare, the best first. PRESUMED, log 105. -/
def gmKey (a : PtpAnn) : List Nat :=
  [a.p1.toNat, a.cls.toNat, a.acc.toNat, a.var.toNat, a.p2.toNat, a.gm.toNat]

/-- The first list is smaller. -/
def lexLt : List Nat → List Nat → Bool
  | x :: s, y :: t => decide (x < y) || (x == y && lexLt s t)
  | _, _ => false

/-- Data set `a`, received at port `pa`, is better than `b`. PRESUMED, log 105. -/
def annBetter (a : PtpAnn) (pa : Nat) (b : PtpAnn) (pb : Nat) : Bool :=
  if a.gm = b.gm then lexLt [a.steps.toNat, a.src, pa] [b.steps.toNat, b.src, pb] else lexLt (gmKey a) (gmKey b)

/-- The best of a port's or an instance's foreign masters. -/
def bestOf : List Foreign → Option Foreign
  | [] => none
  | x :: t => match bestOf t with
    | none => some x
    | some y => if annBetter y.ann y.port x.ann x.port then some y else some x

/-- An interval of an instance in ps, from its field of FED_PTP_CFG (R337, R359). -/
def logPs (i : Nat) (f : Fld) (s : State) : Nat :=
  let k := signedOf 4 (s.dg (R.FED_PTP_CFG i) f)
  if k < 0 then 10 ^ 12 / 2 ^ (-k).toNat else 10 ^ 12 * 2 ^ k.toNat

/-- The announce interval of an instance in ps. -/
def announcePs (i : Nat) (s : State) : Nat := logPs i F.FED_PTP_CFG_LOG_ANNOUNCE s

/-- A foreign master counts once two Announces have come within four intervals; under IEEE 802.1AS, from the first. PRESUMED,
log 105. -/
def qualified (i : Nat) (s : State) (x : Foreign) : Bool :=
  s.dg (R.FED_PTP_CFG i) F.FED_PTP_CFG_PROFILE == 1 || (match x.prev with
    | some p => decide (x.at' ≤ p + 4 * announcePs i s)
    | none => false)

/-- The ports of an instance. -/
def memberPorts (i : Nat) (s : State) : List Nat := bitsOf 4 (s.dg (R.FED_PTP_CFG i) F.FED_PTP_CFG_PORTS)

/-- The portState of port `f` (R359): 2 FAULTY, 3 DISABLED, 4 LISTENING, 6 MASTER, 7 PASSIVE, 9 SLAVE. -/
def portState (i f : Nat) (s : State) : Nat := bitsAt (s.rd .a (R.FED_PTP_STATUS i)) (16 + 4 * f) 4

/-- The portState is replaced. -/
def setPortState (i f v : Nat) (s : State) : State := s.put .a (R.FED_PTP_STATUS i) ⟨16 + 4 * f + 3, 16 + 4 * f⟩ v

/-- Whether port `f` can carry PTP: enabled, with its link up. -/
def portUp (f : Nat) (s : State) : Bool :=
  s.dg (R.FED_PORT_CFG f) F.FED_PORT_CFG_EN == 1 && s.dg (R.FED_PORT_STATUS f) F.FED_PORT_STATUS_LINK == 1

/-- The state of port `f` by the state decision of the BMCA, given the instance's best foreign master. PRESUMED, log 105. -/
def decidePort (i f : Nat) (best : Option Foreign) (s : State) : Nat :=
  if s.dg (R.FED_PORT_CFG f) F.FED_PORT_CFG_EN = 0 then 3
  else if s.dg (R.FED_PORT_STATUS f) F.FED_PORT_STATUS_LINK = 0 then 2
  else
    let own := ownData i s
    let here := bestOf ((s.ptp i).foreign.filter (fun x => x.port == f && qualified i s x))
    let master := if s.dg (R.FED_PTP_CFG i) F.FED_PTP_CFG_SLAVE_ONLY = 1 then 4 else 6
    match here, best with
    | none, none => if portState i f s = 4 ∨ portState i f s = 2 ∨ portState i f s = 3 ∨ portState i f s = 0 then 4 else master
    | none, some b => if annBetter b.ann b.port own 0 || portState i f s != 4 then master else 4
    | some h, b =>
      if 1 ≤ own.cls.toNat ∧ own.cls.toNat ≤ 127 then if annBetter own 0 h.ann h.port then master else 7
      else match b with
        | none => master
        | some b =>
          if annBetter own 0 b.ann b.port then master
          else if b.port = f then 9
          else if b.ann.gm = h.ann.gm then 7 else master

/-- The grandmaster that an instance follows is shown; a change raises GM_CHANGED (R346). DEDUCED, log 106. -/
def setGm (i : Nat) (gm : Nat) (s : State) : State :=
  let old := s.dg (R.FED_PTP_GM_HI i) F.FED_PTP_GM_HI_ID * 2 ^ 32 + s.dg (R.FED_PTP_GM_LO i) F.FED_PTP_GM_HI_ID
  if old = gm then s
  else raisePtp i 3 ((s.dp (R.FED_PTP_GM_HI i) F.FED_PTP_GM_HI_ID (gm / 2 ^ 32)).dp (R.FED_PTP_GM_LO i) F.FED_PTP_GM_HI_ID gm)

/-- The BMCA of an enabled instance: port states, the master it follows, and the servo's state (R343, R346). PRESUMED, log 105.
-/
def bmca (i : Nat) (s : State) : State :=
  if ptpState i s = 0 then s
  else
    let best := bestOf ((s.ptp i).foreign.filter (fun x => qualified i s x && portUp x.port s && (memberPorts i s).contains x.port))
    let s1 := each (memberPorts i s) (fun f t => setPortState i f (decidePort i f best s) t) s
    let slave := (memberPorts i s).any (fun f => portState i f s1 == 9)
    let par := if slave then best.map (·.ann) else none
    let x := s1.ptp i
    let moved := par.map (·.src) != x.parent.map (·.src)
    let s2 := s1.setPtp i { x with parent := par, sync := if moved then none else x.sync, d1 := if moved then none else x.d1 }
    let s3 := match par with
      | some a => (setGm i a.gm.toNat s2).dp (R.FED_PTP_STATUS i) F.FED_PTP_STATUS_STEPS (a.steps.toNat + 1)
      | none => (setGm i (clockId s) s2).dp (R.FED_PTP_STATUS i) F.FED_PTP_STATUS_STEPS 0
    let st := ptpState i s3
    showTim (if slave && st == 1 then ptpEnter i 2 s3 else if !slave && decide (2 ≤ st) then ptpEnter i 1 s3 else s3)

/-- PTP_ANNOUNCE_RECEIVED: the Announce feeds the BMCA, or is discarded with MSG_ERR (R343). -/
def execPtpAnnounceReceived (i : Fin 8) (f : Fin 4) (m : PtpAnn) (s : State) : Host.Outcome State Fault Refusal :=
  settled (if ptpState i s = 0 ∨ !(memberPorts i s).contains f.val ∨ !portUp f s then s
    else if 254 < m.steps.toNat ∨ m.gm.toNat = clockId s then raisePtp i 5 s
    else
      let x := s.ptp i
      let same := fun (y : Foreign) => y.port == f.val && y.ann.src == m.src
      let prev := (x.foreign.find? same).map (·.at')
      bmca i (s.setPtp i { x with foreign := x.foreign.filter (fun y => !same y) ++ [⟨f, m, s.now, prev⟩] }))

/-- ANNOUNCE_RECEIPT_TIMEOUT: the masters of the port are forgotten, a LISTENING port becomes MASTER, and the BMCA runs (R343). -/
def execAnnounceReceiptTimeout (i : Fin 8) (f : Fin 4) (s : State) : Host.Outcome State Fault Refusal :=
  settled (if ptpState i s = 0 ∨ !(memberPorts i s).contains f.val ∨ !portUp f s then s
    else
      let x := s.ptp i
      bmca i (setPortState i f 6 (s.setPtp i { x with foreign := x.foreign.filter (fun y => y.port != f.val) })))

/-! ## Messages (R341, R345) -/

/-- The peer-delay mechanism is in use (R342). -/
def peerDelay (i : Nat) (s : State) : Bool :=
  s.dg (R.FED_PTP_CFG i) F.FED_PTP_CFG_DELAY == 1 || s.dg (R.FED_PTP_CFG i) F.FED_PTP_CFG_PROFILE == 1

/-- The message comes from the master of the SLAVE port `f`. -/
def ofMaster (i f : Nat) (m : PtpMsg) (s : State) : Bool :=
  portState i f s == 9 && ((s.ptp i).parent.map (·.src)) == some m.src

/-- A Sync whose time is known: θ from t1, t2 and the path delay (R345). -/
def finishSync (i f h : Nat) (ns : Rat) (corr : Int) (s : State) : State :=
  let d1 := instTime i (rxStamp f h s) s - ns - corrNs corr
  let x := s.ptp i
  takeSync i (d1 - nth x.mpd f 0 - portAsym f s) h (s.setPtp i { x with d1 := some d1, sync := none })

/-- PTP_SYNC_RECEIVED, stamped `t` at the MAC. -/
def execPtpSyncReceived (i : Fin 8) (f : Fin 4) (t : BitVec 72) (m : PtpMsg) (s : State) : Host.Outcome State Fault Refusal :=
  settled (if !ofMaster i f m s then s
    else if m.twoStep then s.setPtp i { s.ptp i with sync := some (f, t.toNat, m) }
    else finishSync i f t.toNat m.ns m.corr s)

/-- PTP_FOLLOW_UP_RECEIVED (R341). -/
def execPtpFollowUpReceived (i : Fin 8) (f : Fin 4) (m : PtpMsg) (s : State) : Host.Outcome State Fault Refusal :=
  settled (match (s.ptp i).sync with
    | some (g, h, y) =>
      if g = f.val ∧ y.seq = m.seq ∧ ofMaster i f m s then finishSync i f h m.ns (y.corr + m.corr) s else s
    | none => s)

/-- A path delay of port `f` has been measured. DEDUCED, log 107. -/
def setDelay (i f : Nat) (d : Rat) (s : State) : State :=
  let x := s.ptp i
  (s.setPtp i { x with mpd := x.mpd.set f d, req := x.req.set f none, resp := x.resp.set f none }).wr .a (R.FED_PTP_DELAY i)
    (wordI (sat36 (roundReal (d * 256))))

/-- A message of instance `i` from port `f`, in its domain and over its transport; IEEE 802.1AS forces Ethernet (R342). -/
def ptpMsg (i kind f seq ns : Nat) (corr : Int) (dest : Nat) (ann : Option PtpAnn) (s : State) : PtpOut :=
  let c := R.FED_PTP_CFG i
  ⟨kind, f, seq, ns, corr, dest, ann, s.dg c F.FED_PTP_CFG_DOMAIN,
    s.dg c F.FED_PTP_CFG_TRANSPORT == 1 && s.dg c F.FED_PTP_CFG_PROFILE == 0⟩

/-- The instance sends messages. -/
def ptpSend (i : Nat) (l : List PtpOut) (s : State) : State :=
  let x := s.ptp i
  s.setPtp i { x with out := l, seq := (x.seq + 1) % 65536 }

/-- An instance time in ns as whole ns and the fraction in 2^-16 ns (R341). -/
def splitNs (t : Rat) : Nat × Int := (t.floor.toNat, ((t - t.floor) * 65536).floor)

/-- PTP_SYNC_SEND: a MASTER port's Sync, one-step or with its Follow_Up, leaving the MAC at `t` (R341). -/
def execPtpSyncSend (i : Fin 8) (f : Fin 4) (t : BitVec 72) (s : State) : Host.Outcome State Fault Refusal :=
  let e := splitNs (instTime i (txStamp f t.toNat s) s)
  let k := (s.ptp i).seq
  settled (if portState i f s ≠ 6 then s
    else if s.dg (R.FED_PTP_CFG i) F.FED_PTP_CFG_ONE_STEP = 1 then ptpSend i [ptpMsg i 0 f k e.1 e.2 0 none s] s
    else ptpSend i [ptpMsg i 0 f k 0 0 0 none s, ptpMsg i 8 f k e.1 e.2 0 none s] s)

/-- PTP_ANNOUNCE_SEND: a MASTER port announces the grandmaster that the instance follows, or itself (R343). -/
def execPtpAnnounceSend (i : Fin 8) (f : Fin 4) (s : State) : Host.Outcome State Fault Refusal :=
  let a := match (s.ptp i).parent with
    | some p => { p with src := portId f s, steps := p.steps + 1 }
    | none => { ownData i s with src := portId f s }
  settled (if portState i f s ≠ 6 then s else ptpSend i [ptpMsg i 11 f (s.ptp i).seq 0 0 0 (some a) s] s)

/-- PTP_DELAY_REQ_SEND: a Pdelay_Req of any port under peer delay, else a Delay_Req of the SLAVE port (R342). -/
def execPtpDelayReqSend (i : Fin 8) (f : Fin 4) (t : BitVec 72) (s : State) : Host.Outcome State Fault Refusal :=
  let x := s.ptp i
  let go := fun (kind : Nat) =>
    ptpSend i [ptpMsg i kind f x.seq 0 0 0 none s] (s.setPtp i { x with
      req := x.req.set f (some (x.seq, instTime i (txStamp f t.toNat s) s))
      resp := x.resp.set f none })
  settled (if ptpState i s = 0 ∨ !(memberPorts i s).contains f.val then s
    else if peerDelay i s then go 2
    else if portState i f s = 9 then go 1 else s)

/-- PTP_DELAY_REQ_RECEIVED: a MASTER port answers with Delay_Resp (R342). -/
def execPtpDelayReqReceived (i : Fin 8) (f : Fin 4) (t : BitVec 72) (m : PtpMsg) (s : State) : Host.Outcome State Fault Refusal :=
  let e := splitNs (instTime i (rxStamp f t.toNat s) s)
  settled (if portState i f s ≠ 6 ∨ peerDelay i s then s
    else s.setPtp i { s.ptp i with out := [ptpMsg i 9 f m.seq.toNat e.1 (m.corr - e.2) m.src none s] })

/-- PTP_DELAY_RESP_RECEIVED: (t2 − t1 + t4 − t3) / 2 (R345). -/
def execPtpDelayRespReceived (i : Fin 8) (f : Fin 4) (m : PtpMsg) (s : State) : Host.Outcome State Fault Refusal :=
  settled (match nth (s.ptp i).req f none, (s.ptp i).d1 with
    | some (k, t3), some d1 =>
      if k = m.seq.toNat ∧ ofMaster i f m s ∧ !peerDelay i s then setDelay i f ((d1 + (m.ns : Rat) - t3 - corrNs m.corr) / 2) s else s
    | _, _ => s)

/-- PTP_PDELAY_REQ_RECEIVED: the answer, one-step with the residence time or with its Follow_Up; the answer leaves the MAC at `t3`
(R341). -/
def execPtpPdelayReqReceived (i : Fin 8) (f : Fin 4) (t t3 : BitVec 72) (m : PtpMsg) (s : State) :
    Host.Outcome State Fault Refusal :=
  let a := instTime i (rxStamp f t.toNat s) s
  let b := instTime i (txStamp f t3.toNat s) s
  let x := splitNs a
  let y := splitNs b
  settled (if ptpState i s = 0 ∨ !(memberPorts i s).contains f.val ∨ !peerDelay i s then s
    else if s.dg (R.FED_PTP_CFG i) F.FED_PTP_CFG_ONE_STEP = 1 then
      s.setPtp i { s.ptp i with out := [ptpMsg i 3 f m.seq.toNat 0 (m.corr + roundReal ((b - a) * 65536)) m.src none s] }
    else s.setPtp i { s.ptp i with out := [ptpMsg i 3 f m.seq.toNat x.1 (m.corr - x.2) m.src none s,
        ptpMsg i 10 f m.seq.toNat y.1 y.2 m.src none s] })

/-- PTP_PDELAY_RESP_RECEIVED: Pdelay_Resp, stamped `t`, or its Follow_Up; ((t4 − t1) − (t3 − t2)) / 2 (R341). DEDUCED, log 107.
-/
def execPtpPdelayRespReceived (i : Fin 8) (f : Fin 4) (follow : Bool) (t : BitVec 72) (m : PtpMsg) (s : State) :
    Host.Outcome State Fault Refusal :=
  let x := s.ptp i
  settled (match nth x.req f none with
    | none => s
    | some (k, t1) =>
      if k ≠ m.seq.toNat ∨ !peerDelay i s then s
      else if follow then
        match nth x.resp f none with
        | some (j, t4, t2) => if j = k then setDelay i f ((t4 - t1 - ((m.ns : Rat) + corrNs m.corr - t2)) / 2) s else s
        | none => s
      else
        let t4 := instTime i (rxStamp f t.toNat s) s
        if m.twoStep then s.setPtp i { x with resp := x.resp.set f (some (k, t4, (m.ns : Rat) - corrNs m.corr)) }
        else setDelay i f ((t4 - t1 - corrNs m.corr) / 2) s)

/-! ## Instances (R346, R359) -/

/-- The end of HOLD_N Sync intervals after the last accepted Sync of instance `i`, in ps (R346). -/
def holdEnd (i : Nat) (s : State) : Nat :=
  psOfHts ((s.ptp i).servo.last.getD 0)
    + max 1 (s.dg (R.FED_PTP_SERVO i) F.FED_PTP_SERVO_HOLD_N) * logPs i F.FED_PTP_CFG_LOG_SYNC s

/-- Instance `i` goes from TRACK to HOLDOVER, at ρ_i (R346). -/
def ptpHold (i : Nat) (s : State) : State :=
  let x := s.ptp i
  let h := htsOfPs s.now
  let s1 := raisePtp i 1 (ptpEnter i 4 (s.setPtp i { x with
    ofs := ofsOf i (nsOfHts h) s
    ofsAt := h
    servo := { x.servo with rho := x.servo.rhoI } }))
  let s2 := s1.wr .a (R.FED_PTP_RATE i) (wordI x.servo.rhoI)
  if steers i s then raiseTim 1 { s2 with fed := { s2.fed with rhoNext := some x.servo.rhoI } } else s2

/-- The PPS source goes from TRACK to HOLDOVER, at ρ_i (R346, R347). -/
def ppsHold (s : State) : State :=
  let p := { s.fed.pps with rho := s.fed.pps.rhoI }
  let s1 := { s with fed := { s.fed with pps := p, ppsState := 4 } }
  if s.fed.src.1 = 2 then showTim (raiseTim 1 { s1 with fed := { s1.fed with rhoNext := some p.rhoI } }) else s1

/-- LOCK_LOST of an instance or of PPS_IN: no Sync or edge for HOLD_N intervals ends TRACK (R346). DEDUCED, log 107. -/
def execLockLost (src : TimSource) (s : State) : Host.Outcome State Fault Refusal :=
  settled (match src with
    | .inst i => if ptpState i s ≠ 3 then s else ptpHold i (s.toTime (holdEnd i s))
    | .pps => if s.fed.ppsState ≠ 3 then s else ppsHold (s.toTime (psOfHts s.fed.ppsIn + 4 * 10 ^ 12)))

/-- A write of FED_PTP_CFG: EN enables the instance as MASTER, with its ports LISTENING, or takes it to DISABLED (R346). -/
def writePtpCfg (i : Nat) (v : Word) (s : State) : State :=
  let s1 := s.writeRw .a (R.FED_PTP_CFG i) v
  let on := F.FED_PTP_CFG_EN.get v
  let ports := fun (n : Nat) (s : State) => each (List.range 4) (fun f s =>
    setPortState i f (if (memberPorts i s).contains f then n else 0) s) s
  if on = 0 then
    if ptpState i s = 0 then s1
    else ptpEnter i 0 (ports 3 (s1.setPtp i { s1.ptp i with foreign := [], parent := none, sync := none, d1 := none }))
  else if ptpState i s = 0 then
    let g := clockId s
    let s2 := (s1.dp (R.FED_PTP_GM_HI i) F.FED_PTP_GM_HI_ID (g / 2 ^ 32)).dp (R.FED_PTP_GM_LO i) F.FED_PTP_GM_HI_ID g
    bmca i (ptpEnter i 1 (ports 4 s2))
  else bmca i (each (List.range 4) (fun f s => if (memberPorts i s).contains f then s else setPortState i f 0 s) s1)

/-- PTP_ENABLE_WRITE. -/
def execPtpEnableWrite (i : Fin 8) (v : Word) (s : State) : Host.Outcome State Fault Refusal := settled (writePtpCfg i v s)

/-- A write of FED_PTP_CMD (R359). -/
def ptpCmd (i code : Nat) (s : State) : State :=
  match code with
  | 0 => s
  | 1 =>
    let h := htsOfPs s.now
    let t := (roundReal (instTime i (nsOfHts h) s * 4294967296 / 1000000000)).toNat
    (s.wr .a (R.FED_PTP_TIME i) (lo72 t)).wr .a (R.FED_PTP_TIME_HI i) (hi72 t)
  | _ => raisePtp i 6 s

/-- PTP_CAPTURE. -/
def execPtpCapture (i : Fin 8) (s : State) : Host.Outcome State Fault Refusal := settled (ptpCmd i 1 s)

/-- PTP_CMD_RESERVED: codes 0x2 to 0xF are ignored with CMD_REFUSED (R359). -/
def execPtpCmdReserved (i : Fin 8) (code : BitVec 4) (s : State) : Host.Outcome State Fault Refusal :=
  settled (if 2 ≤ code.toNat then ptpCmd i code.toNat s else s)

/-- FED_LINK_CHANGE: a port's link comes up or goes down; every instance on it runs its BMCA (R343, R359). -/
def execFedLinkChange (f : Fin 4) (up : Bool) (s : State) : Host.Outcome State Fault Refusal :=
  settled (if s.dg (R.FED_PORT_STATUS f) F.FED_PORT_STATUS_LINK = b2n up then s
    else
      let s1 := raisePort f (b2n up) (s.dp (R.FED_PORT_STATUS f) F.FED_PORT_STATUS_LINK (b2n up))
      each (List.range 8) (fun i s =>
        if !(memberPorts i s).contains f.val then s
        else
          let x := s.ptp i
          bmca i (if up then s else s.setPtp i { x with foreign := x.foreign.filter (fun y => y.port != f.val) })) s1)

/-! ## The source of cell time (R347) -/

/-- A write of TIM_SRC; KIND 0b11 is refused (R347, R360). -/
def writeTimSrc (v : Word) (s : State) : State :=
  if F.TIM_SRC_KIND.get v = 3 then raiseTim 6 s else s.writeRw .a R.TIM_SRC v

/-- TIM_SRC_WRITE: the source changes at the next beacon. -/
def execTimSrcWrite (v : Word) (s : State) : Host.Outcome State Fault Refusal := settled (writeTimSrc v s)

/-- Instance `i` starts in ACQUIRE: offsets from before do not count (R346, R347). -/
def acquire (i : Nat) (s : State) : State :=
  let x := s.ptp i
  ptpEnter i 2 (s.setPtp i { x with servo := { x.servo with theta := none, last := none, close := 0 } })

/-- At a beacon the time keeper takes a new ρ and a new source, which starts in ACQUIRE (R345, R347). -/
def timBeacon (s : State) : State :=
  let s1 := match s.fed.rhoNext with
    | some r => { s with fed := { s.fed with rhoNext := none } }.wr .a R.TIM_RATE (wordI r)
    | none => s
  let new := (s.dg R.TIM_SRC F.TIM_SRC_KIND, s.dg R.TIM_SRC F.TIM_SRC_INST)
  if new = s.fed.src then s1
  else
    let h := htsOfPs s.now
    let s2 := { s1 with fed := { s1.fed with src := new } }
    let s3 := if s.fed.src.1 = 1 then s2.setPtp s.fed.src.2 { s2.ptp s.fed.src.2 with ofs := 0, ofsAt := h } else s2
    match new.1 with
    | 0 => showTim (s3.wr .a R.TIM_RATE 0)
    | 1 =>
      let s4 := s3.setPtp new.2 { s3.ptp new.2 with ofs := 0, ofsAt := h }
      showTim (if 2 ≤ ptpState new.2 s4 then acquire new.2 s4 else s4)
    | _ => showTim { s3 with fed := { s3.fed with pps := Servo.initial, ppsState := 2 } }

/-- The edge at `ps` follows the last one stamped within 1 µs, and is not stamped (R518). DEDUCED, log 107. -/
def ppsTooClose (ps : Nat) (s : State) : Bool :=
  let last := psOfHts s.fed.ppsIn
  decide (s.fed.ppsIn ≠ 0) && decide (last ≤ ps) && decide (ps < last + 1000000)

/-- PPS_IN_EDGE: a rising edge stamped `t` in steps of 0.5 ns; with the PPS source it acts as a Sync (R347, R348). DEDUCED, log
107. -/
def execPpsInEdge (t : Nat) (s : State) : Host.Outcome State Fault Refusal :=
  let ps := t * 500
  let s0 := s.toTime ps
  settled (if s.dg R.TIM_PPS_CFG F.TIM_PPS_CFG_IN_EN = 0 ∨ ppsTooClose ps s = true then s0
    else
      let h := htsOfPs ps
      let s1 := ({ s0 with fed := { s0.fed with ppsIn := h } }).notify .a R.TIM_PPS_CFG 95
      if s.fed.src.1 ≠ 2 then s1
      else
        let th : Rat := ((ps : Int) - rneDiv ps (10 ^ 12) * 10 ^ 12 : Int) / 1000
        let e := servoSync ⟨1, 4, 8, 50, 1000⟩ true s.fed.ppsState s.fed.pps th h
        showTim (steerCell e s.fed.ppsState th { s1 with fed := { s1.fed with pps := e.servo, ppsState := e.state } }))

/-- PPS_MISS: an edge that is waited for is missing for 1.5 s (R347). DEDUCED, log 107. -/
def execPpsMiss (s : State) : Host.Outcome State Fault Refusal :=
  settled (if s.dg R.TIM_PPS_CFG F.TIM_PPS_CFG_IN_EN = 0 ∧ s.fed.src.1 ≠ 2 then s
    else raiseTim 4 (s.toTime (psOfHts s.fed.ppsIn + 15 * 10 ^ 11)))

/-- WIDTH_MS in ps (R360). -/
def ppsWidth (s : State) : Nat := min 999 (max 1 (s.dg R.TIM_PPS_CFG F.TIM_PPS_CFG_WIDTH_MS)) * 1000000000

/-- The first whole second after the present cell time, in ps. -/
def nextSecond (s : State) : Nat := (s.now / 10 ^ 12 + 1) * 10 ^ 12

/-- PPS_OUT_SECOND: PPS_OUT rises at a whole second of cell time (R348). -/
def execPpsOutSecond (s : State) : Host.Outcome State Fault Refusal :=
  settled (if s.dg R.TIM_PPS_CFG F.TIM_PPS_CFG_OUT_EN = 0 then s
    else
      let s1 := if s.now % 10 ^ 12 = 0 then s else s.toTime (nextSecond s)
      ({ s1 with fed := { s1.fed with ppsOut := some (s1.now + ppsWidth s) } }).notify .a R.TIM_PPS_CFG 95)

/-! ## The calendar (R349, R360) -/

/-- Cell time in 2^-15 s. -/
def calUnits (ps : Nat) : Nat := ps * 32768 / 10 ^ 12

/-- The calendar holds a value from now on. -/
def setCal (v : Nat) (s : State) : State := { s with fed := { s.fed with cal := v, calAt := s.now } }

/-- What the calendar reads: it has counted since it was last written (R349). DESIGN CHOICE, log 108. -/
def calNow (s : State) : Nat := s.fed.cal + Config.calTicks (s.now - s.fed.calAt)

/-- A calendar value as HTS72. -/
def htsOfCal (v : Nat) : Nat := v * 2 ^ 17

/-- CALENDAR_WRITE: the Warden writes cell time into the calendar at each whole second. -/
def execCalendarWrite (s : State) : Host.Outcome State Fault Refusal :=
  let s1 := if s.now % 10 ^ 12 = 0 then s else s.toTime (nextSecond s)
  settled (setCal (calUnits s1.now) s1)

/-- CAL_TRIM_UPDATE: the measured error of the crystal, in steps of 0.0625 ppm, after 1,024 s in TRACK (R349). -/
def execCalTrimUpdate (err : Int) (s : State) : Host.Outcome State Fault Refusal :=
  settled (if s.dg R.TIM_CAL_TRIM F.TIM_CAL_TRIM_AUTO = 0 ∨ steerState s ≠ 3 then s
    else
      let v := satTo 16 err
      let s1 := s.dp R.TIM_CAL_TRIM F.TIM_CAL_TRIM_TRIM (v % 65536).toNat
      if v = err then s1 else raiseTim 5 s1)

/-- A write of TIM_CAL_TRIM: with AUTO = 0 the trim in force is TRIM_SET (R360). -/
def writeCalTrim (v : Word) (s : State) : State :=
  let s1 := s.writeRw .a R.TIM_CAL_TRIM v
  if F.TIM_CAL_TRIM_AUTO.get v = 0 then s1.dp R.TIM_CAL_TRIM F.TIM_CAL_TRIM_TRIM (F.TIM_CAL_TRIM_TRIM_SET.get v) else s1

/-- A write of TIM_CMD (R360). -/
def timCmd (code : Nat) (s : State) : State :=
  match code with
  | 0 => s
  | 1 =>
    let pair := fun (lo hi h : Nat) (s : State) => (s.wr .a lo (lo72 h)).wr .a hi (hi72 h)
    pair R.TIM_PPS_IN R.TIM_PPS_IN_HI s.fed.ppsIn (pair R.TIM_CAL R.TIM_CAL_HI (htsOfCal (calNow s))
      (pair R.TIM_NOW R.TIM_NOW_HI (htsOfPs s.now) s))
  | 2 =>
    if steerState s = 3 then raiseTim 6 s
    else setCal (of72 (s.rd .a R.TIM_CAL_SET) (s.rd .a R.TIM_CAL_SET_HI) / 2 ^ 17) s
  | _ => raiseTim 6 s

/-- TIM_CAPTURE. -/
def execTimCapture (s : State) : Host.Outcome State Fault Refusal := settled (timCmd 1 s)

/-- CAL_SET: refused while the source is in TRACK. -/
def execCalSet (s : State) : Host.Outcome State Fault Refusal := settled (timCmd 2 s)

/-- TIM_CMD_RESERVED: codes 0x3 to 0xF are refused. -/
def execTimCmdReserved (code : BitVec 4) (s : State) : Host.Outcome State Fault Refusal :=
  settled (if 3 ≤ code.toNat then timCmd code.toNat s else s)

end Sys2Proof.Machine
end

