-- ==== Sys2Proof/Machine/Boot.lean ====
section
/-! DEFINITION. Boot: device reset, the banks, the manifest, the kernel, the sections, failures and READY (R446 to R457, R507 to
R509). -/

namespace Sys2Proof.Machine

/-! ## Flags, stages, planes -/

/-- The flags of BOOT (R466). -/
def bBOOT : Bank := ⟨R.BOOT_FLAGS, R.BOOT_FLAG_CNT0, some R.BOOT_EVMASK, 0⟩

/-- Raise flag `j` of BOOT_FLAGS: E187 for flags 0 to 5, E188 for the rest. -/
def raiseBoot (j : Nat) (s : State) : State := s.raise .a bBOOT (if j ≤ 5 then 187 else 188) j

/-- BOOT_STATUS.STAGE (R454). -/
def bootStage (s : State) : Nat := s.dg R.BOOT_STATUS F.BOOT_STATUS_STAGE

/-- Boot enters a phase. DEDUCED, log 118. -/
def setStage (n : Nat) (s : State) : State := s.dp R.BOOT_STATUS F.BOOT_STATUS_STAGE n

/-- The rails of plane `q` are in range. -/
def railOk (q : Plane) (s : State) : Bool :=
  match q with
  | .a => s.boot.railA
  | .b => s.boot.railB

/-- The rails of plane `q` go in or out of range. -/
def setRail (q : Plane) (ok : Bool) (s : State) : State :=
  match q with
  | .a => { s with boot := { s.boot with railA := ok } }
  | .b => { s with boot := { s.boot with railB := ok } }

/-- The planes that take part in boot: those that are not retired. -/
def livePlanes (s : State) : List Plane := [Plane.a, Plane.b].filter (fun q => planeState q s != 5)

/-- ALARM_N is low: before power good, in FAILED, in thermal reset, and in simplex while ALARM_SIMPLEX = 1 (R383, R456, R508,
R509). PRESUMED, log 123. -/
def alarmLow (s : State) : Bool :=
  !s.boot.up || s.boot.hot || bootStage s == 9
    || (s.dg R.RED_STATUS F.RED_STATUS_SIMPLEX == 1 && s.dg R.RED_CFG F.RED_CFG_ALARM_SIMPLEX == 1)

/-! ## Device reset (R509) -/

/-- The slots that a device reset leaves: the Field die's, BOOT_SEL on VBAT, the OTP, and the mode that RED_CFG selects for the
next reset (R384). DEDUCED, log 119. -/
def keptSlot (k : Nat) : Bool :=
  isFio k || k == R.BOOT_SEL || k == R.SEC_OTP || k == R.SEC_SERIAL_HI || k == R.SEC_SERIAL_LO || k == R.SEC_CERT_LEN
    || (decide (R.SEC_CERT 0 ≤ k) && decide (k ≤ R.SEC_CERT 511)) || k == R.HIF_ID

/-- RED_CFG at the reset: MODE and COMPAT_PLANE as written, the rest at its reset value. DEDUCED, log 119. -/
def keptRedCfg (s : State) : Word :=
  F.RED_CFG_MODE.set (F.RED_CFG_COMPAT_PLANE.set (regReset R.RED_CFG) (s.dg R.RED_CFG F.RED_CFG_COMPAT_PLANE))
    (s.dg R.RED_CFG F.RED_CFG_MODE)

/-- An OTP command that a reset cuts short has burned some of its fuses, in the order of R458: how many is a free value.
DEDUCED, log 119. -/
def otpCut (s : State) : State :=
  match s.boot.job with
  | some (.rollback n) =>
    let d := s.draw
    let c := d.2.dg R.SEC_OTP F.SEC_OTP_ROLLBACK
    d.2.dp R.SEC_OTP F.SEC_OTP_ROLLBACK (c + d.1.toNat % (n + 1 - c))
  | some (.provision k h dbg) =>
    let d := s.draw
    let i := d.1.toNat % 4
    let s1 := if i = 0 then d.2 else { d.2 with boot := { d.2.boot with keys := d.2.boot.keys.set k (some h) } }
    let s2 := if 2 ≤ i ∧ dbg then s1.dp R.SEC_OTP F.SEC_OTP_DEBUG_OK (setBitN (s1.dg R.SEC_OTP F.SEC_OTP_DEBUG_OK) k) else s1
    if i = 3 then s2.dp R.SEC_OTP F.SEC_OTP_PROV (setBitN (s2.dg R.SEC_OTP F.SEC_OTP_PROV) k) else s2
  | some (.revoke k) =>
    let d := s.draw
    if d.1.toNat % 2 = 0 then d.2 else d.2.dp R.SEC_OTP F.SEC_OTP_REVOKED (setBitN (d.2.dg R.SEC_OTP F.SEC_OTP_REVOKED) k)
  | _ => s

/-- Device reset: every die but FIELD takes its reset state, and boot waits for power good (R509). What VBAT and the OTP hold
stays (R349, R448, R458). DESIGN CHOICE, log 7. DEDUCED, log 119. DESIGN CHOICE, log 121. -/
def deviceReset (hot : Bool) (s0 : State) : State :=
  let s := otpCut s0
  let z := State.reset
  let x := { z with
    now := s.now
    dev := s.dev.filter (fun e => keptSlot e.1)
    fio := s.fio
    free := s.free
    pending := s.pending
    cyc := { z.cyc with miss := z.cyc.miss.set 36 (nth s.cyc.miss 36 0), good := z.cyc.good.set 36 (nth s.cyc.good 36 0) }
    fed := { z.fed with cal := s.fed.cal, calAt := s.fed.calAt }
    boot := { z.boot with hot := hot, keys := s.boot.keys, vbatLost := s.boot.vbatLost, flashed := s.boot.flashed } }
  x.wr .a R.RED_CFG (keptRedCfg s)

/-- IO_RAIL_FAULT (R509). -/
def execIoRailFault (s : State) : Host.Outcome State Fault Refusal := settled (deviceReset s.boot.hot s)

/-- RESET_N_LOW (R509). -/
def execResetNLow (s : State) : Host.Outcome State Fault Refusal := settled (deviceReset s.boot.hot s)

/-- OVERTEMP: a device reset that holds until OVERTEMP_RELEASE (R509). -/
def execOvertemp (s : State) : Host.Outcome State Fault Refusal := settled (deviceReset true s)

/-- OVERTEMP_RELEASE: every die reads below 100 °C; boot starts at the next power good (R509). -/
def execOvertempRelease (s : State) : Host.Outcome State Fault Refusal := settled { s with boot := { s.boot with hot := false } }

/-- VBAT_LOSS: the calendar restarts from 0 and BOOT_SEL reads 0; neither is kept until the next power good (R349, R448). -/
def execVbatLoss (s : State) : Host.Outcome State Fault Refusal :=
  let s1 := s.wr .a R.BOOT_SEL 0
  settled { s1 with fed := { s1.fed with cal := 0, calAt := s1.now }, boot := { s1.boot with vbatLost := true } }

/-! ## Failures (R455, R456) -/

/-- Both planes are held in reset with their domains HELD, and nothing of an image is in force (R455, R468). -/
def holdPlanes (s : State) : State :=
  let s1 := each [Plane.a, Plane.b] (fun q s => setPlaneState q 0 (setDoms q 5 (planeReset q s))) s
  let s2 := (s1.dp R.RED_STATUS F.RED_STATUS_GRANTED 0).dp R.RED_STATUS F.RED_STATUS_SIMPLEX 0
  let s3 := s2.dp R.BOOT_STATUS F.BOOT_STATUS_SIMPLEX 0
  { s3 with
    tab := Tables.initial
    red := { s3.red with readyAt := none }
    boot := { s3.boot with
      man := none, placed := [], lanesDone := [], storeDone := [], loaded1 := false, loaded2 := false, graphDone := false } }

/-- A boot from another bank trains every lane anew: the repair map and the links are as before their training (R27, R455). -/
def clearLanes (s : State) : State :=
  { each (List.range 30) (fun i s => s.wr .a (R.BOOT_LANE (i / 2) (i % 2)) 0) s with
    links := List.replicate 15 ⟨0, false⟩ }

/-- The measurements of an image whose boot has failed are no part of the next one's: a section that this one lacks measures 0 (R462). -/
def clearMeasures (s : State) : State :=
  each (List.range 144) (fun i s => s.wr .a (R.BOOT_MEAS (i / 16) (i % 16)) 0) s

/-- Every DO is off (R456). -/
def dosOff (s : State) : State :=
  each (List.range 16) (fun k s => setDo k { s.dout k with hold := some false } s) s

/-- FAILED: planes in reset, the sequencer STOPPED, every DO off, BOOT_FAILED (R456). -/
def bootFailed (code : Nat) (s : State) : State :=
  let s1 := (setStage 9 (dosOff (holdPlanes s))).dp R.BOOT_STATUS F.BOOT_STATUS_FAIL code
  raiseBoot 5 ({ s1 with cyc := { s1.cyc with pend := none } }.dp R.TIM_CYC_STATUS F.TIM_CYC_STATUS_STATE 0)

/-- What the flash of a bank answered the SFDP read at power good. -/
def flashOf (b : Nat) (s : State) : FlashMode := if b = 0 then s.boot.found.flash0 else s.boot.found.flash1

/-- The ROM phase on bank `b` up to the manifest: none where the flash does not answer (R447, R454). -/
def romPhase (b : Nat) (s : State) : Option State :=
  let s1 := { (setStage 0 s).dp R.BOOT_STATUS F.BOOT_STATUS_BANK b with boot := { s.boot with tried := s.boot.tried ++ [b] } }
  match flashOf b s with
  | .none => none
  | .slow => some (setStage 1 (s1.dp R.BOOT_STATUS F.BOOT_STATUS_SLOW 1))
  | .fast => some (setStage 1 (s1.dp R.BOOT_STATUS F.BOOT_STATUS_SLOW 0))

/-- An image failure: boot restarts from the other bank, unless that has been tried since the reset; then it ends in FAILED
(R455). DEDUCED, log 117. -/
def imageFail (code : Nat) (s : State) : State :=
  let o := 1 - s.dg R.BOOT_STATUS F.BOOT_STATUS_BANK
  if s.boot.tried.contains o then bootFailed code s
  else
    let s1 := ((clearMeasures (clearLanes (holdPlanes s))).dp R.BOOT_STATUS F.BOOT_STATUS_FAIL_FIRST code).dp R.BOOT_STATUS F.BOOT_STATUS_FALLBACK 1
    let s2 := raiseBoot 1 s1
    match romPhase o s2 with
    | some s3 => s3
    | none => bootFailed 1 (s2.dp R.BOOT_STATUS F.BOOT_STATUS_BANK o)

/-! ## Power good and the manifest (R447 to R451, R507, R508) -/

/-- The bank that the ROM tries first; a trial is made once only (R448). -/
def firstBank (s : State) : Nat × State :=
  if s.dg R.BOOT_SEL F.BOOT_SEL_TRY_VALID = 1 then (s.dg R.BOOT_SEL F.BOOT_SEL_TRY_BANK, s.dp R.BOOT_SEL F.BOOT_SEL_TRY_VALID 0)
  else (s.dg R.BOOT_SEL F.BOOT_SEL_PREF, s)

/-- Cell time is loaded from the calendar, which has counted while the power was off (R43, R349). DESIGN CHOICE, log 108. -/
def loadCalendar (offPs : Nat) (s : State) : State :=
  let v := s.fed.cal + Config.calTicks (s.now - s.fed.calAt + offPs)
  let s1 := { s with now := psOfHts (htsOfCal v), fed := { s.fed with cal := v, calAt := psOfHts (htsOfCal v) } }
  if s.boot.vbatLost then raiseTim 3 (s1.dp R.TIM_STATUS F.TIM_STATUS_CAL_VALID 0)
  else s1.dp R.TIM_STATUS F.TIM_STATUS_CAL_VALID 1

/-- POWER_GOOD: FIELD is reset, cell time loaded, the mode of RED_CFG in force, and the ROM tries its first bank. DESIGN CHOICE,
log 113. -/
def execPowerGood (p : PowerOn) (s : State) : Host.Outcome State Fault Refusal :=
  settled (if s.boot.up || s.boot.hot then s
    else
      let s1 := loadCalendar p.offPs (fieldReset s)
      let s2 := (s1.dp R.BOOT_SEL F.BOOT_SEL_VBAT_LOST (b2n s1.boot.vbatLost)).dp R.RED_STATUS F.RED_STATUS_MODE
        (s1.dg R.RED_CFG F.RED_CFG_MODE)
      let s3 := { s2 with boot := { s2.boot with
        up := true, found := p, refclkMHz := if p.refclkSel then 100 else 25, railA := p.railA, railB := p.railB, vbatLost := false, since := s2.now, tried := [] } }
      let f := firstBank s3
      match romPhase f.1 f.2 with
      | some s4 => s4
      | none => imageFail 1 ({ f.2 with boot := { f.2.boot with tried := [f.1] } }.dp R.BOOT_STATUS F.BOOT_STATUS_BANK f.1))

/-- Measurement `m` is shown in BOOT_MEAS (R462). -/
def takeMeasure (m : Nat) (l : List Byte) (s : State) : State :=
  let h := sha512 l
  each (List.range 16) (fun k s => s.wr .a (R.BOOT_MEAS m k) (wordN (leNum (slice h (4 * k) 4)))) s

/-- Entry `i` of the section table (R451). -/
def sectionAt (m : List Byte) (i : Nat) : ImgSection :=
  let f := fun (o n : Nat) => leNum (slice m (576 + 96 * i + o) n)
  ⟨f 0 1, f 4 4, f 8 4, f 12 4, f 16 8, slice m (608 + 96 * i) 64⟩

/-- The manifest's fields (R449). DEDUCED, log 116. -/
def parseManifest (m : List Byte) : Manifest :=
  let fl := leNum (slice m 21 1)
  ⟨leNum (slice m 16 4), leNum (slice m 20 1), bitN fl 0, bitN fl 1,
    (List.range (min 16 (leNum (slice m 6 2)))).map (sectionAt m)⟩

/-- The words of a payload in whole groups of 8, in bytes (R11, R451). -/
def packedLen (words : Nat) : Nat := (words + 7) / 8 * 36

/-- LOAD is used by this type (R452). -/
def usesLoad (ty : Nat) : Bool := [1, 3, 4, 5, 8].contains ty

/-- The section table is valid (R451). DEDUCED, log 116. -/
def sectionsOk (nsec imageLen : Nat) (l : List ImgSection) : Bool :=
  decide (nsec ≤ 16) && (List.range' 1 7).all (fun t => l.countP (fun x => x.ty == t) == 1) && decide (l.countP (fun x => x.ty == 8) ≤ 1)
    && l.all (fun x => decide (1 ≤ x.ty) && decide (x.ty ≤ 8) && decide (x.ofs % 64 = 0) && decide (4096 ≤ x.ofs)
      && decide (x.ofs + x.len ≤ imageLen) && decide (x.load < 2 ^ 36)
      && (!usesLoad x.ty || decide (x.load + x.words ≤ storeWords))
      && (x.ty == 6 || x.ty == 7 || decide (x.len = packedLen x.words)) && (x.ty != 7 || decide (x.words ≤ 8 * 2 ^ 20)))
    && (l.zipIdx).all (fun a => (l.zipIdx).all (fun b => decide (b.2 ≤ a.2) || decide (a.1.ofs + a.1.len ≤ b.1.ofs)
      || decide (b.1.ofs + b.1.len ≤ a.1.ofs)))

/-- Slot `k` is provisioned (R458). -/
def slotProv (k : Nat) (s : State) : Bool := bitN (s.dg R.SEC_OTP F.SEC_OTP_PROV) k

/-- Slot `k` is revoked. -/
def slotRevoked (k : Nat) (s : State) : Bool := bitN (s.dg R.SEC_OTP F.SEC_OTP_REVOKED) k

/-- The key hash that slot `k` holds; the delivery key in slot 0 until another is burned. -/
def slotHash (k : Nat) (s : State) : Option (List Byte) :=
  match nth s.boot.keys k none with
  | some [] => some Config.deliveryKeyHash
  | h => h

/-- Slot `k` holds the hash of a modulus with exponent 65537. -/
def slotHolds (k : Nat) (modulus : List Byte) (s : State) : Bool := slotHash k s == some (keyHash modulus)

/-- The failure code of a manifest, 0 where it passes (R449 to R451, R455). DEDUCED, log 116. -/
def manifestCheck (m : List Byte) (s : State) : Nat :=
  let f := fun (o n : Nat) => leNum (slice m o n)
  let x := parseManifest m
  let n := slice m 32 512
  if f 0 4 ≠ 0x8128ADE1 ∨ f 4 2 ≠ 1 ∨ f 8 4 ≠ 2624 ∨ 268435456 < f 12 4 then 2
  else if !slotProv x.slot s || beNum (slice m 544 4) != 65537 || !slotHolds x.slot n s then 3
  else if slotRevoked x.slot s then 4
  else if !pssVerify n (m.take 2112) (slice m 2112 512) then 5
  else if x.svn < s.dg R.SEC_OTP F.SEC_OTP_ROLLBACK then 6
  else if !sectionsOk (f 6 2) (f 12 4) x.sections then 7 else 0

/-- MANIFEST_VERIFIED: the 2,624 bytes at the start of the bank, measured and checked (R450, R451, R455). DESIGN CHOICE, log
113. -/
def execManifestVerified (bytes : List Byte) (s : State) : Host.Outcome State Fault Refusal :=
  settled (if bootStage s = 1 then
      let m := bytes.take 2624
      let s1 := takeMeasure 0 (m.take 2112) s
      match manifestCheck m s1 with
      | 0 =>
        let x := parseManifest m
        let w := F.BOOT_IMAGE_NSEC.set (F.BOOT_IMAGE_KEY_SLOT.set (F.BOOT_IMAGE_SVN.set 0 x.svn) x.slot) x.sections.length
        let s2 := ((s1.wr .a R.BOOT_IMAGE w).wr .a R.BOOT_IMAGE_ID_HI (wordN (leNum (slice m 28 4)))).wr .a R.BOOT_IMAGE_ID_LO
          (wordN (leNum (slice m 24 4)))
        setStage 2 { s2 with boot := { s2.boot with man := some x } }
      | code => imageFail code s1
    else s)

/-! ## The kernel and the planes (R453, R454, R28) -/

/-- A plane leaves reset with its domains in RUN. -/
def releasePlane (q : Plane) (s : State) : State :=
  let s1 := setDoms q 0 s
  s1.setWard q { s1.ward q with inReset := false }

/-- The section of a type in the manifest. -/
def sectionOf (ty : Nat) (s : State) : Option ImgSection :=
  match s.boot.man with
  | some m => m.sections.find? (fun x => x.ty == ty)
  | none => none

/-- The signature at the end of KERNEL passes under Cerusk's kernel key (R453). -/
def kernelOk (l : List Byte) : Bool :=
  decide (512 ≤ l.length) && pssVerify Config.kernelModulus (l.take (l.length - 512)) (l.drop (l.length - 512))

/-- START_UP starts on plane `q` (R400). UNVERIFIED, log 81. -/
def startUp (q : Plane) (s : State) : State := if railOk q s then graphBegin q s.tab.startUp (releasePlane q s) else s

/-- KERNEL_LOADED: the section, hashed and verified; the planes whose rails are in range leave reset and START_UP runs on each (R453,
R454, R507). -/
def execKernelLoaded (bytes : List Byte) (s : State) : Host.Outcome State Fault Refusal :=
  settled (match sectionOf 7 s with
    | none => s
    | some x =>
      if bootStage s ≠ 2 then s
      else
        let l := bytes.take x.len
        let s1 := takeMeasure 7 l s
        if sha512 l ≠ x.hash then imageFail 8 s1
        else if !kernelOk l then imageFail 9 s1
        else
          let k := Config.readKernel l
          let t := { Tables.initial with startUp := k.startUp, bist := k.bist, resync := k.resync, nodeOps := k.nodeOps }
          let s2 := setStage 3 { s1 with tab := t, boot := { s1.boot with placed := [(7, l)] } }
          if !s2.boot.railA && !s2.boot.railB then bootFailed 0xB s2
          else
            let s3 := startUp .b (startUp .a s2)
            if ([Plane.a, Plane.b].any (fun q => railOk q s3 && (s3.plane q).graph.isNone)) then bootFailed 0xD s3 else s3)

/-- The links of plane `q` other than XLK (R28). -/
def planeLinks (q : Plane) : List Nat := [q.code, 3 + q.code, 5 + q.code, 7 + q.code, 9 + q.code]

/-- The failed lanes of a group of a link, of those that the link has; 16 is the spare (R26, R27). -/
def badLanes (l d g : Nat) (s : State) : List Nat :=
  ((s.boot.found.lanes.filter (fun b => b.link.num == l && b.dir.val == d && b.group.val == g && decide (g < b.link.groups)
    && (b.lane.val == 16 || decide (b.lane.val < b.link.groupLanes)))).map (·.lane.val)).dedup

/-- A direction of a link is unusable: two lanes of one of its groups, its spare among them, failed, or the rails of its plane are out
of range (R28, R507). -/
def dirBad (l d : Nat) (s : State) : Bool :=
  (List.range 4).any (fun g => decide (2 ≤ (badLanes l d g s).length))
    || [Plane.a, Plane.b].any (fun q => !railOk q s && (planeLinks q).contains l)

/-- A link is unusable. -/
def linkBad (l : Nat) (s : State) : Bool := dirBad l 0 s || dirBad l 1 s

/-- BOOT_LANE of a direction: its state, and for each group its spare and the lane replaced (R27). A group whose spare alone
failed needs no repair; one with two or more failed lanes shows no spare in use. DESIGN CHOICE, log 129. -/
def laneWord (l d : Nat) (s : State) : Word :=
  let groups := (List.range 4).map (fun g => match badLanes l d g s with
    | [x] => if x = 16 then 0 else (16 + x) * 32 ^ g
    | _ => 0)
  let st := if dirBad l d s then 2 else if groups.sum = 0 then 0 else 1
  F.BOOT_LANE_GROUPS.set (F.BOOT_LANE_STATE.set 0 st) groups.sum

/-- The plane that the first grant goes to: the scheduled one, or COMPAT_PLANE, or the other where that one is retired (R362, R384). -/
def firstChanter (s : State) : Plane :=
  let q := if native s then scheduled (periodOf s) s else Plane.ofCode (s.dg R.RED_CFG F.RED_CFG_COMPAT_PLANE)
  if planeState q s = 5 then q.other else q

/-- A plane is retired at boot: the device starts simplex (R28). -/
def retireAtBoot (q : Plane) (s : State) : State :=
  let s1 := retire q (s.setWard q { s.ward q with unusable := true })
  (s1.setWard q { s1.ward q with unusable := true }).dp R.BOOT_STATUS F.BOOT_STATUS_SIMPLEX 1

/-- What training and repair of every lane leave: the repair map, and the links found unusable (R27, R28). -/
def lanesResult (s : State) : State :=
  let s1 := each (List.range 30) (fun i s => s.wr .a (R.BOOT_LANE (i / 2) (i % 2)) (laneWord (i / 2) (i % 2) s)) s
  let mapped := (List.range 30).any (fun i => s1.dg (R.BOOT_LANE (i / 2) (i % 2)) F.BOOT_LANE_STATE == 1)
  let s2 := if mapped then raiseBoot 2 s1 else s1
  let s3 := { s2 with links := (List.range 15).map (fun l => ⟨0, linkBad l s2⟩) }
  let a := (planeLinks .a).any (fun l => linkBad l s3)
  let b := (planeLinks .b).any (fun l => linkBad l s3)
  if (List.range' 11 4).any (fun l => linkBad l s3) || (a && b) then bootFailed 0xB s3
  else if a then retireAtBoot .a s3
  else if b then retireAtBoot .b s3
  else if linkBad 2 s3 then retireAtBoot (firstChanter s3).other s3
  else s3

/-! ## The other sections (R452, R453) -/

/-- Words in the packed layout of R11. -/
def unpackWords (n : Nat) (l : List Byte) : List Word :=
  (List.range n).map (fun i => wordN (leNum (slice l (36 * (i / 8)) 36) / 2 ^ (36 * (i % 8))))

/-- The payload words of a SAFETY section (R453). -/
def safetyWords (l : List Byte) : List Word := unpackWords (leNum (slice l 8 4)) (l.drop 576)

/-- The envelope of SAFETY passes: magic, length, key slot, signature and CRC (R453). -/
def safetyOk (l : List Byte) (s : State) : Bool :=
  let n := slice l 16 512
  let k := leNum (slice l 4 1)
  leNum (slice l 0 4) == 0x81285AFE && decide (l.length = 576 + packedLen (leNum (slice l 8 4)) + 512) && slotProv k s
    && !slotRevoked k s && beNum (slice l 528 4) == 65537 && slotHolds k n s
    && pssVerify n (l.take (l.length - 512)) (l.drop (l.length - 512)) && crc32 (safetyWords l) == leNum (slice l 12 4)

/-- The next section to be streamed: the first of the table, KERNEL apart, that is not placed (R454). -/
def nextSection (s : State) : Option ImgSection :=
  match s.boot.man with
  | some m => m.sections.find? (fun x => x.ty != 7 && !s.boot.placed.any (fun p => p.1 == x.ty))
  | none => none

/-- A register whose value comes from the device tables is loaded, in both planes where it lies there. -/
def loadReg (e : Nat × Word) (s : State) : State :=
  if isDev e.1 then s.writeRw .a e.1 e.2
  else each [Plane.a, Plane.b] (fun q s =>
    let s1 := s.writeRw q e.1 e.2
    s1.setRep q { s1.rep q with act := sPut regReset (s1.rep q).act e.1 (s1.rd q e.1) }) s

/-- The registers that the device tables load: FED_CFG and the replicated segments (R350, R367). DEDUCED, log 117. -/
def isTableReg (k : Nat) : Bool :=
  k == R.FED_CFG || (decide (R.PLANE_REPL_BASE 0 ≤ k) && decide (k ≤ R.PLANE_REPL_SIZE 15))

/-- A thread that the device tables declare is BLOCKED, in both planes (R388, R389). -/
def declareThread (e : Nat × Word) (s : State) : State :=
  each [Plane.a, Plane.b] (fun q s =>
    let k := R.SCH_THR_CFG (e.1 % 512)
    let s1 := (s.wr q k e.2).put q (R.SCH_THR_STATUS (e.1 % 512)) F.SCH_THR_STATUS_STATE 1
    s1.setRep q { s1.rep q with act := sPut regReset (s1.rep q).act k e.2 }) s

/-- The tables of the image are in force: what they declare, the registers and the threads. DEDUCED, log 117. -/
def loadTables (s : State) : State :=
  let t := Config.readImage s.boot.placed
  let s1 := { s with tab := { t with
    startUp := s.tab.startUp, bist := s.tab.bist, resync := s.tab.resync, nodeOps := s.tab.nodeOps } }
  each t.threads declareThread (each (t.regs.filter (fun e => isTableReg e.1)) loadReg s1)

/-- Every section is placed. -/
def allPlaced (s : State) : Bool := s.boot.man.isSome && (nextSection s).isNone

/-- The phases of the start-up graph follow its work: STORE once the lanes are done on every live plane, SECTIONS once the
stores are, and START once every section is placed (R454). DEDUCED, log 118. -/
def advanceStage (s : State) : State :=
  let all := fun (l : List Plane) => (livePlanes s).all (fun q => l.contains q)
  if bootStage s = 3 && all s.boot.lanesDone then
    setStage (if all s.boot.storeDone then (if allPlaced s then 6 else 5) else 4) s
  else if bootStage s = 4 && all s.boot.storeDone then setStage (if allPlaced s then 6 else 5) s
  else if bootStage s = 5 && allPlaced s then setStage 6 s else s

/-- SECTION_HASHED: the next section as read, hashed, checked and placed; the last one puts the tables in force (R452 to R455).
DESIGN CHOICE, log 113. -/
def execSectionHashed (bytes : List Byte) (s : State) : Host.Outcome State Fault Refusal :=
  settled (match nextSection s with
    | none => s
    | some x =>
      if bootStage s < 3 ∨ 5 < bootStage s then s
      else
        let l := bytes.take x.len
        let s1 := takeMeasure x.ty l s
        if sha512 l ≠ x.hash then imageFail 8 s1
        else if x.ty = 6 ∧ safetyOk l s1 = false then imageFail 0xA s1
        else
          let s2 := { s1 with boot := { s1.boot with placed := s1.boot.placed ++ [(x.ty, l)] } }
          let s3 := if x.ty = 6 then s2.dp R.BOOT_IMAGE F.BOOT_IMAGE_SAFETY_SLOT (leNum (slice l 4 1))
            else if usesLoad x.ty then each (livePlanes s2) (fun q s => s.sputs q x.load (unpackWords x.words l)) s2
            else s2
          advanceStage (if allPlaced s3 then loadTables s3 else s3))

/-! ## READY (R457) -/

/-- A time since power good in µs. -/
def bootUs (s : State) : Word := wordN (min ((s.now - s.boot.since) / 1000000) (2 ^ 32 - 1))

/-- The conditions of READY: the START_UP graph DONE on the first Chanter, cycles running, both safety loads made, and every
enabled Cell Bus channel in RUN. DEDUCED, log 118. -/
def readyNow (s : State) : Bool :=
  s.boot.graphDone && s.dg R.TIM_CYC_STATUS F.TIM_CYC_STATUS_STATE == 1 && decide (0 < s.cyc.starts) && s.boot.loaded1
    && s.boot.loaded2 && (bitsOf 2 s.tab.buses).all (fun c => s.dg (R.CBUS_CH_STATUS c) F.CBUS_CH_STATUS_STATE == 5)

/-- READY: the device is in service, and the device tables set the tolerable wake latencies (R457, R469). DEDUCED, log 117. -/
def execBootReady (s : State) : Host.Outcome State Fault Refusal :=
  settled (if bootStage s = 7 && readyNow s then
      let s0 := { s with boot := { s.boot with readyAt := s.now } }
      let s1 := (setStage 8 s0).wr .a R.BOOT_T_READY (bootUs s)
      let s2 := each (s.tab.tol.take 12).zipIdx (fun e s => s.dp (R.BEL_DOM_CFG e.2) F.BEL_DOM_CFG_TOL_NS e.1) s1
      raiseBoot 0 s2
    else s)

/-- BOOT_TIMEOUT: READY not reached within 60 s of power good (R455). -/
def execBootTimeout (s : State) : Host.Outcome State Fault Refusal :=
  settled (if s.boot.up && decide (bootStage s < 8) then bootFailed 0xE (s.toTime (s.boot.since + 60 * 10 ^ 12)) else s)

end Sys2Proof.Machine
end

