-- ==== Sys2Proof/Machine/Cbus.lean ====
section
/-! DEFINITION. The Cell Bus: frames, the schedule and its checks, polls and responses, the probe, and the channel states (R301 to
R336). -/

namespace Sys2Proof.Machine

/-! ## Flags and fields -/

/-- The state of the cycle sequencer: 0 STOPPED, 1 RUNNING, 2 CHANGING (R56). -/
def cycState (s : State) : Nat := s.dg R.TIM_CYC_STATUS F.TIM_CYC_STATUS_STATE

/-- A cycle runs. -/
def inCycle (s : State) : Bool := cycState s == 1 && s.cyc.inCycle

/-- The flags of channel `c` (R336). -/
def bBUS (c : Nat) : Bank := ⟨R.CBUS_CH_FLAGS c, R.CBUS_CH_FLAG_CNT0 c, some (R.CBUS_CH_EVMASK c), 0⟩

/-- g of R336 for each flag. -/
def busGroup (j : Nat) : Nat := nth [7, 7, 0, 0, 1, 1, 1, 2, 3, 4, 5, 5, 6, 3, 7] j 7

/-- Raise flag `j` of CBUS_CH_FLAGS. -/
def raiseBus (c j : Nat) (s : State) : State := s.raise .a (bBUS c) (64 + 8 * c + busGroup j) j

/-- Refuse a command of channel `c`. -/
def busRefuse (c code : Nat) (s : State) : State :=
  raiseBus c 1 (s.dp (R.CBUS_CH_STATUS c) F.CBUS_CH_STATUS_REFUSE code)

/-- The state of a channel: 0 OFF, 1 LISTEN, 2 BEACONING, 3 PROBE, 4 CONFIG, 5 RUN, 6 BACKOFF, 7 SILENT. -/
def busState (c : Nat) (s : State) : Nat := s.dg (R.CBUS_CH_STATUS c) F.CBUS_CH_STATUS_STATE

/-- What the registers of channel `c` do not show. -/
def State.bus (s : State) (c : Nat) : BusSt := nth s.cbus.chs c BusSt.initial

/-- The state with that replaced. -/
def State.setBus (s : State) (c : Nat) (x : BusSt) : State := { s with cbus := { s.cbus with chs := s.cbus.chs.set c x } }

/-- A channel enters a state: STATE_CHANGED (R332). -/
def busEnter (c code : Nat) (s : State) : State :=
  raiseBus c 0 ((s.setBus c { s.bus c with cnt := 0, listen := none }).dp (R.CBUS_CH_STATUS c) F.CBUS_CH_STATUS_STATE code)

/-- The state of station `k`: 0 ABSENT, 1 MISMATCH, 2 CONFIGURED, 3 ACTIVE, 4 LOST. -/
def stnState (c k : Nat) (s : State) : Nat := s.dg (R.CBUS_STN_STATUS c k) F.CBUS_STN_STATUS_STATE

/-- The state of station `k` is replaced. -/
def setStn (c k code : Nat) (s : State) : State := s.dp (R.CBUS_STN_STATUS c k) F.CBUS_STN_STATUS_STATE code

/-- CBUS_CH_STATUS.FOUND. DEDUCED, log 95. -/
def found (c : Nat) (s : State) : Nat := s.dg (R.CBUS_CH_STATUS c) F.CBUS_CH_STATUS_FOUND

/-- Whether station `k` is present: found by the last probe, and not MISMATCH. DEDUCED, log 95. -/
def present (c k : Nat) (s : State) : Bool := decide (k < found c s) && decide (stnState c k s ≠ 1)

/-- The bank in force. -/
def actBank (c : Nat) (s : State) : Nat := s.dg (R.CBUS_CH_STATUS c) F.CBUS_CH_STATUS_ACT_BANK

/-- The byte time of a channel in ps (R302). -/
def byteTime (c : Nat) (s : State) : Nat := nth [80000, 8000, 3200] (s.dg (R.CBUS_CH_CFG c) F.CBUS_CH_CFG_SPEED) 3200

/-- ECHO_GAP in ps (R302). -/
def echoGap (c : Nat) (s : State) : Nat := if s.dg (R.CBUS_CH_CFG c) F.CBUS_CH_CFG_SPEED = 0 then 20000000 else 4000000

/-- The channel speaks version 0x1 (R335). -/
def compat (c : Nat) (s : State) : Bool := s.dg (R.CBUS_CH_CFG c) F.CBUS_CH_CFG_COMPAT == 1

/-- GUARD in ps (R320). -/
def guardPs (c : Nat) (s : State) : Nat := s.dg (R.CBUS_CH_CFG c) F.CBUS_CH_CFG_GUARD * 1000

/-! ## Frames (R305 to R307, R335) -/

/-- Bytes of a frame before its payload: MAC fields and the Cell Bus header. -/
def headBytes (old : Bool) : Nat := if old then 22 else 30

/-- Bytes of a frame with `n` payload words from byte 0 to the end of the FCS (R305). -/
def frameLen (old : Bool) (n : Nat) : Nat := max 64 (headBytes old + 4 + (9 * n + 1) / 2)

/-- The low `n` bytes of a number, least significant first. -/
def leBytes (n x : Nat) : List Nat := (List.range n).map (fun i => x / 256 ^ i % 256)

/-- Words in the packed layout of R11, padded to a whole byte. -/
def packBytes (ws : List Word) : List Nat :=
  leBytes ((9 * ws.length + 1) / 2) (ws.foldr (fun w x => w.toNat + 2 ^ 36 * x) 0)

/-- The six bytes of CBUS_MAC (R336). -/
def busMac (s : State) : List Nat :=
  let hi := s.dg R.CBUS_MAC_HI F.CBUS_MAC_HI_BYTES
  let lo := s.dg R.CBUS_MAC_LO F.CBUS_MAC_LO_BYTES
  [hi / 65536, hi / 256 % 256, hi % 256, lo / 65536, lo / 256 % 256, lo % 256]

/-- The Cell Bus header that the master sends (R306, R335). -/
def busHeader (old : Bool) (kind flags c station slot cyc n : Nat) : List Nat :=
  let h := [(if old then 16 else 32) + kind, flags, 128 * c + station, slot, cyc % 256, cyc / 256 % 256, n % 256, n / 256]
  if old then h else h ++ [0, 0, 0, 0, 0, 0, 0, 0]

/-- A downstream frame (R305), with its FCS. -/
def busFrame (c kind flags station slot : Nat) (ws : List Word) (s : State) : List Nat :=
  let old := compat c s
  let et := s.dg R.CBUS_CFG F.CBUS_CFG_ETHERTYPE
  let body := [3, 0, 0, 0, 12, 0] ++ busMac s ++ [et / 256, et % 256] ++ busHeader old kind flags c station slot s.n ws.length
    ++ packBytes ws
  let full := body ++ List.replicate (60 - body.length) 0
  full ++ leBytes 4 (crcReflected 0xEDB88320 full)

/-- A frame that the master keeps (R308). DEDUCED, log 99. -/
def frameOk (c : Nat) (f : BusFrame) (s : State) : Bool :=
  let n := f.words.toNat + f.swords.toNat
  f.fcs && decide (f.etype.toNat = s.dg R.CBUS_CFG F.CBUS_CFG_ETHERTYPE) && decide (f.ver.toNat = if compat c s then 1 else 2)
    && decide (1 ≤ f.kind.toNat) && decide (f.kind.toNat ≤ 5) && decide (n ≤ 320) && (!compat c s || f.swords == 0)
    && decide (headBytes (compat c s) + 4 + (9 * n + 1) / 2 ≤ f.bytes) && decide (f.data.length = n)

/-- The cell time at which a frame's timestamp point passes the MDI (R301). DEDUCED, log 98. -/
def frameAt (c : Nat) (f : BusFrame) (s : State) : Nat := f.t - s.dg (R.CBUS_CH_LAT c) F.CBUS_CH_LAT_RX_LAT * 1000

/-- The cell time of a frame's last bit. -/
def frameEnd (c : Nat) (f : BusFrame) (s : State) : Nat := frameAt c f s + f.bytes * byteTime c s

/-! ## The schedule (R315 to R317) -/

/-- A slot of a bank, its time in ps. -/
structure Slot where
  num : Nat
  time : Nat
  en : Bool
  kind : Nat
  mux : Nat
  phase : Nat
  station : Nat
  first : Nat
  entries : Nat
  tx : Nat
  rx : Nat
  srx : Nat
  ofs : Nat
  deriving DecidableEq, Repr

/-- Slot `k` of bank `b`. -/
def busSlot (c b k : Nat) (s : State) : Slot :=
  let g := R.CBUS_SLOT_CFG c b k
  let t := R.CBUS_SLOT_TX c b k
  let r := R.CBUS_SLOT_RX c b k
  ⟨k, s.dg (R.CBUS_SLOT_TIME c b k) F.CBUS_SLOT_TIME_TIME * 1000, s.dg g F.CBUS_SLOT_CFG_EN == 1,
    s.dg g F.CBUS_SLOT_CFG_KIND, s.dg g F.CBUS_SLOT_CFG_MUX_LOG2, s.dg g F.CBUS_SLOT_CFG_MUX_PHASE,
    s.dg g F.CBUS_SLOT_CFG_STATION, s.dg t F.CBUS_SLOT_TX_TXMAP_FIRST, s.dg t F.CBUS_SLOT_TX_TXMAP_N,
    s.dg t F.CBUS_SLOT_TX_TX_WORDS, s.dg r F.CBUS_SLOT_RX_RX_WORDS, s.dg r F.CBUS_SLOT_RX_RX_SWORDS,
    s.dg r F.CBUS_SLOT_RX_RX_OFS⟩

/-- The slot is active in cycle `n` (R315). -/
def Slot.active (x : Slot) (n : Nat) : Bool := x.en && n % 2 ^ x.mux == x.phase

/-- The enabled slots of a bank. -/
def busSlots (c b : Nat) (s : State) : List Slot := ((List.range 256).map (fun k => busSlot c b k s)).filter (·.en)

/-- The map entries of a slot: offset and count. -/
def slotMap (c b : Nat) (x : Slot) (s : State) : List (Nat × Nat) :=
  (List.range x.entries).map (fun i => (s.dg (R.CBUS_TXMAP c b (x.first + i)) F.CBUS_TXMAP_OFFSET,
    s.dg (R.CBUS_TXMAP c b (x.first + i)) F.CBUS_TXMAP_COUNT))

/-- P_k, U_k and TA_k of a station in ps. -/
def stnP (c k : Nat) (s : State) : Nat := s.dg (R.CBUS_STN_DELAY c k) F.CBUS_STN_DELAY_P * 1000
def stnU (c k : Nat) (s : State) : Nat := s.dg (R.CBUS_STN_DELAY c k) F.CBUS_STN_DELAY_U * 1000
def stnTa (c k : Nat) (s : State) : Nat := s.dg (R.CBUS_STN_MEAS c k) F.CBUS_STN_MEAS_TA * 1000

/-- The time of a poll with `n` payload words, from its timestamp point to its last bit. -/
def frameTime (c n : Nat) (s : State) : Nat := frameLen (compat c s) n * byteTime c s

/-- The interframe gap and the preamble (R302). -/
def frameGap (c : Nat) (s : State) : Nat := 20 * byteTime c s

/-- A after a departure at `d` of a poll with `n` words (R319). -/
def arrivalOf (c d n k : Nat) (s : State) : Nat := d + frameTime c n s + stnP c k s + stnTa c k s + stnU c k s

/-- The time of the longest response that a slot allows (R320). -/
def lMax (c : Nat) (x : Slot) (s : State) : Nat := frameTime c (x.rx + x.srx) s

/-- Each element of the list and the next satisfy `p`. -/
def adjacent {α : Type} (p : α → α → Bool) : List α → Bool
  | a :: b :: t => p a b && adjacent p (b :: t)
  | _ => true

/-- Check 0x4: polls keep their distance from the beacon and each other, and end before the next CT0. DEDUCED, log 91. -/
def downOk (c tcyc : Nat) (l : List Slot) (s : State) : Bool :=
  let fin := fun (x : Slot) => x.time + frameTime c x.tx s
  let o := l.mergeSort (fun a b => decide (a.time ≤ b.time))
  o.all (fun x => decide (frameTime c 8 s + frameGap c s ≤ x.time) && decide (fin x < tcyc))
    && adjacent (fun a b => decide (fin a + frameGap c s ≤ b.time)) o

/-- Check 0x5: the receive windows are apart, those of CYCLIC slots end before FB_DEADLINE, and all before the next CT0.
DEDUCED, log 91. -/
def windowsOk (c tcyc fb : Nat) (l : List Slot) (s : State) : Bool :=
  let lo := fun (x : Slot) => arrivalOf c x.time x.tx x.station s - guardPs c s
  let hi := fun (x : Slot) => arrivalOf c x.time x.tx x.station s + lMax c x s + guardPs c s
  let o := l.mergeSort (fun a b => decide (lo a ≤ lo b))
  o.all (fun x => decide (hi x < tcyc) && (x.kind != 0 || decide (hi x < fb)))
    && adjacent (fun a b => decide (hi a + frameGap c s ≤ lo b)) o

/-- Check 0x6: at no instant are more than 64 responses expected and not yet due. DEDUCED, log 91. -/
def waitsOk (c : Nat) (l : List Slot) (s : State) : Bool :=
  l.all (fun x => decide ((l.filter (fun y => decide (y.time ≤ x.time)
    && decide (x.time < arrivalOf c y.time y.tx y.station s))).length ≤ 64))

/-- Whether a CLE channel is mapped to Cell Bus channel `c` (R316). -/
def chanOnBus (c : Nat) (x : ChanTab) : Bool :=
  [x.pos, x.vel, x.force, x.vdc].any (fun w => w.any (fun t => t.bus == c)) || x.cmd == some c

/-- Whether a CLE channel mapped to channel `c` is closed. -/
def busClosed (c : Nat) (s : State) : Bool :=
  match s.chanter with
  | some q => (List.range 192).any (fun k => s.closedCh q k && chanOnBus c (s.chanTab k))
  | none => false

/-- The first failing check of R316 among `only` for bank `b`, with T_cyc, FB_DEADLINE and APPLY_OFS in ps; 0 where none fails.
DEDUCED, log 91. -/
def busCheck (c b tcyc fb apply : Nat) (only : List Nat) (s : State) : Nat :=
  let l := busSlots c b s
  let live := l.filter (fun x => present c x.station s)
  let phases := (List.range 64).map (fun n => live.filter (·.active n))
  let fails : Nat → Bool := fun k =>
    match k with
    | 1 => busClosed c s
    | 3 => l.any (fun x => x.tx != ((slotMap c b x s).map (·.2)).sum || decide (320 < x.tx) || decide (320 < x.rx + x.srx))
    | 4 => phases.any (fun p => !downOk c tcyc p s)
    | 5 => phases.any (fun p => !windowsOk c tcyc fb p s)
    | 6 => phases.any (fun p => !waitsOk c p s)
    | 7 => l.any (fun x => decide (6 < x.mux) || decide (2 ^ x.mux ≤ x.phase) || decide (2 ≤ x.kind))
    | 8 => l.any (fun x => decide (2048 < x.first + x.entries) || (slotMap c b x s).any (fun e => decide (32768 < e.1 + e.2)))
    | _ => live.any (fun x => x.kind == 0 && decide (apply < x.time + frameTime c x.tx s + stnP c x.station s
        + s.dg (R.CBUS_STN_STATUS c x.station) F.CBUS_STN_STATUS_APPLY_SETUP * 1000))
  ((only.find? fails).getD 0)

/-- The checks of R316. -/
def allChecks : List Nat := [1, 3, 4, 5, 6, 7, 8, 9]

/-- The first failing check of bank `b` under the cycle in force. DEDUCED, log 91. -/
def checkBank (c b : Nat) (s : State) : Nat :=
  busCheck c b s.tcyc (s.dg R.TIM_CYC_ACT_FB_DEADLINE F.TIM_CYC_ACT_PERIOD_VALUE * 1000)
    (s.dg R.TIM_CYC_ACT_APPLY_OFS F.TIM_CYC_ACT_PERIOD_VALUE * 1000) allChecks s

/-- The checks that R55 makes with a new cycle, for each channel that is not OFF: the first failing one, or 0. DEDUCED, log 100.
-/
def busCycleCheck (tcyc fb apply : Nat) (s : State) : Nat :=
  ((List.range 2).findSome? (fun c =>
    if busState c s = 0 then none
    else match busCheck c (actBank c s) tcyc fb apply allChecks s with
      | 0 => none
      | k => some k)).getD 0

/-! ## Polls (R315, R318, R323, R325, R328) -/

/-- The transmit buffers hold the command words of the previous cycle's commit (R328). DEDUCED, log 93. -/
def busFresh (s : State) : Bool :=
  match s.cbus.tx with
  | some (n, _) => n + 1 == s.n
  | none => false

/-- The payload of a CYCLIC slot from the frozen window (R315). DEDUCED, log 93. -/
def gatherTx (c b : Nat) (x : Slot) (s : State) : List Word :=
  match s.cbus.tx with
  | some (_, w) => (slotMap c b x s).flatMap (fun e => (List.range e.2).map (fun i => sGet (fun _ => (0 : Word)) w (e.1 + i)))
  | none => []

/-- The words that a commit freezes for PORT: those of the transmit window that are not 0, by offset (R315, R57). -/
def freezeTx (q : Plane) (s : State) : List (Nat × Word) :=
  (s.plane q).store.words.filterMap (fun e =>
    if s.cbus.txBase ≤ e.1 ∧ e.1 < s.cbus.txBase + 32768 then some (e.1 - s.cbus.txBase, e.2) else none)

/-- PORT takes the command image of a commit (R366). -/
def takeTx (n : Nat) (w : List (Nat × Word)) (s : State) : State := { s with cbus := { s.cbus with tx := some (n, w) } }

/-- Whether the slot is polled: in a cycle that runs, in RUN to every station but an ABSENT or MISMATCH one (R56, R315); in CONFIG a
mailbox goes to each found station (R332).  With no commit no mailbox is sent (R328), and none in FAILED (R456). -/
def polled (c : Nat) (x : Slot) (s : State) : Bool :=
  let st := busState c s
  inCycle s && x.active s.n && !(s.bus c).bad && (x.kind == 0 || busFresh s)
    && ((st == 5 && decide (2 ≤ stnState c x.station s)) || (st == 4 && x.kind == 1 && present c x.station s))

/-- A frame whose bits the master-side Mute cuts `late` ps before its end: the bytes that have left by then, without the FCS (R325). -/
def cutFrame (c late : Nat) (f : List Nat) (s : State) : List Nat := f.take (f.length - (late + byteTime c s - 1) / byteTime c s)

/-- POLL_DEPARTURE: the poll of an active slot, its departure `dev` ps from CT0 + TIME, with the queued mailbox of a MGMT slot.
DEDUCED, log 93. DEDUCED, log 99. -/
def execPollDeparture (c : Fin 2) (k : Fin 256) (dev : Int) (mail : List Word) (s : State) : Host.Outcome State Fault Refusal :=
  let b := actBank c s
  let x := busSlot c b k s
  settled (if polled c x s then
      let mgmt := x.kind == 1
      let null := !mgmt && !busFresh s
      let words := if mgmt then mail.take x.tx else if null then [] else gatherTx c b x s
      let d := ((s.ct0Hts + x.time : Nat) + dev).toNat
      let s1 := s.toTime d
      let s2 := if null then raiseCyc 6 (raiseBus c 12 (s1.count .a (R.CBUS_CH_CNT_NULL c) F.CBUS_CH_CNT_MISS_COUNT 1)) else s1
      let s3 := if dev < 0 ∨ 40000 < dev then raiseBus c 11 s2 else s2
      let y := s3.bus c
      let rel := y.mutes.contains x.station
      let fr := busFrame c 2 (b2n null + 2 * b2n mgmt + 4 * b2n rel) x.station k words s
      let a := arrivalOf c d words.length x.station s
      let w : SlotWait := ⟨k, x.station, a, a - guardPs c s, a + lMax c x s + guardPs c s, x.rx, x.srx, x.ofs, mgmt, false⟩
      let z := { y with waits := y.waits ++ [w] }
      s3.setBus c (if dev < 0 then z
        else if 40000 < dev then { z with poll := cutFrame c (dev.toNat - 40000) fr s }
        else { z with mutes := y.mutes.filter (· != x.station), poll := fr })
    else s)

/-! ## Responses (R308, R319 to R322, R326, R327, R333) -/

/-- The state without the wait of slot `k`, or with it replaced. -/
def setWait (c k : Nat) (w : Option SlotWait) (s : State) : State :=
  let x := s.bus c
  s.setBus c { x with waits := x.waits.flatMap (fun v => if v.slot = k then w.toList else [v]) }

/-- A station has answered: its missed run ends, a CONFIGURED one becomes ACTIVE at its first CYCLIC response, and a LOST one after
16 accepted responses in a row (R333). -/
def stnGood (c k : Nat) (cyclic : Bool) (s : State) : State :=
  let x := s.bus c
  let g := nth x.good k 0 + 1
  let s1 := (s.setBus c { x with good := x.good.set k g }).dp (R.CBUS_STN_STATUS c k) F.CBUS_STN_STATUS_MISS_RUN 0
  if stnState c k s = 2 ∧ cyclic then setStn c k 3 s1
  else if stnState c k s = 4 ∧ 16 ≤ g then raiseBus c 5 (setStn c k 3 s1)
  else s1

/-- A station has missed a slot: it is LOST after MISS_N in a row (R333). -/
def stnMissed (c k : Nat) (s : State) : State :=
  let x := s.bus c
  let m := min 31 (s.dg (R.CBUS_STN_STATUS c k) F.CBUS_STN_STATUS_MISS_RUN + 1)
  let s1 := (s.setBus c { x with good := x.good.set k 0 }).dp (R.CBUS_STN_STATUS c k) F.CBUS_STN_STATUS_MISS_RUN m
  if max 1 (s.dg (R.CBUS_CH_CFG c) F.CBUS_CH_CFG_MISS_N) ≤ m ∧ (stnState c k s = 2 ∨ stnState c k s = 3)
  then raiseBus c 4 (setStn c k 4 s1) else s1

/-- The envelopes of channel 2 connections in the safety section of a response reach the Warden over the warden–port link (R37, R327).
-/
def toWarden (c k : Nat) (ws : List Word) (s : State) : State :=
  match s.tab.safety with
  | none => s
  | some t => if !s.linkUp .wardenPort then s else each ((t.used .two).filter (fun e => e.1.place.isSome && e.1.bus == c && e.1.source == k)) (fun e s =>
      let p := e.1.place.getD 0
      let n := bitsAt (nth ws p 0) 20 8 + 2
      if p < ws.length then setConn .two .a e.2 { s.ssm2.conn e.2 with mail := (ws.drop p).take n } s else s) s

/-- An accepted response of a CYCLIC slot: the status word and the standard words in both stores (R326), the safety words to the
Warden. DEDUCED, log 99. -/
def takeResponse (c : Nat) (w : SlotWait) (f : BusFrame) (margin : Bool) (s : State) : State :=
  let nr := f.flags.toNat % 2
  let inv := if compat c s then 0 else f.invalid.toNat
  let st := 2 ^ 35 + nr * 2 ^ 34 + b2n margin * 2 ^ 33 + f.flags.toNat / 4 % 2 * 2 ^ 32 + inv * 2 ^ 16 + s.n % 2 ^ 16
  toWarden c w.station (if compat c s then [] else f.data.drop f.words.toNat)
    (s.sputVia portLink (s.cbus.imgBase + w.ofs) (wordN st :: f.data.take f.words.toNat))

/-- Whether the whole frame lies in the receive window of a slot (R320). -/
def inWindow (c : Nat) (f : BusFrame) (w : SlotWait) (s : State) : Bool :=
  decide (w.lo ≤ frameAt c f s) && decide (frameEnd c f s ≤ w.hi)

/-- A response with a bad FCS: CRC_ERR, its count, and the report to the CLE (R308, R326). -/
def badResponse (c : Nat) (f : BusFrame) (s : State) : State :=
  let s1 := raiseBus c 9 (s.count .a (R.CBUS_CH_CNT_CRC c) F.CBUS_CH_CNT_MISS_COUNT 1)
  match (s.bus c).waits.find? (fun w => !w.got && inWindow c f w s) with
  | some w => { s1 with cbus := { s1.cbus with crcFails := s1.cbus.crcFails ++ [(c, w.station)] } }
  | none => s1

/-- The slot that a response answers: the one that waits for it, whose window holds the frame and whose sections it does not
exceed (R315, R320). DEDUCED, log 99. -/
def answers (c : Nat) (f : BusFrame) (s : State) : Option SlotWait :=
  (s.bus c).waits.find? (fun w => !w.got && w.slot == f.slot.toNat && w.station == f.station.toNat && inWindow c f w s
    && decide (f.words.toNat ≤ w.rx) && decide (f.swords.toNat ≤ w.srx))

/-- The frame's timestamp point lies within A ± 80 ns (R319). -/
def onTime (c : Nat) (f : BusFrame) (w : SlotWait) (s : State) : Bool :=
  decide (frameAt c f s ≤ w.arr + 80000) && decide (w.arr ≤ frameAt c f s + 80000)

/-- Raise a flag where a bit says so. -/
def busIf (p : Bool) (c j : Nat) (s : State) : State := if p then raiseBus c j s else s

/-- RESPONSE_RECEIVED. -/
def execResponseReceived (c : Fin 2) (f : BusFrame) (s : State) : Host.Outcome State Fault Refusal :=
  let s0 := s.toTime (frameEnd c f s)
  settled (if busState c s ≠ 4 ∧ busState c s ≠ 5 then s0
    else if !f.fcs then badResponse c f s0
    else if !frameOk c f s ∨ f.kind ≠ 3 then s0
    else match answers c f s with
      | none => s0
      | some w =>
        let margin := !onTime c f w s
        let s1 := setWait c w.slot (some { w with got := true }) s0
        let s2 := busIf margin c 8 (busIf (bitN f.flags.toNat 2) c 13 (busIf (bitN f.flags.toNat 3) c 10 s1))
        let s3 := if bitN f.flags.toNat 0 then s2.count .a (R.CBUS_CH_CNT_NOTREADY c) F.CBUS_CH_CNT_MISS_COUNT 1 else s2
        let s4 := stnGood c w.station (!w.mgmt) s3
        if w.mgmt then s4.setBus c { s4.bus c with reply := (w.station, f.data.take f.words.toNat) }
        else takeResponse c w f margin s4)

/-- RECEIVE_WINDOW_CLOSE: a slot without an accepted response is missed; its status word alone is written (R320, R326). -/
def execReceiveWindowClose (c : Fin 2) (k : Fin 256) (s : State) : Host.Outcome State Fault Refusal :=
  settled (match (s.bus c).waits.find? (fun w => w.slot == k.val) with
    | none => s
    | some w =>
      let s1 := setWait c k none (s.toTime w.hi)
      if w.got then s1
      else
        let s2 := raiseBus c 7 (s1.count .a (R.CBUS_CH_CNT_MISS c) F.CBUS_CH_CNT_MISS_COUNT 1)
        let s3 := stnMissed c w.station s2
        if w.mgmt then s3 else s3.sputVia portLink (s3.cbus.imgBase + w.ofs) [wordN (s.n % 2 ^ 16)])

/-! ## Beacon and probe (R309 to R314) -/

/-- The cell time at which the beacon leaves the MAC: the transmit latency before it passes the MDI (R309). -/
def beaconMac (c : Nat) (s : State) : Nat :=
  s.ct0Hts + Config.beaconDelay c s.n % (byteTime c s + 1) - s.dg (R.CBUS_CH_LAT c) F.CBUS_CH_LAT_TX_LAT * 1000

/-- The beacon of cycle n, its departure corrected with TX_LAT (R309). -/
def beaconWords (c : Nat) (s : State) : List Word :=
  let dep := htsOfPs (beaconMac c s + s.dg (R.CBUS_CH_LAT c) F.CBUS_CH_LAT_TX_LAT * 1000)
  let ofs := fun (k : Nat) => s.dg k F.TIM_CYC_ACT_PERIOD_VALUE % 2 ^ 22
  [lo72 dep, hi72 dep, lo72 s.n, hi72 s.n,
    wordN (s.dg R.FED_CFG F.FED_CFG_FED_ID * 2 ^ 24 + s.dg R.TIM_CYC_ACT_PERIOD F.TIM_CYC_ACT_PERIOD_VALUE % 2 ^ 14),
    wordN (ofs R.TIM_CYC_ACT_SYNC_OFS), wordN (ofs R.TIM_CYC_ACT_APPLY_OFS), 0]

/-- CBUS_BEACON: the beacon leaves on a channel in RUN, BEACONING, PROBE or CONFIG. DEDUCED, log 98. -/
def sendBeacon (c : Nat) (s : State) : State :=
  if busState c s < 2 ∨ 5 < busState c s then s
  else s.setBus c { s.bus c with beacon := busFrame c 1 0 0 0 (beaconWords c s) s }

/-- PROBE_SEND: a probe follows the beacon (R312). DEDUCED, log 98. -/
def sendProbe (c : Nat) (s : State) : State :=
  let x := s.bus c
  let f := busFrame c 4 0 0 0 [wordN (echoGap c s / 1000), wordN x.cnt] s
  s.setBus c { x with cnt := x.cnt + 1, probe := f, probeX := s.ct0Hts + Config.probeDelay c s.n }

/-- The echoes of station `k`. -/
def echoOf (c k : Nat) (s : State) : EchoRec := ((s.bus c).echoes.find? (fun e => e.k == k)).getD ⟨k, [], 0, 0, 0⟩

/-- The stations of the line: up to the first with END = 1, or before the first that missed an echo (R314). DEDUCED, log 96. -/
def lineOf (c : Nat) (s : State) : Nat → Nat → Nat
  | 0, _ => 0
  | fuel + 1, k =>
    let e := echoOf c k s
    if e.rts.length < 8 then 0
    else if bitN e.w2.toNat 0 then 1
    else 1 + lineOf c s fuel (k + 1)

/-- RT_k in ns, averaged over the probes (R314). DEDUCED, log 96. -/
def rtOf (e : EchoRec) : Int := rneDiv e.rts.sum 8000

/-- Store what the probe gives for station `k` and those after it, with the sums of c, FD and FU so far, and RT, FD and FU of
the previous station (R314). DEDUCED, log 96. -/
def storeLine (c : Nat) : Nat → Nat → Rat → Nat → Nat → Option (Int × Nat × Nat) → State → State
  | 0, _, _, _, _, _, s => s
  | left + 1, k, csum, fds, fus, prev, s =>
    let e := echoOf c k s
    let fd := bitsAt e.w0 12 12
    let fu := bitsAt e.w0 0 12
    let ck : Rat := match prev with
      | none => (rtOf e : Rat) / 2
      | some (r, a, b) => ((rtOf e - r - (a : Int) - (b : Int) : Int) : Rat) / 2
    let p := (roundReal (csum + ck + (fds : Rat))).toNat
    let u := (roundReal (csum + ck + (fus : Rat))).toNat
    let s1 := (s.dp (R.CBUS_STN_DELAY c k) F.CBUS_STN_DELAY_P p).dp (R.CBUS_STN_DELAY c k) F.CBUS_STN_DELAY_U u
    let s2 := (s1.wr .a (R.CBUS_STN_MEAS c k) e.w0).wr .a (R.CBUS_STN_ID c k) e.w1
    let r := R.CBUS_STN_STATUS c k
    let s3 := ((s2.dp r F.CBUS_STN_STATUS_NULL_HOLD (bitsAt e.w2 1 2)).dp r F.CBUS_STN_STATUS_EXTRAP (bitsAt e.w2 3 1)).dp r
      F.CBUS_STN_STATUS_APPLY_SETUP (bitsAt e.w2 16 20)
    let s4 := s3.dp r F.CBUS_STN_STATUS_END (bitsAt e.w2 0 1)
    storeLine c left (k + 1) (csum + ck) (fds + fd) (fus + fu) (some (rtOf e, fd, fu)) s4

/-- Identities are checked as CONFIG begins: a station that differs from the device tables is MISMATCH, one of the tables beyond
FOUND is ABSENT, and each raises STATION_MISMATCH (R332). DEDUCED, log 95. -/
def checkIdents (c : Nat) (s : State) : State :=
  let tab := (s.tab.stations.filter (fun e => e.1 == c)).map (·.2)
  let s1 := each (List.range 64) (fun k s => setStn c k 0 (s.dp (R.CBUS_STN_STATUS c k) F.CBUS_STN_STATUS_MISS_RUN 0)) s
  let s2 := each (List.range (found c s)) (fun k s =>
    if tab.contains (k, s.rd .a (R.CBUS_STN_ID c k)) then s else raiseBus c 6 (setStn c k 1 s)) s1
  each (tab.filter (fun e => decide (found c s ≤ e.1))) (fun _ s => raiseBus c 6 s) s2

/-- PROBE_DONE: the delays of the line are stored and CONFIG begins (R314, R332). DEDUCED, log 96. -/
def finishProbe (c : Nat) (s : State) : State :=
  let n := lineOf c s 64 0
  let s1 := (storeLine c n 0 0 0 0 none s).dp (R.CBUS_CH_STATUS c) F.CBUS_CH_STATUS_FOUND n
  let s2 := raiseBus c 14 (s1.setBus c { s1.bus c with echoes := [], good := List.replicate 64 0 })
  checkIdents c (busEnter c 4 s2)

/-- ECHO_RECEIVED. DEDUCED, log 96. -/
def execEchoReceived (c : Fin 2) (f : BusFrame) (s : State) : Host.Outcome State Fault Refusal :=
  let s0 := s.toTime (frameEnd c f s)
  let x := s.bus c
  settled (if busState c s ≠ 3 then s0
    else if !f.fcs then raiseBus c 9 (s0.count .a (R.CBUS_CH_CNT_CRC c) F.CBUS_CH_CNT_MISS_COUNT 1)
    else if !frameOk c f s ∨ f.kind ≠ 5 ∨ f.data.length ≠ 3 then s0
    else
      let k := f.hop.toNat
      let e := echoOf c k s
      let rt : Int := (frameAt c f s : Int) - x.probeX - bitsAt (nth f.data 0 0) 24 12 * 1000 - k * echoGap c s
      if e.rts.length < x.cnt ∧ k < 64 then
        let e1 : EchoRec := ⟨k, e.rts ++ [rt], nth f.data 0 0, nth f.data 1 0, nth f.data 2 0⟩
        let s1 := s0.setBus c { x with echoes := x.echoes.filter (fun y => y.k != k) ++ [e1] }
        if x.cnt = 8 ∧ bitN (nth f.data 2 0).toNat 0 = true then finishProbe c s1 else s1
      else s0)

/-! ## Cycle start (R309, R312, R316, R332, R336) -/

/-- A bank that TABLE_APPLY has accepted takes effect; a channel held in CONFIG by a bank that failed enters RUN (R316). -/
def takeBank (c : Nat) (s : State) : State :=
  let x := s.bus c
  match x.bank with
  | none => s
  | some b =>
    let s1 := (s.setBus c { x with bank := none, bad := false }).dp (R.CBUS_CH_STATUS c) F.CBUS_CH_STATUS_ACT_BANK b
    if x.bad ∧ busState c s = 4 then busEnter c 5 s1 else s1

/-- What channel `c` does at CT0(n). -/
def busStart (c : Nat) (s : State) : State :=
  let s1 := takeBank c s
  match busState c s1 with
  | 2 =>
    let s2 := sendBeacon c s1
    let x := s2.bus c
    if 16 ≤ x.cnt + 1 then
      let s3 := busEnter c 3 s2
      s3.setBus c { s3.bus c with echoes := [] }
    else s2.setBus c { x with cnt := x.cnt + 1 }
  | 3 => if 8 ≤ (s1.bus c).cnt then sendBeacon c (finishProbe c s1) else sendProbe c (sendBeacon c s1)
  | _ => sendBeacon c s1

/-- The Cell Bus at CT0(n): the bases in force, then each channel. -/
def busCycle (s : State) : State :=
  let b := { s.cbus with
    crcFails := []
    txBase := s.dg R.CBUS_TXIMG_BASE F.CBUS_TXIMG_BASE_ADDR / 32768 * 32768
    imgBase := s.dg R.CBUS_IMG_BASE F.CBUS_IMG_BASE_ADDR }
  busStart 1 (busStart 0 { s with cbus := b })

/-! ## Channel states (R332 to R336) -/

/-- The end of a listen time that begins now (R332). -/
def listenEnd (s : State) : Nat := s.now + 2 * s.tcyc + s.dg R.FED_CFG F.FED_CFG_FED_ID % 64 * 10000000

/-- A channel enters a state in which it listens. DEDUCED, log 97. -/
def busListen (c code : Nat) (s : State) : State :=
  let s1 := busEnter c code s
  s1.setBus c { s1.bus c with listen := some (listenEnd s) }

/-- A channel stops transmitting. -/
def busQuiet (c : Nat) (s : State) : State := s.setBus c { s.bus c with waits := [] }

/-- CONFIG_COMPLETE: found stations are CONFIGURED; the channel enters RUN if its bank passes with the delays just probed (R316,
R332). DEDUCED, log 95. -/
def execConfigComplete (c : Fin 2) (s : State) : Host.Outcome State Fault Refusal :=
  settled (if busState c s ≠ 4 then s
    else
      let s1 := each (List.range (found c s)) (fun k s => if stnState c k s = 0 then setStn c k 2 s else s) s
      match checkBank c (actBank c s1) s1 with
      | 0 => busEnter c 5 s1
      | k => busRefuse c k (s1.setBus c { s1.bus c with bad := true }))

/-- FOREIGN_FRAME: a foreign BEACON, POLL or PROBE (R332). DEDUCED, log 97. -/
def execForeignFrame (c : Fin 2) (f : BusFrame) (s : State) : Host.Outcome State Fault Refusal :=
  let s0 := s.toTime (frameEnd c f s)
  settled (if !frameOk c f s ∨ (f.kind ≠ 1 ∧ f.kind ≠ 2 ∧ f.kind ≠ 4) then s0
    else match busState c s with
      | 1 => busEnter c 7 (raiseBus c 2 s0)
      | 6 => busEnter c 7 (raiseBus c 2 s0)
      | 5 =>
        let s1 := busListen c 6 (busQuiet c (raiseBus c 2 s0))
        let again := match (s.bus c).backAt with
          | some n => decide (s.n ≤ n + 64)
          | none => false
        let s2 := s1.setBus c { s1.bus c with backAt := some s.n }
        if again then busEnter c 7 s2 else s2
      | _ => s0)

/-- LISTEN_TIME_EXPIRY (R332). DEDUCED, log 97. -/
def execListenTimeExpiry (c : Fin 2) (s : State) : Host.Outcome State Fault Refusal :=
  settled (match (s.bus c).listen with
    | none => s
    | some t =>
      let s1 := s.toTime t
      if busState c s = 1 then busEnter c 2 s1 else if busState c s = 6 then busEnter c 5 s1 else s1)

/-- MASTER_LINK_DOWN: LINK_DOWN, and the channel stays in its state (R334). -/
def execMasterLinkDown (c : Fin 2) (s : State) : Host.Outcome State Fault Refusal := settled (raiseBus c 3 s)

/-- SPEED is reserved, or COMPAT runs at another speed than 100 Mb/s (R335, R336). -/
def speedBad (c : Nat) (s : State) : Bool :=
  let v := s.dg (R.CBUS_CH_CFG c) F.CBUS_CH_CFG_SPEED
  v == 3 || (compat c s && v != 0)

/-- CBUS_CH_CMD START. -/
def busStartCmd (c : Nat) (s : State) : State :=
  if busState c s ≠ 0 then busRefuse c 2 s
  else if speedBad c s then busRefuse c 11 s
  else busListen c 1 (s.setBus c { BusSt.initial with bank := (s.bus c).bank })

/-- CBUS_CH_CMD STOP. -/
def busStopCmd (c : Nat) (s : State) : State :=
  if busClosed c s then busRefuse c 1 s
  else if busState c s = 0 then s
  else busEnter c 0 (busQuiet c s)

/-- CBUS_CH_CMD RELEASE. -/
def busReleaseCmd (c : Nat) (s : State) : State := if busState c s = 7 then busListen c 1 s else busRefuse c 2 s

/-- CBUS_CH_CMD REPROBE. -/
def busReprobeCmd (c : Nat) (s : State) : State :=
  if busState c s ≠ 5 then busRefuse c 2 s
  else if busClosed c s then busRefuse c 1 s
  else busEnter c 2 (busQuiet c s)

/-- CBUS_CH_CMD TABLE_APPLY: the bank not in force is checked, and takes effect at the next CT0 (R316). DEDUCED, log 92. -/
def busApplyCmd (c : Nat) (s : State) : State :=
  let b := 1 - actBank c s
  if compat c s ∧ speedBad c s then busRefuse c 11 s
  else match checkBank c b s with
    | 0 => s.setBus c { s.bus c with bank := some b }
    | k => busRefuse c k s

/-- CBUS_CH_CMD MUTE_RELEASE for station ARG (R323). DEDUCED, log 92. -/
def busMuteCmd (c : Nat) (s : State) : State :=
  let k := s.dg (R.CBUS_CH_ARG c) F.CBUS_CH_ARG_STATION
  let x := s.bus c
  s.setBus c { x with mutes := if x.mutes.contains k then x.mutes else x.mutes ++ [k] }

/-- CBUS_START (R332, R335). -/
def execCbusStart (c : Fin 2) (s : State) : Host.Outcome State Fault Refusal := settled (busStartCmd c s)

/-- CBUS_STOP (R332). -/
def execCbusStop (c : Fin 2) (s : State) : Host.Outcome State Fault Refusal := settled (busStopCmd c s)

/-- CBUS_RELEASE (R332). -/
def execCbusRelease (c : Fin 2) (s : State) : Host.Outcome State Fault Refusal := settled (busReleaseCmd c s)

/-- REPROBE (R332). -/
def execReprobe (c : Fin 2) (s : State) : Host.Outcome State Fault Refusal := settled (busReprobeCmd c s)

/-- TABLE_APPLY (R316). -/
def execTableApply (c : Fin 2) (s : State) : Host.Outcome State Fault Refusal := settled (busApplyCmd c s)

/-- MUTE_RELEASE (R323). -/
def execMuteRelease (c : Fin 2) (s : State) : Host.Outcome State Fault Refusal := settled (busMuteCmd c s)

/-- A write of CBUS_CH_CMD (R336). -/
def busCmd (c code : Nat) (s : State) : State :=
  match code with
  | 0 => s
  | 1 => busStartCmd c s
  | 2 => busStopCmd c s
  | 3 => busReleaseCmd c s
  | 4 => busReprobeCmd c s
  | 5 => busApplyCmd c s
  | 6 => busMuteCmd c s
  | _ => busRefuse c 10 s

/-- CBUS_CMD_RESERVED: codes 0x7..0xF (R336). -/
def execCbusCmdReserved (c : Fin 2) (code : BitVec 4) (s : State) : Host.Outcome State Fault Refusal :=
  settled (if 7 ≤ code.toNat then busCmd c code.toNat s else s)

/-- The channels that protect a register of CBUS against a write (R336): the channel whose bank is in force; for CBUS_CH_CFG the
channel outside OFF; for CBUS_CFG and CBUS_MAC every channel outside OFF. DEDUCED, log 94. -/
def busGuards (k : Nat) (s : State) : List Nat :=
  if k < R.CBUS_TXIMG_BASE then (List.range 2).filter (fun c => busState c s != 0)
  else (List.range 2).filter (fun c =>
    (k == R.CBUS_CH_CFG c && busState c s != 0)
      || (List.range 2).any (fun b => actBank c s == b
        && ((decide (R.CBUS_SLOT_TIME c b 0 ≤ k) && decide (k < R.CBUS_SLOT_TIME c b 256))
          || (decide (R.CBUS_TXMAP c b 0 ≤ k) && decide (k < R.CBUS_TXMAP c b 2048)))))

/-- A write of a register of CBUS that R336 protects. DEDUCED, log 94. -/
def writeBus (k : Nat) (v : Word) (s : State) : State :=
  match busGuards k s with
  | [] => s.writeRw .a k v
  | l => each l (fun c s => busRefuse c 2 s) s

/-- The slot of a protected register. -/
def busSlotOf : BusReg → Nat
  | .cfg => R.CBUS_CFG
  | .macHi => R.CBUS_MAC_HI
  | .macLo => R.CBUS_MAC_LO
  | .chCfg c => R.CBUS_CH_CFG c
  | .slotTime c b k => R.CBUS_SLOT_TIME c b k
  | .slotCfg c b k => R.CBUS_SLOT_CFG c b k
  | .slotTx c b k => R.CBUS_SLOT_TX c b k
  | .slotRx c b k => R.CBUS_SLOT_RX c b k
  | .txmap c b e => R.CBUS_TXMAP c b e

/-- CBUS_CONFIG_WRITE (R336). -/
def execCbusConfigWrite (r : BusReg) (v : Word) (s : State) : Host.Outcome State Fault Refusal :=
  settled (writeBus (busSlotOf r) v s)

end Sys2Proof.Machine
end

