-- ==== Sys2Proof/Machine/Planner.lean ====
section
/-! DEFINITION. The planner's step at an interpolation with the target image, its work at the commit, and the commands of
the Stitch queues: queue commands, Stitches, register writes and timeouts (R95, R96, R100, R103, R105, R130, R135, R137). -/

namespace Sys2Proof.Machine

/-! ## The target image (R137, R530, R531) -/

/-- The parameter u of a JOINT section with its rate and second rate, and the ends, while one is the arm's section. -/
def jointNow (ar : Arm) (acc : Rat) : Option (List Word × List Word × Rat × Rat × Rat) :=
  match sectAt ar.cur ar.sects ar.x with
  | some (c, u) => match c.geo with
    | .joint q0 q1 =>
      let k := if c.w = 0 then 1 else c.len / c.w
      if c.len = 0 then some (q0, q1, 1, 0, 0) else some (q0, q1, u, ar.sigma * ar.v * k, acc * k)
    | _ => none
  | none => none

/-- The commanded path acceleration in the path coordinate (R123). -/
def pathAcc (ar : Arm) (T : Rat) : Rat :=
  ar.sigma * ar.sigma * ar.acc + (if T = 0 then 0 else (ar.sigma - ar.sigmaPrev) / T * ar.v)

/-- Joint targets, velocities and accelerations of an arm: 16 words each. -/
def jointWords (q : Plane) (a : Nat) (s : State) : List Word × List Word × List Word :=
  let ar := s.arm q a
  let lin := fun i => match s.jointAxis a i with
    | some t => t.linear
    | none => false
  match jointNow ar (pathAcc ar s.cycSec) with
  | some (q0, q1, u, ud, udd) =>
    let d := fun i => ((nth q1 i 0).toInt - (nth q0 i 0).toInt : Int)
    let fmt := fun i => if lin i then 30 else 28
    ((List.range 16).map (fun i => ratWord (fmt i) (((nth q0 i 0).toInt + d i * u) / 2 ^ fmt i)),
      (List.range 16).map (fun i => ratWord 24 (d i * ud / 2 ^ fmt i)),
      (List.range 16).map (fun i => ratWord 16 (d i * udd / 2 ^ fmt i)))
  | none => (ar.joints, List.replicate 16 0, List.replicate 16 0)

/-- An external axis stands where a JOINT last put it, or before that where the solve last published it (R531). -/
def heldExt (q : Plane) (a : Nat) (ar : Arm) (js : List Word) (s : State) : List Word :=
  let ps := armPos q a s
  js.zipIdx.map (fun e => if 8 ≤ e.2 ∧ !bitN ar.moved (e.2 - 8) then nth ps e.2 0 else e.1)

/-- The commanded positions of an arm's joints and external axes in this cycle (R530, R531). -/
def commandJoints (q : Plane) (a : Nat) (s : State) : State :=
  let ar := s.arm q a
  s.setArm q a { ar with joints := heldExt q a ar (if ar.kind = 2 then (jointWords q a s).1 else ar.joints) s }

/-- Pose and motion of an arm, 19 words: those that the kinematics give for its joints with KIND 0x2, else those of its path (R123,
R137, R530). -/
def armMotion (q : Plane) (a : Nat) (s : State) : List Word :=
  let ar := s.arm q a
  let jw := jointWords q a s
  if ar.kind = 2 then Config.forwardKinematics a (calWords q s) ar.tool (ar.joints.take 8 ++ jw.2.1.take 8 ++ jw.2.2.take 8)
  else match ar.cur, sectAt ar.cur ar.sects ar.x with
    | some _, some (c, u) =>
      let e := geoAt (partNow q a s) c.geo u
      let k := ownScaleAt ar.cur ar.sects ar.x
      placePose e ++ (if ar.v = 0 then List.replicate 12 0 else placeMotion e (ar.sigma * ar.v * k) (pathAcc ar s.cycSec * k))
    | _, _ => ar.pose ++ List.replicate 12 0

/-- The 64 words of an arm; the commanded pose is kept (R137, R530). -/
def armImage (q : Plane) (a : Nat) (s : State) : List Word × State :=
  let ar := s.arm q a
  let jw := jointWords q a s
  let tag := match sectAt ar.cur ar.sects ar.x with
    | some (c, u) => if c.isBlend ∧ c.mid < u then c.tag2 else c.st.tag
    | none => 0
  let kind := if ar.kind = 2 then 2 else if ar.v = 0 then 0 else 1
  let jn := fun (l : List Word) => if kind = 2 then l.take 8 else List.replicate 8 0
  let fit := fun (n : Nat) (l : List Word) => (l ++ List.replicate n 0).take n
  let pm := fit 19 (armMotion q a s)
  (wordN (kind * 2 ^ 32 + tag) :: (pm ++ fit 8 (jn ar.joints) ++ fit 8 (jn jw.2.1) ++ fit 8 (jn jw.2.2)
      ++ [s.rd q (R.PLN_ARM_SCALE a), s.rd q (R.PLN_ARM_PATH a)] ++ List.replicate 18 0),
    s.setArm q a { ar with pose := pm.take 7 })

/-- The four words of auxiliary axis `k` (R531). -/
def auxImage (q : Plane) (k : Nat) (s : State) : List Word :=
  match auxOwner k s with
  | some (a, i) =>
    let jw := jointWords q a s
    let run := (s.arm q a).kind = 2
    [nth (s.arm q a).joints (8 + i) 0, if run then nth jw.2.1 (8 + i) 0 else 0, if run then nth jw.2.2 (8 + i) 0 else 0, 1]
  | none => [axisPos q (128 + k) s, 0, 0, 0]

/-- The speed that a speed-locked loop of an arm follows, LEAD ahead: path speed, or what the kinematics give for a JOINT (R135). -/
def leadSpeed (q : Plane) (a p : Nat) (s : State) : Rat :=
  let ar := s.arm q a
  let lead : Rat := (s.get q (R.PLN_PROC_CFG p) F.PLN_PROC_CFG_LEAD : Nat) / 1000000
  let e := evalPhases (restOf ar) ar.phases (ar.tau + ar.sigma * lead)
  match sectAt none ar.sects e.1 with
  | some (c, u) => match c.geo with
    | .joint q0 q1 =>
      let lin := fun i => match s.jointAxis a i with
        | some t => t.linear
        | none => false
      let d := fun i => ((nth q1 i 0).toInt - (nth q0 i 0).toInt : Int)
      let ps := (List.range 8).map (fun i => wordI (rneRat ((nth q0 i 0).toInt + u * d i)))
      let vs := (List.range 8).map (fun i => ratWord 24 (d i * (ar.sigma * e.2.1) / 2 ^ (if lin i then 30 else 28)))
      let m := Config.forwardKinematics a (calWords q s) c.st.modal.tool (ps ++ vs ++ List.replicate 8 0)
      vecLen ⟨fixed (nth m 7 0) 24, fixed (nth m 8 0) 24, fixed (nth m 9 0) 24⟩
    | g => if isRotation g then 0 else ar.sigma * e.2.1 * ownScaleAt none ar.sects e.1
  | none => 0

/-- PROC_SETPOINT: set-point of process loop `p`, and its speed (R82, R83, R135). -/
def loopValue (q : Plane) (p : Nat) (s : State) : Rat × Rat :=
  let l := nth (s.pln q).loops p Loop.initial
  match l.lock, (List.range 16).find? (fun a => (s.armTab a).loops.contains p) with
  | some r, some a =>
    let v := leadSpeed q a p s
    (ratMax 0 (ratMin 1 (if r = 0 then 0 else l.value * v / r)), v)
  | _, _ => (l.value, 0)

/-- The two words of process loop `p`; its set-point is kept (R137). -/
def writeLoop (q : Plane) (p : Nat) (at' : Nat) (s : State) : State :=
  let e := loopValue q p s
  let pl := s.pln q
  (s.setPln q { pl with loops := pl.loops.set p { nth pl.loops p Loop.initial with out := e.1 } }).sputs q at'
    [ratWord 34 e.1, ratWord 24 e.2]

/-- The word address of the target image in force. -/
def tgtBase (q : Plane) (s : State) : Nat := (s.act q R.PLN_TGT_BASE).toNat / 2048 * 2048

/-- TARGET_IMAGE_WRITE (R137): the joints of all arms first, since PART frames follow them (R80). -/
def writeImage (q : Plane) (s : State) : State :=
  let b := tgtBase q s
  let s0 := each (List.range 16) (commandJoints q) s
  let s1 := each (List.range 16) (fun a s => let r := armImage q a s; r.2.sputs q (b + 64 * a) r.1) s0
  let s2 := each (List.range 32) (fun k s => s.sputs q (b + 1024 + 4 * k) (auxImage q k s)) s1
  each (List.range 32) (fun p => writeLoop q p (b + 1152 + 2 * p)) s2

/-! ## The interpolation (R130) -/

/-- An arm with AUTOSTART and a copied stream starts at the interpolation of the first cycle whose CT0 follows READY (R98). -/
def autostart (q : Plane) (a : Nat) (s : State) : State :=
  if s.isReady && decide (s.boot.readyAt < s.ct0) && (s.arm q a).copied then
    let s1 := s.setArm q a { s.arm q a with copied := false }
    if s.is q (R.PLN_Q_CFG a) F.PLN_Q_CFG_AUTOSTART && qState q a s == 0 then queueCmd q a 1 s1 else s1
  else s

/-- What an arm reaches at an interpolation (R69, R90, R130 step 1). -/
def reachArm (q : Plane) (a : Nat) (s : State) : State :=
  let s0 := noteRest q a s
  let s1 := reachMany q a 2048 (s0.setArm q a (dropPassed (s0.arm q a)))
  restHeld q a (reachMany q a 2048 (evalWaitio q a s1))

/-- The commands of an arm, then its fetch (R99, R100, R107, R525, R527). -/
def commandArm (q : Plane) (a : Nat) (s : State) : State :=
  let s1 := if qState q a s = 0 ∧ s.is q (R.PLN_Q_STATUS a) F.PLN_Q_STATUS_CFG_PENDING then applyQCfg q a s else s
  let s2 := autostart q a (actHeld q a (takeCmds q a s1))
  fetchArm q a (checkLoops q a (resumeDone q a s2))

/-- Step 1 of R130: reach for every arm, the zone requests, whose faults come before the commands, the commands, and the
requests for what has been fetched (R100, R128). DEDUCED, log 46. -/
def plnStep1 (q : Plane) (s : State) : State :=
  let s1 := each (List.range 16) (reachArm q) s
  let s2 := each (List.range 16) (placeRequest q) s1
  let s3 := each (List.range 16) (commandArm q) s2
  each (List.range 16) (placeRequest q) s3

/-- Step 2 of R130: the messages of the peers, and the cycles without one (R132 to R134). -/
def plnStep2 (q : Plane) (s : State) : State :=
  let msgs := (s.pln q).inbox
  each (List.range 16) (bzCount q msgs) (each msgs (borderMsg q) (s.setPln q { s.pln q with inbox := [] }))

/-- PEER_BZ of border zone `b`. -/
def peerBz (q : Plane) (b : Nat) (s : State) : Nat := s.get q (R.PLN_BZ_CFG b) F.PLN_BZ_CFG_PEER_BZ

/-- A border-zone message of the interpolation as a ZONE word to the peer of its zone; the owner of a zone sends no release (R132,
R352). -/
def zoneWord (q : Plane) (m : BorderMsg) (s : State) : Option (Nat × Word) :=
  match m with
  | .request b a prio _ => some (b, wordN (2 ^ 32 + b * 2 ^ 28 + a * 2 ^ 24 + prio * 2 ^ 20))
  | .grant b a => some (b, wordN (2 * 2 ^ 32 + peerBz q b s * 2 ^ 28 + a * 2 ^ 24))
  | .release b _ => if ownsBz q b s then none else some (b, wordN (3 * 2 ^ 32 + b * 2 ^ 28))
  | _ => none

/-- The HOLDING and CONFIG words of border zone `b` (R352). -/
def zoneState (q : Plane) (b : Nat) (s : State) : List Word :=
  let z := R.PLN_ZONE (64 + b)
  let own := s.get q z F.PLN_ZONE_HELD == 1 && s.get q z F.PLN_ZONE_PEER == 0
  [wordN (4 * 2 ^ 32 + b * 2 ^ 28 + b2n own * 2 ^ 27 + s.get q z F.PLN_ZONE_ARM * 2 ^ 23),
    wordN (5 * 2 ^ 32 + b * 2 ^ 28 + peerBz q b s * 2 ^ 24 + s.get q (R.PLN_BZ_CFG b) F.PLN_BZ_CFG_PEER_ID * 2 ^ 12)]

/-- The ZONE words that stand now, each with its border zone (R352). -/
def zoneWords (q : Plane) (s : State) : List (Nat × Word) :=
  (List.range 16).flatMap (fun b => (zoneState q b s).map (fun w => (b, w)))
    ++ (s.pln q).outbox.filterMap (fun m => zoneWord q m s)

/-- The planner's interpolation (R130): reach and releases; border messages; grants; time scaling and profiles; the target
image. DEDUCED, log 46. -/
def plnInterpolate (q : Plane) (s : State) : State :=
  let s0 := s.setPln q { s.pln q with outbox := [], zoneWas := zoneWords q s }
  let s3 := each (List.range 80) (grantZone q) (plnStep2 q (plnStep1 q s0))
  let s4 := each (List.range 16) (scaleArm q) s3
  let s5 := each (List.range 16) (fun a s => evalArm q a (predictArm q a s)) s4
  let s6 := each (List.range 16) (readyJoint q) s5
  let s7 := each (List.range 16) (replan q) s6
  let s8 := each (List.range 16) (checkStarved q) s7
  writeImage q s8

/-- CHECKPOINT_WRITE: the records of an arm at the commit (R103, R105). DEDUCED, log 47. -/
def writeRecords (q : Plane) (a : Nat) : Nat → State → State
  | 0, s => s
  | k + 1, s =>
    let ar := s.arm q a
    let lg := s.get q (R.PLN_CKP_CFG a) F.PLN_CKP_CFG_SIZE_LOG2
    match ar.records with
    | [] => s
    | r :: rest =>
      if lg = 0 ∨ 9 ≤ lg then s.setArm q a { ar with records := [] }
      else
        let wr := s.get q (R.PLN_CKP_WR a) F.PLN_CKP_WR_COUNT
        let used := (wr + 2 ^ 32 - s.get q (R.PLN_CKP_RD a) F.PLN_CKP_RD_COUNT) % 2 ^ 32
        let full := decide (2 ^ lg ≤ used)
        if full && s.is q (R.PLN_Q_CFG a) F.PLN_Q_CFG_CKP_FULL then s
        else
          let base := (s.rd q (R.PLN_CKP_BASE a)).toNat / 2 ^ (7 + lg) * 2 ^ (7 + lg)
          let s1 := if full then raiseQ q a 5 s else s
          let s2 := (s1.setArm q a { ar with records := rest }).sputs q (base + 128 * (wr % 2 ^ lg)) r
          let s3 := raiseQ q a 4 (s2.put q (R.PLN_CKP_WR a) F.PLN_CKP_WR_COUNT ((wr + 1) % 2 ^ 32))
          let s4 := if rest = [] ∧ (waitCode q a s3 = 5 ∨ (s3.arm q a).ckpStop = true) then
              unstop q a (endWait q a (s3.setArm q a { s3.arm q a with ckpStop := false })) else s3
          writeRecords q a k s4

/-- The planner's part of a commit. -/
def plnCommit (q : Plane) (s : State) : State := each (List.range 16) (fun a => writeRecords q a 512) s

/-! ## Queue commands -/

/-- A queue command of the Chanter takes effect, with the code in its shadow. DEDUCED, log 29. -/
def queueRow (a code : Nat) (s : State) : State :=
  s.onChanter (fun q s => queueCmd q a code (s.put q (R.PLN_Q_CMD a) F.PLN_Q_CMD_CODE code))

/-- A host write of PLN_Q_CMD: it takes effect at the interpolation (R100). DEDUCED, log 29. -/
def writeQCmd (q : Plane) (a code : Nat) (s : State) : State :=
  let s1 := s.put q (R.PLN_Q_CMD a) F.PLN_Q_CMD_CODE code
  s1.setArm q a { s1.arm q a with cmds := (s1.arm q a).cmds ++ [code] }

/-- START (R100). -/
def execQStart (a : Fin 16) (s : State) : Host.Outcome State Fault Refusal := settled (queueRow a 1 s)

/-- HOLD (R100, R119). -/
def execQHold (a : Fin 16) (s : State) : Host.Outcome State Fault Refusal := settled (queueRow a 2 s)

/-- RELEASE (R100, R526). -/
def execQRelease (a : Fin 16) (s : State) : Host.Outcome State Fault Refusal := settled (queueRow a 3 s)

/-- CLEAR_FAULT (R100, R525). -/
def execQClearFault (a : Fin 16) (s : State) : Host.Outcome State Fault Refusal := settled (queueRow a 4 s)

/-- SKIP (R100). -/
def execQSkip (a : Fin 16) (s : State) : Host.Outcome State Fault Refusal := settled (queueRow a 5 s)

/-- FLUSH (R100, R525). -/
def execQFlush (a : Fin 16) (s : State) : Host.Outcome State Fault Refusal := settled (queueRow a 6 s)

/-- CONTINUE (R100). -/
def execQContinue (a : Fin 16) (s : State) : Host.Outcome State Fault Refusal := settled (queueRow a 7 s)

/-- RESUME_AT (R106, R107). -/
def execQResumeAt (a : Fin 16) (s : State) : Host.Outcome State Fault Refusal := settled (queueRow a 8 s)

/-- QUEUE_CMD_RESERVED: refused with REFUSE = 0x7 (R109). -/
def execQueueCmdReserved (a : Fin 16) (code : BitVec 4) (s : State) : Host.Outcome State Fault Refusal :=
  settled (queueRow a code.toNat s)

/-! ## Writes of the queue's counts (R95, R96, R105, R138) -/

/-- A write of PLN_Q_WR (R95, R96). -/
def writeWr (q : Plane) (a : Nat) (fed : Bool) (v : Nat) (s : State) : State :=
  let ar := s.arm q a
  let old := s.get q (R.PLN_Q_WR a) F.PLN_Q_WR_COUNT
  let f := s.get q (R.PLN_Q_FETCH a) F.PLN_Q_FETCH_COUNT
  if decide (ar.src = 1) != fed then raiseQ q a 12 s
  else if (v + 2 ^ 32 - old) % 2 ^ 32 ≤ 2 ^ ar.size ∧ (v + 2 ^ 32 - f) % 2 ^ 32 ≤ 2 ^ ar.size then
    s.put q (R.PLN_Q_WR a) F.PLN_Q_WR_COUNT v
  else raiseQ q a 11 s

/-- A write of PLN_CKP_RD (R105). -/
def writeCkpRd (q : Plane) (a : Nat) (fed : Bool) (v : Nat) (s : State) : State :=
  let old := s.get q (R.PLN_CKP_RD a) F.PLN_CKP_RD_COUNT
  let wr := s.get q (R.PLN_CKP_WR a) F.PLN_CKP_WR_COUNT
  if decide ((s.arm q a).src = 1) != fed then raiseQ q a 12 s
  else if (v + 2 ^ 32 - old) % 2 ^ 32 ≤ (wr + 2 ^ 32 - old) % 2 ^ 32 then s.put q (R.PLN_CKP_RD a) F.PLN_CKP_RD_COUNT v
  else raiseQ q a 11 s

/-- A write of PLN_ARM_OVR (R138). -/
def writeOvr (q : Plane) (a : Nat) (v : Word) (s : State) : State :=
  if unitQ36 v then s.wr q (R.PLN_ARM_OVR a) v else raiseA q a 6 s

/-- A write of PLN_Q_BASE or PLN_Q_CFG: base, size and source wait for IDLE (R99). -/
def writeQCfg (q : Plane) (a : Nat) (cfg : Bool) (v : Word) (s : State) : State :=
  let ar := s.arm q a
  let s1 := if cfg then
      let w := s.rd q (R.PLN_Q_CFG a)
      s.wr q (R.PLN_Q_CFG a) (F.PLN_Q_CFG_SIZE_LOG2.set (F.PLN_Q_CFG_SRC.set (F.PLN_Q_CFG_CKP_FULL.set (F.PLN_Q_CFG_HL4060.set
        (F.PLN_Q_CFG_AUTOSTART.set w (F.PLN_Q_CFG_AUTOSTART.get v)) (F.PLN_Q_CFG_HL4060.get v)) (F.PLN_Q_CFG_CKP_FULL.get v))
        (F.PLN_Q_CFG_SRC.get v)) (F.PLN_Q_CFG_SIZE_LOG2.get v))
    else s.wr q (R.PLN_Q_BASE a) v
  let size := s1.get q (R.PLN_Q_CFG a) F.PLN_Q_CFG_SIZE_LOG2
  let same := decide ((s1.rd q (R.PLN_Q_BASE a)).toNat / 2 ^ size * 2 ^ size = ar.base)
    && decide (s1.get q (R.PLN_Q_CFG a) F.PLN_Q_CFG_SIZE_LOG2 = ar.size) && decide (s1.get q (R.PLN_Q_CFG a) F.PLN_Q_CFG_SRC = ar.src)
  s1.put q (R.PLN_Q_STATUS a) F.PLN_Q_STATUS_CFG_PENDING (b2n (!same))

/-- WR_WRITE (R95, R96). -/
def execWrWrite (a : Fin 16) (fed : Bool) (v : BitVec 32) (s : State) : Host.Outcome State Fault Refusal :=
  settled (s.onChanter (fun q => writeWr q a fed v.toNat))

/-- CKP_RD_WRITE (R105). -/
def execCkpRdWrite (a : Fin 16) (fed : Bool) (v : BitVec 32) (s : State) : Host.Outcome State Fault Refusal :=
  settled (s.onChanter (fun q => writeCkpRd q a fed v.toNat))

/-- OVR_WRITE (R138). -/
def execOvrWrite (a : Fin 16) (v : Word) (s : State) : Host.Outcome State Fault Refusal :=
  settled (s.onChanter (fun q => writeOvr q a v))

/-! ## Stitches -/

/-- The opcode of the next Stitch in the arm's ring (R93). -/
def ringOpcode (q : Plane) (a : Nat) (s : State) : Option Opcode :=
  let ar := s.arm q a
  let size := 2 ^ ar.size
  opcodeOf (bitsAt (s.sw q (ar.base / size * size + s.get q (R.PLN_Q_FETCH a) F.PLN_Q_FETCH_COUNT % size)) 30 6)

/-- One Stitch of an arm runs: it is taken into look-ahead if it stands next in the ring, and it takes effect if the path
parameter has reached it (R69, R93, R534). -/
def runStitch (q : Plane) (a : Nat) (op : Opcode) (s : State) : State :=
  let st := qState q a s
  let s1 := if (st == 1 || st == 2 || st == 3 || st == 4) && ringOpcode q a s == some op then (fetchOne q a s).getD s else s
  if reaches q a s1 then
    match reachable (s1.arm q a) with
    | some t => if t.op = op then reachStitch q a t s1 else s1
    | none => s1
  else s1

/-- A Stitch row on the Chanter. -/
def stitchRow (a : Nat) (op : Opcode) (s : State) : State := s.onChanter (fun q => runStitch q a op)

/-- NOP (R92). -/
def execStitchNop (a : Fin 16) (s : State) : Host.Outcome State Fault Refusal := settled (stitchRow a .nop s)

/-- LINE (R73). -/
def execStitchLine (a : Fin 16) (s : State) : Host.Outcome State Fault Refusal := settled (stitchRow a .line s)

/-- ARC (R74). -/
def execStitchArc (a : Fin 16) (s : State) : Host.Outcome State Fault Refusal := settled (stitchRow a .arc s)

/-- SPLINE (R75). -/
def execStitchSpline (a : Fin 16) (s : State) : Host.Outcome State Fault Refusal := settled (stitchRow a .spline s)

/-- JOINT (R76, R532). -/
def execStitchJoint (a : Fin 16) (s : State) : Host.Outcome State Fault Refusal := settled (stitchRow a .joint s)

/-- DWELL (R92). -/
def execStitchDwell (a : Fin 16) (s : State) : Host.Outcome State Fault Refusal := settled (stitchRow a .dwell s)

/-- FRAME (R77). -/
def execStitchFrame (a : Fin 16) (s : State) : Host.Outcome State Fault Refusal := settled (stitchRow a .frame s)

/-- LIMIT (R78). -/
def execStitchLimit (a : Fin 16) (s : State) : Host.Outcome State Fault Refusal := settled (stitchRow a .limit s)

/-- BLEND (R79). -/
def execStitchBlend (a : Fin 16) (s : State) : Host.Outcome State Fault Refusal := settled (stitchRow a .blend s)

/-- COUPLE (R80). -/
def execStitchCouple (a : Fin 16) (s : State) : Host.Outcome State Fault Refusal := settled (stitchRow a .couple s)

/-- PROC (R82). -/
def execStitchProc (a : Fin 16) (s : State) : Host.Outcome State Fault Refusal := settled (stitchRow a .proc s)

/-- PROCRAMP (R83). -/
def execStitchProcramp (a : Fin 16) (s : State) : Host.Outcome State Fault Refusal := settled (stitchRow a .procramp s)

/-- TRIG (R84). -/
def execStitchTrig (a : Fin 16) (s : State) : Host.Outcome State Fault Refusal := settled (stitchRow a .trig s)

/-- SYNC (R86). -/
def execStitchSync (a : Fin 16) (s : State) : Host.Outcome State Fault Refusal := settled (stitchRow a .sync s)

/-- ZONE_ENTER (R87). -/
def execStitchZoneEnter (a : Fin 16) (s : State) : Host.Outcome State Fault Refusal := settled (stitchRow a .zoneEnter s)

/-- ZONE_LEAVE (R88). -/
def execStitchZoneLeave (a : Fin 16) (s : State) : Host.Outcome State Fault Refusal := settled (stitchRow a .zoneLeave s)

/-- WAITIO, with its first evaluation (R90). -/
def execStitchWaitio (a : Fin 16) (s : State) : Host.Outcome State Fault Refusal :=
  settled (s.onChanter (fun q s => evalWaitio q a (runStitch q a .waitio s)))

/-- SETIO (R91). -/
def execStitchSetio (a : Fin 16) (s : State) : Host.Outcome State Fault Refusal := settled (stitchRow a .setio s)

/-- LAYER (R103). -/
def execStitchLayer (a : Fin 16) (s : State) : Host.Outcome State Fault Refusal := settled (stitchRow a .layer s)

/-- MARK (R92). -/
def execStitchMark (a : Fin 16) (s : State) : Host.Outcome State Fault Refusal := settled (stitchRow a .mark s)

/-- CALIB_APPLY (R81). -/
def execStitchCalibApply (a : Fin 16) (s : State) : Host.Outcome State Fault Refusal := settled (stitchRow a .calibApply s)

/-- END (R92). -/
def execStitchEnd (a : Fin 16) (s : State) : Host.Outcome State Fault Refusal := settled (stitchRow a .finish s)

/-! ## Timeouts -/

/-- The deadline of a wait of a kind passes in an arm that is WAITING: cell time is at it, and `f` acts. -/
def onDeadline (a code : Nat) (f : Plane → State → State) (s : State) : State :=
  s.onChanter (fun q s =>
    if qState q a s = 2 ∧ waitCode q a s = code then
      match ((s.arm q a).wait).bind (·.deadline) with
      | some d => f q (s.toTime d)
      | none => s
    else s)

/-- DWELL_EXPIRY (R92). -/
def execDwellExpiry (a : Fin 16) (s : State) : Host.Outcome State Fault Refusal := settled (onDeadline a 1 (fun q => endWait q a) s)

/-- SYNC_TIMEOUT (R86). -/
def execSyncTimeout (a : Fin 16) (s : State) : Host.Outcome State Fault Refusal :=
  settled (onDeadline a 3 (fun q => waitFault q a 0x0B) s)

/-- ZONE_TIMEOUT (R87). -/
def execZoneTimeout (a : Fin 16) (s : State) : Host.Outcome State Fault Refusal :=
  settled (onDeadline a 4 (fun q => waitFault q a 0x0C) s)

/-- WAITIO_TIMEOUT (R90). -/
def execWaitioTimeout (a : Fin 16) (s : State) : Host.Outcome State Fault Refusal :=
  settled (onDeadline a 2 (fun q => waitFault q a 0x0E) s)

/-- RESUME_TIMEOUT: ZONE_TIMEOUT if a recorded zone is still ungranted, else SYNC_TIMEOUT (R107). -/
def execResumeTimeout (a : Fin 16) (s : State) : Host.Outcome State Fault Refusal :=
  settled (s.onChanter (fun q s => match (s.arm q a).resumeBy, (s.arm q a).resume with
    | some d, some r =>
      if qState q a s = 7 then
        armFault q a (if r.zones.all (fun z => holdsZone q a z s) then 0x0B else 0x0C) 0 0 none (s.toTime d)
      else s
    | _, _ => s))

/-- BZ_LINK: no frame from the peer of border zone `b` for TIMEOUT cycles; its holdings stay, it is granted to no one, and
the arms that hold or want it are told (R134). -/
def execBzLink (b : Fin 16) (s : State) : Host.Outcome State Fault Refusal := settled (s.onChanter (fun q => bzLose q b.val))

end Sys2Proof.Machine
end

