-- ==== Sys2Proof/Machine/Fed.lean ====
section
/-! DEFINITION. The federation exchange: frames to the peers, and the sections of theirs (R350 to R358). -/

namespace Sys2Proof.Machine

/-! ## Peers (R350) -/

/-- The federation ID of this cell. -/
def fedId (s : State) : Nat := s.dg R.FED_CFG F.FED_CFG_FED_ID

/-- Peer `k` is subscribed. -/
def peerOn (k : Nat) (s : State) : Bool := s.dg (R.FED_PEER_CFG k) F.FED_PEER_CFG_EN == 1

/-- The federation ID of peer `k`. -/
def peerId (k : Nat) (s : State) : Nat := s.dg (R.FED_PEER_CFG k) F.FED_PEER_CFG_PEER_ID

/-- Peer `k` is a server that feeds arm `a` (R357). -/
def servesArm (k a : Nat) (s : State) : Bool :=
  s.dg (R.FED_PEER_CFG k) F.FED_PEER_CFG_SERVER == 1 && bitN (s.dg (R.FED_PEER_ARMS k) F.FED_PEER_ARMS_MASK) a

/-- The border zones of plane `q` paired with a federation ID (R132). -/
def bzWith (q : Plane) (src : Nat) (s : State) : List Nat :=
  (List.range 16).filter (fun b => s.get q (R.PLN_BZ_CFG b) F.PLN_BZ_CFG_EN == 1
    && s.get q (R.PLN_BZ_CFG b) F.PLN_BZ_CFG_PEER_ID == src)

/-! ## Sending (R351 to R353, R356, R357) -/

/-- A section: SKIND, ARG and data. -/
abbrev Section := Nat × Nat × List Word

/-- The words of a section. -/
def sectionWords (x : Section) : List Word :=
  wordN (x.1 * 2 ^ 28 + x.2.2.length * 2 ^ 16 + x.2.1) :: x.2.2

/-- EXCH_OFS in ns lies before the zone words of the cycle are formed (R354). -/
def exchEarly (ofs fb : Nat) : Bool := decide (ofs < fb + 2000)

/-- The ZONE words that PORT has at EXCH_OFS: those of the interpolation of the cycle, or of the one before where EXCH_OFS lies too early
for them (R353, R354). -/
def zoneReady (q : Plane) (s : State) : List (Nat × Word) :=
  if exchEarly (s.dg R.FED_EXCH_CFG F.FED_EXCH_CFG_EXCH_OFS) (s.dg R.TIM_CYC_ACT_FB_DEADLINE F.TIM_CYC_ACT_PERIOD_VALUE)
      && s.dg R.TIM_CYC_STATUS F.TIM_CYC_STATUS_PHASE != 0 then (s.pln q).zoneWas
  else zoneWords q s

/-- The ZONE section for a peer. -/
def zoneSection (q : Plane) (src : Nat) (s : State) : Section :=
  let bs := bzWith q src s
  (3, 0, (zoneReady q s).filterMap (fun e => if bs.contains e.1 then some e.2 else none))

/-- The LAYER section: the arms that have reached a layer, and its number for each (R352). -/
def layerSection (q : Plane) (s : State) : Section :=
  let ls := (List.range 16).map (fun a => (s.arm q a).layer)
  (4, 0, wordN (maskOf ((List.range 16).filter (fun a => (nth ls a none).isSome))) :: ls.map (·.getD 0))

/-- The STATUS section of arm `a`. -/
def statusSection (q : Plane) (a : Nat) (s : State) : Section :=
  (7, a, [s.rd q (R.PLN_Q_STATUS a), s.rd q (R.PLN_Q_FETCH a), s.rd q (R.PLN_Q_REACH a), s.rd q (R.PLN_Q_WR a),
    s.rd q (R.PLN_CKP_WR a), s.rd q (R.PLN_CKP_RD a), wordN (s.dg R.RED_EPOCH F.RED_EPOCH_EPOCH)])

/-- The words of checkpoint record `c` of arm `a` (R103). -/
def ckpRecord (q : Plane) (a c : Nat) (s : State) : List Word :=
  s.swords q (s.get q (R.PLN_CKP_BASE a) ⟨35, 0⟩ + 128 * (c % 2 ^ s.get q (R.PLN_CKP_CFG a) F.PLN_CKP_CFG_SIZE_LOG2)) 104

/-- The checkpoint records of arm `a` that are due in this cycle: in the cycle after the commit that wrote one, and every 1,024
cycles while its count is not below PLN_CKP_RD (R357). DEDUCED, log 112. -/
def ckpDue (q : Plane) (a : Nat) (s : State) : List Nat :=
  let wr := s.get q (R.PLN_CKP_WR a) F.PLN_CKP_WR_COUNT
  let rd := s.get q (R.PLN_CKP_RD a) F.PLN_CKP_RD_COUNT
  let k := min wr (2 ^ s.get q (R.PLN_CKP_CFG a) F.PLN_CKP_CFG_SIZE_LOG2)
  ((List.range k).map (fun i => wr - k + i)).filter (fun c =>
    let r := ckpRecord q a c s
    let m := of72 (nth r 2 0) (nth r 3 0)
    decide (m < s.n) && (s.n == m + 1 || (decide (rd ≤ c) && (s.n - m - 1) % 1024 == 0)))

/-- The observation records that peer `k` has not been sent (R352). DEDUCED, log 112. -/
def obsSection (q : Plane) (k room : Nat) (s : State) : Option Section :=
  match obsRing q s with
  | none => none
  | some (base, size) =>
    let wr := s.get q R.EST_OBS_WR F.EST_OBS_WR_COUNT
    let rd := nth s.fed.obs k 0
    let n := min (min (wr - rd) size) ((room - 1) / 24)
    if n = 0 then none
    else some (9, n, (List.range n).flatMap (fun i => s.swords q (base + 24 * ((rd + i) % size)) 24))

/-- The payload limit (R337). -/
def frameRoom (s : State) : Nat := if s.dg R.FED_CFG F.FED_CFG_JUMBO = 1 then 1996 else 329

/-- Place sections while they fit: those placed, and those that wait. DEDUCED, log 112. -/
def placeAll : Nat → List Section → List Section × List Section
  | _, [] => ([], [])
  | room, x :: t =>
    if x.2.2.length < room then
      let r := placeAll (room - x.2.2.length - 1) t
      (x :: r.1, r.2)
    else
      let r := placeAll room t
      (r.1, x :: r.2)

/-- The bytes of an exchange frame (R351). -/
def fedFrame (k : Nat) (noPlane : Bool) (ws : List Word) (s : State) : List Nat :=
  let f := s.dg (R.FED_PEER_CFG k) F.FED_PEER_CFG_PORT
  let pc := R.FED_PORT_CFG f
  let mac := fun (hi lo : Nat) => [hi / 65536 % 256, hi / 256 % 256, hi % 256, lo / 65536 % 256, lo / 256 % 256, lo % 256]
  let pd := s.dg R.TIM_CYC_ACT_PERIOD F.TIM_CYC_ACT_PERIOD_VALUE
  let ph := s.dg R.TIM_CYC_ACT_PHASE F.TIM_CYC_ACT_PERIOD_VALUE
  let et := s.dg R.FED_CFG F.FED_CFG_ETHERTYPE
  let tag := s.dg pc F.FED_PORT_CFG_PCP * 8192 + s.dg pc F.FED_PORT_CFG_VID
  let body := mac (s.rd .a (R.FED_PEER_MAC_HI k)).toNat (s.rd .a (R.FED_PEER_MAC_LO k)).toNat
    ++ mac (s.rd .a (R.FED_PORT_MAC_HI f)).toNat (s.rd .a (R.FED_PORT_MAC_LO f)).toNat
    ++ (if s.dg pc F.FED_PORT_CFG_VLAN_EN = 1 then [129, 0, tag / 256, tag % 256] else []) ++ [et / 256, et % 256]
    ++ [17, b2n noPlane] ++ leBytes 2 (fedId s) ++ leBytes 2 (peerId k s) ++ leBytes 2 s.n ++ leBytes 2 pd ++ leBytes 2 ph
    ++ leBytes 2 ws.length ++ [0, 0] ++ packBytes ws
  let full := body ++ List.replicate (60 - body.length) 0
  full ++ leBytes 4 (crcReflected 0xEDB88320 full)

/-- The sections of the frame to peer `k`: from the Warden alone where no commit has come from the granted plane (R352, R353,
R356). DESIGN CHOICE, log 110. DEDUCED, log 112. -/
def peerSections (k : Nat) (q : Option Plane) (s : State) : List Section :=
  let send := s.dg (R.FED_PEER_CFG k) F.FED_PEER_CFG_SEND
  let sel := fun (kind : Nat) (l : List Section) => if bitN send (kind - 1) then l else []
  let border := fun (ch : Nat) => ((ch, 0, (Config.borderEnvelope ch (peerId k s) s.n).take 112) : Section)
  let arms := (List.range 16).filter (fun a => servesArm k a s)
  let two := if s.linkUp .wardenPort then sel 2 [border 2] else []
  match q with
  | none => two
  | some q =>
    let waiting := (s.fed.ckps.filter (fun e => e.1 == k)).map (·.2)
    let due := arms.flatMap (fun a => ((ckpDue q a s).map (fun c => (a, c))).filter (fun e => !waiting.contains e))
    sel 1 [border 1] ++ two ++ sel 3 [zoneSection q (peerId k s) s] ++ sel 4 [layerSection q s]
      ++ arms.map (fun a => statusSection q a s)
      ++ (waiting ++ due).map (fun e => (8, e.1, wordN e.2 :: ckpRecord q e.1 e.2 s))

/-- PORT sends the frame of cycle n to peer `k` (R353). -/
def sendPeer (q : Option Plane) (k : Nat) (s : State) : State :=
  let r := placeAll (frameRoom s - 2) (peerSections k q s)
  let used := 2 + (r.1.map (fun x => x.2.2.length + 1)).sum
  let wantObs := bitN (s.dg (R.FED_PEER_CFG k) F.FED_PEER_CFG_SEND) 8
  let obs := match q with
    | some q => if wantObs then obsSection q k (frameRoom s - used) s else none
    | none => none
  let ws := [lo72 (htsOfPs s.ct0), hi72 (htsOfPs s.ct0)] ++ (r.1 ++ obs.toList).flatMap sectionWords
  let wait := (r.2.filter (fun x => x.1 == 8)).map (fun x => (k, x.2.1, (nth x.2.2 0 0).toNat))
  let s1 := { s with fed := { s.fed with
    frames := s.fed.frames.set k (fedFrame k q.isNone ws s)
    ckps := s.fed.ckps.filter (fun e => e.1 != k) ++ wait
    obs := s.fed.obs.set k (nth s.fed.obs k 0 + (obs.map (·.2.1)).getD 0) } }
  if r.2.isEmpty then s1 else raiseFed 6 s1

/-- Port `f` is enabled (R359). -/
def portOn (f : Nat) (s : State) : Bool := s.dg (R.FED_PORT_CFG f) F.FED_PORT_CFG_EN == 1

/-- EXCHANGE_SEND: in each cycle, from CT0 + EXCH_OFS, a frame to each enabled peer whose port is enabled (R353, R359). -/
def execExchangeSend (s : State) : Host.Outcome State Fault Refusal :=
  let q := if busFresh s then s.chanter.filter (fun q => s.linkUp (portLink q)) else none
  settled (if s.dg R.FED_EXCH_CFG F.FED_EXCH_CFG_EN = 0 ∨ inCycle s = false then s
    else each ((List.range 16).filter (fun k => peerOn k s && portOn (s.dg (R.FED_PEER_CFG k) F.FED_PEER_CFG_PORT) s)) (sendPeer q)
      (s.toTime (s.ct0Hts + s.dg R.FED_EXCH_CFG F.FED_EXCH_CFG_EXCH_OFS * 1000)))

/-! ## Receiving (R350, R352, R355, R357) -/

/-- The sections of a payload. -/
def parseSections : Nat → List Word → List Section
  | 0, _ => []
  | _, [] => []
  | fuel + 1, w :: t =>
    let n := bitsAt w 16 12
    (bitsAt w 28 8, bitsAt w 0 16, t.take n) :: parseSections fuel (t.drop n)

/-- A ZONE word of peer `src` as messages to the planner (R132 to R134, R352). DEDUCED, log 52. -/
def zoneMsgs (q : Plane) (src : Nat) (w : Word) (s : State) : List BorderMsg :=
  let b := bitsAt w 28 4
  let mine := (bzWith q src s).filter (fun x => peerBz q x s == b)
  match bitsAt w 32 4 with
  | 1 => mine.map (fun x => .request x (bitsAt w 24 4) (bitsAt w 20 4) src)
  | 2 => if (bzWith q src s).contains b then [.grant b (bitsAt w 24 4)] else []
  | 3 => mine.map (fun x => .release x 0)
  | 4 => mine.map (fun x => .holds x (bitsAt w 23 4) (bitN w.toNat 27))
  | 5 => (bzWith q src s).filterMap (fun x =>
      let here := peerBz q x s == b
      let back := bitsAt w 24 4 == x
      if here || back then some (.config x (here && back && bitsAt w 12 12 == fedId s)) else none)
  | _ => []

/-- The order in which the planner takes messages: holdings, frames, pairings, releases, grants, requests (R130). DEDUCED, log
52. -/
def msgRank : BorderMsg → Nat
  | .holds .. => 0
  | .frame .. => 1
  | .config .. => 2
  | .release .. => 3
  | .grant .. => 4
  | .request .. => 5

/-- Messages reach the planner. -/
def toPlanner (q : Plane) (ms : List BorderMsg) (s : State) : State :=
  let l := (s.pln q).inbox ++ ms
  s.setPln q { s.pln q with inbox := (List.range 6).flatMap (fun r => l.filter (fun m => msgRank m == r)) }

/-- An envelope of a federation peer reaches the connections of a channel that take it (R295, R352). -/
def takeEnvelope (ch : SsmChan) (q : Plane) (src : Nat) (ws : List Word) (s : State) : State :=
  match s.tab.safety with
  | none => s
  | some t => each ((t.used ch).filter (fun e => e.1.place.isNone && e.1.source == src)) (fun e s =>
      setConn ch q e.2 { (s.ssm ch q).conn e.2 with mail := ws } s) s

/-- A STREAM section: ring words, and then PLN_Q_WR, in the granted plane; or a refusal (R357). DEDUCED, log 111. -/
def takeStream (k arg : Nat) (ws : List Word) (q : Plane) (s : State) : State :=
  let a := arg % 16
  let c := (nth ws 0 0).toNat % 2 ^ 32
  let data := ws.drop 1
  let ar := s.arm q a
  let f := s.get q (R.PLN_Q_FETCH a) F.PLN_Q_FETCH_COUNT
  let w := s.get q (R.PLN_Q_WR a) F.PLN_Q_WR_COUNT
  let busy := (List.range data.length).any (fun i => decide ((c + i + 2 ^ 32 - f) % 2 ^ 32 < (w + 2 ^ 32 - f) % 2 ^ 32))
  if !servesArm k a s || decide (ar.src ≠ 1) || busy then raiseFed 7 s
  else
    let size := 2 ^ ar.size
    let s1 := each (data.zipIdx) (fun e s => s.sput q (ar.base / size * size + (c + e.2) % size) e.1) s
    if bitN arg 4 then writeWr q a true ((c + data.length) % 2 ^ 32) s1 else s1

/-- A LAYER section: the least layer number over the arms that report (R359). DEDUCED, log 111. -/
def takeLayer (k : Nat) (ws : List Word) (s : State) : State :=
  match (bitsOf 16 (nth ws 0 0).toNat).map (fun a => (nth ws (a + 1) 0).toNat) with
  | [] => s
  | x :: t => s.wr .a (R.FED_PEER_LAYER k) (wordN (t.foldl min x))

/-- PORT delivers to the granted plane, over its link (R352). -/
def portToChanter (f : Plane → State → State) (s : State) : State := s.onChanter (fun q s => if s.linkUp (portLink q) then f q s else s)

/-- One section of a frame from peer `k` reaches its consumer, over a link that has not failed (R30, R352). DEDUCED, log 111. -/
def takeSection (k : Nat) (grid : Bool) (x : Section) (s : State) : State :=
  let src := peerId k s
  match x.1 with
  | 1 => each [Plane.a, Plane.b] (fun q s => if s.linkUp (portLink q) then takeEnvelope .one q src x.2.2 s else s) s
  | 2 => if s.linkUp .wardenPort then takeEnvelope .two .a src x.2.2 s else s
  | 3 => if grid then portToChanter (fun q s =>
      toPlanner q ((bzWith q src s).map .frame ++ x.2.2.flatMap (fun w => zoneMsgs q src w s)) s) s else s
  | 4 => takeLayer k x.2.2 s
  | 5 => portToChanter (takeStream k x.2.1 x.2.2) s
  | 6 => portToChanter (fun q s => writeCkpRd q (x.2.1 % 16) true ((nth x.2.2 0 0).toNat % 2 ^ 32) s) s
  | 9 => each (intakePlanes s) (fun q s =>
      if (obsRing q s).isNone ∨ s.linkUp (portLink q) = false then s
      else each (List.range (x.2.1 % 512)) (fun i s => putRecord q ((x.2.2.drop (24 * i)).take 24) s) s) s
  | _ => s

/-- The first cycle start of the grid after a tick (R50). -/
def nextStart (t : Nat) (s : State) : Nat :=
  let p := s.dg R.TIM_CYC_ACT_PERIOD F.TIM_CYC_ACT_PERIOD_VALUE
  let ph := s.dg R.TIM_CYC_ACT_PHASE F.TIM_CYC_ACT_PERIOD_VALUE
  t + 1 + (ph + p * (t + 2) - (t + 1)) % p

/-- A frame that came after CT0(m) + FB_DEADLINE, m being the first cycle that starts after the sender's CT0 (R355). -/
def frameLate (m : FedFrame) (s : State) : Bool :=
  let ct0 := psOfHts (of72 (nth m.words 0 0) (nth m.words 1 0))
  let due := psOfHts (htsOfPs (nextStart ((ct0 + 125000) / 250000) s * 250000)) + s.dg R.TIM_CYC_ACT_FB_DEADLINE F.TIM_CYC_ACT_PERIOD_VALUE * 1000
  decide (due < m.t)

/-- EXCHANGE_RECEIVED at port `f` (R350, R355). DEDUCED, log 111. -/
def execExchangeReceived (f : Fin 4) (m : FedFrame) (s : State) : Host.Outcome State Fault Refusal :=
  let s0 := s.toTime m.t
  settled (if !portOn f s then s0
    else if !m.fcs then raisePort f 2 s0
    else if m.etype.toNat ≠ s.dg R.FED_CFG F.FED_CFG_ETHERTYPE ∨ m.ver ≠ 1 ∨ m.kind ≠ 1 then s0
    else if m.src.toNat = fedId s then
      portToChanter (fun q s => toPlanner q ((bzWith q (fedId s) s).map (fun b => .config b false)) s) s0 |> raiseFed 2
    else if m.dst.toNat ≠ fedId s then s0
    else match (List.range 16).find? (fun k => peerOn k s && peerId k s == m.src.toNat) with
      | none => raiseFed 1 s0
      | some k =>
        let grid := m.period.toNat == s.dg R.TIM_CYC_ACT_PERIOD F.TIM_CYC_ACT_PERIOD_VALUE
          && m.phase.toNat == s.dg R.TIM_CYC_ACT_PHASE F.TIM_CYC_ACT_PERIOD_VALUE
        let s1 := { s0 with fed := { s0.fed with got := s0.fed.got ++ [k], missed := s0.fed.missed.filter (· != k) } }
        let s2 := s1.dp (R.FED_PEER_STATUS k) F.FED_PEER_STATUS_MISS_RUN 0
        let s3 := if grid then s2 else raiseFed 3 s2
        let s4 := if frameLate m s then raiseFed 4 s3 else s3
        each (parseSections m.words.length (m.words.drop 2)) (takeSection k grid) s4)

/-- PORT counts, at CT0, the cycles in which a subscribed peer has sent no frame (R355). -/
def fedCycle (s : State) : State :=
  let s1 := each ((List.range 16).filter (fun k => peerOn k s && !s.fed.got.contains k))
    (fun k s => s.count .a (R.FED_PEER_STATUS k) F.FED_PEER_STATUS_MISS_RUN 1) s
  { s1 with fed := { s1.fed with got := [] } }

/-- FRAME_MISSED: peer `k` has sent no frame for 8 cycles in a row (R355, R359). -/
def execFrameMissed (k : Fin 16) (s : State) : Host.Outcome State Fault Refusal :=
  let r := R.FED_PEER_STATUS k
  settled (if !peerOn k s || s.fed.missed.contains k.val || decide (s.dg r F.FED_PEER_STATUS_MISS_RUN < 8) then s
    else
      let s1 := raiseFed 5 { s with fed := { s.fed with missed := s.fed.missed ++ [k.val] } }
      ((s1.dp r F.FED_PEER_STATUS_MISS 1).count .a r F.FED_PEER_STATUS_MISS_CNT 1).event none 93)

/-! ## Configuration (R354, R359) -/

/-- A write of FED_EXCH_CFG. -/
def writeExchCfg (v : Word) (s : State) : State :=
  if exchEarly (F.FED_EXCH_CFG_EXCH_OFS.get v) (s.dg R.TIM_CYC_ACT_FB_DEADLINE F.TIM_CYC_ACT_PERIOD_VALUE) then raiseFed 8 s
  else s.writeRw .a R.FED_EXCH_CFG v

/-- FED_EXCH_CFG_WRITE. -/
def execFedExchCfgWrite (v : Word) (s : State) : Host.Outcome State Fault Refusal := settled (writeExchCfg v s)

/-- A cycle configuration put in force raises EXCH_ORDER where it breaks R354. DEDUCED, log 36. -/
def exchOrder (fb : Nat) (s : State) : State :=
  if exchEarly (s.dg R.FED_EXCH_CFG F.FED_EXCH_CFG_EXCH_OFS) fb then raiseFed 0 s else s

/-- A write of FED_CFG; FED_ID is refused while a Cell Bus channel is not OFF or the exchange is enabled (R359). -/
def writeFedCfg (v : Word) (s : State) : State :=
  let old := s.rd .a R.FED_CFG
  let held := busState 0 s != 0 || busState 1 s != 0 || s.dg R.FED_EXCH_CFG F.FED_EXCH_CFG_EN == 1
  if held && F.FED_CFG_FED_ID.get v != F.FED_CFG_FED_ID.get old then
    raiseFed 8 (s.writeRw .a R.FED_CFG (F.FED_CFG_FED_ID.set v (F.FED_CFG_FED_ID.get old)))
  else s.writeRw .a R.FED_CFG v

/-- A write of FED_PORT_CFG: EN decides whether the port takes part in its instances (R343, R359). -/
def writePortCfg (f : Nat) (v : Word) (s : State) : State :=
  let s1 := s.writeRw .a (R.FED_PORT_CFG f) v
  if F.FED_PORT_CFG_EN.get v = s.dg (R.FED_PORT_CFG f) F.FED_PORT_CFG_EN then s1
  else each (List.range 8) (fun i s => if (memberPorts i s).contains f then bmca i s else s) s1

/-- FED_ID_WRITE. -/
def execFedIdWrite (v : Word) (s : State) : Host.Outcome State Fault Refusal := settled (writeFedCfg v s)

end Sys2Proof.Machine
end

