-- ==== Sys2Proof/Machine/CycCfg.lean ====
section
/-! DEFINITION. The cycle configuration, the event points and the commands of TIM_CYC_CMD (R50, R53 to R56, R60, R61, R64). -/

namespace Sys2Proof.Machine

/-- The first cycle start of the grid in force at or after a tick (R50). -/
def firstStart (k : Nat) (s : State) : Nat :=
  let p := s.dg R.TIM_CYC_ACT_PERIOD F.TIM_CYC_ACT_PERIOD_VALUE
  let ph := s.dg R.TIM_CYC_ACT_PHASE F.TIM_CYC_ACT_PERIOD_VALUE
  k + (ph + p * (k + 1) - k) % p

/-- The first tick at or after a cell time in ps (R50). -/
def tickFrom (t : Nat) : Nat := (t + 249999) / 250000



/-- The configuration written to the RW registers (R53). -/
def cycWritten (s : State) : CycCfg :=
  let v := fun k => s.dg k F.TIM_CYC_SYNC_OFS_VALUE
  { period := s.dg R.TIM_CYC_PERIOD F.TIM_CYC_PERIOD_PERIOD_Q
    phase := s.dg R.TIM_CYC_PHASE F.TIM_CYC_PHASE_PHASE_Q
    sync := v R.TIM_CYC_SYNC_OFS
    fb := v R.TIM_CYC_FB_DEADLINE
    solve := v R.TIM_CYC_SOLVE_DEADLINE
    commit := v R.TIM_CYC_COMMIT_OFS
    apply := v R.TIM_CYC_APPLY_OFS }

/-- The reason to refuse a configuration by its own numbers: the range of R50, then the constraints of R54; 0 for none. -/
def cfgRefusal (c : CycCfg) : Nat :=
  let t := c.period * 250
  if c.period < 250 ∨ 16000 < c.period then 2
  else if c.period ≤ c.phase then 3
  else if c.fb ≤ c.sync then 4
  else if c.solve < c.fb + 10000 ∨ c.commit < c.solve + 5000 then 5
  else if c.commit < c.fb + 20000 ∨ t < c.commit + 12000 then 6
  else if c.apply < 1000 ∨ t ≤ c.apply then 7
  else 0

/-- The reason to refuse APPLY: a closed channel, the configuration itself, or a schedule bank in force that it breaks (R55); of
several reasons the first in the order of R55's list, and of R54's constraints the lowest code. DEDUCED, log 100. DESIGN CHOICE,
log 128. -/
def applyRefusal (c : CycCfg) (s : State) : Nat :=
  if s.anyClosed then 1
  else if cfgRefusal c ≠ 0 then cfgRefusal c
  else if busCycleCheck (c.period * 250000) (c.fb * 1000) (c.apply * 1000) s ≠ 0 then 9
  else 0

/-- An event point is in range under a T_cyc in ns (R61). DEDUCED, log 36. -/
def evpInRange (w : Word) (tcyc : Nat) : Bool :=
  decide (F.TIM_CYC_EVP_OFFSET_NS.get w < tcyc) && decide (F.TIM_CYC_EVP_DIV.get w ≠ 7)
    && decide (F.TIM_CYC_EVP_SEL_PHASE.get w < 2 ^ F.TIM_CYC_EVP_DIV.get w)

/-- T_cyc in force, in ns. -/
def tcycNs (s : State) : Nat := s.dg R.TIM_CYC_ACT_PERIOD F.TIM_CYC_ACT_PERIOD_VALUE * 250

/-- The configuration comes into force: the TIM_CYC_ACT registers, the event points that it puts out of range, and the windows
of the exchange and of the solver (R55, R61, R170, R354). DEDUCED, log 36. -/
def putInForce (c : CycCfg) (s : State) : State :=
  let old := tcycNs s
  let w := fun k n (s : State) => s.dp k F.TIM_CYC_ACT_PERIOD_VALUE n
  let s1 := w R.TIM_CYC_ACT_APPLY_OFS c.apply (w R.TIM_CYC_ACT_COMMIT_OFS c.commit (w R.TIM_CYC_ACT_SOLVE_DEADLINE c.solve
    (w R.TIM_CYC_ACT_FB_DEADLINE c.fb (w R.TIM_CYC_ACT_SYNC_OFS c.sync (w R.TIM_CYC_ACT_PHASE c.phase
    (w R.TIM_CYC_ACT_PERIOD c.period s))))))
  let s2 := each s1.cyc.evp (fun e s => if evpInRange e old && !evpInRange e (tcycNs s) then raiseCyc 7 s else s) s1
  (exchOrder c.fb s2).onChanter checkWindows

/-- The sequencer finds its first cycle start: of the grid in force, at least 16 µs after `holdFrom` (R56). DEDUCED, log 35. -/
def findStart (s : State) : State :=
  { s with cyc := { s.cyc with nextTick := firstStart (tickFrom (s.cyc.holdFrom + 16000000)) s } }

/-- An accepted APPLY: at once outside a cycle, else at the end of the cycle (R56). DEDUCED, log 35. -/
def acceptCfg (c : CycCfg) (s : State) : State :=
  if inCycle s then { s with cyc := { s.cyc with pend := some c } }
  else
    let s1 := putInForce c s
    match cycState s1 with
    | 0 => s1
    | _ => if s1.cyc.starts = 0 then { s1 with cyc := { s1.cyc with nextTick := firstStart (tickFrom s1.now) s1 } }
        else findStart { s1 with cyc := { s1.cyc with holdFrom := max s1.cyc.holdFrom s1.now } }

/-- Refuse a command of TIM_CYC_CMD. -/
def cycRefuse (code : Nat) (s : State) : State := raiseCyc 2 (s.dp R.TIM_CYC_STATUS F.TIM_CYC_STATUS_REFUSE code)

/-- APPLY (R55). -/
def applyCfg (s : State) : State :=
  let c := cycWritten s
  if applyRefusal c s = 0 then acceptCfg c s else cycRefuse (applyRefusal c s) s

/-- CAPTURE: number and CT0 of the current cycle (R51, R64). -/
def captureCyc (s : State) : State :=
  let h := if s.cyc.starts = 0 then 0 else htsOfPs s.ct0
  (((s.wr .a R.TIM_CYC_NUM (lo72 s.n)).wr .a (R.TIM_CYC_NUM_HI) (hi72 s.n)).wr .a R.TIM_CYC_CT0 (lo72 h)).wr .a
    (R.TIM_CYC_CT0_HI) (hi72 h)

/-- A write of TIM_CYC_CMD (R64). -/
def cycCmd (code : Nat) (s0 : State) : State :=
  let s := s0.dp R.TIM_CYC_CMD F.TIM_CYC_CMD_CODE code
  match code with
  | 0 => s
  | 1 => applyCfg s
  | 2 => captureCyc s
  | _ => cycRefuse 8 s

/-- APPLY (R55). -/
def execCycApply (s : State) : Host.Outcome State Fault Refusal := settled (cycCmd 1 s)

/-- CYC_CAPTURE (R64). -/
def execCycCapture (s : State) : Host.Outcome State Fault Refusal := settled (cycCmd 2 s)

/-- CYC_CMD_RESERVED: codes 3 to 15 (R64). -/
def execCycCmdReserved (code : BitVec 4) (s : State) : Host.Outcome State Fault Refusal :=
  settled (if 3 ≤ code.toNat then cycCmd code.toNat s else s)

/-! ## Event points -/

/-- A write of TIM_CYC_EVP: it takes effect at the next cycle start (R61). -/
def writeEvp (k : Nat) (v : Word) (s : State) : State :=
  let s1 := s.writeRw .a (R.TIM_CYC_EVP k) v
  { s1 with cyc := { s1.cyc with evpNew := if s1.cyc.evpNew.contains k then s1.cyc.evpNew else s1.cyc.evpNew ++ [k] } }

/-- EVP_WRITE (R61). -/
def execEvpWrite (k : Fin 16) (v : Word) (s : State) : Host.Outcome State Fault Refusal := settled (writeEvp k v s)

/-- The event points written since the last cycle start come into force and are checked (R61). -/
def latchEvp (s : State) : State :=
  let s1 := each s.cyc.evpNew (fun k s =>
    let w := s.rd .a (R.TIM_CYC_EVP k)
    let s1 := { s with cyc := { s.cyc with evp := s.cyc.evp.set k w } }
    if evpInRange w (tcycNs s) then s1 else raiseCyc 7 s1) s
  { s1 with cyc := { s1.cyc with evpNew := [] } }

/-- Whether event point `k` fires in the present cycle (R60). -/
def evpFires (k : Nat) (s : State) : Bool :=
  let w := nth s.cyc.evp k 0
  inCycle s && decide (F.TIM_CYC_EVP_EN.get w = 1) && evpInRange w (tcycNs s)
    && decide (s.n % 2 ^ F.TIM_CYC_EVP_DIV.get w = F.TIM_CYC_EVP_SEL_PHASE.get w)

/-- EVENT_POINT: point `k` fires at CT0(n) + OFFSET_NS; its event goes over warden–port (R33, R60). -/
def execEventPoint (k : Fin 16) (s : State) : Host.Outcome State Fault Refusal :=
  settled (if evpFires k s then
      (s.toTime (s.ct0Hts + F.TIM_CYC_EVP_OFFSET_NS.get (nth s.cyc.evp k 0) * 1000)).notify .a (R.TIM_CYC_EVP k) k
    else s)

end Sys2Proof.Machine
end

