-- ==== Sys2Proof/Machine/Sec.lean ====
section
/-! DEFINITION. Security: OTP commands, banks, the flash port, attestation and debug over JTAG (R458 to R466). -/

namespace Sys2Proof.Machine

/-- A SEC or flash command is refused with a reason (SEC_STATUS.REFUSE). -/
def secRefuse (code : Nat) (s : State) : State := raiseBoot 10 (s.dp R.SEC_STATUS F.SEC_STATUS_REFUSE code)

/-- `n` bytes of a file of registers that hold 4 bytes each, from slot `k`. -/
def regBytes (k n : Nat) (s : State) : List Byte :=
  ((List.range ((n + 3) / 4)).flatMap (fun i => numBytes 4 ((s.rd .a (k + i)).toNat % 2 ^ 32))).take n

/-- Bytes into a file of registers that hold 4 bytes each. -/
def putBytes (k : Nat) (l : List Byte) (s : State) : State :=
  each (List.range ((l.length + 3) / 4)) (fun i s => s.wr .a (k + i) (wordN (leNum (slice l (4 * i) 4)))) s

/-- The 8 bytes of the device serial. -/
def serialBytes (s : State) : List Byte :=
  numBytes 4 (s.dg R.SEC_SERIAL_LO F.SEC_SERIAL_LO_SERIAL) ++ numBytes 4 (s.dg R.SEC_SERIAL_HI F.SEC_SERIAL_HI_SERIAL)

/-- A SEC command starts to run. -/
def startSec (j : SecJob) (s : State) : State :=
  { s with boot := { s.boot with job := some j } }.dp R.SEC_STATUS F.SEC_STATUS_BUSY 1

/-- The SEC command that runs has ended. -/
def endSec (s : State) : State := { s with boot := { s.boot with job := none } }.dp R.SEC_STATUS F.SEC_STATUS_BUSY 0

/-- The counter's value (R458). -/
def rollbackCount (s : State) : Nat := s.dg R.SEC_OTP F.SEC_OTP_ROLLBACK

/-- Slots that stay provisioned and unrevoked without slot `k`. -/
def othersLeft (k : Nat) (s : State) : Bool := (List.range 4).any (fun i => i != k && slotProv i s && !slotRevoked i s)

/-- The reason to refuse an OTP command that is neither too early nor kept off by another (R459); 0 for none. -/
def otpCheck (code arg : Nat) (s : State) : Nat :=
  match s.boot.man with
  | none => 2
  | some m =>
    match code with
    | 2 => if rollbackCount s < m.svn ∧ s.dg R.BOOT_STATUS F.BOOT_STATUS_BANK = s.dg R.BOOT_SEL F.BOOT_SEL_PREF then 0 else 9
    | 3 => if !m.provisionOk then 4 else if 4 ≤ arg ∨ (nth s.boot.keys arg none).isSome then 5 else 0
    | _ => if !m.revokeOk then 4 else if 4 ≤ arg ∨ slotProv arg s = false then 5
      else if arg = m.slot ∨ arg = s.dg R.BOOT_IMAGE F.BOOT_IMAGE_SAFETY_SLOT ∨ othersLeft arg s = false then 6 else 0

/-- An OTP command: refused while another SEC command runs, before READY, and for its own conditions (R459). -/
def otpCmd (code arg : Nat) (dbg : Bool) (s : State) : State :=
  if s.boot.job.isSome then secRefuse 1 s
  else if !s.isReady then secRefuse 2 s
  else match otpCheck code arg s with
    | 0 => startSec (match code with
      | 2 => .rollback ((s.boot.man.map (·.svn)).getD 0)
      | 3 => .provision arg (regBytes (R.SEC_DATA 0) 64 s) dbg
      | _ => .revoke arg) s
    | r => secRefuse r s

/-- A write of SEC_CMD (R459, R460, R462, R466). DEDUCED, log 120. -/
def secCmd (code arg : Nat) (dbg : Bool) (s0 : State) : State :=
  let s := s0.wr .a R.SEC_CMD (F.SEC_CMD_DEBUG_OK.set (F.SEC_CMD_ARG.set (F.SEC_CMD_CODE.set 0 code) arg) (b2n dbg))
  match code with
  | 0 => s
  | 1 => if s.boot.job.isSome then secRefuse 1 s else startSec (.attest (regBytes (R.SEC_DATA 0) 64 s)) s
  | 2 => otpCmd 2 arg dbg s
  | 3 => otpCmd 3 arg dbg s
  | 4 => otpCmd 4 arg dbg s
  | 5 => (s.dp R.BOOT_SEL F.BOOT_SEL_TRY_VALID 1).dp R.BOOT_SEL F.BOOT_SEL_TRY_BANK (arg % 2)
  | 6 => if s.isReady then s.dp R.BOOT_SEL F.BOOT_SEL_PREF (s.dg R.BOOT_STATUS F.BOOT_STATUS_BANK) else secRefuse 2 s
  | 7 => s.dp R.SEC_STATUS F.SEC_STATUS_DEBUG 0
  | 8 => if s.anyClosed then secRefuse 3 s else deviceReset s.boot.hot s
  | _ => secRefuse 7 s

/-- ATTEST (R462). -/
def execSecAttest (s : State) : Host.Outcome State Fault Refusal := settled (secCmd 1 0 false s)

/-- ROLLBACK_COMMIT (R459). -/
def execRollbackCommit (s : State) : Host.Outcome State Fault Refusal := settled (secCmd 2 0 false s)

/-- PROVISION (R459). -/
def execSecProvision (arg : BitVec 4) (dbg : Bool) (s : State) : Host.Outcome State Fault Refusal := settled (secCmd 3 arg.toNat dbg s)

/-- REVOKE (R459). -/
def execSecRevoke (arg : BitVec 4) (s : State) : Host.Outcome State Fault Refusal := settled (secCmd 4 arg.toNat false s)

/-- TRY_BANK (R460). DEDUCED, log 120. -/
def execTryBank (arg : BitVec 4) (s : State) : Host.Outcome State Fault Refusal := settled (secCmd 5 arg.toNat false s)

/-- COMMIT_BANK (R460). -/
def execCommitBank (s : State) : Host.Outcome State Fault Refusal := settled (secCmd 6 0 false s)

/-- LOCK_DEBUG (R464). -/
def execLockDebug (s : State) : Host.Outcome State Fault Refusal := settled (secCmd 7 0 false s)

/-- REBOOT (R460). -/
def execSecReboot (s : State) : Host.Outcome State Fault Refusal := settled (secCmd 8 0 false s)

/-- SEC_CMD_RESERVED: codes 0x9 to 0xF are refused with REFUSE = 0x7 (R466). -/
def execSecCmdReserved (code : BitVec 4) (s : State) : Host.Outcome State Fault Refusal :=
  settled (if 9 ≤ code.toNat then secCmd code.toNat 0 false s else s)

/-- The first 672 bytes of the report: identity, image, keys and measurements (R462). -/
def reportBody (nonce : List Byte) (s : State) : List Byte :=
  let man := s.boot.man
  let one := fun n => numBytes 1 n
  numBytes 4 0x8128A77E ++ numBytes 2 1 ++ numBytes 2 1184 ++ (nonce ++ List.replicate 64 0).take 64 ++ serialBytes s
    ++ numBytes 8 s.secs ++ one (s.dg R.BOOT_STATUS F.BOOT_STATUS_BANK) ++ one ((man.map (·.slot)).getD 0)
    ++ one ((man.map (·.svn)).getD 0) ++ one (rollbackCount s)
    ++ one (s.dg R.SEC_OTP F.SEC_OTP_PROV + 16 * s.dg R.SEC_OTP F.SEC_OTP_REVOKED)
    ++ one (s.dg R.SEC_STATUS F.SEC_STATUS_DEBUG_MAX)
    ++ one (s.dg R.BOOT_STATUS F.BOOT_STATUS_SIMPLEX + 2 * s.dg R.BOOT_STATUS F.BOOT_STATUS_FALLBACK)
    ++ one (s.dg R.BOOT_IMAGE F.BOOT_IMAGE_SAFETY_SLOT) ++ regBytes (R.BOOT_MEAS 0 0) 576 s

/-- ATTEST_DONE: the signed report is in SEC_RPT, and ATTEST_DONE is raised (R462). -/
def execAttestDone (s : State) : Host.Outcome State Fault Refusal :=
  settled (match s.boot.job with
    | some (.attest nonce) =>
      let d := s.draw
      let b := reportBody nonce d.2
      let sig := (Config.identitySign d.1 b ++ List.replicate 512 0).take 512
      raiseBoot 6 (endSec (putBytes (R.SEC_RPT 0) (b ++ sig) d.2))
    | _ => s)

/-- The fuses of an OTP command are burned (R458, R459). -/
def burn (j : SecJob) (s : State) : State :=
  match j with
  | .attest _ => s
  | .rollback n => s.dp R.SEC_OTP F.SEC_OTP_ROLLBACK n
  | .provision k h dbg =>
    let s1 := { s with boot := { s.boot with keys := s.boot.keys.set k (some h) } }
    let s2 := if dbg then s1.dp R.SEC_OTP F.SEC_OTP_DEBUG_OK (setBitN (s1.dg R.SEC_OTP F.SEC_OTP_DEBUG_OK) k) else s1
    s2.dp R.SEC_OTP F.SEC_OTP_PROV (setBitN (s2.dg R.SEC_OTP F.SEC_OTP_PROV) k)
  | .revoke k => s.dp R.SEC_OTP F.SEC_OTP_REVOKED (setBitN (s.dg R.SEC_OTP F.SEC_OTP_REVOKED) k)

/-- OTP_DONE (R459). -/
def execOtpDone (s : State) : Host.Outcome State Fault Refusal :=
  settled (match s.boot.job with
    | none => s
    | some (.attest _) => s
    | some j => raiseBoot 7 (endSec (burn j s)))

/-! ## The flash port (R461) -/

/-- A write of BOOT_FLASH_CMD: refused before READY outside FAILED, while another runs, and for PROGRAM and ERASE on the booted
bank; the address of PROGRAM is aligned (R461). DEDUCED, log 120. -/
def flashCmd (code : Nat) (s0 : State) : State :=
  let s := s0.dp R.BOOT_FLASH_CMD F.BOOT_FLASH_CMD_CODE code
  let b := s.dg R.BOOT_FLASH_ADDR F.BOOT_FLASH_ADDR_BANK
  let a := s.dg R.BOOT_FLASH_ADDR F.BOOT_FLASH_ADDR_ADDR
  let failed := bootStage s == 9
  if code = 0 then s
  else if 4 ≤ code ∨ (s.isReady = false ∧ failed = false) ∨ s.boot.flash.isSome
      ∨ (code ≠ 1 ∧ failed = false ∧ b = s.dg R.BOOT_STATUS F.BOOT_STATUS_BANK) ∨ (code = 2 ∧ a % 256 ≠ 0) then secRefuse 8 s
  else
    let c : FlashCmd := ⟨code, b, a, if code = 2 then regBytes (R.BOOT_FLASH_BUF 0) 256 s else []⟩
    { s with boot := { s.boot with flash := some c, flashed := c :: s.boot.flashed } }

/-- READ. -/
def execFlashRead (s : State) : Host.Outcome State Fault Refusal := settled (flashCmd 1 s)

/-- PROGRAM. -/
def execFlashProgram (s : State) : Host.Outcome State Fault Refusal := settled (flashCmd 2 s)

/-- ERASE. -/
def execFlashErase (s : State) : Host.Outcome State Fault Refusal := settled (flashCmd 3 s)

/-- FLASH_CMD_RESERVED: codes 0x4 to 0xF are refused with REFUSE = 0x8 (R466). -/
def execFlashCmdReserved (code : BitVec 4) (s : State) : Host.Outcome State Fault Refusal :=
  settled (if 4 ≤ code.toNat then flashCmd code.toNat s else s)

/-- FLASH_DONE: the device ends a command, with the page of a READ, or reports an error (R461). DESIGN CHOICE, log 113. -/
def execFlashDone (ok : Bool) (data : List Byte) (s : State) : Host.Outcome State Fault Refusal :=
  settled (match s.boot.flash with
    | none => s
    | some c =>
      let s1 := { s with boot := { s.boot with flash := none } }
      if !ok then raiseBoot 4 s1
      else raiseBoot 3 (if c.code = 1 then putBytes (R.BOOT_FLASH_BUF 0) (data.take 256) s1 else s1))

/-! ## JTAG (R463 to R465) -/

/-- The level in force: 0 locked, 1 OBSERVE, 2 SCAN. -/
def debugLevel (s : State) : Nat := s.dg R.SEC_STATUS F.SEC_STATUS_DEBUG

/-- An instruction is in force with what its data register has captured; EXTEST ends. -/
def jtag (code : Nat) (dr : List Byte) (s : State) : State :=
  { s with boot := { s.boot with ir := code, dr := dr, extest := false } }

/-- BYPASS: one bit, captured as 0. -/
def bypass (s : State) : State := jtag 0xFF [0] s

/-- BYPASS (R463). -/
def execJtagBypass (s : State) : Host.Outcome State Fault Refusal := settled (bypass s)

/-- IDCODE: die revision, 0x8128, the manufacturer's identity, and 1 (R463). -/
def execJtagIdcode (s : State) : Host.Outcome State Fault Refusal :=
  settled (jtag 0x01 (numBytes 4 (s.dg R.HIF_ID F.HIF_ID_REV % 16 * 2 ^ 28 + 0x8128 * 2 ^ 12 + Config.jedecId.toNat * 2 + 1)) s)

/-- SAMPLE/PRELOAD: a sample of the boundary, whose cells no rule lists. DESIGN CHOICE, log 121. -/
def execJtagSample (s : State) : Host.Outcome State Fault Refusal :=
  let d := s.draw
  settled (jtag 0x02 (numBytes 5 d.1.toNat) d.2)

/-- EXTEST at Update-IR: with SCAN in force and no channel closed, and BYPASS otherwise; both safety outputs drop with cause
HOST (R465). DESIGN CHOICE, log 121. -/
def execJtagExtest (s : State) : Host.Outcome State Fault Refusal :=
  settled (if debugLevel s = 2 ∧ s.anyClosed = false then
      let s1 := dropBoth 7 s
      { s1 with boot := { s1.boot with ir := 0x03, extest := true } }
    else bypass s)

/-- UNLOCK_CHAL: a challenge of 64 random bytes, the serial and the count of challenges (R464). DEDUCED, log 120. -/
def execUnlockChal (s : State) : Host.Outcome State Fault Refusal :=
  let r := (List.range 16).map (fun i => numBytes 4 ((Config.freeWord (s.free + i)).toNat % 2 ^ 32))
  let n := s.boot.chals + 1
  let c := r.flatten ++ serialBytes s ++ numBytes 8 n
  let s1 := { s with free := s.free + 16, boot := { s.boot with chal := some c, chals := n } }
  settled (jtag 0x20 c s1)

/-- The response to a challenge is accepted: level, slot, modulus and signature (R464). -/
def unlockOk (chal l : List Byte) (s : State) : Bool :=
  let level := leNum (slice l 0 1)
  let k := leNum (slice l 1 1)
  let n := slice l 4 512
  decide (l.length = 1028) && (level == 1 || level == 2) && leNum (slice l 2 2) == 0 && slotProv k s && !slotRevoked k s
    && bitN (s.dg R.SEC_OTP F.SEC_OTP_DEBUG_OK) k && slotHolds k n s && pssVerify n (chal ++ l.take 4) (slice l 516 512)

/-- UNLOCK_RESP: a challenge answers one response; after 3 failed ones every response is refused until the next device reset
(R464). DEDUCED, log 120. -/
def execUnlockResp (bytes : List Byte) (s : State) : Host.Outcome State Fault Refusal :=
  let s0 := jtag 0x21 bytes s
  let fails := s.dg R.SEC_STATUS F.SEC_STATUS_UNLOCK_FAILS
  settled (if 3 ≤ fails then s0
    else
      let s1 := { s0 with boot := { s0.boot with chal := none } }
      let ok := match s.boot.chal with
        | some c => unlockOk c bytes s
        | none => false
      if ok then
        let level := max (debugLevel s) (leNum (slice bytes 0 1))
        raiseBoot 8 ((s1.dp R.SEC_STATUS F.SEC_STATUS_DEBUG level).dp R.SEC_STATUS F.SEC_STATUS_DEBUG_MAX
          (max level (s.dg R.SEC_STATUS F.SEC_STATUS_DEBUG_MAX)))
      else raiseBoot 9 (s1.dp R.SEC_STATUS F.SEC_STATUS_UNLOCK_FAILS (fails + 1)))

/-- DEBUG_STATUS (R463). -/
def execDebugStatus (s : State) : Host.Outcome State Fault Refusal :=
  settled (jtag 0x22 (Config.debugStatus (debugLevel s) (s.dg R.SEC_STATUS F.SEC_STATUS_DEBUG_MAX)
    (s.dg R.SEC_STATUS F.SEC_STATUS_UNLOCK_FAILS)) s)

/-- OBSERVE: debug state of a die or plane, read without disturbing it; BYPASS while locked (R463, R465). DESIGN CHOICE, log
121. -/
def execJtagObserve (s : State) : Host.Outcome State Fault Refusal :=
  settled (if debugLevel s = 0 then bypass s
    else
      let d := s.draw
      jtag 0x30 (numBytes 5 d.1.toNat) d.2)

end Sys2Proof.Machine
end

