-- ==== Sys2Proof/Machine/Links.lean ====
section
/-! DEFINITION. Links, beacons and supplies in service: flit retries and failed links (R29, R30), missed beacons (R48), rails, the
reference clock and VFIELD (R509). -/

namespace Sys2Proof.Machine

/-! ## Links (R29, R30) -/

/-- The plane whose own link this is, XLK apart (R30). -/
def linkPlane (l : Link) : Option Plane :=
  if (planeLinks .a).contains l.num then some .a else if (planeLinks .b).contains l.num then some .b else none

/-- The Warden requests the configured stop of every arm from the Chanter (R30, R48). -/
def deviceStop (s : State) : State := s.onChanter wardenStop

/-- The Warden raises a device link fault, which stands until the next boot, and requests the stop of every arm (R30). DEDUCED,
log 122. -/
def deviceLinkFault (s : State) : State := deviceStop { s with red := { s.red with linkFault := true } }

/-- LINK_FAIL in XLK_FLAGS of each plane that is out of reset (R30, R386). -/
def xlkFailFlags (s : State) : State := each [Plane.a, Plane.b] (fun q s => if (s.ward q).inReset then s else xlkRaise q 5 s) s

/-- What a link that has failed in service does (R30). A failed shared link is a device link fault. DEDUCED, log 122. -/
def linkResponse (l : Link) (s : State) : State :=
  match linkPlane l with
  | some q => if planeState q s = 5 then s else s.mcheck q 1
  | none =>
    if l = .xlk then
      let s0 := xlkFailFlags { s with xlk := [] }
      match s0.chanter with
      | some q => loseStep q.other (redRaise 4 (s0.dp (R.RED_PLANE q.code) F.RED_PLANE_PATH_P_OK 0))
      | none => s0
    else deviceLinkFault s

/-- A link is declared failed; it stays so until the next boot (R30). -/
def linkFail (l : Link) (s : State) : State :=
  let x := nth s.links l.num ⟨0, false⟩
  if x.failed then s else linkResponse l { s with links := s.links.set l.num { x with failed := true } }

/-- A flit is retried and counted; one of XLK counts in XLK_RETRY of each plane that is out of reset too (R29, R386). DEDUCED,
log 11. -/
def flitRetry (l : Link) (s : State) : State :=
  let x := nth s.links l.num ⟨0, false⟩
  let s1 := { s with links := s.links.set l.num { x with retries := x.retries + 1 } }
  if l = .xlk then each [Plane.a, Plane.b] (fun q s => if (s.ward q).inReset then s else s.count q R.XLK_RETRY F.XLK_RETRY_COUNT 1) s1
  else s1

/-- FLIT_CRC_FAIL: a flit that has been retried `retries` times fails its CRC: it is retried and counted, or after 4 retries its link has
failed (R29). -/
def execFlitCrcFail (l : Link) (retries : Nat) (s : State) : Host.Outcome State Fault Refusal :=
  settled (if retries < 4 then flitRetry l s else linkFail l s)

/-! ## Missed beacons (R47 to R49) -/

/-- The plane whose die or store holds an island (R49). -/
def islandPlane (i : Nat) : Option Plane :=
  if i ≤ 10 ∨ i = 22 ∨ i = 23 then some .a else if i ≤ 21 ∨ i = 24 ∨ i = 25 then some .b else none

/-- An island takes part in the beacons: not the time keeper, not the calendar, not one of a plane in reset (R49). DEDUCED, log
32. -/
def hearsBeacons (i : Nat) (s : State) : Bool :=
  i != 37 && i != 39 && (match islandPlane i with
    | some q => !(s.ward q).inReset
    | none => true)

/-- The links that the beacons of an island cross: its die's Warden link, and for a store die its plane–store link too (R46). -/
def beaconLinks (i : Nat) : List Link :=
  if i ≤ 10 then [.wardenA] else if i ≤ 21 then [.wardenB] else if i ≤ 23 then [.wardenA, .storeA]
  else if i ≤ 25 then [.wardenB, .storeB] else if i ≤ 33 then [.wardenPort] else if i ≤ 35 then [.wardenSense]
  else if i = 36 then [.wardenField] else []

/-- No link on the way of an island's beacons has failed (R30, R46). -/
def beaconPathUp (i : Nat) (s : State) : Bool := (beaconLinks i).all s.linkUp

/-- The response to TIME_LOST of an island (R48, R444). -/
def timeLost (i : Nat) (s : State) : State :=
  match islandPlane i with
  | some q => s.mcheck q 2
  | none => deviceStop (if i = 36 then beaconLost s else s)

/-- A value held within a distance of 0. -/
def within (b : Int) (x : Int) : Int := max (-b) (min b x)

/-- The local cell-time counter of an island in ps, as cell time goes on from its last beacon (R24, R42). -/
def islandTime (i : Nat) (s : State) : Int := s.now + nth s.cyc.clk i 0

/-- A beacon disciplines the local counter of an island: it is within 0.5 ns of the reference (R24, R42). DESIGN CHOICE, log
126. -/
def discipline (i : Nat) (s : State) : State :=
  { s with cyc := { s.cyc with clk := s.cyc.clk.set i (within 500 (Config.clockError i s.now)) } }

/-- Without a beacon a local counter runs on, and its error grows by at most 0.05 ns (R48). DESIGN CHOICE, log 126. -/
def runOn (i : Nat) (s : State) : State :=
  { s with cyc := { s.cyc with clk := s.cyc.clk.set i (nth s.cyc.clk i 0 + within 50 (Config.clockError i s.now)) } }

/-- An island misses a beacon: BEACON_MISS at 8 in a row, TIME_LOST at 64 (R48). The count is in State; no register shows it.
DEDUCED, log 32. DESIGN CHOICE, log 127. -/
def missBeacon (i : Nat) (s : State) : State :=
  if !hearsBeacons i s then s
  else
    let m := nth s.cyc.miss i 0
    let run := if 64 ≤ m then m + 1 else if nth s.cyc.good i 0 = 0 then m + 1 else 1
    let s0 := runOn i s
    let s1 := { s0 with cyc := { s0.cyc with miss := s0.cyc.miss.set i run, good := s0.cyc.good.set i 0 } }
    let name := s1.dp R.TIM_CYC_STATUS F.TIM_CYC_STATUS_LAST_ISLAND i
    if run = 8 then raiseCyc 0 name else if run = 64 then timeLost i (raiseCyc 1 name) else s1

/-- An island receives a beacon: after 16 in a row it is back to normal (R48). DEDUCED, log 32. -/
def hearBeacon (i : Nat) (s0 : State) : State :=
  let s := discipline i s0
  if nth s.cyc.miss i 0 = 0 then s
  else
    let g := nth s.cyc.good i 0 + 1
    let done := decide (16 ≤ g)
    { s with cyc := { s.cyc with
      miss := if done then s.cyc.miss.set i 0 else s.cyc.miss
      good := s.cyc.good.set i (if done then 0 else g) } }

/-- BEACON_MISSED (R48). -/
def execBeaconMissed (island : Fin 40) (s : State) : Host.Outcome State Fault Refusal := settled (missBeacon island s)

/-! ## Supplies in service (R509) -/

/-- A plane is lost before the first grant: it is retired, or boot fails with both lost (R28, R507). DEDUCED, log 122. -/
def loseAtBoot (q : Plane) (s : State) : State :=
  if planeState q.other s = 5 ∨ railOk q.other s = false then bootFailed 0xB s else advanceStage (retireAtBoot q s)

/-- A plane whose rail fails is held in reset as if its machine-check line had risen; PLANE_MCHK is not written (R509). -/
def railLost (q : Plane) (s : State) : State :=
  if s.chanter = some q then switchOver q 2 s
  else match planeState q s with
    | 0 => if 3 ≤ bootStage s ∧ bootStage s < 8 then loseAtBoot q s else s
    | 2 => droneFault q s
    | 3 => droneFault q s
    | _ => s

/-- PLANE_RAIL_FAULT: with the other plane's rail out too, no Drone is eligible and the device is in HALT (R376, R509). -/
def execPlaneRailFault (q : Plane) (s : State) : Host.Outcome State Fault Refusal :=
  settled (if railOk q s then railLost q (setRail q false s) else s)

/-- PLANE_RAIL_RESTORED: the rail has been in range for 10 ms; recovery can start (R509). -/
def execPlaneRailRestored (q : Plane) (s : State) : Host.Outcome State Fault Refusal := settled (setRail q true s)

/-- REFCLK_LOSS: the time keeper stops its beacons until a device reset (R509). -/
def execRefclkLoss (s : State) : Host.Outcome State Fault Refusal := settled { s with boot := { s.boot with refclk := false } }

/-- VFIELD_LOW: the Field die resets, and the warden–field link fails; before READY boot fails (R28, R30, R509). DEDUCED, log
122. -/
def execVfieldLow (s : State) : Host.Outcome State Fault Refusal :=
  let s1 := fieldReset s
  settled (if !s.boot.up then s1
    else if bootStage s1 < 8 then bootFailed 0xB s1
    else linkFail .wardenField s1)

end Sys2Proof.Machine
end

