-- ==== Sys2Proof/Machine/Rdb.lean ====
section
/-! DEFINITION. State readback: snapshots of plane registers (R480, R481, R485). -/

namespace Sys2Proof.Machine

/-- The first slot of the block with a snapshot code (R480, R491). -/
def snapBase : Nat → Nat
  | 0xA => 0x720000
  | b => 0x600000 + 0x20000 * (b - 1)

/-- The slots of a block that its register tables occupy, ascending (R481). -/
def blockSlots (b : Nat) : List Nat := (List.range' (snapBase b) 0x20000).filter isReg

/-- The codes of the blocks that RDB_SNAP_CFG.MASK selects, ascending (R480). -/
def snapBlocks (q : Plane) (s : State) : List Nat :=
  (bitsOf 10 (s.get q R.RDB_SNAP_CFG F.RDB_SNAP_CFG_MASK)).map (· + 1)

/-- The number of words of the records (R481). -/
def snapWords (bs : List Nat) : Nat := (bs.map (fun b => (blockSlots b).length + 9)).sum

/-- A snapshot record of one block (R481). -/
def snapRecord (q : Plane) (b : Nat) (s : State) : List Word :=
  let ks := blockSlots b
  let body := [wordN (0x07 * 2 ^ 28 + 2 ^ 20 + b * 2 ^ 16), wordN ks.length, wordN s.n, wordN (s.n / 2 ^ 36),
      wordN (s.get q R.PLANE_EPOCH F.PLANE_EPOCH_EPOCH),
      wordN (q.code * 2 ^ 35 + b2n (decide (s.chanter = some q)) * 2 ^ 34), 0, 0]
    ++ ks.map (s.view q)
  body ++ [wordN (crc32 body)]

/-- An ARMED snapshot is taken at a commit: the records stand in RDB_BUF and RDB is WRITING (R480). DEDUCED, log 38. DEDUCED,
log 139. -/
def snapTake (q : Plane) (s : State) : State :=
  if s.get q R.RDB_STATUS F.RDB_STATUS_STATE = 1 then
    let ws := (snapBlocks q s).flatMap (fun b => snapRecord q b s)
    let s1 := each ws.zipIdx (fun e s => s.wr q (R.RDB_BUF e.2) e.1) s
    (s1.put q R.RDB_STATUS F.RDB_STATUS_WORDS ws.length).put q R.RDB_STATUS F.RDB_STATUS_STATE 2
  else s

/-- Refuse a command of RDB. -/
def rdbRefuse (q : Plane) (code : Nat) (s : State) : State := s.refuse q R.RDB_STATUS F.RDB_STATUS_REFUSE code bRDB 190 2

/-- A write of RDB_CMD (R480, R485). -/
def rdbCmd (q : Plane) (code : Nat) (s0 : State) : State :=
  let s := s0.put q R.RDB_CMD F.RDB_CMD_CODE code
  match code with
  | 0 => s
  | 1 =>
    let bs := snapBlocks q s
    let d := s.get q R.RDB_SNAP_DST F.RDB_SNAP_DST_ADDR
    let st := s.get q R.RDB_STATUS F.RDB_STATUS_STATE
    if st = 1 ∨ st = 2 then rdbRefuse q 1 s
    else if bs = [] then rdbRefuse q 2 s
    else if 65536 < snapWords bs ∨ (d ≠ 0 ∧ storeWords < d + snapWords bs) then rdbRefuse q 4 s
    else s.put q R.RDB_STATUS F.RDB_STATUS_STATE 1
  | 2 => s.put q R.RDB_STATUS F.RDB_STATUS_STATE 0
  | _ => rdbRefuse q 3 s

/-- SNAP (R480). -/
def execRdbSnap (q : Plane) (s : State) : Host.Outcome State Fault Refusal := settled (rdbCmd q 1 s)

/-- CANCEL (R480). -/
def execRdbCancel (q : Plane) (s : State) : Host.Outcome State Fault Refusal := settled (rdbCmd q 2 s)

/-- RDB_CMD_RESERVED: refused with REFUSE = 0x3 (R485). -/
def execRdbCmdReserved (q : Plane) (code : BitVec 4) (s : State) : Host.Outcome State Fault Refusal :=
  settled (rdbCmd q code.toNat s)

/-- SNAPSHOT_WRITTEN: the records are in the store too if RDB_SNAP_DST is not 0, and SNAP_DONE is raised (R480). -/
def execSnapshotWritten (q : Plane) (s : State) : Host.Outcome State Fault Refusal :=
  settled (if s.get q R.RDB_STATUS F.RDB_STATUS_STATE = 2 then
      let d := s.get q R.RDB_SNAP_DST F.RDB_SNAP_DST_ADDR
      let ws := (List.range (s.get q R.RDB_STATUS F.RDB_STATUS_WORDS)).map (fun k => s.rd q (R.RDB_BUF k))
      let s1 := if d = 0 then s else s.sputs q d ws
      (s1.put q R.RDB_STATUS F.RDB_STATUS_STATE 0).raise q bRDB 190 0
    else s)

end Sys2Proof.Machine
end

