-- ==== Sys2Proof/Machine/Xlk.lean ====
section
/-! DEFINITION. The state copy over XLK: dirty lines, the final flush, the Breath, the Drone's undo log and
resynchronisation (R367 to R371, R381). -/

namespace Sys2Proof.Machine

/-- The copy budget B in data words (R361). -/
def copyBudget (s : State) : Nat := 524288 * s.dg R.TIM_CYC_ACT_PERIOD F.TIM_CYC_ACT_PERIOD_VALUE / 500

/-- The state with the copy engine of plane `q` replaced. -/
def State.setXlk (s : State) (q : Plane) (x : XlkSt) : State := s.setPlane q { s.plane q with xlk := x }

/-- Put an item on the link. -/
def xlkSend (i : XlkItem Rep) (s : State) : State := if xlkFailed s then s else { s with xlk := s.xlk ++ [i] }

/-- The used segments in address order (R381). -/
def sweepSegs (q : Plane) (s : State) : List (Nat × Nat) :=
  ((s.segments q).filter (fun g => decide (0 < g.2))).mergeSort (fun a b => decide (a.1 ≤ b.1))

/-- The copy lines of all replicated segments (R381). -/
def replLines (q : Plane) (s : State) : Nat := ((s.segments q).map (fun g => g.2 / 8)).sum

/-- Line number `i` of the sweep (R381). -/
def sweepLine : List (Nat × Nat) → Nat → Option Nat
  | [], _ => none
  | g :: t, i => if i < g.2 / 8 then some (g.1 / 8 + i) else sweepLine t (i - g.2 / 8)

/-- The words the sweep has yet to send, shown in XLK_RESYNC. -/
def showSweep (q : Plane) (s : State) : State :=
  let x := (s.plane q).xlk
  let left := if x.sweeping then 8 * (replLines q s - x.swept) else 0
  (s.put q R.XLK_RESYNC F.XLK_RESYNC_WORDS left).put q R.XLK_RESYNC F.XLK_RESYNC_ACTIVE (b2n x.sweeping)

/-- The copy of the present cycle exceeds its budget: OVER_BUDGET once, and the engine stops (R369). -/
def overBudget (q : Plane) (s : State) : State :=
  let x := (s.plane q).xlk
  if x.exceeded then s else xlkRaise q 1 (s.setXlk q { x with exceeded := true })

/-- The XLK copy engine reads a line of its store: a poisoned word is a machine check (R404). -/
def readLine (q : Plane) (line : Nat) (s : State) : List Word × State := (s.swords q (8 * line) 8, s.blockRead q (8 * line) 8)

/-- Send a line of the Chanter's store. -/
def sendLine (q : Plane) (line : Nat) (s : State) : State :=
  let r := readLine q line s
  xlkSend (.line line r.1) r.2

/-- The oldest dirty line leaves, and with it its mark; its words are data words of the cycle (R368, R369). -/
def sendDirty (q : Plane) (s : State) : State :=
  let x := (s.plane q).xlk
  match x.dirty with
  | [] => s
  | line :: rest =>
    if copyBudget s < x.sent + 8 then overBudget q s
    else sendLine q line (s.setXlk q { x with dirty := rest, sent := x.sent + 8 })

/-- The next line of the sweep leaves, out of what the data words of the last commit's cycle left of the budget (R381). -/
def sendSweep (q : Plane) (s : State) : State :=
  let x := (s.plane q).xlk
  if x.sweeping && decide (8 ≤ x.room) then
    match sweepLine (sweepSegs q s) x.swept with
    | some line => showSweep q (sendLine q line (s.setXlk q { x with swept := x.swept + 1, room := x.room - 8 }))
    | none => showSweep q (s.setXlk q { x with sweeping := false })
  else s

/-- The present cycle is before its commit: dirty lines leave (R368). -/
def beforeCommit (s : State) : Bool :=
  s.cyc.inCycle && s.dg R.TIM_CYC_STATUS F.TIM_CYC_STATUS_STATE == 1 && s.dg R.TIM_CYC_STATUS F.TIM_CYC_STATUS_PHASE != 3

/-- COPY_LINE_SEND: from CT0(n) to the commit the oldest dirty line, and otherwise a line of the sweep (R368, R381). DEDUCED,
log 89. -/
def execCopyLineSend (s : State) : Host.Outcome State Fault Refusal :=
  settled (match s.chanter with
    | some q =>
      if xlkFailed s || (s.plane q).xlk.exceeded then s
      else if beforeCommit s && !(s.plane q).xlk.dirty.isEmpty then sendDirty q s else sendSweep q s
    | none => s)

/-- The Breath of cycle n (R371). -/
def breathOf (q : Plane) (swap complete : Bool) (words bytes block : Nat) (s : State) : List Word :=
  let w0 := wordN (5 * 2 ^ 28 + 2 ^ 20 + b2n swap * 2 ^ 19 + b2n complete * 2 ^ 18 + q.code * 2 ^ 17)
  let body := [w0, wordN (s.get q R.PLANE_EPOCH F.PLANE_EPOCH_EPOCH), lo72 s.n, hi72 s.n, wordN (words % 2 ^ 25),
    wordN (bytes % 2 ^ 20), wordN (block % 2 ^ 17)]
  body ++ [wordN (crc32 body)]

/-- The block-state words of the flush of cycle n, at most 65,536 (R361). DESIGN CHOICE, log 90. -/
def blockWords (s : State) : Nat := min (Config.blockStateWords s.n) 65536

/-- The replicated state as the flush carries it, with both result buffers (R169). -/
def copiedRep (q : Plane) (s : State) : Rep :=
  let r := s.rep q
  let b := resBase q s
  { r with slv := { r.slv with res := some ((s.plane q).store.words.filter (fun e => decide (b ≤ e.1) && decide (e.1 < b + 4096))) } }

/-- What the final flush of a cycle sends: the block-state words, the dirty lines, and whether the budget stops it (R368, R369). -/
structure Flush where
  block : Nat
  lines : List Nat
  past : Bool
  deriving DecidableEq, Repr

/-- The block state and every line still dirty, as far as the budget lasts (R369). -/
def flushOf (q : Plane) (s : State) : Flush :=
  let x := (s.plane q).xlk
  let left := copyBudget s - x.sent
  let bw := blockWords s
  if bw ≤ left then
    let lines := x.dirty.take ((left - bw) / 8)
    ⟨bw, lines, decide (lines.length < x.dirty.length)⟩
  else ⟨left, [], true⟩

/-- The bytes of a flush on XLK: 40.5 for each line of 8 words (R368). -/
def Flush.bytes (f : Flush) : Nat := 81 * ((f.block + 7) / 8 + f.lines.length) / 2

/-- FINAL_FLUSH and BREATH_SEND: the block state, then every line still dirty, then the Breath; the copy is incomplete where
a limit of R369 is passed, and the engine stops at the budget.  What the budget leaves is for the sweep (R381). The heartbeat line
toggles (R372). -/
def finalFlush (q : Plane) (swap : Bool) (s : State) : State :=
  let f := flushOf q s
  let words := (s.plane q).xlk.sent + f.block + 8 * f.lines.length
  let s1 := if f.past then overBudget q s else s
  let s2 := if 524288 < f.bytes then xlkRaise q 2 s1 else s1
  let s3 := if f.block = blockWords s then xlkSend (.block (copiedRep q s2)) s2 else s2
  let s4 := each f.lines (sendLine q) s3
  let x := (s4.plane q).xlk
  let complete := !x.exceeded && decide (f.bytes ≤ 524288) && !xlkFailed s4
  let s5 := if complete then s4 else xlkRaise q 0 s4
  let s6 := xlkSend (.breath (breathOf q swap complete words f.bytes f.block s5)) s5
  let s7 := (s6.put q R.XLK_COPY F.XLK_COPY_WORDS words).put q R.XLK_COPY_MAX F.XLK_COPY_MAX_WORDS
    (max words (s6.get q R.XLK_COPY_MAX F.XLK_COPY_MAX_WORDS))
  let s8 := (s7.put q R.XLK_FLUSH F.XLK_FLUSH_BYTES f.bytes).put q R.XLK_FLUSH_MAX F.XLK_FLUSH_MAX_BYTES
    (max f.bytes (s7.get q R.XLK_FLUSH_MAX F.XLK_FLUSH_MAX_BYTES))
  let s9 := (s8.put q R.XLK_STATUS F.XLK_STATUS_LAST_COMPLETE (b2n complete)).put q R.XLK_BUDGET F.XLK_BUDGET_WORDS
    (copyBudget s8)
  let y := (s9.plane q).xlk
  let s10 := s9.setXlk q { y with
    dirty := y.dirty.drop f.lines.length, sent := 0, room := copyBudget s - words, exceeded := false, complete := complete }
  let s11 := s10.setWard q { s10.ward q with toggled := true }
  if complete then s11 else loseStep q.other s11

/-- Whether the other plane receives the copy: it is up, whatever its step. -/
def droneUp (d : Plane) (s : State) : Bool := planeState d s == 2 || planeState d s == 3

/-- The Drone takes a line: its old contents go to the undo log on its first write of the cycle, then it is written in place
(R370). DEDUCED, log 89. -/
def takeLine (d : Plane) (line : Nat) (ws : List Word) (s : State) : State :=
  let u := (s.plane d).xlk.undo
  let s1 := if u.any (fun e => e.1 == line) then s else setUndo d (u ++ [(line, s.swords d (8 * line) 8)]) s
  putLine d line ws s1

/-- The Drone takes one item of XLK that is not a Breath (R370). -/
def takeItem (d : Plane) (i : XlkItem Rep) (s : State) : State :=
  match i with
  | .line l ws => takeLine d l ws s
  | .block r => s.setPlane d { s.plane d with staged := some r }
  | .breath _ => s

/-- The Drone of the present Chanter. -/
def droneOf (s : State) : Option Plane := s.chanter.map Plane.other

/-- COPY_LINE_RECEIVED: the oldest item on the link, if it is not a Breath (R370). -/
def execCopyLineReceived (s : State) : Host.Outcome State Fault Refusal :=
  settled (match s.xlk, droneOf s with
    | .breath _ :: _, _ => s
    | i :: rest, some d => let s1 := { s with xlk := rest }
        if droneUp d s1 then takeItem d i s1 else s1
    | _, _ => s)

/-- The items before the first Breath, the Breath, and those after it. -/
def splitBreath : List (XlkItem Rep) → Option (List (XlkItem Rep) × List Word × List (XlkItem Rep))
  | [] => none
  | .breath ws :: t => some ([], ws, t)
  | i :: t => (splitBreath t).map (fun r => (i :: r.1, r.2.1, r.2.2))

/-- The state that a Drone has at a commit: the staged one, but for the thread state while a graph runs on it (R400). DEDUCED,
log 83. -/
def stagedRep (p : PlaneSt) : Rep :=
  let r := p.staged.getD p.rep
  if p.graph.isSome then { r with sch := p.rep.sch } else r

/-- What a plane keeps beside the replicated state follows a commit that it applies: loaded Prickings and parameter blocks (R169, R227). -/
def droneFollow (d : Plane) (s : State) : State := cleSync d (slvSync d s)

/-- The Drone applies commit n: it loads the staged state, empties its undo log, reports APPLIED and toggles its heartbeat line
(R370), and an armed snapshot is taken (R480); once resynchronised it enters IN_STEP (R381). DEDUCED, log 83. -/
def applyCommit (d : Plane) (n : Nat) (s : State) : State :=
  let p := s.plane d
  let s1 := droneFollow d (s.setPlane d { p with rep := stagedRep p, staged := none })
  let s2 := snapTake d (setUndo d [] s1)
  let s3 := s2.setWard d { s2.ward d with toggled := true }
  let s4 := { s3 with red := { s3.red with pathP := true, applied := some n } }
  if planeState d s4 = 3 && (s4.plane d).xlk.loaded && !(s4.plane d.other).xlk.sweeping then
    xlkRaise d.other 4 (enterInStep d s4)
  else s4

/-- BREATH_RECEIVED: everything sent before it has arrived.  With a good CRC, COMPLETE = 1 applies the commit; COMPLETE = 0
counts as an arrival on path P alone (R370, R372). -/
def execBreathReceived (crcOk : Bool) (s : State) : Host.Outcome State Fault Refusal :=
  settled (match splitBreath s.xlk, droneOf s with
    | some (pre, ws, rest), some d =>
      if droneUp d s then
        let s1 := { each pre (takeItem d) s with xlk := rest }
        if !crcOk then s1
        else if bitN (nth ws 0 0).toNat 18 then applyCommit d (of72 (nth ws 2 0) (nth ws 3 0)) s1
        else { s1 with red := { s1.red with pathP := true } }
      else { s with xlk := rest }
    | _, _ => s)

/-- A Breath that has not arrived says that its copy is incomplete. DEDUCED, log 89. -/
def spoilBreath (i : XlkItem Rep) : XlkItem Rep :=
  match i with
  | .breath ws =>
    let w0 := (nth ws 0 0)
    let body := (Fld.set ⟨18, 18⟩ w0 0) :: (ws.drop 1).take 6
    .breath (body ++ [wordN (crc32 body)])
  | i => i

/-- FLUSH_LATE: a flush that has not ended by CT0(n+1), its Breath still on the link, makes the copy incomplete and puts the
Drone out of step (R369). DEDUCED, log 89. -/
def execFlushLate (s : State) : Host.Outcome State Fault Refusal :=
  settled (match s.chanter, splitBreath s.xlk with
    | some q, some _ =>
      let s1 := { s with xlk := s.xlk.map spoilBreath }
      let s2 := (xlkRaise q 0 (xlkRaise q 3 s1)).put q R.XLK_STATUS F.XLK_STATUS_LAST_COMPLETE 0
      loseStep q.other (s2.setXlk q { (s2.plane q).xlk with complete := false })
    | _, _ => s)

end Sys2Proof.Machine
end

