-- ==== Sys2Proof/Machine/Cycle.lean ====
section
/-! DEFINITION. Time beacons, the cycle sequencer, and the actions that every cycle has: the sync point, the interpolation, the commit
and the apply point (R42 to R59). -/

namespace Sys2Proof.Machine


/-! ## The sequencer (R50 to R56) -/

/-- The step of cell time is due: at a deferred one, as long as more than 1 µs remains (R43, R44). -/
def stepDue (s : State) : Option Int :=
  match s.cyc.step with
  | none => none
  | some d =>
    if s.anyClosed then none
    else if s.dg R.TIM_CYC_STATUS F.TIM_CYC_STATUS_STEP_DEFERRED = 1 ∧ d ≤ 1000000 ∧ -1000000 ≤ d then none
    else some d

/-- Cell time takes its one step by `d` ps: what SENSE holds moves with it, and intervals since power good and since the
calendar was written keep their length (R43, R256). DESIGN CHOICE, log 33. -/
def takeStep (d : Int) (s : State) : State :=
  let s1 := { s with
    now := moved d s.now
    cyc := { s.cyc with step := none, stepped := true, beaconAt := moved d s.cyc.beaconAt }
    boot := { s.boot with since := moved d s.boot.since }
    fed := { s.fed with calAt := moved d s.fed.calAt } }
  let s2 := (s1.dp R.TIM_CYC_STATUS F.TIM_CYC_STATUS_STEP_DEFERRED 0).dp R.TIM_STATUS F.TIM_STATUS_STEPPED 1
  raiseCyc 3 (senseStep d s2)

/-- CHANGING_ENTRY at the end of the current cycle: a step first, then the pending configuration (R56). DEDUCED, log 35. -/
def enterChanging (s : State) : State :=
  let s1 := (s.toTime (s.cyc.nextTick * 250000)).dp R.TIM_CYC_STATUS F.TIM_CYC_STATUS_STATE 2
  let s2 := match stepDue s1 with
    | some d => takeStep d s1
    | none => s1
  let s3 := { s2 with cyc := { s2.cyc with inCycle := false, holdFrom := s2.now, pend := none } }
  findStart (match s2.cyc.pend with
    | some c => putInForce c s3
    | none => s3)

/-- Whether the sequencer leaves RUNNING at the end of the current cycle (R56). DEDUCED, log 35. -/
def changeDue (s : State) : Bool := inCycle s && (s.cyc.pend.isSome || (stepDue s).isSome)

/-! ## Time beacons (R46, R47) -/

/-- The cell time of the present or coming CT0, if a beacon marks it: that of the cycle that runs, or of the one that starts next
(R46, R56). -/
def startsAt (s : State) : List (Nat × Nat) :=
  (if inCycle s then [(s.ct0, s.n)] else [])
    ++ (if cycState s = 1 ∧ changeDue s = false then [(s.cyc.nextTick * 250000, s.cyc.starts)] else [])

/-- The cell time of the next beacon: now, where one is due now and has not been sent; else the next whole microsecond, or a
cycle start that comes before it (R46). DESIGN CHOICE, log 2. DEDUCED, log 31. -/
def nextBeacon (s : State) : Nat :=
  let starts := (startsAt s).map (·.1)
  if s.cyc.beaconAt < s.now ∧ (s.now % 1000000 = 0 ∨ starts.contains s.now = true) then s.now
  else (starts.filter (fun t => decide (s.now < t))).foldl min ((s.now / 1000000 + 1) * 1000000)

/-- What the beacon that leaves now carries (R46). -/
def beaconNow (s : State) : Beacon :=
  match (startsAt s).find? (fun e => e.1 == s.now) with
  | some e => ⟨htsOfPs s.now, true, e.2 % 2 ^ 16⟩
  | none => ⟨htsOfPs s.now, false, 0⟩

/-- A beacon leaves (R46). -/
def departBeacon (s : State) : State := { s with cyc := { s.cyc with beaconAt := s.now, beacon := some (beaconNow s) } }

/-- TIME_BEACON, from power good on and not in FAILED (R456, R509): the time keeper takes what waits for a beacon and sends it;
each island that takes part hears it or misses it (R46, R47). DEDUCED, log 31. -/
def execTimeBeacon (missed : List (Fin 40)) (s : State) : Host.Outcome State Fault Refusal :=
  settled (if !s.boot.refclk || !s.boot.up || bootStage s == 9 then s
    else
      let s1 := timBeacon (departBeacon (s.toTime (nextBeacon s)))
      each (List.range 40) (fun i s =>
        if (missed.map (·.val)).contains i || !beaconPathUp i s then missBeacon i s
        else if hearsBeacons i s then hearBeacon i s else s) s1)

/-! ## The sequencer, continued -/

/-- TIME_STEP: the step is applied at the end of the current cycle, in CHANGING (R43, R56). -/
def execTimeStep (s : State) : Host.Outcome State Fault Refusal :=
  settled (if inCycle s && (stepDue s).isSome then enterChanging s else s)

/-- CYCLING_START: the sequencer leaves STOPPED, unless boot has FAILED, for the next cycle start of the grid in force; the channels that
the device tables enable start (R56, R449, R456). DEDUCED, log 34. -/
def execCyclingStart (s : State) : Host.Outcome State Fault Refusal :=
  settled (if cycState s ≠ 0 ∨ bootStage s = 9 then s
    else
      let s1 := s.dp R.TIM_CYC_STATUS F.TIM_CYC_STATUS_STATE 1
      let s2 := { s1 with cyc := { s1.cyc with nextTick := firstStart (tickFrom s1.now) s1, inCycle := false } }
      if bootStage s2 = 6 then each (bitsOf 2 s2.tab.buses) busStartCmd (setStage 7 s2) else s2)

/-- A cycle begins at the tick found for it (R50). DEDUCED, log 34. -/
def beginCycle (s : State) : State :=
  let t := s.cyc.nextTick
  let p := s.dg R.TIM_CYC_ACT_PERIOD F.TIM_CYC_ACT_PERIOD_VALUE
  let s1 := { s.toTime (t * 250000) with
    cyc := { s.cyc with starts := s.cyc.starts + 1, tick := t, nextTick := t + p, inCycle := true } }
  let s2 := latchEvp (s1.dp R.TIM_CYC_STATUS F.TIM_CYC_STATUS_PHASE 0)
  let s3 := if s.cyc.starts = 0 then s2.wr .a R.BOOT_T_CYCLE (bootUs s2) else s2
  fedCycle (fieldCycle (busCycle s3))

/-- CYCLE_START: cycle n begins, unless a change is due at the end of the cycle before (R50, R56). DESIGN CHOICE, log 2. -/
def execCycleStart (s : State) : Host.Outcome State Fault Refusal :=
  settled (if cycState s ≠ 1 then s else if changeDue s then enterChanging s else beginCycle s)

/-- CHANGING_EXIT: the sequencer is back in RUNNING, its first cycle start found (R56). DEDUCED, log 35. -/
def execChangingExit (s : State) : Host.Outcome State Fault Refusal :=
  settled (if cycState s = 2 then (s.toTime (s.cyc.nextTick * 250000)).dp R.TIM_CYC_STATUS F.TIM_CYC_STATUS_STATE 1 else s)

/-! ## The phases of a cycle (R53) -/

/-- SYNC_POINT at CT0(n) + SYNC_OFS: SENSE and FIELD latch (R245, R433). -/
def execSyncPoint (s : State) : Host.Outcome State Fault Refusal :=
  settled (if inCycle s then diImage (latchAll (s.toTime (s.atOfs R.TIM_CYC_ACT_SYNC_OFS))) else s)

/-- The Chanter that runs the present cycle: ready, from its first cycle on, and without a machine check (R373, R374). DEDUCED,
log 37. -/
def cycleChanter (s : State) : Option Plane :=
  match runningChanter s with
  | some q => if (s.ward q).mchk then none else some q
  | none => none

/-- INTERPOLATION at CT0(n) + FB_DEADLINE: the planner, the request of the motion job, and channel 1 (R53, R130, R158, R284). -/
def execInterpolation (s : State) : Host.Outcome State Fault Refusal :=
  settled (if !inCycle s then s
    else
      let s1 := (s.toTime (s.atOfs R.TIM_CYC_ACT_FB_DEADLINE)).dp R.TIM_CYC_STATUS F.TIM_CYC_STATUS_PHASE 1
      match cycleChanter s1 with
      | none => s1
      | some q => ssmEvalOne q (requestJob q (plnInterpolate q (if s1.red.linkFault then wardenStop q s1 else s1))))

/-- Channel 1 runs and has not evaluated in the present cycle. DEDUCED, log 37. -/
def ssmLate (q : Plane) (s : State) : Bool :=
  s.get q R.SSM_STATUS F.SSM_STATUS_STATE == 1 && (match (s.ssm .one q).own with
    | some r => r.cycle != s.n
    | none => true)

/-- SHADOW_COPY: every shadow becomes the active value (R59). DEDUCED, log 38. -/
def shadowCopy (q : Plane) (s : State) : State := s.setRep q { s.rep q with act := (s.rep q).regs }

/-- What the commit sends to PORT, SENSE and FIELD (R57, R290). -/
def contentOf (q : Plane) (s : State) : CommitContent :=
  { plane := q, epoch := s.get q R.PLANE_EPOCH F.PLANE_EPOCH_EPOCH, cycle := s.n, cmd := freezeTx q s
    douts := (s.pln q).douts, ssa := (s.ssm .one q).permit }

/-- The blocks of the Chanter publish their part of the commit (R57). DEDUCED, log 38. -/
def publishBlocks (q : Plane) (s : State) : State :=
  let s1 := plnCommit q (estCommit q (slvEffects q (slvCommit q s)))
  senseCommit q (ssmCommit q (cleCommit q s1))

/-- The commit of cycle n by the Chanter: the blocks' part, the fields marked at commit, a snapshot, and the final flush with
its Breath, which says whether a swap is due (R57, R59, R368, R371, R379, R480). DEDUCED, log 38. -/
def commitCycle (q : Plane) (s : State) : State :=
  let s1 := publishBlocks q s
  let s2 := { s1 with red := { s1.red with content := some (contentOf q s1), lastCommit := s1.n, applied := none } }
  let s3 := schedCommit q (cleShadow q (shadowCopy q s2))
  let due := swapDue s3
  let s4 := { s3 with red := { s3.red with due := due, swapSent := due.isSome } }
  finalFlush q due.isSome (snapTake q s4)

/-- COMMIT at CT0(n) + COMMIT_OFS: each plane's intake has the samples of the cycle (R185), and the Chanter commits; with an
engine that is not done, ENGINE_LATE and a machine check instead (R57, R63). DESIGN CHOICE, log 2. DEDUCED, log 37. -/
def execCommit (s : State) : Host.Outcome State Fault Refusal :=
  settled (if !inCycle s then s
    else
      let s0 := (s.toTime (s.atOfs R.TIM_CYC_ACT_COMMIT_OFS)).dp R.TIM_CYC_STATUS F.TIM_CYC_STATUS_PHASE 3
      let s1 := each (intakePlanes s0) takeSample s0
      match cycleChanter s1 with
      | none => s1
      | some q => if engineLate q s1 || ssmLate q s1 then (raiseCyc 5 s1).mcheck q 3 else commitCycle q s1)

/-- APPLY_POINT at CT0(n+1) + APPLY_OFS: FIELD switches its outputs (R435). -/
def execApplyPoint (s : State) : Host.Outcome State Fault Refusal :=
  settled (if inCycle s then fieldApply (s.toTime (s.atOfs R.TIM_CYC_ACT_APPLY_OFS)) else s)

/-- A stage takes the content of a commit whose marker has arrived; predictions are on their way to SENSE since the commit
(R366). DEDUCED, log 39. -/
def takeContent (stage : Stage) (p : CommitContent) (s : State) : State :=
  match stage with
  | .port => takeTx p.cycle p.cmd s
  | .field => takeDouts s
  | _ => s

/-- A stage discards the content of a commit. DEDUCED, log 39. -/
def dropContent (stage : Stage) (s : State) : State :=
  match stage with
  | .sense => { s with sense := { s.sense with flight := [] } }
  | _ => s

/-- COMMIT_CONTENT_ARRIVAL: content counts only with its marker and the current epoch, and only over a link that has not failed
(R30, R364, R366). DEDUCED, log 39. -/
def execCommitContentArrival (stage : Stage) (marker : Bool) (s : State) : Host.Outcome State Fault Refusal :=
  settled (match s.red.content with
    | none => s
    | some p =>
      if !marker || !s.linkUp (stageLink p.plane stage) then dropContent stage s
      else if s.chanter = some p.plane ∧ p.epoch = s.dg R.RED_EPOCH F.RED_EPOCH_EPOCH then takeContent stage p s
      else (dropContent stage s).count .a (R.RED_REJECT stage.num) F.RED_REJECT_COUNT 1)

end Sys2Proof.Machine
end

