-- ==== Sys2Proof/Machine/Events.lean ====
section
/-! DEFINITION. The event matrix: routes, posts, DMA requests, trigger requests and MSI-X (R474 to R478). -/

namespace Sys2Proof.Machine

/-- The vector is masked: in its table entry or by Function Mask (R478, 3), or the function is in D3hot (R499). -/
def vecMasked (v : Nat) (s : State) : Bool :=
  (nth (nth s.evm.table v []) 3 0).toNat % 2 == 1 || s.dg R.EVM_STATUS F.EVM_STATUS_FUNC_MASK == 1
    || s.dg R.HIF_LINK F.HIF_LINK_D3HOT == 1

/-- One message goes to the host; it is a wake request for PORT_HOST (R472, R478). DEDUCED, log 25. -/
def sendMsix (v : Nat) (s : State) : State :=
  let c := (s.rd .a (R.EVM_VEC_CNT v)).toNat
  let s1 := s.wr .a (R.EVM_VEC_CNT v) (wordN (c + 1))
  { s1 with evm := { s1.evm with sent := v :: s1.evm.sent } }.wake 9

/-- A message is produced for vector `v`: sent, or kept in the PBA while the vector is masked; it starts a holdoff
(R478, 2 and 3). -/
def produceMsix (v : Nat) (s : State) : State :=
  let s1 := if vecMasked v s then
      if s.evm.pba.contains v then s else { s with evm := { s.evm with pba := s.evm.pba ++ [v] } }
    else sendMsix v s
  let us := s1.dg (R.EVM_VEC_CFG v) F.EVM_VEC_CFG_HOLDOFF_US
  if us = 0 then s1
  else { s1.dp (R.EVM_VEC_CFG v) F.EVM_VEC_CFG_HOLDOFF_RUN 1 with
    evm := { s1.evm with holdEnd := s1.evm.holdEnd.set v (s1.now + us * 1000000) } }

/-- An assertion routed to vector `v` (R478). -/
def assertMsix (v : Nat) (s : State) : State :=
  if s.dg R.EVM_STATUS F.EVM_STATUS_MSIX_EN = 0 then s.raiseEVM 0
  else if s.dg (R.EVM_VEC_CFG v) F.EVM_VEC_CFG_HOLDOFF_RUN = 1 then s.dp (R.EVM_VEC_CFG v) F.EVM_VEC_CFG_HOLD_PEND 1
  else produceMsix v s

/-- Messages pending in the PBA are sent when their mask is removed (R478, 3). -/
def unmaskMsix (s : State) : State :=
  if s.dg R.EVM_STATUS F.EVM_STATUS_MSIX_EN = 0 then s
  else each s.evm.pba (fun v s => if vecMasked v s then s
    else sendMsix v { s with evm := { s.evm with pba := s.evm.pba.filter (· != v) } }) s

/-- The route of a source (R476): none where it is not enabled. -/
def routeOf (e : Nat) (s : State) : Option (Nat × Nat) :=
  if s.dg (R.EVM_ROUTE e) F.EVM_ROUTE_EN = 1
  then some (s.dg (R.EVM_ROUTE e) F.EVM_ROUTE_KIND, s.dg (R.EVM_ROUTE e) F.EVM_ROUTE_TARGET) else none

/-- One event is asserted and counted; posts, DMA requests and trigger requests are delivered, a crossing into their domain, the
first two only to a plane that holds the grant (R471, R476). Messages are left to `assertMsix`. DEDUCED, log 14. -/
def assertOne (e : Nat) (s : State) : State :=
  let s1 := { s with evm := { s.evm with raised := s.evm.raised.erase e } }
  let s2 := s1.wr .a (R.EVM_SRC_CNT e) (s1.rd .a (R.EVM_SRC_CNT e) + 1)
  match routeOf e s2 with
  | some (1, t) => s2.onChanter (fun q => postTo q .matrix t (wordN s2.n))
  | some (2, l) => s2.onChanter (fun q s => dmaRequest q l (s.wake (4 * q.code + 2)))
  | some (3, k) => { s2 with evm := { s2.evm with trig := s2.evm.trig ++ [k] } }.wake 10
  | _ => s2

/-- The vectors that the events of one matrix clock go to, each once (R478, 1). DEDUCED, log 14. -/
def vectorsOf (es : List Nat) (s : State) : List Nat :=
  (es.filterMap (fun e => match routeOf e s with
    | some (0, v) => some v
    | _ => none)).dedup

/-- EVENT_ASSERTION: events asserted in one matrix clock (R475, R476, R478). DEDUCED, log 14. -/
def execEventAssertion (es : List (Fin 256)) (s : State) : Host.Outcome State Fault Refusal :=
  let l := es.map (·.val)
  settled (each (vectorsOf l s) assertMsix (each l assertOne s))

/-- The target of a route is in its range (R476). -/
def routeOk (v : Word) : Bool :=
  let t := F.EVM_ROUTE_TARGET.get v
  match F.EVM_ROUTE_KIND.get v with
  | 1 => true
  | 3 => decide (t < 8)
  | _ => decide (t < 64)

/-- A write of EVM_ROUTE: at once, or refused with REFUSE = 0x1 and the route in force kept (R476). -/
def writeRoute (e : Nat) (v : Word) (s : State) : State :=
  if routeOk v then s.wr .a (R.EVM_ROUTE e) (F.EVM_ROUTE_EN.set (F.EVM_ROUTE_KIND.set (F.EVM_ROUTE_TARGET.set 0
    (F.EVM_ROUTE_TARGET.get v)) (F.EVM_ROUTE_KIND.get v)) (F.EVM_ROUTE_EN.get v))
  else (s.dp R.EVM_STATUS F.EVM_STATUS_REFUSE 1).raiseEVM 2

/-- EVM_ROUTE_WRITE (R476). -/
def execEvmRouteWrite (src : Fin 256) (v : Word) (s : State) : Host.Outcome State Fault Refusal :=
  settled (writeRoute src v s)

/-- MSIX_HOLDOFF_END: one message if the holdoff bit is set, and then a new holdoff; none while MSI-X is disabled (R478, 2 and
4). DEDUCED, log 14. -/
def execMsixHoldoffEnd (v : Fin 64) (s : State) : Host.Outcome State Fault Refusal :=
  settled (if s.dg (R.EVM_VEC_CFG v) F.EVM_VEC_CFG_HOLDOFF_RUN = 1 then
      let s1 := (s.toTime (nth s.evm.holdEnd v 0)).dp (R.EVM_VEC_CFG v) F.EVM_VEC_CFG_HOLDOFF_RUN 0
      if s1.dg (R.EVM_VEC_CFG v) F.EVM_VEC_CFG_HOLD_PEND = 1 then
        let s2 := s1.dp (R.EVM_VEC_CFG v) F.EVM_VEC_CFG_HOLD_PEND 0
        if s2.dg R.EVM_STATUS F.EVM_STATUS_MSIX_EN = 1 then produceMsix v s2 else s2
      else s1
    else s)

end Sys2Proof.Machine
end

