-- ==== Sys2Proof/Machine/GraphRun.lean ====
section
/-! DEFINITION. What the three dataflow graphs do as their nodes complete and as they end (R381, R399, R400, R454). -/

namespace Sys2Proof.Machine

/-- The first grant: the named plane is the Chanter from cycle 0 on; the other, if it is not retired, is OUT_OF_STEP (R362,
R364). Its START_UP graph still runs, so no thread is dispatched yet (R400). DEDUCED, log 82. -/
def firstGrant (s : State) : State :=
  if (s.dg R.RED_STATUS F.RED_STATUS_GRANTED = 1) ∨ bootStage s < 3 ∨ 7 < bootStage s then s
  else
    let q := firstChanter s
    let s1 := grant q s
    let s2 := if (s1.plane q).graph.isSome then s1.put q R.SCH_STATUS F.SCH_STATUS_MODE 1 else s1
    let s3 := { s2 with red := { s2.red with
      readyAt := some s2.now, firstCycle := 0, lastCommit := 0, period := periodOf s2, hostSwap := false, reversion := false } }
    let s4 := s3.dp R.RED_STATUS F.RED_STATUS_SCHED (scheduled (periodOf s3) s3).code
    if planeState q.other s4 = 0 then outOfStep q.other s4 else s4

/-- The start-up graph activates a Pricking of the image: it takes effect as soon as every plane that is not retired has loaded it
(R168). -/
def bootPricking (q : Plane) (a : Nat) (s : State) : State :=
  let n := activateCheck q a s
  if n = 0 then acceptPrick q a s else s.refuse q R.SLV_STATUS F.SLV_STATUS_REFUSE n bSLV 40 7

/-- A stream of the program section is copied into its arm's ring from word 0; one that the ring does not hold is
IMAGE_TOO_LARGE (R98). The ring configuration that the start-up writes is in force from the copy on. DEDUCED, log 80. -/
def copyStream (q : Plane) (e : Nat × Nat × Nat) (s0 : State) : State :=
  let a := e.1
  let s := applyQCfg q a s0
  let lg := s.get q (R.PLN_Q_CFG a) F.PLN_Q_CFG_SIZE_LOG2
  if lg < 8 ∨ 24 < lg ∨ 2 ^ lg < e.2.2 then armFault q a 0x11 0 0 none s
  else
    let base := s.get q (R.PLN_Q_BASE a) F.PLN_Q_BASE_ADDR / 2 ^ lg * 2 ^ lg
    let s1 := (s.sputs q base (s.swords q e.2.1 e.2.2)).put q (R.PLN_Q_WR a) F.PLN_Q_WR_COUNT e.2.2
    s1.setArm q a { s1.arm q a with copied := true }

/-- The safety parameters of the image, with the CRC of their payload (R297). -/
def safetyCrcOk (s : State) : Bool :=
  match s.boot.placed.find? (fun p => p.1 == 6) with
  | some p => crc32 (safetyWords p.2) == leNum (slice p.2 12 4)
  | none => false

/-- Channel 1 of plane `q` loads the safety parameters (R297). -/
def safetyLoad1 (q : Plane) (s : State) : State :=
  { ssmLoad .one q (safetyCrcOk s) s with boot := { s.boot with loaded1 := true } }

/-- Channel 2 loads the safety parameters, and FIELD sets the inputs of the pairs (R297, R432). -/
def safetyLoad2 (q : Plane) (s : State) : State :=
  let s1 := { ssmLoad .two q (safetyCrcOk s) s with boot := { s.boot with loaded2 := true } }
  match s1.tab.safety with
  | some t => if safetyCrcOk s then fieldSafety t s1 else s1
  | none => s1

/-- The store test builds a new spare map: the rows that it finds bad take the spares, as far as they go (R406, R454). -/
def buildSpares (q : Plane) (s : State) : State :=
  let rows := (((s.boot.found.badRows.filter (fun e => decide (e.1 = q))).map (·.2.val)).dedup).take 64
  let s1 := each (List.range 64) (fun r s => s.wr q (R.CST_SPARE r) (match rows[r]? with
    | some row => F.CST_SPARE_ROW.set (F.CST_SPARE_USED.set 0 1) row
    | none => 0)) s
  let s2 := s1.put q R.CST_STATUS F.CST_STATUS_SPARES_FREE (64 - rows.length)
  if rows.length = 64 then s2.raise q bCST 184 3 else s2

/-- A store has failed its start-up test: its plane is retired, and boot fails with both lost (R454, R455). DEDUCED, log 82. -/
def storeFailed (q : Plane) (s : State) : State :=
  if planeState q.other s = 5 then bootFailed 0xC s else advanceStage (retireAtBoot q s)

/-- The bus schedule section loads bank 0 of both Cell Bus channels (R316). DEDUCED, log 117. -/
def loadBus (s : State) : State :=
  each (s.tab.busRegs.filter (fun e => decide (R.CBUS_CFG ≤ e.1) && decide (e.1 < R.CBUS_CFG + 0x20000))) loadReg s

/-- The longest beacon path to an island, before compensation, in ps (R62). -/
def beaconBound (i : Nat) : Nat := if 22 ≤ i ∧ i ≤ 25 then 32000 else if i = 36 then 36000 else 16000

/-- The echo exchange has measured the beacon path of every island that receives beacons, and its delay compensation is stored (R47).
-/
def measureEchoes (s : State) : State :=
  { s with cyc := { s.cyc with delay := (List.range 40).map (fun i =>
      if hearsBeacons i s then min (beaconBound i) (Config.beaconPath i) else nth s.cyc.delay i 0) } }

/-- The links of plane `q` other than XLK have not failed (R30). -/
def ownLinksUp (q : Plane) (s : State) : Bool := (planeLinks q).all (fun l => !(nth s.links l ⟨0, false⟩).failed)

/-- The work of an operation of a graph on plane `q` that has completed. UNVERIFIED, log 81. -/
def nodeEffect (q : Plane) (o : NodeOp) (s : State) : State :=
  match o with
  | .lanes =>
    let s1 := if s.boot.lanesDone.isEmpty then lanesResult s else s
    if bootStage s1 = 9 then s1
    else advanceStage { s1 with boot := { s1.boot with lanesDone := s1.boot.lanesDone ++ [q] } }
  | .storeTest =>
    let s1 := buildSpares q s
    advanceStage { s1 with boot := { s1.boot with storeDone := s1.boot.storeDone ++ [q] } }
  | .echoes => measureEchoes s
  | .safety1 => safetyLoad1 q s
  | .safety2 => if s.boot.loaded2 then s else safetyLoad2 q s
  | .busLoad => loadBus s
  | .cleLoad => cleLoadAll q s
  | .prickings => each s.tab.prickings (bootPricking q) s
  | .programCopy => each s.tab.streams (copyStream q) s
  | .busStart => each (bitsOf 2 s.tab.buses) (fun c s => if busState c s = 0 then busStartCmd c s else s) s
  | .firstGrant => firstGrant s
  | .resyncLoad =>
    let s1 := slvSync q s
    s1.setPlane q { s1.plane q with xlk := { (s1.plane q).xlk with loaded := true } }

/-- What a graph that is DONE leads to on its plane (R400): START_UP ends in THREAD mode on the first Chanter, and in HOLD and
resynchronisation on the other plane; BIST in OUT_OF_STEP; RESYNC in HOLD. A plane with a failed link of its own does not pass
its self-test, since that link stays failed until the next boot (R30, R382). DEDUCED, log 80. DEDUCED, log 82. DEDUCED, log 122.
-/
def graphDone (q : Plane) (kind : Nat) (s : State) : State :=
  if kind = 1 then
    let s1 := firstGrant s
    if s1.chanter = some q then
      let s2 := { s1 with boot := { s1.boot with graphDone := true } }.put q R.SCH_STATUS F.SCH_STATUS_MODE 0
      drainAll q (each (List.range 8) (coreFree q) s2)
    else startResync q (s1.put q R.SCH_STATUS F.SCH_STATUS_MODE 2)
  else if kind = 2 then
    if planeState q s ≠ 4 then s else if ownLinksUp q s then outOfStep q (redRaise 8 s) else retire q s
  else
    let s1 := s.put q R.SCH_STATUS F.SCH_STATUS_MODE 2
    s1.setPlane q { s1.plane q with xlk := { (s1.plane q).xlk with loaded := true } }

/-- What a graph that has FAILED leads to (R400): boot failure, retirement, or recovery. DEDUCED, log 80. -/
def graphFailed (q : Plane) (kind : Nat) (s : State) : State :=
  if kind = 1 then bootFailed 0xD s
  else if kind = 2 then retire q s
  else if planeState q s = 3 then resyncFailed q s else s

/-- A node that completes OK sends a token to each successor and FINAL ends the graph; then ready nodes start (R399, 2 to 5).
DEDUCED, log 80. -/
def nodeOk (q : Plane) (x : GNode) (s : State) : State :=
  match (s.plane q).graph with
  | none => s
  | some g =>
    if x.final then graphDone q g.kind (graphEnd q 2 4 g.start s)
    else graphStart q (s.setGraph q (some (x.succ.foldl graphToken g)))

/-- The effect of a node's operation, if the kernel gives it one. UNVERIFIED, log 81. -/
def opOf (x : GNode) (s : State) : Option NodeOp :=
  (s.tab.nodeOps.find? (fun e => e.1 == x.exec && e.2.1 == x.op)).map (·.2.2)

/-- GRAPH_NODE_DONE: node `node` of the graph on plane `q` completes, with an error code or 0 (R399). DEDUCED, log 80. -/
def execGraphNodeDone (q : Plane) (node : Fin 1024) (err : BitVec 8) (s : State) : Host.Outcome State Fault Refusal :=
  settled (match (s.plane q).graph with
    | none => s
    | some g =>
      match g.running.find? (fun r => r.1 == node.val) with
      | none => s
      | some r =>
        let x := nth g.nodes node.val ⟨0, 0, 0, 0, false, 0, []⟩
        let s1 := s.setGraph q (some { g with running := g.running.erase r })
        let s2 := if r.2 < 8 then coreBusy q r.2 false s1 else s1
        let o := opOf x s2
        if err = 0 then
          nodeOk q x (match o with
            | some e => nodeEffect q e s2
            | none => s2)
        else if o = some .storeTest then storeFailed q s2
        else
          let w := F.SCH_GRAPH_STATUS_NODE.set (F.SCH_GRAPH_STATUS_EXEC.set (F.SCH_GRAPH_STATUS_OP.set
            (F.SCH_GRAPH_STATUS_CODE.set 0 err.toNat) x.op) x.exec) node.val
          graphFailed q g.kind (graphEnd q 3 5 g.start (s2.wr q R.SCH_GRAPH_STATUS w)))

/-- GRAPH_TIMEOUT: a graph that has neither ended nor failed when its TIMEOUT has passed (R399, 7). -/
def execGraphTimeout (q : Plane) (s : State) : Host.Outcome State Fault Refusal :=
  settled (match (s.plane q).graph with
    | none => s
    | some g =>
      let s1 := s.toTime (g.start + g.timeout)
      graphFailed q g.kind (graphEnd q 3 6 g.start (s1.wr q R.SCH_GRAPH_STATUS (F.SCH_GRAPH_STATUS_CODE.set 0 2))))

/-- PLANE_RESET_RELEASE: 1 ms after it entered RECOVERING, and once its rails are in range, the plane leaves reset and runs its self-test
(R380, R400, R509). -/
def execPlaneResetRelease (q : Plane) (s : State) : Host.Outcome State Fault Refusal :=
  settled (if planeState q s = 4 ∧ (s.ward q).inReset = true ∧ railOk q s = true then
      let s0 := s.toTime ((s.ward q).since + 10 ^ 9)
      let s1 := graphBegin q s0.tab.bist (releasePlane q s0)
      if (s1.plane q).graph.isNone then graphFailed q 2 s1 else s1
    else s)

end Sys2Proof.Machine
end

