-- ==== Sys2Proof/Machine/Flags.lean ====
section
/-! DEFINITION. What a write does to a field of each access code, flags and their counters among them (R14, R16, R18). -/

namespace Sys2Proof.Machine

/-- Bits of `a` that `b` has at 0: a write of 1 clears a W1C flag (R14). -/
def clearOnes (a b : Nat) : Nat := a - Nat.land a b

/-- A write to occurrence counters: a byte written as 0x00 clears its counter, any other keeps it (R16). -/
def clearBytes (f : Fld) (old v : Word) : Word :=
  (List.range (f.width / 8)).foldl (fun w i =>
    let b : Fld := ⟨f.lo + 8 * i + 7, f.lo + 8 * i⟩
    if b.get v = 0 then b.set w 0 else w) old

/-- A word after a write of `v` to one field of it (R14, R16); a maximum that a write clears takes its reset value. DESIGN
CHOICE, log 125. -/
def fieldWrite (f : RegField) (old v : Word) : Word :=
  match f.acc with
  | .ro => old
  | .rw => f.fld.set old (f.fld.get v)
  | .wo => f.fld.set old (f.fld.get v)
  | .w1c => f.fld.set old (clearOnes (f.fld.get old) (f.fld.get v))
  | .clr => if f.fld.get v = 0 then f.fld.set old f.reset else old
  | .cnt => clearBytes f.fld old v

/-- A word after a write of `v` to its register: each field under its own access code, reserved bits untouched (R14, R18). -/
def wordWrite (fs : List RegField) (old v : Word) : Word := fs.foldl (fun w f => fieldWrite f w v) old

/-- A write to a register none of whose fields has a behaviour of its own; a WO field keeps its shadow (R14, R15). -/
def State.writePlain (s : State) (q : Plane) (k : Nat) (v : Word) : State := s.wr q k (wordWrite (regFields k) (s.rd q k) v)

end Sys2Proof.Machine
end

