-- ==== Sys2Proof/Machine/Operands.lean ====
section
/-! DEFINITION. The address map of BAR0 as the host sees it: windows, targets, power domains, and what a read of a slot returns (R12,
R17, R18, R41, R467, R490 to R493). -/

namespace Sys2Proof.Machine

/-! ## Windows (R490 to R493) -/

/-- The number of slots of BAR0 (R489). -/
def bar0Slots : Nat := 0x800000

/-- The slot by which a register is named: one of a fixed window is that of the alias window (R491). -/
def keyOf (k : Nat) : Nat := if k < 0x200000 then k else if k < 0x400000 then k + 0x400000 else if k < 0x600000 then k + 0x200000 else k

/-- The plane that a slot of BAR0 addresses: its own for a fixed window, the one `granted` when the TLP was decoded for the
alias window; none where a window reads 0 and ignores writes. Below the windows the answer names no plane (R456, R491, R493).
DEDUCED, log 19. -/
def targetAt (granted : Option Plane) (k : Nat) (s : State) : Option Plane :=
  let up := fun (q : Plane) => if planeState q s = 4 ∨ planeState q s = 5 then none else some q
  if k < 0x200000 then some .a
  else if bar0Slots ≤ k ∨ s.dg R.BOOT_STATUS F.BOOT_STATUS_STAGE = 9 then none
  else if k < 0x400000 then up .a
  else if k < 0x600000 then up .b
  else granted

/-- The plane that a slot addresses now. -/
def target (k : Nat) (s : State) : Option Plane := targetAt s.chanter k s

/-- The registers that a plane which is not granted takes writes to (R492). DEDUCED, log 17. -/
def ownReg (key : Nat) : Bool :=
  key == R.PLANE_CMD || key == R.PLANE_FLAGS || key == R.PLANE_FLAG_CNT || (decide (0x660000 ≤ key) && decide (key < 0x680000))
    || decide (0x720000 ≤ key)

/-- A write to plane `q` is discarded: the plane is not granted and the register is not its own (R492, R493). DEDUCED, log 17.
-/
def discards (q : Plane) (key : Nat) (s : State) : Bool := !isDev key && decide (s.chanter ≠ some q) && !ownReg key

/-- The power domain of the block that holds a register; none in the Warden (R467, R490, R491). PRESUMED, log 24. -/
def domainOf (q : Plane) (key : Nat) : Option Nat :=
  if key < 0x20000 then some 9
  else if key < 0x40000 then some 8
  else if key < 0x100000 then none
  else if key < 0x140000 then some 8
  else if key < 0x160000 then some 11
  else if key < 0x180000 then some 10
  else if key < 0x660000 then some (4 * q.code + 2)
  else if key < 0x680000 then some (4 * q.code + 3)
  else if key < 0x720000 then some (4 * q.code + 1)
  else some (4 * q.code + 2)

/-- An access to a block is a wake request for its domain (R495). DEDUCED, log 20. -/
def touch (d : Option Nat) (s : State) : State :=
  match d with
  | some d => s.wake d
  | none => s

/-- The domain is below RUN, and an access waits for it (R495). DEDUCED, log 20. -/
def asleep (d : Option Nat) (s : State) : Bool :=
  match d with
  | some d => s.dom d != 0 && s.dom d != 5
  | none => false

/-! ## The MSI-X table and PBA (R478) -/

/-- The slot of the first entry of the MSI-X table, and that of the PBA. -/
def msixSlot : Nat := 0x21000
def pbaSlot : Nat := 0x21200

/-- A slot of the MSI-X table. -/
def isMsix (k : Nat) : Bool := decide (msixSlot ≤ k) && decide (k < msixSlot + 128)

/-- A dword of the MSI-X table: dword `i` of BAR0 (R478). -/
def msixDword (i : Nat) (s : State) : BitVec 32 :=
  let j := i - 2 * msixSlot
  nth (nth s.evm.table (j / 4) []) (j % 4) 0

/-- A write of a dword of the MSI-X table. DEDUCED, log 22. -/
def writeMsix (i : Nat) (v : BitVec 32) (s : State) : State :=
  let j := i - 2 * msixSlot
  { s with evm := { s.evm with table := s.evm.table.set (j / 4) ((nth s.evm.table (j / 4) []).set (j % 4) v) } }

/-! ## Reads (R17) -/

/-- The index of the element of a register array that lies at a slot. -/
def ixOf (f : Nat → Nat) (n k : Nat) : Option Nat := (List.range n).find? (fun i => f i == k)

/-- The post queue of plane `q`, as RDB shows it. DESIGN CHOICE, log 10. -/
def postAt (q : Plane) (i : Nat) (s : State) : Option (Nat × Word) := (s.rep q).sch.posts[i]?

/-- The word of a register as a read returns it: the stored one, but for what shows a queue, a list, a deferral or the time
(R41, R367, R378, R384, R386, R423, R479). DESIGN CHOICE, log 10. -/
def readReg (q : Plane) (key : Nat) (s : State) : Word :=
  if key = R.RED_STATUS then
    let p := s.dg R.RED_SWAP_PERIOD F.RED_SWAP_PERIOD_PERIOD_S
    F.RED_STATUS_SCHED.set (F.RED_STATUS_TO_BOUNDARY.set (s.rd q key) (p - s.secs % p)) (scheduled (periodOf s) s).code
  else match ixOf R.BEL_DOM_STATUS 12 key with
  | some d => F.BEL_DOM_STATUS_DEFERRED.set (s.rd q key) (b2n (nth s.bel.deferred d none).isSome)
  | none => match ixOf R.RED_HEALTH 2 key with
  | some i =>
    let w := s.ward (Plane.ofCode i)
    F.RED_HEALTH_VALID.set (s.rd q key) (b2n (s.is q key F.RED_HEALTH_VALID && decide (s.now < w.healthAt + 4 * 10 ^ 12)))
  | none =>
    if key < R.RDB_RL_ENTRY 0 then s.view q key
    else match ixOf R.RDB_RL_ENTRY 512 key with
    | some i =>
      (match (nth (s.rep q).sch.ready (s.get q R.RDB_RL_SEL F.RDB_RL_SEL_PRIO) [])[i]? with
      | some t => F.RDB_RL_ENTRY_THREAD.set (F.RDB_RL_ENTRY_VALID.set 0 1) t
      | none => 0)
    | none => match ixOf R.RDB_PQ_ENTRY 1024 key with
    | some i =>
      (match postAt q i s with
      | some p => wordN (2 ^ 35 + p.1)
      | none => 0)
    | none => match ixOf R.RDB_PQ_PAYLOAD 1024 key with
    | some i =>
      (match postAt q i s with
      | some p => p.2
      | none => 0)
    | none => s.view q key

/-- What a read of a slot of BAR0 returns: 0 where no register lies, or a window is closed (R12, R18, R478, R491). DEDUCED, log
19. -/
def readSlotAt (granted : Option Plane) (k : Nat) (s : State) : BitVec 64 :=
  if isMsix k then (msixDword (2 * k + 1) s) ++ (msixDword (2 * k) s)
  else if k = pbaSlot then BitVec.ofNat 64 ((s.evm.pba.map (fun v => 2 ^ v)).sum)
  else match targetAt granted k s with
  | none => 0
  | some q => if isReg (keyOf k) then (readReg q (keyOf k) s).setWidth 64 else 0

/-- What a read of a slot returns now. -/
def readSlot (k : Nat) (s : State) : BitVec 64 := readSlotAt s.chanter k s

end Sys2Proof.Machine
end

