-- ==== Sys2Proof/Machine/Host.lean ====
section
/-! DEFINITION. The host interface: register writes and reads, TLPs on BAR0 and BAR2, and the resets and power states of the endpoint
(R12 to R18, R486 to R503). -/

namespace Sys2Proof.Machine

/-! ## Register writes (R14, R15)

A write goes to the operation of the block where its register has a behaviour of its own, and is plain otherwise. -/

/-- The first of the given outcomes, or a default. -/
def pick (l : List (Option State)) (d : State) : State := (l.findSome? id).getD d

/-- The write is to the only register of its name. -/
def hit (r k : Nat) (t : Unit → State) : Option State := if k = r then some (t ()) else none

/-- The write is to an element of a register array. -/
def hitOf (f : Nat → Nat) (n k : Nat) (t : Nat → State) : Option State := (ixOf f n k).map t

/-- A write to the planner. -/
def writePln (q : Plane) (k : Nat) (v : Word) (s : State) : State :=
  pick [hitOf R.PLN_Q_BASE 16 k (fun a => writeQCfg q a false v s),
    hitOf R.PLN_Q_CFG 16 k (fun a => writeQCfg q a true v s),
    hitOf R.PLN_Q_WR 16 k (fun a => writeWr q a false (F.PLN_Q_WR_COUNT.get v) s),
    hitOf R.PLN_Q_CMD 16 k (fun a => writeQCmd q a (F.PLN_Q_CMD_CODE.get v) s),
    hitOf R.PLN_CKP_RD 16 k (fun a => writeCkpRd q a false (F.PLN_CKP_RD_COUNT.get v) s),
    hitOf R.PLN_ARM_OVR 16 k (fun a => writeOvr q a v s)] (s.writePlain q k v)

/-- A write to the control-law engines. -/
def writeCle (q : Plane) (k : Nat) (v : Word) (s : State) : State :=
  pick [hitOf R.CLE_ARM_CMD 16 k (fun a => armCmd q a (F.CLE_ARM_CMD_CODE.get v) s),
    hitOf R.CLE_CH_CFG 192 k (fun c => writeChCfg q c v s),
    hitOf R.CLE_CH_MODE 192 k (fun c =>
      writeMode q c (F.CLE_CH_MODE_MODE.get v) (F.CLE_CH_MODE_SP_SRC.get v) (s.writePlain q k v))] (s.writePlain q k v)

/-- A write to the scheduler. -/
def writeSch (q : Plane) (k : Nat) (v : Word) (s : State) : State :=
  pick [hit R.SCH_CMD k (fun _ => schCmd q (F.SCH_CMD_CODE.get v) s),
    hit R.SCH_POST k (fun _ => hostPost q (F.SCH_POST_THREAD.get v) s),
    hitOf R.SCH_THR_CFG 512 k (fun t => writeThrCfg q t v s)] (s.writePlain q k v)

/-- A write to the DMA engine. -/
def writeDma (q : Plane) (k : Nat) (v : Word) (s : State) : State :=
  pick [hitOf R.DMA_CH_CFG 64 k (fun c => writeDmaCfg q c false v s),
    hitOf R.DMA_CH_RING 64 k (fun c => writeDmaCfg q c true v s),
    hitOf R.DMA_CH_CMD 64 k (fun c => dmaCmd q c (F.DMA_CH_CMD_CODE.get v) s)] (s.writePlain q k v)

/-- A write to PLANE. -/
def writePlaneReg (q : Plane) (k : Nat) (v : Word) (s : State) : State :=
  pick [hit R.PLANE_CMD k (fun _ => planeCmd q (F.PLANE_CMD_CODE.get v) s),
    hitOf R.PLANE_REPL_BASE 16 k (fun g => writeSegment q g false v s),
    hitOf R.PLANE_REPL_SIZE 16 k (fun g => writeSegment q g true v s)] (s.writePlain q k v)

/-- A write to a block of plane `q`. -/
def writeInPlane (q : Plane) (k : Nat) (v : Word) (s : State) : State :=
  if k < 0x620000 then writePlaneReg q k v s
  else if k < 0x640000 then writeSch q k v s
  else if k < 0x660000 then writeDma q k v s
  else if k < 0x680000 then s.writePlain q k v
  else if k < 0x6A0000 then writePln q k v s
  else if k < 0x6C0000 then pick [hit R.SLV_CMD k (fun _ => slvCmd q (F.SLV_CMD_CODE.get v) s)] (s.writePlain q k v)
  else if k < 0x6E0000 then
    pick [hit R.EST_CMD k (fun _ => estCmd q (F.EST_CMD_CODE.get v) s),
      hit R.EST_SUB_WR k (fun _ => writeSubWr q (F.EST_SUB_WR_COUNT.get v) s)] (s.writePlain q k v)
  else if k < 0x700000 then writeCle q k v s
  else if k < 0x7E0000 then s.writePlain q k v
  else pick [hit R.RDB_CMD k (fun _ => rdbCmd q (F.RDB_CMD_CODE.get v) s)] (s.writePlain q k v)

/-- A write to BOOT and SEC. -/
def writeBoot (k : Nat) (v : Word) (s : State) : State :=
  pick [hit R.BOOT_FLASH_CMD k (fun _ => flashCmd (F.BOOT_FLASH_CMD_CODE.get v) s),
    hit R.SEC_CMD k (fun _ => secCmd (F.SEC_CMD_CODE.get v) (F.SEC_CMD_ARG.get v) (F.SEC_CMD_DEBUG_OK.get v == 1) s)]
    (s.writePlain .a k v)

/-- A write to RED: a fault window or a swap period out of its range is refused with REFUSE = 0x4, and the field keeps its
value. DEDUCED, log 23. -/
def writeRed (k : Nat) (v : Word) (s : State) : State :=
  let w := F.RED_CFG_RETIRE_WIN.get v
  let p := F.RED_SWAP_PERIOD_PERIOD_S.get v
  pick [hit R.RED_CFG k (fun _ => if 1 ≤ w ∧ w ≤ 86400 then s.writePlain .a k v
      else redRefuse 4 (s.writePlain .a k (F.RED_CFG_RETIRE_WIN.set v (s.dg k F.RED_CFG_RETIRE_WIN)))),
    hit R.RED_SWAP_PERIOD k (fun _ => if 60 ≤ p ∧ p ≤ 86400 then s.writePlain .a k v else redRefuse 4 s),
    hit R.RED_CMD k (fun _ => redCmd (F.RED_CMD_CODE.get v) (Plane.ofCode (F.RED_CMD_PLANE.get v)) s)] (s.writePlain .a k v)

/-- A write to TIM. -/
def writeTim (k : Nat) (v : Word) (s : State) : State :=
  pick [hit R.TIM_CYC_CMD k (fun _ => cycCmd (F.TIM_CYC_CMD_CODE.get v) s),
    hitOf R.TIM_CYC_EVP 16 k (fun e => writeEvp e v s),
    hit R.TIM_SRC k (fun _ => writeTimSrc v s),
    hit R.TIM_CMD k (fun _ => timCmd (F.TIM_CMD_CODE.get v) (s.writePlain .a k v)),
    hit R.TIM_CAL_TRIM k (fun _ => writeCalTrim v s)] (s.writePlain .a k v)

/-- A write to CBUS: R336 protects what is in force. -/
def writeCbus (k : Nat) (v : Word) (s : State) : State :=
  pick [hitOf R.CBUS_CH_CMD 2 k (fun c => busCmd c (F.CBUS_CH_CMD_CODE.get v) (s.writePlain .a k v))]
    (if (busGuards k s).isEmpty then s.writePlain .a k v else writeBus k v s)

/-- A write to FED. -/
def writeFed (k : Nat) (v : Word) (s : State) : State :=
  pick [hit R.FED_CFG k (fun _ => writeFedCfg v s), hit R.FED_EXCH_CFG k (fun _ => writeExchCfg v s),
    hitOf R.FED_PORT_CFG 4 k (fun f => writePortCfg f v s), hitOf R.FED_PTP_CFG 8 k (fun i => writePtpCfg i v s),
    hitOf R.FED_PTP_CMD 8 k (fun i => ptpCmd i (F.FED_PTP_CMD_CODE.get v) (s.writePlain .a k v))] (s.writePlain .a k v)

/-- A write to FIO. -/
def writeFio (k : Nat) (v : Word) (s : State) : State :=
  pick [hit R.FIO_CMD k (fun _ => fioCmd (F.FIO_CMD_CODE.get v) (s.writePlain .a k v)),
    hitOf R.FIO_GRP_CFG 4 k (fun g => writeGrp g v s),
    hitOf R.FIO_DI_CFG 32 k (fun i => writeDi i v s),
    hitOf R.FIO_DO_CMD 16 k (fun i => doCmd i (F.FIO_DO_CMD_CODE.get v) (s.writePlain .a k v))] (s.writePlain .a k v)

/-- The registers of a position interface that R244 protects. -/
def pifRegs : List PifReg := [.cfg, .inc, .sc, .ser, .ser2]

/-- The registers of a compare unit that R262 protects. -/
def cmpRegs : List CmpReg := [.cfg, .val, .valHi, .step, .rept, .width, .delay, .pathOfs]

/-- A write to PIF, CMP and TRG. -/
def writeSense (k : Nat) (v : Word) (s : State) : State :=
  pick (pifRegs.map (fun r => hitOf (fun p => pifSlot p r) 24 k (fun p => writePif p r v s))
    ++ cmpRegs.map (fun r => hitOf (fun u => cmpSlot u r) 16 k (fun u => writeCmp u r v s))
    ++ [hitOf R.PIF_CMD 24 k (fun p => pifCmd p (F.PIF_CMD_CODE.get v) (s.writePlain .a k v)),
      hitOf R.CMP_CMD 16 k (fun u => cmpCmd u (F.CMP_CMD_CODE.get v) (s.writePlain .a k v))]) (s.writePlain .a k v)

/-- A write to a single-copy die. -/
def writeInDie (k : Nat) (v : Word) (s : State) : State :=
  if k < 0x20000 then s.writePlain .a k v
  else if k < 0x40000 then pick [hitOf R.EVM_ROUTE 256 k (fun e => writeRoute e v s)] (s.writePlain .a k v)
  else if k < 0x60000 then writeBoot k v s
  else if k < 0x80000 then writeRed k v s
  else if k < 0xA0000 then writeTim k v s
  else if k < 0xC0000 then pick [hitOf R.BEL_DOM_CFG 12 k (fun d => writeDomCfg d v s)] (s.writePlain .a k v)
  else if k < 0x100000 then
    pick [hit R.SSM2_CMD k (fun _ => ssm2Cmd (F.SSM2_CMD_CODE.get v) (s.writePlain .a k v))] (s.writePlain .a k v)
  else if k < 0x120000 then writeCbus k v s
  else if k < 0x140000 then writeFed k v s
  else if k < 0x160000 then writeFio k v s
  else writeSense k v s

/-- A write of a register in its block. -/
def writeReg (q : Plane) (k : Nat) (v : Word) (s : State) : State := if isDev k then writeInDie k v s else writeInPlane q k v s

/-! ## Writes from the host -/

/-- The access at byte offset `o` is recorded, with flag `j` of HIF raised (R492, R494). DEDUCED, log 16. DEDUCED, log 30. -/
def hifBad (o j : Nat) (s : State) : State :=
  (s.wr .a R.HIF_BAD_ADDR (F.HIF_BAD_ADDR_OFFSET.set 0 o)).raise .a bHIF 191 j

/-- A write is discarded (R492). DEDUCED, log 18. -/
def discard (k : Nat) (s : State) : State := hifBad (8 * k) 3 (s.count .a R.HIF_WR_DISC F.HIF_WR_DISC_COUNT 1)

/-- A write arrives at its register in plane `q` (R492, R493). DEDUCED, log 18. -/
def arrive (k : Nat) (q : Plane) (v : Word) (s : State) : State :=
  if discards q (keyOf k) s then discard k s
  else if isReg (keyOf k) then writeReg q (keyOf k) v s else s

/-- One 36-bit write to a slot of BAR0: to a block below RUN it waits for the domain (R18, R491 to R495). DEDUCED, log 20. -/
def writeSlot (k : Nat) (v : Word) (s : State) : State :=
  match target k s with
  | none => s
  | some q =>
    if discards q (keyOf k) s || !isReg (keyOf k) then arrive k q v s
    else
      let d := domainOf q (keyOf k)
      let s1 := touch d s
      if asleep d s1 then { s1 with bel := { s1.bel with held := s1.bel.held ++ [.write k q v] } } else arrive k q v s1

/-- A 64-bit access: bits [63:36] are ignored but for the MSI-X table, of which both dwords are written (R12, R478, R494).
DEDUCED, log 22. -/
def write64 (k : Nat) (v : BitVec 64) (s : State) : State :=
  if isMsix k then unmaskMsix (writeMsix (2 * k + 1) ((v.ushiftRight 32).setWidth 32) (writeMsix (2 * k) (v.setWidth 32) s))
  else writeSlot k (v.setWidth 36) s

/-- The register that a slot of BAR0 reaches, as the latch names it: its slot in the fixed window of its plane, and the slot itself
where it lies in no plane (R13, R491, R492). -/
def latchKey (k : Nat) (s : State) : Nat :=
  if 0x600000 ≤ k ∧ k < 0x800000 then
    match s.chanter with
    | some .a => k - 0x400000
    | some .b => k - 0x200000
    | none => k
  else k

/-- A 32-bit write of the low half of a slot is latched for its register (R13). DEDUCED, log 21. DEDUCED, log 22. -/
def writeLow (k : Nat) (v : BitVec 32) (s : State) : State :=
  if isMsix k then unmaskMsix (writeMsix (2 * k) v s) else { s with hif := { s.hif with latch := some (latchKey k s, v) } }

/-- A 32-bit write of the high half commits bits [35:32] with the latched low half, or with the present low bits; the latch is
then empty (R13). DEDUCED, log 21. DEDUCED, log 22. -/
def writeHigh (k : Nat) (v : BitVec 32) (s : State) : State :=
  if isMsix k then unmaskMsix (writeMsix (2 * k + 1) v s)
  else
    let lo := match s.hif.latch with
      | some (j, w) => if j = latchKey k s then w else (readSlot k s).setWidth 32
      | none => (readSlot k s).setWidth 32
    writeSlot k (v.setWidth 4 ++ lo) { s with hif := { s.hif with latch := none } }

/-- REGISTER_WRITE: a 64-bit write at a byte offset of BAR0 (R13 to R16). DESIGN CHOICE, log 28. -/
def execRegisterWrite (off : Nat) (v : Word) (s : State) : Host.Outcome State Fault Refusal :=
  settled (write64 (off / 8) (v.setWidth 64) s)

/-- WRITE_LOW_HALF (R13). -/
def execWriteLowHalf (off : Nat) (v : BitVec 32) (s : State) : Host.Outcome State Fault Refusal := settled (writeLow (off / 8) v s)

/-- WRITE_HIGH_HALF (R13). -/
def execWriteHighHalf (off : Nat) (v : BitVec 32) (s : State) : Host.Outcome State Fault Refusal := settled (writeHigh (off / 8) v s)

/-! ## TLPs on BAR0 (R494) -/

/-- A dword of a TLP is written whole, or not at all. -/
def wholeDword (x : HostDword) : Bool := x.be == 15
def noneDword (x : HostDword) : Bool := x.be == 0

/-- A dword that writes nothing. -/
def noDword : HostDword := ⟨0, 0⟩

/-- The lanes of a TLP from slot `k`: the slot of each and its two dwords. -/
def lanesFrom : Nat → List HostDword → List (Nat × HostDword × HostDword)
  | _, [] => []
  | k, [x] => [(k, x, noDword)]
  | k, x :: y :: t => (k, x, y) :: lanesFrom (k + 1) t

/-- The lanes of a TLP from dword `i`. -/
def lanes (i : Nat) (l : List HostDword) : List (Nat × HostDword × HostDword) :=
  lanesFrom (i / 2) (if i % 2 = 0 then l else noDword :: l)

/-- The access of a TLP to one slot (R494). -/
def writeLane (e : Nat × HostDword × HostDword) (s : State) : State :=
  if wholeDword e.2.1 && wholeDword e.2.2 then write64 e.1 (e.2.2.data ++ e.2.1.data) s
  else if wholeDword e.2.1 then writeLow e.1 e.2.1.data s
  else if wholeDword e.2.2 then writeHigh e.1 e.2.2.data s else s

/-- BAR0_WRITE_TLP: a write with a partial dword is discarded with BAD_ACCESS (R494). DEDUCED, log 16. DESIGN CHOICE, log 28. -/
def execBar0WriteTlp (off : Nat) (dws : List HostDword) (s : State) : Host.Outcome State Fault Refusal :=
  settled (match dws.findIdx? (fun x => !wholeDword x && !noneDword x) with
    | some i => hifBad (off / 4 * 4 + 4 * i) 2 s
    | none => each (lanes (off / 4) dws) writeLane s)

/-- The lane of a slot in a completion: the dwords of the slot that lie in the request, in their places (R13, R494). -/
def laneOf (granted : Option Plane) (d n k : Nat) (s : State) : BitVec 64 :=
  let v := readSlotAt granted k s
  let lo : BitVec 32 := if d ≤ 2 * k ∧ 2 * k < d + n then v.setWidth 32 else 0
  let hi : BitVec 32 := if d ≤ 2 * k + 1 ∧ 2 * k + 1 < d + n then (v.ushiftRight 32).setWidth 32 else 0
  hi ++ lo

/-- The slots that `n` dwords from dword `d` lie in. -/
def slotsOf (d n : Nat) : List Nat := if n = 0 then [] else (List.range ((d + n + 1) / 2 - d / 2)).map (fun i => d / 2 + i)

/-- A completion is due to the host; it wakes PORT_HOST (R472). DEDUCED, log 25. -/
def complete (ws : List (BitVec 64)) (p : Bool) (s : State) : State := { s with hif := { s.hif with cpl := ws, poisoned := p } }.wake 9

/-- The power domain of the register at a slot of BAR0, where there is one (R467, R495). -/
def slotDomain (granted : Option Plane) (k : Nat) (s : State) : Option Nat :=
  match targetAt granted k s with
  | some q => if isReg (keyOf k) then domainOf q (keyOf k) else none
  | none => none

/-- Each slot of a read is read, and the completion returns, from the plane that was granted when the TLP was decoded (R17, R493, R494). -/
def readNow (off dws : Nat) (granted : Option Plane) (s : State) : State :=
  complete ((slotsOf (off / 4) dws).map (fun k => laneOf granted (off / 4) dws k s)) false s

/-- BAR0_READ_TLP: `dws` dwords; each slot is read at its own instant; a block below RUN is woken, and the completion waits for
it (R17, R25, R494, R495). DEDUCED, log 20. DESIGN CHOICE, log 28. -/
def execBar0ReadTlp (off dws : Nat) (s : State) : Host.Outcome State Fault Refusal :=
  let ks := slotsOf (off / 4) dws
  let s1 := each ks (fun k s => touch (slotDomain s.chanter k s) s) s
  settled (if ks.any (fun k => asleep (slotDomain s1.chanter k s1) s1) then
      { s1 with bel := { s1.bel with held := s1.bel.held ++ [.read off dws s1.chanter] } }
    else readNow off dws s1.chanter s1)

/-! ## BAR2 (R496) -/

/-- A dword with the enabled bytes of another. -/
def mergeDword (old : BitVec 32) (x : HostDword) : BitVec 32 :=
  (List.range 4).foldl (fun w i => if x.be.getLsbD i
    then (w &&& ~~~((0xFF : BitVec 32) <<< (8 * i))) ||| (x.data &&& ((0xFF : BitVec 32) <<< (8 * i))) else w) old

/-- One word of the store with the enabled bytes of the two dwords of its lane (R11, R409). -/
def mergeWord (old : Word) (lo hi : HostDword) : Word :=
  let w := old.setWidth 64
  ((mergeDword ((w.ushiftRight 32).setWidth 32) hi) ++ (mergeDword (w.setWidth 32) lo)).setWidth 36

/-- The lane writes every bit of its word. -/
def fullLane (x y : HostDword) : Bool := wholeDword x && y.be.getLsbD 0

/-- The store behind BAR2: that of the granted plane, unless boot has failed (R456, R493, R496). DEDUCED, log 19. -/
def bar2Plane (s : State) : Option Plane := if s.dg R.BOOT_STATUS F.BOOT_STATUS_STAGE = 9 then none else s.chanter

/-- The domain of the store of a plane (R467). -/
def storeDomain (p : Option Plane) : Option Nat := p.map (fun q => 4 * q.code + 3)

/-- The domain of the store behind BAR2 (R467). -/
def bar2Domain (s : State) : Option Nat := storeDomain (bar2Plane s)

/-- Lanes of a TLP reach the store in ascending order: two whole words of a pair as a pair, another whole word and a partial word as a
read-modify-write (R403, R409). -/
def bar2Lanes (q : Plane) : List (Nat × HostDword × HostDword) → State → State
  | [], s => s
  | [e], s => s.sput q e.1 (mergeWord (s.sw q e.1) e.2.1 e.2.2)
  | e :: f :: t, s =>
    if e.1 % 2 = 0 ∧ f.1 = e.1 + 1 ∧ fullLane e.2.1 e.2.2 = true ∧ fullLane f.2.1 f.2.2 = true then
      bar2Lanes q t (s.sputPair q e.1 (mergeWord 0 e.2.1 e.2.2) (mergeWord 0 f.2.1 f.2.2))
    else bar2Lanes q (f :: t) (s.sput q e.1 (mergeWord (s.sw q e.1) e.2.1 e.2.2))

/-- A write on BAR2 reaches the store of the plane that was granted when its TLP was decoded (R409, R493, R496). DEDUCED, log
30. -/
def bar2WriteNow (off : Nat) (dws : List HostDword) (p : Option Plane) (s : State) : State :=
  match p with
  | none => s
  | some q => bar2Lanes q ((lanes (off / 4) dws).filter (fun e =>
      decide (e.1 < storeWords) && !(noneDword e.2.1 && noneDword e.2.2))) s

/-- A read on BAR2 reaches the store; a poisoned word makes the completion poisoned. The controller checks the pair on every
read and reports it, though R17 says that no read of a window changes a flag or a counter: the flag and the counter are the
store's, for what the check found (R403, R404, R496). DEDUCED, log 30. DESIGN CHOICE, log 130. -/
def bar2ReadNow (off n : Nat) (p : Option Plane) (s : State) : State :=
  let as := ((List.range n).map (fun i => off / 8 + i)).filter (fun a => decide (a < storeWords))
  match p with
  | none => complete (as.map (fun _ => 0)) false s
  | some q =>
    let bad := (as.map (· / 2)).dedup.filter (s.isBad q)
    let s1 := each bad (fun p s => s.eccDouble q (2 * p)) s
    complete (as.map (fun a => (s.sw q a).setWidth 64)) (!bad.isEmpty) s1

/-- BAR2_WRITE: to the granted plane's store; one below RUN is woken, and the write waits for it (R25, R495, R496). DEDUCED, log
20. -/
def execBar2Write (off : Nat) (dws : List HostDword) (s : State) : Host.Outcome State Fault Refusal :=
  let s1 := touch (bar2Domain s) s
  settled (if asleep (bar2Domain s1) s1 then { s1 with bel := { s1.bel with held := s1.bel.held ++ [.bar2Write off dws (bar2Plane s1)] } }
    else bar2WriteNow off dws (bar2Plane s1) s1)

/-- BAR2_READ: `n` words from the word of a byte offset; a store below RUN is woken, and the completion waits for it (R25, R495,
R496). DEDUCED, log 20. -/
def execBar2Read (off n : Nat) (s : State) : Host.Outcome State Fault Refusal :=
  let s1 := touch (bar2Domain s) s
  settled (if asleep (bar2Domain s1) s1 then { s1 with bel := { s1.bel with held := s1.bel.held ++ [.bar2Read off n (bar2Plane s1)] } }
    else bar2ReadNow off n (bar2Plane s1) s1)

/-! ## The configuration header (R487) -/

/-- Dword `i` of the Type 0 header, where R487 gives it: the identity, the class and revision, the Subsystem IDs of the device tables, and an
Interrupt Pin of 0; 0 for the others, and for BAR4 and the expansion ROM (R489). -/
def configDword (i : Nat) (s : State) : BitVec 32 :=
  match i with
  | 0 => BitVec.ofNat 16 (s.dg R.HIF_ID F.HIF_ID_PART) ++ BitVec.ofNat 16 (s.dg R.HIF_ID F.HIF_ID_VENDOR)
  | 2 => (0x088000 : BitVec 24) ++ BitVec.ofNat 8 (s.dg R.HIF_ID F.HIF_ID_REV)
  | 11 => BitVec.ofNat 32 s.tab.subsys
  | _ => 0

/-! ## Resets, power states and configuration of the endpoint (R498, R499) -/

/-- The configuration space at its reset values. DEDUCED, log 9. -/
def clearConfig (s : State) : State :=
  let z := fun (f : Fld) (s : State) => s.dp R.HIF_LINK f 0
  (((z F.HIF_LINK_BME (z F.HIF_LINK_D3HOT (z F.HIF_LINK_MPS s))).dp R.HIF_LINK F.HIF_LINK_MRRS 2).dp R.EVM_STATUS
    F.EVM_STATUS_MSIX_EN 0).dp R.EVM_STATUS F.EVM_STATUS_FUNC_MASK 0

/-- What every reset of the endpoint clears; the bursts that it was mastering end with an error (R499). DEDUCED, log 26. -/
def resetEndpoint (s : State) : State :=
  let s1 := failHost (clearConfig s)
  { s1 with
    hif := { s1.hif with latch := none }
    evm := { s1.evm with table := List.replicate 64 [0, 0, 0, 0], pba := [] } }

/-- The link is down: no generation, no width, no L1; LINK_DOWN once (R503). DEDUCED, log 26. -/
def linkDown (s : State) : State :=
  if s.dg R.HIF_LINK F.HIF_LINK_GEN = 0 then s
  else
    let s1 := ((s.dp R.HIF_LINK F.HIF_LINK_GEN 0).dp R.HIF_LINK F.HIF_LINK_WIDTH 0).dp R.HIF_LINK F.HIF_LINK_L1 0
    failHost (s1.raise .a bHIF 191 1)

/-- PCIE_RESET: PERST is raised once the link is up again (R499). DEDUCED, log 26. -/
def execPcieReset (s : State) : Host.Outcome State Fault Refusal :=
  let s1 := linkDown (resetEndpoint s)
  settled { s1 with hif := { s1.hif with rst := some false } }

/-- FLR is raised at once where the link is up (R499). DEDUCED, log 26. -/
def execFlr (s : State) : Host.Outcome State Fault Refusal :=
  let s1 := resetEndpoint s
  settled (if s1.dg R.HIF_LINK F.HIF_LINK_GEN = 0 then { s1 with hif := { s1.hif with rst := some true } } else s1.raise .a bHIF 191 4)

/-- The function enters D3hot: mastering and MSI-X stop (R498, R499). DEDUCED, log 26. -/
def enterD3 (s : State) : State := failHost (s.dp R.HIF_LINK F.HIF_LINK_D3HOT 1)

/-- D3HOT_ENTRY. -/
def execD3hotEntry (s : State) : Host.Outcome State Fault Refusal := settled (enterD3 s)

/-- PCIE_LINK_CHANGE: up with a generation and a width, or down; a reset of the endpoint is reported when the link is up (R499,
R503). DEDUCED, log 26. DEDUCED, log 27. -/
def execPcieLinkChange (up : Bool) (gen width : BitVec 3) (s : State) : Host.Outcome State Fault Refusal :=
  settled (if !up then linkDown s
    else if gen.toNat = 0 ∨ 5 < gen.toNat ∨ (width ≠ 1 ∧ width ≠ 2 ∧ width ≠ 4) then s
    else
      let s1 := (s.dp R.HIF_LINK F.HIF_LINK_GEN gen.toNat).dp R.HIF_LINK F.HIF_LINK_WIDTH width.toNat
      let s2 := if s.dg R.HIF_LINK F.HIF_LINK_GEN = 0 then s1.raise .a bHIF 191 0 else s1
      match s2.hif.rst with
      | some f => { s2 with hif := { s2.hif with rst := none } }.raise .a bHIF 191 (if f then 4 else 5)
      | none => s2)

/-- CONFIGURATION_WRITE: a pending message is sent when its mask is removed; without Bus Master Enable no burst is mastered
(R478, R498). DEDUCED, log 27. -/
def execConfigurationWrite (f : CfgField) (s : State) : Host.Outcome State Fault Refusal :=
  settled (match f with
    | .msixEnable v => unmaskMsix (s.dp R.EVM_STATUS F.EVM_STATUS_MSIX_EN (b2n v))
    | .functionMask v => unmaskMsix (s.dp R.EVM_STATUS F.EVM_STATUS_FUNC_MASK (b2n v))
    | .busMaster v => let s1 := s.dp R.HIF_LINK F.HIF_LINK_BME (b2n v)
        if v then s1 else failHost s1
    | .maxPayload v => if v.toNat ≤ 2 then s.dp R.HIF_LINK F.HIF_LINK_MPS v.toNat else s
    | .maxReadRequest v => s.dp R.HIF_LINK F.HIF_LINK_MRRS v.toNat
    | .d3hot v => if v then enterD3 s else unmaskMsix (s.dp R.HIF_LINK F.HIF_LINK_D3HOT 0))

/-- PCIE_L1_CHANGE: PORT_HOST may go below DOZE only in L1 (R472). -/
def execPcieL1Change (enter : Bool) (s : State) : Host.Outcome State Fault Refusal :=
  settled (if s.dg R.HIF_LINK F.HIF_LINK_GEN = 0 then s else s.dp R.HIF_LINK F.HIF_LINK_L1 (b2n enter))

/-! ## Wakes (R468, R471, R495) -/

/-- A held access still waits: a domain it reaches is below RUN (R25, R495). -/
def stillWaits (h : HeldAccess) (s : State) : Bool :=
  match h with
  | .write k q _ => asleep (domainOf q (keyOf k)) s
  | .read off dws c => (slotsOf (off / 4) dws).any (fun k => asleep (slotDomain c k s) s)
  | .bar2Write _ _ p => asleep (storeDomain p) s
  | .bar2Read _ _ p => asleep (storeDomain p) s

/-- A held access goes on. -/
def goOn (h : HeldAccess) (s : State) : State :=
  match h with
  | .write k q v => arrive k q v s
  | .read off dws c => readNow off dws c s
  | .bar2Write off dws p => bar2WriteNow off dws p s
  | .bar2Read off n p => bar2ReadNow off n p s

/-- The host accesses whose domains are all in RUN go on, in order. DEDUCED, log 20. -/
def releaseHeld (s : State) : State :=
  each s.bel.held (fun h s => if stillWaits h s then { s with bel := { s.bel with held := s.bel.held ++ [h] } } else goOn h s)
    { s with bel := { s.bel with held := [] } }

/-- DOMAIN_EXIT_DONE: the domain is in RUN, `ns` after its wake request, and what waited for it goes on (R468, R471). DEDUCED,
log 20. -/
def execDomainExitDone (d : Fin 12) (ns : Nat) (s : State) : Host.Outcome State Fault Refusal :=
  settled (if (nth s.bel.wake d none).isSome then releaseHeld (exitDone d ns s) else s)

end Sys2Proof.Machine
end

