-- ==== Sys2Proof/Machine/Store.lean ====
section
/-! DEFINITION. The central store: ECC, poison, patrol scrub and row sparing (R402 to R409). -/

namespace Sys2Proof.Machine

/-- The state after a read of the pair of address `a` has found what `fnd` says; a pair already uncorrectable stays so
(R403). -/
def eccRead (q : Plane) (a : Nat) (fnd : EccFinding) (s : State) : State :=
  if s.isBad q (a / 2) then s.eccDouble q a
  else match fnd with
    | .clean => s
    | .single => s.eccSingle q a
    | .uncorrectable =>
      let st := (s.plane q).store
      (s.setStore q { st with bad := st.bad ++ [(a / 2, 0)] }).eccDouble q a

/-- What an agent does with a poisoned word (R404).  A DMA read completes its Bobbin at the burst's issue; a host read
returns the stored bits in a poisoned completion. -/
def poisonRead (q : Plane) (a : Nat) (ag : Agent) (s : State) : State :=
  match ag with
  | .block | .xlk => s.mcheck q 4
  | .core => if s.inRepl q a then s.mcheck q 4 else s
  | .dma => s
  | .host => { s with hif := { s.hif with poisoned := true } }

/-- STORE_READ: the pair is checked, and a poisoned word is handled by its reader (R403, R404). -/
def execStoreRead (q : Plane) (addr : BitVec 29) (ag : Agent) (fnd : EccFinding) (s : State) :
    Host.Outcome State Fault Refusal :=
  let s1 := eccRead q addr.toNat fnd s
  settled (if s1.isBad q (addr.toNat / 2) then poisonRead q addr.toNat ag s1 else s1)

/-- STORE_PAIR_WRITE: both words and new check bits (R403). -/
def execStorePairWrite (q : Plane) (pair : BitVec 28) (v0 v1 : Word) (s : State) : Host.Outcome State Fault Refusal :=
  settled (s.sputPair q (2 * pair.toNat) v0 v1)

/-- STORE_WORD_WRITE: the read of the read-modify-write is checked and reported, then the word is stored; an
uncorrectable pair keeps its poison until both words are written (R403). -/
def execStoreWordWrite (q : Plane) (addr : BitVec 29) (v : Word) (fnd : EccFinding) (s : State) :
    Host.Outcome State Fault Refusal :=
  let a := addr.toNat
  settled (if s.isBad q (a / 2) then s.sput q a v
    else match fnd with
      | .clean => s.sput q a v
      | .single => (s.eccSingle q a).sput q a v
      | .uncorrectable =>
        let s1 := (s.sput q a v).eccDouble q a
        let st := (s1.plane q).store
        s1.setStore q { st with bad := st.bad ++ [(a / 2, 2 ^ (a % 2))] })

/-- The lowest-numbered spare row that is not in use (R406). -/
def freeSpare (q : Plane) (s : State) : Option Nat :=
  (List.range 64).find? (fun r => !s.is q (R.CST_SPARE r) F.CST_SPARE_USED)

/-- SPARE_COPY_DONE: the row under copy is redirected to its spare (R406).  The copied words are the row's own, so no
address and no data change. -/
def execSpareCopyDone (q : Plane) (s : State) : Host.Outcome State Fault Refusal :=
  let st := (s.plane q).store
  settled (match st.sparing, freeSpare q s with
    | row :: rest, some r =>
      let free := s.get q R.CST_STATUS F.CST_STATUS_SPARES_FREE - 1
      let s1 := (s.setStore q { st with sparing := rest, rows := sPut (fun _ => 0) st.rows row 0 }).wr q (R.CST_SPARE r)
        (F.CST_SPARE_ROW.set (F.CST_SPARE_USED.set 0 1) row)
      let s2 := (s1.put q R.CST_STATUS F.CST_STATUS_SPARES_FREE free).put q R.CST_STATUS F.CST_STATUS_SPARING
        (b2n (!rest.isEmpty))
      let s3 := s2.raise q bCST 184 2
      if free = 0 then s3.raise q bCST 184 3 else s3
    | _, _ => s)

/-- The scrub period in ps (R405). -/
def scrubPeriod (q : Plane) (s : State) : Nat := max 1 (s.get q R.CST_CFG F.CST_CFG_SCRUB_H) * 3600 * 10 ^ 12

/-- The end of a scrub pass: SCRUB_PASS, and SCRUB_BEHIND if it ended more than 10 % late; the rows' counts start anew
(R405, R406). -/
def scrubPass (q : Plane) (s : State) : State :=
  let st := (s.plane q).store
  let late := decide (scrubPeriod q s * 11 < (s.now - st.scrubStart) * 10)
  let s1 := (s.setStore q { st with rows := [], scrubStart := s.now }).raise q bCST 184 4
  if late then s1.raise q bCST 184 5 else s1

/-- SCRUB_READ: the next pair is read and checked; an uncorrectable one in a replicated segment of the Chanter is a
machine check at once (R404, R405). -/
def execScrubRead (q : Plane) (fnd : EccFinding) (s : State) : Host.Outcome State Fault Refusal :=
  let p := s.get q R.CST_SCRUB F.CST_SCRUB_POS
  let s1 := eccRead q (2 * p) fnd s
  let s2 := if s1.isBad q p && s1.inRepl q (2 * p) && decide (s1.chanter = some q) then s1.mcheck q 4 else s1
  let s3 := s2.put q R.CST_SCRUB F.CST_SCRUB_POS (p + 1)
  settled (if p + 1 = 2 ^ 28 then scrubPass q s3 else s3)

end Sys2Proof.Machine
end

