-- ==== Sys2Proof/Machine/Dispatch.lean ====
section
/-! DEFINITION. The dispatcher: one arm for each command. -/

namespace Sys2Proof.Machine

/-- The effect of a command on everything but the queue of waiting commands. DESIGN CHOICE, log 13. -/
def exec (i : Instr) (s : State) : Host.Outcome State Fault Refusal :=
  match i with
  | .registerWrite off v => Sys2Proof.Machine.execRegisterWrite off v s
  | .writeLowHalf off v => Sys2Proof.Machine.execWriteLowHalf off v s
  | .writeHighHalf off v => Sys2Proof.Machine.execWriteHighHalf off v s
  | .bar0WriteTlp off dws => Sys2Proof.Machine.execBar0WriteTlp off dws s
  | .bar0ReadTlp off dws => Sys2Proof.Machine.execBar0ReadTlp off dws s
  | .bar2Write off dws => Sys2Proof.Machine.execBar2Write off dws s
  | .bar2Read off n => Sys2Proof.Machine.execBar2Read off n s
  | .flitCrcFail l retries => Sys2Proof.Machine.execFlitCrcFail l retries s
  | .timeBeacon missed => Sys2Proof.Machine.execTimeBeacon missed s
  | .beaconMissed island => Sys2Proof.Machine.execBeaconMissed island s
  | .timeStep => Sys2Proof.Machine.execTimeStep s
  | .cyclingStart => Sys2Proof.Machine.execCyclingStart s
  | .cycleStart => Sys2Proof.Machine.execCycleStart s
  | .changingExit => Sys2Proof.Machine.execChangingExit s
  | .eventPoint k => Sys2Proof.Machine.execEventPoint k s
  | .evpWrite k v => Sys2Proof.Machine.execEvpWrite k v s
  | .cycApply => Sys2Proof.Machine.execCycApply s
  | .cycCapture => Sys2Proof.Machine.execCycCapture s
  | .cycCmdReserved code => Sys2Proof.Machine.execCycCmdReserved code s
  | .syncPoint => Sys2Proof.Machine.execSyncPoint s
  | .interpolation => Sys2Proof.Machine.execInterpolation s
  | .ssmCh2EvalDone => Sys2Proof.Machine.execSsmCh2EvalDone s
  | .solveDeadline => Sys2Proof.Machine.execSolveDeadline s
  | .commit => Sys2Proof.Machine.execCommit s
  | .applyPoint => Sys2Proof.Machine.execApplyPoint s
  | .flushLate => Sys2Proof.Machine.execFlushLate s
  | .copyLineSend => Sys2Proof.Machine.execCopyLineSend s
  | .copyLineReceived => Sys2Proof.Machine.execCopyLineReceived s
  | .breathReceived crcOk => Sys2Proof.Machine.execBreathReceived crcOk s
  | .heartbeatCheck => Sys2Proof.Machine.execHeartbeatCheck s
  | .machineCheckLine q cause => Sys2Proof.Machine.execMachineCheckLine q cause s
  | .takeoverReady t => Sys2Proof.Machine.execTakeoverReady t s
  | .outputStageRequest stage q req => Sys2Proof.Machine.execOutputStageRequest stage q req s
  | .commitContentArrival stage marker => Sys2Proof.Machine.execCommitContentArrival stage marker s
  | .swapAnnounce => Sys2Proof.Machine.execSwapAnnounce s
  | .swapDecision => Sys2Proof.Machine.execSwapDecision s
  | .swapPeriodBoundary => Sys2Proof.Machine.execSwapPeriodBoundary s
  | .planeResetRelease q => Sys2Proof.Machine.execPlaneResetRelease q s
  | .resyncTimeout q => Sys2Proof.Machine.execResyncTimeout q s
  | .holdoffEnd q => Sys2Proof.Machine.execHoldoffEnd q s
  | .healthPassDone ok => Sys2Proof.Machine.execHealthPassDone ok s
  | .swapNow => Sys2Proof.Machine.execSwapNow s
  | .redSuspend => Sys2Proof.Machine.execRedSuspend s
  | .resumeSwaps => Sys2Proof.Machine.execResumeSwaps s
  | .redReadmit q => Sys2Proof.Machine.execRedReadmit q s
  | .redRetire q => Sys2Proof.Machine.execRedRetire q s
  | .redCmdReserved code => Sys2Proof.Machine.execRedCmdReserved code s
  | .mchkTest q => Sys2Proof.Machine.execMchkTest q s
  | .planeCmdReserved q code => Sys2Proof.Machine.execPlaneCmdReserved q code s
  | .replSegmentWrite g size v => Sys2Proof.Machine.execReplSegmentWrite g size v s
  | .qStart a => Sys2Proof.Machine.execQStart a s
  | .qHold a => Sys2Proof.Machine.execQHold a s
  | .qRelease a => Sys2Proof.Machine.execQRelease a s
  | .qClearFault a => Sys2Proof.Machine.execQClearFault a s
  | .qSkip a => Sys2Proof.Machine.execQSkip a s
  | .qFlush a => Sys2Proof.Machine.execQFlush a s
  | .qContinue a => Sys2Proof.Machine.execQContinue a s
  | .qResumeAt a => Sys2Proof.Machine.execQResumeAt a s
  | .queueCmdReserved a code => Sys2Proof.Machine.execQueueCmdReserved a code s
  | .wrWrite a fed v => Sys2Proof.Machine.execWrWrite a fed v s
  | .ckpRdWrite a fed v => Sys2Proof.Machine.execCkpRdWrite a fed v s
  | .ovrWrite a v => Sys2Proof.Machine.execOvrWrite a v s
  | .stitchNop a => Sys2Proof.Machine.execStitchNop a s
  | .stitchLine a => Sys2Proof.Machine.execStitchLine a s
  | .stitchArc a => Sys2Proof.Machine.execStitchArc a s
  | .stitchSpline a => Sys2Proof.Machine.execStitchSpline a s
  | .stitchJoint a => Sys2Proof.Machine.execStitchJoint a s
  | .stitchDwell a => Sys2Proof.Machine.execStitchDwell a s
  | .stitchFrame a => Sys2Proof.Machine.execStitchFrame a s
  | .stitchLimit a => Sys2Proof.Machine.execStitchLimit a s
  | .stitchBlend a => Sys2Proof.Machine.execStitchBlend a s
  | .stitchCouple a => Sys2Proof.Machine.execStitchCouple a s
  | .stitchProc a => Sys2Proof.Machine.execStitchProc a s
  | .stitchProcramp a => Sys2Proof.Machine.execStitchProcramp a s
  | .stitchTrig a => Sys2Proof.Machine.execStitchTrig a s
  | .stitchSync a => Sys2Proof.Machine.execStitchSync a s
  | .stitchZoneEnter a => Sys2Proof.Machine.execStitchZoneEnter a s
  | .stitchZoneLeave a => Sys2Proof.Machine.execStitchZoneLeave a s
  | .stitchWaitio a => Sys2Proof.Machine.execStitchWaitio a s
  | .stitchSetio a => Sys2Proof.Machine.execStitchSetio a s
  | .stitchLayer a => Sys2Proof.Machine.execStitchLayer a s
  | .stitchMark a => Sys2Proof.Machine.execStitchMark a s
  | .stitchCalibApply a => Sys2Proof.Machine.execStitchCalibApply a s
  | .stitchEnd a => Sys2Proof.Machine.execStitchEnd a s
  | .dwellExpiry a => Sys2Proof.Machine.execDwellExpiry a s
  | .syncTimeout a => Sys2Proof.Machine.execSyncTimeout a s
  | .zoneTimeout a => Sys2Proof.Machine.execZoneTimeout a s
  | .waitioTimeout a => Sys2Proof.Machine.execWaitioTimeout a s
  | .resumeTimeout a => Sys2Proof.Machine.execResumeTimeout a s
  | .bzLink b => Sys2Proof.Machine.execBzLink b s
  | .activate => Sys2Proof.Machine.execActivate s
  | .restart => Sys2Proof.Machine.execRestart s
  | .slvCmdReserved code => Sys2Proof.Machine.execSlvCmdReserved code s
  | .solverNop => Sys2Proof.Machine.execSolverNop s
  | .aclr => Sys2Proof.Machine.execAclr s
  | .mac => Sys2Proof.Machine.execMac s
  | .msu => Sys2Proof.Machine.execMsu s
  | .ald => Sys2Proof.Machine.execAld s
  | .arnd => Sys2Proof.Machine.execArnd s
  | .div => Sys2Proof.Machine.execDiv s
  | .piv => Sys2Proof.Machine.execPiv s
  | .cs => Sys2Proof.Machine.execCs s
  | .sqrt => Sys2Proof.Machine.execSqrt s
  | .clmp => Sys2Proof.Machine.execClmp s
  | .add => Sys2Proof.Machine.execAdd s
  | .sub => Sys2Proof.Machine.execSub s
  | .ldi => Sys2Proof.Machine.execLdi s
  | .cmple => Sys2Proof.Machine.execCmple s
  | .step => Sys2Proof.Machine.execStep s
  | .tile => Sys2Proof.Machine.execTile s
  | .iter => Sys2Proof.Machine.execIter s
  | .pub => Sys2Proof.Machine.execPub s
  | .solverEnd => Sys2Proof.Machine.execSolverEnd s
  | .estSubWrWrite v => Sys2Proof.Machine.execEstSubWrWrite v s
  | .jobLoad => Sys2Proof.Machine.execJobLoad s
  | .iterationEnd => Sys2Proof.Machine.execIterationEnd s
  | .estTimeout => Sys2Proof.Machine.execEstTimeout s
  | .checkingDone => Sys2Proof.Machine.execCheckingDone s
  | .estAbort => Sys2Proof.Machine.execEstAbort s
  | .discard => Sys2Proof.Machine.execDiscard s
  | .estApply => Sys2Proof.Machine.execEstApply s
  | .nominal => Sys2Proof.Machine.execNominal s
  | .loadPending => Sys2Proof.Machine.execLoadPending s
  | .estCmdReserved code => Sys2Proof.Machine.execEstCmdReserved code s
  | .obsIntake src => Sys2Proof.Machine.execObsIntake src s
  | .obsInterpolation => Sys2Proof.Machine.execObsInterpolation s
  | .channelRun c => Sys2Proof.Machine.execChannelRun c s
  | .stopTmax c => Sys2Proof.Machine.execStopTmax c s
  | .modeRequest c m src => Sys2Proof.Machine.execModeRequest c m src s
  | .chCfgWrite c v => Sys2Proof.Machine.execChCfgWrite c v s
  | .stop0 a => Sys2Proof.Machine.execStop0 a s
  | .stop1 a => Sys2Proof.Machine.execStop1 a s
  | .stop2 a => Sys2Proof.Machine.execStop2 a s
  | .armStopClear a => Sys2Proof.Machine.execArmStopClear a s
  | .armCmdReserved a code => Sys2Proof.Machine.execArmCmdReserved a code s
  | .pifEdge p line level t held other => Sys2Proof.Machine.execPifEdge p line level t held other s
  | .sincosConversion p sn cs t => Sys2Proof.Machine.execSincosConversion p sn cs t s
  | .ssiFrameEnd p idle raw => Sys2Proof.Machine.execSsiFrameEnd p idle raw s
  | .bissFrameEnd p start raw => Sys2Proof.Machine.execBissFrameEnd p start raw s
  | .velTimeout p => Sys2Proof.Machine.execVelTimeout p s
  | .pifConfigWrite p r v => Sys2Proof.Machine.execPifConfigWrite p r v s
  | .pifCapture p => Sys2Proof.Machine.execPifCapture p s
  | .setCount p => Sys2Proof.Machine.execSetCount p s
  | .correct p => Sys2Proof.Machine.execCorrect p s
  | .armRef p => Sys2Proof.Machine.execArmRef p s
  | .clearRef p => Sys2Proof.Machine.execClearRef p s
  | .pifCmdReserved p code => Sys2Proof.Machine.execPifCmdReserved p code s
  | .picotDrain f => Sys2Proof.Machine.execPicotDrain f s
  | .arm u => Sys2Proof.Machine.execArm u s
  | .disarm u => Sys2Proof.Machine.execDisarm u s
  | .fireNow u => Sys2Proof.Machine.execFireNow u s
  | .cmpCmdReserved u code => Sys2Proof.Machine.execCmpCmdReserved u code s
  | .cmpConfigWrite u r v => Sys2Proof.Machine.execCmpConfigWrite u r v s
  | .localFire u => Sys2Proof.Machine.execLocalFire u s
  | .timeFire u => Sys2Proof.Machine.execTimeFire u s
  | .pathPrediction => Sys2Proof.Machine.execPathPrediction s
  | .pathFire u => Sys2Proof.Machine.execPathFire u s
  | .pathCancel => Sys2Proof.Machine.execPathCancel s
  | .pulseEnd k => Sys2Proof.Machine.execPulseEnd k s
  | .routedTrigger => Sys2Proof.Machine.execRoutedTrigger s
  | .connectionWatchdog ch c => Sys2Proof.Machine.execConnectionWatchdog ch c s
  | .stopMonitorDeadline ch a => Sys2Proof.Machine.execStopMonitorDeadline ch a s
  | .stopRelease ch a => Sys2Proof.Machine.execStopRelease ch a s
  | .driveLossDrop ch a => Sys2Proof.Machine.execDriveLossDrop ch a s
  | .ssbTestPulse low high => Sys2Proof.Machine.execSsbTestPulse low high s
  | .safetyReset width1 width2 end1 end2 => Sys2Proof.Machine.execSafetyReset width1 width2 end1 end2 s
  | .drop => Sys2Proof.Machine.execDrop s
  | .ssm2CmdReserved code => Sys2Proof.Machine.execSsm2CmdReserved code s
  | .pollDeparture c k dev mail => Sys2Proof.Machine.execPollDeparture c k dev mail s
  | .responseReceived c f => Sys2Proof.Machine.execResponseReceived c f s
  | .receiveWindowClose c k => Sys2Proof.Machine.execReceiveWindowClose c k s
  | .echoReceived c f => Sys2Proof.Machine.execEchoReceived c f s
  | .configComplete c => Sys2Proof.Machine.execConfigComplete c s
  | .foreignFrame c f => Sys2Proof.Machine.execForeignFrame c f s
  | .listenTimeExpiry c => Sys2Proof.Machine.execListenTimeExpiry c s
  | .masterLinkDown c => Sys2Proof.Machine.execMasterLinkDown c s
  | .cbusStart c => Sys2Proof.Machine.execCbusStart c s
  | .cbusStop c => Sys2Proof.Machine.execCbusStop c s
  | .cbusRelease c => Sys2Proof.Machine.execCbusRelease c s
  | .reprobe c => Sys2Proof.Machine.execReprobe c s
  | .tableApply c => Sys2Proof.Machine.execTableApply c s
  | .muteRelease c => Sys2Proof.Machine.execMuteRelease c s
  | .cbusCmdReserved c code => Sys2Proof.Machine.execCbusCmdReserved c code s
  | .cbusConfigWrite r v => Sys2Proof.Machine.execCbusConfigWrite r v s
  | .ptpSyncReceived x0 f t m => Sys2Proof.Machine.execPtpSyncReceived x0 f t m s
  | .ptpFollowUpReceived x0 f m => Sys2Proof.Machine.execPtpFollowUpReceived x0 f m s
  | .ptpAnnounceReceived x0 f m => Sys2Proof.Machine.execPtpAnnounceReceived x0 f m s
  | .ptpDelayReqReceived x0 f t m => Sys2Proof.Machine.execPtpDelayReqReceived x0 f t m s
  | .ptpDelayRespReceived x0 f m => Sys2Proof.Machine.execPtpDelayRespReceived x0 f m s
  | .ptpPdelayReqReceived x0 f t t3 m => Sys2Proof.Machine.execPtpPdelayReqReceived x0 f t t3 m s
  | .ptpPdelayRespReceived x0 f follow t m => Sys2Proof.Machine.execPtpPdelayRespReceived x0 f follow t m s
  | .ptpSyncSend x0 f t => Sys2Proof.Machine.execPtpSyncSend x0 f t s
  | .ptpAnnounceSend x0 f => Sys2Proof.Machine.execPtpAnnounceSend x0 f s
  | .ptpDelayReqSend x0 f t => Sys2Proof.Machine.execPtpDelayReqSend x0 f t s
  | .lockLost src => Sys2Proof.Machine.execLockLost src s
  | .ptpEnableWrite x0 v => Sys2Proof.Machine.execPtpEnableWrite x0 v s
  | .ptpCapture x0 => Sys2Proof.Machine.execPtpCapture x0 s
  | .ptpCmdReserved x0 code => Sys2Proof.Machine.execPtpCmdReserved x0 code s
  | .timSrcWrite v => Sys2Proof.Machine.execTimSrcWrite v s
  | .ppsInEdge t => Sys2Proof.Machine.execPpsInEdge t s
  | .ppsMiss => Sys2Proof.Machine.execPpsMiss s
  | .ppsOutSecond => Sys2Proof.Machine.execPpsOutSecond s
  | .calendarWrite => Sys2Proof.Machine.execCalendarWrite s
  | .calTrimUpdate err => Sys2Proof.Machine.execCalTrimUpdate err s
  | .timCapture => Sys2Proof.Machine.execTimCapture s
  | .calSet => Sys2Proof.Machine.execCalSet s
  | .timCmdReserved code => Sys2Proof.Machine.execTimCmdReserved code s
  | .exchangeSend => Sys2Proof.Machine.execExchangeSend s
  | .exchangeReceived f m => Sys2Proof.Machine.execExchangeReceived f m s
  | .frameMissed k => Sys2Proof.Machine.execFrameMissed k s
  | .fedExchCfgWrite v => Sys2Proof.Machine.execFedExchCfgWrite v s
  | .fedIdWrite v => Sys2Proof.Machine.execFedIdWrite v s
  | .fedLinkChange f up => Sys2Proof.Machine.execFedLinkChange f up s
  | .post src t payload => Sys2Proof.Machine.execPost src t payload s
  | .hostPost t => Sys2Proof.Machine.execHostPost t s
  | .threadBlock core => Sys2Proof.Machine.execThreadBlock core s
  | .quantumExpiry core => Sys2Proof.Machine.execQuantumExpiry core s
  | .thrCfgWrite t v => Sys2Proof.Machine.execThrCfgWrite t v s
  | .loadWindowEnd => Sys2Proof.Machine.execLoadWindowEnd s
  | .schCapture => Sys2Proof.Machine.execSchCapture s
  | .schCmdReserved code => Sys2Proof.Machine.execSchCmdReserved code s
  | .graphNodeDone q node err => Sys2Proof.Machine.execGraphNodeDone q node err s
  | .graphTimeout q => Sys2Proof.Machine.execGraphTimeout q s
  | .storeRead q addr ag fnd => Sys2Proof.Machine.execStoreRead q addr ag fnd s
  | .storePairWrite q pair v0 v1 => Sys2Proof.Machine.execStorePairWrite q pair v0 v1 s
  | .storeWordWrite q addr v fnd => Sys2Proof.Machine.execStoreWordWrite q addr v fnd s
  | .spareCopyDone q => Sys2Proof.Machine.execSpareCopyDone q s
  | .scrubRead q fnd => Sys2Proof.Machine.execScrubRead q fnd s
  | .dmaStart c => Sys2Proof.Machine.execDmaStart c s
  | .dmaStop c => Sys2Proof.Machine.execDmaStop c s
  | .dmaAbort c => Sys2Proof.Machine.execDmaAbort c s
  | .dmaResume c => Sys2Proof.Machine.execDmaResume c s
  | .dmaDoorbell c => Sys2Proof.Machine.execDmaDoorbell c s
  | .dmaCmdReserved c code => Sys2Proof.Machine.execDmaCmdReserved c code s
  | .dmaCfgWrite c ring v => Sys2Proof.Machine.execDmaCfgWrite c ring v s
  | .starvedReread c => Sys2Proof.Machine.execStarvedReread c s
  | .burstIssue => Sys2Proof.Machine.execBurstIssue s
  | .burstAck c data => Sys2Proof.Machine.execBurstAck c data s
  | .dmaErrorResponse c dst data => Sys2Proof.Machine.execDmaErrorResponse c dst data s
  | .diRawEdge k level t => Sys2Proof.Machine.execDiRawEdge k level t s
  | .debounceExpiry k => Sys2Proof.Machine.execDebounceExpiry k s
  | .diSettle k => Sys2Proof.Machine.execDiSettle k s
  | .diPicotDrain => Sys2Proof.Machine.execDiPicotDrain s
  | .fieldConfigWrite r v => Sys2Proof.Machine.execFieldConfigWrite r v s
  | .doCommitContent => Sys2Proof.Machine.execDoCommitContent s
  | .overcurrent k => Sys2Proof.Machine.execOvercurrent k s
  | .ocRetry k => Sys2Proof.Machine.execOcRetry k s
  | .retryCountReset k => Sys2Proof.Machine.execRetryCountReset k s
  | .extDriven k => Sys2Proof.Machine.execExtDriven k s
  | .extDrivenEnd k => Sys2Proof.Machine.execExtDrivenEnd k s
  | .driveFail k => Sys2Proof.Machine.execDriveFail k s
  | .supplyMeasurement v => Sys2Proof.Machine.execSupplyMeasurement v s
  | .sagCut => Sys2Proof.Machine.execSagCut s
  | .supplyNormal => Sys2Proof.Machine.execSupplyNormal s
  | .sagRestored => Sys2Proof.Machine.execSagRestored s
  | .sagAck => Sys2Proof.Machine.execSagAck s
  | .fsAck => Sys2Proof.Machine.execFsAck s
  | .fioCmdReserved code => Sys2Proof.Machine.execFioCmdReserved code s
  | .doClear k => Sys2Proof.Machine.execDoClear k s
  | .doCmdReserved k code => Sys2Proof.Machine.execDoCmdReserved k code s
  | .ssaTestPulse low => Sys2Proof.Machine.execSsaTestPulse low s
  | .ssaMismatch => Sys2Proof.Machine.execSsaMismatch s
  | .ssaDrop => Sys2Proof.Machine.execSsaDrop s
  | .commitLost => Sys2Proof.Machine.execCommitLost s
  | .domainPowerDown d nextNs => Sys2Proof.Machine.execDomainPowerDown d nextNs s
  | .domainWakeRequest d => Sys2Proof.Machine.execDomainWakeRequest d s
  | .wakeTime d => Sys2Proof.Machine.execWakeTime d s
  | .thermalReading die t => Sys2Proof.Machine.execThermalReading die t s
  | .eventAssertion es => Sys2Proof.Machine.execEventAssertion es s
  | .evmRouteWrite src v => Sys2Proof.Machine.execEvmRouteWrite src v s
  | .rdbSnap q => Sys2Proof.Machine.execRdbSnap q s
  | .rdbCancel q => Sys2Proof.Machine.execRdbCancel q s
  | .rdbCmdReserved q code => Sys2Proof.Machine.execRdbCmdReserved q code s
  | .snapshotWritten q => Sys2Proof.Machine.execSnapshotWritten q s
  | .pcieReset => Sys2Proof.Machine.execPcieReset s
  | .flr => Sys2Proof.Machine.execFlr s
  | .d3hotEntry => Sys2Proof.Machine.execD3hotEntry s
  | .pcieLinkChange up gen width => Sys2Proof.Machine.execPcieLinkChange up gen width s
  | .powerGood p => Sys2Proof.Machine.execPowerGood p s
  | .manifestVerified bytes => Sys2Proof.Machine.execManifestVerified bytes s
  | .kernelLoaded bytes => Sys2Proof.Machine.execKernelLoaded bytes s
  | .sectionHashed bytes => Sys2Proof.Machine.execSectionHashed bytes s
  | .bootReady => Sys2Proof.Machine.execBootReady s
  | .bootTimeout => Sys2Proof.Machine.execBootTimeout s
  | .secAttest => Sys2Proof.Machine.execSecAttest s
  | .attestDone => Sys2Proof.Machine.execAttestDone s
  | .rollbackCommit => Sys2Proof.Machine.execRollbackCommit s
  | .secProvision arg dbg => Sys2Proof.Machine.execSecProvision arg dbg s
  | .secRevoke arg => Sys2Proof.Machine.execSecRevoke arg s
  | .otpDone => Sys2Proof.Machine.execOtpDone s
  | .tryBank arg => Sys2Proof.Machine.execTryBank arg s
  | .commitBank => Sys2Proof.Machine.execCommitBank s
  | .lockDebug => Sys2Proof.Machine.execLockDebug s
  | .secReboot => Sys2Proof.Machine.execSecReboot s
  | .secCmdReserved code => Sys2Proof.Machine.execSecCmdReserved code s
  | .flashRead => Sys2Proof.Machine.execFlashRead s
  | .flashProgram => Sys2Proof.Machine.execFlashProgram s
  | .flashErase => Sys2Proof.Machine.execFlashErase s
  | .flashCmdReserved code => Sys2Proof.Machine.execFlashCmdReserved code s
  | .flashDone ok data => Sys2Proof.Machine.execFlashDone ok data s
  | .jtagBypass => Sys2Proof.Machine.execJtagBypass s
  | .jtagIdcode => Sys2Proof.Machine.execJtagIdcode s
  | .jtagSample => Sys2Proof.Machine.execJtagSample s
  | .jtagExtest => Sys2Proof.Machine.execJtagExtest s
  | .unlockChal => Sys2Proof.Machine.execUnlockChal s
  | .unlockResp bytes => Sys2Proof.Machine.execUnlockResp bytes s
  | .debugStatus => Sys2Proof.Machine.execDebugStatus s
  | .jtagObserve => Sys2Proof.Machine.execJtagObserve s
  | .planeRailFault q => Sys2Proof.Machine.execPlaneRailFault q s
  | .planeRailRestored q => Sys2Proof.Machine.execPlaneRailRestored q s
  | .ioRailFault => Sys2Proof.Machine.execIoRailFault s
  | .resetNLow => Sys2Proof.Machine.execResetNLow s
  | .refclkLoss => Sys2Proof.Machine.execRefclkLoss s
  | .overtemp => Sys2Proof.Machine.execOvertemp s
  | .overtempRelease => Sys2Proof.Machine.execOvertempRelease s
  | .vfieldLow => Sys2Proof.Machine.execVfieldLow s
  | .vbatLoss => Sys2Proof.Machine.execVbatLoss s
  | .msixHoldoffEnd v => Sys2Proof.Machine.execMsixHoldoffEnd v s
  | .configurationWrite f => Sys2Proof.Machine.execConfigurationWrite f s
  | .pcieL1Change enter => Sys2Proof.Machine.execPcieL1Change enter s
  | .domainExitDone d ns => Sys2Proof.Machine.execDomainExitDone d ns s
  | .domainEntryDone d => Sys2Proof.Machine.execDomainEntryDone d s
  | .fieldPowerUp => Sys2Proof.Machine.execFieldPowerUp s
  | .announceReceiptTimeout x0 f => Sys2Proof.Machine.execAnnounceReceiptTimeout x0 f s

end Sys2Proof.Machine
end

