-- ==== Sys2Proof/WellFormed.lean ====
section
/-! DEFINITION. Which commands are well formed: their operands name something that exists, a reserved command carries a code that its
register reserves, and a TLP is one that PCIe can carry. -/

namespace Sys2Proof

/-- A TLP of `n` dwords at a byte offset of a BAR of `size` bytes: on a dword, not empty, at most `most` dwords, inside the BAR
(R486, R489, R494). -/
def tlpOk (off n size most : Nat) : Bool :=
  off % 4 == 0 && decide (0 < n) && decide (n ≤ most) && decide (off + 4 * n ≤ size)

/-- The island receives time beacons: neither the time keeper nor the calendar (R49). -/
def hears (i : Fin 40) : Bool := i.val != 37 && i.val != 39

/-- The largest Max Payload Size is 512 bytes (R486). -/
def cfgOk (f : CfgField) : Bool :=
  match f with
  | .maxPayload v => decide (v.toNat ≤ 2)
  | _ => true

/-- An observation arrives with a complete record from a federation port; a station's words stand in its input (R184). -/
def obsOk (src : ObsSource) : Bool :=
  match src with
  | .station _ => true
  | .probe _ => true
  | .federation ws => ws.length == 24

/-- Whether a command is well formed. -/
def Instr.wf : Instr → Bool
  | .registerWrite off _ => off % 8 == 0 && decide (off < 0x4000000)
  | .writeLowHalf off _ => off % 8 == 0 && decide (off < 0x4000000)
  | .writeHighHalf off _ => off % 8 == 4 && decide (off < 0x4000000)
  | .bar0WriteTlp off dws => tlpOk off dws.length 0x4000000 128
  | .bar0ReadTlp off dws => tlpOk off dws 0x4000000 1024
  | .bar2Write off dws => tlpOk off dws.length 0x100000000 128
  | .bar2Read off n => off % 8 == 0 && decide (0 < n) && decide (off + 8 * n ≤ 0x100000000)
  | .flitCrcFail _ _ => true
  | .timeBeacon missed => missed.all (fun x => hears x)
  | .beaconMissed island => hears island
  | .timeStep => true
  | .cyclingStart => true
  | .cycleStart => true
  | .changingExit => true
  | .eventPoint _ => true
  | .evpWrite _ _ => true
  | .cycApply => true
  | .cycCapture => true
  | .cycCmdReserved code => decide (3 ≤ code.toNat)
  | .syncPoint => true
  | .interpolation => true
  | .ssmCh2EvalDone => true
  | .solveDeadline => true
  | .commit => true
  | .applyPoint => true
  | .flushLate => true
  | .copyLineSend => true
  | .copyLineReceived => true
  | .breathReceived _ => true
  | .heartbeatCheck => true
  | .machineCheckLine _ _ => true
  | .takeoverReady _ => true
  | .outputStageRequest _ _ _ => true
  | .commitContentArrival _ _ => true
  | .swapAnnounce => true
  | .swapDecision => true
  | .swapPeriodBoundary => true
  | .planeResetRelease _ => true
  | .resyncTimeout _ => true
  | .holdoffEnd _ => true
  | .healthPassDone _ => true
  | .swapNow => true
  | .redSuspend => true
  | .resumeSwaps => true
  | .redReadmit _ => true
  | .redRetire _ => true
  | .redCmdReserved code => decide (6 ≤ code.toNat)
  | .mchkTest _ => true
  | .planeCmdReserved _ code => decide (2 ≤ code.toNat)
  | .replSegmentWrite _ _ _ => true
  | .qStart _ => true
  | .qHold _ => true
  | .qRelease _ => true
  | .qClearFault _ => true
  | .qSkip _ => true
  | .qFlush _ => true
  | .qContinue _ => true
  | .qResumeAt _ => true
  | .queueCmdReserved _ code => decide (9 ≤ code.toNat)
  | .wrWrite _ _ _ => true
  | .ckpRdWrite _ _ _ => true
  | .ovrWrite _ _ => true
  | .stitchNop _ => true
  | .stitchLine _ => true
  | .stitchArc _ => true
  | .stitchSpline _ => true
  | .stitchJoint _ => true
  | .stitchDwell _ => true
  | .stitchFrame _ => true
  | .stitchLimit _ => true
  | .stitchBlend _ => true
  | .stitchCouple _ => true
  | .stitchProc _ => true
  | .stitchProcramp _ => true
  | .stitchTrig _ => true
  | .stitchSync _ => true
  | .stitchZoneEnter _ => true
  | .stitchZoneLeave _ => true
  | .stitchWaitio _ => true
  | .stitchSetio _ => true
  | .stitchLayer _ => true
  | .stitchMark _ => true
  | .stitchCalibApply _ => true
  | .stitchEnd _ => true
  | .dwellExpiry _ => true
  | .syncTimeout _ => true
  | .zoneTimeout _ => true
  | .waitioTimeout _ => true
  | .resumeTimeout _ => true
  | .bzLink _ => true
  | .activate => true
  | .restart => true
  | .slvCmdReserved code => decide (3 ≤ code.toNat)
  | .solverNop => true
  | .aclr => true
  | .mac => true
  | .msu => true
  | .ald => true
  | .arnd => true
  | .div => true
  | .piv => true
  | .cs => true
  | .sqrt => true
  | .clmp => true
  | .add => true
  | .sub => true
  | .ldi => true
  | .cmple => true
  | .step => true
  | .tile => true
  | .iter => true
  | .pub => true
  | .solverEnd => true
  | .estSubWrWrite _ => true
  | .jobLoad => true
  | .iterationEnd => true
  | .estTimeout => true
  | .checkingDone => true
  | .estAbort => true
  | .discard => true
  | .estApply => true
  | .nominal => true
  | .loadPending => true
  | .estCmdReserved code => decide (6 ≤ code.toNat)
  | .obsIntake src => obsOk src
  | .obsInterpolation => true
  | .channelRun _ => true
  | .stopTmax _ => true
  | .modeRequest _ _ _ => true
  | .chCfgWrite _ _ => true
  | .stop0 _ => true
  | .stop1 _ => true
  | .stop2 _ => true
  | .armStopClear _ => true
  | .armCmdReserved _ code => decide (5 ≤ code.toNat)
  | .pifEdge _ _ _ _ _ _ => true
  | .sincosConversion _ _ _ _ => true
  | .ssiFrameEnd _ _ _ => true
  | .bissFrameEnd _ _ _ => true
  | .velTimeout _ => true
  | .pifConfigWrite _ _ _ => true
  | .pifCapture _ => true
  | .setCount _ => true
  | .correct _ => true
  | .armRef _ => true
  | .clearRef _ => true
  | .pifCmdReserved _ code => decide (6 ≤ code.toNat)
  | .picotDrain _ => true
  | .arm _ => true
  | .disarm _ => true
  | .fireNow _ => true
  | .cmpCmdReserved _ code => decide (4 ≤ code.toNat)
  | .cmpConfigWrite _ _ _ => true
  | .localFire _ => true
  | .timeFire _ => true
  | .pathPrediction => true
  | .pathFire _ => true
  | .pathCancel => true
  | .pulseEnd _ => true
  | .routedTrigger => true
  | .connectionWatchdog _ _ => true
  | .stopMonitorDeadline _ _ => true
  | .stopRelease _ _ => true
  | .driveLossDrop _ _ => true
  | .ssbTestPulse _ _ => true
  | .safetyReset _ _ _ _ => true
  | .drop => true
  | .ssm2CmdReserved code => decide (2 ≤ code.toNat)
  | .pollDeparture _ _ _ _ => true
  | .responseReceived _ _ => true
  | .receiveWindowClose _ _ => true
  | .echoReceived _ _ => true
  | .configComplete _ => true
  | .foreignFrame _ _ => true
  | .listenTimeExpiry _ => true
  | .masterLinkDown _ => true
  | .cbusStart _ => true
  | .cbusStop _ => true
  | .cbusRelease _ => true
  | .reprobe _ => true
  | .tableApply _ => true
  | .muteRelease _ => true
  | .cbusCmdReserved _ code => decide (7 ≤ code.toNat)
  | .cbusConfigWrite _ _ => true
  | .ptpSyncReceived _ _ _ _ => true
  | .ptpFollowUpReceived _ _ _ => true
  | .ptpAnnounceReceived _ _ _ => true
  | .ptpDelayReqReceived _ _ _ _ => true
  | .ptpDelayRespReceived _ _ _ => true
  | .ptpPdelayReqReceived _ _ _ _ _ => true
  | .ptpPdelayRespReceived _ _ _ _ _ => true
  | .ptpSyncSend _ _ _ => true
  | .ptpAnnounceSend _ _ => true
  | .ptpDelayReqSend _ _ _ => true
  | .lockLost _ => true
  | .ptpEnableWrite _ _ => true
  | .ptpCapture _ => true
  | .ptpCmdReserved _ code => decide (2 ≤ code.toNat)
  | .timSrcWrite _ => true
  | .ppsInEdge _ => true
  | .ppsMiss => true
  | .ppsOutSecond => true
  | .calendarWrite => true
  | .calTrimUpdate _ => true
  | .timCapture => true
  | .calSet => true
  | .timCmdReserved code => decide (3 ≤ code.toNat)
  | .exchangeSend => true
  | .exchangeReceived _ _ => true
  | .frameMissed _ => true
  | .fedExchCfgWrite _ => true
  | .fedIdWrite _ => true
  | .fedLinkChange _ _ => true
  | .post _ _ _ => true
  | .hostPost _ => true
  | .threadBlock _ => true
  | .quantumExpiry _ => true
  | .thrCfgWrite _ _ => true
  | .loadWindowEnd => true
  | .schCapture => true
  | .schCmdReserved code => decide (2 ≤ code.toNat)
  | .graphNodeDone _ _ _ => true
  | .graphTimeout _ => true
  | .storeRead _ _ _ _ => true
  | .storePairWrite _ _ _ _ => true
  | .storeWordWrite _ _ _ _ => true
  | .spareCopyDone _ => true
  | .scrubRead _ _ => true
  | .dmaStart _ => true
  | .dmaStop _ => true
  | .dmaAbort _ => true
  | .dmaResume _ => true
  | .dmaDoorbell _ => true
  | .dmaCmdReserved _ code => decide (6 ≤ code.toNat)
  | .dmaCfgWrite _ _ _ => true
  | .starvedReread _ => true
  | .burstIssue => true
  | .burstAck _ _ => true
  | .dmaErrorResponse _ _ _ => true
  | .diRawEdge _ _ _ => true
  | .debounceExpiry _ => true
  | .diSettle _ => true
  | .diPicotDrain => true
  | .fieldConfigWrite _ _ => true
  | .doCommitContent => true
  | .overcurrent _ => true
  | .ocRetry _ => true
  | .retryCountReset _ => true
  | .extDriven _ => true
  | .extDrivenEnd _ => true
  | .driveFail _ => true
  | .supplyMeasurement _ => true
  | .sagCut => true
  | .supplyNormal => true
  | .sagRestored => true
  | .sagAck => true
  | .fsAck => true
  | .fioCmdReserved code => decide (3 ≤ code.toNat)
  | .doClear _ => true
  | .doCmdReserved _ code => decide (2 ≤ code.toNat)
  | .ssaTestPulse _ => true
  | .ssaMismatch => true
  | .ssaDrop => true
  | .commitLost => true
  | .domainPowerDown _ _ => true
  | .domainWakeRequest _ => true
  | .wakeTime _ => true
  | .thermalReading _ _ => true
  | .eventAssertion es => !es.isEmpty && decide es.Nodup
  | .evmRouteWrite _ _ => true
  | .rdbSnap _ => true
  | .rdbCancel _ => true
  | .rdbCmdReserved _ code => decide (3 ≤ code.toNat)
  | .snapshotWritten _ => true
  | .pcieReset => true
  | .flr => true
  | .d3hotEntry => true
  | .pcieLinkChange up gen width => !up || (decide (1 ≤ gen.toNat) && decide (gen.toNat ≤ 5) && [1, 2, 4].contains width.toNat)
  | .powerGood p => p.lanes.all (fun b => decide (b.group.val < b.link.groups)
      && (b.lane.val == 16 || decide (b.lane.val < b.link.groupLanes)))
  | .manifestVerified _ => true
  | .kernelLoaded _ => true
  | .sectionHashed _ => true
  | .bootReady => true
  | .bootTimeout => true
  | .secAttest => true
  | .attestDone => true
  | .rollbackCommit => true
  | .secProvision _ _ => true
  | .secRevoke _ => true
  | .otpDone => true
  | .tryBank _ => true
  | .commitBank => true
  | .lockDebug => true
  | .secReboot => true
  | .secCmdReserved code => decide (9 ≤ code.toNat)
  | .flashRead => true
  | .flashProgram => true
  | .flashErase => true
  | .flashCmdReserved code => decide (4 ≤ code.toNat)
  | .flashDone _ _ => true
  | .jtagBypass => true
  | .jtagIdcode => true
  | .jtagSample => true
  | .jtagExtest => true
  | .unlockChal => true
  | .unlockResp bytes => bytes.length == 1028
  | .debugStatus => true
  | .jtagObserve => true
  | .planeRailFault _ => true
  | .planeRailRestored _ => true
  | .ioRailFault => true
  | .resetNLow => true
  | .refclkLoss => true
  | .overtemp => true
  | .overtempRelease => true
  | .vfieldLow => true
  | .vbatLoss => true
  | .msixHoldoffEnd _ => true
  | .configurationWrite f => cfgOk f
  | .pcieL1Change _ => true
  | .domainExitDone _ _ => true
  | .domainEntryDone _ => true
  | .fieldPowerUp => true
  | .announceReceiptTimeout _ _ => true

end Sys2Proof
end

