-- ==== Sys2Proof/Safety.lean ====
section
/-! DEFINITION. The terms in which the statements speak of a command: what it answers, which registers it may change, the
state behind the registers, and the invariants of a run. -/

namespace Sys2Proof.Machine

/-- The command completes with a next state of which `P` holds. -/
def Does (c : Instr) (s : State) (P : State → Prop) : Prop := ∃ t, exec c s = .next t ∧ P t

/-- A plane without its registers. -/
def PlaneSt.inner (p : PlaneSt) : PlaneSt := { p with regs := [], rep := { p.rep with regs := [] } }

/-- The state behind the registers: all of it but the registers, the events on their way to the matrix, and the wakes
and entries of power domains that Bellows has decided. -/
def State.inner (s : State) : State :=
  { s with
    dev := []
    pa := s.pa.inner
    pb := s.pb.inner
    bel := { s.bel with wake := [], entering := [], deferred := [] }
    evm := { s.evm with raised := [] } }

/-- Every register but `ks`, those of plane `q` where they lie in a plane window, reads as before. -/
def RegsKept (q : Plane) (s t : State) (ks : List Nat) : Prop :=
  ∀ p k, (k ∉ ks ∨ (isDev k = false ∧ p ≠ q)) → t.rd p k = s.rd p k

/-- Nothing but the registers `ks`, those of plane `q` where they lie in a plane window, differs between `s` and `t`; events may have
been raised and domains woken (R471, R475). -/
def Keeps (q : Plane) (s t : State) (ks : List Nat) : Prop := t.inner = s.inner ∧ RegsKept q s t ks

/-- The registers that raising flag `j` of a bank may change: the flags, the counter, and those of EVM, where an event of a plane
without the grant raises NOT_GRANTED (R16, R475, R484). -/
def flagSlots (b : Bank) (j : Nat) : List Nat := [b.flags, b.cnt + j / 4, R.EVM_FLAGS, R.EVM_FLAG_CNT]

/-- Flag `j` of a bank is set. -/
def State.flagged (s : State) (q : Plane) (b : Bank) (j : Nat) : Prop := s.get q b.flags ⟨j, j⟩ = 1

/-- Both stores hold what they held. -/
def SameStores (s t : State) : Prop := ∀ q a, t.sw q a = s.sw q a

/-- The store words are in canonical form: rising addresses, no word of 0 listed. -/
def Memory.wf (m : List (Nat × Word)) : Bool := sWf (fun _ => (0 : Word)) m

/-- The registers whose write only writes their fields, in the blocks other than TIM, CBUS, FED, FIO, the position interfaces, PLANE, SCH,
DMA, PLN and CLE: not the commands, and not those whose write R364, R471 or R476 checks (R14, R15). -/
def plainKey (k : Nat) : Bool :=
  (decide (k < 0x80000) || decide (0xA0000 ≤ k ∧ k < 0x100000) || decide (0x660000 ≤ k ∧ k < 0x680000)
    || decide (0x6A0000 ≤ k ∧ k < 0x6E0000) || decide (0x700000 ≤ k ∧ k < 0x800000))
  && !([R.BOOT_FLASH_CMD, R.SEC_CMD, R.RED_CFG, R.RED_SWAP_PERIOD, R.RED_CMD, R.SSM2_CMD, R.SLV_CMD, R.EST_CMD, R.EST_SUB_WR,
    R.RDB_CMD] ++ (List.range 256).map R.EVM_ROUTE ++ (List.range 12).map R.BEL_DOM_CFG).contains k

/-- Both stores are in canonical form. -/
def State.memWf (s : State) : Bool := Memory.wf s.pa.store.words && Memory.wf s.pb.store.words

/-- The register files are in canonical form. -/
def State.regsWf (s : State) : Bool :=
  sWf regReset s.dev && sWf regReset s.pa.regs && sWf regReset s.pa.rep.regs && sWf regReset s.pb.regs
    && sWf regReset s.pb.rep.regs

/-- Every domain that is in a state which its floor, MAX_DEPTH or TOL_NS forbids has a wake pending (R471). -/
def FloorsKept (s : State) : Prop := ∀ d, d < 12 → tooDeep d s = true → (nth s.bel.wake d none).isSome = true

/-- The Bobbin at HEAD of a channel's ring, as the store holds it (R412). -/
def bobAt (q : Plane) (c : Nat) (s : State) : Bobbin :=
  let a := bobAddr q c s
  ⟨s.sw q a, s.sw q (a + 1), s.sw q (a + 2), s.sw q (a + 3), s.sw q (a + 4), s.sw q (a + 5)⟩

/-- An arm that has reached `st`: it leaves look-ahead and is the last one reached (R69). -/
def Arm.after (ar : Arm) (st : Stitch) : Arm := { ar with ahead := ar.ahead.filter (fun x => x.pos != st.pos), last := some st }

/-- The rows of the table that reach a Stitch, with its opcode (R68, R69). -/
def stitchRows (a : Fin 16) : List (Instr × Opcode) :=
  [(.stitchNop a, .nop), (.stitchLine a, .line), (.stitchArc a, .arc), (.stitchSpline a, .spline), (.stitchJoint a, .joint),
    (.stitchDwell a, .dwell), (.stitchFrame a, .frame), (.stitchLimit a, .limit), (.stitchBlend a, .blend),
    (.stitchCouple a, .couple), (.stitchProc a, .proc), (.stitchProcramp a, .procramp), (.stitchTrig a, .trig),
    (.stitchSync a, .sync), (.stitchZoneEnter a, .zoneEnter), (.stitchZoneLeave a, .zoneLeave), (.stitchWaitio a, .waitio),
    (.stitchSetio a, .setio), (.stitchLayer a, .layer), (.stitchMark a, .mark), (.stitchCalibApply a, .calibApply),
    (.stitchEnd a, .finish)]

end Sys2Proof.Machine
end

