-- ==== Sys2Proof/Certificates/Slice0/Obligations.lean ====
section
/-! DEFINITION. The statements about the model, for the provers: what each command does, what it leaves, and where it completes. -/

open Sys2Proof Sys2Proof.Machine

/-- One step runs the command at the front of the queue on the state with the queue's rest; on an empty queue the block idles
(the model's choice, log entry 3); and no word spells a command, since no row of the table has bits, so `withFetchWord` changes
nothing. -/
def Obligations.StepRunsTheFrontCommand : Prop :=
  (∀ (c : Instr) (rest : List Instr) (s : State), step { s with pending := c :: rest } = exec c { s with pending := rest })
  ∧ (∀ s : State, s.pending = [] → step s = .next s)
  ∧ (∀ (s : State) (nbits w : Nat), decodeTableWord nbits w = none ∧ s.withFetchWord nbits w = s)

/-- Every command completes, in every state, and Bellows has then looked at every domain: whatever the command, and whatever the
state before it, no domain is left in a state that its floor, MAX_DEPTH or TOL_NS forbids without a wake that is on its way. So
every step, the idle one included, keeps the floors (R469 to R471). It rests on the model's readings in log entries 1, 3, 88. -/
def Obligations.EveryStepKeepsTheFloors : Prop :=
  (∀ (c : Instr) (s : State), Does c s (fun t => FloorsKept t ∧ t.bel.wake.length = 12))
  ∧ (∀ s t : State, FloorsKept s → step s = .next t → FloorsKept t)

/-- What reset leaves: the invariant of the floors, both stores and all registers in canonical form, no grant, no command
waiting, every domain in RUN, both outputs dropped with cause POWER_UP, and the default cycle of R53 in force (R53, R294, R469).
-/
def Obligations.ResetHoldsTheSpecsValues : Prop :=
  FloorsKept State.reset ∧ State.reset.memWf = true ∧ State.reset.regsWf = true ∧ State.reset.chanter = none
  ∧ State.reset.pending = [] ∧ (∀ d, d < 12 → State.reset.dom d = 0) ∧ bootStage State.reset = 0
  ∧ State.reset.dg R.SSM2_STATUS F.SSM2_STATUS_SSA = 0 ∧ State.reset.dg R.SSM2_STATUS F.SSM2_STATUS_SSB = 0
  ∧ State.reset.dg R.SSM2_STATUS F.SSM2_STATUS_DROP_CAUSE = 1
  ∧ State.reset.dg R.TIM_CYC_ACT_PERIOD F.TIM_CYC_ACT_PERIOD_VALUE = 500
  ∧ State.reset.dg R.TIM_CYC_ACT_FB_DEADLINE F.TIM_CYC_ACT_FB_DEADLINE_VALUE = 45000
  ∧ State.reset.dg R.TIM_CYC_ACT_SOLVE_DEADLINE F.TIM_CYC_ACT_SOLVE_DEADLINE_VALUE = 85000
  ∧ State.reset.dg R.TIM_CYC_ACT_COMMIT_OFS F.TIM_CYC_ACT_COMMIT_OFS_VALUE = 110000
  ∧ State.reset.dg R.TIM_CYC_ACT_APPLY_OFS F.TIM_CYC_ACT_APPLY_OFS_VALUE = 60000

/-- A raised flag is set and its 8-bit counter counts, whether or not the flag was 1, and saturates at 255; where the flag is
enabled its event goes to the matrix over the links between them, from a plane only with the grant; nothing else changes, but
for NOT_GRANTED (R16, R33, R475, R484). -/
def Obligations.FlagsCountTheirOccurrences : Prop :=
  ∀ (q : Plane) (b : Bank) (ev j : Nat) (s : State), j < 36 → b.flags ≠ b.cnt + j / 4 → isDev b.flags = isDev (b.cnt + j / 4) →
    let t := s.raise q b ev j
    let f : Fld := ⟨8 * (j % 4) + 7, 8 * (j % 4)⟩
    t.flagged q b j ∧ t.get q (b.cnt + j / 4) f = min 255 (s.get q (b.cnt + j / 4) f + 1) ∧ Keeps q s t (flagSlots b j)
    ∧ ((∀ m, b.mask = some m → m ≠ b.flags ∧ m ≠ b.cnt + j / 4) → b.flags ≠ R.RED_STATUS → b.cnt + j / 4 ≠ R.RED_STATUS →
        isDev b.flags = true ∨ s.chanter = some q →
        let path := if isDev b.flags then s.eventPath b.flags else s.linkUp (portLink q)
        t.evm.raised = if s.enabled q b j ∧ path = true then s.evm.raised ++ [ev] else s.evm.raised)

/-- Snapshots: SNAP starts one where RDB is IDLE, selects a block and has room; CANCEL ends it; the last word written ends it in
IDLE with SNAP_DONE; a reserved code is refused with REFUSE = 0x3 (R480, R481, R485). -/
def Obligations.SnapshotCommands : Prop :=
  ∀ (q : Plane) (s : State),
    (s.get q R.RDB_STATUS F.RDB_STATUS_STATE = 0 → snapBlocks q s ≠ [] → snapWords (snapBlocks q s) ≤ 65536 →
      s.get q R.RDB_SNAP_DST F.RDB_SNAP_DST_ADDR = 0 →
      Does (.rdbSnap q) s (fun t => t.get q R.RDB_STATUS F.RDB_STATUS_STATE = 1 ∧ Keeps q s t [R.RDB_CMD, R.RDB_STATUS]))
    ∧ Does (.rdbCancel q) s (fun t => t.get q R.RDB_STATUS F.RDB_STATUS_STATE = 0 ∧ Keeps q s t [R.RDB_CMD, R.RDB_STATUS])
    ∧ (∀ code : BitVec 4, 3 ≤ code.toNat → Does (.rdbCmdReserved q code) s (fun t =>
        t.get q R.RDB_STATUS F.RDB_STATUS_REFUSE = 3 ∧ t.flagged q bRDB 2
          ∧ Keeps q s t ([R.RDB_CMD, R.RDB_STATUS] ++ flagSlots bRDB 2)))
    ∧ (s.get q R.RDB_STATUS F.RDB_STATUS_STATE = 2 → s.get q R.RDB_SNAP_DST F.RDB_SNAP_DST_ADDR = 0 →
      Does (.snapshotWritten q) s (fun t => t.get q R.RDB_STATUS F.RDB_STATUS_STATE = 0 ∧ t.flagged q bRDB 0
        ∧ Keeps q s t (R.RDB_STATUS :: flagSlots bRDB 0)))

/-- Storing changes the words it stores and nothing else, whatever was there (R402, R403): the frame of both commands that write
the store. What the reads of the store do: a clean read changes nothing; one that finds a corrected error counts it and keeps
every word, and one that finds an uncorrectable pair reports it and marks it; the patrol scrub goes to the next pair; a row
copied is redirected to the lowest-numbered free spare (R403, R405, R406). It rests on the model's readings in log entry 7. -/
def Obligations.TheStoreHoldsItsWords : Prop :=
  (∀ (q : Plane) (s : State),
    (∀ (pair : BitVec 28) (v0 v1 : Word), Does (.storePairWrite q pair v0 v1) s (fun t =>
      t.sw q (2 * pair.toNat) = v0 ∧ t.sw q (2 * pair.toNat + 1) = v1
        ∧ (∀ p a, (p ≠ q ∨ a / 2 ≠ pair.toNat) → t.sw p a = s.sw p a)
        ∧ t.isBad q pair.toNat = false ∧ RegsKept q s t [] ∧ (s.memWf = true → t.memWf = true)))
    ∧ (∀ (addr : BitVec 29) (v : Word), s.isBad q (addr.toNat / 2) = false →
      Does (.storeWordWrite q addr v .clean) s (fun t =>
        t.sw q addr.toNat = v ∧ (∀ p a, (p ≠ q ∨ a ≠ addr.toNat) → t.sw p a = s.sw p a)
          ∧ RegsKept q s t [] ∧ (s.memWf = true → t.memWf = true))
      ∧ (∀ fnd : EccFinding, fnd ≠ .clean → Does (.storeWordWrite q addr v fnd) s (fun t =>
        t.sw q addr.toNat = v ∧ (∀ p a, (p ≠ q ∨ a ≠ addr.toNat) → t.sw p a = s.sw p a)
          ∧ t.flagged q bCST (if fnd = .single then 0 else 1)
          ∧ t.isBad q (addr.toNat / 2) = decide (fnd = .uncorrectable)
          ∧ RegsKept q s t ([R.CST_CE_CNT, R.CST_UE_CNT, R.CST_ERR_ADDR, R.CST_STATUS] ++ flagSlots bCST 0)))))
  ∧ (∀ (q : Plane) (s : State),
    (∀ (addr : BitVec 29) (ag : Agent), s.isBad q (addr.toNat / 2) = false →
      Does (.storeRead q addr ag .clean) s (fun t => Keeps q s t [])
      ∧ Does (.storeRead q addr ag .single) s (fun t => t.flagged q bCST 0 ∧ SameStores s t
          ∧ t.get q R.CST_CE_CNT F.CST_CE_CNT_COUNT
            = satAdd F.CST_CE_CNT_COUNT.width (s.get q R.CST_CE_CNT F.CST_CE_CNT_COUNT) 1
          ∧ RegsKept q s t ([R.CST_CE_CNT, R.CST_ERR_ADDR, R.CST_STATUS] ++ flagSlots bCST 0))
      ∧ Does (.storeRead q addr .dma .uncorrectable) s (fun t => t.flagged q bCST 1 ∧ t.isBad q (addr.toNat / 2) = true
          ∧ SameStores s t ∧ t.get q R.CST_ERR_ADDR F.CST_ERR_ADDR_ADDR = addr.toNat / 2 * 2
          ∧ RegsKept q s t ([R.CST_UE_CNT, R.CST_ERR_ADDR, R.CST_STATUS] ++ flagSlots bCST 1)))
    ∧ (∀ row rest r, (s.plane q).store.sparing = row :: rest → freeSpare q s = some r →
      Does (.spareCopyDone q) s (fun t => t.get q (R.CST_SPARE r) F.CST_SPARE_USED = 1
        ∧ t.get q (R.CST_SPARE r) F.CST_SPARE_ROW = row % 2 ^ F.CST_SPARE_ROW.width ∧ t.flagged q bCST 2
        ∧ (t.plane q).store.sparing = rest ∧ SameStores s t
        ∧ RegsKept q s t ([R.CST_SPARE r, R.CST_STATUS] ++ flagSlots bCST 2 ++ flagSlots bCST 3)))
    ∧ (s.isBad q (s.get q R.CST_SCRUB F.CST_SCRUB_POS) = false → s.get q R.CST_SCRUB F.CST_SCRUB_POS + 1 < 2 ^ 28 →
      Does (.scrubRead q .clean) s (fun t => t.get q R.CST_SCRUB F.CST_SCRUB_POS = s.get q R.CST_SCRUB F.CST_SCRUB_POS + 1
        ∧ Keeps q s t [R.CST_SCRUB])))

/-- A post to a thread that is READY or RUNNING joins the queue behind the posts that are there, as the value that was posted or
that SCH_POST_ARG holds; an accepted post changes nothing else (R392, R395). -/
def Obligations.PostsJoinTheQueue : Prop :=
  ∀ (q : Plane) (s : State) (thr : Fin 512), s.chanter = some q → 2 ≤ thrState q thr s → (s.sch q).stalled = [] →
    (s.sch q).posts.length + 1 < 896 →
      (∀ (src : PostSource) (v : Word), Does (.post src thr v) s (fun t =>
        t.get q R.SCH_POSTQ F.SCH_POSTQ_DEPTH = (s.sch q).posts.length + 1
        ∧ t.inner = (s.setSch q { s.sch q with posts := (s.sch q).posts ++ [(thr.val, v)] }).inner
        ∧ RegsKept q s t [R.SCH_POSTQ, R.SCH_THR_STATUS thr]))
      ∧ Does (.hostPost thr) s (fun t => t.get q R.SCH_POST F.SCH_POST_THREAD = thr
        ∧ t.inner = (s.setSch q { s.sch q with posts := (s.sch q).posts ++ [(thr.val, s.rd q R.SCH_POST_ARG)] }).inner
        ∧ RegsKept q s t [R.SCH_POST, R.SCH_POSTQ, R.SCH_THR_STATUS thr])

/-- The scheduler's own turns: a thread that blocks with no post leaves its core idle where no READY thread may run there; after
its quantum a thread goes to the tail and the core takes the first READY thread of its priority; a written configuration is kept
but for CLASS, and one without a core is refused (R389, R390, R391). It rests on the model's readings in log entry 2. -/
def Obligations.ThreadsBlockAndYield : Prop :=
  ∀ (q : Plane) (s : State), s.chanter = some q → inThread q s = true →
    (∀ (core : Fin 8) (u : Nat), onCore q core s = some u → u < 512 → postsOf q u s = 0 → (s.sch q).stalled = [] →
      (∀ p, nth (s.sch q).ready p [] = []) →
      Does (.threadBlock core) s (fun t => thrState q u t = 1 ∧ onCore q core t = none
        ∧ RegsKept q s t [R.SCH_CORE_STATUS core, R.SCH_THR_STATUS u] ∧ SameStores s t))
    ∧ (∀ (core : Fin 8) (u v : Nat) (l : List Nat), onCore q core s = some u → u < 512 → v < 512 → u ≠ v →
      thrOn q v core s = true → thrPrio q v s = thrPrio q u s → thrPrio q u s < 64 → (s.sch q).ready.length = 64 →
      nth (s.sch q).ready (thrPrio q u s) [] = v :: l → (∀ p, thrPrio q u s < p → nth (s.sch q).ready p [] = []) →
      (∀ k : Fin 8, thrOn q u k s = true → (onCore q k s).any (fun w => decide (thrPrio q u s ≤ thrPrio q w s)) = true) →
      (s.sch q).stalled = [] →
      Does (.quantumExpiry core) s (fun t => onCore q core t = some v ∧ thrState q u t = 2 ∧ thrState q v t = 3
        ∧ t.now = max s.now (nth (s.sch q).began core 0 + quantumPs q s)))
    ∧ (∀ (core : Fin 8) (u : Nat), onCore q core s = some u → nth (s.sch q).ready (thrPrio q u s) [] = [] →
      Does (.quantumExpiry core) s (fun t => onCore q core t = some u
        ∧ t.now = max s.now (nth (s.sch q).began core 0 + quantumPs q s) ∧ SameStores s t ∧ RegsKept q s t []))
    ∧ (∀ (thr : Fin 512) (v : Word), thrState q thr s ≠ 0 → F.SCH_THR_CFG_AFF.get v ≠ 0 →
      Does (.thrCfgWrite thr v) s (fun t => Keeps q s t [R.SCH_THR_CFG thr]
        ∧ t.rd q (R.SCH_THR_CFG thr) = F.SCH_THR_CFG_CLASS.set v (s.get q (R.SCH_THR_CFG thr) F.SCH_THR_CFG_CLASS)))
    ∧ (∀ (thr : Fin 512) (v : Word), F.SCH_THR_CFG_AFF.get v = 0 →
      Does (.thrCfgWrite thr v) s (fun t => t.get q R.SCH_STATUS F.SCH_STATUS_REFUSE = 1 ∧ t.flagged q bSCH 7
        ∧ Keeps q s t (R.SCH_STATUS :: flagSlots bSCH 7)))

/-- Load windows and captures: at a cycle start with n mod 2^LOAD_LOG2 = 0 the window ends and leaves each core its load, the
busy share of the window with an LSB of 2^-16, and the next begins; the first such start only begins one, and any other start
changes nothing; CAPTURE copies the loads and the dispatch counts of the eight cores; a reserved code is refused with REFUSE =
0x2 (R396, R401). It rests on the model's readings in log entries 85, 90. -/
def Obligations.LoadsAreMeasuredAndCaptured : Prop :=
  ∀ (q : Plane) (s : State), s.chanter = some q →
    (s.n % 2 ^ loadLog2 q s = 0 → s.n ≠ 0 →
      Does .loadWindowEnd s (fun t => (t.sch q).winStart = s.now ∧ (t.sch q).busy = List.replicate 8 0
        ∧ (∀ k : Fin 8, t.get q (R.SCH_CORE_LOAD k) F.SCH_CORE_LOAD_LOAD
            = loadOf (nth (s.sch q).busy k 0
                + (if (onCore q k s).isSome then s.now - max (nth (s.sch q).began k 0) (s.sch q).winStart else 0))
              (s.now - (s.sch q).winStart))
        ∧ SameStores s t ∧ RegsKept q s t ((List.range 8).map R.SCH_CORE_LOAD ++ flagSlots bSCH 3)))
    ∧ (s.n = 0 → Does .loadWindowEnd s (fun t => (t.sch q).winStart = s.now ∧ (t.sch q).busy = List.replicate 8 0
        ∧ SameStores s t ∧ RegsKept q s t []))
    ∧ (s.n % 2 ^ loadLog2 q s ≠ 0 → Does .loadWindowEnd s (fun t => Keeps q s t []))
    ∧ Does .schCapture s (fun t => (∀ k : Fin 8, t.rd q (R.SCH_CORE_DISP_CAP k) = s.rd q (R.SCH_CORE_DISP k)
        ∧ t.get q (R.SCH_CORE_LOAD k) F.SCH_CORE_LOAD_CAPTURED = s.get q (R.SCH_CORE_LOAD k) F.SCH_CORE_LOAD_LOAD)
      ∧ Keeps q s t (R.SCH_CMD :: (List.range 8).map R.SCH_CORE_LOAD ++ (List.range 8).map R.SCH_CORE_DISP_CAP))
    ∧ (∀ code : BitVec 4, 2 ≤ code.toNat → Does (.schCmdReserved code) s (fun t =>
        t.get q R.SCH_STATUS F.SCH_STATUS_REFUSE = 2 ∧ t.flagged q bSCH 7
          ∧ Keeps q s t ([R.SCH_CMD, R.SCH_STATUS] ++ flagSlots bSCH 7)))

/-- Channel commands that load: START from IDLE or STOPPED, RESUME from HALTED, DOORBELL and the reread of a starved channel
take the Bobbin at HEAD if the engine owns it and it passes its check, and the channel is RUNNING with it (R411, R414, R416).
Channel commands that end or refuse: STOP waits for the Bobbin of a RUNNING channel and frees a STARVED one; ABORT lets the
bursts in flight end and frees a channel that has none of them; a reserved code is refused with REFUSE = 0x3; the ring of a
channel at rest is written, and that of a RUNNING one refused with REFUSE = 0x4 (R416, R422, R427). It rests on the model's
readings in log entries 2, 86. -/
def Obligations.DmaChannelsObeyCommands : Prop :=
  (∀ (q : Plane) (c : Fin 64) (s : State), s.chanter = some q → c.val < (s.dma q).chs.length →
    s.poisoned q (bobAddr q c s) 6 = false → bitN (bobAt q c s).w0.toNat 35 = true → bobbinOk (bobAt q c s) s = true →
    ∀ cmd : Instr,
      ((cmd = .dmaStart c ∧ (dmaState q c s = 0 ∨ dmaState q c s = 5) ∧ 1 ≤ dmaCfg q c F.DMA_CH_CFG_RING_LOG2 s
          ∧ dmaCfg q c F.DMA_CH_CFG_RING_LOG2 s ≤ 12)
        ∨ (cmd = .dmaResume c ∧ dmaState q c s = 4) ∨ (cmd = .dmaDoorbell c ∧ dmaState q c s = 2)
        ∨ (cmd = .starvedReread c ∧ dmaState q c s = 2)) →
      Does cmd s (fun t => dmaState q c t = 1 ∧ (t.dch q c).bob = some (bobAt q c s) ∧ (t.dch q c).issued = 0
        ∧ (∀ d, d ≠ c.val → t.dch q d = s.dch q d) ∧ SameStores s t
        ∧ RegsKept q s t [R.DMA_CH_CMD c, R.DMA_CH_STATUS c, R.DMA_CH_PROGRESS c]))
  ∧ (∀ (q : Plane) (c : Fin 64) (s : State), s.chanter = some q → c.val < (s.dma q).chs.length →
    (dmaState q c s = 1 → Does (.dmaStop c) s (fun t => (t.dch q c).stop = true ∧ dmaState q c t = 1
        ∧ SameStores s t ∧ RegsKept q s t [R.DMA_CH_CMD c, R.DMA_CH_PROGRESS c]))
    ∧ (dmaState q c s = 2 → Does (.dmaStop c) s (fun t => dmaState q c t = 0 ∧ t.dch q c = dmaIdle ∧ SameStores s t
        ∧ RegsKept q s t [R.DMA_CH_CMD c, R.DMA_CH_STATUS c, R.DMA_CH_PROGRESS c]))
    ∧ (dmaState q c s = 1 → inFlight q c s ≠ [] → Does (.dmaAbort c) s (fun t => (t.dch q c).aborting = true
        ∧ dmaState q c t = 1 ∧ SameStores s t ∧ RegsKept q s t [R.DMA_CH_CMD c, R.DMA_CH_PROGRESS c]))
    ∧ (dmaState q c s = 2 ∨ dmaState q c s = 4 ∨ dmaState q c s = 5 → Does (.dmaAbort c) s (fun t => dmaState q c t = 0
        ∧ t.dch q c = dmaIdle ∧ SameStores s t ∧ RegsKept q s t [R.DMA_CH_CMD c, R.DMA_CH_STATUS c, R.DMA_CH_PROGRESS c]))
    ∧ (∀ code : BitVec 4, 6 ≤ code.toNat → Does (.dmaCmdReserved c code) s (fun t =>
        t.get q (R.DMA_CH_STATUS c) F.DMA_CH_STATUS_REFUSE = 3 ∧ t.flagged q (bDMA c) 7
        ∧ Keeps q s t ([R.DMA_CH_CMD c, R.DMA_CH_STATUS c] ++ flagSlots (bDMA c) 7)))
    ∧ (dmaState q c s = 0 ∨ dmaState q c s = 4 ∨ dmaState q c s = 5 → ∀ v : Word, Does (.dmaCfgWrite c true v) s (fun t =>
        t.rd q (R.DMA_CH_RING c) = v ∧ Keeps q s t [R.DMA_CH_RING c])
      ∧ Does (.dmaCfgWrite c false v) s (fun t => (∀ f ∈ [F.DMA_CH_CFG_PRIO, F.DMA_CH_CFG_REQ, F.DMA_CH_CFG_PACED,
          F.DMA_CH_CFG_CONT_ON_ERR, F.DMA_CH_CFG_BURST_M1, F.DMA_CH_CFG_RING_LOG2], dmaCfg q c f t = f.get v)
        ∧ Keeps q s t [R.DMA_CH_CFG c, R.DMA_CH_REQ c]))
    ∧ (dmaState q c s = 1 → ∀ (ring : Bool) (v : Word), Does (.dmaCfgWrite c ring v) s (fun t =>
        t.get q (R.DMA_CH_STATUS c) F.DMA_CH_STATUS_REFUSE = 4 ∧ t.flagged q (bDMA c) 7
        ∧ Keeps q s t (R.DMA_CH_STATUS c :: flagSlots (bDMA c) 7))))

/-- Bursts: the channel granted issues its next words, at most BURST_M1 + 1 of them, and none in the swap window; one that HOST
acknowledges has sent its words to the host in Memory Writes, one that PLANE acknowledges has stored them and nothing else, and
one that HOST answers with an error leaves the first failed word noted, while other bursts of the Bobbin are in flight (R417,
R419, R420, R425, R497). It rests on the model's readings in log entries 7, 86, 138. -/
def Obligations.BurstsAreIssuedAndAnswered : Prop :=
  ∀ (q : Plane) (s : State) (c : Fin 64) (b : Bobbin), s.chanter = some q → c.val < (s.dma q).chs.length →
    (s.dch q c).bob = some b → (∀ d : Fin 64, dmaState q d s ≠ 3) →
    let shown := [R.DMA_STATUS, R.HIF_LINK, R.DMA_STALL, R.HIF_NP_STALL, R.DMA_CH_PROGRESS c]
    ((s.dma q).hold = false → (s.dma q).bursts = [] → burstPick q s = some c.val → b.space false = 0 → b.space true = 0 →
      domBusy (3 + 4 * q.code) s = false → dmaCfg q c F.DMA_CH_CFG_PACED s = 0 →
      (s.dch q c).issued < b.count → (s.plane q).store.bad = [] →
      Does .burstIssue s (fun t =>
        let n := min (dmaCfg q c F.DMA_CH_CFG_BURST_M1 s + 1) (b.count - (s.dch q c).issued)
        (t.dch q c).issued = (s.dch q c).issued + n
        ∧ (t.dma q).bursts
          = [⟨c, (s.dch q c).issued, n, s.swords q (b.addr false + (s.dch q c).issued) n, false, 0⟩]
        ∧ t.dg R.HIF_LINK F.HIF_LINK_TAGS = 0 ∧ SameStores s t ∧ RegsKept q s t [R.DMA_STATUS, R.HIF_LINK, R.DMA_CH_PROGRESS c]))
    ∧ ((s.dma q).hold = true → Does .burstIssue s (fun t => Keeps q s t []))
    ∧ (∀ (u : Burst) (rest : List Burst) (data : Beats), popBurst q c s = some (u, rest) →
        bitN b.w0.toNat 33 = false → (rest.filter (fun x => x.ch == c.val)) ≠ [] → (∀ d, nth s.bel.deferred d none = none) →
        (b.space true = 1 → let ws := ackWords b u data
          ws ≠ [] → u.len ≤ ws.length → Does (.burstAck c data) s (fun t =>
            (t.dch q c).acked = (s.dch q c).acked + u.len ∧ (t.dma q).bursts = rest
            ∧ t.hif.out = (writeReqs (b.addr true + hostOfs b.pack u.first) (hostBytes b.pack u.first (s.dch q c).tail ws) s).reverse
                ++ s.hif.out
            ∧ SameStores s t ∧ RegsKept q s t shown))
        ∧ (b.space true = 0 → let ws := ackWords b u data
          let a := b.addr true + u.first
          u.len ≤ ws.length → a + ws.length ≤ storeWords → (s.plane q).store.bad = [] → Does (.burstAck c data) s (fun t =>
            (t.dch q c).acked = (s.dch q c).acked + u.len ∧ (t.dma q).bursts = rest
            ∧ (∀ i, i < ws.length → t.sw q (a + i) = nth ws i 0)
            ∧ (∀ p i, (p ≠ q ∨ i < a ∨ a + ws.length ≤ i) → t.sw p i = s.sw p i) ∧ t.hif.out = s.hif.out
            ∧ RegsKept q s t shown))
        ∧ (b.space true = 1 → let ws := beatWords b u data
          Does (.dmaErrorResponse c true data) s (fun t =>
            (t.dch q c).err = noteErr (s.dch q c).err (if (s.dch q c).issued = b.count then 5 else 3) (u.first + ws.length)
            ∧ t.hif.out = (if ws = [] then []
                else (writeReqs (b.addr true + hostOfs b.pack u.first) (hostBytes b.pack u.first (s.dch q c).tail ws) s).reverse)
              ++ s.hif.out
            ∧ (t.dma q).bursts = rest ∧ SameStores s t ∧ RegsKept q s t shown)))

/-- The event matrix: an asserted event is counted; without an enabled route nothing else follows; one routed to a DMA request
line raises its count, one routed to a trigger output is on its way there; one routed to a vector that is neither masked nor in
holdoff sends its message and wakes PORT_HOST; the end of a holdoff sends the message that it held and begins the next, or just
ends it; a route in range is written whole, and one out of range is refused and kept (R475, R476, R478). It rests on the model's
readings in log entries 2, 14. -/
def Obligations.EventsAreCountedAndRouted : Prop :=
  ∀ s : State,
    (∀ es : List (Fin 256), es.Nodup → (∀ e ∈ es, s.dg (R.EVM_ROUTE e) F.EVM_ROUTE_EN = 0) → Does (.eventAssertion es) s (fun t =>
      (∀ e ∈ es, t.rd .a (R.EVM_SRC_CNT e) = s.rd .a (R.EVM_SRC_CNT e) + 1)
      ∧ Keeps .a s t (es.map (fun e => R.EVM_SRC_CNT e))))
    ∧ (∀ (q : Plane) (e : Fin 256) (l : Nat), routeOf e s = some (2, l) → s.chanter = some q → l < (s.dma q).lines.length →
      nth (s.dma q).lines l 0 < 65535 → Does (.eventAssertion [e]) s (fun t =>
        nth (t.dma q).lines l 0 = nth (s.dma q).lines l 0 + 1 ∧ t.rd .a (R.EVM_SRC_CNT e) = s.rd .a (R.EVM_SRC_CNT e) + 1
        ∧ SameStores s t ∧ RegsKept q s t (R.EVM_SRC_CNT e :: (List.range 64).map R.DMA_CH_REQ)))
    ∧ (∀ (e : Fin 256) (k : Nat), routeOf e s = some (3, k) → Does (.eventAssertion [e]) s (fun t =>
      t.evm.trig = s.evm.trig ++ [k] ∧ t.rd .a (R.EVM_SRC_CNT e) = s.rd .a (R.EVM_SRC_CNT e) + 1 ∧ SameStores s t
      ∧ RegsKept .a s t [R.EVM_SRC_CNT e]))
    ∧ (∀ (e : Fin 256) (v : Nat), routeOf e s = some (0, v) → s.dg R.EVM_STATUS F.EVM_STATUS_MSIX_EN = 1 → vecMasked v s = false →
      v < 64 → s.dg (R.EVM_VEC_CFG v) F.EVM_VEC_CFG_HOLDOFF_RUN = 0 → s.dg (R.EVM_VEC_CFG v) F.EVM_VEC_CFG_HOLDOFF_US = 0 →
      Does (.eventAssertion [e]) s (fun t => t.evm.sent = v :: s.evm.sent ∧ t.rd .a (R.EVM_VEC_CNT v) = s.rd .a (R.EVM_VEC_CNT v) + 1
        ∧ SameStores s t ∧ RegsKept .a s t [R.EVM_SRC_CNT e, R.EVM_VEC_CNT v]))
    ∧ (∀ v : Fin 64, let cfg := R.EVM_VEC_CFG v
      (s.dg cfg F.EVM_VEC_CFG_HOLDOFF_RUN = 0 → Does (.msixHoldoffEnd v) s (fun t => Keeps .a s t []))
      ∧ (s.dg cfg F.EVM_VEC_CFG_HOLDOFF_RUN = 1 → s.dg cfg F.EVM_VEC_CFG_HOLD_PEND = 0 → Does (.msixHoldoffEnd v) s (fun t =>
        t.dg cfg F.EVM_VEC_CFG_HOLDOFF_RUN = 0 ∧ t.now = max s.now (nth s.evm.holdEnd v 0) ∧ t.evm = s.evm ∧ SameStores s t
        ∧ RegsKept .a s t [cfg]))
      ∧ (s.dg cfg F.EVM_VEC_CFG_HOLDOFF_RUN = 1 → s.dg cfg F.EVM_VEC_CFG_HOLD_PEND = 1 → s.dg R.EVM_STATUS F.EVM_STATUS_MSIX_EN = 1 →
        vecMasked v s = false → Does (.msixHoldoffEnd v) s (fun t => t.evm.sent = v.val :: s.evm.sent
        ∧ t.dg cfg F.EVM_VEC_CFG_HOLD_PEND = 0
        ∧ t.dg cfg F.EVM_VEC_CFG_HOLDOFF_RUN = b2n (decide (s.dg cfg F.EVM_VEC_CFG_HOLDOFF_US ≠ 0))
        ∧ t.rd .a (R.EVM_VEC_CNT v) = s.rd .a (R.EVM_VEC_CNT v) + 1 ∧ SameStores s t ∧ RegsKept .a s t [cfg, R.EVM_VEC_CNT v])))
    ∧ (∀ (e : Fin 256) (v : Word), routeOk v = true → Does (.evmRouteWrite e v) s (fun t =>
      t.dg (R.EVM_ROUTE e) F.EVM_ROUTE_EN = F.EVM_ROUTE_EN.get v ∧ t.dg (R.EVM_ROUTE e) F.EVM_ROUTE_KIND = F.EVM_ROUTE_KIND.get v
      ∧ t.dg (R.EVM_ROUTE e) F.EVM_ROUTE_TARGET = F.EVM_ROUTE_TARGET.get v ∧ Keeps .a s t [R.EVM_ROUTE e]))
    ∧ (∀ (e : Fin 256) (v : Word), routeOk v = false → Does (.evmRouteWrite e v) s (fun t =>
      t.dg R.EVM_STATUS F.EVM_STATUS_REFUSE = 1 ∧ t.flagged .a bEVM 2 ∧ Keeps .a s t [R.EVM_STATUS, R.EVM_FLAGS, R.EVM_FLAG_CNT]))

/-- A machine check of the Chanter, and a check of both heartbeat paths that finds neither, hand the grant to an eligible Drone
in the next epoch; the failed plane recovers, or is retired at its third fault (R362, R364, R372, R373, R374, R382). It rests on
the model's readings in log entries 2, 83, 84, 124. -/
def Obligations.FaultsHandTheGrantToTheDrone : Prop :=
  ∀ (q : Plane) (s : State), s.chanter = some q → eligible q.other true s = true →
    let Handed := fun (cause : Nat) (t : State) => t.chanter = some q.other ∧ planeState q.other t = 1
      ∧ (planeState q t = 4 ∨ planeState q t = 5) ∧ (t.ward q).inReset = true ∧ (t.ward q).interlock = false
      ∧ (t.ward q.other).interlock = true
      ∧ t.dg R.RED_EPOCH F.RED_EPOCH_EPOCH = (s.dg R.RED_EPOCH F.RED_EPOCH_EPOCH + 1) % 2 ^ 32
      ∧ t.dg R.RED_LAST_SW F.RED_LAST_SW_CAUSE = cause ∧ t.dg R.RED_LAST_SW F.RED_LAST_SW_FROM = q.code ∧ t.red.readyAt = none
    ((s.ward q).mchk = true → ∀ cause : BitVec 4, Does (.machineCheckLine q cause) s (Handed 2))
    ∧ (s.red.readyAt ≠ none → s.red.firstCycle < s.n → s.red.pathP = false → (s.ward q).toggled = false →
      Does .heartbeatCheck s (Handed 1))

/-- A planned swap: the swap due is announced and stops the engine's bursts, and when the Drone has applied the commit the grant
changes at the decision, in step and without a gap; without its report the Chanter stays (R379, R425). The Warden's commands and
watches: SUSPEND and RESUME_SWAPS set and clear SUSPENDED; RETIRE and a resynchronisation of 60 s retire a plane that is not the
Chanter, READMIT recovers it; a request that is not the Chanter's in the current epoch, or carries epoch 0, is counted and
otherwise ignored, and one that the link of a plane without its interlock discards is not even counted; a reserved code is
refused with REFUSE = 0x5 (R32, R364, R365, R380, R382, R383, R385). It rests on the model's readings in log entries 2, 84. -/
def Obligations.PlannedSwapsAndRetirement : Prop :=
  (∀ (q : Plane) (s : State), s.chanter = some q →
    (∀ cause, swapDue s = some cause → Does .swapAnnounce s (fun t => (t.dma q).hold = true ∧ t.red.announced = true ∧ SameStores s t
      ∧ RegsKept q s t []))
    ∧ (s.red.swapSent = true → s.red.applied = some s.red.lastCommit → eligible q.other false s = true → (s.ward q).mchk = false →
      Does .swapDecision s (fun t => t.chanter = some q.other ∧ planeState q t = 2 ∧ planeState q.other t = 1
        ∧ t.dg R.RED_EPOCH F.RED_EPOCH_EPOCH = (s.dg R.RED_EPOCH F.RED_EPOCH_EPOCH + 1) % 2 ^ 32 ∧ t.flagged .a bRED 1
        ∧ t.dg R.RED_LAST_SW F.RED_LAST_SW_FROM = q.code ∧ t.dg R.RED_LAST_SW F.RED_LAST_SW_GAP = 0))
    ∧ (s.red.swapSent = true → s.red.applied ≠ some s.red.lastCommit →
      Does .swapDecision s (fun t => t.chanter = some q ∧ t.flagged .a bRED 2 ∧ t.red.swapSent = false ∧ t.red.due = none
        ∧ (t.dma q).hold = false ∧ SameStores s t ∧ RegsKept q s t (flagSlots bRED 2)))
    ∧ Does .swapPeriodBoundary s (fun t => t.dg R.RED_STATUS F.RED_STATUS_SCHED = (scheduled (periodOf s) s).code
        ∧ t.red.period = periodOf s ∧ SameStores s t ∧ RegsKept q s t (R.RED_STATUS :: flagSlots bRED 3))
    ∧ (native s = true → eligible q.other false s = true → Does .swapNow s (fun t => t.red.hostSwap = true ∧ SameStores s t
        ∧ RegsKept q s t [R.RED_CMD])))
  ∧ (∀ (q : Plane) (s : State),
    Does .redSuspend s (fun t => t.dg R.RED_STATUS F.RED_STATUS_SUSPENDED = 1 ∧ Keeps q s t [R.RED_CMD, R.RED_STATUS])
    ∧ Does .resumeSwaps s (fun t => t.dg R.RED_STATUS F.RED_STATUS_SUSPENDED = 0 ∧ Keeps q s t [R.RED_CMD, R.RED_STATUS])
    ∧ (∀ code : BitVec 4, 6 ≤ code.toNat → Does (.redCmdReserved code) s (fun t => t.dg R.RED_STATUS F.RED_STATUS_REFUSE = 5
        ∧ t.flagged .a bRED 13 ∧ Keeps q s t ([R.RED_CMD, R.RED_STATUS] ++ flagSlots bRED 13)))
    ∧ (s.chanter ≠ some q → planeState q s ≠ 5 → Does (.redRetire q) s (fun t => planeState q t = 5
        ∧ t.dg R.RED_STATUS F.RED_STATUS_SIMPLEX = 1 ∧ (t.ward q).inReset = true ∧ (t.ward q).interlock = false ∧ SameStores s t))
    ∧ (planeState q s = 3 → Does (.resyncTimeout q) s (fun t => planeState q t = 5
        ∧ t.now = max s.now ((s.ward q).since + 60 * 10 ^ 12)
        ∧ t.dg R.RED_STATUS F.RED_STATUS_SIMPLEX = 1 ∧ (t.ward q).inReset = true ∧ (t.ward q).interlock = false ∧ SameStores s t))
    ∧ (planeState q s = 5 → (s.ward q).unusable = false → s.dg R.RED_STATUS F.RED_STATUS_HALT = 0 →
        Does (.redReadmit q) s (fun t => planeState q t = 4 ∧ (t.ward q).inReset = true ∧ (t.ward q).holdNext = true ∧ SameStores s t))
    ∧ (s.dg (R.RED_PLANE q.code) F.RED_PLANE_HOLDOFF = 1 → Does (.holdoffEnd q) s (fun t =>
        t.dg (R.RED_PLANE q.code) F.RED_PLANE_HOLDOFF = 0 ∧ t.now = max s.now ((s.ward q).since + holdoffPs s)
        ∧ SameStores s t ∧ RegsKept q s t [R.RED_PLANE q.code]))
    ∧ (s.dg (R.RED_PLANE q.code) F.RED_PLANE_HOLDOFF ≠ 1 → Does (.holdoffEnd q) s (fun t => Keeps q s t []))
    ∧ (∀ (stage : Stage) (epoch : BitVec 32) (passed : Bool),
        (s.chanter = some q → epoch.toNat = s.dg R.RED_EPOCH F.RED_EPOCH_EPOCH → epoch ≠ 0 →
          Does (.outputStageRequest stage q ⟨epoch, passed⟩) s (fun t => Keeps q s t []))
        ∧ (linkDrops q stage s = true → Does (.outputStageRequest stage q ⟨epoch, false⟩) s (fun t => Keeps q s t []))
        ∧ (s.chanter ≠ some q ∨ epoch.toNat ≠ s.dg R.RED_EPOCH F.RED_EPOCH_EPOCH ∨ epoch = 0 → passed = true ∨ linkDrops q stage s = false →
          Does (.outputStageRequest stage q ⟨epoch, passed⟩) s (fun t => Keeps q s t [R.RED_REJECT stage.num]
            ∧ t.dg (R.RED_REJECT stage.num) F.RED_REJECT_COUNT
              = satAdd F.RED_REJECT_COUNT.width (s.dg (R.RED_REJECT stage.num) F.RED_REJECT_COUNT) 1))))

/-- What one plane shows and checks of itself: TEST declares a machine check with its cause, a reserved PLANE_CMD is refused
with REFUSE = 0x5; a takeover that is ready names its first cycle; in compatibility mode the Drone's passed self-test is
counted; a segment of the replicated store is written while no channel is closed and the set keeps the rules (R367, R373, R374,
R384, R386). It rests on the model's readings in log entry 2. -/
def Obligations.PlanesReportAndAreConfigured : Prop :=
  ∀ (q : Plane) (s : State),
    (s.get q R.RDB_STATUS F.RDB_STATUS_STATE = 0 → Does (.mchkTest q) s (fun t =>
      t.get q R.PLANE_MCHK F.PLANE_MCHK_CAUSE = 8 ∧ t.dg (R.RED_PLANE q.code) F.RED_PLANE_MCHK = 8 ∧ (t.ward q).mchk = true
      ∧ t.flagged q bPLANE 0 ∧ SameStores s t
      ∧ RegsKept q s t ([R.PLANE_CMD, R.PLANE_MCHK, R.RED_PLANE q.code] ++ flagSlots bPLANE 0)))
    ∧ (∀ code : BitVec 4, 2 ≤ code.toNat → Does (.planeCmdReserved q code) s (fun t =>
        t.get q R.PLANE_STATUS F.PLANE_STATUS_REFUSE = 5 ∧ t.flagged q bPLANE 1
        ∧ Keeps q s t ([R.PLANE_CMD, R.PLANE_STATUS] ++ flagSlots bPLANE 1)))
    ∧ (∀ at' : Nat, s.chanter = some q → s.red.readyAt = none → Does (.takeoverReady at') s (fun t =>
        t.red.readyAt = some (max s.now at') ∧ t.now = max s.now at'
        ∧ t.red.firstCycle = (if t.now ≤ s.atOfs R.TIM_CYC_ACT_FB_DEADLINE then s.n else s.n + 1)
        ∧ SameStores s t ∧ RegsKept q s t [R.RED_LAST_SW]))
    ∧ (s.chanter = some q → native s = false → planeState q.other s = 2 → Does (.healthPassDone true) s (fun t =>
        t.dg (R.RED_HEALTH q.other.code) F.RED_HEALTH_PASSES
          = satAdd F.RED_HEALTH_PASSES.width (s.dg (R.RED_HEALTH q.other.code) F.RED_HEALTH_PASSES) 1
        ∧ t.dg (R.RED_HEALTH q.other.code) F.RED_HEALTH_LAST_PASS = 1 ∧ SameStores s t
        ∧ RegsKept q s t [R.RED_HEALTH q.other.code]))
    ∧ (∀ (g : Fin 16) (v : Word), s.chanter = some q → s.anyClosed = false →
        segCheck (segWritten q (s.put q (R.PLANE_REPL_SIZE g) F.PLANE_REPL_SIZE_WORDS (F.PLANE_REPL_SIZE_WORDS.get v))) = 0 →
        Does (.replSegmentWrite g true v) s (fun t =>
          t.get q (R.PLANE_REPL_SIZE g) F.PLANE_REPL_SIZE_WORDS = F.PLANE_REPL_SIZE_WORDS.get v ∧ Keeps q s t [R.PLANE_REPL_SIZE g]))
    ∧ (∀ (g : Fin 16) (v : Word), s.chanter = some q → s.anyClosed = false →
        segCheck (segWritten q (s.put q (R.PLANE_REPL_BASE g) F.PLANE_REPL_BASE_ADDR (F.PLANE_REPL_BASE_ADDR.get v))) = 0 →
        Does (.replSegmentWrite g false v) s (fun t =>
          t.get q (R.PLANE_REPL_BASE g) F.PLANE_REPL_BASE_ADDR = F.PLANE_REPL_BASE_ADDR.get v ∧ Keeps q s t [R.PLANE_REPL_BASE g]))
    ∧ (∀ (g : Fin 16) (size : Bool) (v : Word), s.chanter = some q → s.anyClosed = true → Does (.replSegmentWrite g size v) s (fun t =>
          t.get q R.PLANE_STATUS F.PLANE_STATUS_REFUSE = 1 ∧ t.flagged q bPLANE 1
          ∧ Keeps q s t ([R.PLANE_STATUS] ++ flagSlots bPLANE 1)))

/-- The copy over XLK: the oldest dirty line leaves with its words while the budget lasts, the Drone takes it in place and keeps
its old contents in the undo log, a Breath with a good CRC applies the commit where COMPLETE = 1 and counts on path P alone
where it is 0, the sweep sends its next line out of what the budget left, and a flush that is late leaves the copy incomplete
(R368, R369, R370, R372, R381). It rests on the model's readings in log entries 7, 25, 83, 89. -/
def Obligations.CopyLinesCrossXlk : Prop :=
  ∀ (q : Plane) (s : State), s.chanter = some q →
    (∀ line rest, xlkFailed s = false → (s.plane q).xlk.exceeded = false → beforeCommit s = true →
      (s.plane q).xlk.dirty = line :: rest →
      (s.plane q).xlk.sent + 8 ≤ copyBudget s → s.poisoned q (8 * line) 8 = false →
      Does .copyLineSend s (fun t => t.xlk = s.xlk ++ [.line line (s.swords q (8 * line) 8)] ∧ (t.plane q).xlk.dirty = rest
        ∧ (t.plane q).xlk.sent = (s.plane q).xlk.sent + 8 ∧ SameStores s t ∧ RegsKept q s t []))
    ∧ (∀ line, let x := (s.plane q).xlk
      xlkFailed s = false → x.exceeded = false → beforeCommit s = false ∨ x.dirty = [] → x.sweeping = true → 8 ≤ x.room →
      sweepLine (sweepSegs q s) x.swept = some line → s.poisoned q (8 * line) 8 = false →
      Does .copyLineSend s (fun t => t.xlk = s.xlk ++ [.line line (s.swords q (8 * line) 8)]
        ∧ (t.plane q).xlk.swept = x.swept + 1 ∧ (t.plane q).xlk.room = x.room - 8 ∧ SameStores s t ∧ RegsKept q s t [R.XLK_RESYNC]))
    ∧ (∀ line ws rest, s.xlk = .line line ws :: rest → planeState q.other s = 2 ∨ planeState q.other s = 3 → ws.length = 8 →
      (s.plane q.other).xlk.undo = [] →
      Does .copyLineReceived s (fun t => t.xlk = rest ∧ t.swords q.other (8 * line) 8 = ws
        ∧ (t.plane q.other).xlk.undo = [(line, s.swords q.other (8 * line) 8)]
        ∧ (∀ p a, (p = q ∨ a / 8 ≠ line) → t.sw p a = s.sw p a) ∧ RegsKept q.other s t [R.XLK_UNDO]))
    ∧ (∀ ws rest, s.xlk = .breath ws :: rest → planeState q.other s = 2 → bitN (nth ws 0 0).toNat 18 = false →
      Does (.breathReceived true) s (fun t => t.xlk = rest ∧ t.red.pathP = true ∧ SameStores s t ∧ RegsKept q s t [])
      ∧ Does (.breathReceived false) s (fun t => t.xlk = rest ∧ t.red.pathP = s.red.pathP ∧ SameStores s t ∧ RegsKept q s t []))
    ∧ (∀ ws rest, s.xlk = .breath ws :: rest → planeState q.other s = 2 → bitN (nth ws 0 0).toNat 18 = true →
      Does (.breathReceived true) s (fun t => t.xlk = rest ∧ t.red.pathP = true
        ∧ t.red.applied = some (of72 (nth ws 2 0) (nth ws 3 0)) ∧ (t.ward q.other).toggled = true
        ∧ (t.plane q.other).xlk.undo = [] ∧ (t.plane q.other).staged = none ∧ planeState q.other t = 2))
    ∧ (∀ ws, s.xlk = [.breath ws] → planeState q.other s = 4 → Does .flushLate s (fun t =>
        t.get q R.XLK_STATUS F.XLK_STATUS_LAST_COMPLETE = 0 ∧ t.flagged q bXLK 0 ∧ t.flagged q bXLK 3
        ∧ (t.plane q).xlk.complete = false ∧ SameStores s t
        ∧ RegsKept q s t (R.XLK_STATUS :: flagSlots bXLK 0 ++ flagSlots bXLK 3)))

/-- Power domains: an idle domain begins its entry to the state chosen, unless a burst in flight defers it; a finished entry
shows that state; a wake request or the time of the next scheduled action begins the exit of a domain below RUN; each reading of
a die's temperature is shown (R423, R468, R469, R471, R473). A domain that comes up is in RUN, its exit is counted, its wake is
done, and the longest wait is kept; a write that was held for it is done, and channels of the DMA engine that waited for it go
on. Where the domain was not waking, nothing happens (R423, R468, R471, R495). It rests on the model's readings in log entries
17, 20, 24, 88. -/
def Obligations.DomainsEnterAndWake : Prop :=
  (∀ (d : Fin 12) (s : State), s.bel.entering.length = 12 → s.bel.deferred.length = 12 →
    (∀ next : Nat, let k := chooseWithin d (min (min (maxDepth d s) (deepestOf d)) (floorOf d s)) next s
      belControls d s = true → nth s.bel.wake d none = none → s.dom d < k → k < 8 →
      (dmaUses d s = [] → Does (.domainPowerDown d next) s (fun t =>
        nth t.bel.entering d none = some k ∧ t.dg (R.BEL_DOM_STATUS d) F.BEL_DOM_STATUS_CHOSEN = k ∧ SameStores s t
        ∧ RegsKept .a s t [R.BEL_DOM_STATUS d]))
      ∧ ((dmaUses d s).any (·.flying) = true → Does (.domainPowerDown d next) s (fun t =>
        nth t.bel.entering d none = nth s.bel.entering d none ∧ nth t.bel.deferred d none = some k ∧ t.flagged .a bBEL 1
        ∧ t.dg (R.BEL_DOM_STATUS d) F.BEL_DOM_STATUS_CHOSEN = k ∧ SameStores s t)))
    ∧ (∀ next : Nat, belControls d s = false → Does (.domainPowerDown d next) s (fun t => Keeps .a s t []))
    ∧ (∀ k : Nat, nth s.bel.entering d none = some k → k < 8 → Does (.domainEntryDone d) s (fun t => t.dom d = k
        ∧ nth t.bel.entering d none = none ∧ SameStores s t ∧ RegsKept .a s t [R.BEL_DOM_STATUS d]))
    ∧ (∀ cmd : Instr, (cmd = .domainWakeRequest d ∨ cmd = .wakeTime d) → 1 ≤ s.dom d → s.dom d ≤ 4 →
        s.bel.wake.length = 12 → Does cmd s (fun t => (nth t.bel.wake d none).isSome = true ∧ nth t.bel.entering d none = none
          ∧ SameStores s t ∧ (∀ p r, r ∉ (List.range 64).map R.DMA_CH_STATUS → t.rd p r = s.rd p r)))
    ∧ (∀ (die : Fin 8) (x : BitVec 12), Does (.thermalReading die x) s (fun t => t.dg (R.BEL_THERM die) F.BEL_THERM_TEMP = x.toNat
        ∧ signedOf 12 (t.dg (R.BEL_THERM die) F.BEL_THERM_MAX) = max (signedOf 12 (s.dg (R.BEL_THERM die) F.BEL_THERM_MAX)) x.toInt
        ∧ SameStores s t ∧ RegsKept .a s t (R.BEL_THERM die :: flagSlots bBEL 2))))
  ∧ (∀ (d : Fin 12) (ns : Nat) (s : State),
    (∀ t0, nth s.bel.wake d none = some t0 → s.bel.wake.length = 12 →
      let Up := fun t : State => t.dom d = 0 ∧ nth t.bel.wake d none = none ∧ t.now = max s.now (t0 + 1000 * ns)
        ∧ t.dg (R.BEL_DOM_EXITS d) F.BEL_DOM_EXITS_VALUE
          = satAdd F.BEL_DOM_EXITS_VALUE.width (s.dg (R.BEL_DOM_EXITS d) F.BEL_DOM_EXITS_VALUE) 1
        ∧ t.dg (R.BEL_DOM_WAIT_MAX d) F.BEL_DOM_WAIT_MAX_VALUE
          = min (max ns (s.dg (R.BEL_DOM_WAIT_MAX d) F.BEL_DOM_WAIT_MAX_VALUE)) (2 ^ 36 - 1)
        ∧ (s.dg (R.BEL_DOM_CFG d) F.BEL_DOM_CFG_TOL_NS < ns → t.flagged .a bBEL 0) ∧ SameStores s t
      let Others := fun (k : Nat) => k ∉ [R.BEL_DOM_STATUS d, R.BEL_DOM_EXITS d, R.BEL_DOM_WAIT_MAX d] ++ flagSlots bBEL 0
        ∧ ∀ c : Fin 64, k ≠ R.DMA_CH_STATUS c
      (s.bel.held = [] → Does (.domainExitDone d ns) s (fun t => Up t ∧ ∀ p k, Others k → t.rd p k = s.rd p k))
      ∧ (∀ k q v, s.bel.held = [.write k q v] → domainOf q (keyOf k) = some d.val → plainKey (keyOf k) = true →
        isReg (keyOf k) = true → discards q (keyOf k) s = false → Does (.domainExitDone d ns) s (fun t => Up t ∧ t.bel.held = []
          ∧ t.rd q (keyOf k) = wordWrite (regFields (keyOf k)) (s.rd q (keyOf k)) v
          ∧ ∀ p j, Others j → (j ≠ keyOf k ∨ (isDev j = false ∧ p ≠ q)) → t.rd p j = s.rd p j)))
    ∧ (nth s.bel.wake d none = none → Does (.domainExitDone d ns) s (fun t => Keeps .a s t [])))

/-- Links, beacons, rails: a flit that fails is retried up to four times and counted, and then its link has failed: a plane's
own link is its machine check, a shared one a device link fault, and XLK is lost with path P; an island's missed beacons are
counted, the eighth in a row raises BEACON_MISS with its number and the 64th TIME_LOST, a plane's machine check; a rail of the
Chanter that fails hands the grant over; rails and the reference clock come and go (R29, R30, R48, R509). It rests on the
model's readings in log entries 11, 32, 122, 127. -/
def Obligations.LinksBeaconsAndRails : Prop :=
  ∀ s : State,
    (∀ (l : Link) (n : Nat), n < 4 → l ≠ .xlk → s.links.length = 15 → Does (.flitCrcFail l n) s (fun t =>
      (nth t.links l.num ⟨0, false⟩).retries = (nth s.links l.num ⟨0, false⟩).retries + 1
      ∧ (nth t.links l.num ⟨0, false⟩).failed = (nth s.links l.num ⟨0, false⟩).failed ∧ SameStores s t ∧ RegsKept .a s t []))
    ∧ (∀ (q : Plane) (n : Nat), n < 4 → (s.ward q).inReset = false → Does (.flitCrcFail .xlk n) s (fun t =>
      t.get q R.XLK_RETRY F.XLK_RETRY_COUNT = satAdd F.XLK_RETRY_COUNT.width (s.get q R.XLK_RETRY F.XLK_RETRY_COUNT) 1
      ∧ SameStores s t))
    ∧ (∀ (l : Link) (n : Nat), 4 ≤ n → s.links.length = 15 → (nth s.links l.num ⟨0, false⟩).failed = false →
      (∀ q, linkPlane l = some q → planeState q s ≠ 5 → Does (.flitCrcFail l n) s (fun t =>
        (nth t.links l.num ⟨0, false⟩).failed = true ∧ t.get q R.PLANE_MCHK F.PLANE_MCHK_CAUSE = 1 ∧ (t.ward q).mchk = true
        ∧ SameStores s t))
      ∧ (linkPlane l = none → l ≠ .xlk → Does (.flitCrcFail l n) s (fun t =>
        (nth t.links l.num ⟨0, false⟩).failed = true ∧ t.red.linkFault = true))
      ∧ (∀ q, l = .xlk → s.chanter = some q → planeState q.other s ≠ 2 → Does (.flitCrcFail l n) s (fun t =>
        (nth t.links l.num ⟨0, false⟩).failed = true ∧ t.xlk = [] ∧ t.dg (R.RED_PLANE q.code) F.RED_PLANE_PATH_P_OK = 0
        ∧ t.flagged .a bRED 4 ∧ SameStores s t)))
    ∧ (∀ i : Fin 40, s.cyc.miss.length = 40 →
      let m := nth s.cyc.miss i 0
      (hearsBeacons i s = false → Does (.beaconMissed i) s (fun t => Keeps .a s t []))
      ∧ (hearsBeacons i s = true →
        (nth s.cyc.good i 0 = 0 → m ≠ 7 → m ≠ 63 → Does (.beaconMissed i) s (fun t =>
          nth t.cyc.miss i 0 = m + 1 ∧ SameStores s t ∧ RegsKept .a s t []))
        ∧ (nth s.cyc.good i 0 ≠ 0 → m < 64 → Does (.beaconMissed i) s (fun t =>
          nth t.cyc.miss i 0 = 1 ∧ SameStores s t ∧ RegsKept .a s t []))
        ∧ (nth s.cyc.good i 0 = 0 → m = 7 → Does (.beaconMissed i) s (fun t =>
          t.dg R.TIM_CYC_STATUS F.TIM_CYC_STATUS_LAST_ISLAND = i ∧ t.get .a R.TIM_CYC_FLAGS ⟨0, 0⟩ = 1 ∧ SameStores s t))
        ∧ (∀ q, nth s.cyc.good i 0 = 0 → m = 63 → islandPlane i = some q → Does (.beaconMissed i) s (fun t =>
          t.get .a R.TIM_CYC_FLAGS ⟨1, 1⟩ = 1 ∧ t.get q R.PLANE_MCHK F.PLANE_MCHK_CAUSE = 2 ∧ (t.ward q).mchk = true
          ∧ SameStores s t))))
    ∧ (∀ q : Plane, railOk q s = true → s.chanter ≠ some q → planeState q s = 5 → Does (.planeRailFault q) s (fun t =>
      railOk q t = false ∧ SameStores s t ∧ RegsKept q s t []))
    ∧ (∀ q : Plane, railOk q s = true → s.chanter = some q → eligible q.other true s = true → Does (.planeRailFault q) s (fun t =>
      railOk q t = false ∧ t.chanter = some q.other ∧ planeState q.other t = 1 ∧ (planeState q t = 4 ∨ planeState q t = 5)
      ∧ (t.ward q).inReset = true ∧ (t.ward q).interlock = false ∧ (t.ward q.other).interlock = true))
    ∧ (∀ q : Plane, Does (.planeRailRestored q) s (fun t => railOk q t = true ∧ railOk q.other t = railOk q.other s ∧ SameStores s t
      ∧ RegsKept q s t []))
    ∧ Does .refclkLoss s (fun t => t.boot.refclk = false ∧ SameStores s t ∧ RegsKept .a s t [])
    ∧ (s.boot.up = false → Does .vfieldLow s (fun t => t.fio.ssa = false ∧ SameStores s t
        ∧ (∀ p k, isFio k = false → t.rd p k = s.rd p k)))

/-- Graphs: a node that completes with no operation and no successor only leaves its executor; one that completes with an error
ends a BIST with its plane retired, and so does its TIMEOUT; the last node of a RESYNC leaves its plane in HOLD with its
Prickings loaded; a plane whose reset time has passed leaves reset (R380, R399, R400). It rests on the model's readings in log
entries 2, 60, 61, 80, 81, 82. -/
def Obligations.GraphsEnd : Prop :=
  ∀ (q : Plane) (s : State),
    (∀ (g : GraphSt) (node : Fin 1024) (core : Nat) (err : BitVec 8), (s.plane q).graph = some g → g.kind = 2 → err ≠ 0 → g.running = [(node.val, core)] →
      opOf (nth g.nodes node.val ⟨0, 0, 0, 0, false, 0, []⟩) s ≠ some .storeTest → Does (.graphNodeDone q node err) s (fun t =>
      planeState q t = 5 ∧ (t.ward q).inReset = true ∧ SameStores s t))
    ∧ (∀ (g : GraphSt) (node : Fin 1024) (core : Nat), (s.plane q).graph = some g → g.kind = 3 → g.running = [(node.val, core)] →
      (nth g.nodes node.val ⟨0, 0, 0, 0, false, 0, []⟩).final = true →
      opOf (nth g.nodes node.val ⟨0, 0, 0, 0, false, 0, []⟩) s = none → Does (.graphNodeDone q node 0) s (fun t =>
      t.get q R.SCH_STATUS F.SCH_STATUS_MODE = 2 ∧ t.get q R.SCH_STATUS F.SCH_STATUS_GRAPH_STATE = 2 ∧ (t.plane q).graph = none
      ∧ (t.plane q).xlk.loaded = true ∧ t.flagged q bSCH 4 ∧ SameStores s t))
    ∧ (∀ g : GraphSt, (s.plane q).graph = some g → g.kind = 2 → Does (.graphTimeout q) s (fun t => planeState q t = 5 ∧ (t.ward q).inReset = true ∧ (t.plane q).graph = none
      ∧ max s.now (g.start + g.timeout) = t.now ∧ SameStores s t))
    ∧ (∀ (g : GraphSt) (node : Fin 1024) (core : Nat), (s.plane q).graph = some g → g.running = [(node.val, core)] → g.ready = [] →
      let x := nth g.nodes node.val ⟨0, 0, 0, 0, false, 0, []⟩
      x.final = false → x.succ = [] → opOf x s = none → Does (.graphNodeDone q node 0) s (fun t =>
      (t.plane q).graph = some { g with running := [] } ∧ SameStores s t
      ∧ RegsKept q s t ((List.range 8).map R.SCH_CORE_STATUS)))
    ∧ (planeState q s = 4 → (s.ward q).inReset = true → railOk q s = true → (graphLoad s.tab.bist).isSome = true →
      Does (.planeResetRelease q) s (fun t => (t.ward q).inReset = false ∧ planeState q t = 4
        ∧ t.now = max s.now ((s.ward q).since + 10 ^ 9)
        ∧ t.get q R.SCH_STATUS F.SCH_STATUS_MODE = 1 ∧ SameStores s t))

/-- A read TLP, whatever it covers, wakes the domains of the blocks it reads and changes no register and no store word. Where
every one of them is in RUN it returns what each slot reads; where one is below RUN the completion waits for it (R17, R25, R494,
R495). It rests on the model's readings in log entries 20, 28. -/
def Obligations.ReadsChangeNothing : Prop :=
  ∀ (off dws : Nat) (s : State),
    let ks := slotsOf (off / 4) dws
    let woken := each ks (fun k s => touch (slotDomain s.chanter k s) s) s
    Does (.bar0ReadTlp off dws) s (fun t =>
      (if ks.any (fun k => asleep (slotDomain s.chanter k s) s) then
        t.bel.held = s.bel.held ++ [.read off dws s.chanter] ∧ t.hif = s.hif
      else t.hif.cpl = ks.map (fun k => laneOf s.chanter (off / 4) dws k woken) ∧ t.hif.poisoned = false
        ∧ t.hif.latch = s.hif.latch ∧ t.bel.held = s.bel.held)
      ∧ t.evm = s.evm ∧ t.cyc = s.cyc ∧ t.red = s.red ∧ t.pa = s.pa ∧ t.pb = s.pb ∧ t.dev = s.dev
      ∧ t.now = s.now ∧ SameStores s t ∧ RegsKept .a s t [])

/-- What one 64-bit write does to a register without a behaviour of its own, each field under its access code: RW and WO fields
take the written value, W1C bits fall where a 1 is written, a counter byte clears where 0 is written, and a read-only field
keeps its value; a block below RUN is woken, and the write waits for it; a slot that reaches nothing ignores it. BAR0_WRITE_TLP
with both dwords of a slot is that write, and with one of them the write of that half (R13, R14, R15, R16, R25, R494, R495). The
halves of a slot: a 32-bit write of the low half is latched and changes no register; the write of the high half of the register
whose low half is latched, through whichever window, acts as one 64-bit write of both; with another register's or none, the low
bits are the present ones. A dword of the MSI-X table is written by itself (R13, R478, R492). It rests on the model's readings
in log entries 16, 17, 20, 21, 22, 24, 28, 30. -/
def Obligations.RegisterWritesFollowTheAccessCodes : Prop :=
  (∀ (v : Word) (s : State),
    Does (.registerWrite (8 * R.RED_SWAP_PAT_LO) v) s (fun t =>
      t.dg R.RED_SWAP_PAT_LO F.RED_SWAP_PAT_LO_PAT = F.RED_SWAP_PAT_LO_PAT.get v ∧ Keeps .a s t [R.RED_SWAP_PAT_LO])
    ∧ Does (.registerWrite (8 * R.RED_FLAGS) v) s (fun t =>
      (∀ j, j < 15 → t.dg R.RED_FLAGS ⟨j, j⟩ = if bitN v.toNat j then 0 else s.dg R.RED_FLAGS ⟨j, j⟩) ∧ Keeps .a s t [R.RED_FLAGS])
    ∧ Does (.registerWrite (8 * R.RED_FLAG_CNT0) v) s (fun t =>
      (∀ i, i < 4 → t.dg R.RED_FLAG_CNT0 ⟨8 * i + 7, 8 * i⟩
        = if v.toNat / 2 ^ (8 * i) % 256 = 0 then 0 else s.dg R.RED_FLAG_CNT0 ⟨8 * i + 7, 8 * i⟩) ∧ Keeps .a s t [R.RED_FLAG_CNT0])
    ∧ Does (.registerWrite (8 * R.RED_EPOCH) v) s (fun t => Keeps .a s t [])
    ∧ (∀ (q : Plane) (k : Nat), plainKey (keyOf k) = true → isReg (keyOf k) = true → isMsix k = false → target k s = some q →
        discards q (keyOf k) s = false → Does (.registerWrite (8 * k) v) s (fun t =>
          if asleep (domainOf q (keyOf k)) s then t.bel.held = s.bel.held ++ [.write k q v] ∧ t.hif = s.hif ∧ RegsKept .a s t []
          else t.rd q (keyOf k) = wordWrite (regFields (keyOf k)) (s.rd q (keyOf k)) v ∧ Keeps q s t [keyOf k]))
    ∧ (∀ k, isMsix k = false → target k s = none → Does (.registerWrite (8 * k) v) s (fun t => Keeps .a s t []))
    ∧ (∀ (k : Nat) (lo hi : BitVec 32),
        Does (.bar0WriteTlp (8 * k) [⟨lo, 15⟩]) s (fun t => exec (.writeLowHalf (8 * k) lo) s = .next t)
        ∧ Does (.bar0WriteTlp (8 * k + 4) [⟨hi, 15⟩]) s (fun t => exec (.writeHighHalf (8 * k + 4) hi) s = .next t)
        ∧ (isMsix k = false → Does (.bar0WriteTlp (8 * k) [⟨lo, 15⟩, ⟨hi, 15⟩]) s (fun t =>
          exec (.registerWrite (8 * k) ((hi ++ lo).setWidth 36)) s = .next t)))
    ∧ (∀ (lo hi : BitVec 32), Does (.bar0WriteTlp (8 * R.RED_SWAP_PAT_LO) [⟨lo, 15⟩, ⟨hi, 15⟩]) s (fun t =>
        t.dg R.RED_SWAP_PAT_LO F.RED_SWAP_PAT_LO_PAT = lo.toNat ∧ Keeps .a s t [R.RED_SWAP_PAT_LO])))
  ∧ (∀ (k : Nat) (v : BitVec 32) (s : State),
    let unlatched := { s with hif := { s.hif with latch := none } }
    (isMsix k = false →
      Does (.writeLowHalf (8 * k) v) s (fun t => t.hif = { s.hif with latch := some (latchKey k s, v) } ∧ Keeps .a { s with hif := t.hif } t [])
      ∧ (∀ w : BitVec 32, s.hif.latch = some (latchKey k s, w) → Does (.writeHighHalf (8 * k + 4) v) s (fun t =>
          exec (.registerWrite (8 * k) (v.setWidth 4 ++ w)) unlatched = .next t))
      ∧ ((∀ w : BitVec 32, s.hif.latch ≠ some (latchKey k s, w)) → Does (.writeHighHalf (8 * k + 4) v) s (fun t =>
          exec (.registerWrite (8 * k) (v.setWidth 4 ++ (readSlot k s).setWidth 32)) unlatched = .next t))
      ∧ (∀ w : BitVec 32, s.hif.latch = some (k, w) → k = R.RED_SWAP_PAT_LO → Does (.writeHighHalf (8 * k + 4) v) s (fun t =>
          t.dg R.RED_SWAP_PAT_LO F.RED_SWAP_PAT_LO_PAT = w.toNat ∧ t.hif = { s.hif with latch := none }
          ∧ Keeps .a { s with hif := t.hif } t [R.RED_SWAP_PAT_LO])))
    ∧ (isMsix k = true → s.evm.pba = [] → s.evm.table.length = 64 → (∀ l ∈ s.evm.table, l.length = 4) →
      let Wrote := fun (d : Nat) (t : State) => msixDword d t = v
        ∧ (∀ i, isMsix (i / 2) = true → i ≠ d → msixDword i t = msixDword i s) ∧ t.hif = s.hif ∧ SameStores s t ∧ RegsKept .a s t []
      Does (.writeLowHalf (8 * k) v) s (Wrote (2 * k)) ∧ Does (.writeHighHalf (8 * k + 4) v) s (Wrote (2 * k + 1))))

/-- Writes that are discarded: one with a partial dword, wherever it stands among whole and absent ones, raises BAD_ACCESS and
records its offset; one to a replicated register through the fixed window of a plane without the grant raises WR_DISCARDED,
counts, and records its offset (R492, R494). It rests on the model's readings in log entries 16, 17, 22, 28, 30. -/
def Obligations.DiscardedWritesAreRecorded : Prop :=
  ∀ s : State,
    (∀ (off : Nat) (pre : List HostDword) (x : HostDword) (post : List HostDword), (∀ y ∈ pre, y.be = 0 ∨ y.be = 15) → x.be ≠ 0 →
      x.be ≠ 15 → off % 4 = 0 → off + 4 * pre.length < 2 ^ 26 → Does (.bar0WriteTlp off (pre ++ x :: post)) s (fun t =>
      t.dg R.HIF_BAD_ADDR F.HIF_BAD_ADDR_OFFSET = off + 4 * pre.length ∧ t.flagged .a bHIF 2
      ∧ Keeps .a s t (R.HIF_BAD_ADDR :: flagSlots bHIF 2)))
    ∧ (∀ (q : Plane) (k : Nat) (v : Word), target k s = some q → 0x200000 ≤ k → k < 0x600000 → s.chanter ≠ some q →
      ownReg (keyOf k) = false → Does (.registerWrite (8 * k) v) s (fun t =>
        t.dg R.HIF_BAD_ADDR F.HIF_BAD_ADDR_OFFSET = 8 * k ∧ t.flagged .a bHIF 3
        ∧ t.dg R.HIF_WR_DISC F.HIF_WR_DISC_COUNT
          = satAdd F.HIF_WR_DISC_COUNT.width (s.dg R.HIF_WR_DISC F.HIF_WR_DISC_COUNT) 1
        ∧ Keeps .a s t ([R.HIF_BAD_ADDR, R.HIF_WR_DISC] ++ flagSlots bHIF 3)))

/-- BAR2 is the granted plane's store: a write of one whole word stores it and nothing else, one of some of its bytes merges
them, two whole words of a pair are written as a pair; a read returns the words and changes neither store nor registers,
poisoned where a pair is uncorrectable. A store below RUN is woken, and the access waits for it. Without a grant it reads 0 and
ignores writes (R11, R25, R403, R404, R409, R495, R496). It rests on the model's readings in log entries 7, 19, 20, 30, 130. -/
def Obligations.Bar2IsTheGrantedStore : Prop :=
  ∀ (s : State) (a : Nat), a < storeWords →
    (∀ (q : Plane), bar2Plane s = some q → asleep (bar2Domain s) s = false →
      (∀ lo hi : BitVec 32, Does (.bar2Write (8 * a) [⟨lo, 15⟩, ⟨hi, 15⟩]) s (fun t => t.sw q a = (hi ++ lo).setWidth 36
        ∧ (∀ p b, (p ≠ q ∨ b ≠ a) → t.sw p b = s.sw p b) ∧ (s.isBad q (a / 2) = false → RegsKept q s t [])
        ∧ (s.memWf = true → t.memWf = true)))
      ∧ (∀ x y : HostDword, x.be ≠ 0 ∨ y.be ≠ 0 → Does (.bar2Write (8 * a) [x, y]) s (fun t => t.sw q a = mergeWord (s.sw q a) x y
        ∧ (∀ p b, (p ≠ q ∨ b ≠ a) → t.sw p b = s.sw p b) ∧ (s.isBad q (a / 2) = false → RegsKept q s t [])
        ∧ (s.memWf = true → t.memWf = true)))
      ∧ (∀ lo hi lo' hi' : BitVec 32, a % 2 = 0 → Does (.bar2Write (8 * a) [⟨lo, 15⟩, ⟨hi, 15⟩, ⟨lo', 15⟩, ⟨hi', 15⟩]) s (fun t =>
        t.sw q a = (hi ++ lo).setWidth 36 ∧ t.sw q (a + 1) = (hi' ++ lo').setWidth 36 ∧ t.isBad q (a / 2) = false
        ∧ (∀ p b, (p ≠ q ∨ (b ≠ a ∧ b ≠ a + 1)) → t.sw p b = s.sw p b) ∧ RegsKept q s t [] ∧ (s.memWf = true → t.memWf = true)))
      ∧ (∀ n, a + n ≤ storeWords → Does (.bar2Read (8 * a) n) s (fun t =>
        t.hif.cpl = (s.swords q a n).map (fun w => w.setWidth 64) ∧ SameStores s t
        ∧ (if (List.range n).any (fun i => s.isBad q ((a + i) / 2)) then t.hif.poisoned = true
          else t.hif.poisoned = false ∧ RegsKept q s t []))))
    ∧ (∀ q, bar2Plane s = some q → asleep (bar2Domain s) s = true →
      (∀ dws, Does (.bar2Write (8 * a) dws) s (fun t => t.bel.held = s.bel.held ++ [.bar2Write (8 * a) dws (some q)]
        ∧ SameStores s t ∧ t.hif = s.hif ∧ RegsKept .a s t []))
      ∧ (∀ n, Does (.bar2Read (8 * a) n) s (fun t => t.bel.held = s.bel.held ++ [.bar2Read (8 * a) n (some q)]
        ∧ SameStores s t ∧ t.hif = s.hif ∧ RegsKept .a s t [])))
    ∧ (bar2Plane s = none → (∀ dws, Does (.bar2Write (8 * a) dws) s (fun t => Keeps .a s t []))
      ∧ Does (.bar2Read (8 * a) 1) s (fun t => t.hif.cpl = [0] ∧ SameStores s t ∧ RegsKept .a s t []))

/-- The endpoint: a reset clears its configuration, its MSI-X table and its latch and is reported when the link is up; D3hot,
the link, L1 and each configuration field show in HIF_LINK and EVM_STATUS (R498, R499, R503). It rests on the model's readings
in log entries 26, 27. -/
def Obligations.EndpointResetsAndStates : Prop :=
  ∀ s : State, (∀ q, s.chanter = some q → (s.dma q).bursts = []) →
    let Cleared := fun t : State => t.dg R.HIF_LINK F.HIF_LINK_BME = 0 ∧ t.dg R.HIF_LINK F.HIF_LINK_D3HOT = 0
      ∧ t.dg R.HIF_LINK F.HIF_LINK_MPS = 0 ∧ t.dg R.HIF_LINK F.HIF_LINK_MRRS = 2 ∧ t.dg R.EVM_STATUS F.EVM_STATUS_MSIX_EN = 0
      ∧ t.evm.table = List.replicate 64 [0, 0, 0, 0] ∧ t.evm.pba = [] ∧ t.hif.latch = none ∧ SameStores s t
    Does .pcieReset s (fun t => Cleared t ∧ t.dg R.HIF_LINK F.HIF_LINK_GEN = 0 ∧ t.hif.rst = some false)
    ∧ (s.dg R.HIF_LINK F.HIF_LINK_GEN ≠ 0 → Does .flr s (fun t => Cleared t ∧ t.flagged .a bHIF 4))
    ∧ Does .d3hotEntry s (fun t => t.dg R.HIF_LINK F.HIF_LINK_D3HOT = 1 ∧ Keeps .a s t [R.HIF_LINK])
    ∧ (∀ gen width : BitVec 3, 1 ≤ gen.toNat → gen.toNat ≤ 5 → (width = 1 ∨ width = 2 ∨ width = 4) → s.hif.rst = none →
      s.dg R.HIF_LINK F.HIF_LINK_GEN = 0 → Does (.pcieLinkChange true gen width) s (fun t =>
        t.dg R.HIF_LINK F.HIF_LINK_GEN = gen.toNat ∧ t.dg R.HIF_LINK F.HIF_LINK_WIDTH = width.toNat ∧ t.flagged .a bHIF 0
        ∧ Keeps .a s t (R.HIF_LINK :: flagSlots bHIF 0)))
    ∧ (s.dg R.HIF_LINK F.HIF_LINK_GEN ≠ 0 → ∀ gen width, Does (.pcieLinkChange false gen width) s (fun t =>
        t.dg R.HIF_LINK F.HIF_LINK_GEN = 0 ∧ t.dg R.HIF_LINK F.HIF_LINK_WIDTH = 0 ∧ t.dg R.HIF_LINK F.HIF_LINK_L1 = 0
        ∧ t.flagged .a bHIF 1 ∧ Keeps .a s t (R.HIF_LINK :: flagSlots bHIF 1)))
    ∧ (∀ enter : Bool, s.dg R.HIF_LINK F.HIF_LINK_GEN ≠ 0 → Does (.pcieL1Change enter) s (fun t =>
        t.dg R.HIF_LINK F.HIF_LINK_L1 = b2n enter ∧ Keeps .a s t [R.HIF_LINK]))
    ∧ Does (.configurationWrite (.busMaster true)) s (fun t => t.dg R.HIF_LINK F.HIF_LINK_BME = 1 ∧ Keeps .a s t [R.HIF_LINK])
    ∧ Does (.configurationWrite (.busMaster false)) s (fun t => t.dg R.HIF_LINK F.HIF_LINK_BME = 0 ∧ Keeps .a s t [R.HIF_LINK])
    ∧ (∀ b : Bool, s.evm.pba = [] → Does (.configurationWrite (.msixEnable b)) s (fun t =>
        t.dg R.EVM_STATUS F.EVM_STATUS_MSIX_EN = b2n b ∧ Keeps .a s t [R.EVM_STATUS]))
    ∧ (∀ b : Bool, s.evm.pba = [] → Does (.configurationWrite (.functionMask b)) s (fun t =>
        t.dg R.EVM_STATUS F.EVM_STATUS_FUNC_MASK = b2n b ∧ Keeps .a s t [R.EVM_STATUS]))
    ∧ (∀ x : BitVec 3, Does (.configurationWrite (.maxReadRequest x)) s (fun t =>
        t.dg R.HIF_LINK F.HIF_LINK_MRRS = x.toNat ∧ Keeps .a s t [R.HIF_LINK]))
    ∧ (∀ x : BitVec 3, Does (.configurationWrite (.maxPayload x)) s (fun t =>
        t.dg R.HIF_LINK F.HIF_LINK_MPS = (if x.toNat ≤ 2 then x.toNat else s.dg R.HIF_LINK F.HIF_LINK_MPS) ∧ Keeps .a s t [R.HIF_LINK]))
    ∧ (∀ b : Bool, s.evm.pba = [] → Does (.configurationWrite (.d3hot b)) s (fun t =>
        t.dg R.HIF_LINK F.HIF_LINK_D3HOT = b2n b ∧ Keeps .a s t [R.HIF_LINK]))

/-- The sequencer: CYCLING_START leaves STOPPED for the first start of the grid; a start begins the next cycle number at its
tick; a change that is due ends RUNNING instead, and CHANGING ends in RUNNING (R50, R52, R56). It rests on the model's readings
in log entries 2, 34, 35, 37, 38, 60, 68, 118. -/
def Obligations.TheSequencerStartsCycles : Prop :=
  ∀ s : State,
    let InForce := fun (c : CycCfg) (t : State) => t.dg R.TIM_CYC_ACT_PERIOD F.TIM_CYC_ACT_PERIOD_VALUE = c.period % 2 ^ 22
      ∧ t.dg R.TIM_CYC_ACT_PHASE F.TIM_CYC_ACT_PERIOD_VALUE = c.phase % 2 ^ 22
      ∧ t.dg R.TIM_CYC_ACT_COMMIT_OFS F.TIM_CYC_ACT_PERIOD_VALUE = c.commit % 2 ^ 22
    (cycState s = 0 → bootStage s ≠ 6 → bootStage s ≠ 9 → Does .cyclingStart s (fun t => cycState t = 1 ∧ t.cyc.inCycle = false
        ∧ t.cyc.nextTick = firstStart (tickFrom s.now) s ∧ t.now = s.now ∧ SameStores s t ∧ RegsKept .a s t [R.TIM_CYC_STATUS]))
    ∧ (cycState s ≠ 0 ∨ bootStage s = 9 → Does .cyclingStart s (fun t => Keeps .a s t []))
    ∧ (cycState s = 1 → changeDue s = false → Does .cycleStart s (fun t => t.cyc.starts = s.cyc.starts + 1
        ∧ t.cyc.tick = s.cyc.nextTick ∧ t.ct0 = s.cyc.nextTick * 250000 ∧ t.n = s.cyc.starts ∧ t.cyc.inCycle = true
        ∧ t.cyc.nextTick = s.cyc.nextTick + s.dg R.TIM_CYC_ACT_PERIOD F.TIM_CYC_ACT_PERIOD_VALUE))
    ∧ (cycState s = 1 → changeDue s = true → s.cyc.pend = none → Does .cycleStart s (fun t => cycState t = 2 ∧ t.cyc.inCycle = false
        ∧ t.cyc.step = none ∧ t.cyc.stepped = true ∧ t.cyc.starts = s.cyc.starts))
    ∧ (∀ c, cycState s = 1 → s.cyc.inCycle = true → s.cyc.pend = some c → stepDue s = none → Does .cycleStart s (fun t =>
        cycState t = 2 ∧ t.cyc.inCycle = false ∧ t.cyc.pend = none ∧ t.cyc.starts = s.cyc.starts
        ∧ t.now = max s.now (s.cyc.nextTick * 250000) ∧ t.cyc.holdFrom = t.now ∧ InForce c t
        ∧ t.cyc.nextTick = firstStart (tickFrom (t.now + 16000000)) t))
    ∧ (cycState s ≠ 1 → Does .cycleStart s (fun t => Keeps .a s t []))
    ∧ (cycState s = 2 → Does .changingExit s (fun t => cycState t = 1 ∧ t.now = max s.now (s.cyc.nextTick * 250000)
        ∧ SameStores s t ∧ RegsKept .a s t [R.TIM_CYC_STATUS]))
    ∧ (∀ d, inCycle s = true → stepDue s = some d → s.cyc.pend = none → Does .timeStep s (fun t => cycState t = 2
        ∧ t.cyc.step = none ∧ t.cyc.stepped = true ∧ t.get .a R.TIM_CYC_FLAGS ⟨3, 3⟩ = 1))

/-- APPLY: a legal configuration is in force at once in STOPPED and waits for the end of a cycle that runs; an illegal one is
refused with the code of the first rule it breaks, and nothing but the refusal is recorded (R54, R55, R56, R64). That a closed
channel comes before every other reason is the model's choice (log 128). It rests on the model's readings in log entries 2, 37,
38, 68, 100, 128. -/
def Obligations.ApplyChecksTheConfiguration : Prop :=
  ∀ s : State,
    (applyRefusal (cycWritten s) s = 0 → cycState s = 0 →
      Does .cycApply s (fun t =>
        let c := cycWritten s
        t.dg R.TIM_CYC_ACT_PERIOD F.TIM_CYC_ACT_PERIOD_VALUE = c.period ∧ t.dg R.TIM_CYC_ACT_PHASE F.TIM_CYC_ACT_PERIOD_VALUE = c.phase
        ∧ t.dg R.TIM_CYC_ACT_SYNC_OFS F.TIM_CYC_ACT_PERIOD_VALUE = c.sync ∧ t.dg R.TIM_CYC_ACT_FB_DEADLINE F.TIM_CYC_ACT_PERIOD_VALUE = c.fb
        ∧ t.dg R.TIM_CYC_ACT_SOLVE_DEADLINE F.TIM_CYC_ACT_PERIOD_VALUE = c.solve
        ∧ t.dg R.TIM_CYC_ACT_COMMIT_OFS F.TIM_CYC_ACT_PERIOD_VALUE = c.commit
        ∧ t.dg R.TIM_CYC_ACT_APPLY_OFS F.TIM_CYC_ACT_PERIOD_VALUE = c.apply))
    ∧ (applyRefusal (cycWritten s) s = 0 → inCycle s = true → Does .cycApply s (fun t => t.cyc.pend = some (cycWritten s)
        ∧ SameStores s t ∧ RegsKept .a s t [R.TIM_CYC_CMD]))
    ∧ (applyRefusal (cycWritten s) s ≠ 0 → Does .cycApply s (fun t =>
        t.dg R.TIM_CYC_STATUS F.TIM_CYC_STATUS_REFUSE = applyRefusal (cycWritten s) s ∧ t.get .a R.TIM_CYC_FLAGS ⟨2, 2⟩ = 1
        ∧ Keeps .a s t ([R.TIM_CYC_CMD, R.TIM_CYC_STATUS] ++ flagSlots bCYC 2)))
    ∧ (s.anyClosed = true → applyRefusal (cycWritten s) s = 1)
    ∧ (∀ code : BitVec 4, 3 ≤ code.toNat → Does (.cycCmdReserved code) s (fun t =>
        t.dg R.TIM_CYC_STATUS F.TIM_CYC_STATUS_REFUSE = 8 ∧ t.get .a R.TIM_CYC_FLAGS ⟨2, 2⟩ = 1
        ∧ Keeps .a s t ([R.TIM_CYC_CMD, R.TIM_CYC_STATUS] ++ flagSlots bCYC 2)))
    ∧ Does .cycCapture s (fun t => t.rd .a R.TIM_CYC_NUM = lo72 s.n ∧ t.rd .a R.TIM_CYC_NUM_HI = hi72 s.n
        ∧ (s.cyc.starts ≠ 0 → t.rd .a R.TIM_CYC_CT0 = lo72 (htsOfPs s.ct0) ∧ t.rd .a R.TIM_CYC_CT0_HI = hi72 (htsOfPs s.ct0))
        ∧ Keeps .a s t [R.TIM_CYC_CMD, R.TIM_CYC_NUM, R.TIM_CYC_NUM_HI, R.TIM_CYC_CT0, R.TIM_CYC_CT0_HI])

/-- Event points and the points of a cycle: a written point waits for the next cycle start; one that fires raises its event at
its time; the apply point switches outputs to the levels of the last commit, those that no fault holds; content of a stale epoch
is counted and dropped, content without its marker or over a failed link is dropped; a commit with an engine late is a machine
check of the Chanter. Without a cycle the points do nothing (R30, R57, R60, R61, R63, R364, R366, R435). The sync point latches
FIELD's inputs: the image of the cycle stands in the store of every plane that is not retired nor in reset and that the links
reach, with the cycle number, the supply and the field voltage in its last word, and the bases written are in force (R433,
R445). It rests on the model's readings in log entries 2, 7, 35, 37, 38, 39, 46, 68, 71, 124. -/
def Obligations.TheCycleHasItsPoints : Prop :=
  (∀ s : State,
    let atCommit := (s.toTime (s.atOfs R.TIM_CYC_ACT_COMMIT_OFS)).dp R.TIM_CYC_STATUS F.TIM_CYC_STATUS_PHASE 3
    let u := each (intakePlanes atCommit) takeSample atCommit
    (∀ (k : Fin 16) (v : Word), Does (.evpWrite k v) s (fun t => k.val ∈ t.cyc.evpNew ∧ t.cyc.evp = s.cyc.evp
        ∧ (∀ f ∈ [F.TIM_CYC_EVP_EN, F.TIM_CYC_EVP_DIV, F.TIM_CYC_EVP_SEL_PHASE, F.TIM_CYC_EVP_OFFSET_NS],
            t.dg (R.TIM_CYC_EVP k) f = f.get v) ∧ SameStores s t ∧ RegsKept .a s t [R.TIM_CYC_EVP k]))
    ∧ (∀ k : Fin 16, evpFires k s = true → Does (.eventPoint k) s (fun t =>
        t.evm.raised = (if s.linkUp .wardenPort then s.evm.raised ++ [k.val] else s.evm.raised)
        ∧ t.now = max s.now (s.ct0Hts + F.TIM_CYC_EVP_OFFSET_NS.get (nth s.cyc.evp k 0) * 1000) ∧ SameStores s t ∧ RegsKept .a s t []))
    ∧ (∀ k : Fin 16, evpFires k s = false → Does (.eventPoint k) s (fun t => Keeps .a s t []))
    ∧ (inCycle s = false → ∀ c ∈ [Instr.commit, .interpolation, .syncPoint, .applyPoint, .timeStep], Does c s (fun t => Keeps .a s t []))
    ∧ (∀ q, inCycle s = true → cycleChanter s = some q →
        (engineLate q u = true ∨ ssmLate q u = true) → Does .commit s (fun t =>
        t.get q R.PLANE_MCHK F.PLANE_MCHK_CAUSE = 3 ∧ (t.ward q).mchk = true ∧ t.get .a R.TIM_CYC_FLAGS ⟨5, 5⟩ = 1
        ∧ t.dg R.TIM_CYC_STATUS F.TIM_CYC_STATUS_PHASE = 3 ∧ t.red.content = s.red.content ∧ SameStores s t))
    ∧ (inCycle s = true → cycleChanter s = none → Does .commit s (fun t => t.dg R.TIM_CYC_STATUS F.TIM_CYC_STATUS_PHASE = 3
          ∧ t.now = max s.now (s.atOfs R.TIM_CYC_ACT_COMMIT_OFS) ∧ RegsKept .a s t [R.TIM_CYC_STATUS] ∧ SameStores s t)
        ∧ Does .interpolation s (fun t => t.dg R.TIM_CYC_STATUS F.TIM_CYC_STATUS_PHASE = 1
          ∧ t.now = max s.now (s.atOfs R.TIM_CYC_ACT_FB_DEADLINE) ∧ RegsKept .a s t [R.TIM_CYC_STATUS] ∧ SameStores s t))
    ∧ (inCycle s = true → Does .applyPoint s (fun t => t.fio.levels = none ∧ t.now = max s.now (s.atOfs R.TIM_CYC_ACT_APPLY_OFS)
        ∧ SameStores s t ∧ RegsKept .a s t ((List.range 16).map R.FIO_DO_STATUS)
        ∧ ∀ k : Fin 16, t.dg (R.FIO_DO_STATUS k) F.FIO_DO_STATUS_CMD = (match s.fio.levels with
            | some lv => b2n (bitN lv k)
            | none => s.dg (R.FIO_DO_STATUS k) F.FIO_DO_STATUS_CMD)
          ∧ (cutOff s = false → (s.dout k).hold = none → (s.dout k).safeOff = false → (s.dout k).latched = false →
            (s.dout k).failed = false → (s.dout k).retry = false →
            t.dg (R.FIO_DO_STATUS k) F.FIO_DO_STATUS_OUT = t.dg (R.FIO_DO_STATUS k) F.FIO_DO_STATUS_CMD)))
    ∧ (∀ (stage : Stage) (p : CommitContent), s.red.content = some p →
        let rejected := R.RED_REJECT stage.num
        let Dropped := fun t : State => t.fio = s.fio ∧ t.cbus = s.cbus ∧ SameStores s t ∧ (stage = .sense → t.sense.flight = [])
        (s.linkUp (stageLink p.plane stage) = true → (s.chanter ≠ some p.plane ∨ p.epoch ≠ s.dg R.RED_EPOCH F.RED_EPOCH_EPOCH) →
          Does (.commitContentArrival stage true) s (fun t => t.dg rejected F.RED_REJECT_COUNT
            = satAdd F.RED_REJECT_COUNT.width (s.dg rejected F.RED_REJECT_COUNT) 1 ∧ Dropped t ∧ RegsKept .a s t [rejected]))
        ∧ (∀ m : Bool, m = false ∨ s.linkUp (stageLink p.plane stage) = false →
          Does (.commitContentArrival stage m) s (fun t => Dropped t ∧ RegsKept .a s t [])))
    ∧ (∀ p : CommitContent, s.red.content = some p → s.chanter = some p.plane → p.epoch = s.dg R.RED_EPOCH F.RED_EPOCH_EPOCH →
        (s.linkUp (portLink p.plane) = true → Does (.commitContentArrival .port true) s (fun t =>
          t.inner = (takeTx p.cycle p.cmd s).inner ∧ ∀ p' k, t.rd p' k = (takeTx p.cycle p.cmd s).rd p' k))
        ∧ (s.linkUp (fieldLink p.plane) = true →
          Does (.commitContentArrival .field true) s (fun t => t.fio.levels = some p.douts ∧ t.fio.marked = true
            ∧ SameStores s t ∧ RegsKept .a s t [R.FIO_STATUS])
          ∧ Does .doCommitContent s (fun t => t.fio.levels = some p.douts ∧ t.fio.marked = true ∧ t.fio.unmarked = 0
            ∧ t.dg R.FIO_STATUS F.FIO_STATUS_SSA_REQ = b2n p.ssa ∧ SameStores s t ∧ RegsKept .a s t [R.FIO_STATUS]))))
  ∧ (∀ (q : Plane) (s : State), inCycle s = true → fieldLost s = false → planeState q s ≠ 5 →
    s.linkUp (fieldLink q) = true → s.linkUp (storeLink q) = true → (s.ward q).inReset = false →
    (s.rd .a R.FIO_IMG_BASE).toNat / 4 * 4 + 4 ≤ storeWords →
    Does .syncPoint s (fun t =>
      let base := (s.rd .a R.FIO_IMG_BASE).toNat / 4 * 4
      t.fio.imgBase = base ∧ t.fio.picBase = (s.rd .a R.FIO_PICOT_BASE).toNat ∧ t.sense.smpBase = (s.rd .a R.PIF_SMP_BASE).toNat
      ∧ t.sw q (base + 3) = wordN (s.n % 2 ^ 16 * 2 ^ 20 + supply s * 2 ^ 17 + s.dg R.FIO_STATUS F.FIO_STATUS_VFIELD)
      ∧ (∀ k : Fin 32, (t.sw q base).toNat.testBit k = (s.dg (R.FIO_DI_STATUS k) F.FIO_DI_STATUS_LEVEL == 1)
        ∧ (t.sw q (base + 1)).toNat.testBit k = (s.dg (R.FIO_DI_STATUS k) F.FIO_DI_STATUS_UNKNOWN == 1))))

/-- INTERPOLATION and COMMIT of a Chanter do the parts of their rules in the order of the rules: the stop of a device link
fault, the planner, the motion job and channel 1; and the samples of the intake and the blocks' commit, which publishes the
content of its own cycle in the current epoch, with its final flush (R30, R53, R57, R130, R185, R284). It rests on the model's
readings in log entries 2, 37, 38, 46, 68, 84, 85, 139. -/
def Obligations.ChanterInterpolatesAndCommits : Prop :=
  ∀ (q : Plane) (s : State), inCycle s = true → cycleChanter s = some q →
    let at' := fun (k phase : Nat) => (s.toTime (s.atOfs k)).dp R.TIM_CYC_STATUS F.TIM_CYC_STATUS_PHASE phase
    Does .interpolation s (fun t =>
        let v := at' R.TIM_CYC_ACT_FB_DEADLINE 1
        let r := ssmEvalOne q (requestJob q (plnInterpolate q (if s.red.linkFault then wardenStop q v else v)))
        t.inner = r.inner ∧ ∀ p k, t.rd p k = r.rd p k)
    ∧ (let atCommit := at' R.TIM_CYC_ACT_COMMIT_OFS 3
      let u := each (intakePlanes atCommit) takeSample atCommit
      let v := publishBlocks q u
      let w := { v with red := { v.red with content := some (contentOf q v), lastCommit := v.n, applied := none } }
      let x := schedCommit q (cleShadow q (shadowCopy q w))
      engineLate q u = false → ssmLate q u = false → Does .commit s (fun t => t.red.content = some (contentOf q v)
        ∧ (contentOf q v).plane = q ∧ (contentOf q v).cycle = s.n ∧ (contentOf q v).epoch = s.get q R.PLANE_EPOCH F.PLANE_EPOCH_EPOCH
        ∧ t.red.lastCommit = s.n
        ∧ t.inner = (finalFlush q (swapDue x).isSome (snapTake q
            { x with red := { x.red with due := swapDue x, swapSent := (swapDue x).isSome } })).inner))

/-- Inputs of FIELD: a raw edge is stamped and starts its settling; after DEB the level follows with its event; an UNKNOWN input
settles without one; a Picot goes to the ring in each store that the links reach; a changed input type makes the inputs of its
group UNKNOWN, and is refused for one of the safety parameters (R30, R430, R431, R432, R434). It rests on the model's readings
in log entries 2, 7, 101, 102. -/
def Obligations.InputsAreDebounced : Prop :=
  ∀ s : State,
    (∀ (k : Fin 32) (level : Bool) (at' : Nat), s.fio.dis.length = 32 →
      let raw := b2n (level != (s.dg (R.FIO_DI_CFG k) F.FIO_DI_CFG_INV == 1))
      Does (.diRawEdge k level at') s (fun t => t.dg (R.FIO_DI_STATUS k) F.FIO_DI_STATUS_RAW = raw
        ∧ t.di k = (if s.dg (R.FIO_DI_STATUS k) F.FIO_DI_STATUS_RAW = raw then s.di k
          else ⟨at' * 10000, at' * 10000 + settlePs k s⟩)
        ∧ t.now = max s.now (at' * 10000) ∧ SameStores s t ∧ RegsKept .a s t [R.FIO_DI_STATUS k]))
    ∧ (∀ k : Fin 32, s.dg (R.FIO_DI_STATUS k) F.FIO_DI_STATUS_UNKNOWN = 0 →
      let raw := s.dg (R.FIO_DI_STATUS k) F.FIO_DI_STATUS_RAW
      raw ≠ s.dg (R.FIO_DI_STATUS k) F.FIO_DI_STATUS_LEVEL → Does (.debounceExpiry k) s (fun t =>
        let makes := bitN (s.dg (R.FIO_DI_CFG k) F.FIO_DI_CFG_PICOT) (1 - raw) && !fieldLost s
        t.dg (R.FIO_DI_STATUS k) F.FIO_DI_STATUS_LEVEL = raw ∧ t.flagged .a (bDI k) (1 - raw)
        ∧ t.now = max s.now ((s.di k).edge + debUs k s * 1000000) ∧ SameStores s t
        ∧ (if makes ∧ s.fio.fifo.length < 64 then t.fio.fifo = s.fio.fifo
            ++ [picotOf 2 k (1 - raw) false false 0 (s.di k).edge (wordN (supplyQ s * 2 ^ 35 + debUs k s))]
          else t.fio.fifo = s.fio.fifo)
        ∧ (if makes ∧ 64 ≤ s.fio.fifo.length then t.flagged .a bFIO 7
            ∧ RegsKept .a s t (R.FIO_DI_STATUS k :: flagSlots (bDI k) (1 - raw) ++ flagSlots bFIO 7)
          else RegsKept .a s t (R.FIO_DI_STATUS k :: flagSlots (bDI k) (1 - raw)))))
    ∧ (∀ k : Fin 32, (s.dg (R.FIO_DI_STATUS k) F.FIO_DI_STATUS_UNKNOWN = 1
        ∨ s.dg (R.FIO_DI_STATUS k) F.FIO_DI_STATUS_RAW = s.dg (R.FIO_DI_STATUS k) F.FIO_DI_STATUS_LEVEL) →
      Does (.debounceExpiry k) s (fun t => Keeps .a s t []))
    ∧ (∀ k : Fin 32, (s.dg (R.FIO_DI_STATUS k) F.FIO_DI_STATUS_UNKNOWN = 0 ∨ cutOff s = true) →
      Does (.diSettle k) s (fun t => Keeps .a s t []))
    ∧ (∀ k : Fin 32, s.dg (R.FIO_DI_STATUS k) F.FIO_DI_STATUS_UNKNOWN = 1 → cutOff s = false → Does (.diSettle k) s (fun t =>
        t.dg (R.FIO_DI_STATUS k) F.FIO_DI_STATUS_UNKNOWN = 0
        ∧ t.dg (R.FIO_DI_STATUS k) F.FIO_DI_STATUS_LEVEL = s.dg (R.FIO_DI_STATUS k) F.FIO_DI_STATUS_RAW
        ∧ t.evm.raised = s.evm.raised ∧ t.fio = s.fio ∧ SameStores s t ∧ RegsKept .a s t [R.FIO_DI_STATUS k]))
    ∧ (∀ (w : List Word) (rest : List (List Word)), s.fio.fifo = w :: rest → w.length = 4 → fieldLost s = false →
      let lg := s.dg R.FIO_PICOT_CFG F.FIO_PICOT_CFG_SIZE_LOG2
      let a := s.fio.picBase / 2 ^ (2 + lg) * 2 ^ (2 + lg) + 4 * (s.dg R.FIO_PICOT_WR F.FIO_PICOT_WR_COUNT % 2 ^ lg)
      6 ≤ lg → lg ≤ 16 → a + 4 ≤ storeWords → Does .diPicotDrain s (fun t =>
        t.fio.fifo = rest ∧ (∀ q, t.swords q a 4 = (if s.linkUp (fieldLink q) ∧ s.linkUp (storeLink q) ∧ (s.ward q).inReset = false
          then w else s.swords q a 4))
        ∧ (∀ q b, b / 4 ≠ a / 4 → t.sw q b = s.sw q b)
        ∧ t.dg R.FIO_PICOT_WR F.FIO_PICOT_WR_COUNT = (s.dg R.FIO_PICOT_WR F.FIO_PICOT_WR_COUNT + 1) % 2 ^ 32
        ∧ RegsKept .a s t [R.FIO_PICOT_WR]))
    ∧ ((s.fio.fifo = [] ∨ fieldLost s = true) → Does .diPicotDrain s (fun t => Keeps .a s t []))
    ∧ (∀ (g : Fin 4) (v : Word), F.FIO_GRP_CFG_TYPE.get v ≠ s.dg (R.FIO_GRP_CFG g) F.FIO_GRP_CFG_TYPE →
      (groupDis g).any (fun k => safetyDi k s) = false → Does (.fieldConfigWrite (.grp g) v) s (fun t =>
        t.dg (R.FIO_GRP_CFG g) F.FIO_GRP_CFG_TYPE = F.FIO_GRP_CFG_TYPE.get v
        ∧ (∀ k ∈ groupDis g, t.dg (R.FIO_DI_STATUS k) F.FIO_DI_STATUS_UNKNOWN = 1 ∧ t.dg (R.FIO_DI_STATUS k) F.FIO_DI_STATUS_LEVEL = 0)
        ∧ SameStores s t ∧ RegsKept .a s t (R.FIO_GRP_CFG g :: (groupDis g).map R.FIO_DI_STATUS)))
    ∧ (∀ (g : Fin 4) (v : Word), F.FIO_GRP_CFG_TYPE.get v ≠ s.dg (R.FIO_GRP_CFG g) F.FIO_GRP_CFG_TYPE →
      (groupDis g).any (fun k => safetyDi k s) = true → Does (.fieldConfigWrite (.grp g) v) s (fun t =>
        t.dg R.FIO_STATUS F.FIO_STATUS_REFUSE = 1 ∧ t.flagged .a bFIO 8 ∧ Keeps .a s t (R.FIO_STATUS :: flagSlots bFIO 8)))
    ∧ (s.tab.safety = none → Does .fieldPowerUp s (fun t => (∀ k : Fin 32, t.dg (R.FIO_DI_STATUS k) F.FIO_DI_STATUS_UNKNOWN = 1)
        ∧ (∀ k : Fin 16, t.dg (R.FIO_DO_STATUS k) F.FIO_DO_STATUS_OUT = 0) ∧ t.fio.ssa = false ∧ t.fio.fifo = [] ∧ SameStores s t
        ∧ ∀ p k, isFio k = false → t.rd p k = s.rd p k))
    ∧ (∀ tab, s.tab.safety = some tab → (∀ e ∈ tab.inputs, e.1 < 32) → (∀ e ∈ tab.types, e.1 < 4) → Does .fieldPowerUp s (fun t =>
        (∀ k : Fin 32, t.dg (R.FIO_DI_STATUS k) F.FIO_DI_STATUS_UNKNOWN = 1)
        ∧ (∀ e ∈ tab.inputs, t.dg (R.FIO_DI_STATUS e.1) F.FIO_DI_STATUS_SAFETY = 1)
        ∧ (∀ k : Fin 16, t.dg (R.FIO_DO_STATUS k) F.FIO_DO_STATUS_OUT = 0) ∧ t.fio.ssa = false ∧ t.fio.fifo = [] ∧ SameStores s t
        ∧ ∀ p k, isFio k = false → t.rd p k = s.rd p k))

/-- Outputs of FIELD: overcurrent switches off after 200 µs and is retried 10 ms later, or latched after three retries, which a
second on clears; an output driven from outside or one that fails to switch shows its fault; CLEAR ends the latched ones;
refused commands say why (R436, R437, R438, R439, R445). It rests on the model's readings in log entries 103, 104. -/
def Obligations.OutputsShowTheirFaults : Prop :=
  ∀ (k : Fin 16) (s : State), s.fio.dos.length = 16 →
    let st := R.FIO_DO_STATUS k
    let after := fun us => max s.now ((s.dout k).since + us * 1000000)
    (doOn k s = true → doRetries k s < 3 → cutOff s = false → (s.dout k).safeOff = false → (s.dout k).latched = false →
      (s.dout k).failed = false →
      Does (.overcurrent k) s (fun t => (t.dout k).retry = true ∧ t.dg st F.FIO_DO_STATUS_OUT = 0 ∧ t.dg st F.FIO_DO_STATUS_FAULT = 1
        ∧ t.now = after 200 ∧ t.flagged .a (bDO k) 0 ∧ SameStores s t ∧ RegsKept .a s t (st :: flagSlots (bDO k) 0)))
    ∧ (doOn k s = true → doRetries k s = 3 → cutOff s = false → (s.dout k).safeOff = false →
      Does (.overcurrent k) s (fun t => (t.dout k).latched = true ∧ t.dg st F.FIO_DO_STATUS_OUT = 0
        ∧ t.dg st F.FIO_DO_STATUS_FAULT = 2 ∧ t.now = after 200 ∧ t.flagged .a (bDO k) 1 ∧ SameStores s t
        ∧ RegsKept .a s t (st :: flagSlots (bDO k) 0 ++ flagSlots (bDO k) 1)))
    ∧ ((s.dout k).retry = true → Does (.ocRetry k) s (fun t => (t.dout k).retry = false
        ∧ t.dg st F.FIO_DO_STATUS_OUT = b2n (doDriven k t)
        ∧ t.dg st F.FIO_DO_STATUS_RETRIES = min 3 (doRetries k s + 1) ∧ t.now = after 10000 ∧ SameStores s t ∧ RegsKept .a s t [st]))
    ∧ (doOn k s = true → Does (.retryCountReset k) s (fun t => t.dg st F.FIO_DO_STATUS_RETRIES = 0 ∧ t.now = after 1000000
        ∧ t.fio = s.fio ∧ SameStores s t ∧ RegsKept .a s t [st]))
    ∧ (doOn k s = false → (s.dout k).ext = false → doDriven k s = false →
      Does (.extDriven k) s (fun t => (t.dout k).ext = true ∧ t.dg st F.FIO_DO_STATUS_READBACK = 1 ∧ t.now = after 150
        ∧ t.dg st F.FIO_DO_STATUS_OUT = 0 ∧ t.flagged .a (bDO k) 2 ∧ SameStores s t ∧ RegsKept .a s t (st :: flagSlots (bDO k) 2)))
    ∧ (doOn k s = false → ∀ c ∈ [Instr.overcurrent k, .retryCountReset k, .driveFail k], Does c s (fun t => Keeps .a s t []))
    ∧ ((s.dout k).retry = false → Does (.ocRetry k) s (fun t => Keeps .a s t []))
    ∧ ((doOn k s = true ∨ (s.dout k).ext = true) → Does (.extDriven k) s (fun t => Keeps .a s t []))
    ∧ Does (.extDrivenEnd k) s (fun t => (t.dout k).ext = false ∧ t.dg st F.FIO_DO_STATUS_FAULT ≠ 3 ∧ SameStores s t
        ∧ RegsKept .a s t [st])
    ∧ (doOn k s = true → Does (.driveFail k) s (fun t => (t.dout k).failed = true ∧ t.dg st F.FIO_DO_STATUS_OUT = 0
        ∧ t.now = after 150 ∧ t.flagged .a (bDO k) 3 ∧ SameStores s t ∧ RegsKept .a s t (st :: flagSlots (bDO k) 3)))
    ∧ ((s.dout k).latched = true ∨ (s.dout k).failed = true → Does (.doClear k) s (fun t => (t.dout k).latched = false
        ∧ (t.dout k).failed = false ∧ (t.dout k).waits = true ∧ t.dg st F.FIO_DO_STATUS_RETRIES = 0
        ∧ t.dg st F.FIO_DO_STATUS_OUT = 0 ∧ SameStores s t ∧ RegsKept .a s t [st]))
    ∧ ((s.dout k).latched = false → (s.dout k).failed = false → Does (.doClear k) s (fun t =>
        t.dg R.FIO_STATUS F.FIO_STATUS_REFUSE = 5 ∧ t.flagged .a (bDO k) 4 ∧ Keeps .a s t (R.FIO_STATUS :: flagSlots (bDO k) 4)))
    ∧ (∀ code : BitVec 4, 2 ≤ code.toNat → Does (.doCmdReserved k code) s (fun t =>
        t.dg R.FIO_STATUS F.FIO_STATUS_REFUSE = 4 ∧ t.flagged .a (bDO k) 4 ∧ Keeps .a s t (R.FIO_STATUS :: flagSlots (bDO k) 4)))

/-- The field supply, the failsafe and SAFE_STOP_A: a measurement is shown and below 19 V raises WARN; a sag of 1 ms cuts off
every output and makes every input UNKNOWN, and its end waits for the host or returns; cycles without a commit marker bring the
failsafe, and FS_ACK ends it; a mismatch, or four cycles without a PERMIT request, drops SAFE_STOP_A (R290, R440, R441, R442,
R443, R445). It rests on the model's readings in log entries 2, 77, 79, 102, 103, 137. -/
def Obligations.SupplyFailsafeAndSafeStop : Prop :=
  ∀ s : State, s.fio.dos.length = 16 →
    (∀ v : BitVec 16, (19456 ≤ v.toNat ∨ supply s ≠ 0) → (12288 ≤ v.toNat ∨ supply s = 2) → Does (.supplyMeasurement v) s (fun t => t.dg R.FIO_STATUS F.FIO_STATUS_VFIELD = v.toNat
      ∧ supply t = supply s ∧ SameStores s t ∧ RegsKept .a s t [R.FIO_STATUS]))
    ∧ (∀ v : BitVec 16, 12288 ≤ v.toNat → v.toNat < 19456 → supply s = 0 → Does (.supplyMeasurement v) s (fun t => supply t = 1
      ∧ t.dg R.FIO_STATUS F.FIO_STATUS_VFIELD = v.toNat ∧ t.flagged .a bFIO 0 ∧ SameStores s t
      ∧ RegsKept .a s t (R.FIO_STATUS :: flagSlots bFIO 0)))
    ∧ (let Cut := fun t : State => supply t = 2 ∧ t.flagged .a bFIO 1 ∧ t.fio.ssa = false ∧ SameStores s t
        ∧ (∀ k : Fin 16, t.dg (R.FIO_DO_STATUS k) F.FIO_DO_STATUS_OUT = 0 ∧ t.dg (R.FIO_DO_STATUS k) F.FIO_DO_STATUS_FAULT = 5)
        ∧ (∀ k : Fin 32, t.dg (R.FIO_DI_STATUS k) F.FIO_DI_STATUS_UNKNOWN = 1)
      (∀ t0, s.fio.low = some t0 → (supply s = 1 ∨ supply s = 3) → Does .sagCut s (fun t => Cut t ∧ t.now = max s.now (t0 + 1000000000)))
      ∧ (∀ v : BitVec 16, v.toNat < 12288 → supply s ≠ 2 → Does (.supplyMeasurement v) s (fun t => Cut t
        ∧ t.dg R.FIO_STATUS F.FIO_STATUS_VFIELD = v.toNat)))
    ∧ ((s.fio.low = none ∨ (supply s ≠ 1 ∧ supply s ≠ 3)) → Does .sagCut s (fun t => Keeps .a s t []))
    ∧ ((s.fio.good = none ∨ supply s ≠ 1) → Does .supplyNormal s (fun t => Keeps .a s t []))
    ∧ ((s.fio.back = none ∨ supply s ≠ 2) → Does .sagRestored s (fun t => Keeps .a s t []))
    ∧ (∀ t0, s.fio.back = some t0 → supply s = 2 → s.dg R.FIO_CFG F.FIO_CFG_SAG_RESTORE = 1 → Does .sagRestored s (fun t =>
      supply t = 1 ∧ t.flagged .a bFIO 2 ∧ (∀ k : Fin 32, t.dg (R.FIO_DI_STATUS k) F.FIO_DI_STATUS_UNKNOWN = 1)
      ∧ (∀ k : Fin 16, (t.dout k).waits = true) ∧ t.now = max s.now (t0 + 10000000000) ∧ SameStores s t))
    ∧ (∀ t0, s.fio.good = some t0 → supply s = 1 → Does .supplyNormal s (fun t => supply t = 0 ∧ t.fio = s.fio
      ∧ t.now = max s.now (t0 + 10000000000) ∧ SameStores s t ∧ RegsKept .a s t [R.FIO_STATUS]))
    ∧ (∀ t0, s.fio.back = some t0 → supply s = 2 → s.dg R.FIO_CFG F.FIO_CFG_SAG_RESTORE = 0 → Does .sagRestored s (fun t =>
      supply t = 3 ∧ t.fio = s.fio ∧ t.now = max s.now (t0 + 10000000000) ∧ SameStores s t ∧ RegsKept .a s t [R.FIO_STATUS]))
    ∧ (supply s = 3 → Does .sagAck s (fun t => supply t = 1 ∧ t.flagged .a bFIO 2
      ∧ (∀ k : Fin 32, t.dg (R.FIO_DI_STATUS k) F.FIO_DI_STATUS_UNKNOWN = 1) ∧ (∀ k : Fin 16, (t.dout k).waits = true) ∧ SameStores s t))
    ∧ (supply s ≠ 3 → Does .sagAck s (fun t => t.dg R.FIO_STATUS F.FIO_STATUS_REFUSE = 2 ∧ t.flagged .a bFIO 8
      ∧ Keeps .a s t (R.FIO_STATUS :: flagSlots bFIO 8)))
    ∧ (s.dg R.FIO_STATUS F.FIO_STATUS_FAILSAFE = 1 → s.fio.unmarked = 0 → fieldLost s = false → Does .fsAck s (fun t =>
      t.dg R.FIO_STATUS F.FIO_STATUS_FAILSAFE = 0
      ∧ (∀ k : Fin 16, (t.dout k).safeOff = false ∧ (t.dout k).hold = none ∧ (t.dout k).waits = true)
      ∧ SameStores s t ∧ RegsKept .a s t (R.FIO_STATUS :: (List.range 16).map R.FIO_DO_STATUS)))
    ∧ (∀ code : BitVec 4, 3 ≤ code.toNat → Does (.fioCmdReserved code) s (fun t => t.dg R.FIO_STATUS F.FIO_STATUS_REFUSE = 4
      ∧ t.flagged .a bFIO 8 ∧ Keeps .a s t (R.FIO_STATUS :: flagSlots bFIO 8)))
    ∧ (max 3 (s.dg R.FIO_CFG F.FIO_CFG_HOLD_N) ≤ s.fio.unmarked → s.dg R.FIO_STATUS F.FIO_STATUS_FAILSAFE = 0 →
      Does .commitLost s (fun t => t.dg R.FIO_STATUS F.FIO_STATUS_FAILSAFE = 1 ∧ t.flagged .a bFIO 3
        ∧ (∀ k : Fin 16, s.dg (R.FIO_DO_CFG k) F.FIO_DO_CFG_FAILSAFE = 0 → (t.dout k).safeOff = true
          ∧ t.dg (R.FIO_DO_STATUS k) F.FIO_DO_STATUS_OUT = 0)
        ∧ (∀ k : Fin 16, s.dg (R.FIO_DO_CFG k) F.FIO_DO_CFG_FAILSAFE = 1 → (t.dout k).hold = some (doOn k s))
        ∧ SameStores s t ∧ RegsKept .a s t (R.FIO_STATUS :: (List.range 16).map R.FIO_DO_STATUS ++ flagSlots bFIO 3)))
    ∧ (∀ q, s.chanter = some q → (s.ssm .one q).permit = true → s.ssm2.permit = true → s.fio.ssa = true →
        Does .ssaMismatch s (fun t => t.fio.ssa = false ∧ (t.ssm .one q).permit = false ∧ t.ssm2.permit = false
          ∧ t.dg R.SSM2_STATUS F.SSM2_STATUS_SSB = 0 ∧ t.flagged .a bFIO 6)
        ∧ Does (.ssaTestPulse true) s (fun t => t.fio.ssa = false ∧ (t.ssm .one q).permit = false ∧ t.ssm2.permit = false)
        ∧ (4 ≤ s.fio.unasked → Does .ssaDrop s (fun t => t.fio.ssa = false ∧ (t.ssm .one q).permit = false
          ∧ t.dg R.FIO_STATUS F.FIO_STATUS_SSA = 0 ∧ t.flagged .a bFIO 5)))
    ∧ (∀ low : Bool, (s.fio.ssa && low) = false → Does (.ssaTestPulse low) s (fun t => Keeps .a s t []))
    ∧ ((s.fio.ssa = false ∨ s.fio.unasked < 4) → Does .ssaDrop s (fun t => Keeps .a s t []))
    ∧ ((s.fio.unmarked < max 3 (s.dg R.FIO_CFG F.FIO_CFG_HOLD_N) ∨ s.dg R.FIO_STATUS F.FIO_STATUS_FAILSAFE = 1) →
      Does .commitLost s (fun t => Keeps .a s t []))
    ∧ ((s.dg R.FIO_STATUS F.FIO_STATUS_FAILSAFE = 0 ∨ s.fio.unmarked ≠ 0 ∨ fieldLost s = true) → Does .fsAck s (fun t =>
      t.dg R.FIO_STATUS F.FIO_STATUS_REFUSE = 3 ∧ t.flagged .a bFIO 8 ∧ Keeps .a s t (R.FIO_STATUS :: flagSlots bFIO 8)))

/-- Position interfaces count: an edge of A against the level of B counts one up or down, and two edges within ILL_NS count for
nothing; a SINCOS conversion moves the count by the fine angle, or loses it; a velocity that times out is 0; a serial frame sets
the counter by its first valid position and moves it by the next ones, and a bad one leaves it and raises its flag, with a
sample in both stores (R235, R236, R239, R241, R242, R243, R245, R246). Commands and configuration of a position interface:
CAPTURE copies count, latch, reference and velocity; SET_COUNT and CORRECT wait for the latch; ARM_REF arms and CLEAR_REF clears
the reference; a configuration register is written while no closed channel names the interface, and refused with REFUSE = 0x1
otherwise; a Picot leaves a FIFO for the ring in each store that the links reach (R30, R244, R248, R250, R263). It rests on the
model's readings in log entries 2, 5, 7, 41, 69, 70, 71, 74. -/
def Obligations.InterfacesCountAndObey : Prop :=
  (∀ (p : Fin 24) (s : State), s.sense.pifs.length = 24 → (∀ u : Fin 16, (s.cmp u).live = false) →
    let x := s.pif p
    let base := s.sense.smpBase / 128 * 128 + 4 * p
    let Moved := fun (n pos : Nat) =>
      let v : Int := if x.cfg 4 F.PIF_SER_CFG2_SIGNED = 1 then signedOf n pos else pos
      match x.pos with
      | none => v
      | some o =>
        let d := signedOf n ((v - o) % 2 ^ n).toNat
        x.count + if x.cfg 0 F.PIF_CFG_INV_DIR = 1 then -d else d
    let Sampled := fun t : State => (∀ q a, a / 4 ≠ base / 4 → t.sw q a = s.sw q a)
      ∧ ∀ q, s.linkUp (senseLink q) = true → s.linkUp (storeLink q) = true → (s.ward q).inReset = false → base + 4 ≤ storeWords →
        t.sw q base = lo72 (((t.pif p).count - x.setBy.getD 0) % 2 ^ 72).toNat ∧ t.sw q (base + 2) = (t.pif p).v
    (∀ (b : Bool) (at' held : Nat), x.mode = 1 → x.a = false → x.b = b → x.cfg 1 F.PIF_INC_CFG_MULT = 1 →
      x.cfg 0 F.PIF_CFG_INV_DIR = 0 → x.cfg 0 F.PIF_CFG_PICOT_SEL = 0 → 4 * x.cfg 0 F.PIF_CFG_FILT ≤ held →
      x.pairOf true (500 * at') = none →
      Does (.pifEdge p .a true at' held none) s (fun t => (t.pif p).count = (if b then x.count - 1 else x.count + 1)
        ∧ (t.pif p).a = true ∧ (t.pif p).b = b ∧ t.now = max s.now (500 * at') ∧ SameStores s t ∧ RegsKept .a s t [R.PIF_STATUS p]))
    ∧ (∀ (onA level : Bool) (at' held : Nat), x.mode = 1 → (if onA then x.a else x.b) ≠ level → 4 * x.cfg 0 F.PIF_CFG_FILT ≤ held →
      let a1 := if onA then level else x.a
      let b1 := if onA then x.b else level
      let d := incCount (x.cfg 1 F.PIF_INC_CFG_MULT) onA x.a x.b a1 b1
      Does (.pifEdge p (if onA then .a else .b) level at' held none) s (fun t => (t.pif p).a = a1 ∧ (t.pif p).b = b1
        ∧ t.now = max s.now (500 * at') ∧ SameStores s t ∧ match x.pairOf onA (500 * at') with
          | none => (t.pif p).count = x.count + if x.cfg 0 F.PIF_CFG_INV_DIR = 1 then -d else d
          | some u => (t.pif p).count = u.count ∧ (t.pif p).illegal = true ∧ t.flagged .a (bPIF p) 1))
    ∧ (∀ (line : PifLine) (level : Bool) (at' held : Nat) (other : Option Nat), held < 4 * x.cfg 0 F.PIF_CFG_FILT →
      Does (.pifEdge p line level at' held other) s (fun t => Keeps .a s t []))
    ∧ (∀ (sn cs : BitVec 18) (at' : Nat),
      let a := (sn.toInt - signedOf 18 (F.PIF_SC_OFS_S.get (s.rd .a (R.PIF_SC_OFS p)))) * F.PIF_SC_OFS_S.get (s.rd .a (R.PIF_SC_GAIN p))
      let b := (cs.toInt - signedOf 18 (F.PIF_SC_OFS_C.get (s.rd .a (R.PIF_SC_OFS p)))) * F.PIF_SC_OFS_C.get (s.rd .a (R.PIF_SC_GAIN p))
      (x.mode = 3 → x.qc = none → x.fine = none → 2 ≤ x.cfg 2 F.PIF_SC_CFG_INTERP_LOG2 → s.dg (R.PIF_STATUS p) F.PIF_STATUS_AMP_BAD = 0 →
      (x.cfg 2 F.PIF_SC_CFG_AMP_LO : Int) * 2 ^ 64 ≤ (a * a + b * b) * 256 →
      (a * a + b * b) * 256 ≤ (x.cfg 2 F.PIF_SC_CFG_AMP_HI : Int) * 2 ^ 64 → (a ≠ 0 ∨ b ≠ 0) →
      Does (.sincosConversion p sn cs at') s (fun t => (t.pif p).count = x.count
        ∧ (t.pif p).fine = some (fineAngle (x.cfg 2 F.PIF_SC_CFG_INTERP_LOG2) a b : Nat) ∧ (t.pif p).edges = x.edges + 1
        ∧ SameStores s t ∧ RegsKept .a s t [R.PIF_STATUS p]))
      ∧ (∀ v qc, x.qc = some qc → x.fine = some v → (x.mode = 3 → 2 ≤ x.cfg 2 F.PIF_SC_CFG_INTERP_LOG2 →
        s.dg (R.PIF_STATUS p) F.PIF_STATUS_AMP_BAD = 0 → (x.cfg 2 F.PIF_SC_CFG_AMP_LO : Int) * 2 ^ 64 ≤ (a * a + b * b) * 256 →
        (a * a + b * b) * 256 ≤ (x.cfg 2 F.PIF_SC_CFG_AMP_HI : Int) * 2 ^ 64 → (a ≠ 0 ∨ b ≠ 0) →
        let i := x.cfg 2 F.PIF_SC_CFG_INTERP_LOG2
        Does (.sincosConversion p sn cs at') s (fun t => SameStores s t ∧ match quadrantNear qc (fineAngle i a b / 2 ^ (i - 2)) with
          | some n =>
            let new := 2 ^ (i - 2) * n + (fineAngle i a b % 2 ^ (i - 2) : Nat)
            (t.pif p).fine = some new ∧ (t.pif p).count = x.count + if x.cfg 0 F.PIF_CFG_INV_DIR = 1 then v - new else new - v
          | none => t.flagged .a (bPIF p) 5 ∧ (t.pif p).sync = true))))
    ∧ (∀ l, (x.mode = 1 ∨ x.mode = 2) → x.last = some l → Does (.velTimeout p) s (fun t => (t.pif p).v = 0 ∧ (t.pif p).r = 0
        ∧ t.now = max s.now (l.2 + 1000000000 * max 1 (s.dg (R.PIF_VEL_CFG p) F.PIF_VEL_CFG_VEL_TMO)) ∧ SameStores s t
        ∧ RegsKept .a s t []))
    ∧ (∀ raw : Nat, x.mode = 4 → x.cfg 3 F.PIF_SER_CFG_TRAIL ≤ x.cfg 3 F.PIF_SER_CFG_ERR_POS → x.cfg 3 F.PIF_SER_CFG_PARITY = 0 →
      let n := x.cfg 3 F.PIF_SER_CFG_BITS
      let bits := raw / 2 ^ x.cfg 3 F.PIF_SER_CFG_TRAIL % 2 ^ n
      let pos := if x.cfg 3 F.PIF_SER_CFG_GRAY = 1 then ungray 48 bits else bits
      Does (.ssiFrameEnd p true raw) s (fun t => Sampled t ∧ RegsKept .a s t [R.PIF_STATUS p] ∧ (t.pif p).count = Moved n pos))
    ∧ (∀ raw : Nat, x.mode = 4 → Does (.ssiFrameEnd p false raw) s (fun t => (t.pif p).count = x.count ∧ t.flagged .a (bPIF p) 4
        ∧ Sampled t ∧ RegsKept .a s t (R.PIF_STATUS p :: flagSlots (bPIF p) 4)))
    ∧ (∀ raw d : Nat, x.mode = 5 → d ≤ x.cfg 4 F.PIF_SER_CFG2_ACK_TMO →
      let n := x.cfg 3 F.PIF_SER_CFG_BITS
      let cl := x.cfg 4 F.PIF_SER_CFG2_CRC_LEN
      let data := raw / 2 ^ cl % 2 ^ (n + 2)
      (cl = 0 ∨ raw % 2 ^ cl = 2 ^ cl - 1 - crcMsb cl (x.cfg 4 F.PIF_SER_CFG2_CRC_POLY) (n + 2) data 0) →
      bitN data 0 = true → bitN data 1 = true →
      Does (.bissFrameEnd p (some d) raw) s (fun t => (t.pif p).count = Moved n (data / 4) ∧ Sampled t
        ∧ RegsKept .a s t [R.PIF_STATUS p]))
    ∧ (∀ raw : Nat, x.mode = 5 → Does (.bissFrameEnd p none raw) s (fun t => (t.pif p).count = x.count ∧ t.flagged .a (bPIF p) 4
        ∧ Sampled t ∧ RegsKept .a s t (R.PIF_STATUS p :: flagSlots (bPIF p) 4))))
  ∧ (∀ (p : Fin 24) (s : State), s.sense.pifs.length = 24 →
    let x := s.pif p
    Does (.pifCapture p) s (fun t => t.rd .a (R.PIF_CNT p) = lo72 (x.count % 2 ^ 72).toNat
        ∧ t.rd .a (R.PIF_IDX_LATCH p) = lo72 (x.idx % 2 ^ 72).toNat ∧ t.rd .a (R.PIF_IDX_REF p) = lo72 (x.ref.getD 0 % 2 ^ 72).toNat
        ∧ t.rd .a (R.PIF_VEL p) = x.v
        ∧ Keeps .a s t [R.PIF_CNT p, R.PIF_CNT p + 1, R.PIF_IDX_LATCH p, R.PIF_IDX_LATCH p + 1, R.PIF_IDX_REF p, R.PIF_IDX_REF p + 1,
          R.PIF_VEL p])
    ∧ (s.dg (R.PIF_STATUS p) F.PIF_STATUS_CLOSED = 0 → Does (.setCount p) s (fun t => (t.pif p).cmds = x.cmds ++ [2]
        ∧ (t.pif p).count = x.count ∧ SameStores s t ∧ RegsKept .a s t []))
    ∧ (s.dg (R.PIF_STATUS p) F.PIF_STATUS_CLOSED = 0 → x.ref ≠ none → Does (.correct p) s (fun t => (t.pif p).cmds = x.cmds ++ [3]
        ∧ (t.pif p).count = x.count ∧ SameStores s t ∧ RegsKept .a s t []))
    ∧ (s.dg (R.PIF_STATUS p) F.PIF_STATUS_CLOSED = 1 → ∀ c ∈ [Instr.setCount p, .correct p], Does c s (fun t =>
        t.dg (R.PIF_STATUS p) F.PIF_STATUS_REFUSE = 1 ∧ t.flagged .a (bPIF p) 7
        ∧ Keeps .a s t (R.PIF_STATUS p :: flagSlots (bPIF p) 7)))
    ∧ (s.dg (R.PIF_STATUS p) F.PIF_STATUS_CLOSED = 0 → x.ref = none → Does (.correct p) s (fun t =>
        t.dg (R.PIF_STATUS p) F.PIF_STATUS_REFUSE = 2 ∧ t.flagged .a (bPIF p) 7
        ∧ Keeps .a s t (R.PIF_STATUS p :: flagSlots (bPIF p) 7)))
    ∧ Does (.armRef p) s (fun t => (t.pif p).armed = true ∧ (t.pif p).ref = x.ref ∧ SameStores s t ∧ RegsKept .a s t [])
    ∧ Does (.clearRef p) s (fun t => (t.pif p).armed = false ∧ (t.pif p).ref = none
        ∧ t.dg (R.PIF_STATUS p) F.PIF_STATUS_REF_VALID = 0 ∧ SameStores s t ∧ RegsKept .a s t [R.PIF_STATUS p])
    ∧ (∀ code : BitVec 4, 6 ≤ code.toNat → Does (.pifCmdReserved p code) s (fun t =>
        t.dg (R.PIF_STATUS p) F.PIF_STATUS_REFUSE = 3 ∧ t.flagged .a (bPIF p) 7
        ∧ Keeps .a s t (R.PIF_STATUS p :: flagSlots (bPIF p) 7)))
    ∧ (∀ (r : PifReg) (v : Word), s.dg (R.PIF_STATUS p) F.PIF_STATUS_CLOSED = 0 → pifRefusal p r v = 0 →
        Does (.pifConfigWrite p r v) s (fun t => t.rd .a (pifSlot p r) = rwMerge (pifSlot p r) (s.rd .a (pifSlot p r)) v
          ∧ Keeps .a s t [pifSlot p r]))
    ∧ (∀ (r : PifReg) (v : Word), s.dg (R.PIF_STATUS p) F.PIF_STATUS_CLOSED = 1 → Does (.pifConfigWrite p r v) s (fun t =>
        t.dg (R.PIF_STATUS p) F.PIF_STATUS_REFUSE = 1 ∧ t.flagged .a (bPIF p) 7
        ∧ Keeps .a s t (R.PIF_STATUS p :: flagSlots (bPIF p) 7)))
    ∧ (∀ (r : PifReg) (v : Word), s.dg (R.PIF_STATUS p) F.PIF_STATUS_CLOSED = 0 → pifRefusal p r v ≠ 0 →
        Does (.pifConfigWrite p r v) s (fun t => t.dg (R.PIF_STATUS p) F.PIF_STATUS_REFUSE = pifRefusal p r v
          ∧ t.flagged .a (bPIF p) 7 ∧ Keeps .a s t (R.PIF_STATUS p :: flagSlots (bPIF p) 7)))
    ∧ (∀ (f : Fin 25) (w : List Word) (rest : List (List Word)),
        let queue := fun (u : State) => if f.val < 24 then (u.pif f).fifo else u.sense.fifo
        let lg := s.dg R.PIF_PICOT_CFG F.PIF_PICOT_CFG_SIZE_LOG2
        let a := s.sense.picBase / 2 ^ (2 + lg) * 2 ^ (2 + lg) + 4 * (s.dg R.PIF_PICOT_WR F.PIF_PICOT_WR_COUNT % 2 ^ lg)
        queue s = w :: rest → w.length = 4 → 6 ≤ lg → lg ≤ 16 → a + 4 ≤ storeWords →
        Does (.picotDrain f) s (fun t =>
          queue t = rest ∧ (∀ q, t.swords q a 4 = (if s.linkUp (senseLink q) ∧ s.linkUp (storeLink q) ∧ (s.ward q).inReset = false
            then w else s.swords q a 4))
          ∧ (∀ q b, b / 4 ≠ a / 4 → t.sw q b = s.sw q b)
          ∧ t.dg R.PIF_PICOT_WR F.PIF_PICOT_WR_COUNT = (s.dg R.PIF_PICOT_WR F.PIF_PICOT_WR_COUNT + 1) % 2 ^ 32
          ∧ RegsKept .a s t [R.PIF_PICOT_WR])))

/-- Compare units: ARM takes the value of a TIME unit that is ahead; a committed fire acts on its output at its time and is the
unit's last one; a TIME unit fires at its value; DISARM lets committed fires stand; FIRE_NOW acts at once; a configuration
register of an armed unit is refused with REFUSE = 0x1 (R251, R252, R253, R255, R261, R262, R263). Trigger outputs and path
firings: a pending pulse ends at its time; a routed event applies EVT_ACTION; a prediction that arrives in time is placed in the
order of the firings, the earliest one acts, and a cancel drops those of its arm that lie ahead (R257, R259, R260, R261). It
rests on the model's readings in log entries 2, 73, 74. -/
def Obligations.CompareUnitsFire : Prop :=
  (∀ (u : Fin 16) (s : State), s.sense.cmps.length = 16 → s.sense.trgs.length = 8 → s.sense.fifo.length < 63 →
    let x := s.cmp u
    let st := R.CMP_STATUS u
    (cmpCfg u F.CMP_CFG_KIND s = 2 → cmpCfg u F.CMP_CFG_DIR s = 1 → s.dg st F.CMP_STATUS_STATE = 0 →
      s.now * 4294967296 ≤ of72 (s.rd .a (R.CMP_VAL u)) (s.rd .a (R.CMP_VAL_HI u)) * 1000000000000 →
      Does (.arm u) s (fun t => (t.cmp u).live = true ∧ t.dg st F.CMP_STATUS_STATE = 1
        ∧ (t.cmp u).c = (of72 (s.rd .a (R.CMP_VAL u)) (s.rd .a (R.CMP_VAL_HI u)) : Nat)
        ∧ (t.cmp u).rem = s.dg (R.CMP_REPEAT u) F.CMP_REPEAT_COUNT ∧ SameStores s t ∧ RegsKept .a s t [st]))
    ∧ (∀ (f g : Fire) (rest : List Fire), x.fires = f :: g :: rest → f.trg < 8 → (s.trg f.trg).pulse = none → f.act < 4 →
      Does (.localFire u) s (fun t => (t.cmp u).fires = g :: rest ∧ (t.cmp u).last = some f.t
        ∧ t.trg f.trg = (match f.act with
          | 0 => ⟨true, some ⟨f.t + f.width, f.tag, true, u⟩⟩
          | 1 => ⟨true, none⟩
          | 2 => ⟨false, none⟩
          | _ => ⟨!(s.trg f.trg).level, none⟩)
        ∧ t.flagged .a (bCMP u) 0 ∧ t.flagged .a (bTRG f.trg) 0 ∧ (f.late = true → t.flagged .a (bCMP u) 1) ∧ t.now = max s.now f.t
        ∧ t.sense.fifo = s.sense.fifo ++ [picotOf 3 f.trg f.act f.late false f.tag f.t (wordN (2 ^ 35 + u))] ∧ SameStores s t))
    ∧ (cmpCfg u F.CMP_CFG_KIND s = 2 → x.live = true → x.fires = [] → x.last = none → s.rd .a (R.CMP_STEP u) = 0 →
      cmpCfg u F.CMP_CFG_TRG s < 8 → (s.trg (cmpCfg u F.CMP_CFG_TRG s)).pulse = none → cmpCfg u F.CMP_CFG_ACTION s = 2 →
      Does (.timeFire u) s (fun t => (t.cmp u).live = false ∧ (t.cmp u).fires = [] ∧ t.dg st F.CMP_STATUS_STATE = 0
        ∧ (t.trg (cmpCfg u F.CMP_CFG_TRG s)).level = false ∧ t.flagged .a (bCMP u) 0
        ∧ (t.cmp u).last = some ((rneDiv (x.c * 2000000000) (2 ^ 32)).toNat * 500) ∧ SameStores s t))
    ∧ Does (.disarm u) s (fun t => (t.cmp u).live = false ∧ (t.cmp u).fires = x.fires ∧ t.dg st F.CMP_STATUS_STATE = 0 ∧ SameStores s t
        ∧ RegsKept .a s t [st])
    ∧ (cmpCfg u F.CMP_CFG_TRG s < 8 → (s.trg (cmpCfg u F.CMP_CFG_TRG s)).pulse = none → cmpCfg u F.CMP_CFG_ACTION s = 1 →
      Does (.fireNow u) s (fun t => t.trg (cmpCfg u F.CMP_CFG_TRG s) = ⟨true, none⟩ ∧ t.flagged .a (bCMP u) 0
        ∧ t.flagged .a (bTRG (cmpCfg u F.CMP_CFG_TRG s)) 1 ∧ t.cmp u = s.cmp u ∧ SameStores s t))
    ∧ (∀ code : BitVec 4, 4 ≤ code.toNat → Does (.cmpCmdReserved u code) s (fun t => t.dg st F.CMP_STATUS_REFUSE = 7
        ∧ t.flagged .a (bCMP u) 3 ∧ Keeps .a s t (st :: flagSlots (bCMP u) 3)))
    ∧ (∀ (r : CmpReg) (v : Word), s.dg st F.CMP_STATUS_STATE = 0 → holdsTrigs u s = false → Does (.cmpConfigWrite u r v) s (fun t =>
        t.rd .a (cmpSlot u r) = rwMerge (cmpSlot u r) (s.rd .a (cmpSlot u r)) v ∧ Keeps .a s t [cmpSlot u r]))
    ∧ (∀ (r : CmpReg) (v : Word), (s.dg st F.CMP_STATUS_STATE ≠ 0 ∨ holdsTrigs u s = true) → Does (.cmpConfigWrite u r v) s (fun t =>
        t.dg st F.CMP_STATUS_REFUSE = 1 ∧ t.flagged .a (bCMP u) 3 ∧ Keeps .a s t (st :: flagSlots (bCMP u) 3))))
  ∧ (∀ (u : Fin 16) (k : Fin 8) (s : State), s.sense.cmps.length = 16 → s.sense.trgs.length = 8 → s.sense.fifo.length < 63 →
    let x := s.cmp u
    (∀ e, (s.trg k).pulse = some e → Does (.pulseEnd k) s (fun t => t.trg k = ⟨false, none⟩ ∧ t.now = max s.now e.t
        ∧ t.sense.fifo = s.sense.fifo ++ [picotOf 3 k 4 false false e.tag e.t (wordN (b2n e.placed * 2 ^ 35 + e.unit))]
        ∧ t.dg (R.TRG_STATUS k) F.TRG_STATUS_LEVEL = 0 ∧ SameStores s t ∧ RegsKept .a s t [R.TRG_STATUS k]))
    ∧ (∀ rest, s.evm.trig = k.val :: rest → (s.trg k).pulse = none →
      Does .routedTrigger s (fun t => t.evm.trig = rest
        ∧ t.trg k = (match s.dg (R.TRG_CFG k) F.TRG_CFG_EVT_ACTION with
          | 0 => ⟨true, some ⟨slotUp s.now + widthPs (s.rd .a (R.TRG_EVT_WIDTH k)), 0, false, 0⟩⟩
          | 1 => ⟨true, none⟩
          | 2 => ⟨false, none⟩
          | _ => ⟨!(s.trg k).level, none⟩)
        ∧ t.dg (R.TRG_STATUS k) F.TRG_STATUS_LEVEL = b2n (t.trg k).level
        ∧ t.flagged .a (bTRG k) 1 ∧ SameStores s t ∧ RegsKept .a s t (R.TRG_STATUS k :: flagSlots (bTRG k) 1)))
    ∧ (∀ (pr : Pred) (rest : List SenseMsg), s.sense.flight = .pred pr :: rest → pr.unit = u.val →
      let f : Fire := ⟨max pr.t (slotUp s.now), pr.late || decide (pr.t < s.now), cmpCfg u F.CMP_CFG_TRG s, pr.act, widthPs pr.width, pr.tag⟩
      Does .pathPrediction s (fun t => t.sense.flight = rest ∧ SameStores s t
        ∧ if s.tcyc < (pathOfs u s).natAbs then t.dg (R.CMP_STATUS u) F.CMP_STATUS_REFUSE = 8 ∧ t.flagged .a (bCMP u) 3
            ∧ t.cmp u = s.cmp u ∧ RegsKept .a s t (R.CMP_STATUS u :: flagSlots (bCMP u) 3)
          else (t.cmp u).preds = x.preds.takeWhile (fun g => decide (g.t ≤ f.t)) ++ f :: x.preds.dropWhile (fun g => decide (g.t ≤ f.t))
            ∧ t.dg (R.CMP_STATUS u) F.CMP_STATUS_PRED = min 7 (x.preds.length + 1) ∧ RegsKept .a s t [R.CMP_STATUS u]))
    ∧ (∀ (f : Fire) (rest : List Fire), x.preds = f :: rest → x.last = none → f.trg = k.val → (s.trg k).pulse = none → f.act < 4 →
      Does (.pathFire u) s (fun t => (t.cmp u).preds = rest ∧ (t.cmp u).last = some f.t
        ∧ t.trg k = (match f.act with
          | 0 => ⟨true, some ⟨f.t + f.width, f.tag, true, u⟩⟩
          | 1 => ⟨true, none⟩
          | 2 => ⟨false, none⟩
          | _ => ⟨!(s.trg k).level, none⟩)
        ∧ t.flagged .a (bCMP u) 0 ∧ t.now = max s.now f.t ∧ SameStores s t))
    ∧ (∀ (a : Nat) (rest : List SenseMsg), s.sense.flight = .cancel a :: rest →
      Does .pathCancel s (fun t => t.sense.flight = rest ∧ SameStores s t
        ∧ ∀ v : Fin 16, (t.cmp v).preds = (if cmpCfg v F.CMP_CFG_KIND s = 1 ∧ cmpCfg v F.CMP_CFG_ARM s = a
          then (s.cmp v).preds.filter (fun f => decide (f.t < s.now)) else (s.cmp v).preds))))

/-- Channel 2 of the monitor: in a cycle of its period it evaluates, and its results and requests are with the Chanter; in
another cycle it only shows its period (R284, R285, R286). Deadlines of the monitor: a connection without an accepted envelope
for WD_TIME is lost; an arm still at its deadline is monitored and one that moves drops the channel's output with cause 0x4; a
request whose checks have held for RELEASE_T clears; a drive loss that stands drops the output with cause 0x5 (R276, R277, R280,
R282, R292). It rests on the model's readings in log entries 2, 77, 78, 79, 137. -/
def Obligations.ChannelTwoEvaluates : Prop :=
  (∀ (tab : SafetyTab) (s : State), s.tab.safety = some tab →
    (s.dg R.SSM2_STATUS F.SSM2_STATUS_STATE = 1 → s.n % 2 ^ t2Log s = 0 → Does .ssmCh2EvalDone s (fun t =>
        t.dg R.SSM2_STATUS F.SSM2_STATUS_T2_LOG2 = t2Log s ∧ t.ssm2.own.map (·.cycle) = some s.n ∧ SameStores s t
        ∧ ∀ q, s.chanter = some q → (t.ssm .one q).peer = t.ssm2.own ∧ (t.ssm .one q).sent2 = t.ssm2.arms.map (·.cat)))
    ∧ (s.dg R.SSM2_STATUS F.SSM2_STATUS_STATE ≠ 1 ∨ s.n % 2 ^ t2Log s ≠ 0 → Does .ssmCh2EvalDone s (fun t =>
        t.dg R.SSM2_STATUS F.SSM2_STATUS_T2_LOG2 = t2Log s ∧ Keeps .a s t [R.SSM2_STATUS])))
  ∧ (∀ (ch : SsmChan) (tab : SafetyTab) (s : State), s.tab.safety = some tab →
    let q := ssmPlane s
    let flags := fun j : Nat => match ch with
      | .one => flagSlots bSSM j
      | .two => flagSlots bSSM2 (j - 1)
    let Flagged := fun (t : State) (j : Nat) => match ch with
      | .one => t.flagged q bSSM j
      | .two => t.flagged q bSSM2 (j - 1)
    let Dropped := fun (cause : Nat) (t : State) => (t.ssm ch q).permit = false ∧ Flagged t 8 ∧ SameStores s t ∧ (match ch with
      | .one => t.get q R.SSM_STATUS F.SSM_STATUS_SSA_PERMIT = 0 ∧ t.get q R.SSM_STATUS F.SSM_STATUS_DROP_CAUSE = cause
          ∧ t.fio.ssa = false
      | .two => t.dg R.SSM2_STATUS F.SSM2_STATUS_SSB = 0 ∧ t.dg R.SSM2_STATUS F.SSM2_STATUS_DROP_CAUSE = cause)
    (∀ (c : Fin 128) (k : ConnTab), tab.conns[c.val]? = some k → k.chan = ssmNum ch → ((s.ssm ch q).conn c).lost = false →
      (s.ssm ch q).conns.length = 128 → Does (.connectionWatchdog ch c) s (fun t => ((t.ssm ch q).conn c).lost = true
        ∧ t.get q (connSlot ch c) F.SSM_CONN_OK = 0 ∧ t.get q (connSlot ch c) F.SSM_CONN_ERR = 4 ∧ Flagged t 5
        ∧ t.now = max s.now (((s.ssm ch q).conn c).at' + k.wdUs * 1000000) ∧ SameStores s t
        ∧ RegsKept q s t (connSlot ch c :: flags 5)))
    ∧ (∀ a : Fin 16, (s.ssm ch q).arms.length = 16 →
      let x := (s.ssm ch q).arm a
      let ts := (stopAt (stopTable ch q tab a s) ((x.v0 : Rat) / 16777216)).2
      let v := nth (((s.ssm ch q).own.map (·.speed)).getD []) a 0
      (x.cat.isSome = true → x.monitored = false → v ≤ (tab.arm a).vstill.toNat → Does (.stopMonitorDeadline ch a) s (fun t =>
        (t.ssm ch q).arm a = { x with monitored := true, failed := false }
        ∧ t.get q (ssmSlot ch (R.SSM_ARM_STATE a) (R.SSM2_ARM_STATE a)) F.SSM_ARM_STATE_MONITORING = b2n (x.cat == some 2)
        ∧ t.now = max s.now (x.t0 + reaction x.sens s + psOfRat ts + (tab.arm a).tmonMs * 1000000000) ∧ SameStores s t
        ∧ RegsKept q s t [ssmSlot ch (R.SSM_ARM_STATE a) (R.SSM2_ARM_STATE a)]))
      ∧ (x.cat.isSome = true → x.monitored = false → (tab.arm a).vstill.toNat < v →
        Does (.stopMonitorDeadline ch a) s (fun t => Flagged t 2 ∧ ((t.ssm ch q).arm a).failed = true
          ∧ ((s.ssm ch q).permit = true → Dropped 4 t)))
      ∧ ((x.cat = none ∨ x.monitored = true) → Does (.stopMonitorDeadline ch a) s (fun t => Keeps q s t []))
      ∧ ((x.cat = none ∨ x.okSince = none) → Does (.stopRelease ch a) s (fun t => Keeps q s t []))
      ∧ (x.lostAt = none → Does (.driveLossDrop ch a) s (fun t => Keeps q s t []))
      ∧ (∀ since, x.cat.isSome = true → x.okSince = some since →
        (x.cause = 6 → (s.ssm .one q).permit = true ∧ s.ssm2.permit = true) → Does (.stopRelease ch a) s (fun t =>
        (t.ssm ch q).arm a = { x with cat := none, cause := 0, monitored := false, failed := false }
        ∧ t.rd q (ssmSlot ch (R.SSM_ARM_STATE a) (R.SSM2_ARM_STATE a))
          = wordN (s.get q (ssmSlot ch (R.SSM_ARM_STATE a) (R.SSM2_ARM_STATE a)) F.SSM_ARM_STATE_NEAREST * 2 ^ 20)
        ∧ t.now = max s.now (since + (tab.arm a).releaseMs * 1000000000) ∧ SameStores s t
        ∧ RegsKept q s t [ssmSlot ch (R.SSM_ARM_STATE a) (R.SSM2_ARM_STATE a)]))
      ∧ (∀ t0, x.lostAt = some t0 → (s.ssm ch q).permit = true → Does (.driveLossDrop ch a) s (fun t => Dropped 5 t
        ∧ t.now = max s.now (t0 + reaction 0 s + psOfRat (stopAt (stopTable ch q tab a s) (fixed (tab.arm a).vref 24)).2)))))

/-- The outputs of the monitor: a test pulse of SAFE_STOP_B that reads back wrong, and DROP, drop both outputs; a passed pulse
changes nothing; a good pulse on the reset pair permits both again where no cause stands; reserved codes are ignored and flagged
(R291, R292, R293, R300). It rests on the model's readings in log entries 77, 79. -/
def Obligations.OutputsDropAndAreReset : Prop :=
  ∀ s : State,
    let q := ssmPlane s
    let BothDown := fun (cause : Nat) (t : State) => (t.ssm .one q).permit = false ∧ t.ssm2.permit = false ∧ t.fio.ssa = false
      ∧ t.get q R.SSM_STATUS F.SSM_STATUS_DROP_CAUSE = cause ∧ t.dg R.SSM2_STATUS F.SSM2_STATUS_DROP_CAUSE = cause
      ∧ t.dg R.SSM2_STATUS F.SSM2_STATUS_SSB = 0 ∧ t.dg R.FIO_STATUS F.FIO_STATUS_SSA = 0
      ∧ t.flagged q bSSM 8 ∧ t.flagged .a bSSM2 7 ∧ SameStores s t
    ((s.ssm .one q).permit = true → s.ssm2.permit = true →
      Does .drop s (BothDown 7)
      ∧ (∀ low high : Bool, (low || !high) = true → Does (.ssbTestPulse low high) s (fun t => BothDown 6 t ∧ t.flagged .a bSSM2 9)))
    ∧ (∀ low high : Bool, (s.ssm2.permit && (low || !high)) = false → Does (.ssbTestPulse low high) s (fun t => Keeps .a s t []))
    ∧ (∀ (tab : SafetyTab) (w1 w2 e1 e2 : Nat), s.tab.safety = some tab → s.chanter = some q → 100000 ≤ w1 → w1 ≤ 2000000 →
      100000 ≤ w2 → w2 ≤ 2000000 → e1 ≤ e2 + 500000 → e2 ≤ e1 + 500000 → s.isReady = true →
      s.dg R.FIO_STATUS F.FIO_STATUS_SUPPLY < 2 → s.boot.extest = false → causeStands .one q tab s = false →
      causeStands .two q tab s = false → ((s.ssm .one q).permit && s.ssm2.permit) = false → Does (.safetyReset w1 w2 e1 e2) s (fun t => (t.ssm .one q).permit = true
        ∧ t.ssm2.permit = true ∧ t.fio.ssa = true ∧ t.get q R.SSM_STATUS F.SSM_STATUS_SSA_PERMIT = 1
        ∧ t.get q R.SSM_STATUS F.SSM_STATUS_DROP_CAUSE = 0 ∧ t.dg R.SSM2_STATUS F.SSM2_STATUS_SSB = 1
        ∧ t.dg R.SSM2_STATUS F.SSM2_STATUS_SSA = 1 ∧ t.dg R.SSM2_STATUS F.SSM2_STATUS_DROP_CAUSE = 0
        ∧ t.dg R.FIO_STATUS F.FIO_STATUS_SSA = 1 ∧ t.flagged .a bSSM2 8 ∧ SameStores s t
        ∧ RegsKept q s t ([R.SSM_STATUS, R.SSM2_STATUS, R.FIO_STATUS] ++ flagSlots bSSM2 8)))
    ∧ (∀ (w1 w2 e1 e2 : Nat), (w1 < 100000 ∨ 2000000 < w1 ∨ w2 < 100000 ∨ 2000000 < w2 ∨ e2 + 500000 < e1 ∨ e1 + 500000 < e2
        ∨ s.isReady = false ∨ 2 ≤ s.dg R.FIO_STATUS F.FIO_STATUS_SUPPLY ∨ s.tab.safety = none ∨ s.chanter = none
        ∨ s.boot.extest = true) →
      Does (.safetyReset w1 w2 e1 e2) s (fun t => Keeps .a s t []))
    ∧ (∀ code : BitVec 4, 2 ≤ code.toNat → Does (.ssm2CmdReserved code) s (fun t => t.flagged .a bSSM2 10
        ∧ Keeps .a s t (flagSlots bSSM2 10)))

/-- Polls and responses of the Cell Bus: a poll leaves with its frame and its slot waits for the response, a NULL poll without
the content of the last commit, and one that departs early or late is reported; an accepted response writes its status word and
its data into each store that the links reach, or the reply of a mailbox; a bad FCS is counted; a window that closes without a
response writes the status word alone and is counted, and its station can be LOST (R30, R308, R315, R319, R320, R325, R326,
R328, R333). It rests on the model's readings in log entries 2, 7, 93, 99, 124. -/
def Obligations.PollsAndResponsesPass : Prop :=
  ∀ (c : Fin 2) (s : State), s.cbus.chs.length = 2 → s.pa.store.bad = [] → s.pb.store.bad = [] →
    let x := s.bus c
    let b := actBank c s
    let Reached := fun q : Plane => s.linkUp (portLink q) = true ∧ s.linkUp (storeLink q) = true ∧ (s.ward q).inReset = false
    (∀ (k : Fin 256) (dev : Int) (mail : List Word), polled c (busSlot c b k s) s = true → 0 ≤ dev → dev ≤ 40000 →
      Does (.pollDeparture c k dev mail) s (fun t =>
        let y := busSlot c b k s
        let null := y.kind != 1 && !busFresh s
        let words := if y.kind = 1 then mail.take y.tx else if null then [] else gatherTx c b y s
        let d := s.ct0Hts + y.time + dev.toNat
        let a := arrivalOf c d words.length y.station s
        t.bus c = { x with
          waits := x.waits ++ [⟨k, y.station, a, a - guardPs c s, a + lMax c y s + guardPs c s, y.rx, y.srx, y.ofs, y.kind == 1, false⟩]
          mutes := x.mutes.filter (· != y.station)
          poll := busFrame c 2 (b2n null + 2 * b2n (y.kind == 1) + 4 * b2n (x.mutes.contains y.station)) y.station k words s }
        ∧ t.now = max s.now d ∧ SameStores s t
        ∧ if null then t.flagged .a (bBUS c) 12 ∧ t.get .a R.TIM_CYC_FLAGS ⟨6, 6⟩ = 1
            ∧ RegsKept .a s t (R.CBUS_CH_CNT_NULL c :: flagSlots (bBUS c) 12 ++ flagSlots bCYC 6)
          else RegsKept .a s t []))
    ∧ (∀ (k : Fin 256) (dev : Int) (mail : List Word), polled c (busSlot c b k s) s = true → dev < 0 ∨ 40000 < dev →
      Does (.pollDeparture c k dev mail) s (fun t => t.flagged .a (bBUS c) 11 ∧ (t.bus c).mutes = x.mutes
        ∧ (t.bus c).waits.length = x.waits.length + 1 ∧ (dev < 0 → (t.bus c).poll = x.poll) ∧ SameStores s t))
    ∧ (∀ (k : Fin 256) (dev : Int) (mail : List Word), polled c (busSlot c b k s) s = false →
      Does (.pollDeparture c k dev mail) s (fun t => Keeps .a s t []))
    ∧ (∀ (f : BusFrame) (w : SlotWait), busState c s = 4 ∨ busState c s = 5 → f.fcs = true → frameOk c f s = true → f.kind = 3 →
      answers c f s = some w → w.station < 64 →
      let kept := [R.CBUS_STN_STATUS c w.station, R.CBUS_CH_CNT_NOTREADY c] ++ [5, 8, 10, 13].flatMap (flagSlots (bBUS c))
      let n := f.flags.toNat
      let Shown := fun t : State => t.dg (R.CBUS_STN_STATUS c w.station) F.CBUS_STN_STATUS_MISS_RUN = 0
        ∧ (onTime c f w s = false → t.flagged .a (bBUS c) 8) ∧ (bitN n 2 = true → t.flagged .a (bBUS c) 13)
        ∧ (bitN n 3 = true → t.flagged .a (bBUS c) 10) ∧ t.now = max s.now (frameEnd c f s) ∧ RegsKept .a s t kept
      (w.mgmt = false → s.cbus.imgBase + w.ofs + f.words.toNat < storeWords → Does (.responseReceived c f) s (fun t =>
        let a := s.cbus.imgBase + w.ofs
        (∀ q, (Reached q → t.sw q a = wordN (2 ^ 35 + n % 2 * 2 ^ 34 + b2n (!onTime c f w s) * 2 ^ 33 + n / 4 % 2 * 2 ^ 32
              + (if compat c s then 0 else f.invalid.toNat) * 2 ^ 16 + s.n % 2 ^ 16)
            ∧ (∀ i, i < f.words.toNat → t.sw q (a + 1 + i) = nth f.data i 0))
          ∧ (∀ i, ¬ Reached q ∨ i < a ∨ a + f.words.toNat < i → t.sw q i = s.sw q i))
        ∧ (stnState c w.station s = 2 → stnState c w.station t = 3) ∧ Shown t))
      ∧ (w.mgmt = true → Does (.responseReceived c f) s (fun t => (t.bus c).reply = (w.station, f.data.take f.words.toNat)
        ∧ SameStores s t ∧ Shown t)))
    ∧ (∀ f : BusFrame, busState c s = 4 ∨ busState c s = 5 → f.fcs = false → Does (.responseReceived c f) s (fun t =>
        t.flagged .a (bBUS c) 9 ∧ t.dg (R.CBUS_CH_CNT_CRC c) F.CBUS_CH_CNT_MISS_COUNT
          = satAdd F.CBUS_CH_CNT_MISS_COUNT.width (s.dg (R.CBUS_CH_CNT_CRC c) F.CBUS_CH_CNT_MISS_COUNT) 1
        ∧ t.bus c = s.bus c ∧ SameStores s t ∧ RegsKept .a s t (R.CBUS_CH_CNT_CRC c :: flagSlots (bBUS c) 9)))
    ∧ (∀ (k : Fin 256) (w : SlotWait), x.waits.find? (fun w => w.slot == k.val) = some w → w.station < 64 →
      (w.got = true → Does (.receiveWindowClose c k) s (fun t => t.now = max s.now w.hi
        ∧ (t.bus c).waits = x.waits.flatMap (fun v => if v.slot = k.val then [] else [v]) ∧ SameStores s t ∧ RegsKept .a s t []))
      ∧ (w.got = false → s.cbus.imgBase + w.ofs < storeWords →
        let run := min 31 (s.dg (R.CBUS_STN_STATUS c w.station) F.CBUS_STN_STATUS_MISS_RUN + 1)
        let lost := decide (max 1 (s.dg (R.CBUS_CH_CFG c) F.CBUS_CH_CFG_MISS_N) ≤ run)
          && (stnState c w.station s == 2 || stnState c w.station s == 3)
        Does (.receiveWindowClose c k) s (fun t =>
          (∀ q, (Reached q → w.mgmt = false → t.sw q (s.cbus.imgBase + w.ofs) = wordN (s.n % 2 ^ 16))
            ∧ ∀ i, (¬ Reached q ∨ w.mgmt = true ∨ i ≠ s.cbus.imgBase + w.ofs) → t.sw q i = s.sw q i)
          ∧ stnState c w.station t = (if lost then 4 else stnState c w.station s) ∧ (lost = true → t.flagged .a (bBUS c) 4)
          ∧ t.dg (R.CBUS_CH_CNT_MISS c) F.CBUS_CH_CNT_MISS_COUNT
            = satAdd F.CBUS_CH_CNT_MISS_COUNT.width (s.dg (R.CBUS_CH_CNT_MISS c) F.CBUS_CH_CNT_MISS_COUNT) 1
          ∧ t.dg (R.CBUS_STN_STATUS c w.station) F.CBUS_STN_STATUS_MISS_RUN = run ∧ t.flagged .a (bBUS c) 7
          ∧ RegsKept .a s t ([R.CBUS_CH_CNT_MISS c, R.CBUS_STN_STATUS c w.station] ++ flagSlots (bBUS c) 7 ++ flagSlots (bBUS c) 4))))
    ∧ (∀ k : Fin 256, x.waits.find? (fun w => w.slot == k.val) = none → Does (.receiveWindowClose c k) s (fun t => Keeps .a s t []))

/-- A channel's way up and down: the probe records each station's echo and ends in CONFIG; CONFIG ends in RUN with the bank
checked; foreign frames silence a listening channel and send a running one to BACKOFF; the listen time leads to BEACONING or
back to RUN; a lost link is reported (R314, R316, R332, R334). It rests on the model's readings in log entries 2, 91, 95, 96,
97, 98, 99. -/
def Obligations.ChannelsProbeAndListen : Prop :=
  ∀ (c : Fin 2) (s : State), s.cbus.chs.length = 2 →
    let x := s.bus c
    let st := R.CBUS_CH_STATUS c
    (∀ f : BusFrame, busState c s = 3 → f.fcs = true → frameOk c f s = true → f.kind = 5 → f.data.length = 3 → f.hop.toNat < 64 →
      (echoOf c f.hop.toNat s).rts.length < x.cnt →
      (x.cnt ≠ 8 ∨ bitN (nth f.data 2 0).toNat 0 = false → Does (.echoReceived c f) s (fun t =>
        echoOf c f.hop.toNat t = ⟨f.hop.toNat, (echoOf c f.hop.toNat s).rts
          ++ [(frameAt c f s : Int) - x.probeX - bitsAt (nth f.data 0 0) 24 12 * 1000 - f.hop.toNat * echoGap c s],
          nth f.data 0 0, nth f.data 1 0, nth f.data 2 0⟩
        ∧ t.now = max s.now (frameEnd c f s) ∧ SameStores s t ∧ RegsKept .a s t []))
      ∧ (x.cnt = 8 → bitN (nth f.data 2 0).toNat 0 = true → Does (.echoReceived c f) s (fun t => busState c t = 4
        ∧ t.flagged .a (bBUS c) 14 ∧ (t.bus c).echoes = [] ∧ SameStores s t)))
    ∧ (∀ f : BusFrame, busState c s ≠ 3 → Does (.echoReceived c f) s (fun t => t.now = max s.now (frameEnd c f s) ∧ t.cbus = s.cbus
        ∧ SameStores s t ∧ RegsKept .a s t []))
    ∧ (busState c s ≠ 4 → Does (.configComplete c) s (fun t => Keeps .a s t []))
    ∧ (x.listen = none → Does (.listenTimeExpiry c) s (fun t => Keeps .a s t []))
    ∧ (busState c s = 4 →
      let u := each (List.range (found c s)) (fun k s => if stnState c k s = 0 then setStn c k 2 s else s) s
      checkBank c (actBank c u) u ≠ 0 → Does (.configComplete c) s (fun t => busState c t = 4 ∧ t.flagged .a (bBUS c) 1
        ∧ t.dg st F.CBUS_CH_STATUS_REFUSE = checkBank c (actBank c u) u ∧ (t.bus c).bad = true ∧ SameStores s t))
    ∧ (busState c s = 4 → found c s ≤ 64 →
      (let u := each (List.range (found c s)) (fun k s => if stnState c k s = 0 then setStn c k 2 s else s) s
       checkBank c (actBank c u) u = 0) → Does (.configComplete c) s (fun t => busState c t = 5 ∧ t.flagged .a (bBUS c) 0
        ∧ (∀ k, k < found c s → stnState c k t = if stnState c k s = 0 then 2 else stnState c k s) ∧ SameStores s t
        ∧ RegsKept .a s t (st :: (List.range 64).map (R.CBUS_STN_STATUS c) ++ flagSlots (bBUS c) 0)))
    ∧ (∀ f : BusFrame, frameOk c f s = true → f.kind = 1 ∨ f.kind = 2 ∨ f.kind = 4 →
      (busState c s = 1 ∨ busState c s = 6 → Does (.foreignFrame c f) s (fun t => busState c t = 7 ∧ t.flagged .a (bBUS c) 2
        ∧ SameStores s t ∧ RegsKept .a s t (st :: flagSlots (bBUS c) 2 ++ flagSlots (bBUS c) 0)))
      ∧ (busState c s = 5 → x.backAt = none → Does (.foreignFrame c f) s (fun t => busState c t = 6 ∧ t.flagged .a (bBUS c) 2
        ∧ (t.bus c).waits = [] ∧ (t.bus c).backAt = some s.n ∧ SameStores s t
        ∧ RegsKept .a s t (st :: flagSlots (bBUS c) 2 ++ flagSlots (bBUS c) 0)))
      ∧ (∀ n0, busState c s = 5 → x.backAt = some n0 → Does (.foreignFrame c f) s (fun t =>
        busState c t = (if s.n ≤ n0 + 64 then 7 else 6) ∧ t.flagged .a (bBUS c) 2
        ∧ (t.bus c).waits = [] ∧ (t.bus c).backAt = some s.n ∧ SameStores s t
        ∧ RegsKept .a s t (st :: flagSlots (bBUS c) 2 ++ flagSlots (bBUS c) 0))))
    ∧ (∀ t0, x.listen = some t0 → busState c s = 1 ∨ busState c s = 6 → Does (.listenTimeExpiry c) s (fun t =>
        busState c t = (if busState c s = 1 then 2 else 5) ∧ t.now = max s.now t0 ∧ (t.bus c).listen = none
        ∧ t.flagged .a (bBUS c) 0 ∧ SameStores s t ∧ RegsKept .a s t (st :: flagSlots (bBUS c) 0)))
    ∧ Does (.masterLinkDown c) s (fun t => t.flagged .a (bBUS c) 3 ∧ busState c t = busState c s
        ∧ Keeps .a s t (flagSlots (bBUS c) 3))

/-- The commands of a channel: START from OFF, STOP, RELEASE from SILENT and REPROBE from RUN change its state; TABLE_APPLY
keeps a bank that passes for the next CT0 and refuses one that fails with the number of the check; MUTE_RELEASE marks its
station; a reserved code is refused with REFUSE = 0xA; a register of a channel at work is protected with REFUSE = 0x2 (R316,
R323, R332, R336). It rests on the model's readings in log entries 91, 92, 94. -/
def Obligations.ChannelsObeyCommands : Prop :=
  ∀ (c : Fin 2) (s : State), s.cbus.chs.length = 2 →
    let st := R.CBUS_CH_STATUS c
    let Entered := fun (code : Nat) (t : State) => busState c t = code ∧ t.flagged .a (bBUS c) 0 ∧ SameStores s t
      ∧ RegsKept .a s t (st :: flagSlots (bBUS c) 0)
    let Refused := fun (code : Nat) (t : State) => t.dg st F.CBUS_CH_STATUS_REFUSE = code ∧ t.flagged .a (bBUS c) 1
      ∧ Keeps .a s t (st :: flagSlots (bBUS c) 1)
    (busState c s = 0 → speedBad c s = true → Does (.cbusStart c) s (Refused 11))
    ∧ (busClosed c s = false → busState c s = 0 → Does (.cbusStop c) s (fun t => Keeps .a s t []))
    ∧ (busState c s ≠ 5 → Does (.reprobe c) s (Refused 2))
    ∧ (busState c s = 5 → busClosed c s = true → Does (.reprobe c) s (Refused 1))
    ∧ (compat c s = true → speedBad c s = true → Does (.tableApply c) s (Refused 11))
    ∧ (busState c s = 0 → speedBad c s = false → Does (.cbusStart c) s (fun t => Entered 1 t ∧ (t.bus c).listen = some (listenEnd s)))
    ∧ (busState c s ≠ 0 → Does (.cbusStart c) s (Refused 2))
    ∧ (busClosed c s = false → busState c s ≠ 0 → Does (.cbusStop c) s (fun t => Entered 0 t ∧ (t.bus c).waits = []))
    ∧ (busClosed c s = true → Does (.cbusStop c) s (Refused 1))
    ∧ (busState c s = 7 → Does (.cbusRelease c) s (fun t => Entered 1 t ∧ (t.bus c).listen = some (listenEnd s)))
    ∧ (busState c s ≠ 7 → Does (.cbusRelease c) s (Refused 2))
    ∧ (busState c s = 5 → busClosed c s = false → Does (.reprobe c) s (fun t => Entered 2 t ∧ (t.bus c).waits = []))
    ∧ ((compat c s && speedBad c s) = false → checkBank c (1 - actBank c s) s = 0 → Does (.tableApply c) s (fun t =>
        t.bus c = { s.bus c with bank := some (1 - actBank c s) } ∧ actBank c t = actBank c s ∧ SameStores s t ∧ RegsKept .a s t []))
    ∧ ((compat c s && speedBad c s) = false → checkBank c (1 - actBank c s) s ≠ 0 → Does (.tableApply c) s (Refused (checkBank c (1 - actBank c s) s)))
    ∧ Does (.muteRelease c) s (fun t => s.dg (R.CBUS_CH_ARG c) F.CBUS_CH_ARG_STATION ∈ (t.bus c).mutes
        ∧ (∀ k ∈ (s.bus c).mutes, k ∈ (t.bus c).mutes) ∧ SameStores s t ∧ RegsKept .a s t [])
    ∧ (∀ code : BitVec 4, 7 ≤ code.toNat → Does (.cbusCmdReserved c code) s (Refused 10))
    ∧ (∀ (r : BusReg) (v : Word), busGuards (busSlotOf r) s = [] → Does (.cbusConfigWrite r v) s (fun t =>
        t.rd .a (busSlotOf r) = rwMerge (busSlotOf r) (s.rd .a (busSlotOf r)) v ∧ Keeps .a s t [busSlotOf r]))
    ∧ (∀ (r : BusReg) (v : Word), busGuards (busSlotOf r) s = [c.val] → Does (.cbusConfigWrite r v) s (Refused 2))
    ∧ (∀ (r : BusReg) (v : Word), c.val ∈ busGuards (busSlotOf r) s → Does (.cbusConfigWrite r v) s (fun t =>
        t.dg st F.CBUS_CH_STATUS_REFUSE = 2 ∧ t.flagged .a (bBUS c) 1
        ∧ t.rd .a (busSlotOf r) = s.rd .a (busSlotOf r) ∧ SameStores s t))

/-- PTP messages: a Sync of the followed master gives the offset and moves the servo, at once or with its Follow_Up, and the
rate of cell time where the instance steers; a MASTER port sends Sync and Announce and answers delay requests; a delay answer
sets the path delay of its port and shows it; a message that has no part to play changes nothing (R341, R342, R345, R347). PTP
instances: an Announce is kept for the choice of master, or discarded with MSG_ERR; a receipt timeout forgets the masters of its
port; a lock that is lost leads to HOLDOVER at the mean rate; EN enables an instance as MASTER and disables it; capture,
reserved commands and links (R343, R346, R359). It rests on the model's readings in log entries 2, 41, 105, 106, 107. -/
def Obligations.PtpInstancesFollowTheirMessages : Prop :=
  (∀ (i : Fin 8) (f : Fin 4) (s : State), s.fed.ptp.length = 8 →
    let x := s.ptp i
    let Out := fun (l : List PtpOut) (t : State) => t.ptp i = { x with out := l, seq := (x.seq + 1) % 65536 } ∧ SameStores s t
      ∧ RegsKept .a s t []
    let Ignored := fun (c : Instr) => Does c s (fun t => Keeps .a s t [])
    let msg := fun (kind seq ns : Nat) (corr : Int) (dest : Nat) (ann : Option PtpAnn) =>
      (⟨kind, f, seq, ns, corr, dest, ann, s.dg (R.FED_PTP_CFG i) F.FED_PTP_CFG_DOMAIN,
        s.dg (R.FED_PTP_CFG i) F.FED_PTP_CFG_TRANSPORT == 1 && s.dg (R.FED_PTP_CFG i) F.FED_PTP_CFG_PROFILE == 0⟩ : PtpOut)
    let Answer := fun (l : List PtpOut) (t : State) => t.ptp i = { x with out := l } ∧ SameStores s t ∧ RegsKept .a s t []
    let Delayed := fun (d : Rat) (t : State) => t.ptp i
        = { x with mpd := x.mpd.set f d, req := x.req.set f none, resp := x.resp.set f none }
      ∧ t.rd .a (R.FED_PTP_DELAY i) = wordI (sat36 (roundReal (d * 256))) ∧ SameStores s t ∧ RegsKept .a s t [R.FED_PTP_DELAY i]
    (∀ (h : BitVec 72) (m : PtpMsg), ofMaster i f m s = true →
      (m.twoStep = true → Does (.ptpSyncReceived i f h m) s (fun t => t.ptp i = { x with sync := some (f, h.toNat, m) }
        ∧ SameStores s t ∧ RegsKept .a s t []))
      ∧ (∀ (stamp : Nat) (ns : Nat) (corr : Int) (cmd : Instr),
        ((m.twoStep = false ∧ cmd = .ptpSyncReceived i f h m ∧ stamp = h.toNat ∧ ns = m.ns ∧ corr = m.corr)
          ∨ ∃ y : PtpMsg, x.sync = some (f.val, stamp, y) ∧ y.seq = m.seq ∧ cmd = .ptpFollowUpReceived i f m ∧ ns = m.ns
            ∧ corr = y.corr + m.corr) →
        let th := instTime i (rxStamp f stamp s) s - ns - corrNs corr - nth x.mpd f 0 - portAsym f s
        let e := servoSync (servoPar i s) (steers i s) (ptpState i s) x.servo th stamp
        Does cmd s (fun t => t.rd .a (R.FED_PTP_OFS i) = ofsWord th ∧ t.rd .a (R.FED_PTP_RATE i) = wordI e.servo.rho
          ∧ (t.ptp i).servo = (if steers i s = false ∧ (e.lock = true ∨ e.jump = true) then { e.servo with theta := some 0 } else e.servo)
          ∧ ptpState i t = e.state ∧ SameStores s t
          ∧ (e.lock = true → t.get .a (R.FED_PTP_FLAGS i) ⟨0, 0⟩ = 1) ∧ (e.jump = true → t.get .a (R.FED_PTP_FLAGS i) ⟨2, 2⟩ = 1)
          ∧ (steers i s = true → t.fed.rhoNext = some e.servo.rho)
          ∧ (steers i s = false → e.state = ptpState i s → e.lock = false → e.jump = false →
            RegsKept .a s t [R.FED_PTP_OFS i, R.FED_PTP_RATE i]))))
    ∧ (∀ (h : BitVec 72) (m : PtpMsg), ofMaster i f m s = false → Ignored (.ptpSyncReceived i f h m))
    ∧ (∀ m : PtpMsg, (∀ h y, x.sync = some (f.val, h, y) → y.seq = m.seq → ofMaster i f m s = false) →
      Ignored (.ptpFollowUpReceived i f m))
    ∧ (portState i f s = 6 →
      (∀ h : BitVec 72,
        let e := splitNs (instTime i (txStamp f h.toNat s) s)
        Does (.ptpSyncSend i f h) s (Out (if s.dg (R.FED_PTP_CFG i) F.FED_PTP_CFG_ONE_STEP = 1 then [msg 0 x.seq e.1 e.2 0 none]
          else [msg 0 x.seq 0 0 0 none, msg 8 x.seq e.1 e.2 0 none])))
      ∧ (x.parent = none → Does (.ptpAnnounceSend i f) s (Out [msg 11 x.seq 0 0 0 (some { ownData i s with src := portId f s })]))
      ∧ (∀ p, x.parent = some p → Does (.ptpAnnounceSend i f) s
          (Out [msg 11 x.seq 0 0 0 (some { p with src := portId f s, steps := p.steps + 1 })]))
      ∧ (∀ (h : BitVec 72) (m : PtpMsg), peerDelay i s = false → Does (.ptpDelayReqReceived i f h m) s
          (let e := splitNs (instTime i (rxStamp f h.toNat s) s)
           Answer [msg 9 m.seq.toNat e.1 (m.corr - e.2) m.src none])))
    ∧ (portState i f s ≠ 6 → (∀ h : BitVec 72, Ignored (.ptpSyncSend i f h)) ∧ Ignored (.ptpAnnounceSend i f))
    ∧ (∀ (h : BitVec 72) (m : PtpMsg), (portState i f s ≠ 6 ∨ peerDelay i s = true) → Ignored (.ptpDelayReqReceived i f h m))
    ∧ (∀ h : BitVec 72, ptpState i s ≠ 0 → f.val ∈ memberPorts i s → (peerDelay i s = true ∨ portState i f s = 9) →
      Does (.ptpDelayReqSend i f h) s (fun t => t.ptp i = { x with
          req := x.req.set f (some (x.seq, instTime i (txStamp f h.toNat s) s))
          resp := x.resp.set f none
          out := [msg (if peerDelay i s then 2 else 1) x.seq 0 0 0 none]
          seq := (x.seq + 1) % 65536 } ∧ SameStores s t ∧ RegsKept .a s t []))
    ∧ (∀ h : BitVec 72, (ptpState i s = 0 ∨ f.val ∉ memberPorts i s ∨ (peerDelay i s = false ∧ portState i f s ≠ 9)) →
      Ignored (.ptpDelayReqSend i f h))
    ∧ (∀ (m : PtpMsg) (t3 d1 : Rat), nth x.req f none = some (m.seq.toNat, t3) → x.d1 = some d1 → ofMaster i f m s = true →
      peerDelay i s = false → Does (.ptpDelayRespReceived i f m) s (Delayed ((d1 + (m.ns : Rat) - t3 - corrNs m.corr) / 2)))
    ∧ (∀ m : PtpMsg, ((∀ t3, nth x.req f none ≠ some (m.seq.toNat, t3)) ∨ x.d1 = none ∨ ofMaster i f m s = false ∨ peerDelay i s = true) →
      Ignored (.ptpDelayRespReceived i f m))
    ∧ (∀ (h h3 : BitVec 72) (m : PtpMsg), ptpState i s ≠ 0 → f.val ∈ memberPorts i s → peerDelay i s = true →
      Does (.ptpPdelayReqReceived i f h h3 m) s
        (let a := instTime i (rxStamp f h.toNat s) s
         let b := instTime i (txStamp f h3.toNat s) s
         Answer (if s.dg (R.FED_PTP_CFG i) F.FED_PTP_CFG_ONE_STEP = 1
           then [msg 3 m.seq.toNat 0 (m.corr + roundReal ((b - a) * 65536)) m.src none]
           else [msg 3 m.seq.toNat (splitNs a).1 (m.corr - (splitNs a).2) m.src none,
             msg 10 m.seq.toNat (splitNs b).1 (splitNs b).2 m.src none])))
    ∧ (∀ (h h3 : BitVec 72) (m : PtpMsg), (ptpState i s = 0 ∨ f.val ∉ memberPorts i s ∨ peerDelay i s = false) →
      Ignored (.ptpPdelayReqReceived i f h h3 m))
    ∧ (∀ (h : BitVec 72) (m : PtpMsg) (follow : Bool), ((∀ t1, nth x.req f none ≠ some (m.seq.toNat, t1)) ∨ peerDelay i s = false
        ∨ (follow = true ∧ ∀ r4 r2, nth x.resp f none ≠ some (m.seq.toNat, r4, r2))) →
      Ignored (.ptpPdelayRespReceived i f follow h m))
    ∧ (∀ (h : BitVec 72) (m : PtpMsg) (t1 : Rat), nth x.req f none = some (m.seq.toNat, t1) → peerDelay i s = true →
      let t4 := instTime i (rxStamp f h.toNat s) s
      (m.twoStep = false → Does (.ptpPdelayRespReceived i f false h m) s (Delayed ((t4 - t1 - corrNs m.corr) / 2)))
      ∧ (m.twoStep = true → Does (.ptpPdelayRespReceived i f false h m) s (fun t => t.ptp i = { x with
          resp := x.resp.set f (some (m.seq.toNat, t4, (m.ns : Rat) - corrNs m.corr)) } ∧ SameStores s t ∧ RegsKept .a s t []))
      ∧ (∀ r4 r2 : Rat, nth x.resp f none = some (m.seq.toNat, r4, r2) → Does (.ptpPdelayRespReceived i f true h m) s
          (Delayed ((r4 - t1 - ((m.ns : Rat) + corrNs m.corr - r2)) / 2)))))
  ∧ (∀ (i : Fin 8) (f : Fin 4) (s : State), s.fed.ptp.length = 8 →
    let x := s.ptp i
    let flags := fun j : Nat => flagSlots ⟨R.FED_PTP_FLAGS i, R.FED_PTP_FLAG_CNT0 i, some (R.FED_PTP_EVMASK i), 0⟩ j
    let Flagged := fun (t : State) (j : Nat) => t.get .a (R.FED_PTP_FLAGS i) ⟨j, j⟩ = 1
    (∀ m : PtpAnn, ptpState i s ≠ 0 → f.val ∈ memberPorts i s → portUp f s = true →
      (254 < m.steps.toNat ∨ m.gm.toNat = clockId s → Does (.ptpAnnounceReceived i f m) s (fun t => Flagged t 5
        ∧ Keeps .a s t (flags 5)))
      ∧ (m.steps.toNat ≤ 254 → m.gm.toNat ≠ clockId s → Does (.ptpAnnounceReceived i f m) s (fun t =>
        let same := fun y : Foreign => y.port == f.val && y.ann.src == m.src
        (t.ptp i).foreign = x.foreign.filter (fun y => !same y) ++ [⟨f, m, s.now, (x.foreign.find? same).map (·.at')⟩]
        ∧ SameStores s t)))
    ∧ (ptpState i s ≠ 0 → f.val ∈ memberPorts i s → portUp f s = true → Does (.announceReceiptTimeout i f) s (fun t =>
        (t.ptp i).foreign = x.foreign.filter (fun y => y.port != f.val) ∧ SameStores s t))
    ∧ ((ptpState i s = 0 ∨ f.val ∉ memberPorts i s ∨ portUp f s = false) →
        (∀ m : PtpAnn, Does (.ptpAnnounceReceived i f m) s (fun t => Keeps .a s t []))
        ∧ Does (.announceReceiptTimeout i f) s (fun t => Keeps .a s t []))
    ∧ (ptpState i s = 3 → Does (.lockLost (.inst i)) s (fun t => ptpState i t = 4 ∧ Flagged t 1 ∧ t.now = max s.now (holdEnd i s)
        ∧ t.rd .a (R.FED_PTP_RATE i) = wordI x.servo.rhoI ∧ (t.ptp i).servo = { x.servo with rho := x.servo.rhoI } ∧ SameStores s t
        ∧ (steers i s = true → t.get .a R.TIM_FLAGS ⟨1, 1⟩ = 1 ∧ t.fed.rhoNext = some x.servo.rhoI)))
    ∧ (ptpState i s ≠ 3 → Does (.lockLost (.inst i)) s (fun t => Keeps .a s t []))
    ∧ (s.fed.ppsState = 3 → Does (.lockLost .pps) s (fun t => t.fed.ppsState = 4 ∧ t.now = max s.now (psOfHts s.fed.ppsIn + 4 * 10 ^ 12)
        ∧ t.fed.pps = { s.fed.pps with rho := s.fed.pps.rhoI } ∧ SameStores s t
        ∧ (s.fed.src.1 = 2 → t.get .a R.TIM_FLAGS ⟨1, 1⟩ = 1 ∧ t.fed.rhoNext = some s.fed.pps.rhoI)
        ∧ (s.fed.src.1 ≠ 2 → RegsKept .a s t [])))
    ∧ (s.fed.ppsState ≠ 3 → Does (.lockLost .pps) s (fun t => Keeps .a s t []))
    ∧ (∀ v : Word, F.FED_PTP_CFG_EN.get v = 0 → ptpState i s ≠ 0 → Does (.ptpEnableWrite i v) s (fun t => ptpState i t = 0
        ∧ (t.ptp i).foreign = [] ∧ (t.ptp i).parent = none ∧ Flagged t 4 ∧ SameStores s t))
    ∧ (∀ v : Word, F.FED_PTP_CFG_EN.get v = 1 → ptpState i s = 0 → x.foreign = [] → Does (.ptpEnableWrite i v) s (fun t =>
        ptpState i t = 1 ∧ Flagged t 4 ∧ (t.ptp i).parent = none ∧ SameStores s t))
    ∧ (∀ v : Word, F.FED_PTP_CFG_EN.get v = 1 → Does (.ptpEnableWrite i v) s (fun t => ptpState i t ≠ 0
        ∧ memberPorts i t = bitsOf 4 (F.FED_PTP_CFG_PORTS.get v) ∧ (t.ptp i).foreign = x.foreign ∧ SameStores s t))
    ∧ (∀ v : Word, F.FED_PTP_CFG_EN.get v = 0 → ptpState i s = 0 → Does (.ptpEnableWrite i v) s (fun t =>
        s.dg (R.FED_PTP_CFG i) F.FED_PTP_CFG_EN = 0 ∨ t.dg (R.FED_PTP_CFG i) F.FED_PTP_CFG_EN = 0 ∧ Keeps .a s t [R.FED_PTP_CFG i]))
    ∧ Does (.ptpCapture i) s (fun t =>
        let h := (roundReal (instTime i (nsOfHts (htsOfPs s.now)) s * 4294967296 / 1000000000)).toNat
        t.rd .a (R.FED_PTP_TIME i) = lo72 h ∧ t.rd .a (R.FED_PTP_TIME_HI i) = hi72 h
        ∧ Keeps .a s t [R.FED_PTP_TIME i, R.FED_PTP_TIME_HI i])
    ∧ (∀ code : BitVec 4, 2 ≤ code.toNat → Does (.ptpCmdReserved i code) s (fun t => Flagged t 6 ∧ Keeps .a s t (flags 6)))
    ∧ (∀ code : BitVec 4, code.toNat < 2 → Does (.ptpCmdReserved i code) s (fun t => Keeps .a s t []))
    ∧ (∀ up : Bool, s.dg (R.FED_PORT_STATUS f) F.FED_PORT_STATUS_LINK ≠ b2n up →
      Does (.fedLinkChange f up) s (fun t => t.dg (R.FED_PORT_STATUS f) F.FED_PORT_STATUS_LINK = b2n up
        ∧ t.get .a (R.FED_PORT_FLAGS f) ⟨b2n up, b2n up⟩ = 1 ∧ SameStores s t
        ∧ ((∀ k : Fin 8, f.val ∉ memberPorts k s) → RegsKept .a s t ([R.FED_PORT_STATUS f]
          ++ flagSlots ⟨R.FED_PORT_FLAGS f, R.FED_PORT_FLAG_CNT f, some (R.FED_PORT_EVMASK f), 0⟩ (b2n up)))))
    ∧ (∀ up : Bool, s.dg (R.FED_PORT_STATUS f) F.FED_PORT_STATUS_LINK = b2n up → Does (.fedLinkChange f up) s (fun t => Keeps .a s t [])))

/-- The time keeper: beacons leave at their times and take the rate that waits and the source; PPS edges are stamped, move the
servo of the PPS source, are missed and sent; the calendar is written at whole seconds and set by the host unless the source is
in TRACK; its trim follows the measured error; capture, and reserved commands refused (R46, R345, R347, R348, R349, R360, R518).
It rests on the model's readings in log entries 2, 31, 32, 106, 107, 108, 127. -/
def Obligations.TheTimeKeeperKeepsTime : Prop :=
  ∀ s : State,
    let flags := fun j : Nat => flagSlots ⟨R.TIM_FLAGS, R.TIM_FLAG_CNT0, some R.TIM_EVMASK, 0⟩ j
    let Flagged := fun (t : State) (j : Nat) => t.get .a R.TIM_FLAGS ⟨j, j⟩ = 1
    let second := if s.now % 10 ^ 12 = 0 then s.now else nextSecond s
    let beats := s.boot.refclk = true ∧ s.boot.up = true ∧ bootStage s ≠ 9
    let due := max s.now (psOfHts s.fed.ppsIn + 15 * 10 ^ 11)
    (∀ missed : List (Fin 40),
      (beats → Does (.timeBeacon missed) s (fun t => t.now = max s.now (nextBeacon s) ∧ t.cyc.beaconAt = t.now
        ∧ t.cyc.beacon = some (beaconNow (s.toTime (nextBeacon s))) ∧ t.fed.rhoNext = none
        ∧ t.fed.src = (s.dg R.TIM_SRC F.TIM_SRC_KIND, s.dg R.TIM_SRC F.TIM_SRC_INST) ∧ SameStores s t
        ∧ (∀ r : Int, s.fed.rhoNext = some r → t.fed.src = s.fed.src → t.rd .a R.TIM_RATE = wordI r)
        ∧ (s.fed.rhoNext = none → t.fed.src = s.fed.src → t.rd .a R.TIM_RATE = s.rd .a R.TIM_RATE)
        ∧ (t.fed.src ≠ s.fed.src → t.fed.src.1 = 0 → t.rd .a R.TIM_RATE = 0)
        ∧ (missed = [] → (∀ i : Fin 40, beaconPathUp i s = true) → t.fed.src = s.fed.src → RegsKept .a s t [R.TIM_RATE])))
      ∧ (¬beats → Does (.timeBeacon missed) s (fun t => Keeps .a s t [])))
    ∧ (∀ v : Word, F.TIM_SRC_KIND.get v ≠ 3 → Does (.timSrcWrite v) s (fun t =>
        t.dg R.TIM_SRC F.TIM_SRC_KIND = F.TIM_SRC_KIND.get v ∧ t.dg R.TIM_SRC F.TIM_SRC_INST = F.TIM_SRC_INST.get v
        ∧ Keeps .a s t [R.TIM_SRC]))
    ∧ (∀ v : Word, F.TIM_SRC_KIND.get v = 3 → Does (.timSrcWrite v) s (fun t => Flagged t 6 ∧ Keeps .a s t (flags 6)))
    ∧ (∀ h : Nat, s.dg R.TIM_PPS_CFG F.TIM_PPS_CFG_IN_EN = 1 → ppsTooClose (h * 500) s = false → Does (.ppsInEdge h) s (fun t =>
        let th : Rat := (((h * 500 : Nat) : Int) - rneDiv ((h * 500 : Nat) : Int) (10 ^ 12) * 10 ^ 12 : Int) / 1000
        let e := servoSync ⟨1, 4, 8, 50, 1000⟩ true s.fed.ppsState s.fed.pps th (htsOfPs (h * 500))
        t.fed.ppsIn = htsOfPs (h * 500) ∧ t.now = max s.now (h * 500) ∧ SameStores s t
        ∧ (s.fed.src.1 ≠ 2 → t.fed.pps = s.fed.pps ∧ RegsKept .a s t [])
        ∧ (s.fed.src.1 = 2 → t.fed.pps = e.servo ∧ t.fed.ppsState = e.state ∧ t.fed.rhoNext = some e.servo.rho
          ∧ (e.state = 3 → s.fed.ppsState ≠ 3 → Flagged t 0) ∧ (e.jump = true → Flagged t 2))))
    ∧ (∀ h : Nat, (s.dg R.TIM_PPS_CFG F.TIM_PPS_CFG_IN_EN = 0 ∨ ppsTooClose (h * 500) s = true) → Does (.ppsInEdge h) s (fun t =>
        t.now = max s.now (h * 500) ∧ t.fed = s.fed ∧ SameStores s t ∧ RegsKept .a s t []))
    ∧ ((s.dg R.TIM_PPS_CFG F.TIM_PPS_CFG_IN_EN = 1 ∨ s.fed.src.1 = 2) → Does .ppsMiss s (fun t => Flagged t 4
        ∧ t.now = due ∧ t.fed = s.fed ∧ SameStores s t ∧ RegsKept .a s t (flags 4)))
    ∧ (s.dg R.TIM_PPS_CFG F.TIM_PPS_CFG_IN_EN = 0 → s.fed.src.1 ≠ 2 → Does .ppsMiss s (fun t => Keeps .a s t []))
    ∧ (s.dg R.TIM_PPS_CFG F.TIM_PPS_CFG_OUT_EN = 0 → Does .ppsOutSecond s (fun t => Keeps .a s t []))
    ∧ (s.dg R.TIM_PPS_CFG F.TIM_PPS_CFG_OUT_EN = 1 → Does .ppsOutSecond s (fun t => t.now = second
        ∧ t.fed.ppsOut = some (second + ppsWidth s) ∧ SameStores s t ∧ RegsKept .a s t []))
    ∧ Does .calendarWrite s (fun t => t.now = second ∧ t.fed.cal = calUnits second ∧ t.fed.calAt = second ∧ SameStores s t
        ∧ RegsKept .a s t [])
    ∧ (∀ err : Int, s.dg R.TIM_CAL_TRIM F.TIM_CAL_TRIM_AUTO = 1 → steerState s = 3 →
      Does (.calTrimUpdate err) s (fun t => signedOf 16 (t.dg R.TIM_CAL_TRIM F.TIM_CAL_TRIM_TRIM) = max (-32768) (min 32767 err)
        ∧ (-32768 ≤ err → err ≤ 32767 → Keeps .a s t [R.TIM_CAL_TRIM])
        ∧ (err < -32768 ∨ 32767 < err → Flagged t 5 ∧ Keeps .a s t (R.TIM_CAL_TRIM :: flags 5))))
    ∧ (∀ err : Int, (s.dg R.TIM_CAL_TRIM F.TIM_CAL_TRIM_AUTO = 0 ∨ steerState s ≠ 3) →
      Does (.calTrimUpdate err) s (fun t => Keeps .a s t []))
    ∧ Does .timCapture s (fun t => t.rd .a R.TIM_NOW = lo72 (htsOfPs s.now) ∧ t.rd .a R.TIM_NOW_HI = hi72 (htsOfPs s.now)
        ∧ t.rd .a R.TIM_PPS_IN = lo72 s.fed.ppsIn ∧ t.rd .a R.TIM_PPS_IN_HI = hi72 s.fed.ppsIn
        ∧ t.rd .a R.TIM_CAL = lo72 (htsOfCal (calNow s)) ∧ t.rd .a R.TIM_CAL_HI = hi72 (htsOfCal (calNow s))
        ∧ Keeps .a s t [R.TIM_NOW, R.TIM_NOW_HI, R.TIM_PPS_IN, R.TIM_PPS_IN_HI, R.TIM_CAL, R.TIM_CAL_HI])
    ∧ (steerState s ≠ 3 → Does .calSet s (fun t =>
        t.fed.cal = of72 (s.rd .a R.TIM_CAL_SET) (s.rd .a R.TIM_CAL_SET_HI) / 2 ^ 17 ∧ t.fed.calAt = s.now ∧ SameStores s t
        ∧ RegsKept .a s t []))
    ∧ (steerState s = 3 → Does .calSet s (fun t => Flagged t 6 ∧ Keeps .a s t (flags 6)))
    ∧ (∀ code : BitVec 4, 3 ≤ code.toNat → Does (.timCmdReserved code) s (fun t => Flagged t 6 ∧ Keeps .a s t (flags 6)))
    ∧ (∀ code : BitVec 4, code.toNat < 3 → Does (.timCmdReserved code) s (fun t => Keeps .a s t []))

/-- The federation exchange: a frame leaves for each enabled peer at its offset; frames with a bad FCS, of an unknown source or
of this cell's own number raise their flags; a peer's frame ends its missed run, and eight missed ones are reported; EXCH_OFS
must be late enough, and FED_ID rests while the exchange runs (R350, R353, R354, R355, R359). It rests on the model's readings
in log entries 2, 14, 93, 111, 124. -/
def Obligations.FederationFramesPass : Prop :=
  ∀ s : State,
    let flags := fun j : Nat => flagSlots bFED j
    (s.dg R.FED_EXCH_CFG F.FED_EXCH_CFG_EN = 1 → inCycle s = true → Does .exchangeSend s (fun t =>
        t.now = max s.now (s.ct0Hts + s.dg R.FED_EXCH_CFG F.FED_EXCH_CFG_EXCH_OFS * 1000)
        ∧ (∀ k : Fin 16, (peerOn k s = false ∨ portOn (s.dg (R.FED_PEER_CFG k) F.FED_PEER_CFG_PORT) s = false) →
          nth t.fed.frames k [] = nth s.fed.frames k [] ∧ nth t.fed.obs k 0 = nth s.fed.obs k 0)
        ∧ (∀ k : Fin 16, k.val < s.fed.frames.length → peerOn k s = true →
          portOn (s.dg (R.FED_PEER_CFG k) F.FED_PEER_CFG_PORT) s = true → nth t.fed.frames k [] ≠ [])
        ∧ SameStores s t ∧ RegsKept .a s t (flags 6)))
    ∧ (s.dg R.FED_EXCH_CFG F.FED_EXCH_CFG_EN = 0 ∨ inCycle s = false → Does .exchangeSend s (fun t => Keeps .a s t []))
    ∧ (∀ (f : Fin 4) (m : FedFrame), (portOn f s = false ∨ (m.fcs = true ∧ (m.etype.toNat ≠ s.dg R.FED_CFG F.FED_CFG_ETHERTYPE
        ∨ m.ver ≠ 1 ∨ m.kind ≠ 1 ∨ (m.src.toNat ≠ fedId s ∧ m.dst.toNat ≠ fedId s)))) → Does (.exchangeReceived f m) s (fun t =>
        t.now = max s.now m.t ∧ t.fed = s.fed ∧ SameStores s t ∧ RegsKept .a s t []))
    ∧ (∀ (f : Fin 4) (m : FedFrame), portOn f s = true → m.fcs = true → m.etype.toNat = s.dg R.FED_CFG F.FED_CFG_ETHERTYPE → m.ver = 1 →
      m.kind = 1 → m.src.toNat = fedId s → Does (.exchangeReceived f m) s (fun t => t.flagged .a bFED 2 ∧ t.now = max s.now m.t
        ∧ t.fed = s.fed ∧ SameStores s t))
    ∧ (∀ (f : Fin 4) (m : FedFrame), portOn f s = true → m.fcs = false → Does (.exchangeReceived f m) s (fun t =>
        t.get .a (R.FED_PORT_FLAGS f) ⟨2, 2⟩ = 1 ∧ t.now = max s.now m.t ∧ t.fed = s.fed ∧ SameStores s t
        ∧ RegsKept .a s t (flagSlots ⟨R.FED_PORT_FLAGS f, R.FED_PORT_FLAG_CNT f, some (R.FED_PORT_EVMASK f), 0⟩ 2)))
    ∧ (∀ (f : Fin 4) (m : FedFrame), portOn f s = true → m.fcs = true → m.etype.toNat = s.dg R.FED_CFG F.FED_CFG_ETHERTYPE → m.ver = 1 →
      m.kind = 1 → m.src.toNat ≠ fedId s → m.dst.toNat = fedId s →
      ((∀ k : Fin 16, peerOn k s = true → peerId k s ≠ m.src.toNat) → Does (.exchangeReceived f m) s (fun t => t.flagged .a bFED 1
        ∧ t.fed = s.fed ∧ SameStores s t ∧ RegsKept .a s t (flags 1)))
      ∧ (∀ k : Fin 16, (List.range 16).find? (fun k => peerOn k s && peerId k s == m.src.toNat) = some k.val → m.words.length ≤ 2 →
        let offGrid := m.period.toNat ≠ s.dg R.TIM_CYC_ACT_PERIOD F.TIM_CYC_ACT_PERIOD_VALUE
          ∨ m.phase.toNat ≠ s.dg R.TIM_CYC_ACT_PHASE F.TIM_CYC_ACT_PERIOD_VALUE
        Does (.exchangeReceived f m) s (fun t => t.dg (R.FED_PEER_STATUS k) F.FED_PEER_STATUS_MISS_RUN = 0
          ∧ t.fed.got = s.fed.got ++ [k.val] ∧ k.val ∉ t.fed.missed ∧ t.now = max s.now m.t ∧ SameStores s t
          ∧ (offGrid → t.flagged .a bFED 3) ∧ (frameLate m s = true → t.flagged .a bFED 4)
          ∧ RegsKept .a s t (R.FED_PEER_STATUS k :: flags 3 ++ flags 4)
          ∧ (¬offGrid → frameLate m s = false → RegsKept .a s t [R.FED_PEER_STATUS k]))))
    ∧ (∀ k : Fin 16, peerOn k s = true → k.val ∉ s.fed.missed → 8 ≤ s.dg (R.FED_PEER_STATUS k) F.FED_PEER_STATUS_MISS_RUN →
      Does (.frameMissed k) s (fun t => t.dg (R.FED_PEER_STATUS k) F.FED_PEER_STATUS_MISS = 1 ∧ t.flagged .a bFED 5
        ∧ t.dg (R.FED_PEER_STATUS k) F.FED_PEER_STATUS_MISS_CNT
          = satAdd F.FED_PEER_STATUS_MISS_CNT.width (s.dg (R.FED_PEER_STATUS k) F.FED_PEER_STATUS_MISS_CNT) 1
        ∧ t.fed.missed = s.fed.missed ++ [k.val] ∧ SameStores s t ∧ RegsKept .a s t (R.FED_PEER_STATUS k :: flags 5)))
    ∧ (∀ k : Fin 16, (peerOn k s = false ∨ k.val ∈ s.fed.missed ∨ s.dg (R.FED_PEER_STATUS k) F.FED_PEER_STATUS_MISS_RUN < 8) →
      Does (.frameMissed k) s (fun t => Keeps .a s t []))
    ∧ (∀ v : Word, exchEarly (F.FED_EXCH_CFG_EXCH_OFS.get v) (s.dg R.TIM_CYC_ACT_FB_DEADLINE F.TIM_CYC_ACT_PERIOD_VALUE) = false →
      Does (.fedExchCfgWrite v) s (fun t => t.dg R.FED_EXCH_CFG F.FED_EXCH_CFG_EN = F.FED_EXCH_CFG_EN.get v
        ∧ t.dg R.FED_EXCH_CFG F.FED_EXCH_CFG_EXCH_OFS = F.FED_EXCH_CFG_EXCH_OFS.get v ∧ Keeps .a s t [R.FED_EXCH_CFG]))
    ∧ (∀ v : Word, exchEarly (F.FED_EXCH_CFG_EXCH_OFS.get v) (s.dg R.TIM_CYC_ACT_FB_DEADLINE F.TIM_CYC_ACT_PERIOD_VALUE) = true →
      Does (.fedExchCfgWrite v) s (fun t => t.flagged .a bFED 8 ∧ Keeps .a s t (flags 8)))
    ∧ (∀ v : Word, busState 0 s = 0 → busState 1 s = 0 → s.dg R.FED_EXCH_CFG F.FED_EXCH_CFG_EN = 0 → Does (.fedIdWrite v) s (fun t =>
        fedId t = F.FED_CFG_FED_ID.get v ∧ t.dg R.FED_CFG F.FED_CFG_ETHERTYPE = F.FED_CFG_ETHERTYPE.get v ∧ Keeps .a s t [R.FED_CFG]))
    ∧ (∀ v : Word, (s.dg R.FED_EXCH_CFG F.FED_EXCH_CFG_EN = 1 ∨ busState 0 s ≠ 0 ∨ busState 1 s ≠ 0) → F.FED_CFG_FED_ID.get v ≠ fedId s →
      Does (.fedIdWrite v) s (fun t =>
        fedId t = fedId s ∧ t.dg R.FED_CFG F.FED_CFG_ETHERTYPE = F.FED_CFG_ETHERTYPE.get v ∧ t.flagged .a bFED 8
        ∧ Keeps .a s t (R.FED_CFG :: flags 8)))

/-- Channels of the CLE: one that is due runs once in its cycle; one in OFF keeps its output at 0, and one that has no feedback
to wait for puts out what its stages give; a mode request waits for the commit; RATE and PHASE are taken while the channel is
not closed and name a phase of the rate, and refused with REFUSE = 0x9 or 0xA otherwise (R201, R202, R218, R219). It rests on
the model's readings in log entries 53, 56, 57, 59. -/
def Obligations.ChannelsRunOncePerCycle : Prop :=
  ∀ (q : Plane) (c : Fin 192) (s : State), s.chanter = some q → (s.cle q).chs.length = 192 →
    let r := R.CLE_CH_CFG c
    (runDue q c s = true → Does (.channelRun c) s (fun t => (t.chan q c).ran = s.cyc.starts
      ∧ (chMode q c s = 0 → (s.chan q c).due = [] → (s.chan q c).brake = none → chMode q c t = 0 ∧ t.rd q (R.CLE_CH_OUT c) = 0)
      ∧ (chanSample q c s = none → (s.chan q c).due = [] → (s.chan q c).brake = none → chMode q c s ≠ 0 → fbState q c s ≠ 3 →
        (s.stopOf q (unitOf c s)).state ≠ 1 →
        let r := runStages (s.block q c) (chMode q c s) (s.get q (R.CLE_CH_STATUS c) F.CLE_CH_STATUS_SP_SRC) (runInputs q c s)
          { s.chan q c with ran := s.cyc.starts, prev := ((s.rd q (R.CLE_CH_MEAS c)).toInt, s.ct0) }
        t.rd q (R.CLE_CH_OUT c) = wordI r.out ∧ nth (t.chan q c).slot 0 0 = wordI r.out ∧ nth (t.chan q c).slot 1 0 = wordI r.pre
        ∧ t.get q (R.CLE_CH_STATUS c) F.CLE_CH_STATUS_CLAMPED = b2n r.clamped)))
    ∧ (runDue q c s = false → Does (.channelRun c) s (fun t => Keeps q s t []))
    ∧ (∀ (m : BitVec 3) (src : Bool), Does (.modeRequest c m src) s (fun t =>
        t.chan q c = { s.chan q c with req := some (m.toNat, b2n src) }
        ∧ t.get q (R.CLE_CH_MODE c) F.CLE_CH_MODE_MODE = m.toNat ∧ t.get q (R.CLE_CH_MODE c) F.CLE_CH_MODE_SP_SRC = b2n src
        ∧ (∀ d, d ≠ c.val → t.chan q d = s.chan q d) ∧ SameStores s t ∧ RegsKept q s t [R.CLE_CH_MODE c]))
    ∧ (∀ v : Word, F.CLE_CH_CFG_RATE.get v ≠ 7 → F.CLE_CH_CFG_PHASE.get v < 2 ^ F.CLE_CH_CFG_RATE.get v → s.closedCh q c = false →
        Does (.chCfgWrite c v) s (fun t => t.get q r F.CLE_CH_CFG_RATE = F.CLE_CH_CFG_RATE.get v
          ∧ t.get q r F.CLE_CH_CFG_PHASE = F.CLE_CH_CFG_PHASE.get v ∧ t.get q r F.CLE_CH_CFG_PARSEL = F.CLE_CH_CFG_PARSEL.get v
          ∧ (t.chan q c) = { s.chan q c with cfgRefused := none } ∧ SameStores s t ∧ RegsKept q s t [r]))
    ∧ (∀ v : Word, (F.CLE_CH_CFG_RATE.get v = 7 ∨ 2 ^ F.CLE_CH_CFG_RATE.get v ≤ F.CLE_CH_CFG_PHASE.get v) →
        Does (.chCfgWrite c v) s (fun t => t.get q (R.CLE_CH_STATUS c) F.CLE_CH_STATUS_REFUSE = 9 ∧ t.flagged q (bCH c) 7
          ∧ t.get q r F.CLE_CH_CFG_RATE = s.get q r F.CLE_CH_CFG_RATE ∧ t.get q r F.CLE_CH_CFG_PHASE = s.get q r F.CLE_CH_CFG_PHASE
          ∧ t.get q r F.CLE_CH_CFG_PARSEL = F.CLE_CH_CFG_PARSEL.get v ∧ Keeps q s t ([r, R.CLE_CH_STATUS c] ++ flagSlots (bCH c) 7)))
    ∧ (∀ v : Word, F.CLE_CH_CFG_RATE.get v ≠ 7 → F.CLE_CH_CFG_PHASE.get v < 2 ^ F.CLE_CH_CFG_RATE.get v → s.closedCh q c = true →
        (F.CLE_CH_CFG_RATE.get v ≠ s.get q r F.CLE_CH_CFG_RATE ∨ F.CLE_CH_CFG_PHASE.get v ≠ s.get q r F.CLE_CH_CFG_PHASE) →
        Does (.chCfgWrite c v) s (fun t => t.get q (R.CLE_CH_STATUS c) F.CLE_CH_STATUS_REFUSE = 10 ∧ t.flagged q (bCH c) 7
          ∧ t.get q r F.CLE_CH_CFG_RATE = s.get q r F.CLE_CH_CFG_RATE ∧ t.get q r F.CLE_CH_CFG_PHASE = s.get q r F.CLE_CH_CFG_PHASE
          ∧ t.get q r F.CLE_CH_CFG_PARSEL = F.CLE_CH_CFG_PARSEL.get v ∧ Keeps q s t ([r, R.CLE_CH_STATUS c] ++ flagSlots (bCH c) 7)))

/-- Stops of an arm: STOP1 and STOP2 begin a stop of their category in which every channel of the arm takes part; STOP0 takes
STO and OFF on all of them at once; a stop that passes its longest time ends with STO; CLEAR ends a finished stop without
requests, and is refused with REFUSE = 0x1 otherwise; a reserved code is refused with REFUSE = 0x2 (R224, R225, R226, R231). It
rests on the model's readings in log entries 2, 53, 54, 55. -/
def Obligations.ArmsStopAndClear : Prop :=
  ∀ (q : Plane) (a : Fin 16) (s : State), s.chanter = some q → (s.cle q).chs.length = 192 → a.val < (s.cle q).stops.length →
    (∀ c ∈ s.stopChannels a, c < 192) →
    let st := R.CLE_ARM_STATUS a
    let cs := s.stopChannels a
    ((s.stopOf q a).state = 0 → (s.stopOf q a).reqs = [] →
      (∀ (cat : Nat) (cmd : Instr), (cat = 1 ∧ cmd = .stop1 a) ∨ (cat = 2 ∧ cmd = .stop2 a) → (∀ c ∈ cs, fbState q c s ≠ 3) →
        Does cmd s (fun t => t.stopOf q a = ⟨1, cat, [(0, cat)], s.now⟩ ∧ t.get q st F.CLE_ARM_STATUS_STATE = 1
          ∧ t.get q st F.CLE_ARM_STATUS_CAT = cat ∧ t.get q st ⟨28, 28⟩ = 1
          ∧ (∀ c ∈ cs, t.get q (R.CLE_CH_STATUS c) F.CLE_CH_STATUS_STOP_REQ = 1 ∧ (t.chan q c).stopCat = cat
            ∧ chMode q c t = chMode q c s ∧ (isClosed (chMode q c s) = true → (t.chan q c).brake.isSome = true))
          ∧ SameStores s t ∧ RegsKept q s t (R.CLE_ARM_CMD a :: st :: cs.map R.CLE_CH_STATUS)))
      ∧ Does (.stop0 a) s (fun t => (t.stopOf q a).state = 2 ∧ (t.stopOf q a).cat = 0 ∧ t.get q st F.CLE_ARM_STATUS_STATE = 2
          ∧ ∀ c ∈ cs, chMode q c t = 0 ∧ (t.chan q c).sto = true ∧ (t.chan q c).brake = none ∧ t.rd q (R.CLE_CH_OUT c) = 0))
    ∧ (∀ c : Fin 192, unitOf c s = a → (s.stopOf q a).state = 1 → Does (.stopTmax c) s (fun t => (t.stopOf q a).state = 2
        ∧ t.now = max s.now ((s.stopOf q a).since + psOfD36 (nth (s.block q c) 8 0))
        ∧ ∀ d ∈ cs, (t.chan q d).sto = true ∧ chMode q d t = 0))
    ∧ (∀ c : Fin 192, (s.stopOf q (unitOf c s)).state ≠ 1 → Does (.stopTmax c) s (fun t => Keeps q s t []))
    ∧ ((s.stopOf q a).state = 2 → ∀ (cat : Nat) (cmd : Instr), (cat = 0 ∧ cmd = .stop0 a) ∨ (cat = 1 ∧ cmd = .stop1 a)
        ∨ (cat = 2 ∧ cmd = .stop2 a) → (s.stopOf q a).cat ≤ cat → (∀ r ∈ (s.stopOf q a).reqs, (s.stopOf q a).cat ≤ r.2) →
        (s.stopOf q a).cat ≤ 2 → Does cmd s (fun t => t.stopOf q a = { s.stopOf q a with reqs := (t.stopOf q a).reqs }
          ∧ (∀ r ∈ (t.stopOf q a).reqs, standsOn r.1 = true ∧ r ∈ (s.stopOf q a).reqs) ∧ SameStores s t
          ∧ RegsKept q s t [R.CLE_ARM_CMD a, st]))
    ∧ ((s.stopOf q a).state ≠ 1 → (s.stopOf q a).reqs = [] → Does (.armStopClear a) s (fun t => t.stopOf q a = ⟨0, 0, [], 0⟩
        ∧ t.get q st F.CLE_ARM_STATUS_STATE = 0 ∧ t.get q st F.CLE_ARM_STATUS_SOURCE = 0
        ∧ ∀ c ∈ cs, (t.chan q c).sto = false ∧ (t.chan q c).brake = none ∧ chMode q c t = chMode q c s))
    ∧ ((s.stopOf q a).state = 1 ∨ (s.stopOf q a).reqs ≠ [] → Does (.armStopClear a) s (fun t =>
        t.get q st F.CLE_ARM_STATUS_REFUSE = 1 ∧ Keeps q s t [R.CLE_ARM_CMD a, st]))
    ∧ Does (.armCmdReserved a 0) s (fun t => Keeps q s t [R.CLE_ARM_CMD a])
    ∧ (∀ code : BitVec 4, 5 ≤ code.toNat → Does (.armCmdReserved a code) s (fun t =>
        t.get q st F.CLE_ARM_STATUS_REFUSE = 2 ∧ Keeps q s t [R.CLE_ARM_CMD a, st]))

/-- Operations on accumulators and on the bits T and S: if the program that holds the array has the operation next, it has its
effect and the array goes on; a sum outside 80 bits is clamped, with SAT; the first operation of an estimation job finds them at
0; where another operation is next, or no program holds the array, nothing happens (R153, R154, R155, R188). Operations that
write SRAM: ARND, SQRT, CLMP, ADD and SUB write their value saturated to 36 bits, with SAT where it was clamped; DIV the
quotient, CS the cosine and the sine, LDI its immediate; PIV adds its column's bias below the threshold, with PIVOT, and leaves
the pivot above it; an estimation job raises the flags of EST (R153, R155, R156, R157, R188). It rests on the model's readings
in log entries 7, 60, 61, 62, 136. -/
def Obligations.SolverComputes : Prop :=
  (∀ (q : Plane) (s : State), s.chanter = some q →
    (∀ (motion : Bool) (ws : List Word) (pc : Nat), running q s = some (motion, ws, pc) →
      (motion = false → (s.arr q).waiting = true → pc + 1 < hOps ws) →
      let x := if motion = false ∧ (s.arr q).estFresh = true then { s.arr q with acc := [], t := false, s := false, estFresh := false }
        else s.arr q
      let o := SolverOp.of (sramOp q ws pc s)
      let code := opCode (sramOp q ws pc s)
      let Goes := fun (y : SlvArr) (t : State) => t.arr q = { y with
        job := ((advance q motion ws s).arr q).job, estPc := ((advance q motion ws s).arr q).estPc } ∧ SameStores s t
      (∀ (cmd : Instr) (v : Int),
        (cmd = .aclr ∧ code = 1 ∧ v = 0)
          ∨ (cmd = .mac ∧ code = 2 ∧ v = x.a o.acc + srcWord q o.srcA s * srcWord q o.srcB s)
          ∨ (cmd = .msu ∧ code = 3 ∧ v = x.a o.acc - srcWord q o.srcA s * srcWord q o.srcB s)
          ∨ (cmd = .ald ∧ code = 4 ∧ v = srcWord q o.srcA s * 2 ^ o.sh) →
        (-(2 : Int) ^ 79 ≤ v → v < 2 ^ 79 → Does cmd s (fun t => (t.arr q).a o.acc = v
          ∧ (∀ k, k ≠ o.acc → (t.arr q).a k = x.a k) ∧ Goes { x with acc := (t.arr q).acc } t ∧ RegsKept q s t []))
        ∧ (v < -(2 : Int) ^ 79 ∨ 2 ^ 79 ≤ v → Does cmd s (fun t =>
          (t.arr q).a o.acc = (if v < 0 then -(2 : Int) ^ 79 else 2 ^ 79 - 1) ∧ (∀ k, k ≠ o.acc → (t.arr q).a k = x.a k)
          ∧ Goes { x with acc := (t.arr q).acc } t
          ∧ (motion = true → t.flagged q bSLV 3 ∧ t.get q R.SLV_SAT_LOG F.SLV_SAT_LOG_OP = pc % 2 ^ F.SLV_SAT_LOG_OP.width
            ∧ t.get q R.SLV_SAT_LOG F.SLV_SAT_LOG_CYCLE = s.n % 2 ^ 15 ∧ RegsKept q s t (R.SLV_SAT_LOG :: flagSlots bSLV 3))
          ∧ (motion = false → t.flagged q bEST 10 ∧ RegsKept q s t (flagSlots bEST 10)))))
      ∧ (∀ cmd : Instr, (cmd = .solverNop ∧ code = 0) ∨ (cmd = .tile ∧ code = 16 ∧ (motion = true ∨ x.waiting = false))
          ∨ (cmd = .pub ∧ code = 18 ∧ motion = false) →
        Does cmd s (fun t => Goes x t ∧ RegsKept q s t []))
      ∧ (code = 17 → ¬(motion = true ∧ ∃ j, s.job q = some j ∧ j.phase = .body) → Does .iter s (fun t =>
          t.arr q = (advance q motion ws s).arr q ∧ SameStores s t ∧ RegsKept q s t []))
      ∧ (code = 14 → Does .cmple s (fun t => Goes { x with t := decide (x.a o.acc ≤ x.a (o.srcA % 256)) } t ∧ RegsKept q s t []))
      ∧ (code = 15 → Does .step s (fun t => Goes { x with s := x.s || decide (srcWord q o.srcB s < ((srcWord q o.srcA s).natAbs : Int)) } t
          ∧ RegsKept q s t [])))
    ∧ (∀ e ∈ ([(.solverNop, 0), (.aclr, 1), (.mac, 2), (.msu, 3), (.ald, 4), (.arnd, 5), (.div, 6), (.piv, 7), (.cs, 8), (.sqrt, 9),
          (.clmp, 10), (.add, 11), (.sub, 12), (.ldi, 13), (.cmple, 14), (.step, 15), (.tile, 16), (.iter, 17), (.pub, 18),
          (.solverEnd, 63)] : List (Instr × Nat)),
      (∀ motion ws pc, running q s = some (motion, ws, pc) → opCode (sramOp q ws pc s) ≠ e.2) → Does e.1 s (fun t => Keeps q s t [])))
  ∧ (∀ (q : Plane) (s : State) (motion : Bool) (ws : List Word) (pc : Nat), s.chanter = some q → running q s = some (motion, ws, pc) →
    (motion = false → (s.arr q).waiting = true → pc + 1 < hOps ws) →
    let x := if motion = false ∧ (s.arr q).estFresh = true then { s.arr q with acc := [], t := false, s := false, estFresh := false }
      else s.arr q
    let o := SolverOp.of (sramOp q ws pc s)
    let code := opCode (sramOp q ws pc s)
    let Wrote := fun (l : List Word) (t : State) =>
      (∀ i, i < l.length → t.sram q (o.dst + i) = nth l i 0)
      ∧ (∀ a, (∀ i, i < l.length → a % 2 ^ 22 ≠ (o.dst + i) % 2 ^ 22) → t.sram q a = s.sram q a)
      ∧ t.arr q = { x with sram := (t.arr q).sram, job := ((advance q motion ws s).arr q).job
                           estPc := ((advance q motion ws s).arr q).estPc } ∧ SameStores s t
    let Sat := fun (t : State) => (motion = true → t.flagged q bSLV 3
        ∧ t.get q R.SLV_SAT_LOG F.SLV_SAT_LOG_OP = pc % 2 ^ F.SLV_SAT_LOG_OP.width) ∧ (motion = false → t.flagged q bEST 10)
    let satRegs := if motion then R.SLV_SAT_LOG :: flagSlots bSLV 3 else flagSlots bEST 10
    let d := divRne (srcWord q o.srcA s) o.sh (srcWord q o.srcB s)
    let low := decide ((srcWord q o.dst s).natAbs < (colWord q sTAU o.col s).toNat)
    let p := srcWord q o.dst s + (colWord q sLAMBDA o.col s).toNat
    (∀ (cmd : Instr) (v : Int),
      (cmd = .arnd ∧ code = 5 ∧ v = rneShift (x.a o.acc) (if o.c then bitsAt (colWord q sSHIFT o.col s) 0 6 else o.sh))
        ∨ (cmd = .sqrt ∧ code = 9 ∧ v = sqrtRne ((s.sram q o.srcA).toNat * 2 ^ o.sh))
        ∨ (cmd = .clmp ∧ code = 10 ∧ v = min (max (srcWord q o.srcA s) 0) (srcWord q o.srcB s))
        ∨ (cmd = .add ∧ code = 11 ∧ v = srcWord q o.srcA s + srcWord q o.srcB s)
        ∨ (cmd = .sub ∧ code = 12 ∧ v = srcWord q o.srcA s - srcWord q o.srcB s) →
      (-(2 : Int) ^ 35 ≤ v → v < 2 ^ 35 → Does cmd s (fun t => Wrote [BitVec.ofInt 36 v] t ∧ RegsKept q s t []))
      ∧ (v < -(2 : Int) ^ 35 ∨ 2 ^ 35 ≤ v → Does cmd s (fun t =>
        Wrote [BitVec.ofInt 36 (if v < 0 then -(2 : Int) ^ 35 else 2 ^ 35 - 1)] t ∧ Sat t ∧ RegsKept q s t satRegs)))
    ∧ (code = 6 → Does .div s (fun t => Wrote [wordI d.1] t ∧ (d.2 = false → RegsKept q s t [])
        ∧ (d.2 = true → Sat t ∧ RegsKept q s t satRegs)))
    ∧ (code = 8 → Does .cs s (fun t => Wrote [wordI (cosSin (srcWord q o.srcA s)).1, wordI (cosSin (srcWord q o.srcA s)).2] t
        ∧ RegsKept q s t []))
    ∧ (code = 13 → Does .ldi s (fun t => Wrote [o.imm] t ∧ RegsKept q s t []))
    ∧ (code = 7 → low = true → Does .piv s (fun t => Wrote [BitVec.ofInt 36 (if p < 2 ^ 35 then p else 2 ^ 35 - 1)] t
        ∧ (motion = true → t.flagged q bSLV 2 ∧ t.get q R.SLV_PIV_LOG F.SLV_PIV_LOG_COL = o.col % 2 ^ F.SLV_PIV_LOG_COL.width
          ∧ (p < 2 ^ 35 → RegsKept q s t (R.SLV_PIV_LOG :: flagSlots bSLV 2)))
        ∧ (motion = false → t.flagged q bEST 9 ∧ (p < 2 ^ 35 → RegsKept q s t (flagSlots bEST 9))) ∧ (2 ^ 35 ≤ p → Sat t)))
    ∧ (code = 7 → low = false → Does .piv s (fun t => Wrote [] t ∧ RegsKept q s t [])))

/-- The end of a job's parts: a body run that passes its test below the cap runs again; at the cap the epilogue follows on its
iterate; one that fails ends the loop with the last iterate that passed, or with ITER; PUB writes its word of the pending result
and clears EXTRAP of its axis; END ends the epilogue and the dynamics pass, and the job where no dynamics Pricking is in force;
an estimation program gives the array to a motion job that waits; SOLVE_DEADLINE ends a loop, with DEADLINE where it has no
iterate (R140, R158, R160, R161, R162, R165). It rests on the model's readings in log entries 2, 7, 60, 61, 62, 64, 136. -/
def Obligations.SolverJobsEnd : Prop :=
  ∀ (q : Plane) (s : State), s.chanter = some q →
    let x := s.arr q
    let m := prickWords x.mot
    let it := regionBase m .iterate
    let Ended := fun (j : SlvJob) (ks : List Nat) (t : State) =>
      (x.dyn = none → t.job q = some { j with phase := .ended } ∧ ((∀ i, i < 160 → isFrozen q i s = false) → SameStores s t)
        ∧ RegsKept q s t ks)
      ∧ (∀ d, x.dyn = some d → t.job q = some { j with phase := .dynamics, pc := if hPro d.ws = 0 then hBody d.ws else 0, pubbed := [] }
        ∧ (t.arr q).t = false ∧ (t.arr q).s = false ∧ ∀ k, (t.arr q).a k = 0)
    let Epilogue := fun (j : SlvJob) (ks : List Nat) (t : State) =>
      t.job q = some { j with phase := .epilogue, pc := hPro m + hBody m, pubbed := [] }
      ∧ (it ≠ absentBase → ∀ i, i < j.keep.length → t.sram q (it + i) = nth j.keep i 0) ∧ SameStores s t ∧ RegsKept q s t ks
    let Takes := fun (t : State) => (t.arr q).waiting = false ∧ (t.job q).isSome = true
    (∀ (ws : List Word) (pc : Nat) (j : SlvJob), running q s = some (true, ws, pc) → s.job q = some j → j.keep.length ≤ 160 →
      let o := SolverOp.of (sramOp q ws pc s)
      let code := opCode (sramOp q ws pc s)
      let kept := if it = absentBase then [] else (List.range 160).map (fun i => s.sram q (it + i))
      (code = 17 → j.phase = .body → x.t = true → x.s = false →
        (j.k + 1 < j.cap → Does .iter s (fun t =>
          t.arr q = { x with t := false, job := some { j with k := j.k + 1, best := j.k + 1, keep := kept, pc := hPro m } }
          ∧ SameStores s t ∧ RegsKept q s t []))
        ∧ (j.cap ≤ j.k + 1 → Does .iter s (Epilogue { j with k := j.k + 1, best := j.k + 1, keep := kept, outcome := 0 } [])))
      ∧ (code = 17 → j.phase = .body → (x.t && !x.s) = false →
        (j.best = 0 → Does .iter s (fun t => Ended { j with k := j.k + 1, outcome := 4 } (flagSlots bSLV 1) t ∧ t.flagged q bSLV 1))
        ∧ (j.best ≠ 0 → Does .iter s (Epilogue { j with k := j.k + 1, outcome := 1 } [])))
      ∧ (code = 18 → j.phase = .dynamics → s.isBad q ((pendBuf q s + o.dst) / 2) = false → pendBuf q s + o.dst < storeWords →
        Does .pub s (fun t => t.sw q (pendBuf q s + o.dst) = s.sram q o.srcA
          ∧ (∀ p a, (p ≠ q ∨ a ≠ pendBuf q s + o.dst) → t.sw p a = s.sw p a) ∧ (t.arr q).sram = x.sram ∧ RegsKept q s t []))
      ∧ (code = 18 → j.phase ≠ .dynamics → o.dst % 8 ≠ 5 → (s.plane q).store.bad = [] → pendBuf q s + 8 * (o.dst / 8) + 7 < storeWords →
        let w := pendBuf q s + 8 * (o.dst / 8) + 5
        Does .pub s (fun t => t.sw q (pendBuf q s + o.dst) = s.sram q o.srcA ∧ t.sw q w = s.sw q w &&& ~~~(2 : Word)
          ∧ (∀ p a, (p ≠ q ∨ a ≠ pendBuf q s + o.dst ∧ a ≠ w) → t.sw p a = s.sw p a) ∧ (t.arr q).sram = x.sram ∧ RegsKept q s t []))
      ∧ (code = 63 → j.phase = .dynamics → Does .solverEnd s (fun t =>
          t.arr q = { x with job := some { j with phase := .ended, dynDone := true } } ∧ SameStores s t ∧ RegsKept q s t []))
      ∧ (code = 63 → j.phase = .epilogue → Does .solverEnd s (Ended j [])))
    ∧ (∀ (ws : List Word) (pc : Nat), running q s = some (false, ws, pc) →
      let code := opCode (sramOp q ws pc s)
      (code = 63 → x.waiting = false → Does .solverEnd s (fun t => t.arr q = { x with estPc := 0 } ∧ SameStores s t ∧ RegsKept q s t []))
      ∧ (code = 63 → x.waiting = true → Does .solverEnd s Takes)
      ∧ (code = 16 → x.waiting = true → Does .tile s Takes))
    ∧ (s.cyc.starts = 0 → Does .solveDeadline s (fun t => Keeps q s t []))
    ∧ (s.cyc.starts ≠ 0 → x.waiting = true → Does .solveDeadline s (fun t => Takes t
        ∧ t.dg R.TIM_CYC_STATUS F.TIM_CYC_STATUS_PHASE = 2 ∧ t.now = max s.now (solveDeadline s)))
    ∧ (s.cyc.starts ≠ 0 → x.waiting = false →
      (s.job q = none → Does .solveDeadline s (fun t => t.dg R.TIM_CYC_STATUS F.TIM_CYC_STATUS_PHASE = 2
        ∧ t.now = max s.now (solveDeadline s) ∧ SameStores s t ∧ RegsKept q s t [R.TIM_CYC_STATUS]))
      ∧ (∀ j, s.job q = some j → j.keep.length ≤ 160 →
        ((j.phase = .prologue ∧ j.best = 0) ∨ (j.phase = .body ∧ j.best = 0) → Does .solveDeadline s (fun t =>
          Ended { j with outcome := 3 } (R.TIM_CYC_STATUS :: flagSlots bSLV 0) t ∧ t.flagged q bSLV 0))
        ∧ (j.phase = .body → j.best ≠ 0 → j.first = true → Does .solveDeadline s (Epilogue { j with outcome := 0 } [R.TIM_CYC_STATUS]))
        ∧ (j.phase = .body → j.best ≠ 0 → j.first = false → Does .solveDeadline s (fun t =>
          Epilogue { j with outcome := 2 } (R.TIM_CYC_STATUS :: flagSlots bSLV 0) t ∧ t.flagged q bSLV 0))
        ∧ (j.phase = .epilogue ∨ j.phase = .dynamics ∨ j.phase = .ended → Does .solveDeadline s (fun t => t.arr q = x ∧ SameStores s t
          ∧ t.now = max s.now (solveDeadline s) ∧ RegsKept q s t [R.TIM_CYC_STATUS]))))

/-- The solver's commands: an ACTIVATE that passes its checks loads the Pricking, which takes effect at a commit, and before the
first cycle at once where the other plane is retired or holds the same Pricking; one that fails says why; RESTART makes the next
solve a first one; a reserved code is refused with REFUSE = 0xA (R147, R167, R168, R171). -/
def Obligations.PrickingsAreActivated : Prop :=
  ∀ (q : Plane) (s : State), s.chanter = some q → (s.plane q).store.bad = [] →
    let st := R.SLV_STATUS
    let a := (s.rd q R.SLV_ARG).toNat
    let check := activateCheck q a (s.put q R.SLV_CMD F.SLV_CMD_CODE 1)
    (check = 0 → s.cyc.starts ≠ 0 → hKind (prickAt q a s) ≠ 2 → Does .activate s (fun t =>
        (t.arr q).newMot = some ⟨prickAt q a s, (s.slv q).genM + 1⟩ ∧ (t.slv q).newMot = some a ∧ (t.arr q).mot = (s.arr q).mot
        ∧ t.get q st F.SLV_STATUS_MOTION = 1 ∧ SameStores s t ∧ RegsKept q s t [R.SLV_CMD, st]))
    ∧ (check = 0 → s.cyc.starts ≠ 0 → hKind (prickAt q a s) = 2 → Does .activate s (fun t =>
        (t.arr q).newDyn = some ⟨prickAt q a s, (s.slv q).genD + 1⟩ ∧ (t.slv q).newDyn = some a ∧ (t.arr q).dyn = (s.arr q).dyn
        ∧ t.get q st F.SLV_STATUS_DYN = 1 ∧ SameStores s t ∧ RegsKept q s t [R.SLV_CMD, st]))
    ∧ (check = 0 → s.cyc.starts = 0 → hKind (prickAt q a s) ≠ 2 → (planeState q.other s = 5
        ∨ ((s.ward q.other).inReset = false ∧ prickAt q.other a s = prickAt q a s)) → Does .activate s (fun t =>
        (t.arr q).mot = some ⟨prickAt q a s, (s.slv q).genM + 1⟩ ∧ (t.slv q).mot = some a ∧ t.get q st F.SLV_STATUS_MOTION = 2
        ∧ t.get q st F.SLV_STATUS_FIRST_PENDING = 1 ∧ t.rd q R.SLV_ID_M0 = hw (prickAt q a s) 20
        ∧ t.rd q R.SLV_ID_M1 = hw (prickAt q a s) 21 ∧ t.flagged q bSLV 6
        ∧ (planeState q.other s ≠ 5 → (t.arr q.other).mot = (t.arr q).mot)))
    ∧ (check ≠ 0 → check < 16 → Does .activate s (fun t => t.get q st F.SLV_STATUS_REFUSE = check ∧ t.flagged q bSLV 7
        ∧ Keeps q s t (R.SLV_CMD :: st :: flagSlots bSLV 7)))
    ∧ Does .restart s (fun t => t.get q st F.SLV_STATUS_FIRST_PENDING = 1 ∧ (∀ j, s.job q = some j → t.job q = some { j with again := true })
        ∧ SameStores s t ∧ RegsKept q s t [R.SLV_CMD, st])
    ∧ (∀ code : BitVec 4, 3 ≤ code.toNat → Does (.slvCmdReserved code) s (fun t => t.get q st F.SLV_STATUS_REFUSE = 10
        ∧ t.flagged q bSLV 7 ∧ Keeps q s t (R.SLV_CMD :: st :: flagSlots bSLV 7)))

/-- The estimation sequencer: it takes the next submission and checks it, counts a trial that accepts or rejects its step, ends
at the first condition that holds, on records that are overwritten or missing, on its time budget or its checks, and keeps host
commands for the next commit; a submission count out of range and a reserved code are refused (R174, R176, R177, R186, R188,
R189, R191, R198, R199). The intake of observations, in each plane that is not held in reset: a record of the federation goes to
the ring over its link; one of a station or of a probe's edge is rejected with its reason, goes to the ring, or, if it asks for
positions, waits for the samples around its time; and the oldest one that waits is filled when they exist (R184, R185). It rests
on the model's readings in log entries 2, 7, 66, 67, 68. -/
def Obligations.EstimationRuns : Prop :=
  (∀ (q : Plane) (s : State), s.chanter = some q → (s.plane q).store.bad = [] →
    let e := s.est q
    let k := s.get q R.EST_SUB_CFG F.EST_SUB_CFG_SIZE_LOG2
    let rd := s.get q R.EST_SUB_RD F.EST_SUB_RD_COUNT
    let wr := s.get q R.EST_SUB_WR F.EST_SUB_WR_COUNT
    let job := R.EST_JOB
    let last := R.EST_LAST
    let Gone := fun (status : Nat) (t : State) => estState q t = 0 ∧ (t.est q).job = none ∧ (t.arr q).est = none
      ∧ t.get q last F.EST_LAST_STATUS = status % 2 ^ F.EST_LAST_STATUS.width ∧ t.flagged q bEST 0
    (estState q s = 0 → 1 ≤ k → k ≤ 6 → rd ≠ wr → Does .jobLoad s (fun t =>
        let a := (s.sw q ((s.rd q R.EST_SUB_BASE).toNat / 2 ^ k * 2 ^ k + rd % 2 ^ k)).toNat
        let d := s.swords q a 20
        let ws := prickAt q (nth d 1 0).toNat s
        t.get q R.EST_SUB_RD F.EST_SUB_RD_COUNT = (rd + 1) % 2 ^ 32 ∧ t.rd q R.EST_JOB_ADDR = wordN a
        ∧ (loadCheck q a d ws s = 0 → overrun q d s = false → estState q t = 2 ∧ (t.est q).job = some d
          ∧ (t.arr q).est = some ⟨ws, 0⟩ ∧ (t.est q).used = (validRecords q d s).length ∧ (t.est q).theta = (startValues q d ws s).theta
          ∧ (t.est q).points = (startValues q d ws s).points ∧ (t.est q).f = costWord (fitOf q d ws s) (startValues q d ws s))
        ∧ (loadCheck q a d ws s = 0 → overrun q d s = true → Gone 8 t)
        ∧ (loadCheck q a d ws s ≠ 0 → estState q t = 0 ∧ (t.est q).job = none ∧ t.get q last F.EST_LAST_STATUS = 6
          ∧ t.get q last F.EST_LAST_REASON = loadCheck q a d ws s)))
    ∧ ((estState q s ≠ 0 ∨ k = 0 ∨ k = 7 ∨ rd = wr) → Does .jobLoad s (fun t => Keeps q s t []))
    ∧ (∀ v : BitVec 32, (v.toNat + 2 ^ 32 - wr) % 2 ^ 32 ≤ 2 ^ k → (v.toNat + 2 ^ 32 - rd) % 2 ^ 32 ≤ 2 ^ k →
        Does (.estSubWrWrite v) s (fun t => t.get q R.EST_SUB_WR F.EST_SUB_WR_COUNT = v.toNat ∧ Keeps q s t [R.EST_SUB_WR]))
    ∧ (∀ v : BitVec 32, (2 ^ k < (v.toNat + 2 ^ 32 - wr) % 2 ^ 32 ∨ 2 ^ k < (v.toNat + 2 ^ 32 - rd) % 2 ^ 32) →
        Does (.estSubWrWrite v) s (fun t => t.flagged q bEST 11 ∧ Keeps q s t (flagSlots bEST 11)))
    ∧ (∀ d : List Word, e.job = some d → estState q s = 2 → overrun q d s = false → validRecords q d s ≠ [] →
        Does .iterationEnd s (fun t =>
          let ws := match (s.arr q).est with
            | some p => p.ws
            | none => prickAt q (nth d 1 0).toNat s
          let fit := fitOf q d ws s
          let lam := signedOf 8 (s.get q job F.EST_JOB_LAMBDA_EXP)
          let x := trialAt fit ⟨e.theta, e.points⟩ lam (movable q d fit s)
          let f := costWord fit x.1
          let it := s.get q job F.EST_JOB_ITER + 1
          let status := if f < e.f ∧ ((e.f - f) * 2 ^ 36 ≤ dEps d * e.f ∨ f = 0) then 1 else if dCap d ≤ it then 2
            else if dBudget d ≤ s.now - e.began then 3 else if 40 < (if f < e.f then max (lam - 2) (-32) else lam + 3) then 4 else 0
          t.get q job F.EST_JOB_ITER = it % 2 ^ F.EST_JOB_ITER.width ∧ (t.est q).job = some d
          ∧ (status = 0 → estState q t = 2) ∧ (status ≠ 0 → estState q t = 3 ∧ (t.est q).status = status)
          ∧ (x.2.1 = true → t.flagged q bEST 10) ∧ (x.2.2 = true → t.flagged q bEST 9)
          ∧ (f < e.f → (t.est q).f = f ∧ (t.est q).theta = x.1.theta ∧ (t.est q).points = x.1.points)
          ∧ (e.f ≤ f → (t.est q).f = e.f ∧ (t.est q).theta = e.theta ∧ (t.est q).points = e.points ∧ SameStores s t)))
    ∧ (∀ d : List Word, e.job = some d → estState q s = 2 → overrun q d s = true → Does .iterationEnd s (Gone 8))
    ∧ (∀ d : List Word, e.job = some d → estState q s = 2 → overrun q d s = false → validRecords q d s = [] →
        Does .iterationEnd s (Gone 7))
    ∧ (∀ d : List Word, e.job = some d → estState q s = 2 → Does .estTimeout s (fun t => estState q t = 3
        ∧ t.est q = { e with status := 3 } ∧ t.now = max s.now (e.began + dBudget d) ∧ SameStores s t ∧ RegsKept q s t [job]))
    ∧ ((e.job = none ∨ estState q s ≠ 2) → Does .iterationEnd s (fun t => Keeps q s t []) ∧ Does .estTimeout s (fun t => Keeps q s t []))
    ∧ (∀ d : List Word, e.job = some d → estState q s = 3 → overrun q d s = false → Does .checkingDone s (fun t =>
        let ws := match (s.arr q).est with
          | some p => p.ws
          | none => prickAt q (nth d 1 0).toNat s
        let fit := fitOf q d ws s
        let tr := traceWord fit ⟨e.theta, e.points⟩ (movable q d fit s)
        let check := if (e.status ≠ 1 ∧ bitsAt (nth d 12 0) 1 1 = 0) ∨ s.get q job F.EST_JOB_ACCEPTED = 0 then 4
          else if bitsAt (nth d 12 0) 0 1 = 1 then 5 else (plausible q (nth d 2 0) e.theta tr.1 (dCov d) s).1
        Gone e.status t ∧ t.get q last F.EST_LAST_CHECK = check ∧ (t.est q).ready = (if check = 0 then some (nth d 7 0).toNat else e.ready)
        ∧ (check = 1 ∨ check = 2 ∨ check = 3 → t.flagged q bEST 1)))
    ∧ (∀ d : List Word, e.job = some d → estState q s = 3 → overrun q d s = true → Does .checkingDone s (Gone 8))
    ∧ ((e.job = none ∨ estState q s ≠ 3) → Does .checkingDone s (fun t => Keeps q s t []))
    ∧ (∀ (cmd : Instr) (code : Nat), (cmd = .estAbort ∧ code = 1) ∨ (cmd = .discard ∧ code = 2) ∨ (cmd = .estApply ∧ code = 3)
        ∨ (cmd = .nominal ∧ code = 4) ∨ (cmd = .loadPending ∧ code = 5) → Does cmd s (fun t =>
        t.est q = { e with cmds := e.cmds ++ [code] } ∧ t.get q R.EST_CMD F.EST_CMD_CODE = code ∧ SameStores s t
        ∧ RegsKept q s t [R.EST_CMD]))
    ∧ Does (.estCmdReserved 0) s (fun t => Keeps q s t [R.EST_CMD])
    ∧ (∀ code : BitVec 4, 6 ≤ code.toNat → Does (.estCmdReserved code) s (fun t => t.get q job F.EST_JOB_REFUSE = 4
        ∧ t.flagged q bEST 12 ∧ Keeps q s t (R.EST_CMD :: job :: flagSlots bEST 12))))
  ∧ (∀ (q : Plane) (s : State), (s.ward q).inReset = false → (s.plane q).store.bad = [] →
    let Alone := fun (t : State) (ks : List Nat) => (s.ward q.other).inReset = true →
      RegsKept q s t ks ∧ ∀ a, t.sw q.other a = s.sw q.other a
    let Still := fun (t : State) => t.intake q = s.intake q ∧ (∀ a, t.sw q a = s.sw q a)
      ∧ (∀ r, isDev r = false → t.rd q r = s.rd q r) ∧ Alone t []
    let c := s.get q R.EST_OBS_WR F.EST_OBS_WR_COUNT
    let Put := fun (b n : Nat) (l : List Word) (t : State) => (∀ i, i < 24 → t.sw q (b + 24 * (c % n) + i) = nth l i 0)
      ∧ (∀ a, a < b + 24 * (c % n) ∨ b + 24 * (c % n) + 24 ≤ a → t.sw q a = s.sw q a)
      ∧ t.get q R.EST_OBS_WR F.EST_OBS_WR_COUNT = (c + 1) % 2 ^ 32
    let Taken := fun (b n : Nat) (es : List (Nat × List Word)) (ws : List Word) (cmd : Instr) =>
      let kind := bitsAt (nth ws 0 0) 32 4
      let joints := bitsAt (nth ws 0 0) 24 1
      let code := if kind < 1 ∨ 3 < kind then 1 else if nth ws 6 0 = 0 then 2
        else if joints = 1 ∧ (s.armTab (bitsAt (nth ws 0 0) 20 4)).joints = [] then 6 else 0
      (code ≠ 0 → Does cmd s (fun t => Put b n (ws.take 7 ++ [wordN (code * 2 ^ 32)]) t ∧ t.flagged q bEST 8
        ∧ t.get q R.EST_OBS_REJ F.EST_OBS_REJ_COUNT = (s.get q R.EST_OBS_REJ F.EST_OBS_REJ_COUNT + 1) % 2 ^ 32
        ∧ t.intake q = { s.intake q with edges := es } ∧ Alone t (R.EST_OBS_WR :: R.EST_OBS_REJ :: flagSlots bEST 8)))
      ∧ (code = 0 → joints = 0 → Does cmd s (fun t => Put b n (ws.take 7) t ∧ t.intake q = { s.intake q with edges := es }
        ∧ Alone t [R.EST_OBS_WR]))
      ∧ (code = 0 → joints = 1 → Does cmd s (fun t => t.intake q = { s.intake q with
          edges := es, waiting := (s.intake q).waiting ++ [⟨ws.take 7, of72 (nth ws 1 0) (nth ws 2 0), s.n⟩] }
        ∧ (∀ a, t.sw q a = s.sw q a) ∧ Alone t []))
    (∀ b n : Nat, obsRing q s = some (b, n) → b + 24 * n ≤ storeWords →
      (∀ ws : List Word, (s.linkUp (portLink q) = true → Does (.obsIntake (.federation ws)) s (fun t => Put b n ws t
          ∧ t.intake q = s.intake q ∧ Alone t [R.EST_OBS_WR]))
        ∧ (s.linkUp (portLink q) = false → Does (.obsIntake (.federation ws)) s Still))
      ∧ (∀ k : Fin 8, (∀ e, (s.intake q).edges.find? (fun e => e.1 == k.val) = some e → e.2.length = 7 →
          Taken b n ((s.intake q).edges.erase e) e.2 (.obsIntake (.probe k)))
        ∧ ((s.intake q).edges.find? (fun e => e.1 == k.val) = none → Does (.obsIntake (.probe k)) s Still))
      ∧ (∀ k : Fin 128, (k.val < s.tab.obsAt.length → Taken b n (s.intake q).edges (stationRecord q k s) (.obsIntake (.station k)))
        ∧ (s.tab.obsAt.length ≤ k.val → Does (.obsIntake (.station k)) s Still)))
    ∧ (obsRing q s = none → ∀ src, Does (.obsIntake src) s Still)
    ∧ ((s.intake q).waiting = [] → Does .obsInterpolation s Still)
    ∧ (∀ o rest, (s.intake q).waiting = o :: rest →
        (resolveRecord q o s = none → Does .obsInterpolation s Still)
        ∧ (∀ u, resolveRecord q o s = some u → Does .obsInterpolation s (fun t => (t.intake q).waiting = rest
          ∧ (∀ a, t.sw q a = u.sw q a) ∧ ∀ r, isDev r = false → t.rd q r = u.rd q r))))

/-- The commands of a Stitch queue, each in the states that R100 allows: START, HOLD, RELEASE, CLEAR_FAULT, SKIP, FLUSH,
CONTINUE and RESUME_AT; an arm with an open loop waits where it stands; CLEAR_FAULT and FLUSH of a faulted arm that moves are
held until it rests; in another state, and for a reserved code, a command is refused (R100, R106, R107, R109, R525, R527). It
rests on the model's readings in log entries 29, 50. -/
def Obligations.QueuesObeyCommands : Prop :=
  ∀ (q : Plane) (a : Fin 16) (s : State), s.chanter = some q → (s.pln q).arms.length = 16 → (s.plane q).store.bad = [] →
    let ar := s.arm q a
    let st := R.PLN_Q_STATUS a
    let own := [R.PLN_Q_CMD a, st]
    let Refused := fun (code : Nat) (t : State) => t.get q st F.PLN_Q_STATUS_REFUSE = code ∧ t.flagged q (bPQ a) 13
      ∧ qState q a t = qState q a s ∧ SameStores s t ∧ RegsKept q s t (own ++ flagSlots (bPQ a) 13)
    let Open := fun (t : State) => qState q a t = 2 ∧ waitCode q a t = 7 ∧ (t.arm q a).stopping = true ∧ SameStores s t
      ∧ RegsKept q s t own
    (qState q a s = 0 → 8 ≤ ar.size → ar.size ≤ 24 →
      (armClosed q a s = true → Does (.qStart a) s (fun t => qState q a t = 1
        ∧ t.arm q a = { clearStream ar with held := none, modal := startModal a s, part := (s.armTab a).part, coupled := 0
                                            dirty := true, restPos := some (armPos q a s) }
        ∧ SameStores s t ∧ RegsKept q s t own))
      ∧ (armClosed q a s = false → Does (.qStart a) s (fun t => Open t ∧ (t.arm q a).modal = startModal a s
        ∧ (t.arm q a).ahead = [] ∧ (t.arm q a).sects = [])))
    ∧ (qState q a s ≠ 0 → Does (.qStart a) s (Refused 1))
    ∧ (qState q a s = 0 → (ar.size < 8 ∨ 24 < ar.size) → Does (.qStart a) s (Refused 2))
    ∧ (qState q a s = 1 → Does (.qHold a) s (fun t => qState q a t = 3 ∧ (t.arm q a).stopping = true
        ∧ (t.arm q a).ahead = ar.ahead ∧ (∀ b ∈ mates ar a, t.flagged q (bPA b) 0 ∧ (t.arm q b).stopping = true) ∧ SameStores s t
        ∧ (mates ar a = [] → RegsKept q s t own)))
    ∧ (qState q a s = 2 → Does (.qHold a) s (fun t => qState q a t = 4 ∧ (t.arm q a).wait = ar.wait.map (fun w => w.freeze s.now)
        ∧ waitCode q a t = waitCode q a s ∧ SameStores s t ∧ RegsKept q s t own))
    ∧ (qState q a s ≠ 1 → qState q a s ≠ 2 → Does (.qHold a) s (Refused 1))
    ∧ (qState q a s = 4 → Does (.qRelease a) s (fun t => (t.arm q a).cleared = false))
    ∧ (qState q a s = 4 → ar.redo = none → ar.wait = none →
      (armClosed q a s = true → ar.loopStop = false → Does (.qRelease a) s (fun t => qState q a t = 1 ∧ waitCode q a t = 0
        ∧ (groupFree q a s = true → ∀ b ∈ a.val :: mates ar a, (t.arm q b).stopping = false) ∧ SameStores s t ∧ RegsKept q s t own))
      ∧ (armClosed q a s = false → ar.rests = true → Does (.qRelease a) s Open))
    ∧ (∀ w, qState q a s = 4 → ar.redo = none → ar.wait = some w → waitCode q a s ≠ 7 → Does (.qRelease a) s (fun t => qState q a t = 2
        ∧ (t.arm q a).wait = some (w.thaw s.now) ∧ waitCode q a t = waitCode q a s ∧ SameStores s t ∧ RegsKept q s t own))
    ∧ (∀ x, qState q a s = 4 → ar.redo = some x → x.fault ≠ 0 → Does (.qRelease a) s (fun t => qState q a t = 6
        ∧ t.get q (R.PLN_Q_FAULT a) F.PLN_Q_FAULT_CODE = x.fault % 2 ^ F.PLN_Q_FAULT_CODE.width ∧ t.flagged q (bPQ a) 1
        ∧ (t.arm q a).redo = some x ∧ SameStores s t))
    ∧ (qState q a s ≠ 4 → Does (.qRelease a) s (Refused 1) ∧ Does (.qSkip a) s (Refused 1))
    ∧ (qState q a s = 6 → ar.rests = true → Does (.qClearFault a) s (fun t => qState q a t = 4 ∧ (t.arm q a).cleared = true
        ∧ SameStores s t ∧ RegsKept q s t own))
    ∧ (qState q a s = 6 → ar.rests = false → ∀ (cmd : Instr) (code : Nat), (cmd = .qClearFault a ∧ code = 4) ∨ (cmd = .qFlush a ∧ code = 6) →
        Does cmd s (fun t => t.arm q a = { ar with held := some code } ∧ SameStores s t ∧ RegsKept q s t [R.PLN_Q_CMD a]))
    ∧ (qState q a s ≠ 6 → Does (.qClearFault a) s (Refused 1))
    ∧ (∀ x rest, qState q a s = 4 → ar.redo = none → ar.ahead = x :: rest → Does (.qSkip a) s (fun t =>
        (t.arm q a).ahead = rest ∧ qState q a t = 4 ∧ SameStores s t ∧ (isMotion x.op = false → RegsKept q s t [R.PLN_Q_CMD a])))
    ∧ (∀ x, qState q a s = 4 → ar.redo = some x → Does (.qSkip a) s (fun t => (t.arm q a).redo = none ∧ (t.arm q a).ahead = ar.ahead
        ∧ SameStores s t ∧ RegsKept q s t [R.PLN_Q_CMD a]))
    ∧ (qState q a s = 4 → ar.redo = none → ar.ahead = [] → Does (.qSkip a) s (fun t => t.arm q a = { ar with held := none }
        ∧ SameStores s t ∧ RegsKept q s t [R.PLN_Q_CMD a]))
    ∧ (qState q a s = 4 ∨ qState q a s = 5 ∨ (qState q a s = 6 ∧ ar.rests = true) ∨ qState q a s = 7 → Does (.qFlush a) s (fun t =>
        qState q a t = 0 ∧ waitCode q a t = 0 ∧ (t.arm q a).ahead = [] ∧ (t.arm q a).sects = [] ∧ (t.arm q a).trigs = []
        ∧ (t.arm q a).group = 0 ∧ (∀ e ∈ (t.pln q).excess, e.arm ≠ a.val) ∧ (∀ r ∈ (t.pln q).reqs, r.peer = false → r.arm ≠ a.val)
        ∧ t.get q (R.PLN_Q_FETCH a) F.PLN_Q_FETCH_COUNT = s.get q (R.PLN_Q_WR a) F.PLN_Q_WR_COUNT
        ∧ (∀ z, z < 80 → holdsZone q a z t = false) ∧ SameStores s t))
    ∧ (qState q a s < 4 → Does (.qFlush a) s (Refused 1))
    ∧ (qState q a s = 5 → (armClosed q a s = true → ar.loopStop = false → Does (.qContinue a) s (fun t => qState q a t = 1
        ∧ (t.arm q a).endFetched = false ∧ SameStores s t ∧ RegsKept q s t own))
      ∧ (armClosed q a s = false → ar.rests = true → ar.wait = none → Does (.qContinue a) s (fun t => Open t
        ∧ (t.arm q a).endFetched = false)))
    ∧ (qState q a s ≠ 5 → Does (.qContinue a) s (Refused 1))
    ∧ (resumeCheck q a s = 0 → Does (.qResumeAt a) s (fun t => qState q a t = 7 ∧ waitCode q a t = 8
        ∧ (t.arm q a).modal = recordModal (recordAt q a s)
        ∧ (t.arm q a).resume = some ⟨recordZones (recordAt q a s), nth (recordAt q a s) 1 0, bitsAt (nth (recordAt q a s) 7 0) 16 16,
            (List.range 7).map (fun i => nth (recordAt q a s) (16 + i) 0), (List.range 8).map (fun i => nth (recordAt q a s) (8 + i) 0)⟩
        ∧ (∀ i ∈ (s.armTab a).loops, i < (s.pln q).loops.length → (nth (t.pln q).loops i Loop.initial).value = 0)
        ∧ SameStores s t ∧ RegsKept q s t own))
    ∧ (resumeCheck q a s ≠ 0 → Does (.qResumeAt a) s (Refused (resumeCheck q a s)))
    ∧ Does (.queueCmdReserved a 0) s (fun t => Keeps q s t [R.PLN_Q_CMD a])
    ∧ (∀ code : BitVec 4, 9 ≤ code.toNat → Does (.queueCmdReserved a code) s (Refused 7))

/-- The counts and overrides that the host writes, and the time limits of waits: the checkpoint read count is taken from its
source in range, with STREAM_SRC or WR_RANGE otherwise, an override in 0..1; a DWELL ends in RUNNING, a SYNC, ZONE or WAITIO
time-out and one of a resumption in a fault with its code; a border zone without its peer's frames is reported to its arms (R86,
R87, R90, R96, R105, R107, R134, R138). It rests on the model's readings in log entries 2, 50. -/
def Obligations.CountsAreWrittenAndWaitsTimeOut : Prop :=
  ∀ (q : Plane) (a : Fin 16) (s : State), s.chanter = some q → (s.pln q).arms.length = 16 →
    let ar := s.arm q a
    let st := R.PLN_Q_STATUS a
    let Ignored := fun (c : Instr) => Does c s (fun t => Keeps q s t [])
    let Faulted := fun (code d : Nat) (t : State) => qState q a t = 6 ∧ t.get q (R.PLN_Q_FAULT a) F.PLN_Q_FAULT_CODE = code
      ∧ t.flagged q (bPQ a) 1 ∧ t.now = max s.now d ∧ SameStores s t ∧ (∀ b ∈ mates ar a, t.flagged q (bPA b) 0)
      ∧ (mates ar a = [] → RegsKept q s t ([st, R.PLN_Q_FAULT a, R.PLN_Q_FAULT_POS a] ++ flagSlots (bPQ a) 1))
    (∀ (fed : Bool) (v : BitVec 32),
        let old := s.get q (R.PLN_CKP_RD a) F.PLN_CKP_RD_COUNT
        let fits := decide ((v.toNat + 2 ^ 32 - old) % 2 ^ 32 ≤ (s.get q (R.PLN_CKP_WR a) F.PLN_CKP_WR_COUNT + 2 ^ 32 - old) % 2 ^ 32)
        (fed = decide (ar.src = 1) → fits = true → Does (.ckpRdWrite a fed v) s (fun t =>
          t.get q (R.PLN_CKP_RD a) F.PLN_CKP_RD_COUNT = v.toNat ∧ Keeps q s t [R.PLN_CKP_RD a]))
        ∧ (fed = decide (ar.src = 1) → fits = false → Does (.ckpRdWrite a fed v) s (fun t => t.flagged q (bPQ a) 11
          ∧ Keeps q s t (flagSlots (bPQ a) 11)))
        ∧ (fed ≠ decide (ar.src = 1) → Does (.ckpRdWrite a fed v) s (fun t => t.flagged q (bPQ a) 12
          ∧ Keeps q s t (flagSlots (bPQ a) 12))))
    ∧ (∀ v : Word, unitQ36 v = true → Does (.ovrWrite a v) s (fun t => t.rd q (R.PLN_ARM_OVR a) = v ∧ Keeps q s t [R.PLN_ARM_OVR a]))
    ∧ (∀ v : Word, unitQ36 v = false → Does (.ovrWrite a v) s (fun t => t.flagged q (bPA a) 6 ∧ Keeps q s t (flagSlots (bPA a) 6)))
    ∧ (∀ w d, qState q a s = 2 → ar.wait = some w → w.deadline = some d →
        (waitCode q a s = 1 → Does (.dwellExpiry a) s (fun t => qState q a t = 1 ∧ waitCode q a t = 0
          ∧ t.arm q a = { ar with wait := none, dirty := true } ∧ t.now = max s.now d ∧ SameStores s t ∧ RegsKept q s t [st]))
        ∧ (∀ (code fault : Nat) (cmd : Instr), (code = 3 ∧ fault = 11 ∧ cmd = .syncTimeout a)
            ∨ (code = 4 ∧ fault = 12 ∧ cmd = .zoneTimeout a) ∨ (code = 2 ∧ fault = 14 ∧ cmd = .waitioTimeout a) →
          waitCode q a s = code → Does cmd s (fun t => Faulted fault d t ∧ (t.arm q a).wait = none
            ∧ t.get q (R.PLN_Q_FAULT a) F.PLN_Q_FAULT_TAG = w.tag % 2 ^ F.PLN_Q_FAULT_TAG.width
            ∧ t.get q (R.PLN_Q_FAULT_POS a) F.PLN_Q_FAULT_POS_COUNT = w.pos % 2 ^ F.PLN_Q_FAULT_POS_COUNT.width)))
    ∧ (∀ (code : Nat) (cmd : Instr), (code = 1 ∧ cmd = .dwellExpiry a) ∨ (code = 3 ∧ cmd = .syncTimeout a)
        ∨ (code = 4 ∧ cmd = .zoneTimeout a) ∨ (code = 2 ∧ cmd = .waitioTimeout a) →
      (qState q a s ≠ 2 ∨ waitCode q a s ≠ code ∨ (∀ w, ar.wait = some w → w.deadline = none)) → Ignored cmd)
    ∧ (∀ d r, qState q a s = 7 → ar.resumeBy = some d → ar.resume = some r →
        Does (.resumeTimeout a) s (Faulted (if r.zones.all (fun z => holdsZone q a z s) then 11 else 12) d))
    ∧ ((qState q a s ≠ 7 ∨ ar.resumeBy = none ∨ ar.resume = none) → Ignored (.resumeTimeout a))
    ∧ (∀ b : Fin 16, b.val ∉ (s.pln q).bzLost → Does (.bzLink b) s (fun t => (t.pln q).bzLost = (s.pln q).bzLost ++ [b.val]
        ∧ (∀ k : Fin 16, 64 + b.val ∈ zonesOf q k s → t.flagged q (bPA k) 7) ∧ SameStores s t
        ∧ RegsKept q s t ((List.range 16).flatMap (fun k => flagSlots (bPA k) 7))))
    ∧ (∀ b : Fin 16, b.val ∈ (s.pln q).bzLost → Ignored (.bzLink b))

/-- Stitches are fetched in order: the Stitch that stands next in an arm's ring is checked and joins the look-ahead, and FETCH
moves past its words; a row whose Stitch neither stands next nor is reached does nothing (R69, R93, R101). It rests on the
model's readings in log entries 7, 41, 42, 43. -/
def Obligations.StitchesAreFetched : Prop :=
  ∀ (q : Plane) (a : Fin 16) (s : State), s.chanter = some q → (s.pln q).arms.length = 16 → (s.plane q).store.bad = [] →
    let ar := s.arm q a
    let size := 2 ^ ar.size
    let f := s.get q (R.PLN_Q_FETCH a) F.PLN_Q_FETCH_COUNT
    let at' := fun k => ar.base / size * size + (f + k) % size
    let h := s.sw q (at' 0)
    let n := bitsAt h 24 6
    let ws := (List.range n).map (fun k => s.sw q (at' (k + 1)))
    let fits := 8 ≤ ar.size ∧ ar.size ≤ 24 ∧ ar.aheadFault = false ∧ ar.endFetched = false ∧ ar.ahead.length < 1024
      ∧ ar.trigs.length + movedTrigs q a s < 64 ∧ 1 + n ≤ (s.get q (R.PLN_Q_WR a) F.PLN_Q_WR_COUNT + 2 ^ 32 - f) % 2 ^ 32
    let d := decodeStitch q a ar f h ws s
    ∀ (cmd : Instr) (op : Opcode), (cmd, op) ∈ stitchRows a →
      (fits → opcodeOf (bitsAt h 30 6) = some op →
        (1 ≤ qState q a s → qState q a s ≤ 4 → Does cmd s (fun t => t.get q (R.PLN_Q_FETCH a) F.PLN_Q_FETCH_COUNT = (f + 1 + n) % 2 ^ 32))
        ∧ (qState q a s = 2 ∨ qState q a s = 4 → Does cmd s (fun t =>
          t.get q (R.PLN_Q_FETCH a) F.PLN_Q_FETCH_COUNT = (f + 1 + n) % 2 ^ 32 ∧ (t.arm q a).ahead = ar.ahead ++ [d.1]
          ∧ (d.1.fault = 0 → (t.arm q a).modal = d.2)
          ∧ (d.1.fault ≠ 0 → (t.arm q a).aheadFault = true ∧ t.flagged q (bPQ a) 10
            ∧ t.get q (R.PLN_Q_AHEAD a) F.PLN_Q_AHEAD_CODE = d.1.fault % 2 ^ F.PLN_Q_AHEAD_CODE.width
            ∧ t.get q (R.PLN_Q_AHEAD_POS a) F.PLN_Q_AHEAD_POS_COUNT = f % 2 ^ F.PLN_Q_AHEAD_POS_COUNT.width) ∧ SameStores s t)))
      ∧ ((¬fits ∨ opcodeOf (bitsAt h 30 6) ≠ some op ∨ qState q a s = 0 ∨ 4 < qState q a s) →
        (reaches q a s = false ∨ ∀ x, reachable ar = some x → x.op ≠ op) → (waitCode q a s ≠ 2 ∨ op ≠ .waitio) →
        Does cmd s (fun t => Keeps q s t []))

/-- A Stitch whose place the path parameter has reached shows its end, its tag and, with EVENT, STITCH_EVENT, and has its
effect: modal ones none further, motion ones begin, and COUPLE, TRIG, MARK, SETIO, LAYER, CALIB_APPLY, ZONE_LEAVE, PROC and
PROCRAMP theirs; a LAYER whose checkpoint has no room waits at rest; one that faulted at decode is the arm's fault (R65, R69,
R80, R82, R83, R84, R88, R91, R92, R102, R103, R105). Stitches that wait or end: DWELL, WAITIO on an unmet input, ZONE_ENTER of
a zone not held and a SYNC whose other arms have not come put the arm into WAITING with their code and time limit, or, while it
stops, freeze their wait; ZONE_ENTER of a held zone, a DWELL of 0 and a met WAITIO do not wait; the last arm of a SYNC releases
all of its mask, and a mismatch faults the arms on the id; END ends the queue (R86, R87, R90, R92, R126, R528). It rests on the
model's readings in log entries 7, 14, 33, 41, 42, 43, 47, 49, 134. -/
def Obligations.StitchesAreReached : Prop :=
  (∀ (q : Plane) (a : Fin 16) (st : Stitch) (s : State), s.chanter = some q → (s.pln q).arms.length = 16 → reaches q a s = true →
    reachable (s.arm q a) = some st → (ringOpcode q a s = some st.op → fetchOne q a s = none) →
    let ar := s.arm q a
    let ar1 := ar.after st
    let regs := [R.PLN_Q_REACH a, R.PLN_Q_TAG a] ++ (if st.event then flagSlots (bPQ a) 0 else [])
    let w1 := opW st.ops 1
    let i := bitsAt w1 0 5
    let l := nth (s.pln q).loops i Loop.initial
    let Shown := fun (t : State) => t.get q (R.PLN_Q_REACH a) F.PLN_Q_REACH_COUNT = (st.pos + 1 + st.count) % 2 ^ 32
      ∧ t.get q (R.PLN_Q_TAG a) F.PLN_Q_TAG_TAG = st.tag % 2 ^ F.PLN_Q_TAG_TAG.width ∧ (st.event = true → t.flagged q (bPQ a) 0)
    let Reached := fun (x : Arm) (t : State) => Shown t ∧ t.arm q a = x ∧ qState q a t = qState q a s ∧ SameStores s t
      ∧ RegsKept q s t regs
    let Drives := fun (x : Loop) (t : State) => nth (t.pln q).loops i Loop.initial
        = (if loopBarred q a i s then { x with value := 0, lock := none, ramp := none, out := 0 } else x)
      ∧ (∀ k, k ≠ i → nth (t.pln q).loops k Loop.initial = nth (s.pln q).loops k Loop.initial) ∧ Reached ar1 t
    let full := ckpFull q a s && s.is q (R.PLN_Q_CFG a) F.PLN_Q_CFG_CKP_FULL
    let logged := { ar1 with records := ar.records ++ [layerRecord q a st s], layer := some w1 }
    let w : Wait := ⟨[], none, none, none, st.pos, st.tag⟩
    (st.fault = 0 →
      (∀ cmd : Instr, (cmd, st.op) ∈ [(.stitchNop a, .nop), (.stitchFrame a, .frame), (.stitchLimit a, .limit),
          (.stitchBlend a, .blend)] → Does cmd s (Reached ar1))
      ∧ (∀ cmd : Instr, (cmd, st.op) ∈ [(.stitchLine a, .line), (.stitchArc a, .arc), (.stitchSpline a, .spline)] →
          Does cmd s (Reached { ar1 with cur := some st.pos, kind := 1, tool := st.modal.tool }))
      ∧ (st.op = .joint → Does (.stitchJoint a) s
          (Reached { ar1 with cur := some st.pos, kind := 2, tool := st.modal.tool, moved := ar.moved ||| bitsAt w1 8 8 }))
      ∧ (st.op = .couple → Does (.stitchCouple a) s (Reached { ar1 with coupled := bitsAt w1 0 32, part := partNow q a s }))
      ∧ (st.op = .trig → Does (.stitchTrig a) s
          (Reached { ar1 with trigs := ar.trigs.map (fun x => if x.pos = st.pos then { x with armed := true } else x) }))
      ∧ (st.op = .layer → full = false → Does (.stitchLayer a) s (fun t => Reached logged t ∧ (t.pln q).calib = ((s.pln q).calib
          || bitN (opW st.ops 2).toNat 0 || s.ag q R.EST_CFG F.EST_CFG_APPLY_AT_LAYER == 1)))
      ∧ (st.op = .layer → full = true → qState q a s = 1 → ar.rests = true → Does (.stitchLayer a) s (fun t => Shown t
          ∧ t.arm q a = { logged with wait := some w } ∧ qState q a t = 2 ∧ waitCode q a t = 5 ∧ SameStores s t
          ∧ RegsKept q s t (R.PLN_Q_STATUS a :: regs)))
      ∧ (st.op = .layer → full = true → qState q a s = 1 → ar.rests = false → Does (.stitchLayer a) s (fun t => Shown t
          ∧ (t.arm q a).records = logged.records ∧ (t.arm q a).wait = some w ∧ (t.arm q a).ckpStop = true ∧ (t.arm q a).stopping = true
          ∧ qState q a t = 1 ∧ SameStores s t ∧ RegsKept q s t regs))
      ∧ (st.op = .calibApply → Does (.stitchCalibApply a) s (fun t => (t.pln q).calib = true ∧ Reached ar1 t))
      ∧ (st.op = .mark → Does (.stitchMark a) s (fun t => t.rd q (R.PLN_Q_MARK a) = w1 ∧ Shown t ∧ t.arm q a = ar1 ∧ SameStores s t
          ∧ RegsKept q s t (R.PLN_Q_MARK a :: regs)))
      ∧ (st.op = .setio → bitsAt w1 34 2 = 0 → Does (.stitchSetio a) s (fun t =>
          bitN (t.pln q).douts (bitsAt w1 0 4) = bitN (opW st.ops 2).toNat 0
          ∧ (∀ k, k ≠ bitsAt w1 0 4 → bitN (t.pln q).douts k = bitN (s.pln q).douts k) ∧ Reached ar1 t))
      ∧ (∀ b, st.op = .setio → bitsAt w1 34 2 ≠ 0 → stationBit (s.armTab a).outs w1 = some b → b.bit < 36 →
          (s.plane q).store.bad = [] → s.cbus.txBase + b.place < storeWords → Does (.stitchSetio a) s (fun t =>
          let p := s.cbus.txBase + b.place
          bitN (t.sw q p).toNat b.bit = bitN (opW st.ops 2).toNat 0
          ∧ (∀ k, k ≠ b.bit → bitN (t.sw q p).toNat k = bitN (s.sw q p).toNat k)
          ∧ (∀ r x, (r ≠ q ∨ x ≠ p) → t.sw r x = s.sw r x) ∧ Shown t ∧ t.arm q a = ar1 ∧ RegsKept q s t regs))
      ∧ (st.op = .zoneLeave → bitsAt w1 0 7 < 80 → holdsZone q a (bitsAt w1 0 7) s = true → Does (.stitchZoneLeave a) s (fun t =>
          holdsZone q a (bitsAt w1 0 7) t = false ∧ t.get q (R.PLN_ZONE (bitsAt w1 0 7)) F.PLN_ZONE_HELD = 0 ∧ Shown t
          ∧ t.arm q a = ar1 ∧ SameStores s t
          ∧ RegsKept q s t ([(zoneBit a (bitsAt w1 0 7)).1, R.PLN_ZONE (bitsAt w1 0 7)] ++ regs)))
      ∧ (st.op = .zoneLeave → holdsZone q a (bitsAt w1 0 7) s = false → Does (.stitchZoneLeave a) s (fun t => t.flagged q (bPQ a) 7
          ∧ Shown t ∧ t.arm q a = ar1 ∧ SameStores s t ∧ RegsKept q s t (flagSlots (bPQ a) 7 ++ regs)))
      ∧ (st.op = .proc → i < (s.pln q).loops.length → Does (.stitchProc a) s (Drives
          (if st.feedLock then { l with value := fixed (opW st.ops 2) 34, lock := some (fixed (opW st.ops 3) 24),
                                        ref := some (fixed (opW st.ops 3) 24), ramp := none }
           else { l with value := fixed (opW st.ops 2) 34, lock := none, ramp := none })))
      ∧ (st.op = .procramp → i < (s.pln q).loops.length → Does (.stitchProcramp a) s (Drives
          (let lock := if st.feedLock then l.ref else none
           let start := if lock.isNone && l.lock.isSome then l.out else l.value
           if opW st.ops 3 = 0 then { l with value := fixed (opW st.ops 2) 34, lock := lock, ramp := none }
           else { l with value := start, lock := lock, ramp := some ⟨start, fixed (opW st.ops 2) 34, bitN w1.toNat 35,
             if bitN w1.toNat 35 then fixed (opW st.ops 3) 30 else ((opW st.ops 3).toNat : Rat) / 2 ^ 32, 0, a⟩ }))))
    ∧ (∀ cmd : Instr, st.fault ≠ 0 → qState q a s ≠ 6 → (cmd, st.op) ∈ stitchRows a → Does cmd s (fun t => qState q a t = 6
        ∧ t.get q (R.PLN_Q_FAULT a) F.PLN_Q_FAULT_CODE = st.fault % 2 ^ F.PLN_Q_FAULT_CODE.width
        ∧ t.get q (R.PLN_Q_FAULT_POS a) F.PLN_Q_FAULT_POS_COUNT = st.pos % 2 ^ F.PLN_Q_FAULT_POS_COUNT.width
        ∧ (t.arm q a).redo = some st ∧ t.flagged q (bPQ a) 1 ∧ SameStores s t)))
  ∧ (∀ (q : Plane) (a : Fin 16) (st : Stitch) (s : State), s.chanter = some q → (s.pln q).arms.length = 16 → reaches q a s = true →
    reachable (s.arm q a) = some st → (ringOpcode q a s = some st.op → fetchOne q a s = none) → st.fault = 0 →
    let ar := s.arm q a
    let regs := [R.PLN_Q_REACH a, R.PLN_Q_TAG a, R.PLN_Q_STATUS a] ++ (if st.event then flagSlots (bPQ a) 0 else [])
    let w1 := opW st.ops 1
    let until' := fun (w : Word) => if w = 0 then none else some (s.now + psOfD36 w)
    let z := bitsAt w1 0 7
    let stood := ar.sects.any (fun c => c.zone && decide (ar.cur = some c.st.pos))
    let Waits := fun (code : Nat) (w : Wait) (ks : List Nat) (t : State) => waitCode q a t = code ∧ (t.arm q a).last = some st
      ∧ (qState q a s = 1 → qState q a t = 2 ∧ (t.arm q a).wait = some w)
      ∧ (qState q a s ≠ 1 → qState q a t = qState q a s ∧ (t.arm q a).wait = some ({ w with level := none }.freeze s.now))
      ∧ SameStores s t ∧ RegsKept q s t (ks ++ regs)
    let wait := fun (args : List Nat) (by' : Option Nat) => (⟨args, by', none, none, st.pos, st.tag⟩ : Wait)
    let Passes := fun (t : State) => qState q a t = qState q a s ∧ (t.arm q a).wait = none ∧ (t.arm q a).last = some st ∧ SameStores s t
      ∧ RegsKept q s t regs
    let Mismatch := fun (t : State) => qState q a t = 6 ∧ t.get q (R.PLN_Q_FAULT a) F.PLN_Q_FAULT_CODE = 10 ∧ t.flagged q (bPQ a) 1
    let mode := bitsAt w1 32 4
    let mask := bitsAt w1 0 16
    let id := bitsAt (opW st.ops 2) 0 16
    let others := syncWaiters q id s
    let uneven := decide (ar.group ≠ 0) && groupUneven q a s
    let c := bitsAt (opW st.ops 2) 0 2
    let lev := ioLevel q a w1 s
    let met := (decide (c = 0) && lev == some false) || (decide (c = 1) && lev == some true)
    (st.op = .dwell → w1 ≠ 0 → Does (.stitchDwell a) s (Waits 1 (wait [] (some (s.now + psOfD36 w1))) []))
    ∧ (st.op = .dwell → w1 = 0 → Does (.stitchDwell a) s Passes)
    ∧ (st.op = .zoneEnter → holdsZone q a z s = false → Does (.stitchZoneEnter a) s (fun t =>
        Waits 4 (wait [z] (until' (opW st.ops 2))) (if stood then flagSlots (bPA a) 5 else []) t
        ∧ (stood = true → t.flagged q (bPA a) 5)))
    ∧ (st.op = .zoneEnter → holdsZone q a z s = true → Does (.stitchZoneEnter a) s Passes)
    ∧ (st.op = .sync → ¬(mode = 1 ∧ ar.group ≠ 0) → ¬(mode = 2 ∧ uneven = true) →
        ((others.any (syncClash (a, mode, mask)) = false → (∃ b ∈ bitsOf 16 mask, b ≠ a.val ∧ (b, mode, mask) ∉ others) →
          Does (.stitchSync a) s (Waits 3 (wait [id, mode, mask] (until' (opW st.ops 3))) []))
        ∧ (others.any (syncClash (a, mode, mask)) = false → bitN mask a = true →
          (∀ b ∈ bitsOf 16 mask, b ≠ a.val → (b, mode, mask) ∈ others) → qState q a s = 1 → Does (.stitchSync a) s (fun t =>
            qState q a t = 1 ∧ (∀ b ∈ bitsOf 16 mask, (t.arm q b).wait = none ∧ waitCode q b t = 0
              ∧ (mode = 1 → (t.arm q b).group = mask) ∧ (mode = 2 → (t.arm q b).group = 0)) ∧ SameStores s t))
        ∧ (others.any (syncClash (a, mode, mask)) = true → qState q a s = 1 → Does (.stitchSync a) s (fun t => Mismatch t
            ∧ ∀ e ∈ others, qState q e.1 t = 6))))
    ∧ (st.op = .sync → mode = 1 → ar.group ≠ 0 → qState q a s ≠ 6 → Does (.stitchSync a) s Mismatch)
    ∧ (uneven = true → bitN ar.group a = true → qState q a s ≠ 6 →
        (st.op = .sync → mode = 2 → Does (.stitchSync a) s Mismatch) ∧ (st.op = .finish → Does (.stitchEnd a) s Mismatch))
    ∧ (st.op = .waitio → (qState q a s ≠ 1 ∨ met = false) → Does (.stitchWaitio a) s
        (Waits 2 { wait [w1.toNat, c] (until' (opW st.ops 3)) with level := lev } []))
    ∧ (st.op = .waitio → qState q a s = 1 → met = true → Does (.stitchWaitio a) s (fun t => Passes t ∧ waitCode q a t = 0))
    ∧ (st.op = .finish → uneven = false → qState q a s = 1 → Does (.stitchEnd a) s (fun t => qState q a t = 5 ∧ t.flagged q (bPQ a) 2
        ∧ (t.arm q a).last = some st ∧ SameStores s t ∧ RegsKept q s t (regs ++ flagSlots (bPQ a) 2)))
    ∧ (st.op = .finish → uneven = false → qState q a s ≠ 1 → Does (.stitchEnd a) s (fun t => qState q a t = qState q a s
        ∧ (t.arm q a).redo = some st ∧ SameStores s t ∧ RegsKept q s t regs)))

/-- Device reset (R509): every register but those of the Field die, VBAT and the OTP takes its reset value, the stores read 0,
what VBAT keeps and the commands that wait stay, and boot waits for power good; only an OTP command that it cuts short changes
the OTP; OVERTEMP holds the device until OVERTEMP_RELEASE, and REBOOT with no channel closed is such a reset (R459, R460). It
rests on the model's readings in log entries 7, 119, 120, 121. -/
def Obligations.DeviceResetClearsAllButField : Prop :=
  ∀ s : State,
    let quiet := s.boot.job = none ∨ ∃ n, s.boot.job = some (.attest n)
    let Reset := fun (hot : Bool) (t : State) => (∀ p k, k ≠ R.RED_CFG → (quiet ∨ k ≠ R.SEC_OTP) →
        t.rd p k = if isDev k = true ∧ keptSlot k = true then s.rd p k else State.reset.rd p k)
      ∧ t.dg R.RED_CFG F.RED_CFG_MODE = s.dg R.RED_CFG F.RED_CFG_MODE ∧ (∀ q a, t.sw q a = 0) ∧ t.chanter = none ∧ t.boot.up = false
      ∧ t.boot.hot = hot ∧ (quiet → t.boot.keys = s.boot.keys) ∧ t.boot.vbatLost = s.boot.vbatLost ∧ t.boot.chal = none
      ∧ t.boot.man = none ∧ t.boot.job = none ∧ t.boot.flashed = s.boot.flashed
      ∧ t.fio = s.fio ∧ t.fed.cal = s.fed.cal ∧ t.fed.calAt = s.fed.calAt ∧ t.now = s.now ∧ t.pending = s.pending ∧ t.tab = Tables.initial
    Does .ioRailFault s (Reset s.boot.hot) ∧ Does .resetNLow s (Reset s.boot.hot) ∧ Does .overtemp s (Reset true)
    ∧ Does .overtempRelease s (fun t => t.boot = { s.boot with hot := false } ∧ Keeps .a { s with boot := t.boot } t [])
    ∧ (s.anyClosed = false → Does .secReboot s (Reset s.boot.hot))
    ∧ (s.anyClosed = true → Does .secReboot s (fun t => t.dg R.SEC_STATUS F.SEC_STATUS_REFUSE = 3 ∧ t.flagged .a bBOOT 10
        ∧ Keeps .a s t ([R.SEC_CMD, R.SEC_STATUS] ++ flagSlots bBOOT 10)))

/-- Power good: the ROM takes the trial bank where one is valid, once, and the preferred one otherwise, and reaches MANIFEST
when the flash answers, from the other bank when only that one's does, and FAILED when none does; REFCLK_SEL is sampled;
BOOT_SEL reads 0 after the loss of VBAT, which the next power good shows (R43, R447, R448, R349, R455, R510). Boot ends: in
READY, with its time and the tolerable wake latencies of the device tables, or 60 s after power good in FAILED with code 0xE,
every DO off, the sequencer stopped and no grant (R455 to R457). It rests on the model's readings in log entries 2, 95, 108,
113, 117, 118. -/
def Obligations.BootStartsAndEnds : Prop :=
  (∀ s : State,
    (∀ p : PowerOn, s.boot.up = false → s.boot.hot = false →
      let b := if s.dg R.BOOT_SEL F.BOOT_SEL_TRY_VALID = 1 then s.dg R.BOOT_SEL F.BOOT_SEL_TRY_BANK
        else s.dg R.BOOT_SEL F.BOOT_SEL_PREF
      let f := if b = 0 then p.flash0 else p.flash1
      let g := if b = 0 then p.flash1 else p.flash0
      Does (.powerGood p) s (fun t => t.dg R.BOOT_SEL F.BOOT_SEL_TRY_VALID = 0
        ∧ t.dg R.BOOT_SEL F.BOOT_SEL_PREF = s.dg R.BOOT_SEL F.BOOT_SEL_PREF
        ∧ t.dg R.BOOT_SEL F.BOOT_SEL_VBAT_LOST = b2n s.boot.vbatLost
        ∧ t.dg R.RED_STATUS F.RED_STATUS_MODE = s.dg R.RED_CFG F.RED_CFG_MODE
        ∧ t.dg R.TIM_STATUS F.TIM_STATUS_CAL_VALID = (if s.boot.vbatLost then 0 else 1)
        ∧ t.boot.up = true ∧ t.boot.found = p ∧ t.boot.since = t.now ∧ t.boot.refclkMHz = (if p.refclkSel then 100 else 25)
        ∧ t.boot.railA = p.railA ∧ t.boot.railB = p.railB ∧ SameStores s t
        ∧ (f ≠ .none → bootStage t = 1 ∧ t.dg R.BOOT_STATUS F.BOOT_STATUS_BANK = b ∧ t.boot.tried = [b]
          ∧ t.dg R.BOOT_STATUS F.BOOT_STATUS_SLOW = (if f = .slow then 1 else 0))
        ∧ (f = .none → g ≠ .none → bootStage t = 1 ∧ t.dg R.BOOT_STATUS F.BOOT_STATUS_BANK = 1 - b ∧ t.boot.tried = [b, 1 - b]
          ∧ t.dg R.BOOT_STATUS F.BOOT_STATUS_SLOW = (if g = .slow then 1 else 0) ∧ t.dg R.BOOT_STATUS F.BOOT_STATUS_FALLBACK = 1
          ∧ t.dg R.BOOT_STATUS F.BOOT_STATUS_FAIL_FIRST = 1 ∧ t.flagged .a bBOOT 1)
        ∧ (f = .none → g = .none → bootStage t = 9 ∧ t.dg R.BOOT_STATUS F.BOOT_STATUS_FAIL = 1 ∧ t.flagged .a bBOOT 5)))
    ∧ (∀ p : PowerOn, (s.boot.up = true ∨ s.boot.hot = true) → Does (.powerGood p) s (fun t => Keeps .a s t []))
    ∧ Does .vbatLoss s (fun t => t.rd .a R.BOOT_SEL = 0 ∧ t.fed.cal = 0 ∧ t.fed.calAt = s.now ∧ t.boot = { s.boot with vbatLost := true }
        ∧ Keeps .a { s with boot := t.boot, fed := t.fed } t [R.BOOT_SEL]))
  ∧ (∀ s : State,
    (bootStage s = 7 → readyNow s = true → Does .bootReady s (fun t => bootStage t = 8 ∧ t.isReady = true
      ∧ t.rd .a R.BOOT_T_READY = bootUs s ∧ t.flagged .a bBOOT 0
      ∧ (∀ d, d < 12 → d < s.tab.tol.length → t.dg (R.BEL_DOM_CFG d) F.BEL_DOM_CFG_TOL_NS
          = nth s.tab.tol d 0 % 2 ^ F.BEL_DOM_CFG_TOL_NS.width)
      ∧ Keeps .a { s with boot := { s.boot with readyAt := s.now } } t
        ([R.BOOT_STATUS, R.BOOT_T_READY] ++ (List.range 12).map R.BEL_DOM_CFG ++ flagSlots bBOOT 0)))
    ∧ ((bootStage s ≠ 7 ∨ readyNow s = false) → Does .bootReady s (fun t => Keeps .a s t []))
    ∧ (s.boot.up = true → bootStage s < 8 → Does .bootTimeout s (fun t => bootStage t = 9
      ∧ t.dg R.BOOT_STATUS F.BOOT_STATUS_FAIL = 0xE ∧ t.flagged .a bBOOT 5 ∧ t.chanter = none ∧ t.cyc.pend = none
      ∧ (∀ k, k < s.fio.dos.length → k < 16 → (t.dout k).hold = some false)
      ∧ t.dg R.TIM_CYC_STATUS F.TIM_CYC_STATUS_STATE = 0 ∧ t.now = max s.now (s.boot.since + 60 * 10 ^ 12) ∧ SameStores s t))
    ∧ ((s.boot.up = false ∨ 8 ≤ bootStage s) → Does .bootTimeout s (fun t => Keeps .a s t [])))

/-- The manifest: measured, and where it passes every check boot goes on with what it declares; where it fails, the other bank
is tried, with no measurement left of the first, and after both banks the device is FAILED with the code of the check (R449 to
R451, R455, R462). The sections: each is measured, hashed against the manifest and placed with what it holds; the kernel
releases every plane whose rails are in range, with START_UP running on it, and boot fails with code 0xB where no plane's rails
are; a hash that differs, a kernel that Cerusk did not sign and a SAFETY envelope that fails start boot from the other bank, and
end in FAILED, codes 0x8, 0x9 and 0xA, after both (R452 to R455, R507). It rests on the model's readings in log entries 7, 81,
113, 114, 116, 117, 118. -/
def Obligations.ImagesAreVerified : Prop :=
  (∀ (bytes : List Byte) (s : State),
    let m := bytes.take 2624
    let x := parseManifest m
    let code := manifestCheck m s
    let other := 1 - s.dg R.BOOT_STATUS F.BOOT_STATUS_BANK
    let Measured := fun t : State => ∀ k, k < 16 → t.rd .a (R.BOOT_MEAS 0 k) = wordN (leNum (slice (sha512 (m.take 2112)) (4 * k) 4))
    (bootStage s = 1 → Does (.manifestVerified bytes) s (fun t =>
      (code = 0 → Measured t ∧ bootStage t = 2 ∧ t.boot = { s.boot with man := some x }
        ∧ t.dg R.BOOT_IMAGE F.BOOT_IMAGE_SVN = x.svn % 2 ^ F.BOOT_IMAGE_SVN.width
        ∧ t.dg R.BOOT_IMAGE F.BOOT_IMAGE_KEY_SLOT = x.slot % 2 ^ F.BOOT_IMAGE_KEY_SLOT.width
        ∧ t.dg R.BOOT_IMAGE F.BOOT_IMAGE_NSEC = x.sections.length % 2 ^ F.BOOT_IMAGE_NSEC.width
        ∧ Keeps .a { s with boot := t.boot } t ([R.BOOT_STATUS, R.BOOT_IMAGE, R.BOOT_IMAGE_ID_HI, R.BOOT_IMAGE_ID_LO]
          ++ (List.range 16).map (R.BOOT_MEAS 0)))
      ∧ (code ≠ 0 → s.boot.tried.contains other = false → t.dg R.BOOT_STATUS F.BOOT_STATUS_FAIL_FIRST = code
        ∧ t.dg R.BOOT_STATUS F.BOOT_STATUS_BANK = other ∧ t.dg R.BOOT_STATUS F.BOOT_STATUS_FALLBACK = 1 ∧ t.flagged .a bBOOT 1
        ∧ t.chanter = none
        ∧ (∀ i k, i < 9 → k < 16 → t.rd .a (R.BOOT_MEAS i k) = 0) ∧ (∀ l d, l < 15 → d < 2 → t.rd .a (R.BOOT_LANE l d) = 0)
        ∧ (flashOf other s ≠ .none → bootStage t = 1 ∧ t.boot.tried = s.boot.tried ++ [other])
        ∧ (flashOf other s = .none → bootStage t = 9 ∧ t.dg R.BOOT_STATUS F.BOOT_STATUS_FAIL = 1 ∧ t.flagged .a bBOOT 5))
      ∧ (code ≠ 0 → s.boot.tried.contains other = true → Measured t ∧ bootStage t = 9 ∧ t.dg R.BOOT_STATUS F.BOOT_STATUS_FAIL = code
        ∧ t.flagged .a bBOOT 5 ∧ t.chanter = none ∧ SameStores s t)))
    ∧ (bootStage s ≠ 1 → Does (.manifestVerified bytes) s (fun t => Keeps .a s t [])))
  ∧ (∀ (bytes : List Byte) (s : State),
    let other := 1 - s.dg R.BOOT_STATUS F.BOOT_STATUS_BANK
    let Failed := fun (code : Nat) (t : State) => bootStage t = 9 ∧ t.dg R.BOOT_STATUS F.BOOT_STATUS_FAIL = code ∧ t.flagged .a bBOOT 5
      ∧ t.chanter = none
    let ImageFails := fun (code : Nat) (t : State) =>
      (s.boot.tried.contains other = true → Failed code t)
      ∧ (s.boot.tried.contains other = false → flashOf other s ≠ .none → bootStage t = 1
        ∧ t.dg R.BOOT_STATUS F.BOOT_STATUS_BANK = other ∧ t.dg R.BOOT_STATUS F.BOOT_STATUS_FAIL_FIRST = code
        ∧ t.boot.placed = [] ∧ t.boot.man = none ∧ t.flagged .a bBOOT 1 ∧ t.chanter = none)
      ∧ (s.boot.tried.contains other = false → flashOf other s = .none → Failed 1 t
        ∧ t.dg R.BOOT_STATUS F.BOOT_STATUS_FAIL_FIRST = code)
    let Measured := fun (ty : Nat) (l : List Byte) (t : State) =>
      ∀ k, k < 16 → t.rd .a (R.BOOT_MEAS ty k) = wordN (leNum (slice (sha512 l) (4 * k) 4))
    (∀ x : ImgSection, sectionOf 7 s = some x → bootStage s = 2 → Does (.kernelLoaded bytes) s (fun t =>
      let l := bytes.take x.len
      let good := sha512 l = x.hash ∧ kernelOk l = true
      (sha512 l ≠ x.hash → ImageFails 8 t) ∧ (sha512 l = x.hash → kernelOk l = false → ImageFails 9 t)
      ∧ (good → Measured 7 l t)
      ∧ (good → s.boot.railA = false → s.boot.railB = false → Failed 0xB t)
      ∧ (good → (s.boot.railA || s.boot.railB) = true → graphLoad (Config.readKernel l).startUp ≠ none → bootStage t = 3
        ∧ t.boot.placed = [(7, l)] ∧ SameStores s t
        ∧ (∀ q, railOk q s = true → (t.plane q).graph.isSome = true ∧ (t.ward q).inReset = false)
        ∧ (∀ q, railOk q s = false → (t.ward q).inReset = (s.ward q).inReset))))
    ∧ ((sectionOf 7 s = none ∨ bootStage s ≠ 2) → Does (.kernelLoaded bytes) s (fun t => Keeps .a s t []))
    ∧ (∀ x : ImgSection, nextSection s = some x → 3 ≤ bootStage s → bootStage s ≤ 5 → x.ty ≤ 8 →
      Does (.sectionHashed bytes) s (fun t =>
        let l := bytes.take x.len
        (sha512 l ≠ x.hash → ImageFails 8 t)
        ∧ (sha512 l = x.hash → x.ty = 6 → safetyOk l s = false → ImageFails 0xA t)
        ∧ (sha512 l = x.hash → (x.ty = 6 → safetyOk l s = true) → Measured x.ty l t
          ∧ t.boot.placed = s.boot.placed ++ [(x.ty, l)] ∧ t.boot.man = s.boot.man
          ∧ (x.ty = 6 → t.dg R.BOOT_IMAGE F.BOOT_IMAGE_SAFETY_SLOT = leNum (slice l 4 1) % 2 ^ F.BOOT_IMAGE_SAFETY_SLOT.width)
          ∧ (usesLoad x.ty = true → x.load + x.words ≤ storeWords → ∀ q ∈ livePlanes s, (s.plane q).store.bad = [] →
            ∀ i, i < x.words → t.sw q (x.load + i) = nth (unpackWords x.words l) i 0))))
    ∧ ((nextSection s = none ∨ bootStage s < 3 ∨ 5 < bootStage s) → Does (.sectionHashed bytes) s (fun t => Keeps .a s t [])))

/-- SEC_CMD: attestation starts at once; an OTP command starts in READY where its own conditions hold, and is refused while
another command runs, before READY, and with the reason of the condition that fails; bank selection, the debug lock, and the
reserved codes (R459, R460, R462, R464, R466). The end of a SEC command: a report begins with the identity, image and
measurements of this boot, and its flag is ATTEST_DONE; the fuses that an OTP command names are burned, no other, and its flag
is OTP_DONE (R458, R459, R462). It rests on the model's readings in log entries 5, 120. -/
def Obligations.SecCommandsRun : Prop :=
  (∀ s : State,
    let Starts := fun (c : Instr) (j : SecJob) => Does c s (fun t => t.boot = { s.boot with job := some j }
      ∧ t.dg R.SEC_STATUS F.SEC_STATUS_BUSY = 1 ∧ Keeps .a { s with boot := t.boot } t [R.SEC_CMD, R.SEC_STATUS])
    let Refused := fun (c : Instr) (r : Nat) => Does c s (fun t => t.dg R.SEC_STATUS F.SEC_STATUS_REFUSE = r ∧ t.flagged .a bBOOT 10
      ∧ Keeps .a s t ([R.SEC_CMD, R.SEC_STATUS] ++ flagSlots bBOOT 10))
    let otp := fun (c : Instr) (code arg : Nat) (j : SecJob) =>
      (s.boot.job.isSome = true → Refused c 1) ∧ (s.boot.job = none → s.isReady = false → Refused c 2)
        ∧ (s.boot.job = none → s.isReady = true → (otpCheck code arg s = 0 → Starts c j)
          ∧ (otpCheck code arg s ≠ 0 → Refused c (otpCheck code arg s)))
    (s.boot.job = none → Starts .secAttest (.attest (regBytes (R.SEC_DATA 0) 64 s)))
    ∧ (s.boot.job.isSome = true → Refused .secAttest 1)
    ∧ otp .rollbackCommit 2 0 (.rollback ((s.boot.man.map (·.svn)).getD 0))
    ∧ (∀ (arg : BitVec 4) (dbg : Bool), otp (.secProvision arg dbg) 3 arg.toNat (.provision arg.toNat (regBytes (R.SEC_DATA 0) 64 s) dbg))
    ∧ (∀ arg : BitVec 4, otp (.secRevoke arg) 4 arg.toNat (.revoke arg.toNat))
    ∧ (∀ arg : BitVec 4, Does (.tryBank arg) s (fun t => t.dg R.BOOT_SEL F.BOOT_SEL_TRY_VALID = 1
        ∧ t.dg R.BOOT_SEL F.BOOT_SEL_TRY_BANK = arg.toNat % 2 ∧ Keeps .a s t [R.SEC_CMD, R.BOOT_SEL]))
    ∧ (s.isReady = true → Does .commitBank s (fun t =>
        t.dg R.BOOT_SEL F.BOOT_SEL_PREF = s.dg R.BOOT_STATUS F.BOOT_STATUS_BANK ∧ Keeps .a s t [R.SEC_CMD, R.BOOT_SEL]))
    ∧ (s.isReady = false → Refused .commitBank 2)
    ∧ Does .lockDebug s (fun t => t.dg R.SEC_STATUS F.SEC_STATUS_DEBUG = 0
        ∧ t.dg R.SEC_STATUS F.SEC_STATUS_DEBUG_MAX = s.dg R.SEC_STATUS F.SEC_STATUS_DEBUG_MAX ∧ Keeps .a s t [R.SEC_CMD, R.SEC_STATUS])
    ∧ (∀ code : BitVec 4, 9 ≤ code.toNat → Refused (.secCmdReserved code) 7)
    ∧ (∀ code : BitVec 4, code.toNat < 9 → Does (.secCmdReserved code) s (fun t => Keeps .a s t [])))
  ∧ (∀ s : State,
    ((∀ nonce, s.boot.job ≠ some (.attest nonce)) → Does .attestDone s (fun t => Keeps .a s t []))
    ∧ ((s.boot.job = none ∨ ∃ nonce, s.boot.job = some (.attest nonce)) → Does .otpDone s (fun t => Keeps .a s t [])) ∧
    (∀ nonce, s.boot.job = some (.attest nonce) → Does .attestDone s (fun t => t.boot = { s.boot with job := none }
      ∧ (∀ i, i < 168 → t.rd .a (R.SEC_RPT i)
          = wordN (leNum (slice (reportBody nonce { s with free := s.free + 1 }) (4 * i) 4)))
      ∧ t.dg R.SEC_STATUS F.SEC_STATUS_BUSY = 0 ∧ t.flagged .a bBOOT 6
      ∧ Keeps .a { s with boot := t.boot, free := s.free + 1 } t (R.SEC_STATUS :: (List.range 296).map R.SEC_RPT ++ flagSlots bBOOT 6)))
    ∧ (let Ends := fun t : State => t.dg R.SEC_STATUS F.SEC_STATUS_BUSY = 0 ∧ t.flagged .a bBOOT 7 ∧ t.boot.job = none
        ∧ Keeps .a { s with boot := t.boot } t ([R.SEC_STATUS, R.SEC_OTP] ++ flagSlots bBOOT 7)
      (∀ n, s.boot.job = some (.rollback n) → Does .otpDone s (fun t => Ends t ∧ t.boot.keys = s.boot.keys
        ∧ t.rd .a R.SEC_OTP = F.SEC_OTP_ROLLBACK.set (s.rd .a R.SEC_OTP) n))
      ∧ (∀ k h dbg, s.boot.job = some (.provision k h dbg) → Does .otpDone s (fun t => Ends t
        ∧ t.boot.keys = s.boot.keys.set k (some h)
        ∧ t.dg R.SEC_OTP F.SEC_OTP_PROV = setBitN (s.dg R.SEC_OTP F.SEC_OTP_PROV) k % 16
        ∧ t.dg R.SEC_OTP F.SEC_OTP_DEBUG_OK
          = (if dbg then setBitN (s.dg R.SEC_OTP F.SEC_OTP_DEBUG_OK) k % 16 else s.dg R.SEC_OTP F.SEC_OTP_DEBUG_OK)
        ∧ t.dg R.SEC_OTP F.SEC_OTP_REVOKED = s.dg R.SEC_OTP F.SEC_OTP_REVOKED
        ∧ t.dg R.SEC_OTP F.SEC_OTP_ROLLBACK = s.dg R.SEC_OTP F.SEC_OTP_ROLLBACK))
      ∧ (∀ k, s.boot.job = some (.revoke k) → Does .otpDone s (fun t => Ends t ∧ t.boot.keys = s.boot.keys
        ∧ t.rd .a R.SEC_OTP = F.SEC_OTP_REVOKED.set (s.rd .a R.SEC_OTP) (setBitN (s.dg R.SEC_OTP F.SEC_OTP_REVOKED) k)))))

/-- The flash port: a command goes to the device in READY or FAILED while no other runs, PROGRAM and ERASE on a bank that is not
the booted one; a refused one gives 0x8; its end raises FLASH_DONE with the page of a READ in the buffer, or FLASH_ERROR (R461,
R466). It rests on the model's readings in log entries 113, 120. -/
def Obligations.FlashCommandsRun : Prop :=
  ∀ s : State,
    let bank := s.dg R.BOOT_FLASH_ADDR F.BOOT_FLASH_ADDR_BANK
    let addr := s.dg R.BOOT_FLASH_ADDR F.BOOT_FLASH_ADDR_ADDR
    let Runs := fun (c : Instr) (code : Nat) (page : List Byte) => Does c s (fun t =>
      t.boot = { s.boot with flash := some ⟨code, bank, addr, page⟩, flashed := ⟨code, bank, addr, page⟩ :: s.boot.flashed }
      ∧ Keeps .a { s with boot := t.boot } t [R.BOOT_FLASH_CMD])
    let Refused := fun (c : Instr) => Does c s (fun t => t.dg R.SEC_STATUS F.SEC_STATUS_REFUSE = 8 ∧ t.flagged .a bBOOT 10
      ∧ Keeps .a s t ([R.BOOT_FLASH_CMD, R.SEC_STATUS] ++ flagSlots bBOOT 10))
    let free := s.boot.flash = none ∧ (s.isReady = true ∨ bootStage s = 9)
    let other := bootStage s = 9 ∨ bank ≠ s.dg R.BOOT_STATUS F.BOOT_STATUS_BANK
    (free → Runs .flashRead 1 []) ∧ (free → other → addr % 256 = 0 → Runs .flashProgram 2 (regBytes (R.BOOT_FLASH_BUF 0) 256 s))
    ∧ (free → other → Runs .flashErase 3 [])
    ∧ (∀ c ∈ [Instr.flashRead, .flashProgram, .flashErase], s.boot.flash.isSome = true ∨ (s.isReady = false ∧ bootStage s ≠ 9) → Refused c)
    ∧ (∀ c ∈ [Instr.flashProgram, .flashErase], ¬ other → Refused c) ∧ (addr % 256 ≠ 0 → Refused .flashProgram)
    ∧ (∀ code : BitVec 4, 4 ≤ code.toNat → Refused (.flashCmdReserved code))
    ∧ (∀ code : BitVec 4, code.toNat < 4 → Does (.flashCmdReserved code) s (fun t => Keeps .a s t []))
    ∧ (∀ ok data, s.boot.flash = none → Does (.flashDone ok data) s (fun t => Keeps .a s t []))
    ∧ (∀ c data, s.boot.flash = some c →
      Does (.flashDone false data) s (fun t => t.flagged .a bBOOT 4 ∧ t.boot = { s.boot with flash := none }
        ∧ Keeps .a { s with boot := t.boot } t (flagSlots bBOOT 4))
      ∧ (c.code ≠ 1 → Does (.flashDone true data) s (fun t => t.flagged .a bBOOT 3 ∧ t.boot = { s.boot with flash := none }
        ∧ Keeps .a { s with boot := t.boot } t (flagSlots bBOOT 3)))
      ∧ (c.code = 1 → Does (.flashDone true data) s (fun t => t.flagged .a bBOOT 3
        ∧ t.boot = { s.boot with flash := none }
        ∧ (∀ i, i < 64 → 4 * i < data.length → t.rd .a (R.BOOT_FLASH_BUF i) = wordN (leNum (slice (data.take 256) (4 * i) 4)))
        ∧ Keeps .a { s with boot := t.boot } t ((List.range 64).map R.BOOT_FLASH_BUF ++ flagSlots bBOOT 3))))

/-- JTAG: each instruction captures its data register and disturbs nothing else; EXTEST drops both safety outputs and is BYPASS
unless SCAN is in force with no channel closed; OBSERVE is BYPASS while locked; a challenge answers one response, and after
three failed ones every response is refused (R463 to R465). It rests on the model's readings in log entries 5, 120, 121. -/
def Obligations.JtagObeysTheDebugLevel : Prop :=
  ∀ s : State,
    let Shifts := fun (c : Instr) (code : Nat) (dr : List Byte) => Does c s (fun t =>
      t.boot = { s.boot with ir := code, dr := dr, extest := false } ∧ Keeps .a { s with boot := t.boot } t [])
    Shifts .jtagBypass 0xFF [0]
    ∧ Shifts .jtagIdcode 1
      (numBytes 4 (s.dg R.HIF_ID F.HIF_ID_REV % 16 * 2 ^ 28 + 0x8128 * 2 ^ 12 + Config.jedecId.toNat * 2 + 1))
    ∧ Does .jtagSample s (fun t => t.boot.ir = 2 ∧ t.boot.extest = false ∧ Keeps .a { s with boot := t.boot, free := s.free + 1 } t [])
    ∧ ((debugLevel s ≠ 2 ∨ s.anyClosed = true) → Shifts .jtagExtest 0xFF [0])
    ∧ (debugLevel s = 2 → s.anyClosed = false → Does .jtagExtest s (fun t => t.boot = { s.boot with ir := 3, extest := true }
        ∧ t.dg R.SSM2_STATUS F.SSM2_STATUS_SSB = (if (s.ssm2).permit then 0 else s.dg R.SSM2_STATUS F.SSM2_STATUS_SSB)
        ∧ (t.ssm2).permit = false ∧ (t.ssm .one (ssmPlane s)).permit = false ∧ SameStores s t))
    ∧ Does .unlockChal s (fun t => t.boot.ir = 0x20 ∧ t.boot.chals = s.boot.chals + 1 ∧ t.boot.chal = some t.boot.dr
        ∧ t.boot.dr.drop 64 = serialBytes s ++ numBytes 8 (s.boot.chals + 1) ∧ t.boot.dr.length = 80
        ∧ Keeps .a { s with boot := t.boot, free := s.free + 16 } t [])
    ∧ (∀ bytes, 3 ≤ s.dg R.SEC_STATUS F.SEC_STATUS_UNLOCK_FAILS → Shifts (.unlockResp bytes) 0x21 bytes)
    ∧ (∀ bytes, s.dg R.SEC_STATUS F.SEC_STATUS_UNLOCK_FAILS < 3 →
        let ok := match s.boot.chal with
          | some c => unlockOk c bytes s
          | none => false
        Does (.unlockResp bytes) s (fun t => t.boot = { s.boot with ir := 0x21, dr := bytes, extest := false, chal := none }
          ∧ Keeps .a { s with boot := t.boot } t (R.SEC_STATUS :: (if ok then flagSlots bBOOT 8 else flagSlots bBOOT 9))
          ∧ (ok = true → debugLevel t = max (debugLevel s) (leNum (slice bytes 0 1)) ∧ t.flagged .a bBOOT 8
            ∧ t.dg R.SEC_STATUS F.SEC_STATUS_UNLOCK_FAILS = s.dg R.SEC_STATUS F.SEC_STATUS_UNLOCK_FAILS)
          ∧ (ok = false → debugLevel t = debugLevel s ∧ t.flagged .a bBOOT 9
            ∧ t.dg R.SEC_STATUS F.SEC_STATUS_UNLOCK_FAILS = s.dg R.SEC_STATUS F.SEC_STATUS_UNLOCK_FAILS + 1)))
    ∧ Shifts .debugStatus 0x22 (Config.debugStatus (debugLevel s) (s.dg R.SEC_STATUS F.SEC_STATUS_DEBUG_MAX)
        (s.dg R.SEC_STATUS F.SEC_STATUS_UNLOCK_FAILS))
    ∧ (debugLevel s = 0 → Shifts .jtagObserve 0xFF [0])
    ∧ (debugLevel s ≠ 0 → Does .jtagObserve s (fun t => t.boot.ir = 0x30 ∧ t.boot.extest = false
        ∧ Keeps .a { s with boot := t.boot, free := s.free + 1 } t []))

/-- Every command of the table completes: with whatever operands and in whatever state, it answers a next state; none ends in a
fault or a refusal. -/
def Obligations.EveryCommandCompletes : Prop :=
  ∀ (c : Instr) (s : State), ∃ t, exec c s = .next t

/-- A post to a DORMANT thread is discarded: it counts in SCH_POST_DISC and raises POST_DORMANT, and neither the queue nor any
thread changes, whatever its source (R394). -/
def Obligations.PostsToDormantThreadsAreDiscarded : Prop :=
  ∀ (q : Plane) (s : State) (thr : Fin 512), s.chanter = some q → thrState q thr s = 0 →
    let Discarded := fun (t : State) => t.get q R.SCH_POST_DISC F.SCH_POST_DISC_COUNT
        = satAdd F.SCH_POST_DISC_COUNT.width (s.get q R.SCH_POST_DISC F.SCH_POST_DISC_COUNT) 1
      ∧ t.flagged q bSCH 8 ∧ t.sch q = s.sch q
    (∀ (src : PostSource) (v : Word), Does (.post src thr v) s (fun t => Discarded t
        ∧ Keeps q s t (R.SCH_POST_DISC :: flagSlots bSCH 8)))
    ∧ Does (.hostPost thr) s (fun t => Discarded t ∧ Keeps q s t (R.SCH_POST :: R.SCH_POST_DISC :: flagSlots bSCH 8))

/-- SRC names the producer of a Stitch queue: a write of PLN_Q_WR from it takes effect where it is in range, and raises WR_RANGE
and keeps the count where it is not; a write from the other source is ignored and raises SRC_REFUSED (R95, R96). -/
def Obligations.ProducersAreNamedBySrc : Prop :=
  ∀ (q : Plane) (a : Fin 16) (v : BitVec 32) (s : State), s.chanter = some q →
    let ar := s.arm q a
    let fed := decide (ar.src = 1)
    let wr := s.get q (R.PLN_Q_WR a) F.PLN_Q_WR_COUNT
    let fetch := s.get q (R.PLN_Q_FETCH a) F.PLN_Q_FETCH_COUNT
    let ok := (v.toNat + 2 ^ 32 - wr) % 2 ^ 32 ≤ 2 ^ ar.size ∧ (v.toNat + 2 ^ 32 - fetch) % 2 ^ 32 ≤ 2 ^ ar.size
    (ok → Does (.wrWrite a fed v) s (fun t =>
        t.get q (R.PLN_Q_WR a) F.PLN_Q_WR_COUNT = v.toNat ∧ Keeps q s t [R.PLN_Q_WR a]))
    ∧ (¬ ok → Does (.wrWrite a fed v) s (fun t => t.flagged q (bPQ a) 11 ∧ Keeps q s t (flagSlots (bPQ a) 11)))
    ∧ Does (.wrWrite a (!fed) v) s (fun t => t.flagged q (bPQ a) 12 ∧ Keeps q s t (flagSlots (bPQ a) 12))
end

