-- ==== Sys2Proof/Laws/Sparse.lean ====
section
/-! SUPPORT. Laws of the sparse maps: reading after writing, and the canonical form. -/

namespace Sys2Proof.Machine

variable {α : Type}

theorem sGet_sDel_same (d : Nat → α) (m : List (Nat × α)) (k : Nat) : sGet d (sDel m k) k = d k := by
  induction m with
  | nil => rfl
  | cons e t ih =>
    by_cases h : e.1 = k
    · simpa [sDel, h] using ih
    · simpa [sDel, h, sGet] using ih

theorem sGet_sDel_ne (d : Nat → α) (m : List (Nat × α)) {k j : Nat} (h : j ≠ k) : sGet d (sDel m k) j = sGet d m j := by
  induction m with
  | nil => rfl
  | cons e t ih =>
    by_cases hk : e.1 = k
    · have : e.1 ≠ j := fun hj => h (hj.symm.trans hk)
      simpa [sDel, hk, sGet, this, h.symm] using ih
    · by_cases hj : e.1 = j
      · simp [sDel, sGet, hj, h]
      · simpa [sDel, hk, sGet, hj] using ih

theorem sGet_sIns_same (d : Nat → α) (m : List (Nat × α)) (k : Nat) (v : α) (hk : ∀ e ∈ m, e.1 ≠ k) : sGet d (sIns m k v) k = v := by
  induction m with
  | nil => simp [sIns, sGet]
  | cons e t ih =>
    by_cases h : k < e.1
    · simp [sIns, h, sGet]
    · have he : e.1 ≠ k := hk e (by simp)
      simpa [sIns, h, sGet, he] using ih (fun x hx => hk x (by simp [hx]))

theorem sGet_sIns_ne (d : Nat → α) (m : List (Nat × α)) {k j : Nat} (v : α) (h : j ≠ k) : sGet d (sIns m k v) j = sGet d m j := by
  induction m with
  | nil => simp [sIns, sGet, h.symm]
  | cons e t ih =>
    by_cases hk : k < e.1
    · simp [sIns, hk, sGet, h.symm]
    · by_cases hj : e.1 = j
      · rw [sIns, if_neg hk, sGet, sGet, if_pos hj, if_pos hj]
      · rw [sIns, if_neg hk, sGet, sGet, if_neg hj, if_neg hj, ih]

theorem sDel_keys (m : List (Nat × α)) (k : Nat) : ∀ e ∈ sDel m k, e.1 ≠ k := by
  intro e he
  simp [sDel] at he
  exact he.2

/-- A read of the entry just written. -/
@[simp] theorem sGet_sPut_same [DecidableEq α] (d : Nat → α) (m : List (Nat × α)) (k : Nat) (v : α) : sGet d (sPut d m k v) k = v := by
  unfold sPut
  split
  · rename_i h; rw [sGet_sDel_same, h]
  · exact sGet_sIns_same d _ k v (sDel_keys m k)

/-- A write leaves every other entry alone. -/
theorem sGet_sPut_ne [DecidableEq α] (d : Nat → α) (m : List (Nat × α)) {k j : Nat} (v : α) (h : j ≠ k) : sGet d (sPut d m k v) j = sGet d m j := by
  unfold sPut
  split
  · exact sGet_sDel_ne d m h
  · rw [sGet_sIns_ne d _ v h, sGet_sDel_ne d m h]

theorem sIns_mem (m : List (Nat × α)) (k : Nat) (v : α) (e : Nat × α) : e ∈ sIns m k v → e = (k, v) ∨ e ∈ m := by
  induction m with
  | nil => simp [sIns]
  | cons x t ih =>
    by_cases h : k < x.1
    · simp [sIns, h]
    · simp only [sIns, h, if_false, List.mem_cons]
      rintro (rfl | he)
      · exact .inr (.inl rfl)
      · rcases ih he with h1 | h1
        · exact .inl h1
        · exact .inr (.inr h1)

theorem sIns_sorted (m : List (Nat × α)) (k : Nat) (v : α) (hs : m.Pairwise (fun a b => a.1 < b.1)) (hk : ∀ e ∈ m, e.1 ≠ k) :
    (sIns m k v).Pairwise (fun a b => a.1 < b.1) := by
  induction m with
  | nil => simp [sIns]
  | cons x t ih =>
    rw [List.pairwise_cons] at hs
    by_cases h : k < x.1
    · simp only [sIns, h, if_true, List.pairwise_cons, List.mem_cons]
      refine ⟨?_, hs.1, hs.2⟩
      rintro e (rfl | he)
      · exact h
      · exact lt_trans h (hs.1 e he)
    · simp only [sIns, h, if_false, List.pairwise_cons]
      refine ⟨?_, ih hs.2 (fun e he => hk e (by simp [he]))⟩
      intro e he
      rcases sIns_mem t k v e he with rfl | h1
      · have := hk x (by simp)
        show x.1 < k
        omega
      · exact hs.1 e h1

/-- A write keeps the canonical form. -/
theorem sWf_sPut [DecidableEq α] (d : Nat → α) (m : List (Nat × α)) (k : Nat) (v : α) (h : sWf d m = true) : sWf d (sPut d m k v) = true := by
  simp only [sWf, Bool.and_eq_true, decide_eq_true_eq, List.all_eq_true] at h ⊢
  obtain ⟨hs, hd⟩ := h
  have hs' : (sDel m k).Pairwise (fun a b => a.1 < b.1) := hs.filter _
  have hd' : ∀ e ∈ sDel m k, e.2 ≠ d e.1 := fun e he => hd e (List.mem_of_mem_filter he)
  unfold sPut
  split
  · exact ⟨hs', hd'⟩
  · rename_i hv
    refine ⟨sIns_sorted _ k v hs' (sDel_keys m k), fun e he => ?_⟩
    rcases sIns_mem _ k v e he with rfl | h1
    · exact hv
    · exact hd' e h1

end Sys2Proof.Machine
end

