-- ==== Sys2Proof/Laws/Regs.lean ====
section
/-! SUPPORT. Laws of register fields and of reading and writing registers. -/

namespace Sys2Proof.Machine

/-- A field that lies in a word. -/
abbrev Fld.ok (f : Fld) : Prop := f.lo ≤ f.hi ∧ f.hi < 36

/-- Two digits stay below the product of their bases. -/
theorem digits_lt {a b x l : Nat} (ha : a < x) (hb : b < l) : a * l + b < x * l := by
  have h := Nat.mul_le_mul_right l (Nat.succ_le_of_lt ha)
  rw [Nat.succ_mul] at h
  omega

theorem Fld.set_toNat (f : Fld) (hf : f.ok) (w : Word) (n : Nat) : (f.set w n).toNat
    = w.toNat / 2 ^ (f.hi + 1) * 2 ^ (f.hi + 1) + n % 2 ^ (f.hi + 1 - f.lo) * 2 ^ f.lo + w.toNat % 2 ^ f.lo := by
  obtain ⟨h1, h2⟩ := hf
  have hw := w.isLt
  simp only [Fld.set, BitVec.toNat_ofNat]
  apply Nat.mod_eq_of_lt
  have e1 : 2 ^ (f.hi + 1) = 2 ^ (f.hi + 1 - f.lo) * 2 ^ f.lo := by rw [← Nat.pow_add]; congr 1; omega
  have e2 : 2 ^ 36 = 2 ^ (36 - (f.hi + 1)) * 2 ^ (f.hi + 1) := by rw [← Nat.pow_add]; congr 1; omega
  have a1 : n % 2 ^ (f.hi + 1 - f.lo) < 2 ^ (f.hi + 1 - f.lo) := Nat.mod_lt _ (Nat.two_pow_pos _)
  have a2 : w.toNat % 2 ^ f.lo < 2 ^ f.lo := Nat.mod_lt _ (Nat.two_pow_pos _)
  have a3 : w.toNat / 2 ^ (f.hi + 1) < 2 ^ (36 - (f.hi + 1)) := by
    rw [Nat.div_lt_iff_lt_mul (Nat.two_pow_pos _), ← e2]; exact hw
  have b1 : n % 2 ^ (f.hi + 1 - f.lo) * 2 ^ f.lo + w.toNat % 2 ^ f.lo < 2 ^ (f.hi + 1) := by
    rw [e1]; exact digits_lt a1 a2
  rw [e2, Nat.add_assoc]; exact digits_lt a3 b1

/-- A field reads what was put into it, modulo its width. -/
theorem Fld.get_set_same (f : Fld) (hf : f.ok) (w : Word) (n : Nat) : f.get (f.set w n) = n % 2 ^ f.width := by
  have h := f.set_toNat hf w n
  obtain ⟨h1, h2⟩ := hf
  simp only [Fld.get, Fld.width, h]
  have e1 : 2 ^ (f.hi + 1) = 2 ^ f.lo * 2 ^ (f.hi + 1 - f.lo) := by rw [← Nat.pow_add]; congr 1; omega
  have a2 : w.toNat % 2 ^ f.lo < 2 ^ f.lo := Nat.mod_lt _ (Nat.two_pow_pos _)
  rw [e1]
  have : w.toNat / (2 ^ f.lo * 2 ^ (f.hi + 1 - f.lo)) * (2 ^ f.lo * 2 ^ (f.hi + 1 - f.lo))
      + n % 2 ^ (f.hi + 1 - f.lo) * 2 ^ f.lo + w.toNat % 2 ^ f.lo
      = w.toNat % 2 ^ f.lo + 2 ^ f.lo * (n % 2 ^ (f.hi + 1 - f.lo)
        + 2 ^ (f.hi + 1 - f.lo) * (w.toNat / (2 ^ f.lo * 2 ^ (f.hi + 1 - f.lo)))) := by ring
  rw [this, Nat.add_mul_div_left _ _ (Nat.two_pow_pos _), Nat.div_eq_of_lt a2, Nat.zero_add, Nat.add_mul_mod_self_left,
    Nat.mod_mod]

/-- A bit of a word with a field replaced. -/
theorem Fld.testBit_set (f : Fld) (hf : f.ok) (w : Word) (n i : Nat) : (f.set w n).toNat.testBit i
    = if f.lo ≤ i ∧ i ≤ f.hi then n.testBit (i - f.lo) else w.toNat.testBit i := by
  have h := f.set_toNat hf w n
  obtain ⟨h1, h2⟩ := hf
  rw [h]
  have a2 : w.toNat % 2 ^ f.lo < 2 ^ f.lo := Nat.mod_lt _ (Nat.two_pow_pos _)
  have b1 : n % 2 ^ (f.hi + 1 - f.lo) * 2 ^ f.lo + w.toNat % 2 ^ f.lo < 2 ^ (f.hi + 1) := by
    have e1 : 2 ^ (f.hi + 1) = 2 ^ (f.hi + 1 - f.lo) * 2 ^ f.lo := by rw [← Nat.pow_add]; congr 1; omega
    have a1 : n % 2 ^ (f.hi + 1 - f.lo) < 2 ^ (f.hi + 1 - f.lo) := Nat.mod_lt _ (Nat.two_pow_pos _)
    rw [e1]; exact digits_lt a1 a2
  rw [Nat.add_assoc, Nat.mul_comm, Nat.testBit_two_pow_mul_add _ b1]
  by_cases hi : i < f.hi + 1
  · rw [if_pos hi, Nat.mul_comm, Nat.testBit_two_pow_mul_add _ a2]
    by_cases hl : i < f.lo
    · have : ¬ (f.lo ≤ i ∧ i ≤ f.hi) := by omega
      rw [if_pos hl, if_neg this, Nat.testBit_mod_two_pow]
      simp [hl]
    · have : f.lo ≤ i ∧ i ≤ f.hi := by omega
      rw [if_neg hl, if_pos this, Nat.testBit_mod_two_pow]
      have : i - f.lo < f.hi + 1 - f.lo := by omega
      simp [this]
  · have : ¬ (f.lo ≤ i ∧ i ≤ f.hi) := by omega
    rw [if_neg hi, if_neg this, Nat.testBit_div_two_pow]
    congr 1; omega

/-- A bit of a field. -/
theorem Fld.testBit_get (f : Fld) (w : Word) (i : Nat) : (f.get w).testBit i
    = (decide (i < f.hi + 1 - f.lo) && w.toNat.testBit (f.lo + i)) := by
  simp only [Fld.get, Nat.testBit_mod_two_pow, Nat.testBit_div_two_pow]
  rw [Nat.add_comm i f.lo]

/-- A field keeps its value when another one is replaced. -/
theorem Fld.get_set_ne (f g : Fld) (hg : g.ok) (h : f.hi < g.lo ∨ g.hi < f.lo) (w : Word) (n : Nat) :
    f.get (g.set w n) = f.get w := by
  apply Nat.eq_of_testBit_eq
  intro i
  rw [Fld.testBit_get, Fld.testBit_get]
  by_cases hi : i < f.hi + 1 - f.lo
  · rw [Fld.testBit_set g hg]
    have : ¬ (g.lo ≤ f.lo + i ∧ f.lo + i ≤ g.hi) := by omega
    rw [if_neg this]
  · simp [hi]

/-! ## Registers -/

/-- A register reads what was written to it. -/
@[simp] theorem State.rd_wr_same (s : State) (q : Plane) (k : Nat) (v : Word) : (s.wr q k v).rd q k = v := by
  unfold State.rd State.wr
  split
  · simp
  · split <;> cases q <;> simp_all [State.setPlane, State.plane]

/-- A write leaves every other register alone. -/
theorem State.rd_wr_ne (s : State) (p q : Plane) {k j : Nat} (v : Word) (h : j ≠ k) : (s.wr q k v).rd p j = s.rd p j := by
  unfold State.rd State.wr
  by_cases hj : isDev j
  · by_cases hk : isDev k
    · simp [hj, hk, sGet_sPut_ne _ _ _ h]
    · by_cases hl : isLocal k <;> cases q <;> simp [hj, hk, hl, State.setPlane]
  · by_cases hk : isDev k
    · cases p <;> simp [hj, hk, State.plane]
    · by_cases hl : isLocal k <;> by_cases hl' : isLocal j <;> cases q <;> cases p <;>
        simp [hj, hk, hl, hl', State.setPlane, State.plane, sGet_sPut_ne _ _ _ h]

/-- A write to a register of one plane leaves the other plane's registers alone. -/
theorem State.rd_wr_other (s : State) {p q : Plane} {k : Nat} (j : Nat) (v : Word) (h : p ≠ q) (hk : isDev k = false) :
    (s.wr q k v).rd p j = s.rd p j := by
  unfold State.rd State.wr
  by_cases hj : isDev j
  · by_cases hl : isLocal k <;> cases q <;> simp [hj, hk, hl, State.setPlane]
  · by_cases hl : isLocal k <;> by_cases hl' : isLocal j <;> cases q <;> cases p <;>
      simp_all [State.setPlane, State.plane]

/-- A register of a single-copy die has one copy. -/
theorem State.rd_dev (s : State) (p q : Plane) {k : Nat} (h : isDev k = true) : s.rd p k = s.rd q k := by
  simp [State.rd, h]

/-- A field reads what was put into it. -/
theorem State.get_put_same (s : State) (q : Plane) (k : Nat) (f : Fld) (n : Nat) (hf : f.ok) :
    (s.put q k f n).get q k f = n % 2 ^ f.width := by
  simp [State.get, State.put, Fld.get_set_same f hf]

/-- Putting a field leaves the other fields of the register alone. -/
theorem State.get_put_field (s : State) (q : Plane) (k : Nat) (f g : Fld) (n : Nat) (hg : g.ok)
    (h : f.hi < g.lo ∨ g.hi < f.lo) : (s.put q k g n).get q k f = s.get q k f := by
  simp [State.get, State.put, Fld.get_set_ne f g hg h]

/-- Putting a field leaves the other registers alone. -/
theorem State.rd_put_ne (s : State) (p q : Plane) {k j : Nat} (f : Fld) (n : Nat) (h : j ≠ k) :
    (s.put q k f n).rd p j = s.rd p j := State.rd_wr_ne s p q _ h

theorem State.get_put_ne (s : State) (p q : Plane) {k j : Nat} (f g : Fld) (n : Nat) (h : j ≠ k) :
    (s.put q k f n).get p j g = s.get p j g := by
  simp [State.get, State.rd_put_ne s p q f n h]

end Sys2Proof.Machine
end

