-- ==== Sys2Proof/Laws/State.lean ====
section
/-! SUPPORT. Laws of the state: what the shared operations change and what they leave alone. -/

namespace Sys2Proof.Machine

/-! ## Planes -/

@[simp] theorem State.plane_setPlane_same (s : State) (q : Plane) (p : PlaneSt) : (s.setPlane q p).plane q = p := by
  cases q <;> rfl

theorem State.plane_setPlane_ne (s : State) {q r : Plane} (p : PlaneSt) (h : r ≠ q) :
    (s.setPlane q p).plane r = s.plane r := by
  cases q <;> cases r <;> first | rfl | exact absurd rfl h

theorem State.plane_setPlane (s : State) (q r : Plane) (p : PlaneSt) :
    (s.setPlane q p).plane r = if r = q then p else s.plane r := by
  cases q <;> cases r <;> rfl

@[simp] theorem State.dev_setPlane (s : State) (q : Plane) (p : PlaneSt) : (s.setPlane q p).dev = s.dev := by
  cases q <;> rfl

/-! ## Registers -/

/-- What every register reads after a write. -/
theorem State.rd_wr (s : State) (p q : Plane) (k j : Nat) (v : Word) :
    (s.wr q k v).rd p j = if j = k ∧ (isDev k = true ∨ p = q) then v else s.rd p j := by
  by_cases h : j = k
  · subst h
    by_cases hd : isDev j = true
    · rw [State.rd_dev _ p q hd, State.rd_wr_same]; simp [hd]
    · by_cases hp : p = q
      · subst hp; simp
      · rw [State.rd_wr_other _ _ _ hp (by simpa using hd)]; simp [hd, hp]
  · rw [State.rd_wr_ne s p q v h]; simp [h]

theorem State.rd_put (s : State) (p q : Plane) (k j : Nat) (f : Fld) (n : Nat) :
    (s.put q k f n).rd p j = if j = k ∧ (isDev k = true ∨ p = q) then f.set (s.rd q k) n else s.rd p j :=
  s.rd_wr p q k j _

/-- What every field reads after one is put. -/
theorem State.get_put (s : State) (p q : Plane) (k j : Nat) (f g : Fld) (n : Nat) :
    (s.put q k f n).get p j g = if j = k ∧ (isDev k = true ∨ p = q) then g.get (f.set (s.rd q k) n) else s.get p j g := by
  simp only [State.get, State.rd_put]; split <;> rfl

@[simp] theorem State.rd_toTime (s : State) (t : Nat) (p : Plane) (k : Nat) : (s.toTime t).rd p k = s.rd p k := by
  cases p <;> rfl

@[simp] theorem State.rd_toMatrix (s : State) (e : Nat) (p : Plane) (k : Nat) : (s.toMatrix e).rd p k = s.rd p k := by
  cases p <;> rfl

@[simp] theorem State.rd_belRecheck (s : State) (p : Plane) (k : Nat) : (belRecheck s).rd p k = s.rd p k := by
  cases p <;> rfl

@[simp] theorem State.get_belRecheck (s : State) (p : Plane) (k : Nat) (f : Fld) : (belRecheck s).get p k f = s.get p k f := by
  simp [State.get]

@[simp] theorem State.dg_belRecheck (s : State) (k : Nat) (f : Fld) : (belRecheck s).dg k f = s.dg k f :=
  s.get_belRecheck .a k f

@[simp] theorem State.flagged_belRecheck (s : State) (q : Plane) (b : Bank) (j : Nat) :
    (belRecheck s).flagged q b j ↔ s.flagged q b j := by simp [State.flagged]

@[simp] theorem State.rd_setWard (s : State) (q : Plane) (w : WardPlane) (p : Plane) (k : Nat) :
    (s.setWard q w).rd p k = s.rd p k := by
  cases q <;> cases p <;> rfl

@[simp] theorem State.rd_wake (s : State) (d : Nat) (p : Plane) (k : Nat) : (s.wake d).rd p k = s.rd p k := by
  simp only [State.wake]; split <;> cases p <;> rfl

/-- Raising a flag leaves every other register alone. -/
theorem State.rd_flag (s : State) (p q : Plane) (b : Bank) (j k : Nat)
    (h : (k ≠ b.flags ∧ k ≠ b.cnt + j / 4) ∨ (isDev b.flags = false ∧ isDev (b.cnt + j / 4) = false ∧ p ≠ q)) :
    (s.flag q b j).rd p k = s.rd p k := by
  rcases h with ⟨h1, h2⟩ | ⟨h1, h2, h3⟩
  · simp [State.flag, State.count, State.rd_put, h1, h2]
  · simp [State.flag, State.count, State.rd_put, h1, h2, h3]

theorem State.rd_event (s : State) (p : Plane) (src : Option Plane) (e k : Nat) (h1 : k ≠ R.EVM_FLAGS)
    (h2 : k ≠ R.EVM_FLAG_CNT) : (s.event src e).rd p k = s.rd p k := by
  cases src with
  | none => simp [State.event]
  | some q =>
    simp only [State.event, State.raiseEVM]
    have hf : ∀ p', (s.flag .a bEVM 1).rd p' k = s.rd p' k := fun p' => s.rd_flag p' .a bEVM 1 k (.inl ⟨h1, h2⟩)
    split
    · rfl
    · split
      · simp
      · split <;> simp [hf]

theorem State.rd_notify (s : State) (p q : Plane) (slot e k : Nat) (h1 : k ≠ R.EVM_FLAGS) (h2 : k ≠ R.EVM_FLAG_CNT) :
    (s.notify q slot e).rd p k = s.rd p k := by
  simp only [State.notify]
  split
  · split
    · exact State.rd_event _ _ _ _ _ h1 h2
    · rfl
  · exact State.rd_event _ _ _ _ _ h1 h2

/-- Raising an event's flag leaves every other register alone (R16, R475). -/
theorem State.rd_raise (s : State) (p q : Plane) (b : Bank) (e j k : Nat) (h : k ∉ flagSlots b j) :
    (s.raise q b e j).rd p k = s.rd p k := by
  simp only [flagSlots, List.mem_cons, List.not_mem_nil, not_or, or_false] at h
  obtain ⟨h1, h2, h3, h4⟩ := h
  simp only [State.raise]
  split
  · rw [State.rd_notify _ _ _ _ _ _ h3 h4, State.rd_flag _ _ _ _ _ _ (.inl ⟨h1, h2⟩)]
  · rw [State.rd_flag _ _ _ _ _ _ (.inl ⟨h1, h2⟩)]

theorem State.get_raise (s : State) (p q : Plane) (b : Bank) (e j k : Nat) (f : Fld) (h : k ∉ flagSlots b j) :
    (s.raise q b e j).get p k f = s.get p k f := by simp [State.get, s.rd_raise p q b e j k h]

/-- A raised flag is set (R16). -/
theorem State.flagged_raise (s : State) (q : Plane) (b : Bank) (e j : Nat) (hj : j < 36) (h1 : b.flags ≠ b.cnt + j / 4)
    (h2 : b.flags ≠ R.EVM_FLAGS) (h3 : b.flags ≠ R.EVM_FLAG_CNT) : (s.raise q b e j).flagged q b j := by
  have ok : Fld.ok ⟨j, j⟩ := ⟨Nat.le_refl _, hj⟩
  have key : (s.flag q b j).get q b.flags ⟨j, j⟩ = 1 := by
    simp only [State.flag, State.count]
    rw [State.get_put_ne _ _ _ _ _ _ h1, State.get_put_same _ _ _ _ _ ok]
    simp [Fld.width]
  simp only [State.flagged, State.raise]
  split
  · simp only [State.get] at key ⊢
    rw [State.rd_notify _ _ _ _ _ _ h2 h3]; exact key
  · exact key

/-! ## The state behind the registers -/

@[simp] theorem State.inner_wr (s : State) (q : Plane) (k : Nat) (v : Word) : (s.wr q k v).inner = s.inner := by
  unfold State.wr
  split
  · rfl
  · dsimp only
    split <;> cases q <;> rfl

@[simp] theorem State.inner_put (s : State) (q : Plane) (k : Nat) (f : Fld) (n : Nat) : (s.put q k f n).inner = s.inner :=
  s.inner_wr q k _

@[simp] theorem State.inner_dp (s : State) (k : Nat) (f : Fld) (n : Nat) : (s.dp k f n).inner = s.inner := s.inner_wr .a k _

@[simp] theorem State.inner_toMatrix (s : State) (e : Nat) : (s.toMatrix e).inner = s.inner := rfl

@[simp] theorem State.inner_belRecheck (s : State) : (belRecheck s).inner = s.inner := rfl

@[simp] theorem State.inner_flag (s : State) (q : Plane) (b : Bank) (j : Nat) : (s.flag q b j).inner = s.inner := by
  simp [State.flag, State.count]

@[simp] theorem State.inner_raiseEVM (s : State) (j : Nat) : (s.raiseEVM j).inner = s.inner := by
  simp only [State.raiseEVM]; split <;> simp

@[simp] theorem State.inner_event (s : State) (src : Option Plane) (e : Nat) : (s.event src e).inner = s.inner := by
  cases src <;> simp only [State.event] <;> repeat' split
  all_goals simp

@[simp] theorem State.inner_notify (s : State) (q : Plane) (slot e : Nat) : (s.notify q slot e).inner = s.inner := by
  simp only [State.notify]; repeat' split
  all_goals simp

@[simp] theorem State.inner_raise (s : State) (q : Plane) (b : Bank) (e j : Nat) : (s.raise q b e j).inner = s.inner := by
  simp only [State.raise]; split <;> simp

@[simp] theorem State.inner_count (s : State) (q : Plane) (k : Nat) (f : Fld) (n : Nat) : (s.count q k f n).inner = s.inner := by
  simp [State.count]

@[simp] theorem State.inner_refuse (s : State) (q : Plane) (k : Nat) (f : Fld) (c : Nat) (b : Bank) (e j : Nat) :
    (s.refuse q k f c b e j).inner = s.inner := by simp [State.refuse]

@[simp] theorem State.inner_writeRw (s : State) (q : Plane) (k : Nat) (v : Word) : (s.writeRw q k v).inner = s.inner := by
  simp [State.writeRw]

/-! ## The store -/

/-- The stores lie behind the registers. -/
theorem State.sw_of_inner {s t : State} (h : t.inner = s.inner) : SameStores s t := by
  intro q a
  have ha : t.pa.store = s.pa.store := congrArg (fun x => x.pa.store) h
  have hb : t.pb.store = s.pb.store := congrArg (fun x => x.pb.store) h
  cases q <;> simp [State.sw, State.plane, ha, hb]

/-! ## The end of a command -/

theorem does_of_exec {c : Instr} {s u : State} {P : State → Prop} (h : exec c s = settled u) (hp : P (belRecheck u)) :
    Does c s P := ⟨belRecheck u, h, hp⟩

end Sys2Proof.Machine
end

