-- ==== Sys2Proof/Laws/Keeps.lean ====
section
/-! SUPPORT. Laws of frames: what the shared operations keep of a state. -/

namespace Sys2Proof.Machine

/-- The two halves of a frame. -/
theorem Keeps.of {q : Plane} {s t : State} {ks : List Nat} (h1 : t.inner = s.inner)
    (h2 : ∀ p k, (k ∉ ks ∨ (isDev k = false ∧ p ≠ q)) → t.rd p k = s.rd p k) : Keeps q s t ks := ⟨h1, h2⟩


/-- A state keeps everything of itself. -/
theorem Keeps.refl (q s ks) : Keeps q s s ks := ⟨rfl, fun _ _ _ => rfl⟩

/-- What two commands keep, both in a row keep. -/
theorem Keeps.trans {q s t u} {ks : List Nat} (h1 : Keeps q s t ks) (h2 : Keeps q t u ks) : Keeps q s u ks :=
  ⟨h2.1.trans h1.1, fun p k h => (h2.2 p k h).trans (h1.2 p k h)⟩

/-- More registers may be named. -/
theorem Keeps.mono {q s t} {ks ls : List Nat} (h : Keeps q s t ks) (hs : ∀ k ∈ ks, k ∈ ls) : Keeps q s t ls :=
  ⟨h.1, fun p k hk => h.2 p k (hk.imp (fun hn hc => hn (hs k hc)) id)⟩

/-- A write of a named register. -/
theorem Keeps.wr {q s t ks} (h : Keeps q s t ks) (k v) (hk : k ∈ ks): Keeps q s (t.wr q k v) ks :=
  ⟨by simpa using h.1, fun p j hj => by
    rw [State.rd_wr]
    split
    · rename_i hh; obtain ⟨rfl, hh⟩ := hh
      rcases hj with hj | ⟨hj1, hj2⟩
      · exact absurd hk hj
      · simp [hj1, hj2] at hh
    · exact h.2 p j hj⟩

/-- A field of a named register replaced. -/
theorem Keeps.put {q s t ks} (h : Keeps q s t ks) (k f n) (hk : k ∈ ks): Keeps q s (t.put q k f n) ks := h.wr k _ hk

/-- A write of a named register of a single-copy die. -/
theorem Keeps.wrDev {q s t ks} (h : Keeps q s t ks) (q' k v) (hk : k ∈ ks) (hd : isDev k = true) : Keeps q s (t.wr q' k v) ks :=
  ⟨by simpa using h.1, fun p j hj => by
    rw [State.rd_wr]
    split
    · rename_i hh; obtain ⟨rfl, hh⟩ := hh
      rcases hj with hj | ⟨hj1, hj2⟩
      · exact absurd hk hj
      · simp [hj1] at hd
    · exact h.2 p j hj⟩

/-- A field of a named register of a single-copy die replaced. -/
theorem Keeps.dp {q s t ks} (h : Keeps q s t ks) (k f n) (hk : k ∈ ks) (hd : isDev k = true) : Keeps q s (t.dp k f n) ks := h.wrDev _ _ _ hk hd

/-- A counter of a named register increased. -/
theorem Keeps.count {q s t ks} (h : Keeps q s t ks) (k f n) (hk : k ∈ ks): Keeps q s (t.count q k f n) ks := h.put k _ _ hk

/-- Bellows' look at the end of a command. -/
theorem Keeps.recheck {q s t ks} (h : Keeps q s t ks) : Keeps q s (belRecheck t) ks := ⟨h.1, fun p k hk => by
  rw [State.rd_belRecheck]; exact h.2 p k hk⟩

/-- A flag and its counter. -/
theorem Keeps.flag {q s t ks} (h : Keeps q s t ks) (b j) (h1 : b.flags ∈ ks) (h2 : b.cnt + j/4 ∈ ks) : Keeps q s (t.flag q b j) ks :=
  (h.put _ _ _ h1).count _ _ _ h2

/-- An event raised. -/
theorem Keeps.toMatrix {q s t ks} (h : Keeps q s t ks) (e) : Keeps q s (t.toMatrix e) ks := ⟨h.1, fun p k hk => by
  rw [State.rd_toMatrix]; exact h.2 p k hk⟩

/-- NOT_GRANTED. -/
theorem Keeps.flagEVM {q s t ks} (h : Keeps q s t ks) (h1 : R.EVM_FLAGS ∈ ks) (h2 : R.EVM_FLAG_CNT ∈ ks) : Keeps q s (t.flag .a bEVM 1) ks := 
  (h.wrDev _ _ _ h1 (by decide)).wrDev _ _ _ h2 (by decide)

/-- An event of a die or a plane. -/
theorem Keeps.event {q s t ks} (h : Keeps q s t ks) (src e) (h1 : R.EVM_FLAGS ∈ ks) (h2 : R.EVM_FLAG_CNT ∈ ks) : Keeps q s (t.event src e) ks := by
  cases src with
  | none => exact h.toMatrix e
  | some p =>
    simp only [State.event]
    split
    · exact h
    · split
      · exact h.toMatrix e
      · simp only [State.raiseEVM]
        split
        · exact (h.flagEVM h1 h2).toMatrix _
        · exact h.flagEVM h1 h2

/-- The event of a flag. -/
theorem Keeps.notify {q s t ks} (h : Keeps q s t ks) (p slot e) (h1 : R.EVM_FLAGS ∈ ks) (h2 : R.EVM_FLAG_CNT ∈ ks) :
    Keeps q s (t.notify p slot e) ks := by
  simp only [State.notify]
  split
  · split
    · exact h.event _ _ h1 h2
    · exact h
  · exact h.event _ _ h1 h2

/-- A raised flag, with its counter and event (R16, R475). -/
theorem Keeps.raise {q s t ks} (h : Keeps q s t ks) (b e j) (hb : ∀ k ∈ flagSlots b j, k ∈ ks) : Keeps q s (t.raise q b e j) ks := by
  have h1 := hb b.flags (by simp [flagSlots])
  have h2 := hb (b.cnt + j/4) (by simp [flagSlots])
  have h3 := hb R.EVM_FLAGS (by simp [flagSlots])
  have h4 := hb R.EVM_FLAG_CNT (by simp [flagSlots])
  simp only [State.raise]
  split
  · exact (h.flag b j h1 h2).notify _ _ _ h3 h4
  · exact h.flag b j h1 h2

/-- A refusal: its reason and its flag. -/
theorem Keeps.refuse {q : Plane} {s t : State} {ks : List Nat} (h : Keeps q s t ks) (k : Nat) (f : Fld) (c : Nat) (b : Bank)
    (e j : Nat) (hk : k ∈ ks) (hb : ∀ k ∈ flagSlots b j, k ∈ ks) : Keeps q s (t.refuse q k f c b e j) ks :=
  (h.put k f c hk).raise b e j hb

end Sys2Proof.Machine
end

