-- ==== Sys2Proof/Laws/Settled.lean ====
section
/-! SUPPORT. Every command answers a next state that Bellows has re-checked (R469 to R471). -/

namespace Sys2Proof.Machine

/-- Every command, in every state, ends in Bellows' re-check. -/
theorem exec_settled (i : Instr) (s : State) : ∃ u, exec i s = settled u := by
  cases i <;> exact ⟨_, rfl⟩

/-- Every command, in every state, answers a next state. -/
theorem exec_next (i : Instr) (s : State) : ∃ t, exec i s = .next t := by
  obtain ⟨u, h⟩ := exec_settled i s
  exact ⟨belRecheck u, h⟩

end Sys2Proof.Machine
end

