-- ==== Sys2Proof/Laws/Store.lean ====
section
/-! SUPPORT. Laws of the central store: read after write, and the canonical form (R402 to R406). -/

namespace Sys2Proof.Machine

/-- A plane replaced by one with the same registers reads as before. -/
theorem State.rd_setPlane (s : State) (q r : Plane) (p : PlaneSt) (k : Nat) (h1 : p.regs = (s.plane q).regs)
    (h2 : p.rep.regs = (s.plane q).rep.regs) : (s.setPlane q p).rd r k = s.rd r k := by
  cases q <;> cases r <;> simp_all [State.rd, State.setPlane, State.plane]

@[simp] theorem State.rd_setStore (s : State) (q r : Plane) (x : StoreSt) (k : Nat) : (s.setStore q x).rd r k = s.rd r k :=
  s.rd_setPlane q r _ k rfl rfl

@[simp] theorem State.rd_markDirty (s : State) (q r : Plane) (a k : Nat) : (s.markDirty q a).rd r k = s.rd r k := by
  simp only [State.markDirty]
  split
  · split
    · rfl
    · exact s.rd_setPlane q r _ k rfl rfl
  · rfl

@[simp] theorem State.store_setStore (s : State) (q r : Plane) (x : StoreSt) :
    ((s.setStore q x).plane r).store = if r = q then x else (s.plane r).store := by
  cases q <;> cases r <;> rfl

@[simp] theorem State.store_markDirty (s : State) (q r : Plane) (a : Nat) :
    ((s.markDirty q a).plane r).store = (s.plane r).store := by
  simp only [State.markDirty]
  split
  · split
    · rfl
    · cases q <;> cases r <;> rfl
  · rfl

/-- The words of a store after a word is stored in a pair that is not poisoned. -/
theorem State.words_sput (s : State) (q : Plane) (a : Nat) (v : Word) (ha : a < storeWords) (hb : s.isBad q (a / 2) = false)
    (r : Plane) : ((s.sput q a v).plane r).store.words
      = if r = q then sPut (fun _ => (0 : Word)) (s.plane q).store.words a v else (s.plane r).store.words := by
  simp only [State.sput, ha, hb, if_true, Bool.false_eq_true, if_false, State.store_markDirty, State.store_setStore]
  split <;> rfl

theorem State.words_sputPair (s : State) (q : Plane) (a : Nat) (v0 v1 : Word) (ha : a < storeWords) (r : Plane) :
    ((s.sputPair q a v0 v1).plane r).store.words
      = if r = q then sPut (fun _ => (0 : Word)) (sPut (fun _ => (0 : Word)) (s.plane q).store.words a v0) (a + 1) v1
        else (s.plane r).store.words := by
  simp only [State.sputPair, ha, if_true, State.store_markDirty, State.store_setStore]
  split <;> rfl

theorem State.rd_sput (s : State) (q : Plane) (a : Nat) (v : Word) (hb : s.isBad q (a / 2) = false) (r : Plane) (k : Nat) :
    (s.sput q a v).rd r k = s.rd r k := by
  simp only [State.sput, hb, Bool.false_eq_true, if_false]
  split <;> simp

theorem State.rd_sputPair (s : State) (q : Plane) (a : Nat) (v0 v1 : Word) (r : Plane) (k : Nat) :
    (s.sputPair q a v0 v1).rd r k = s.rd r k := by
  simp only [State.sputPair]
  split <;> simp

/-- A store holds the word stored, and every other word as before. -/
theorem State.sw_sput (s : State) (q : Plane) (a : Nat) (v : Word) (ha : a < storeWords) (hb : s.isBad q (a / 2) = false)
    (r : Plane) (b : Nat) : (s.sput q a v).sw r b = if r = q ∧ b = a then v else s.sw r b := by
  simp only [State.sw, s.words_sput q a v ha hb r]
  by_cases hr : r = q
  · subst hr
    by_cases h : b = a
    · subst h; simp
    · simp [h, sGet_sPut_ne _ _ _ h]
  · simp [hr]

theorem State.sw_sputPair (s : State) (q : Plane) (a : Nat) (v0 v1 : Word) (ha : a < storeWords) (r : Plane) (b : Nat) :
    (s.sputPair q a v0 v1).sw r b
      = if r = q ∧ b = a then v0 else if r = q ∧ b = a + 1 then v1 else s.sw r b := by
  simp only [State.sw, s.words_sputPair q a v0 v1 ha r]
  by_cases hr : r = q
  · subst hr
    by_cases h1 : b = a + 1
    · subst h1
      simp
    · by_cases h : b = a
      · subst h; simp [sGet_sPut_ne _ _ _ h1]
      · simp [h, h1, sGet_sPut_ne _ _ _ h1, sGet_sPut_ne _ _ _ h]
  · simp [hr]

theorem State.memWf_iff (s : State) : s.memWf = true ↔ ∀ q, Memory.wf (s.plane q).store.words = true := by
  simp only [State.memWf, Bool.and_eq_true]
  exact ⟨fun h q => by cases q; exacts [h.1, h.2], fun h => ⟨h .a, h .b⟩⟩

/-- The stores lie behind the registers. -/
theorem State.store_of_inner {s t : State} (h : t.inner = s.inner) (q : Plane) : (t.plane q).store = (s.plane q).store := by
  have ha : t.pa.store = s.pa.store := congrArg (fun x => x.pa.store) h
  have hb : t.pb.store = s.pb.store := congrArg (fun x => x.pb.store) h
  cases q
  · exact ha
  · exact hb

theorem State.words_spareStart (s : State) (q : Plane) (row : Nat) (r : Plane) :
    ((s.spareStart q row).plane r).store.words = (s.plane r).store.words := by
  simp only [State.spareStart]
  split
  · rw [State.store_of_inner (State.inner_put _ _ _ _ _) r, State.store_setStore]
    split
    · rename_i h; subst h; rfl
    · rfl
  · rfl

/-- An uncorrectable error changes no word. -/
theorem State.words_eccDouble (s : State) (q : Plane) (a : Nat) (r : Plane) :
    ((s.eccDouble q a).plane r).store.words = (s.plane r).store.words := by
  simp only [State.eccDouble, State.words_spareStart]
  rw [State.store_of_inner (State.inner_raise _ _ _ _ _) r, State.store_of_inner (State.inner_wr _ _ _ _) r,
    State.store_of_inner (State.inner_count _ _ _ _ _) r]

/-- Storing a word keeps the canonical form. -/
theorem State.memWf_sput (s : State) (q : Plane) (a : Nat) (v : Word) (h : s.memWf = true) : (s.sput q a v).memWf = true := by
  rw [State.memWf_iff] at h ⊢
  intro r
  simp only [State.sput]
  split
  · simp only [State.store_markDirty, State.store_setStore]
    have hs : ∀ p, (((if s.isBad q (a / 2) then s.eccDouble q a else s).plane p).store.words) = (s.plane p).store.words := by
      intro p; split
      · exact s.words_eccDouble q a p
      · rfl
    split
    · rename_i hr; subst hr
      exact sWf_sPut _ _ _ _ (by rw [hs]; exact h r)
    · rw [hs]; exact h r
  · exact h r

/-- Storing a pair keeps the canonical form. -/
theorem State.memWf_sputPair (s : State) (q : Plane) (a : Nat) (v0 v1 : Word) (h : s.memWf = true) :
    (s.sputPair q a v0 v1).memWf = true := by
  rw [State.memWf_iff] at h ⊢
  intro r
  by_cases ha : a < storeWords
  · rw [s.words_sputPair q a v0 v1 ha r]
    split
    · exact sWf_sPut _ _ _ _ (sWf_sPut _ _ _ _ (h q))
    · exact h r
  · simp only [State.sputPair, ha, if_false]; exact h r

/-- Storing words keeps the canonical form. -/
theorem State.memWf_sputs (q : Plane) : ∀ (n : Nat) (l : List Word) (s : State) (a : Nat), l.length ≤ n → s.memWf = true →
    (s.sputs q a l).memWf = true
  | _, [], s, a, _, h => h
  | _, [v], s, a, _, h => s.memWf_sput q a v h
  | 0, _ :: _ :: _, _, _, hn, _ => absurd hn (by simp)
  | n + 1, v :: w :: t, s, a, hn, h => by
    simp only [State.sputs]
    have ht : t.length ≤ n := by simp at hn; omega
    split
    · exact State.memWf_sputs q n t _ _ ht (s.memWf_sputPair q a v w h)
    · exact State.memWf_sputs q n t _ _ ht ((s.sput q a v).memWf_sput q (a + 1) w (s.memWf_sput q a v h))

/-- Reset holds nothing in either store, and no register off its reset value that is listed twice. -/
theorem reset_memWf : State.reset.memWf = true := by decide

end Sys2Proof.Machine
end

