-- ==== Sys2Proof/Tests/States.lean ====
section
/-! SUPPORT. Small states that the tests and the witnesses build on. -/

open Sys2Proof Sys2Proof.Machine

namespace Sys2Proof.Tests

/-- Reset with plane A granted. -/
def granted : State := State.reset.dp R.RED_STATUS F.RED_STATUS_GRANTED 1
/-- Reset in a boot phase. -/
def staged (n : Nat) : State := setStage n State.reset
/-- In service: READY, with plane A granted. -/
def ready : State := (setStage 8 granted)
/-- A register of a single-copy die with a field set. -/
def withBoot (s : State) (f : BootSt → BootSt) : State := { s with boot := f s.boot }

def w36 (n : Nat) : Word := BitVec.ofNat 36 n
/-- An operation: code, accumulator, dst, shift/col field, srcA, srcB. -/
def op3 (code acc dst mid a b sh : Nat) : List Word := [w36 (code <<< 30 ||| acc <<< 22 ||| dst), w36 (mid <<< 26 ||| a), w36 (sh <<< 30 ||| b)]
/-- A Pricking with the programs and the further sections. -/
def mkPrick (kind ncol nrow iter : Nat) (pro body epi : List (List Word)) (secs : List (Nat × Nat × List Word)) (prog : Nat := 0x1000) : List Word :=
  let all := (9, prog, (pro ++ body ++ epi).flatten) :: secs
  let n := all.length
  let ofs := (all.map fun e => e.2.2.length).foldl (fun (acc : List Nat × Nat) k => (acc.1 ++ [acc.2], acc.2 + k)) ([], 24 + 3 * n)
  let len := ofs.2 + 1
  let head := [w36 (0x7E5 <<< 24 ||| 1 <<< 16 ||| kind <<< 8), w36 len, w36 (ncol <<< 25 ||| nrow <<< 11), w36 (iter <<< 32 ||| n <<< 24),
    w36 pro.length, w36 body.length, w36 epi.length, 0, 0, 0, 0] ++ List.replicate 9 (w36 0x3FFFFF) ++ [0, 0, 0, 0]
  let tab := ((all.zip ofs.1).map fun e => [w36 (e.1.1 <<< 28 ||| e.1.2.1), w36 e.2, w36 e.1.2.2.length]).flatten
  let ws := head ++ tab ++ (all.map fun e => e.2.2).flatten
  ws ++ [BitVec.ofNat 36 (crc32 ws)]
def setSram (q : Plane) (l : List (Nat × Word)) (s : State) : State := l.foldl (fun s e => s.setArr q { s.arr q with sram := sPut (fun _ => (0 : Word)) (s.arr q).sram e.1 e.2 }) s

/-- XLK has 13 registers, in the first slots of its block. -/
theorem blockSlots_xlk_le : (blockSlots 10).length ≤ 16 := by
  have e : blockSlots 10 = (List.range' 0x720000 16 ++ List.range' 0x720010 0x1FFF0).filter isReg := by
    rw [List.range'_append]; rfl
  have h : (List.range' 0x720010 0x1FFF0).filter isReg = [] := by
    rw [List.filter_eq_nil_iff]
    intro k hk
    obtain ⟨h1, h2⟩ := List.mem_range'_1.mp hk
    have hb : regBlock k = regRowsXLK := by
      unfold regBlock
      repeat rw [if_neg (by omega)]
      rw [if_pos (by omega)]
    have hr : ∀ r ∈ regRowsXLK, r.dims = [] ∧ r.base < 0x720010 := by decide
    simp only [isReg, hb, List.any_eq_true, not_exists, not_and]
    intro r hr' hk'
    obtain ⟨hd, hl⟩ := hr r hr'
    simp [RegRow.has, hd, inDims] at hk'
    omega
  rw [e, List.filter_append, h, List.append_nil]
  exact (List.length_filter_le _ _).trans (by simp)

theorem none_ne {α β : Type} {x : Option α} {f : β → α} (h : x = none) : ∀ b, x ≠ some (f b) := fun _ => by simp [h]

theorem none_ne2 {α β γ : Type} {x : Option α} {f : β → γ → α} (h : x = none) : ∀ b c, x ≠ some (f b c) := fun _ _ => by simp [h]

theorem none_all2 {α β γ : Type} {x : Option α} {f : β → γ → α} {P : β → γ → Prop} (h : x = none) : ∀ b c, x = some (f b c) → P b c :=
  fun _ _ e => by simp [h] at e

theorem some_all3 {α β γ : Type} {x : Option (α × β × γ)} {P : α → β → γ → Prop} [∀ a b c, Decidable (P a b c)]
    (h : (match x with
      | none => true
      | some y => decide (P y.1 y.2.1 y.2.2)) = true) : ∀ a b c, x = some (a, b, c) → P a b c := by
  intro a b c e
  simpa [e] using h

theorem nth_none {α : Type} {l : List (Option α)} (h : l.all (·.isNone) = true) (p : Nat) : nth l p none = none := by
  simp only [nth, List.getD_eq_getElem?_getD]
  cases e : l[p]? with
  | none => rfl
  | some x => simpa using List.all_eq_true.mp h x (List.mem_of_getElem? e)


theorem nth_nil_of_all {l : List (List Nat)} (h : l.all (·.isEmpty) = true) (p : Nat) : nth l p [] = [] := by
  simp only [nth, List.getD_eq_getElem?_getD]
  cases e : l[p]? with
  | none => rfl
  | some x => simpa using List.all_eq_true.mp h x (List.mem_of_getElem? e)

theorem nth_nil_above {l : List (List Nat)} (n : Nat) (h : (l.drop (n + 1)).all (·.isEmpty) = true) (p : Nat) (hp : n < p) :
    nth l p [] = [] := by
  have := nth_nil_of_all h (p - (n + 1))
  simpa [nth, List.getD_eq_getElem?_getD, List.getElem?_drop, show n + 1 + (p - (n + 1)) = p by omega] using this

/-- The next state of an outcome; the reset state where there is none. -/
def getNext (o : Host.Outcome State Fault Refusal) : State := match o with | .next t => t | _ => State.reset

end Sys2Proof.Tests
end

