-- ==== Sys2Proof/Tests/Witness10.lean ====
section
/-! SUPPORT. Witnesses, part 10: states and operands that meet the hypotheses of each clause of a statement together. -/

open Sys2Proof Sys2Proof.Machine Sys2Proof.Tests

namespace Sys2Proof.Tests.W10

set_option Elab.async false
set_option linter.all false
set_option maxRecDepth 100000

def q := Plane.a
def idj : SlvJob := ⟨.body, 0, 0, 3, 0, [], true, 0, [], [], false, false, []⟩
/-- job with one op at hand -/
def withOp (o : List Word) (phase : JobPhase := .body) (secs : List (Nat × Nat × List Word) := []) (k best : Nat := 0) : State :=
  let ws := mkPrick 1 4 4 2 [o, o] [o, op3 17 0 0 0 0 0 0] [op3 63 0 0 0 0 0 0, o] secs
  let s := { granted with now := 1000, cyc := { granted.cyc with starts := 4, tick := 0 } }
  let s := s.setArr q { s.arr q with mot := some ⟨ws, 1⟩, dyn := (if phase = .dynamics then some ⟨ws, 1⟩ else none), job := some { idj with phase := phase, pc := 1, k := k, best := best }, acc := [(2, 50)] }
  setSram q ((o.zipIdx.map fun e => (0x1003 + e.2, e.1)) ++ [(0x50, w36 7), (0x51, w36 (2^36 - 3))]) s
def est (s : State) : State := s.setArr q { s.arr q with est := (s.arr q).mot, estPc := 1, job := none }
def A (o : List Word) : Bool × List Word × Nat := match running q (withOp o) with | some x => x | none => (false, [], 0)
def mk1 := (withOp (op3 1 2 0 0 0 0 0))
def mk2 := (withOp (op3 2 2 0 0 0x50 0x51 0))
def mk3 := (withOp (op3 3 2 0 0 0x50 0x51 0))
def mk4 := (withOp (op3 4 2 0 0 0x50 0 4))
def big (s : State) : State := s.setArr q { s.arr q with acc := [(2, 2^79 - 5)] }
def mk5 := (big (withOp (op3 3 2 0 0 0x50 0x51 0)))
def E (o : List Word) (secs : List (Nat × Nat × List Word) := []) : List Word := match running q (est (withOp o .body secs)) with | some x => x.2.1 | none => []
def mk6 := (est (withOp (op3 2 2 0 0 0x50 0x51 0)))
def mk7 := (withOp (op3 0 2 0 0 0x50 0x51 0))
def mk8 := (withOp (op3 16 2 0 0 0x50 0x51 0))
def mk9 := (withOp (op3 14 2 0 0 0x50 0x51 0))
def mk10 := (withOp (op3 15 2 0 0 0x50 0x51 0))
def mk11 := (withOp (op3 5 2 0x60 0 0 0 2))
def mk12 := (withOp (op3 9 2 0x60 0 0x50 0 4))
def mk13 := (withOp (op3 10 2 0x60 0 0x50 0x51 4))
def mk14 := (withOp (op3 11 2 0x60 0 0x50 0x51 4))
def mk15 := (withOp (op3 12 2 0x60 0 0x50 0x51 4))
def sat (s : State) : State := setSram q [(0x50, w36 (2^35 - 2)), (0x1001, w36 0x33)] s
def mk16 := (sat (withOp (op3 12 2 0x60 0 0x50 0x51 4)))
def mk17 := (withOp (op3 6 2 0x60 0 0x50 0x51 4))
def mk18 := (withOp (op3 8 2 0x60 0 0x50 0x51 4))
def mk19 := (withOp (op3 8 2 (2^22-1) 0 0x50 0x51 4))
def mk20 := (withOp [w36 (13 <<< 30 ||| 0x60), w36 0x987654321, 0])
def pv : List (Nat × Nat × List Word) := [(4, 0, [9, 9, 9, 9]), (5, 0, [4, 4, 5, 4])]
def P (o : List Word) : List Word := match running q (withOp o .body pv) with | some x => x.2.1 | none => []
def mk21 := (withOp (op3 7 2 0x50 2 0 0 0) .body pv)
def mk22 := (withOp (op3 7 2 0x50 2 0 0 0))
def mk23 := (est (withOp (op3 7 2 0x50 2 0 0 0)))
def mk30 := (withOp (op3 17 2 0 0 0 0 0) .epilogue)
def ws30 : List Word := (match running q mk30 with | some x => x.2.1 | none => [])
def mk31 := (est (withOp (op3 18 2 0 0 0 0 0)))
def fresh (s : State) : State := s.setArr q { s.arr q with estFresh := true }
def mk32 := (fresh mk6)
def mk33 := (est mk5)
def mk34 := (est (withOp (op3 7 2 0x50 2 0 0 0) .body pv))
def stq (p : JobPhase) (o : List Word) (f : SlvArr → SlvArr) (k best : Nat := 0) : State := let s := withOp o p [] k best; s.setArr q (f (s.arr q))
def wsOf (s : State) : List Word := match running q s with | some x => x.2.1 | none => []
def jOf (s : State) : SlvJob := match s.job q with | some x => x | none => idj
def i1 : State := stq .body (op3 17 0 0 0 0 0 0) (fun x => { x with t := true })
def i1c : State := stq .body (op3 17 0 0 0 0 0 0) (fun x => { x with t := true }) 2 2
def i2 : State := stq .body (op3 17 0 0 0 0 0 0) (fun x => { x with t := false })
def i2b : State := stq .body (op3 17 0 0 0 0 0 0) (fun x => { x with t := false }) 2 1
def i2c : State := i2b.setArr q { i2b.arr q with job := some { (jOf i2b) with first := false } }
def i3 : State := stq .dynamics (op3 18 0 9 0 0x50 0 0) id
def i3b : State := stq .epilogue (op3 18 0 9 0 0x50 0 0) id
def i4 : State := stq .dynamics (op3 63 0 9 0 0x50 0 0) id
def i5 : State := stq .epilogue (op3 63 0 9 0 0x50 0 0) id
def i5d : State := i5.setArr q { i5.arr q with dyn := (i5.arr q).mot }
def i6 : State := est i5
def wt (s : State) : State := s.setArr q { s.arr q with waiting := true }
def i7 : State := wt i6
def i8 : State := wt (est (stq .body (op3 16 0 0 0 0 0 0) id))

/-- The hypotheses of SolverComputes can be met, clause by clause. -/
theorem witness_SolverComputes :
    (mk1.chanter = some q ∧ running q mk1 = some (true, (A (op3 1 2 0 0 0 0 0)).2.1, 1) ∧
      (true = false → (mk1.arr q).waiting = true → 1 + 1 < hOps (A (op3 1 2 0 0 0 0 0)).2.1) ∧
      opCode (sramOp q (A (op3 1 2 0 0 0 0 0)).2.1 1 mk1) = 1 ∧ -2 ^ 79 ≤ 0 ∧ 0 < 2 ^ 79)
  ∧ (mk5.chanter = some q ∧ running q mk5 = some (true, (A (op3 3 2 0 0 80 81 0)).2.1, 1) ∧
      (true = false → (mk5.arr q).waiting = true → 1 + 1 < hOps (A (op3 3 2 0 0 80 81 0)).2.1) ∧
      opCode (sramOp q (A (op3 3 2 0 0 80 81 0)).2.1 1 mk5) = 3 ∧ (2 ^ 79 + 16 = (if true = false ∧
      (mk5.arr q).estFresh = true then { sram := (mk5.arr q).sram, acc := [], t := false, s := false, mot := (mk5.arr q).mot, dyn := (mk5.arr q).dyn, newMot := (mk5.arr q).newMot, newDyn := (mk5.arr q).newDyn, job := (mk5.arr q).job, est := (mk5.arr q).est, estPc := (mk5.arr q).estPc, estFresh := false, waiting := (mk5.arr q).waiting } else mk5.arr q).a (SolverOp.of (sramOp q (A (op3 3 2 0 0 80 81 0)).2.1 1 mk5)).acc - srcWord q (SolverOp.of (sramOp q (A (op3 3 2 0 0 80 81 0)).2.1 1 mk5)).srcA mk5 * srcWord q (SolverOp.of (sramOp q (A (op3 3 2 0 0 80 81 0)).2.1 1 mk5)).srcB mk5) ∧
      (2 ^ 79 + 16 < -2 ^ 79 ∨ 2 ^ 79 ≤ 2 ^ 79 + 16))
  ∧ (mk6.chanter = some q ∧ running q mk6 = some (false, E (op3 2 2 0 0 80 81 0), 1) ∧
      (false = false → (mk6.arr q).waiting = true → 1 + 1 < hOps (E (op3 2 2 0 0 80 81 0))) ∧
      opCode (sramOp q (E (op3 2 2 0 0 80 81 0)) 1 mk6) = 2 ∧ (29 = (if false = false ∧
      (mk6.arr q).estFresh = true then { sram := (mk6.arr q).sram, acc := [], t := false, s := false, mot := (mk6.arr q).mot, dyn := (mk6.arr q).dyn, newMot := (mk6.arr q).newMot, newDyn := (mk6.arr q).newDyn, job := (mk6.arr q).job, est := (mk6.arr q).est, estPc := (mk6.arr q).estPc, estFresh := false, waiting := (mk6.arr q).waiting } else mk6.arr q).a (SolverOp.of (sramOp q (E (op3 2 2 0 0 80 81 0)) 1 mk6)).acc + srcWord q (SolverOp.of (sramOp q (E (op3 2 2 0 0 80 81 0)) 1 mk6)).srcA mk6 * srcWord q (SolverOp.of (sramOp q (E (op3 2 2 0 0 80 81 0)) 1 mk6)).srcB mk6) ∧
      -2 ^ 79 ≤ 29 ∧ 29 < 2 ^ 79)
  ∧ (mk7.chanter = some q ∧ running q mk7 = some (true, (A (op3 0 2 0 0 80 81 0)).2.1, 1) ∧
      (true = false → (mk7.arr q).waiting = true → 1 + 1 < hOps (A (op3 0 2 0 0 80 81 0)).2.1) ∧
      opCode (sramOp q (A (op3 0 2 0 0 80 81 0)).2.1 1 mk7) = 0)
  ∧ (mk9.chanter = some q ∧ running q mk9 = some (true, (A (op3 14 2 0 0 80 81 0)).2.1, 1) ∧
      (true = false → (mk9.arr q).waiting = true → 1 + 1 < hOps (A (op3 14 2 0 0 80 81 0)).2.1) ∧
      opCode (sramOp q (A (op3 14 2 0 0 80 81 0)).2.1 1 mk9) = 14)
  ∧ (mk10.chanter = some q ∧ running q mk10 = some (true, (A (op3 15 2 0 0 80 81 0)).2.1, 1) ∧
      (true = false → (mk10.arr q).waiting = true → 1 + 1 < hOps (A (op3 15 2 0 0 80 81 0)).2.1) ∧
      opCode (sramOp q (A (op3 15 2 0 0 80 81 0)).2.1 1 mk10) = 15)
  ∧ (mk14.chanter = some q ∧ running q mk14 = some (true, (A (op3 11 2 96 0 80 81 4)).2.1, 1) ∧
      (true = false → (mk14.arr q).waiting = true → 1 + 1 < hOps (A (op3 11 2 96 0 80 81 4)).2.1) ∧
      opCode (sramOp q (A (op3 11 2 96 0 80 81 4)).2.1 1 mk14) = 11 ∧
      4 = srcWord q (SolverOp.of (sramOp q (A (op3 11 2 96 0 80 81 4)).2.1 1 mk14)).srcA mk14 + srcWord q (SolverOp.of (sramOp q (A (op3 11 2 96 0 80 81 4)).2.1 1 mk14)).srcB mk14 ∧
      -2 ^ 35 ≤ 4 ∧ 4 < 2 ^ 35)
  ∧ (mk16.chanter = some q ∧ running q mk16 = some (true, (A (op3 12 2 96 0 80 81 4)).2.1, 1) ∧
      (true = false → (mk16.arr q).waiting = true → 1 + 1 < hOps (A (op3 12 2 96 0 80 81 4)).2.1) ∧
      opCode (sramOp q (A (op3 12 2 96 0 80 81 4)).2.1 1 mk16) = 12 ∧
      2 ^ 35 + 1 = srcWord q (SolverOp.of (sramOp q (A (op3 12 2 96 0 80 81 4)).2.1 1 mk16)).srcA mk16 - srcWord q (SolverOp.of (sramOp q (A (op3 12 2 96 0 80 81 4)).2.1 1 mk16)).srcB mk16 ∧
      (2 ^ 35 + 1 < -2 ^ 35 ∨ 2 ^ 35 ≤ 2 ^ 35 + 1))
  ∧ (mk17.chanter = some q ∧ running q mk17 = some (true, (A (op3 6 2 96 0 80 81 4)).2.1, 1) ∧
      (true = false → (mk17.arr q).waiting = true → 1 + 1 < hOps (A (op3 6 2 96 0 80 81 4)).2.1) ∧
      opCode (sramOp q (A (op3 6 2 96 0 80 81 4)).2.1 1 mk17) = 6)
  ∧ (mk18.chanter = some q ∧ running q mk18 = some (true, (A (op3 8 2 96 0 80 81 4)).2.1, 1) ∧
      (true = false → (mk18.arr q).waiting = true → 1 + 1 < hOps (A (op3 8 2 96 0 80 81 4)).2.1) ∧
      opCode (sramOp q (A (op3 8 2 96 0 80 81 4)).2.1 1 mk18) = 8)
  ∧ (mk20.chanter = some q ∧ running q mk20 = some (true, (A [w36 (13 <<< 30 ||| 96), w36 40926266145, 0]).2.1, 1) ∧
      (true = false → (mk20.arr q).waiting = true → 1 + 1 < hOps (A [w36 (13 <<< 30 ||| 96), w36 40926266145, 0]).2.1) ∧
      opCode (sramOp q (A [w36 (13 <<< 30 ||| 96), w36 40926266145, 0]).2.1 1 mk20) = 13)
  ∧ (mk21.chanter = some q ∧ running q mk21 = some (true, P (op3 7 2 80 2 0 0 0), 1) ∧
      (true = false → (mk21.arr q).waiting = true → 1 + 1 < hOps (P (op3 7 2 80 2 0 0 0))) ∧
      opCode (sramOp q (P (op3 7 2 80 2 0 0 0)) 1 mk21) = 7 ∧
      decide ((srcWord q (SolverOp.of (sramOp q (P (op3 7 2 80 2 0 0 0)) 1 mk21)).dst mk21).natAbs < BitVec.toNat (colWord q sTAU (SolverOp.of (sramOp q (P (op3 7 2 80 2 0 0 0)) 1 mk21)).col mk21)) = true)
  ∧ (mk22.chanter = some q ∧ running q mk22 = some (true, (A (op3 7 2 80 2 0 0 0)).2.1, 1) ∧
      (true = false → (mk22.arr q).waiting = true → 1 + 1 < hOps (A (op3 7 2 80 2 0 0 0)).2.1) ∧
      opCode (sramOp q (A (op3 7 2 80 2 0 0 0)).2.1 1 mk22) = 7 ∧
      decide ((srcWord q (SolverOp.of (sramOp q (A (op3 7 2 80 2 0 0 0)).2.1 1 mk22)).dst mk22).natAbs < BitVec.toNat (colWord q sTAU (SolverOp.of (sramOp q (A (op3 7 2 80 2 0 0 0)).2.1 1 mk22)).col mk22)) = false)
  ∧ (mk23.chanter = some q ∧ running q mk23 = some (false, E (op3 7 2 80 2 0 0 0), 1) ∧
      (false = false → (mk23.arr q).waiting = true → 1 + 1 < hOps (E (op3 7 2 80 2 0 0 0))) ∧
      opCode (sramOp q (E (op3 7 2 80 2 0 0 0)) 1 mk23) = 7 ∧
      decide ((srcWord q (SolverOp.of (sramOp q (E (op3 7 2 80 2 0 0 0)) 1 mk23)).dst mk23).natAbs < BitVec.toNat (colWord q sTAU (SolverOp.of (sramOp q (E (op3 7 2 80 2 0 0 0)) 1 mk23)).col mk23)) = false)
  ∧ (mk1.chanter = some q ∧
      (∀ (motion : Bool) (ws : List Word) (pc : ℕ), running q mk1 = some (motion, ws, pc) → opCode (sramOp q ws pc mk1) ≠ (Instr.cs, 8).2))
  ∧ (mk30.chanter = some q ∧ running q mk30 = some (true, ws30, 1) ∧
      (true = false → (mk30.arr q).waiting = true → 1 + 1 < hOps ws30) ∧ opCode (sramOp q ws30 1 mk30) = 17 ∧ (¬(true = true ∧
      ∃ j, mk30.job q = some j ∧ j.phase = JobPhase.body)))
  ∧ (mk31.chanter = some q ∧ running q mk31 = some (false, E (op3 18 2 0 0 0 0 0), 1) ∧
      (false = false → (mk31.arr q).waiting = true → 1 + 1 < hOps (E (op3 18 2 0 0 0 0 0))) ∧
      opCode (sramOp q (E (op3 18 2 0 0 0 0 0)) 1 mk31) = 18)
  ∧ (mk33.chanter = some q ∧ running q mk33 = some (false, E (op3 3 2 0 0 80 81 0), 1) ∧
      (false = false → (mk33.arr q).waiting = true → 1 + 1 < hOps (E (op3 3 2 0 0 80 81 0))) ∧
      opCode (sramOp q (E (op3 3 2 0 0 80 81 0)) 1 mk33) = 3 ∧ (2 ^ 79 + 16 = (if false = false ∧
      (mk33.arr q).estFresh = true then { sram := (mk33.arr q).sram, acc := [], t := false, s := false, mot := (mk33.arr q).mot, dyn := (mk33.arr q).dyn, newMot := (mk33.arr q).newMot, newDyn := (mk33.arr q).newDyn, job := (mk33.arr q).job, est := (mk33.arr q).est, estPc := (mk33.arr q).estPc, estFresh := false, waiting := (mk33.arr q).waiting } else mk33.arr q).a (SolverOp.of (sramOp q (E (op3 3 2 0 0 80 81 0)) 1 mk33)).acc - srcWord q (SolverOp.of (sramOp q (E (op3 3 2 0 0 80 81 0)) 1 mk33)).srcA mk33 * srcWord q (SolverOp.of (sramOp q (E (op3 3 2 0 0 80 81 0)) 1 mk33)).srcB mk33) ∧
      (2 ^ 79 + 16 < -2 ^ 79 ∨ 2 ^ 79 ≤ 2 ^ 79 + 16)) := by
  refine ⟨?_, ?_, ?_, ?_, ?_, ?_, ?_, ?_, ?_, ?_, ?_, ?_, ?_, ?_, ?_, ?_, ?_, ?_⟩ <;> first | decide +kernel | (and_intros <;> first | decide +kernel | exact nth_none (by decide +kernel) | exact none_ne (by decide +kernel) | exact none_ne2 (by decide +kernel) | exact none_all2 (by decide +kernel) | exact some_all3 (by decide +kernel) | exact .inl (by decide +kernel) | exact .inl (none_ne (by decide +kernel)) | exact .inr (.inr ⟨rfl, none_ne2 (by decide +kernel)⟩))

/-- The hypotheses of SolverJobsEnd can be met, clause by clause. -/
theorem witness_SolverJobsEnd :
    (i1.chanter = some q ∧ running q i1 = some (true, wsOf i1, 1) ∧ i1.job q = some (jOf i1) ∧ (jOf i1).keep.length ≤ 160 ∧
      opCode (sramOp q (wsOf i1) 1 i1) = 17 ∧ (jOf i1).phase = JobPhase.body ∧ (i1.arr q).t = true ∧ (i1.arr q).s = false ∧
      (jOf i1).k + 1 < (jOf i1).cap)
  ∧ (i1.chanter = some q ∧ i1.cyc.starts ≠ 0 ∧ (i1.arr q).waiting = false ∧ i1.job q = some (jOf i1) ∧ (jOf i1).keep.length ≤ 160 ∧
      ((jOf i1).phase = JobPhase.prologue ∧ (jOf i1).best = 0 ∨ (jOf i1).phase = JobPhase.body ∧ (jOf i1).best = 0))
  ∧ (i1c.chanter = some q ∧ running q i1c = some (true, wsOf i1c, 1) ∧ i1c.job q = some (jOf i1c) ∧ (jOf i1c).keep.length ≤ 160 ∧
      opCode (sramOp q (wsOf i1c) 1 i1c) = 17 ∧ (jOf i1c).phase = JobPhase.body ∧ (i1c.arr q).t = true ∧ (i1c.arr q).s = false ∧
      (jOf i1c).cap ≤ (jOf i1c).k + 1)
  ∧ (i1c.chanter = some q ∧ i1c.cyc.starts ≠ 0 ∧ (i1c.arr q).waiting = false ∧ i1c.job q = some (jOf i1c) ∧
      (jOf i1c).keep.length ≤ 160 ∧ (jOf i1c).phase = JobPhase.body ∧ (jOf i1c).best ≠ 0 ∧ (jOf i1c).first = true)
  ∧ (i2.chanter = some q ∧ running q i2 = some (true, wsOf i2, 1) ∧ i2.job q = some (jOf i2) ∧ (jOf i2).keep.length ≤ 160 ∧
      opCode (sramOp q (wsOf i2) 1 i2) = 17 ∧ (jOf i2).phase = JobPhase.body ∧ ((i2.arr q).t && !(i2.arr q).s) = false ∧
      (jOf i2).best = 0)
  ∧ (i2b.chanter = some q ∧ running q i2b = some (true, wsOf i2b, 1) ∧ i2b.job q = some (jOf i2b) ∧ (jOf i2b).keep.length ≤ 160 ∧
      opCode (sramOp q (wsOf i2b) 1 i2b) = 17 ∧ (jOf i2b).phase = JobPhase.body ∧ ((i2b.arr q).t && !(i2b.arr q).s) = false ∧
      (jOf i2b).best ≠ 0)
  ∧ (i2c.chanter = some q ∧ i2c.cyc.starts ≠ 0 ∧ (i2c.arr q).waiting = false ∧ i2c.job q = some (jOf i2c) ∧
      (jOf i2c).keep.length ≤ 160 ∧ (jOf i2c).phase = JobPhase.body ∧ (jOf i2c).best ≠ 0 ∧ (jOf i2c).first = false)
  ∧ (i3.chanter = some q ∧ running q i3 = some (true, wsOf i3, 1) ∧ i3.job q = some (jOf i3) ∧ (jOf i3).keep.length ≤ 160 ∧
      opCode (sramOp q (wsOf i3) 1 i3) = 18 ∧ (jOf i3).phase = JobPhase.dynamics ∧
      i3.isBad q ((pendBuf q i3 + (SolverOp.of (sramOp q (wsOf i3) 1 i3)).dst) / 2) = false ∧
      pendBuf q i3 + (SolverOp.of (sramOp q (wsOf i3) 1 i3)).dst < storeWords)
  ∧ (i3.chanter = some q ∧ i3.cyc.starts ≠ 0 ∧ (i3.arr q).waiting = false ∧ i3.job q = some (jOf i3) ∧ (jOf i3).keep.length ≤ 160 ∧
      ((jOf i3).phase = JobPhase.epilogue ∨ (jOf i3).phase = JobPhase.dynamics ∨ (jOf i3).phase = JobPhase.ended))
  ∧ (i3b.chanter = some q ∧ running q i3b = some (true, wsOf i3b, 1) ∧ i3b.job q = some (jOf i3b) ∧ (jOf i3b).keep.length ≤ 160 ∧
      opCode (sramOp q (wsOf i3b) 1 i3b) = 18 ∧ (jOf i3b).phase ≠ JobPhase.dynamics ∧
      (SolverOp.of (sramOp q (wsOf i3b) 1 i3b)).dst % 8 ≠ 5 ∧ (i3b.plane q).store.bad = [] ∧
      pendBuf q i3b + 8 * ((SolverOp.of (sramOp q (wsOf i3b) 1 i3b)).dst / 8) + 7 < storeWords)
  ∧ (i4.chanter = some q ∧ running q i4 = some (true, wsOf i4, 1) ∧ i4.job q = some (jOf i4) ∧ (jOf i4).keep.length ≤ 160 ∧
      opCode (sramOp q (wsOf i4) 1 i4) = 63 ∧ (jOf i4).phase = JobPhase.dynamics)
  ∧ (i5.chanter = some q ∧ running q i5 = some (true, wsOf i5, 1) ∧ i5.job q = some (jOf i5) ∧ (jOf i5).keep.length ≤ 160 ∧
      opCode (sramOp q (wsOf i5) 1 i5) = 63 ∧ (jOf i5).phase = JobPhase.epilogue)
  ∧ (i6.chanter = some q ∧ running q i6 = some (false, wsOf i6, 1) ∧ opCode (sramOp q (wsOf i6) 1 i6) = 63 ∧
      (i6.arr q).waiting = false)
  ∧ (i6.chanter = some q ∧ i6.cyc.starts ≠ 0 ∧ (i6.arr q).waiting = false ∧ i6.job q = none)
  ∧ (i7.chanter = some q ∧ running q i7 = some (false, wsOf i7, 1) ∧ opCode (sramOp q (wsOf i7) 1 i7) = 63 ∧
      (i7.arr q).waiting = true)
  ∧ (i7.chanter = some q ∧ i7.cyc.starts ≠ 0 ∧ (i7.arr q).waiting = true)
  ∧ (i8.chanter = some q ∧ running q i8 = some (false, wsOf i8, 1) ∧ opCode (sramOp q (wsOf i8) 1 i8) = 16 ∧
      (i8.arr q).waiting = true)
  ∧ (granted.chanter = some q ∧ granted.cyc.starts = 0) := by
  refine ⟨?_, ?_, ?_, ?_, ?_, ?_, ?_, ?_, ?_, ?_, ?_, ?_, ?_, ?_, ?_, ?_, ?_, ?_⟩ <;> decide +kernel

end Sys2Proof.Tests.W10
end

