-- ==== Sys2Proof/Tests/Slice0.lean ====
section
/-! SUPPORT. Tests of the model: well-formedness with an ill-formed command for each check, single commands on small states with
the values that the rules of the spec give, and the hypotheses that the witness files leave to proof. -/

open Sys2Proof Sys2Proof.Machine Sys2Proof.Tests

namespace Sys2Proof.Tests.Slice0

set_option Elab.async false
set_option maxRecDepth 100000

/-- The state after a command. -/
def after (c : Instr) (s : State) : State := getNext (exec c s)

/-! Well-formedness. -/

theorem test_wf_registerWrite_aligned : (Instr.registerWrite 4 0).wf = false := by decide
theorem test_wf_registerWrite_inside : (Instr.registerWrite 0x4000000 0).wf = false := by decide
theorem test_wf_writeLowHalf : (Instr.writeLowHalf 12 0).wf = false := by decide
theorem test_wf_writeHighHalf : (Instr.writeHighHalf 8 0).wf = false := by decide
theorem test_wf_bar0WriteTlp_empty : (Instr.bar0WriteTlp 8 []).wf = false := by decide
theorem test_wf_bar0WriteTlp_aligned : (Instr.bar0WriteTlp 2 [⟨0, 15⟩]).wf = false := by decide
theorem test_wf_bar0WriteTlp_inside : (Instr.bar0WriteTlp 0x3FFFFFC [⟨0, 15⟩, ⟨0, 15⟩]).wf = false := by decide
theorem test_wf_bar0WriteTlp_payload : (Instr.bar0WriteTlp 0 (List.replicate 129 ⟨0, 15⟩)).wf = false := by decide
theorem test_wf_bar0ReadTlp : (Instr.bar0ReadTlp 0 1025).wf = false := by decide
theorem test_wf_bar2Write : (Instr.bar2Write 0xFFFFFFFC [⟨0, 15⟩, ⟨0, 15⟩]).wf = false := by decide
theorem test_wf_bar2Read : (Instr.bar2Read 8 0).wf = false := by decide
theorem test_wf_bar2Read_aligned : (Instr.bar2Read 4 1).wf = false := by decide
theorem test_wf_timeBeacon : (Instr.timeBeacon [0, 37]).wf = false := by decide
theorem test_wf_beaconMissed : (Instr.beaconMissed 39).wf = false := by decide
theorem test_wf_obsIntake_federation : (Instr.obsIntake (.federation [])).wf = false := by decide
theorem test_wf_eventAssertion_empty : (Instr.eventAssertion []).wf = false := by decide
theorem test_wf_eventAssertion_repeat : (Instr.eventAssertion [3, 3]).wf = false := by decide
theorem test_wf_pcieLinkChange_gen : (Instr.pcieLinkChange true 6 1).wf = false := by decide
theorem test_wf_pcieLinkChange_width : (Instr.pcieLinkChange true 5 3).wf = false := by decide
theorem test_wf_unlockResp : (Instr.unlockResp [1]).wf = false := by decide
theorem test_wf_configurationWrite : (Instr.configurationWrite (.maxPayload 3)).wf = false := by decide

/-- A code that a command register gives a meaning is no reserved code. -/
theorem test_wf_reserved :
    [Instr.cycCmdReserved 2, .redCmdReserved 5, .planeCmdReserved .a 1, .queueCmdReserved 0 8, .slvCmdReserved 2, .estCmdReserved 5,
      .armCmdReserved 0 4, .pifCmdReserved 0 5, .cmpCmdReserved 0 3, .ssm2CmdReserved 1, .cbusCmdReserved 0 6, .ptpCmdReserved 0 1,
      .timCmdReserved 2, .schCmdReserved 1, .dmaCmdReserved 0 5, .fioCmdReserved 2, .doCmdReserved 0 1, .rdbCmdReserved .a 2,
      .secCmdReserved 8, .flashCmdReserved 3].all (fun c => !c.wf) = true := by decide

/-- Commands at the ends of their ranges are well formed. -/
theorem test_wf_accepts :
    [Instr.registerWrite 0x3FFFFF8 0, .writeHighHalf 0x3FFFFFC 0, .bar0ReadTlp 0x3FFF000 1024, .bar2Write 0xFFFFFFFC [⟨0, 15⟩],
      .bar2Read 0xFFFFFFF8 1, .cycCmdReserved 3, .secCmdReserved 9, .eventAssertion [0, 255], .pcieLinkChange false 0 0,
      .configurationWrite (.maxPayload 2), .beaconMissed 38].all Instr.wf = true := by decide

/-! The shape of the block. -/

/-- The table gives no row any bits. -/
theorem test_no_bits : decodeTableWord 0 0 = none ∧ decodeTableWord 32 7 = none := by decide

/-- The command at the front of the queue runs, and the one behind it waits. -/
theorem test_step_takes_the_front :
    (getNext (step { State.reset with pending := [.registerWrite (8 * R.RED_SWAP_PAT_LO) 5, .timeStep] })).pending = [.timeStep]
      ∧ (getNext (step { State.reset with pending := [.registerWrite (8 * R.RED_SWAP_PAT_LO) 5, .timeStep] })).rd .a R.RED_SWAP_PAT_LO
        = 5 := by decide +kernel

/-- An empty queue: the block idles. -/
theorem test_step_idles : step State.reset = .next State.reset := rfl

/-! Numbers. -/

/-- The digest of "abc" that FIPS 180-4 gives, its first bytes. -/
theorem test_sha : (sha512 [0x61#8, 0x62#8, 0x63#8]).take 4 = [0xdd#8, 0xaf#8, 0x35#8, 0xa1#8] := by decide +kernel

/-- Rounding half to even: 2.5 gives 2, 3.5 gives 4, −2.5 gives −2 (R2). -/
theorem test_half_to_even : rneShift 5 1 = 2 ∧ rneShift 7 1 = 4 ∧ rneShift (-5) 1 = -2 := by decide

/-- Saturation at the ends of the signed 36-bit range. -/
theorem test_sat36 : sat36 (2 ^ 35) = 2 ^ 35 - 1 ∧ sat36 (-2 ^ 35 - 1) = -2 ^ 35 ∧ sat36 7 = 7 := by decide

/-! Registers. -/

/-- A flag falls where a 1 is written, and stays where a 0 is (R14). -/
theorem test_write_one_to_clear :
    (after (.registerWrite (8 * R.RED_FLAGS) 0x0F0) (State.reset.wr .a R.RED_FLAGS 0x3FF)).rd .a R.RED_FLAGS = 0x30F := by
  decide +kernel

/-- A read-only register keeps its value (R14). -/
theorem test_read_only :
    (after (.registerWrite (8 * R.RED_EPOCH) 77) State.reset).rd .a R.RED_EPOCH = State.reset.rd .a R.RED_EPOCH := by decide +kernel

/-- The halves of a slot: the low half waits for the high half (R13). -/
theorem test_halves :
    (after (.writeLowHalf (8 * R.RED_SWAP_PAT_LO) 9) State.reset).rd .a R.RED_SWAP_PAT_LO = State.reset.rd .a R.RED_SWAP_PAT_LO
      ∧ (after (.writeHighHalf (8 * R.RED_SWAP_PAT_LO + 4) 0) (after (.writeLowHalf (8 * R.RED_SWAP_PAT_LO) 9) State.reset)).rd .a
          R.RED_SWAP_PAT_LO = 9 := by decide +kernel

/-! The store. -/

/-- A pair written reads as written; the pair beside it reads as before (R402). -/
theorem test_store_pair :
    (after (.storePairWrite .a 5 6 7) State.reset).sw .a 10 = 6 ∧ (after (.storePairWrite .a 5 6 7) State.reset).sw .a 11 = 7
      ∧ (after (.storePairWrite .a 5 6 7) State.reset).sw .a 12 = 0 ∧ (after (.storePairWrite .a 5 6 7) State.reset).sw .b 10 = 0 := by
  decide +kernel

/-! Redundancy. -/

/-- The reset pattern names plane A in even periods and plane B in odd ones (R379). -/
theorem test_schedule : scheduled 0 State.reset = .a ∧ scheduled 1 State.reset = .b ∧ scheduled 63 State.reset = .b := by
  decide +kernel

/-! The solver: accumulator 2 holds 50, word 0x50 holds 7 and word 0x51 holds −3. -/

/-- 50 + 7 · (−3) = 29 (R153). -/
theorem test_mac : ((after .mac (W10.withOp (op3 2 2 0 0 0x50 0x51 0))).arr .a).a 2 = 29 := by decide +kernel

/-- 50 − 7 · (−3) = 71 (R153). -/
theorem test_msu : ((after .msu (W10.withOp (op3 3 2 0 0 0x50 0x51 0))).arr .a).a 2 = 71 := by decide +kernel

/-- 50 / 2² = 12.5, which rounds to the even 12 (R153, R155). -/
theorem test_arnd : (after .arnd (W10.withOp (op3 5 2 0x60 0 0 0 2))).sram .a 0x60 = 12 := by decide +kernel

/-- The root of 7 · 2⁴ is 10.58, which rounds to 11 (R156). -/
theorem test_sqrt : (after .sqrt (W10.withOp (op3 9 2 0x60 0 0x50 0 4))).sram .a 0x60 = 11 := by decide +kernel

/-- 7 − (−3) = 10 (R153). -/
theorem test_sub : (after .sub (W10.withOp (op3 12 2 0x60 0 0x50 0x51 4))).sram .a 0x60 = 10 := by decide +kernel

/-! Hypotheses that the witness files leave open. -/

/-- FlagsCountTheirOccurrences: banks of both kinds, with an enabled event whose plane has the grant. -/
theorem witness_FlagsCountTheirOccurrences :
    (9 < 36 ∧ bBOOT.flags ≠ bBOOT.cnt + 9 / 4 ∧ isDev bBOOT.flags = isDev (bBOOT.cnt + 9 / 4))
      ∧ ((bPQ 3).flags ≠ (bPQ 3).cnt + 9 / 4 ∧ isDev (bPQ 3).flags = isDev ((bPQ 3).cnt + 9 / 4)
        ∧ (∀ m, (bPQ 3).mask = some m → m ≠ (bPQ 3).flags ∧ m ≠ (bPQ 3).cnt + 9 / 4) ∧ (bPQ 3).flags ≠ R.RED_STATUS
        ∧ (bPQ 3).cnt + 9 / 4 ≠ R.RED_STATUS ∧ (isDev (bPQ 3).flags = true ∨ granted.chanter = some .a)) := by
  refine ⟨by decide +kernel, by decide +kernel, by decide +kernel, ?_, by decide +kernel, by decide +kernel, by decide +kernel⟩
  intro m h
  cases h
  decide +kernel

/-- A domain in its deepest state that wakes itself: the invariant's case where something must be kept. -/
def asleep : State :=
  let s := State.reset.dp (R.BEL_DOM_STATUS 9) F.BEL_DOM_STATUS_STATE 2
  { s with bel := { s.bel with wake := s.bel.wake.set 9 (some 77) } }

/-- EveryStepKeepsTheFloors: reset meets the invariant, and so does a state with a sleeping domain that wakes itself. -/
theorem witness_EveryStepKeepsTheFloors : FloorsKept State.reset ∧ FloorsKept asleep := by
  constructor <;> (intro d hd; revert d; decide +kernel)

/-- A step from that state answers a next state. -/
theorem witness_EveryStepKeepsTheFloors_next : step asleep = .next asleep := rfl

/-- ApplyChecksTheConfiguration: a channel closes its position loop. -/
theorem witness_ApplyChecksTheConfiguration_closed :
    (granted.put .a (R.CLE_CH_STATUS 0) F.CLE_CH_STATUS_MODE 3).anyClosed = true := by decide +kernel

end Sys2Proof.Tests.Slice0
end

