-- ==== Sys2Proof/Tests/Witness1.lean ====
section
/-! SUPPORT. Witnesses, part 1: states and operands that meet the hypotheses of each clause of a statement together. -/

open Sys2Proof Sys2Proof.Machine Sys2Proof.Tests

namespace Sys2Proof.Tests.W1

set_option Elab.async false
set_option linter.all false
set_option maxRecDepth 100000

def s0 := State.reset
def closed1 : State := (ready.put .a (R.CLE_CH_STATUS 0) F.CLE_CH_STATUS_MODE 3)
def snapS : State := (s0.put .a R.RDB_SNAP_CFG F.RDB_SNAP_CFG_MASK 0x200)
def job1 : State := withBoot ready (fun b => { b with job := some (.attest [1,2,3]) })
def man0 : Manifest := ⟨5, 0, true, true, []⟩
def readyM : State := withBoot ready (fun b => { b with man := some man0 })
def mk1 := (withBoot ready (fun b => { b with job := some (.rollback 5) }))
def mk2 := (withBoot ready (fun b => { b with job := some (.provision 2 [7] true) }))
def mk3 := (withBoot ready (fun b => { b with job := some (.revoke 3) }))
def fl : FlashCmd := ⟨1, 0, 0, []⟩
def fl2 : FlashCmd := ⟨2, 0, 0, []⟩
def mk4 := (withBoot ready (fun b => { b with flash := some fl }))
def mk5 := (withBoot ready (fun b => { b with flash := some fl2 }))
def scan : State := ready.dp R.SEC_STATUS F.SEC_STATUS_DEBUG 2
def mk7 := { scan with ssm2 := { scan.ssm2 with permit := true } }
def mk8 := (withBoot scan fun b => { b with chal := some [1]})
def pOn : PowerOn := ⟨.fast, .slow, true, true, [], 0, false, []⟩
def mk9 := (withBoot ((s0.dp R.BOOT_SEL F.BOOT_SEL_TRY_VALID 1).dp R.BOOT_SEL F.BOOT_SEL_TRY_BANK 1) fun b => { b with vbatLost := true })
def pNo0 : PowerOn := { pOn with flash0 := .none, refclkSel := true, railB := false, lanes := [⟨.portA, 0, 0, 1⟩] }
def pNone : PowerOn := { pOn with flash0 := .none, flash1 := .none }
def readyUp : State := withBoot ready fun b => { b with up := true }
def hotS : State := withBoot s0 fun b => { b with hot := true }
def st7 : State := { (setStage 7 (withBoot (granted.dp R.TIM_CYC_STATUS F.TIM_CYC_STATUS_STATE 1) fun b => { b with graphDone := true, loaded1 := true, loaded2 := true, up := true })) with cyc := { s0.cyc with starts := 1 }, tab := { Tables.initial with tol := [5, 6, 7] } }
def mk10 := (withBoot (staged 1) fun b => {b with tried := [0,1]})
def mk11 := (withBoot (staged 1) fun b => {b with tried := [0], found := pOn})
def mk11b := (withBoot (staged 1) fun b => {b with tried := [0], found := pNone})
def sec7 : ImgSection := ⟨7, 4096, 0, 0, 0, []⟩
def sec3 : ImgSection := ⟨3, 4096, 36, 8, 16, []⟩
def st2 (x : ImgSection) (n : Nat) : State := withBoot (staged n) fun b => {b with man := some ⟨1,0,true,true,[x]⟩, tried := [1, 0], railA := true}
def st2n : State := withBoot (st2 sec7 2) fun b => {b with railA := false}
def bs5 : List Byte := List.replicate 36 5
def bs6 : List Byte := List.replicate 36 6
def sec6 : ImgSection := {sec3 with ty := 6}
def st2t (x : ImgSection) (n : Nat) (p : PowerOn) : State := withBoot (st2 x n) fun b => {b with tried := [0], found := p}

/-- The hypotheses of DeviceResetClearsAllButField can be met, clause by clause. -/
theorem witness_DeviceResetClearsAllButField :
    (s0.anyClosed = false)
  ∧ (closed1.anyClosed = true) := by
  refine ⟨?_, ?_⟩ <;> decide +kernel

/-- The hypotheses of SnapshotCommands can be met, clause by clause. -/
theorem witness_SnapshotCommands :
    ((3 : Nat) ≤ 3)
  ∧ (snapS.get Plane.a R.RDB_STATUS F.RDB_STATUS_STATE = 0 ∧ snapBlocks Plane.a snapS ≠ [] ∧
      snapWords (snapBlocks Plane.a snapS) ≤ 65536 ∧ snapS.get Plane.a R.RDB_SNAP_DST F.RDB_SNAP_DST_ADDR = 0)
  ∧ ((snapS.put Plane.a R.RDB_STATUS F.RDB_STATUS_STATE 2).get Plane.a R.RDB_STATUS F.RDB_STATUS_STATE = 2 ∧
      (snapS.put Plane.a R.RDB_STATUS F.RDB_STATUS_STATE 2).get Plane.a R.RDB_SNAP_DST F.RDB_SNAP_DST_ADDR = 0) := by
  refine ⟨?_, ?_, ?_⟩
  · decide +kernel
  · refine ⟨by decide +kernel, by decide +kernel, ?_, by decide +kernel⟩
    have h := blockSlots_xlk_le
    rw [show snapBlocks Plane.a snapS = [10] by decide +kernel]
    generalize hb : blockSlots 10 = l at h
    unfold snapWords
    rw [List.map_cons, List.map_nil, List.sum_cons, List.sum_nil, hb]
    omega
  · decide +kernel

/-- The hypotheses of PostsToDormantThreadsAreDiscarded can be met, clause by clause. -/
theorem witness_PostsToDormantThreadsAreDiscarded :
    granted.chanter = some Plane.a ∧ thrState Plane.a 3 granted = 0 := by
  decide +kernel

/-- The hypotheses of ProducersAreNamedBySrc can be met, clause by clause. -/
theorem witness_ProducersAreNamedBySrc :
    (granted.chanter = some Plane.a ∧
      ((5 + 2 ^ 32 - granted.get Plane.a (R.PLN_Q_WR 2) F.PLN_Q_WR_COUNT) % 2 ^ 32 ≤ 2 ^ (granted.arm Plane.a 2).size ∧
      (5 + 2 ^ 32 - granted.get Plane.a (R.PLN_Q_FETCH 2) F.PLN_Q_FETCH_COUNT) % 2 ^ 32 ≤ 2 ^ (granted.arm Plane.a 2).size))
  ∧ (granted.chanter = some Plane.a)
  ∧ (granted.chanter = some Plane.a ∧
      (¬((4294967295 + 2 ^ 32 - granted.get Plane.a (R.PLN_Q_WR 2) F.PLN_Q_WR_COUNT) % 2 ^ 32 ≤ 2 ^ (granted.arm Plane.a 2).size ∧
      (4294967295 + 2 ^ 32 - granted.get Plane.a (R.PLN_Q_FETCH 2) F.PLN_Q_FETCH_COUNT) % 2 ^ 32 ≤ 2 ^ (granted.arm Plane.a 2).size))) := by
  refine ⟨?_, ?_, ?_⟩ <;> decide +kernel

/-- The hypotheses of SecCommandsRun can be met, clause by clause. -/
theorem witness_SecCommandsRun :
    (s0.boot.job = none)
  ∧ (s0.boot.job = none ∧ s0.isReady = false)
  ∧ (s0.isReady = false)
  ∧ ((9 : Nat) ≤ 12)
  ∧ (0 < 9)
  ∧ (ready.boot.job = none ∧ ready.isReady = true ∧ otpCheck 2 0 ready ≠ 0)
  ∧ (ready.boot.job = none ∧ ready.isReady = true ∧ otpCheck 3 0 ready ≠ 0)
  ∧ (ready.boot.job = none ∧ ready.isReady = true ∧ otpCheck 4 0 ready ≠ 0)
  ∧ (job1.isReady = true)
  ∧ (readyM.boot.job = none ∧ readyM.isReady = true ∧ otpCheck 2 0 readyM = 0)
  ∧ (readyM.boot.job = none ∧ readyM.isReady = true ∧ otpCheck 3 3 readyM = 0)
  ∧ (job1.boot.job.isSome = true)
  ∧ (job1.boot.job = some (SecJob.attest [1, 2, 3]))
  ∧ ((∀ (nonce : List Byte), s0.boot.job ≠ some (SecJob.attest nonce)))
  ∧ ((s0.boot.job = none ∨ ∃ nonce, s0.boot.job = some (SecJob.attest nonce)))
  ∧ (mk1.boot.job = some (SecJob.rollback 5))
  ∧ (mk2.boot.job = some (SecJob.provision 2 [7] true))
  ∧ (mk3.boot.job = some (SecJob.revoke 3))
  ∧ ((readyM.dp R.SEC_OTP F.SEC_OTP_PROV 7).boot.job = none ∧ (readyM.dp R.SEC_OTP F.SEC_OTP_PROV 7).isReady = true ∧
      otpCheck 4 2 (readyM.dp R.SEC_OTP F.SEC_OTP_PROV 7) = 0) := by
  refine ⟨?_, ?_, ?_, ?_, ?_, ?_, ?_, ?_, ?_, ?_, ?_, ?_, ?_, ?_, ?_, ?_, ?_, ?_, ?_⟩ <;> first | decide +kernel | (and_intros <;> first | decide +kernel | exact nth_none (by decide +kernel) | exact none_ne (by decide +kernel) | exact none_ne2 (by decide +kernel) | exact none_all2 (by decide +kernel) | exact some_all3 (by decide +kernel) | exact .inl (by decide +kernel) | exact .inl (none_ne (by decide +kernel)) | exact .inr (.inr ⟨rfl, none_ne2 (by decide +kernel)⟩))

/-- The hypotheses of FlashCommandsRun can be met, clause by clause. -/
theorem witness_FlashCommandsRun :
    ((s0.boot.flash.isSome = true ∨ s0.isReady = false ∧ bootStage s0 ≠ 9))
  ∧ ((¬(bootStage s0 = 9 ∨ s0.dg R.BOOT_FLASH_ADDR F.BOOT_FLASH_ADDR_BANK ≠ s0.dg R.BOOT_STATUS F.BOOT_STATUS_BANK)))
  ∧ ((4 : Nat) ≤ 12)
  ∧ (0 < 4)
  ∧ ((ready.boot.flash = none ∧ (ready.isReady = true ∨ bootStage ready = 9)))
  ∧ (((staged 9).boot.flash = none ∧ ((staged 9).isReady = true ∨ bootStage (staged 9) = 9)) ∧
      (bootStage (staged 9) = 9 ∨ (staged 9).dg R.BOOT_FLASH_ADDR F.BOOT_FLASH_ADDR_BANK ≠ (staged 9).dg R.BOOT_STATUS F.BOOT_STATUS_BANK) ∧
      (staged 9).dg R.BOOT_FLASH_ADDR F.BOOT_FLASH_ADDR_ADDR % 256 = 0)
  ∧ (((staged 9).boot.flash = none ∧ ((staged 9).isReady = true ∨ bootStage (staged 9) = 9)) ∧
      (bootStage (staged 9) = 9 ∨ (staged 9).dg R.BOOT_FLASH_ADDR F.BOOT_FLASH_ADDR_BANK ≠ (staged 9).dg R.BOOT_STATUS F.BOOT_STATUS_BANK))
  ∧ ((ready.dp R.BOOT_FLASH_ADDR F.BOOT_FLASH_ADDR_ADDR 4).dg R.BOOT_FLASH_ADDR F.BOOT_FLASH_ADDR_ADDR % 256 ≠ 0)
  ∧ (s0.boot.flash = none)
  ∧ (mk4.boot.flash = some fl)
  ∧ (mk4.boot.flash = some fl ∧ fl.code = 1)
  ∧ (mk5.boot.flash = some fl2 ∧ fl2.code ≠ 1) := by
  refine ⟨?_, ?_, ?_, ?_, ?_, ?_, ?_, ?_, ?_, ?_, ?_, ?_⟩ <;> decide +kernel

/-- The hypotheses of JtagObeysTheDebugLevel can be met, clause by clause. -/
theorem witness_JtagObeysTheDebugLevel :
    ((debugLevel s0 ≠ 2 ∨ s0.anyClosed = true))
  ∧ (debugLevel s0 = 0)
  ∧ (3 ≤ (s0.dp R.SEC_STATUS F.SEC_STATUS_UNLOCK_FAILS 3).dg R.SEC_STATUS F.SEC_STATUS_UNLOCK_FAILS)
  ∧ (debugLevel mk7 = 2 ∧ mk7.anyClosed = false)
  ∧ (debugLevel mk7 ≠ 0)
  ∧ (mk8.dg R.SEC_STATUS F.SEC_STATUS_UNLOCK_FAILS < 3) := by
  refine ⟨?_, ?_, ?_, ?_, ?_, ?_⟩ <;> decide +kernel

/-- The hypotheses of BootStartsAndEnds can be met, clause by clause. -/
theorem witness_BootStartsAndEnds :
    (s0.boot.up = false ∧ s0.boot.hot = false)
  ∧ ((hotS.boot.up = true ∨ hotS.boot.hot = true))
  ∧ (bootStage st7 = 7 ∧ readyNow st7 = true)
  ∧ (st7.boot.up = true ∧ bootStage st7 < 8)
  ∧ ((bootStage s0 ≠ 7 ∨ readyNow s0 = false))
  ∧ ((s0.boot.up = false ∨ 8 ≤ bootStage s0)) := by
  refine ⟨?_, ?_, ?_, ?_, ?_, ?_⟩ <;> decide +kernel

/-- The hypotheses of ImagesAreVerified can be met, clause by clause. -/
theorem witness_ImagesAreVerified :
    (bootStage mk10 = 1)
  ∧ (bootStage (staged 2) ≠ 1)
  ∧ (sectionOf 7 st2n = some sec7 ∧ bootStage st2n = 2)
  ∧ ((sectionOf 7 (st2 sec3 2) = none ∨ bootStage (st2 sec3 2) ≠ 2))
  ∧ (nextSection (st2 sec3 4) = some sec3 ∧ 3 ≤ bootStage (st2 sec3 4) ∧ bootStage (st2 sec3 4) ≤ 5 ∧ sec3.ty ≤ 8)
  ∧ ((nextSection (st2 sec3 2) = none ∨ bootStage (st2 sec3 2) < 3 ∨ 5 < bootStage (st2 sec3 2))) := by
  refine ⟨?_, ?_, ?_, ?_, ?_, ?_⟩ <;> decide +kernel

end Sys2Proof.Tests.W1
end

