-- ==== Sys2Proof/Tests/Witness11.lean ====
section
/-! SUPPORT. Witnesses, part 11: states and operands that meet the hypotheses of each clause of a statement together. -/

open Sys2Proof Sys2Proof.Machine Sys2Proof.Tests

namespace Sys2Proof.Tests.W11

set_option Elab.async false
set_option linter.all false
set_option maxRecDepth 100000

def q := Plane.a
def idj : SlvJob := ⟨.body, 0, 0, 3, 0, [], true, 0, [], [], false, false, []⟩
/-- job with one op at hand -/
def withOp (o : List Word) (phase : JobPhase := .body) (secs : List (Nat × Nat × List Word) := []) (k best : Nat := 0) : State :=
  let ws := mkPrick 1 4 4 2 [o, o] [o, op3 17 0 0 0 0 0 0] [op3 63 0 0 0 0 0 0, o] secs
  let s := { granted with now := 1000, cyc := { granted.cyc with starts := 4, tick := 0 } }
  let s := s.setArr q { s.arr q with mot := some ⟨ws, 1⟩, dyn := (if phase = .dynamics then some ⟨ws, 1⟩ else none), job := some { idj with phase := phase, pc := 1, k := k, best := best }, acc := [(2, 50)] }
  setSram q ((o.zipIdx.map fun e => (0x1003 + e.2, e.1)) ++ [(0x50, w36 7), (0x51, w36 (2^36 - 3))]) s
def est (s : State) : State := s.setArr q { s.arr q with est := (s.arr q).mot, estPc := 1, job := none }
def A (o : List Word) : Bool × List Word × Nat := match running q (withOp o) with | some x => x | none => (false, [], 0)
def place (a : Nat) (ws : List Word) (s : State) : State := (ws.zipIdx).foldl (fun s e => s.sput .a (a + e.2) e.1) s
def secs1 : List (Nat × Nat × List Word) := [(1, 0, [0,1,2,3]), (2, 0, [0,0,0,0]), (3,0,[0,0,0,0]), (4,0,[0,0,0,0]), (5,0,[0,0,0,0]), (6,0,[0,0,0,0]), (10,0,[])]
def mot1 : List Word := mkPrick 1 4 4 2 [op3 0 0 0 0 0 0 0] [op3 17 0 0 0 0 0 0] [op3 63 0 0 0 0 0 0] secs1
def dyn1 : List Word := mkPrick 2 4 4 0 [op3 0 0 0 0 0 0 0, op3 63 0 0 0 0 0 0] [] [] []
def ax : AxisTab := ⟨false, 0, 0x1000, 5, 5, 5⟩
def ready1 (ws : List Word) : State :=
  let s := place 0x1000 ws { granted with tab := { granted.tab with aux := [some ax, some ax, some ax, some ax] }, cyc := { granted.cyc with starts := 4 } }
  let s := (s.put .a (R.PLANE_REPL_BASE 0) F.PLANE_REPL_BASE_ADDR 1).put .a (R.PLANE_REPL_SIZE 0) F.PLANE_REPL_SIZE_WORDS 4096
  (s.setRep .a { s.rep .a with act := (s.rep .a).regs }).wr .a R.SLV_ARG 0x1000
def first (s : State) : State := { s with cyc := { s.cyc with starts := 0 } }
def r2 : State := setPlaneState .b 5 (first (ready1 mot1))
def both : State :=
  let s := first (ready1 mot1)
  let s := (mot1.zipIdx).foldl (fun s e => s.sput .b (0x1000 + e.2) e.1.toNat) (setPlaneState .b 2 s)
  s.setWard .b { s.ward .b with inReset := false }
def mk1 := (withOp (op3 1 2 0 0 0 0 0))

/-- The hypotheses of PrickingsAreActivated can be met, clause by clause. -/
theorem witness_PrickingsAreActivated :
    ((ready1 mot1).chanter = some q ∧ ((ready1 mot1).plane q).store.bad = [] ∧
      activateCheck q (BitVec.toNat ((ready1 mot1).rd q R.SLV_ARG)) ((ready1 mot1).put q R.SLV_CMD F.SLV_CMD_CODE 1) = 0 ∧
      (ready1 mot1).cyc.starts ≠ 0 ∧ hKind (prickAt q (BitVec.toNat ((ready1 mot1).rd q R.SLV_ARG)) (ready1 mot1)) ≠ 2)
  ∧ (r2.chanter = some q ∧ (r2.plane q).store.bad = [])
  ∧ (r2.chanter = some q ∧ (r2.plane q).store.bad = [] ∧ (3 : Nat) ≤ 3)
  ∧ ((ready1 dyn1).chanter = some q ∧ ((ready1 dyn1).plane q).store.bad = [] ∧
      activateCheck q (BitVec.toNat ((ready1 dyn1).rd q R.SLV_ARG)) ((ready1 dyn1).put q R.SLV_CMD F.SLV_CMD_CODE 1) = 0 ∧
      (ready1 dyn1).cyc.starts ≠ 0 ∧ hKind (prickAt q (BitVec.toNat ((ready1 dyn1).rd q R.SLV_ARG)) (ready1 dyn1)) = 2)
  ∧ (r2.chanter = some q ∧ (r2.plane q).store.bad = [] ∧
      activateCheck q (BitVec.toNat (r2.rd q R.SLV_ARG)) (r2.put q R.SLV_CMD F.SLV_CMD_CODE 1) = 0 ∧ r2.cyc.starts = 0 ∧
      hKind (prickAt q (BitVec.toNat (r2.rd q R.SLV_ARG)) r2) ≠ 2 ∧ (planeState q.other r2 = 5 ∨ (r2.ward q.other).inReset = false ∧
      prickAt q.other (BitVec.toNat (r2.rd q R.SLV_ARG)) r2 = prickAt q (BitVec.toNat (r2.rd q R.SLV_ARG)) r2))
  ∧ (mk1.chanter = some q ∧ (mk1.plane q).store.bad = [] ∧
      activateCheck q (BitVec.toNat (mk1.rd q R.SLV_ARG)) (mk1.put q R.SLV_CMD F.SLV_CMD_CODE 1) ≠ 0 ∧
      activateCheck q (BitVec.toNat (mk1.rd q R.SLV_ARG)) (mk1.put q R.SLV_CMD F.SLV_CMD_CODE 1) < 16) := by
  refine ⟨?_, ?_, ?_, ?_, ?_, ?_⟩ <;> decide +kernel

end Sys2Proof.Tests.W11
end

