-- ==== Sys2Proof/Tests/Witness12.lean ====
section
/-! SUPPORT. Witnesses, part 12: states and operands that meet the hypotheses of each clause of a statement together. -/

open Sys2Proof Sys2Proof.Machine Sys2Proof.Tests

namespace Sys2Proof.Tests.W12

set_option Elab.async false
set_option linter.all false
set_option maxRecDepth 100000

def q := Plane.a
def place (a : Nat) (ws : List Word) (s : State) : State := (ws.zipIdx).foldl (fun s e => s.sput .a (a + e.2) e.1) s
def est1 : List Word := mkPrick 3 1 4 0 [op3 0 0 0 0 0 0 0, op3 63 0 0 0 0 0 0] [] [] [] 0x280000
def desc0 : List Word := [w36 (2 <<< 28 ||| 1 <<< 20 ||| 1 <<< 16 ||| 77), w36 0x2000, w36 0x3000, w36 0x3100, w36 (1 <<< 22), w36 0x3200, w36 2, w36 0x3800, 0,0,0,0,0,0,0,0,0,0,0]
def desc : List Word := desc0 ++ [BitVec.ofNat 36 (crc32 desc0)]
def rec1 : List Word := [w36 (1 <<< 32 ||| 1 <<< 25)] ++ List.replicate 23 0
def rec2 : List Word := [w36 (1 <<< 32 ||| 2 <<< 25)] ++ List.replicate 23 0
def jb : State :=
  let s := place 0x2000 est1 (place 0x1100 desc (place 0x3200 (rec1 ++ rec2) { granted with cyc := { granted.cyc with starts := 4 } }))
  let s := place 0x3006 [0] (s.sput .a 0x3001 0)
  let s := place 0x1000 [w36 0x1100] s
  let s := (s.put .a (R.PLANE_REPL_BASE 0) F.PLANE_REPL_BASE_ADDR 1).put .a (R.PLANE_REPL_SIZE 0) F.PLANE_REPL_SIZE_WORDS 0x4000
  let s := ((s.wr .a R.EST_SUB_BASE 0x1000).put .a R.EST_SUB_WR F.EST_SUB_WR_COUNT 1)
  (s.setRep .a { s.rep .a with act := (s.rep .a).regs })
def jb2 : State := jb.sput .a 0x1105 7
def jb3 : State := jb.put .a R.EST_OBS_WR F.EST_OBS_WR_COUNT 5
def nxt (f : State → Host.Outcome State Fault Refusal) (s : State) : State := getNext (f s)
def ld : State := getNext (execJobLoad jb)
def ldz : State := ld.setEst q { ld.est q with f := 0 }
def ldb : State := ld.setEst q { ld.est q with f := 10^9 }
def chkg : State := getNext (execEstTimeout ld)
def chk1 : State := chkg.setEst q { chkg.est q with status := 1 }
def chk2 : State := chk1.put .a R.EST_JOB F.EST_JOB_ACCEPTED 1
def norec : State := place 0x3200 [0] (place 0x3218 [0] ld)
def ring (s : State) : State :=
  let s := ((s.put .a R.EST_OBS_CFG F.EST_OBS_CFG_SIZE_LOG2 8).put .a R.EST_OBS_WR F.EST_OBS_WR_COUNT 257).wr .a R.EST_OBS_BASE 0x4000
  s
def descr : List Word := (desc0.take 5) ++ [0, w36 (1 <<< 35 ||| 2)] ++ desc0.drop 7
def ringOf (x : State) (d : List Word) : State := (ring x).setEst q { ((ring x).est q) with job := some d }
def ringl : State := ringOf ld descr
def ringc : State := ringOf chkg descr
def oneUp : State :=
  let s := granted.setWard .a { granted.ward .a with inReset := false }
  let s := s.setWard .b { s.ward .b with inReset := true }
  let s := (s.put .a R.EST_OBS_CFG F.EST_OBS_CFG_SIZE_LOG2 8).put .a R.EST_OBS_WR F.EST_OBS_WR_COUNT 257
  s.wr .a R.EST_OBS_BASE 0x4000
def fedrec : List Word := (List.range 24).map fun i => w36 (i + 5)
def ax : AxisTab := ⟨false, 0, 0x1000, 5, 5, 5⟩
def arm0 : ArmTab := ⟨[ax, ax], [130], [], [], [], [], [], [], [], poseId, poseId, poseId, 0⟩
def strec : List Word := [w36 (1 <<< 32 ||| 1 <<< 24), 5, 1 <<< 20, 0, 0, 0, 7]
def strec2 : List Word := [w36 (1 <<< 32), 5, 1 <<< 20, 0, 0, 0, 7]
def armed : State := { oneUp with tab := { oneUp.tab with arms := [arm0], obsAt := [0x800, 0x807] }, cyc := { oneUp.cyc with starts := 7, tick := 9 } }
def fedOff : State := { armed with links := armed.links.set (portLink q).num ⟨0, true⟩ }
def stns : State := place (armed.cbus.imgBase + 0x800) (strec ++ strec2) armed
def edged : State := armed.setIntake q { (armed.intake q) with edges := [(0, strec), (1, strec2), (7, [w36 (1 <<< 32), 5, 1 <<< 20, 0, 0, 0, 0])] }
def noring : State := armed.wr .a R.EST_OBS_CFG 0
def wtg : State := armed.setIntake q { (armed.intake q) with waiting := [⟨strec, 5, 3⟩], history := [] }
def wtg0 : State := wtg.setIntake q { (wtg.intake q) with waiting := [⟨strec, 5, 9⟩] }
def wtg2 : State := armed.setIntake q { (armed.intake q) with waiting := [⟨strec, 5, 3⟩], history := [⟨3, 0, List.replicate 160 (5, true)⟩, ⟨4, 250000000, List.replicate 160 (9, true)⟩] }
def u4 : State := (match resolveRecord q ⟨strec, 5, 3⟩ wtg2 with | some u => u | none => granted)
def wtg3 : State := armed.setIntake q { (armed.intake q) with waiting := [⟨strec, 5, 3⟩, ⟨strec, 9, 3⟩], history := [⟨3, 0, List.replicate 160 (5, false)⟩, ⟨4, 250000000, List.replicate 160 (9, true)⟩] }
def u5 : State := (match resolveRecord q ⟨strec, 5, 3⟩ wtg3 with | some u => u | none => granted)

/-- The hypotheses of EstimationRuns can be met, clause by clause. -/
theorem witness_EstimationRuns :
    (jb.chanter = some q ∧ (jb.plane q).store.bad = [] ∧ estState q jb = 0 ∧ 1 ≤ jb.get q R.EST_SUB_CFG F.EST_SUB_CFG_SIZE_LOG2 ∧
      jb.get q R.EST_SUB_CFG F.EST_SUB_CFG_SIZE_LOG2 ≤ 6 ∧
      jb.get q R.EST_SUB_RD F.EST_SUB_RD_COUNT ≠ jb.get q R.EST_SUB_WR F.EST_SUB_WR_COUNT)
  ∧ (jb.chanter = some q ∧ (jb.plane q).store.bad = [] ∧
      (3 + 2 ^ 32 - jb.get q R.EST_SUB_WR F.EST_SUB_WR_COUNT) % 2 ^ 32 ≤ 2 ^ jb.get q R.EST_SUB_CFG F.EST_SUB_CFG_SIZE_LOG2 ∧
      (3 + 2 ^ 32 - jb.get q R.EST_SUB_RD F.EST_SUB_RD_COUNT) % 2 ^ 32 ≤ 2 ^ jb.get q R.EST_SUB_CFG F.EST_SUB_CFG_SIZE_LOG2)
  ∧ (jb.chanter = some q ∧ (jb.plane q).store.bad = [] ∧
      (2 ^ jb.get q R.EST_SUB_CFG F.EST_SUB_CFG_SIZE_LOG2 < (0 + 2 ^ 32 - jb.get q R.EST_SUB_WR F.EST_SUB_WR_COUNT) % 2 ^ 32 ∨ 2 ^ jb.get q R.EST_SUB_CFG F.EST_SUB_CFG_SIZE_LOG2 < (0 + 2 ^ 32 - jb.get q R.EST_SUB_RD F.EST_SUB_RD_COUNT) % 2 ^ 32))
  ∧ (jb.chanter = some q ∧ (jb.plane q).store.bad = [] ∧ ((jb.est q).job = none ∨ estState q jb ≠ 2))
  ∧ (jb.chanter = some q ∧ (jb.plane q).store.bad = [] ∧ ((jb.est q).job = none ∨ estState q jb ≠ 3))
  ∧ (jb.chanter = some q ∧ (jb.plane q).store.bad = [])
  ∧ (jb.chanter = some q ∧ (jb.plane q).store.bad = [] ∧ (6 : Nat) ≤ 12)
  ∧ (ld.chanter = some q ∧ (ld.plane q).store.bad = [] ∧
      (estState q ld ≠ 0 ∨ ld.get q R.EST_SUB_CFG F.EST_SUB_CFG_SIZE_LOG2 = 0 ∨ ld.get q R.EST_SUB_CFG F.EST_SUB_CFG_SIZE_LOG2 = 7 ∨ ld.get q R.EST_SUB_RD F.EST_SUB_RD_COUNT = ld.get q R.EST_SUB_WR F.EST_SUB_WR_COUNT))
  ∧ (ld.chanter = some q ∧ (ld.plane q).store.bad = [] ∧ (ld.est q).job = some desc ∧ estState q ld = 2 ∧
      overrun q desc ld = false ∧ validRecords q desc ld ≠ [])
  ∧ (ld.chanter = some q ∧ (ld.plane q).store.bad = [] ∧ (ld.est q).job = some desc ∧ estState q ld = 2)
  ∧ (chkg.chanter = some q ∧ (chkg.plane q).store.bad = [] ∧ (chkg.est q).job = some desc ∧ estState q chkg = 3 ∧
      overrun q desc chkg = false)
  ∧ (norec.chanter = some q ∧ (norec.plane q).store.bad = [] ∧ (norec.est q).job = some desc ∧ estState q norec = 2 ∧
      overrun q desc norec = false ∧ validRecords q desc norec = [])
  ∧ (chkg.chanter = some q ∧ (chkg.plane q).store.bad = [])
  ∧ (ringl.chanter = some q ∧ (ringl.plane q).store.bad = [] ∧ (ringl.est q).job = some descr ∧ estState q ringl = 2 ∧
      overrun q descr ringl = true)
  ∧ (ringc.chanter = some q ∧ (ringc.plane q).store.bad = [] ∧ (ringc.est q).job = some descr ∧ estState q ringc = 3 ∧
      overrun q descr ringc = true)
  ∧ ((stns.ward q).inReset = false ∧ (stns.plane q).store.bad = [] ∧ obsRing q stns = some (16384, 256) ∧
      16384 + 24 * 256 ≤ storeWords ∧ stns.linkUp (portLink q) = true)
  ∧ ((stns.ward q).inReset = false ∧ (stns.plane q).store.bad = [] ∧ obsRing q stns = some (16384, 256) ∧
      16384 + 24 * 256 ≤ storeWords ∧ List.find? (fun e => e.1 == 0) (stns.intake q).edges = none)
  ∧ ((armed.ward q).inReset = false ∧ (armed.plane q).store.bad = [] ∧ obsRing q armed = some (16384, 256) ∧
      16384 + 24 * 256 ≤ storeWords ∧ 0 < armed.tab.obsAt.length ∧
      ((if bitsAt (nth (stationRecord q 0 armed) 0 0) 32 4 < 1 ∨ 3 < bitsAt (nth (stationRecord q 0 armed) 0 0) 32 4 then 1 else if nth (stationRecord q 0 armed) 6 0 = 0 then 2 else if bitsAt (nth (stationRecord q 0 armed) 0 0) 24 1 = 1 ∧
      (armed.armTab (bitsAt (nth (stationRecord q 0 armed) 0 0) 20 4)).joints = [] then 6 else 0) ≠ 0))
  ∧ ((stns.ward q).inReset = false ∧ (stns.plane q).store.bad = [] ∧ obsRing q stns = some (16384, 256) ∧
      16384 + 24 * 256 ≤ storeWords ∧ stns.tab.obsAt.length ≤ 127)
  ∧ ((stns.ward q).inReset = false ∧ (stns.plane q).store.bad = [] ∧ (stns.intake q).waiting = [])
  ∧ ((fedOff.ward q).inReset = false ∧ (fedOff.plane q).store.bad = [] ∧ obsRing q fedOff = some (16384, 256) ∧
      16384 + 24 * 256 ≤ storeWords ∧ fedOff.linkUp (portLink q) = false)
  ∧ ((stns.ward q).inReset = false ∧ (stns.plane q).store.bad = [] ∧ obsRing q stns = some (16384, 256) ∧
      16384 + 24 * 256 ≤ storeWords ∧ 0 < stns.tab.obsAt.length ∧
      ((if bitsAt (nth (stationRecord q 0 stns) 0 0) 32 4 < 1 ∨ 3 < bitsAt (nth (stationRecord q 0 stns) 0 0) 32 4 then 1 else if nth (stationRecord q 0 stns) 6 0 = 0 then 2 else if bitsAt (nth (stationRecord q 0 stns) 0 0) 24 1 = 1 ∧
      (stns.armTab (bitsAt (nth (stationRecord q 0 stns) 0 0) 20 4)).joints = [] then 6 else 0) = 0) ∧
      bitsAt (nth (stationRecord q 0 stns) 0 0) 24 1 = 1)
  ∧ ((stns.ward q).inReset = false ∧ (stns.plane q).store.bad = [] ∧ obsRing q stns = some (16384, 256) ∧
      16384 + 24 * 256 ≤ storeWords ∧ 1 < stns.tab.obsAt.length ∧
      ((if bitsAt (nth (stationRecord q 1 stns) 0 0) 32 4 < 1 ∨ 3 < bitsAt (nth (stationRecord q 1 stns) 0 0) 32 4 then 1 else if nth (stationRecord q 1 stns) 6 0 = 0 then 2 else if bitsAt (nth (stationRecord q 1 stns) 0 0) 24 1 = 1 ∧
      (stns.armTab (bitsAt (nth (stationRecord q 1 stns) 0 0) 20 4)).joints = [] then 6 else 0) = 0) ∧
      bitsAt (nth (stationRecord q 1 stns) 0 0) 24 1 = 0)
  ∧ ((edged.ward q).inReset = false ∧ (edged.plane q).store.bad = [] ∧ obsRing q edged = some (16384, 256) ∧
      16384 + 24 * 256 ≤ storeWords ∧ List.find? (fun e => e.1 == 0) (edged.intake q).edges = some (0, strec) ∧
      (0, strec).2.length = 7 ∧
      ((if bitsAt (nth (0, strec).2 0 0) 32 4 < 1 ∨ 3 < bitsAt (nth (0, strec).2 0 0) 32 4 then 1 else if nth (0, strec).2 6 0 = 0 then 2 else if bitsAt (nth (0, strec).2 0 0) 24 1 = 1 ∧
      (edged.armTab (bitsAt (nth (0, strec).2 0 0) 20 4)).joints = [] then 6 else 0) = 0) ∧
      bitsAt (nth (0, strec).2 0 0) 24 1 = 1)
  ∧ ((edged.ward q).inReset = false ∧ (edged.plane q).store.bad = [] ∧ obsRing q edged = some (16384, 256) ∧
      16384 + 24 * 256 ≤ storeWords ∧ List.find? (fun e => e.1 == 1) (edged.intake q).edges = some (1, strec2) ∧
      (1, strec2).2.length = 7 ∧
      ((if bitsAt (nth (1, strec2).2 0 0) 32 4 < 1 ∨ 3 < bitsAt (nth (1, strec2).2 0 0) 32 4 then 1 else if nth (1, strec2).2 6 0 = 0 then 2 else if bitsAt (nth (1, strec2).2 0 0) 24 1 = 1 ∧
      (edged.armTab (bitsAt (nth (1, strec2).2 0 0) 20 4)).joints = [] then 6 else 0) = 0) ∧
      bitsAt (nth (1, strec2).2 0 0) 24 1 = 0)
  ∧ ((edged.ward q).inReset = false ∧ (edged.plane q).store.bad = [] ∧ obsRing q edged = some (16384, 256) ∧
      16384 + 24 * 256 ≤ storeWords ∧
      List.find? (fun e => e.1 == 7) (edged.intake q).edges = some (7, [w36 (1 <<< 32), 5, ↑(1 <<< 20), 0, 0, 0, 0]) ∧
      (7, [w36 (1 <<< 32), 5, ↑(1 <<< 20), 0, 0, 0, 0]).2.length = 7 ∧
      ((if bitsAt (nth (7, [w36 (1 <<< 32), 5, ↑(1 <<< 20), 0, 0, 0, 0]).2 0 0) 32 4 < 1 ∨ 3 < bitsAt (nth (7, [w36 (1 <<< 32), 5, ↑(1 <<< 20), 0, 0, 0, 0]).2 0 0) 32 4 then 1 else if nth (7, [w36 (1 <<< 32), 5, ↑(1 <<< 20), 0, 0, 0, 0]).2 6 0 = 0 then 2 else if bitsAt (nth (7, [w36 (1 <<< 32), 5, ↑(1 <<< 20), 0, 0, 0, 0]).2 0 0) 24 1 = 1 ∧
      (edged.armTab (bitsAt (nth (7, [w36 (1 <<< 32), 5, ↑(1 <<< 20), 0, 0, 0, 0]).2 0 0) 20 4)).joints = [] then 6 else 0) ≠ 0))
  ∧ ((noring.ward q).inReset = false ∧ (noring.plane q).store.bad = [] ∧ obsRing q noring = none)
  ∧ ((wtg0.ward q).inReset = false ∧ (wtg0.plane q).store.bad = [] ∧
      (wtg0.intake q).waiting = [{ ws := strec, time := 5, cycle := 9 }] ∧
      resolveRecord q { ws := strec, time := 5, cycle := 9 } wtg0 = none)
  ∧ ((wtg2.ward q).inReset = false ∧ (wtg2.plane q).store.bad = [] ∧
      (wtg2.intake q).waiting = [{ ws := strec, time := 5, cycle := 3 }] ∧
      resolveRecord q { ws := strec, time := 5, cycle := 3 } wtg2 = some u4) := by
  refine ⟨?_, ?_, ?_, ?_, ?_, ?_, ?_, ?_, ?_, ?_, ?_, ?_, ?_, ?_, ?_, ?_, ?_, ?_, ?_, ?_, ?_, ?_, ?_, ?_, ?_, ?_, ?_, ?_, ?_⟩ <;> decide +kernel

end Sys2Proof.Tests.W12
end

