-- ==== Sys2Proof/Tests/Witness13.lean ====
section
/-! SUPPORT. Witnesses, part 13: states and operands that meet the hypotheses of each clause of a statement together. -/

open Sys2Proof Sys2Proof.Machine Sys2Proof.Tests

namespace Sys2Proof.Tests.W13

set_option Elab.async false
set_option linter.all false
set_option maxRecDepth 100000

def q := Plane.a
def ax : AxisTab := ⟨false, 0, 0x1000, 5, 5, 5⟩
def e0 : ArmTab := ⟨[], [], [], [], [], [], [], [], [], poseId, poseId, poseId, 0⟩
def arm0 : ArmTab := ⟨[ax, ax], [130], [], [], [], [], [], [], [], poseId, poseId, poseId, 0⟩
def base : State := { granted with tab := { granted.tab with arms := [e0, e0, e0, arm0] }, cyc := { granted.cyc with starts := 4, tick := 9 }, now := 77000000 }
def closed : State := [24, 25, 26, 27, 28, 29, 30, 31, 130].foldl (fun s c => s.put .a (R.CLE_CH_STATUS c) F.CLE_CH_STATUS_MODE 3) base
def onArm (f : Arm → Arm) (s : State) : State := s.setArm q 3 (f (s.arm q 3))
def stat (n : Nat) (s : State) : State := s.put .a (R.PLN_Q_STATUS 3) F.PLN_Q_STATUS_STATE n
def wcode (n : Nat) (s : State) : State := s.put .a (R.PLN_Q_STATUS 3) F.PLN_Q_STATUS_WAIT n
def stx (op : Opcode) (ops : List Word) (fault : Nat := 0) : Stitch := ⟨op, 5, ops.length, 321, false, false, false, ops, fault, Modal.initial⟩
def wl (l : List Nat) : List Word := l.map w36

def w1 : Wait := ⟨[1], some 88000000, none, none, 5, 3⟩
def open_ : State := closed.put .a (R.CLE_CH_STATUS 24) F.CLE_CH_STATUS_MODE 0
def two (l : List Stitch) (f : Arm → Arm) (n : Nat) : State := stat n (onArm (fun x => f { x with ahead := l }) closed)
def q0 : State := stat 0 open_
def mk1 := (stat 0 (onArm (fun x => {x with size := 5}) closed))
def mk2 := (stat 1 (onArm (fun x => {x with v := 3}) closed))
def grp : State := (stat 1 (onArm (fun x => {x with v := 3, group := 0x18}) closed)).setArm q 4 { closed.arm q 4 with group := 0x18 }
def mk3 := (stat 2 (wcode 1 (onArm (fun x => {x with wait := some w1}) closed)))
def mk3b := (stat 2 (wcode 7 open_))
def h4 : State := stat 4 closed
def h4o : State := stat 4 open_
def mk4 := (stat 4 (wcode 1 (onArm (fun x => {x with wait := some (w1.freeze 7700000)}) closed)))
def bs : Stitch := stx .mark (wl [5]) 5
def mk5 := (stat 4 (onArm (fun x => {x with ahead := [stx .mark (wl [5]), stx .nop []]}) closed))
def mk5r := (stat 4 (onArm (fun x => {x with redo := some bs}) closed))
def f6 : State := stat 6 closed
def f6m : State := stat 6 (onArm (fun x => {x with v := 3}) closed)
def zoned (n : Nat) : State := stat n (onArm (fun x => {x with ahead := [stx .mark (wl [5]), stx .nop []]}) (closed.wr .a (R.PLN_ARM_ZHELD1 3) 0x5))
def z4 : State := zoned 4
def z5 : State := zoned 5
def z6 : State := zoned 6
def z7 : State := zoned 7
def z5o : State := stat 5 open_
def rc0 : List Word := [w36 (1 <<< 28 ||| 1 <<< 20 ||| 3 <<< 16 ||| 104 <<< 8), 44] ++ (wl ((List.range 101).map fun i => if i = 5 then 7 <<< 16 else 0))
def rc : List Word := rc0 ++ [BitVec.ofNat 36 (crc32 rc0)]
def place (a : Nat) (ws : List Word) (s : State) : State := (ws.zipIdx).foldl (fun s e => s.sput .a (a + e.2) e.1) s
def rs : State := place 0x500 rc ((stat 0 closed).wr .a (R.PLN_Q_ARG 3) 0x500)
def rsb : State := rs.sput .a 0x509 4
def rs1 : State := stat 1 rs
def wr9 : State := base.put .a (R.PLN_CKP_WR 3) F.PLN_CKP_WR_COUNT 9
def src1 : State := onArm (fun x => {x with src := 1}) wr9
def mk9 := (stat 2 (wcode 1 (onArm (fun x => {x with wait := some w1}) base)))
def mk10 := (stat 2 (wcode 3 (onArm (fun x => {x with wait := some w1}) base)))
def mk11 := (stat 2 (wcode 4 (onArm (fun x => {x with wait := some w1}) base)))
def mk12 := (stat 2 (wcode 2 (onArm (fun x => {x with wait := some w1}) base)))
def r0 : Resume := ⟨[4], 44, 7, [], []⟩
def rsm : State := stat 7 (wcode 8 (onArm (fun x => {x with resume := some r0, resumeBy := some 99000000}) base))
def rsz : State := rsm.wr .a (R.PLN_ARM_ZHELD0 3) 16
def bz : State := base.wr .a (R.PLN_ARM_ZHELD2 3) 4
def bzl : State := base.setPln q { base.pln q with bzLost := [2] }
def fe (code n : Nat) (ops : List Nat) (st : Nat) : State := stat st ((place 0x20010 ([w36 (code <<< 30 ||| n <<< 24 ||| 321)] ++ wl ops) (onArm (fun x => {x with base := 0x20077}) ((closed.put .a (R.PLN_Q_WR 3) F.PLN_Q_WR_COUNT 64).put .a (R.PLN_Q_FETCH 3) F.PLN_Q_FETCH_COUNT 16))))
def fa0 : State := fe 0 0 ([0,0,0,0,0,0,0,0,0,0,0,0,0,0,0,0,0,0]) 2
def fb0 : State := fe 0 0 ([1<<<34,1,1,1<<<34,5,6,7,8,9,10,11,12,13,14,15,16,17,18]) 4
def fa1 : State := fe 1 8 ([0,0,0,0,0,0,0,0,0,0,0,0,0,0,0,0,0,0]) 2
def fb1 : State := fe 1 8 ([1<<<34,1,1,1<<<34,5,6,7,8,9,10,11,12,13,14,15,16,17,18]) 4
def fr1 : State := fe 1 8 ([0,0,0,0,0,0,0,0,0,0,0,0,0,0,0,0,0,0]) 1
def fa2 : State := fe 2 11 ([0,0,0,0,0,0,0,0,0,0,0,0,0,0,0,0,0,0]) 2
def fb2 : State := fe 2 11 ([1<<<34,1,1,1<<<34,5,6,7,8,9,10,11,12,13,14,15,16,17,18]) 4
def fa3 : State := fe 3 14 ([0,0,0,0,0,0,0,0,0,0,0,0,0,0,0,0,0,0]) 2
def fb3 : State := fe 3 14 ([1<<<34,1,1,1<<<34,5,6,7,8,9,10,11,12,13,14,15,16,17,18]) 4
def fa4 : State := fe 4 18 ([0,0,0,0,0,0,0,0,0,0,0,0,0,0,0,0,0,0]) 2
def fb4 : State := fe 4 18 ([1<<<34,1,1,1<<<34,5,6,7,8,9,10,11,12,13,14,15,16,17,18]) 4
def fa5 : State := fe 5 1 ([0,0,0,0,0,0,0,0,0,0,0,0,0,0,0,0,0,0]) 2
def fb5 : State := fe 5 1 ([1<<<34,1,1,1<<<34,5,6,7,8,9,10,11,12,13,14,15,16,17,18]) 4
def fr5 : State := fe 5 1 ([0,0,0,0,0,0,0,0,0,0,0,0,0,0,0,0,0,0]) 1
def fa6 : State := fe 6 1 ([0,0,0,0,0,0,0,0,0,0,0,0,0,0,0,0,0,0]) 2
def fb6 : State := fe 6 1 ([1<<<34,1,1,1<<<34,5,6,7,8,9,10,11,12,13,14,15,16,17,18]) 4
def fa7 : State := fe 7 2 ([0,0,0,0,0,0,0,0,0,0,0,0,0,0,0,0,0,0]) 2
def fb7 : State := fe 7 2 ([1<<<34,1,1,1<<<34,5,6,7,8,9,10,11,12,13,14,15,16,17,18]) 4
def fa8 : State := fe 8 2 ([0,0,0,0,0,0,0,0,0,0,0,0,0,0,0,0,0,0]) 2
def fb8 : State := fe 8 2 ([1<<<34,1,1,1<<<34,5,6,7,8,9,10,11,12,13,14,15,16,17,18]) 4
def fa9 : State := fe 9 1 ([0,0,0,0,0,0,0,0,0,0,0,0,0,0,0,0,0,0]) 2
def fb9 : State := fe 9 1 ([1<<<34,1,1,1<<<34,5,6,7,8,9,10,11,12,13,14,15,16,17,18]) 4
def fa16 : State := fe 16 2 ([0,0,0,0,0,0,0,0,0,0,0,0,0,0,0,0,0,0]) 2
def fb16 : State := fe 16 2 ([1<<<34,1,1,1<<<34,5,6,7,8,9,10,11,12,13,14,15,16,17,18]) 4
def fa17 : State := fe 17 3 ([0,0,0,0,0,0,0,0,0,0,0,0,0,0,0,0,0,0]) 2
def fb17 : State := fe 17 3 ([1<<<34,1,1,1<<<34,5,6,7,8,9,10,11,12,13,14,15,16,17,18]) 4
def fa18 : State := fe 18 3 ([0,0,0,0,0,0,0,0,0,0,0,0,0,0,0,0,0,0]) 2
def fb18 : State := fe 18 3 ([1<<<34,1,1,1<<<34,5,6,7,8,9,10,11,12,13,14,15,16,17,18]) 4
def fa24 : State := fe 24 3 ([0,0,0,0,0,0,0,0,0,0,0,0,0,0,0,0,0,0]) 2
def fb24 : State := fe 24 3 ([1<<<34,1,1,1<<<34,5,6,7,8,9,10,11,12,13,14,15,16,17,18]) 4
def fa25 : State := fe 25 2 ([0,0,0,0,0,0,0,0,0,0,0,0,0,0,0,0,0,0]) 2
def fb25 : State := fe 25 2 ([1<<<34,1,1,1<<<34,5,6,7,8,9,10,11,12,13,14,15,16,17,18]) 4
def fa26 : State := fe 26 1 ([0,0,0,0,0,0,0,0,0,0,0,0,0,0,0,0,0,0]) 2
def fb26 : State := fe 26 1 ([1<<<34,1,1,1<<<34,5,6,7,8,9,10,11,12,13,14,15,16,17,18]) 4
def fa27 : State := fe 27 3 ([0,0,0,0,0,0,0,0,0,0,0,0,0,0,0,0,0,0]) 2
def fb27 : State := fe 27 3 ([1<<<34,1,1,1<<<34,5,6,7,8,9,10,11,12,13,14,15,16,17,18]) 4
def fa28 : State := fe 28 2 ([0,0,0,0,0,0,0,0,0,0,0,0,0,0,0,0,0,0]) 2
def fb28 : State := fe 28 2 ([1<<<34,1,1,1<<<34,5,6,7,8,9,10,11,12,13,14,15,16,17,18]) 4
def fa32 : State := fe 32 2 ([0,0,0,0,0,0,0,0,0,0,0,0,0,0,0,0,0,0]) 2
def fb32 : State := fe 32 2 ([1<<<34,1,1,1<<<34,5,6,7,8,9,10,11,12,13,14,15,16,17,18]) 4
def fa33 : State := fe 33 1 ([0,0,0,0,0,0,0,0,0,0,0,0,0,0,0,0,0,0]) 2
def fb33 : State := fe 33 1 ([1<<<34,1,1,1<<<34,5,6,7,8,9,10,11,12,13,14,15,16,17,18]) 4
def fa34 : State := fe 34 0 ([0,0,0,0,0,0,0,0,0,0,0,0,0,0,0,0,0,0]) 2
def fb34 : State := fe 34 0 ([1<<<34,1,1,1<<<34,5,6,7,8,9,10,11,12,13,14,15,16,17,18]) 4
def fa63 : State := fe 63 0 ([0,0,0,0,0,0,0,0,0,0,0,0,0,0,0,0,0,0]) 2
def fb63 : State := fe 63 0 ([1<<<34,1,1,1<<<34,5,6,7,8,9,10,11,12,13,14,15,16,17,18]) 4
def fr63 : State := fe 63 0 ([0,0,0,0,0,0,0,0,0,0,0,0,0,0,0,0,0,0]) 1

/-- The hypotheses of QueuesObeyCommands can be met, clause by clause. -/
theorem witness_QueuesObeyCommands :
    (rs.chanter = some q ∧ (rs.pln q).arms.length = 16 ∧ (rs.plane q).store.bad = [] ∧ qState q 3 rs = 0 ∧ 8 ≤ (rs.arm q 3).size ∧
      (rs.arm q 3).size ≤ 24 ∧ armClosed q 3 rs = true)
  ∧ (q0.chanter = some q ∧ (q0.pln q).arms.length = 16 ∧ (q0.plane q).store.bad = [] ∧ qState q 3 q0 ≠ 1 ∧ qState q 3 q0 ≠ 2)
  ∧ (q0.chanter = some q ∧ (q0.pln q).arms.length = 16 ∧ (q0.plane q).store.bad = [] ∧ qState q 3 q0 ≠ 4)
  ∧ (q0.chanter = some q ∧ (q0.pln q).arms.length = 16 ∧ (q0.plane q).store.bad = [] ∧ qState q 3 q0 ≠ 6)
  ∧ (q0.chanter = some q ∧ (q0.pln q).arms.length = 16 ∧ (q0.plane q).store.bad = [] ∧ qState q 3 q0 < 4)
  ∧ (q0.chanter = some q ∧ (q0.pln q).arms.length = 16 ∧ (q0.plane q).store.bad = [] ∧ qState q 3 q0 ≠ 5)
  ∧ (q0.chanter = some q ∧ (q0.pln q).arms.length = 16 ∧ (q0.plane q).store.bad = [] ∧ resumeCheck q 3 q0 ≠ 0)
  ∧ (q0.chanter = some q ∧ (q0.pln q).arms.length = 16 ∧ (q0.plane q).store.bad = [])
  ∧ (q0.chanter = some q ∧ (q0.pln q).arms.length = 16 ∧ (q0.plane q).store.bad = [] ∧ (9 : Nat) ≤ 12)
  ∧ (q0.chanter = some q ∧ (q0.pln q).arms.length = 16 ∧ (q0.plane q).store.bad = [] ∧ qState q 3 q0 = 0 ∧ 8 ≤ (q0.arm q 3).size ∧
      (q0.arm q 3).size ≤ 24 ∧ armClosed q 3 q0 = false)
  ∧ (mk1.chanter = some q ∧ (mk1.pln q).arms.length = 16 ∧ (mk1.plane q).store.bad = [] ∧ qState q 3 mk1 = 0 ∧
      ((mk1.arm q 3).size < 8 ∨ 24 < (mk1.arm q 3).size))
  ∧ (h4.chanter = some q ∧ (h4.pln q).arms.length = 16 ∧ (h4.plane q).store.bad = [] ∧ qState q 3 h4 ≠ 0)
  ∧ (mk2.chanter = some q ∧ (mk2.pln q).arms.length = 16 ∧ (mk2.plane q).store.bad = [] ∧ qState q 3 mk2 = 1)
  ∧ (mk3.chanter = some q ∧ (mk3.pln q).arms.length = 16 ∧ (mk3.plane q).store.bad = [] ∧ qState q 3 mk3 = 2)
  ∧ (h4.chanter = some q ∧ (h4.pln q).arms.length = 16 ∧ (h4.plane q).store.bad = [] ∧ qState q 3 h4 = 4)
  ∧ (h4.chanter = some q ∧ (h4.pln q).arms.length = 16 ∧ (h4.plane q).store.bad = [] ∧ qState q 3 h4 = 4 ∧
      (h4.arm q 3).redo = none ∧ (h4.arm q 3).wait = none ∧ armClosed q 3 h4 = true ∧ (h4.arm q 3).loopStop = false)
  ∧ (h4.chanter = some q ∧ (h4.pln q).arms.length = 16 ∧ (h4.plane q).store.bad = [] ∧ qState q 3 h4 = 4 ∧
      (h4.arm q 3).redo = none ∧ (h4.arm q 3).ahead = [])
  ∧ (h4.chanter = some q ∧ (h4.pln q).arms.length = 16 ∧ (h4.plane q).store.bad = [] ∧
      (qState q 3 h4 = 4 ∨ qState q 3 h4 = 5 ∨ qState q 3 h4 = 6 ∧ (h4.arm q 3).rests = true ∨ qState q 3 h4 = 7))
  ∧ (h4o.chanter = some q ∧ (h4o.pln q).arms.length = 16 ∧ (h4o.plane q).store.bad = [] ∧ qState q 3 h4o = 4 ∧
      (h4o.arm q 3).redo = none ∧ (h4o.arm q 3).wait = none ∧ armClosed q 3 h4o = false ∧ (h4o.arm q 3).rests = true)
  ∧ (mk4.chanter = some q ∧ (mk4.pln q).arms.length = 16 ∧ (mk4.plane q).store.bad = [] ∧ qState q 3 mk4 = 4 ∧
      (mk4.arm q 3).redo = none ∧ (mk4.arm q 3).wait = some (w1.freeze 7700000) ∧ waitCode q 3 mk4 ≠ 7)
  ∧ (mk5.chanter = some q ∧ (mk5.pln q).arms.length = 16 ∧ (mk5.plane q).store.bad = [] ∧ qState q 3 mk5 = 4 ∧
      (mk5.arm q 3).redo = none ∧ (mk5.arm q 3).ahead = [stx Opcode.mark (wl [5]), stx Opcode.nop []])
  ∧ (mk5r.chanter = some q ∧ (mk5r.pln q).arms.length = 16 ∧ (mk5r.plane q).store.bad = [] ∧ qState q 3 mk5r = 4 ∧
      (mk5r.arm q 3).redo = some bs ∧ bs.fault ≠ 0)
  ∧ (mk5r.chanter = some q ∧ (mk5r.pln q).arms.length = 16 ∧ (mk5r.plane q).store.bad = [] ∧ qState q 3 mk5r = 4 ∧
      (mk5r.arm q 3).redo = some bs)
  ∧ (f6.chanter = some q ∧ (f6.pln q).arms.length = 16 ∧ (f6.plane q).store.bad = [] ∧ qState q 3 f6 = 6 ∧
      (f6.arm q 3).rests = true)
  ∧ (f6m.chanter = some q ∧ (f6m.pln q).arms.length = 16 ∧ (f6m.plane q).store.bad = [] ∧ qState q 3 f6m = 6 ∧
      (f6m.arm q 3).rests = false ∧ (6 = 4 ∨ Instr.qFlush 3 = Instr.qFlush 3 ∧ 6 = 6))
  ∧ (z5.chanter = some q ∧ (z5.pln q).arms.length = 16 ∧ (z5.plane q).store.bad = [] ∧ qState q 3 z5 = 5 ∧ armClosed q 3 z5 = true ∧
      (z5.arm q 3).loopStop = false)
  ∧ (z5o.chanter = some q ∧ (z5o.pln q).arms.length = 16 ∧ (z5o.plane q).store.bad = [] ∧ qState q 3 z5o = 5 ∧
      armClosed q 3 z5o = false ∧ (z5o.arm q 3).rests = true ∧ (z5o.arm q 3).wait = none)
  ∧ (rs.chanter = some q ∧ (rs.pln q).arms.length = 16 ∧ (rs.plane q).store.bad = [] ∧ resumeCheck q 3 rs = 0) := by
  refine ⟨?_, ?_, ?_, ?_, ?_, ?_, ?_, ?_, ?_, ?_, ?_, ?_, ?_, ?_, ?_, ?_, ?_, ?_, ?_, ?_, ?_, ?_, ?_, ?_, ?_, ?_, ?_, ?_⟩ <;> decide +kernel

/-- The hypotheses of CountsAreWrittenAndWaitsTimeOut can be met, clause by clause. -/
theorem witness_CountsAreWrittenAndWaitsTimeOut :
    (bz.chanter = some q ∧ (bz.pln q).arms.length = 16 ∧ true ≠ decide ((bz.arm q 3).src = 1))
  ∧ (bz.chanter = some q ∧ (bz.pln q).arms.length = 16 ∧ false = decide ((bz.arm q 3).src = 1) ∧
      decide ((0 + 2 ^ 32 - bz.get q (R.PLN_CKP_RD 3) F.PLN_CKP_RD_COUNT) % 2 ^ 32 ≤ (bz.get q (R.PLN_CKP_WR 3) F.PLN_CKP_WR_COUNT + 2 ^ 32 - bz.get q (R.PLN_CKP_RD 3) F.PLN_CKP_RD_COUNT) % 2 ^ 32) = true)
  ∧ (bz.chanter = some q ∧ (bz.pln q).arms.length = 16 ∧ false = decide ((bz.arm q 3).src = 1) ∧
      decide ((3 + 2 ^ 32 - bz.get q (R.PLN_CKP_RD 3) F.PLN_CKP_RD_COUNT) % 2 ^ 32 ≤ (bz.get q (R.PLN_CKP_WR 3) F.PLN_CKP_WR_COUNT + 2 ^ 32 - bz.get q (R.PLN_CKP_RD 3) F.PLN_CKP_RD_COUNT) % 2 ^ 32) = false)
  ∧ (bz.chanter = some q ∧ (bz.pln q).arms.length = 16 ∧ unitQ36 0 = true)
  ∧ (wr9.chanter = some q ∧ (wr9.pln q).arms.length = 16 ∧ unitQ36 (-1) = false)
  ∧ (bz.chanter = some q ∧ (bz.pln q).arms.length = 16 ∧
      (qState q 3 bz ≠ 7 ∨ (bz.arm q 3).resumeBy = none ∨ (bz.arm q 3).resume = none))
  ∧ (bz.chanter = some q ∧ (bz.pln q).arms.length = 16 ∧ 0 ∉ (bz.pln q).bzLost)
  ∧ (mk9.chanter = some q ∧ (mk9.pln q).arms.length = 16 ∧ qState q 3 mk9 = 2 ∧ (mk9.arm q 3).wait = some w1 ∧
      w1.deadline = some 88000000 ∧ waitCode q 3 mk9 = 1)
  ∧ (mk10.chanter = some q ∧ (mk10.pln q).arms.length = 16 ∧ qState q 3 mk10 = 2 ∧ (mk10.arm q 3).wait = some w1 ∧
      w1.deadline = some 88000000 ∧ (3 = 3 ∧ 11 = 11 ∧ Instr.syncTimeout 3 = Instr.syncTimeout 3 ∨ 3 = 4 ∧ 11 = 12 ∧
      Instr.syncTimeout 3 = Instr.zoneTimeout 3 ∨ 3 = 2 ∧ 11 = 14 ∧ Instr.syncTimeout 3 = Instr.waitioTimeout 3) ∧
      waitCode q 3 mk10 = 3)
  ∧ (base.chanter = some q ∧ (base.pln q).arms.length = 16 ∧ (1 = 1 ∧ Instr.dwellExpiry 3 = Instr.dwellExpiry 3 ∨ 1 = 3 ∧
      Instr.dwellExpiry 3 = Instr.syncTimeout 3 ∨ 1 = 4 ∧ Instr.dwellExpiry 3 = Instr.zoneTimeout 3 ∨ 1 = 2 ∧
      Instr.dwellExpiry 3 = Instr.waitioTimeout 3) ∧
      (qState q 3 base ≠ 2 ∨ waitCode q 3 base ≠ 1 ∨ ∀ (w : Wait), (base.arm q 3).wait = some w → w.deadline = none))
  ∧ (rsm.chanter = some q ∧ (rsm.pln q).arms.length = 16 ∧ qState q 3 rsm = 7 ∧ (rsm.arm q 3).resumeBy = some 99000000 ∧
      (rsm.arm q 3).resume = some r0)
  ∧ (bzl.chanter = some q ∧ (bzl.pln q).arms.length = 16 ∧ 2 ∈ (bzl.pln q).bzLost) := by
  refine ⟨?_, ?_, ?_, ?_, ?_, ?_, ?_, ?_, ?_, ?_, ?_, ?_⟩ <;> first | decide +kernel | (and_intros <;> first | decide +kernel | exact nth_none (by decide +kernel) | exact none_ne (by decide +kernel) | exact none_ne2 (by decide +kernel) | exact none_all2 (by decide +kernel) | exact some_all3 (by decide +kernel) | exact .inl (by decide +kernel) | exact .inl (none_ne (by decide +kernel)) | exact .inr (.inr ⟨rfl, none_ne2 (by decide +kernel)⟩))

/-- The hypotheses of StitchesAreFetched can be met, clause by clause. -/
theorem witness_StitchesAreFetched :
    (fa0.chanter = some q ∧ (fa0.pln q).arms.length = 16 ∧ (fa0.plane q).store.bad = [] ∧
      (Instr.stitchNop 3, Opcode.nop) ∈ stitchRows 3 ∧ (8 ≤ (fa0.arm q 3).size ∧ (fa0.arm q 3).size ≤ 24 ∧
      (fa0.arm q 3).aheadFault = false ∧ (fa0.arm q 3).endFetched = false ∧ (fa0.arm q 3).ahead.length < 1024 ∧
      (fa0.arm q 3).trigs.length + movedTrigs q 3 fa0 < 64 ∧
      1 + bitsAt (fa0.sw q ((fa0.arm q 3).base / 2 ^ (fa0.arm q 3).size * 2 ^ (fa0.arm q 3).size + (fa0.get q (R.PLN_Q_FETCH 3) F.PLN_Q_FETCH_COUNT + 0) % 2 ^ (fa0.arm q 3).size)) 24 6 ≤ (fa0.get q (R.PLN_Q_WR 3) F.PLN_Q_WR_COUNT + 2 ^ 32 - fa0.get q (R.PLN_Q_FETCH 3) F.PLN_Q_FETCH_COUNT) % 2 ^ 32) ∧
      opcodeOf (bitsAt (fa0.sw q ((fa0.arm q 3).base / 2 ^ (fa0.arm q 3).size * 2 ^ (fa0.arm q 3).size + (fa0.get q (R.PLN_Q_FETCH 3) F.PLN_Q_FETCH_COUNT + 0) % 2 ^ (fa0.arm q 3).size)) 30 6) = some Opcode.nop ∧
      1 ≤ qState q 3 fa0 ∧ qState q 3 fa0 ≤ 4)
  ∧ (fa0.chanter = some q ∧ (fa0.pln q).arms.length = 16 ∧ (fa0.plane q).store.bad = [] ∧
      (Instr.stitchNop 3, Opcode.nop) ∈ stitchRows 3 ∧ (8 ≤ (fa0.arm q 3).size ∧ (fa0.arm q 3).size ≤ 24 ∧
      (fa0.arm q 3).aheadFault = false ∧ (fa0.arm q 3).endFetched = false ∧ (fa0.arm q 3).ahead.length < 1024 ∧
      (fa0.arm q 3).trigs.length + movedTrigs q 3 fa0 < 64 ∧
      1 + bitsAt (fa0.sw q ((fa0.arm q 3).base / 2 ^ (fa0.arm q 3).size * 2 ^ (fa0.arm q 3).size + (fa0.get q (R.PLN_Q_FETCH 3) F.PLN_Q_FETCH_COUNT + 0) % 2 ^ (fa0.arm q 3).size)) 24 6 ≤ (fa0.get q (R.PLN_Q_WR 3) F.PLN_Q_WR_COUNT + 2 ^ 32 - fa0.get q (R.PLN_Q_FETCH 3) F.PLN_Q_FETCH_COUNT) % 2 ^ 32) ∧
      opcodeOf (bitsAt (fa0.sw q ((fa0.arm q 3).base / 2 ^ (fa0.arm q 3).size * 2 ^ (fa0.arm q 3).size + (fa0.get q (R.PLN_Q_FETCH 3) F.PLN_Q_FETCH_COUNT + 0) % 2 ^ (fa0.arm q 3).size)) 30 6) = some Opcode.nop ∧
      (qState q 3 fa0 = 2 ∨ qState q 3 fa0 = 4))
  ∧ (base.chanter = some q ∧ (base.pln q).arms.length = 16 ∧ (base.plane q).store.bad = [] ∧
      (Instr.stitchNop 3, Opcode.nop) ∈ stitchRows 3 ∧ (¬(8 ≤ (base.arm q 3).size ∧ (base.arm q 3).size ≤ 24 ∧
      (base.arm q 3).aheadFault = false ∧ (base.arm q 3).endFetched = false ∧ (base.arm q 3).ahead.length < 1024 ∧
      (base.arm q 3).trigs.length + movedTrigs q 3 base < 64 ∧
      1 + bitsAt (base.sw q ((base.arm q 3).base / 2 ^ (base.arm q 3).size * 2 ^ (base.arm q 3).size + (base.get q (R.PLN_Q_FETCH 3) F.PLN_Q_FETCH_COUNT + 0) % 2 ^ (base.arm q 3).size)) 24 6 ≤ (base.get q (R.PLN_Q_WR 3) F.PLN_Q_WR_COUNT + 2 ^ 32 - base.get q (R.PLN_Q_FETCH 3) F.PLN_Q_FETCH_COUNT) % 2 ^ 32) ∨ opcodeOf (bitsAt (base.sw q ((base.arm q 3).base / 2 ^ (base.arm q 3).size * 2 ^ (base.arm q 3).size + (base.get q (R.PLN_Q_FETCH 3) F.PLN_Q_FETCH_COUNT + 0) % 2 ^ (base.arm q 3).size)) 30 6) ≠ some Opcode.nop ∨ qState q 3 base = 0 ∨ 4 < qState q 3 base) ∧
      (reaches q 3 base = false ∨ ∀ (x : Stitch), reachable (base.arm q 3) = some x → x.op ≠ Opcode.nop) ∧
      (waitCode q 3 base ≠ 2 ∨ Opcode.nop ≠ Opcode.waitio)) := by
  refine ⟨?_, ?_, ?_⟩ <;> first | decide +kernel | (and_intros <;> first | decide +kernel | exact nth_none (by decide +kernel) | exact none_ne (by decide +kernel) | exact none_ne2 (by decide +kernel) | exact none_all2 (by decide +kernel) | exact some_all3 (by decide +kernel) | exact .inl (by decide +kernel) | exact .inl (none_ne (by decide +kernel)) | exact .inr (.inr ⟨rfl, none_ne2 (by decide +kernel)⟩))

end Sys2Proof.Tests.W13
end

