-- ==== Sys2Proof/Tests/Witness14.lean ====
section
/-! SUPPORT. Witnesses, part 14: states and operands that meet the hypotheses of each clause of a statement together. -/

open Sys2Proof Sys2Proof.Machine Sys2Proof.Tests

namespace Sys2Proof.Tests.W14

set_option Elab.async false
set_option linter.all false
set_option maxRecDepth 100000

def q := Plane.a
def ax : AxisTab := ⟨false, 0, 0x1000, 5, 5, 5⟩
def e0 : ArmTab := ⟨[], [], [], [], [], [], [], [], [], poseId, poseId, poseId, 0⟩
def arm0 : ArmTab := ⟨[ax, ax], [130], [], [], [], [], [], [], [], poseId, poseId, poseId, 0⟩
def base : State := { granted with tab := { granted.tab with arms := [e0, e0, e0, arm0] }, cyc := { granted.cyc with starts := 4, tick := 9 }, now := 77000000 }
def closed : State := [24, 25, 26, 27, 28, 29, 30, 31, 130].foldl (fun s c => s.put .a (R.CLE_CH_STATUS c) F.CLE_CH_STATUS_MODE 3) base
def onArm (f : Arm → Arm) (s : State) : State := s.setArm q 3 (f (s.arm q 3))
def stat (n : Nat) (s : State) : State := s.put .a (R.PLN_Q_STATUS 3) F.PLN_Q_STATUS_STATE n
def wcode (n : Nat) (s : State) : State := s.put .a (R.PLN_Q_STATUS 3) F.PLN_Q_STATUS_WAIT n
def stx (op : Opcode) (ops : List Word) (fault : Nat := 0) : Stitch := ⟨op, 5, ops.length, 321, false, false, false, ops, fault, Modal.initial⟩
def wl (l : List Nat) : List Word := l.map w36

def stat2 (a : Fin 16) (n w : Nat) (s : State) : State := (s.put .a (R.PLN_Q_STATUS a) F.PLN_Q_STATUS_STATE n).put .a (R.PLN_Q_STATUS a) F.PLN_Q_STATUS_WAIT w
def place (a : Nat) (ws : List Word) (s : State) : State := (ws.zipIdx).foldl (fun s e => s.sput .a (a + e.2) e.1) s
def fe (code n : Nat) (ops : List Nat) (st : Nat) : State := stat st ((place 0x20010 ([w36 (code <<< 30 ||| n <<< 24 ||| 321)] ++ wl ops) (onArm (fun x => {x with base := 0x20077}) ((closed.put .a (R.PLN_Q_WR 3) F.PLN_Q_WR_COUNT 64).put .a (R.PLN_Q_FETCH 3) F.PLN_Q_FETCH_COUNT 16))))
def bad (s : State) : State := s.sput .a 0 (w36 (0x3E <<< 30))
def re (s : Stitch) : State := bad (stat 1 (onArm (fun x => {x with ahead := [s, { s with pos := 20, op := .nop }]}) closed))
def tr : ArmedTrig := ⟨3, 1, 0, 0, none, 5, false, 321⟩
def fetched (f : Fin 16 → State → Host.Outcome State Fault Refusal) (code n : Nat) (ops : List Nat) : State := match f 3 (fe code n ops 2) with | .next t => stat 1 (bad (onArm (fun x => { x with wait := none }) t)) | _ => base
def hd (s : State) : Stitch := match (s.arm q 3).ahead with | x :: _ => x | [] => stx .nop []
def g1 : Stitch := stx .nop (wl [5,6])
def k1 : State := re g1
def g2 : Stitch := stx .frame (wl [5,6])
def k2 : State := re g2
def g3 : Stitch := stx .limit (wl [5,6])
def k3 : State := re g3
def g4 : Stitch := stx .blend (wl [5,6])
def k4 : State := re g4
def g5 : Stitch := { stx .nop (wl [5,6]) with event := true }
def k5 : State := re g5
def g6 : Stitch := stx .couple (wl [2])
def k6 : State := re g6
def g7 : Stitch := stx .trig (wl [3,0,0])
def k7 : State := onArm (fun x => {x with trigs := [tr]}) (re g7)
def g8 : Stitch := stx .layer (wl [9, 7])
def k8 : State := re g8
def g9 : Stitch := stx .layer (wl [9, 7])
def k9 : State := (((re g9).put .a (R.PLN_Q_CFG 3) F.PLN_Q_CFG_CKP_FULL 1).put .a (R.PLN_CKP_WR 3) F.PLN_CKP_WR_COUNT 64)
def g10 : Stitch := stx .layer (wl [9, 7])
def k10 : State := (((onArm (fun x => {x with v := 3, x := 1000, cur := some 16, ahead := [g10]}) (fetched execStitchLine 1 8 [1<<<20,0,0,1<<<34,0,0,0,1<<<30])).put .a (R.PLN_Q_CFG 3) F.PLN_Q_CFG_CKP_FULL 1).put .a (R.PLN_CKP_WR 3) F.PLN_CKP_WR_COUNT 64)
def g11 : Stitch := stx .calibApply []
def k11 : State := re g11
def g12 : Stitch := stx .mark (wl [9])
def k12 : State := re g12
def g13 : Stitch := stx .setio (wl [9, 1])
def k13 : State := re g13
def g14 : Stitch := stx .setio (wl [3, 0])
def k14 : State := re g14
def sb15 : StationBit := ⟨0, 0, 0, 5, 3⟩
def g15 : Stitch := stx .setio (wl [1 <<< 34 ||| 5, 1])
def k15 : State := (let s := re g15; { s with tab := { s.tab with arms := [e0, e0, e0, { arm0 with outs := [sb15] }] } })
def g16 : Stitch := stx .zoneLeave (wl [4])
def k16 : State := (re g16).wr .a (R.PLN_ARM_ZHELD0 3) (w36 (1 <<< 4))
def g17 : Stitch := stx .zoneLeave (wl [35])
def k17 : State := (re g17).wr .a (R.PLN_ARM_ZHELD0 3) (w36 (1 <<< 35))
def g18 : Stitch := stx .zoneLeave (wl [36])
def k18 : State := (re g18).wr .a (R.PLN_ARM_ZHELD1 3) (w36 (1 <<< 0))
def g19 : Stitch := stx .zoneLeave (wl [63])
def k19 : State := (re g19).wr .a (R.PLN_ARM_ZHELD1 3) (w36 (1 <<< 27))
def g20 : Stitch := stx .zoneLeave (wl [64])
def k20 : State := (re g20).wr .a (R.PLN_ARM_ZHELD2 3) (w36 (1 <<< 0))
def g21 : Stitch := stx .zoneLeave (wl [79])
def k21 : State := (re g21).wr .a (R.PLN_ARM_ZHELD2 3) (w36 (1 <<< 15))
def g22 : Stitch := stx .zoneLeave (wl [4])
def k22 : State := re g22
def g23 : Stitch := stx .proc (wl [9, 1<<<34])
def k23 : State := re g23
def g24 : Stitch := { stx .proc (wl [9, 1<<<34, 1<<<24]) with feedLock := true }
def k24 : State := re g24
def g25 : Stitch := stx .procramp (wl [9, 1<<<34, 7])
def k25 : State := re g25
def g26 : Stitch := stx .procramp (wl [9 + (1<<<35), 1<<<34, 7])
def k26 : State := re g26
def g27 : Stitch := stx .procramp (wl [9, 1<<<34, 0])
def k27 : State := re g27
def g28 : Stitch := stx .nop (wl [5,6,7]) 4
def k28 : State := re g28
def g29 : Stitch := stx .layer (wl [5,6,7]) 4
def k29 : State := re g29
def g30 : Stitch := stx .sync (wl [5,6,7]) 4
def k30 : State := re g30
def g31 : Stitch := hd (fetched execStitchLine 1 8 [1<<<20,0,0,1<<<34,0,0,0,1<<<30])
def k31 : State := fetched execStitchLine 1 8 [1<<<20,0,0,1<<<34,0,0,0,1<<<30]
def g32 : Stitch := hd (fetched execStitchArc 2 11 [1<<<20,1<<<20,0,2<<<20,0,0,1<<<34,0,0,0,1<<<30])
def k32 : State := fetched execStitchArc 2 11 [1<<<20,1<<<20,0,2<<<20,0,0,1<<<34,0,0,0,1<<<30]
def g33 : Stitch := hd (fetched execStitchSpline 3 14 [1<<<20,0,0,2<<<20,0,0,3<<<20,0,0,1<<<34,0,0,0,1<<<30])
def k33 : State := fetched execStitchSpline 3 14 [1<<<20,0,0,2<<<20,0,0,3<<<20,0,0,1<<<34,0,0,0,1<<<30]
def g34 : Stitch := hd (fetched execStitchJoint 4 4 [3, 1<<<34, 5, 6])
def k34 : State := onArm (fun x => {x with sects := x.sects.map fun c => {c with ready := true}}) (fetched execStitchJoint 4 4 [3, 1<<<34, 5, 6])
def g35 : Stitch := hd (fetched execStitchLine 1 8 [1<<<20,0,0,1,0,0,0,0])
def k35 : State := fetched execStitchLine 1 8 [1<<<20,0,0,1,0,0,0,0]
def g36 : Stitch := stx .dwell (wl [77])
def k36 : State := re g36
def g37 : Stitch := stx .dwell (wl [0])
def k37 : State := re g37
def g38 : Stitch := stx .zoneEnter (wl [77, 0])
def k38 : State := re g38
def g39 : Stitch := stx .zoneEnter (wl [7, 5])
def k39 : State := re g39
def g40 : Stitch := stx .zoneEnter (wl [7, 5])
def k40 : State := (re g40).wr .a (R.PLN_ARM_ZHELD0 3) (w36 (1 <<< 7))
def g41 : Stitch := stx .sync (wl [0x2A, 9, 5])
def k41 : State := re g41
def g42 : Stitch := stx .sync (wl [0x2A + (1<<<33), 9, 0])
def k42 : State := re g42
def g43 : Stitch := stx .sync (wl [0x8, 9, 0])
def k43 : State := re g43
def g44 : Stitch := stx .sync (wl [0x18 + (1<<<32), 9, 0])
def k44 : State := re g44
def g45 : Stitch := stx .sync (wl [0x18 + (1<<<32), 9, 0])
def k45 : State := (let s := stat2 4 2 3 (re g45); s.setArm q 4 { s.arm q 4 with wait := some ⟨[9, 1, 24], none, none, none, 7, 1⟩, last := some g1 })
def g46 : Stitch := stx .sync (wl [0x18 + (1<<<33), 9, 0])
def k46 : State := (let s := stat2 4 2 3 (re g46); s.setArm q 4 { s.arm q 4 with wait := some ⟨[9, 2, 24], none, none, none, 7, 1⟩, last := some g1 })
def g47 : Stitch := stx .sync (wl [0x18 + (1<<<33), 9, 0])
def k47 : State := (let s := stat2 4 2 3 (re g47); s.setArm q 4 { s.arm q 4 with wait := some ⟨[9, 1, 24], none, none, none, 7, 1⟩, last := some g1 })
def g48 : Stitch := stx .sync (wl [0x18 + (1<<<32), 9, 0])
def k48 : State := onArm (fun x => {x with group := 0x18}) (re g48)
def g49 : Stitch := stx .sync (wl [0x18 + (2<<<32), 9, 0])
def k49 : State := (let s := onArm (fun x => {x with group := 0x18}) (re g49); s.setArm q 4 { s.arm q 4 with group := 0x18, ahead := [stx .line []] })
def g50 : Stitch := stx .finish []
def k50 : State := (let s := onArm (fun x => {x with group := 0x18}) (re g50); s.setArm q 4 { s.arm q 4 with group := 0x18, ahead := [stx .line []] })
def g51 : Stitch := stx .waitio (wl [3, 1, 5])
def k51 : State := re g51
def g52 : Stitch := stx .waitio (wl [3, 1, 5])
def k52 : State := (let t := re g52; t.sput .a t.fio.imgBase 8)
def g53 : Stitch := stx .finish []
def k53 : State := re g53
def g60 : Stitch := stx .finish []
def k60 : State := stat 3 (re g60)
def g61 : Stitch := stx .dwell (wl [77])
def k61 : State := stat 3 (re g61)

/-- The hypotheses of StitchesAreReached can be met, clause by clause. -/
theorem witness_StitchesAreReached :
    (k1.chanter = some q ∧ (k1.pln q).arms.length = 16 ∧ reaches q 3 k1 = true ∧ reachable (k1.arm q 3) = some g1 ∧
      (ringOpcode q 3 k1 = some g1.op → fetchOne q 3 k1 = none) ∧ g1.fault = 0 ∧
      (Instr.stitchNop 3, g1.op) ∈ [(Instr.stitchNop 3, Opcode.nop), (Instr.stitchFrame 3, Opcode.frame), (Instr.stitchLimit 3, Opcode.limit), (Instr.stitchBlend 3, Opcode.blend)])
  ∧ (k6.chanter = some q ∧ (k6.pln q).arms.length = 16 ∧ reaches q 3 k6 = true ∧ reachable (k6.arm q 3) = some g6 ∧
      (ringOpcode q 3 k6 = some g6.op → fetchOne q 3 k6 = none) ∧ g6.fault = 0 ∧ g6.op = Opcode.couple)
  ∧ (k7.chanter = some q ∧ (k7.pln q).arms.length = 16 ∧ reaches q 3 k7 = true ∧ reachable (k7.arm q 3) = some g7 ∧
      (ringOpcode q 3 k7 = some g7.op → fetchOne q 3 k7 = none) ∧ g7.fault = 0 ∧ g7.op = Opcode.trig)
  ∧ (k8.chanter = some q ∧ (k8.pln q).arms.length = 16 ∧ reaches q 3 k8 = true ∧ reachable (k8.arm q 3) = some g8 ∧
      (ringOpcode q 3 k8 = some g8.op → fetchOne q 3 k8 = none) ∧ g8.fault = 0 ∧ g8.op = Opcode.layer ∧
      (ckpFull q 3 k8 && k8.is q (R.PLN_Q_CFG 3) F.PLN_Q_CFG_CKP_FULL) = false)
  ∧ (k9.chanter = some q ∧ (k9.pln q).arms.length = 16 ∧ reaches q 3 k9 = true ∧ reachable (k9.arm q 3) = some g9 ∧
      (ringOpcode q 3 k9 = some g9.op → fetchOne q 3 k9 = none) ∧ g9.fault = 0 ∧ g9.op = Opcode.layer ∧
      (ckpFull q 3 k9 && k9.is q (R.PLN_Q_CFG 3) F.PLN_Q_CFG_CKP_FULL) = true ∧ qState q 3 k9 = 1 ∧ (k9.arm q 3).rests = true)
  ∧ (k10.chanter = some q ∧ (k10.pln q).arms.length = 16 ∧ reaches q 3 k10 = true ∧ reachable (k10.arm q 3) = some g10 ∧
      (ringOpcode q 3 k10 = some g10.op → fetchOne q 3 k10 = none) ∧ g10.fault = 0 ∧ g10.op = Opcode.layer ∧
      (ckpFull q 3 k10 && k10.is q (R.PLN_Q_CFG 3) F.PLN_Q_CFG_CKP_FULL) = true ∧ qState q 3 k10 = 1 ∧
      (k10.arm q 3).rests = false)
  ∧ (k11.chanter = some q ∧ (k11.pln q).arms.length = 16 ∧ reaches q 3 k11 = true ∧ reachable (k11.arm q 3) = some g11 ∧
      (ringOpcode q 3 k11 = some g11.op → fetchOne q 3 k11 = none) ∧ g11.fault = 0 ∧ g11.op = Opcode.calibApply)
  ∧ (k12.chanter = some q ∧ (k12.pln q).arms.length = 16 ∧ reaches q 3 k12 = true ∧ reachable (k12.arm q 3) = some g12 ∧
      (ringOpcode q 3 k12 = some g12.op → fetchOne q 3 k12 = none) ∧ g12.fault = 0 ∧ g12.op = Opcode.mark)
  ∧ (k13.chanter = some q ∧ (k13.pln q).arms.length = 16 ∧ reaches q 3 k13 = true ∧ reachable (k13.arm q 3) = some g13 ∧
      (ringOpcode q 3 k13 = some g13.op → fetchOne q 3 k13 = none) ∧ g13.fault = 0 ∧ g13.op = Opcode.setio ∧
      bitsAt (opW g13.ops 1) 34 2 = 0)
  ∧ (k15.chanter = some q ∧ (k15.pln q).arms.length = 16 ∧ reaches q 3 k15 = true ∧ reachable (k15.arm q 3) = some g15 ∧
      (ringOpcode q 3 k15 = some g15.op → fetchOne q 3 k15 = none) ∧ g15.fault = 0 ∧ g15.op = Opcode.setio ∧
      bitsAt (opW g15.ops 1) 34 2 ≠ 0 ∧ stationBit (k15.armTab 3).outs (opW g15.ops 1) = some sb15 ∧ sb15.bit < 36 ∧
      (k15.plane q).store.bad = [] ∧ k15.cbus.txBase + sb15.place < storeWords)
  ∧ (k16.chanter = some q ∧ (k16.pln q).arms.length = 16 ∧ reaches q 3 k16 = true ∧ reachable (k16.arm q 3) = some g16 ∧
      (ringOpcode q 3 k16 = some g16.op → fetchOne q 3 k16 = none) ∧ g16.fault = 0 ∧ g16.op = Opcode.zoneLeave ∧
      bitsAt (opW g16.ops 1) 0 7 < 80 ∧ holdsZone q 3 (bitsAt (opW g16.ops 1) 0 7) k16 = true)
  ∧ (k22.chanter = some q ∧ (k22.pln q).arms.length = 16 ∧ reaches q 3 k22 = true ∧ reachable (k22.arm q 3) = some g22 ∧
      (ringOpcode q 3 k22 = some g22.op → fetchOne q 3 k22 = none) ∧ g22.fault = 0 ∧ g22.op = Opcode.zoneLeave ∧
      holdsZone q 3 (bitsAt (opW g22.ops 1) 0 7) k22 = false)
  ∧ (k23.chanter = some q ∧ (k23.pln q).arms.length = 16 ∧ reaches q 3 k23 = true ∧ reachable (k23.arm q 3) = some g23 ∧
      (ringOpcode q 3 k23 = some g23.op → fetchOne q 3 k23 = none) ∧ g23.fault = 0 ∧ g23.op = Opcode.proc ∧
      bitsAt (opW g23.ops 1) 0 5 < (k23.pln q).loops.length)
  ∧ (k25.chanter = some q ∧ (k25.pln q).arms.length = 16 ∧ reaches q 3 k25 = true ∧ reachable (k25.arm q 3) = some g25 ∧
      (ringOpcode q 3 k25 = some g25.op → fetchOne q 3 k25 = none) ∧ g25.fault = 0 ∧ g25.op = Opcode.procramp ∧
      bitsAt (opW g25.ops 1) 0 5 < (k25.pln q).loops.length)
  ∧ (k28.chanter = some q ∧ (k28.pln q).arms.length = 16 ∧ reaches q 3 k28 = true ∧ reachable (k28.arm q 3) = some g28 ∧
      (ringOpcode q 3 k28 = some g28.op → fetchOne q 3 k28 = none) ∧ g28.fault ≠ 0 ∧ qState q 3 k28 ≠ 6 ∧
      (Instr.stitchNop 3, g28.op) ∈ stitchRows 3)
  ∧ (k32.chanter = some q ∧ (k32.pln q).arms.length = 16 ∧ reaches q 3 k32 = true ∧ reachable (k32.arm q 3) = some g32 ∧
      (ringOpcode q 3 k32 = some g32.op → fetchOne q 3 k32 = none) ∧ g32.fault = 0 ∧
      (Instr.stitchArc 3, g32.op) ∈ [(Instr.stitchLine 3, Opcode.line), (Instr.stitchArc 3, Opcode.arc), (Instr.stitchSpline 3, Opcode.spline)])
  ∧ (k34.chanter = some q ∧ (k34.pln q).arms.length = 16 ∧ reaches q 3 k34 = true ∧ reachable (k34.arm q 3) = some g34 ∧
      (ringOpcode q 3 k34 = some g34.op → fetchOne q 3 k34 = none) ∧ g34.fault = 0 ∧ g34.op = Opcode.joint)
  ∧ (k36.chanter = some q ∧ (k36.pln q).arms.length = 16 ∧ reaches q 3 k36 = true ∧ reachable (k36.arm q 3) = some g36 ∧
      (ringOpcode q 3 k36 = some g36.op → fetchOne q 3 k36 = none) ∧ g36.fault = 0 ∧ g36.op = Opcode.dwell ∧ opW g36.ops 1 ≠ 0)
  ∧ (k37.chanter = some q ∧ (k37.pln q).arms.length = 16 ∧ reaches q 3 k37 = true ∧ reachable (k37.arm q 3) = some g37 ∧
      (ringOpcode q 3 k37 = some g37.op → fetchOne q 3 k37 = none) ∧ g37.fault = 0 ∧ g37.op = Opcode.dwell ∧ opW g37.ops 1 = 0)
  ∧ (k38.chanter = some q ∧ (k38.pln q).arms.length = 16 ∧ reaches q 3 k38 = true ∧ reachable (k38.arm q 3) = some g38 ∧
      (ringOpcode q 3 k38 = some g38.op → fetchOne q 3 k38 = none) ∧ g38.fault = 0 ∧ g38.op = Opcode.zoneEnter ∧
      holdsZone q 3 (bitsAt (opW g38.ops 1) 0 7) k38 = false)
  ∧ (k40.chanter = some q ∧ (k40.pln q).arms.length = 16 ∧ reaches q 3 k40 = true ∧ reachable (k40.arm q 3) = some g40 ∧
      (ringOpcode q 3 k40 = some g40.op → fetchOne q 3 k40 = none) ∧ g40.fault = 0 ∧ g40.op = Opcode.zoneEnter ∧
      holdsZone q 3 (bitsAt (opW g40.ops 1) 0 7) k40 = true)
  ∧ (k41.chanter = some q ∧ (k41.pln q).arms.length = 16 ∧ reaches q 3 k41 = true ∧ reachable (k41.arm q 3) = some g41 ∧
      (ringOpcode q 3 k41 = some g41.op → fetchOne q 3 k41 = none) ∧ g41.fault = 0 ∧ g41.op = Opcode.sync ∧
      (¬(bitsAt (opW g41.ops 1) 32 4 = 1 ∧ (k41.arm q 3).group ≠ 0)) ∧ (¬(bitsAt (opW g41.ops 1) 32 4 = 2 ∧
      (decide ((k41.arm q 3).group ≠ 0) && groupUneven q 3 k41) = true)) ∧
      (syncWaiters q (bitsAt (opW g41.ops 2) 0 16) k41).any (syncClash (3, bitsAt (opW g41.ops 1) 32 4, bitsAt (opW g41.ops 1) 0 16)) = false ∧
      (∃ b ∈ bitsOf 16 (bitsAt (opW g41.ops 1) 0 16), b ≠ 3 ∧
      (b, bitsAt (opW g41.ops 1) 32 4, bitsAt (opW g41.ops 1) 0 16) ∉ syncWaiters q (bitsAt (opW g41.ops 2) 0 16) k41))
  ∧ (k43.chanter = some q ∧ (k43.pln q).arms.length = 16 ∧ reaches q 3 k43 = true ∧ reachable (k43.arm q 3) = some g43 ∧
      (ringOpcode q 3 k43 = some g43.op → fetchOne q 3 k43 = none) ∧ g43.fault = 0 ∧ g43.op = Opcode.sync ∧
      (¬(bitsAt (opW g43.ops 1) 32 4 = 1 ∧ (k43.arm q 3).group ≠ 0)) ∧ (¬(bitsAt (opW g43.ops 1) 32 4 = 2 ∧
      (decide ((k43.arm q 3).group ≠ 0) && groupUneven q 3 k43) = true)) ∧
      (syncWaiters q (bitsAt (opW g43.ops 2) 0 16) k43).any (syncClash (3, bitsAt (opW g43.ops 1) 32 4, bitsAt (opW g43.ops 1) 0 16)) = false ∧
      bitN (bitsAt (opW g43.ops 1) 0 16) 3 = true ∧
      (∀ b ∈ bitsOf 16 (bitsAt (opW g43.ops 1) 0 16), b ≠ 3 → (b, bitsAt (opW g43.ops 1) 32 4, bitsAt (opW g43.ops 1) 0 16) ∈ syncWaiters q (bitsAt (opW g43.ops 2) 0 16) k43) ∧
      qState q 3 k43 = 1)
  ∧ (k47.chanter = some q ∧ (k47.pln q).arms.length = 16 ∧ reaches q 3 k47 = true ∧ reachable (k47.arm q 3) = some g47 ∧
      (ringOpcode q 3 k47 = some g47.op → fetchOne q 3 k47 = none) ∧ g47.fault = 0 ∧ g47.op = Opcode.sync ∧
      (¬(bitsAt (opW g47.ops 1) 32 4 = 1 ∧ (k47.arm q 3).group ≠ 0)) ∧ (¬(bitsAt (opW g47.ops 1) 32 4 = 2 ∧
      (decide ((k47.arm q 3).group ≠ 0) && groupUneven q 3 k47) = true)) ∧
      (syncWaiters q (bitsAt (opW g47.ops 2) 0 16) k47).any (syncClash (3, bitsAt (opW g47.ops 1) 32 4, bitsAt (opW g47.ops 1) 0 16)) = true ∧
      qState q 3 k47 = 1)
  ∧ (k48.chanter = some q ∧ (k48.pln q).arms.length = 16 ∧ reaches q 3 k48 = true ∧ reachable (k48.arm q 3) = some g48 ∧
      (ringOpcode q 3 k48 = some g48.op → fetchOne q 3 k48 = none) ∧ g48.fault = 0 ∧ g48.op = Opcode.sync ∧
      bitsAt (opW g48.ops 1) 32 4 = 1 ∧ (k48.arm q 3).group ≠ 0 ∧ qState q 3 k48 ≠ 6)
  ∧ (k49.chanter = some q ∧ (k49.pln q).arms.length = 16 ∧ reaches q 3 k49 = true ∧ reachable (k49.arm q 3) = some g49 ∧
      (ringOpcode q 3 k49 = some g49.op → fetchOne q 3 k49 = none) ∧ g49.fault = 0 ∧
      (decide ((k49.arm q 3).group ≠ 0) && groupUneven q 3 k49) = true ∧ bitN (k49.arm q 3).group 3 = true ∧ qState q 3 k49 ≠ 6 ∧
      g49.op = Opcode.sync ∧ bitsAt (opW g49.ops 1) 32 4 = 2)
  ∧ (k50.chanter = some q ∧ (k50.pln q).arms.length = 16 ∧ reaches q 3 k50 = true ∧ reachable (k50.arm q 3) = some g50 ∧
      (ringOpcode q 3 k50 = some g50.op → fetchOne q 3 k50 = none) ∧ g50.fault = 0 ∧
      (decide ((k50.arm q 3).group ≠ 0) && groupUneven q 3 k50) = true ∧ bitN (k50.arm q 3).group 3 = true ∧ qState q 3 k50 ≠ 6 ∧
      g50.op = Opcode.finish)
  ∧ (k51.chanter = some q ∧ (k51.pln q).arms.length = 16 ∧ reaches q 3 k51 = true ∧ reachable (k51.arm q 3) = some g51 ∧
      (ringOpcode q 3 k51 = some g51.op → fetchOne q 3 k51 = none) ∧ g51.fault = 0 ∧ g51.op = Opcode.waitio ∧
      (qState q 3 k51 ≠ 1 ∨ (decide (bitsAt (opW g51.ops 2) 0 2 = 0) && ioLevel q 3 (opW g51.ops 1) k51 == some false || decide (bitsAt (opW g51.ops 2) 0 2 = 1) && ioLevel q 3 (opW g51.ops 1) k51 == some true) = false))
  ∧ (k52.chanter = some q ∧ (k52.pln q).arms.length = 16 ∧ reaches q 3 k52 = true ∧ reachable (k52.arm q 3) = some g52 ∧
      (ringOpcode q 3 k52 = some g52.op → fetchOne q 3 k52 = none) ∧ g52.fault = 0 ∧ g52.op = Opcode.waitio ∧ qState q 3 k52 = 1 ∧
      (decide (bitsAt (opW g52.ops 2) 0 2 = 0) && ioLevel q 3 (opW g52.ops 1) k52 == some false || decide (bitsAt (opW g52.ops 2) 0 2 = 1) && ioLevel q 3 (opW g52.ops 1) k52 == some true) = true)
  ∧ (k53.chanter = some q ∧ (k53.pln q).arms.length = 16 ∧ reaches q 3 k53 = true ∧ reachable (k53.arm q 3) = some g53 ∧
      (ringOpcode q 3 k53 = some g53.op → fetchOne q 3 k53 = none) ∧ g53.fault = 0 ∧ g53.op = Opcode.finish ∧
      (decide ((k53.arm q 3).group ≠ 0) && groupUneven q 3 k53) = false ∧ qState q 3 k53 = 1)
  ∧ (k60.chanter = some q ∧ (k60.pln q).arms.length = 16 ∧ reaches q 3 k60 = true ∧ reachable (k60.arm q 3) = some g60 ∧
      (ringOpcode q 3 k60 = some g60.op → fetchOne q 3 k60 = none) ∧ g60.fault = 0 ∧ g60.op = Opcode.finish ∧
      (decide ((k60.arm q 3).group ≠ 0) && groupUneven q 3 k60) = false ∧ qState q 3 k60 ≠ 1) := by
  refine ⟨?_, ?_, ?_, ?_, ?_, ?_, ?_, ?_, ?_, ?_, ?_, ?_, ?_, ?_, ?_, ?_, ?_, ?_, ?_, ?_, ?_, ?_, ?_, ?_, ?_, ?_, ?_, ?_, ?_, ?_, ?_⟩ <;> decide +kernel

end Sys2Proof.Tests.W14
end

