-- ==== Sys2Proof/Tests/Witness15.lean ====
section
/-! SUPPORT. Witnesses, part 15: states and operands that meet the hypotheses of each clause of a statement together. -/

open Sys2Proof Sys2Proof.Machine Sys2Proof.Tests

namespace Sys2Proof.Tests.W15

set_option Elab.async false
set_option linter.all false
set_option maxRecDepth 100000

def s0 := State.reset
def latched (k : Nat) (w : BitVec 32) (s : State) : State := { s with hif := { s.hif with latch := some (k, w) } }
def fl : State := (s0.wr .a R.RED_FLAG_CNT0 0x01020304).wr .a R.RED_FLAGS 0x1234
def slp : State := granted.dp (R.BEL_DOM_STATUS 2) F.BEL_DOM_STATUS_STATE 2
def PB : Nat := 0x210000
def la : State := latched R.RED_SWAP_PAT_LO 77 fl
def lb : State := latched 0x300 77 fl
def msx : Nat := 135168
def dw : HostDword := ⟨5, 7⟩
def pre0 : List HostDword := [⟨9, 15⟩, ⟨9, 0⟩]
def bd : State := granted.setPlane .a { granted.plane .a with store := { (granted.plane .a).store with bad := [38] } }
def slpd : State := match bar2Domain granted with | none => granted | some d => granted.dp (R.BEL_DOM_STATUS d) F.BEL_DOM_STATUS_STATE 2
def up : State := s0.dp R.HIF_LINK F.HIF_LINK_GEN 4

/-- The hypotheses of RegisterWritesFollowTheAccessCodes can be met, clause by clause. -/
theorem witness_RegisterWritesFollowTheAccessCodes :
    (plainKey (keyOf 0) = true ∧ isReg (keyOf 0) = true ∧ isMsix 0 = false ∧ target 0 fl = some Plane.a ∧
      discards Plane.a (keyOf 0) fl = false)
  ∧ (isMsix 0 = false)
  ∧ (isMsix 7340032 = false ∧ target 7340032 s0 = none)
  ∧ (isMsix 768 = false)
  ∧ (isMsix 4886718345 = false ∧ (∀ (w : BitVec 32), fl.hif.latch ≠ some (latchKey 4886718345 fl, w)))
  ∧ (isMsix 768 = false ∧ lb.hif.latch = some (latchKey 768 lb, 77))
  ∧ (isMsix R.RED_SWAP_PAT_LO = false ∧ la.hif.latch = some (R.RED_SWAP_PAT_LO, 77))
  ∧ (isMsix msx = true ∧ fl.evm.pba = [] ∧ fl.evm.table.length = 64 ∧ (∀ l ∈ fl.evm.table, l.length = 4)) := by
  refine ⟨?_, ?_, ?_, ?_, ?_, ?_, ?_, ?_⟩ <;> ((try and_intros) <;> first | exact none_ne (by decide +kernel) | decide +kernel)

/-- The hypotheses of DiscardedWritesAreRecorded can be met, clause by clause. -/
theorem witness_DiscardedWritesAreRecorded :
    ((∀ y ∈ pre0, y.be = 0 ∨ y.be = 15) ∧ dw.be ≠ 0 ∧ dw.be ≠ 15 ∧ 0 % 4 = 0 ∧ 0 + 4 * pre0.length < 2 ^ 26)
  ∧ (target 2621440 s0 = some Plane.a ∧ (2097152 : Nat) ≤ 2621440 ∧ 2621440 < 6291456 ∧ s0.chanter ≠ some Plane.a ∧
      ownReg (keyOf 2621440) = false) := by
  refine ⟨?_, ?_⟩ <;> decide +kernel

/-- The hypotheses of Bar2IsTheGrantedStore can be met, clause by clause. -/
theorem witness_Bar2IsTheGrantedStore :
    (77 < storeWords ∧ bar2Plane bd = some Plane.a ∧ asleep (bar2Domain bd) bd = false)
  ∧ (77 < storeWords ∧ bar2Plane bd = some Plane.a ∧ asleep (bar2Domain bd) bd = false ∧ (dw.be ≠ 0 ∨ dw.be ≠ 0))
  ∧ (77 < storeWords ∧ bar2Plane bd = some Plane.a ∧ asleep (bar2Domain bd) bd = false ∧ 77 + 0 ≤ storeWords)
  ∧ (76 < storeWords ∧ bar2Plane granted = some Plane.a ∧ asleep (bar2Domain granted) granted = false ∧ 76 % 2 = 0)
  ∧ (77 < storeWords ∧ bar2Plane s0 = none)
  ∧ (77 < storeWords ∧ bar2Plane slpd = some Plane.a ∧ asleep (bar2Domain slpd) slpd = true) := by
  refine ⟨?_, ?_, ?_, ?_, ?_, ?_⟩ <;> decide +kernel

/-- The hypotheses of EndpointResetsAndStates can be met, clause by clause. -/
theorem witness_EndpointResetsAndStates :
    ((s0.chanter = some Plane.a → (s0.dma Plane.a).bursts = []) ∧ (s0.chanter = some Plane.b → (s0.dma Plane.b).bursts = []))
  ∧ ((s0.chanter = some Plane.a → (s0.dma Plane.a).bursts = []) ∧ (s0.chanter = some Plane.b → (s0.dma Plane.b).bursts = []) ∧
      (1 : Nat) ≤ 3 ∧ (3 : Nat) ≤ 5 ∧ ((4 : BitVec 3) = 1 ∨ (4 : BitVec 3) = 2 ∨ (4 : BitVec 3) = 4) ∧ s0.hif.rst = none ∧
      s0.dg R.HIF_LINK F.HIF_LINK_GEN = 0)
  ∧ ((s0.chanter = some Plane.a → (s0.dma Plane.a).bursts = []) ∧ (s0.chanter = some Plane.b → (s0.dma Plane.b).bursts = []) ∧
      s0.evm.pba = [])
  ∧ ((up.chanter = some Plane.a → (up.dma Plane.a).bursts = []) ∧ (up.chanter = some Plane.b → (up.dma Plane.b).bursts = []) ∧
      up.dg R.HIF_LINK F.HIF_LINK_GEN ≠ 0) := by
  refine ⟨?_, ?_, ?_, ?_⟩ <;> decide +kernel

end Sys2Proof.Tests.W15
end

