-- ==== Sys2Proof/Tests/Witness2.lean ====
section
/-! SUPPORT. Witnesses, part 2: states and operands that meet the hypotheses of each clause of a statement together. -/

open Sys2Proof Sys2Proof.Machine Sys2Proof.Tests

namespace Sys2Proof.Tests.W2

set_option Elab.async false
set_option linter.all false
set_option maxRecDepth 100000

def s0 := State.reset
def mk1 := (s0.setStore .a {s0.pa.store with bad := [(5,1)]})
def mk2 := (s0.setStore .a {s0.pa.store with sparing := [5, 9]})
def thr (s : State) (t st : Nat) : State := s.put .a (R.SCH_THR_STATUS t) F.SCH_THR_STATUS_STATE st
def run1 : State := ((thr granted 5 3).put .a (R.SCH_CORE_STATUS 2) F.SCH_CORE_STATUS_BUSY 1).put .a (R.SCH_CORE_STATUS 2) F.SCH_CORE_STATUS_THREAD 5 |>.put .a R.SCH_STATUS F.SCH_STATUS_MODE 0
def actw (s : State) (k : Nat) (v : Word) : State := let r := s.rep .a; (s.setRep .a { r with act := sPut regReset r.act k v }).wr .a k v
def cfgT (p aff : Nat) : Word := F.SCH_THR_CFG_PRIO.set (F.SCH_THR_CFG_AFF.set 0 aff) p
def run2 : State := let s := actw (actw (thr run1 6 2) (R.SCH_THR_CFG 5) (cfgT 4 255)) (R.SCH_THR_CFG 6) (cfgT 4 255)
  s.setSch .a { s.sch .a with ready := (s.sch .a).ready.set 4 [6] }
def runT : State := let s := run1; s.setSch .a { s.sch .a with began := (s.sch .a).began.set 2 4000 }
def mk3 := {run2 with now := 10^9, cyc := {run2.cyc with starts := 8193}}
def mk3b := {run2 with now := 10^9, cyc := {run2.cyc with starts := 1026}}
def w0own : Word := 2^35
def bobW (sp dp : Nat) (n : Nat) : List Word := [wordN (2^35 + n), wordN 0, wordN 4096, 0, 0, 0]

/-- The hypotheses of TheStoreHoldsItsWords can be met, clause by clause. -/
theorem witness_TheStoreHoldsItsWords :
    (s0.isBad Plane.a (11 / 2) = false)
  ∧ (s0.isBad Plane.a (11 / 2) = false ∧ EccFinding.single ≠ EccFinding.clean)
  ∧ ((mk2.plane Plane.a).store.sparing = [5, 9] ∧ freeSpare Plane.a mk2 = some 0)
  ∧ (s0.isBad Plane.a (s0.get Plane.a R.CST_SCRUB F.CST_SCRUB_POS) = false ∧
      s0.get Plane.a R.CST_SCRUB F.CST_SCRUB_POS + 1 < 2 ^ 28) := by
  refine ⟨?_, ?_, ?_, ?_⟩ <;> decide +kernel

/-- The hypotheses of PostsJoinTheQueue can be met, clause by clause. -/
theorem witness_PostsJoinTheQueue :
    (thr granted 3 2).chanter = some Plane.a ∧ 2 ≤ thrState Plane.a 3 (thr granted 3 2) ∧
      ((thr granted 3 2).sch Plane.a).stalled = [] ∧ ((thr granted 3 2).sch Plane.a).posts.length + 1 < 896 := by
  decide +kernel

/-- The hypotheses of ThreadsBlockAndYield can be met, clause by clause. -/
theorem witness_ThreadsBlockAndYield :
    (run1.chanter = some Plane.a ∧ inThread Plane.a run1 = true ∧ onCore Plane.a 2 run1 = some 5 ∧ 5 < 512 ∧
      postsOf Plane.a 5 run1 = 0 ∧ (run1.sch Plane.a).stalled = [] ∧ (∀ (p : ℕ), nth (run1.sch Plane.a).ready p [] = []))
  ∧ (run2.chanter = some Plane.a ∧ inThread Plane.a run2 = true ∧ thrState Plane.a 5 run2 ≠ 0 ∧ F.SCH_THR_CFG_AFF.get (-1) ≠ 0)
  ∧ (run2.chanter = some Plane.a ∧ inThread Plane.a run2 = true ∧ F.SCH_THR_CFG_AFF.get (cfgT 4 0) = 0)
  ∧ (runT.chanter = some Plane.a ∧ inThread Plane.a runT = true ∧ onCore Plane.a 2 runT = some 5 ∧
      nth (runT.sch Plane.a).ready (thrPrio Plane.a 5 runT) [] = []) := by
  refine ⟨?_, ?_, ?_, ?_⟩ <;> first | decide +kernel | (and_intros <;> first | decide +kernel | exact nth_nil_of_all (by decide +kernel) | exact nth_nil_above _ (by decide +kernel))

/-- The hypotheses of LoadsAreMeasuredAndCaptured can be met, clause by clause. -/
theorem witness_LoadsAreMeasuredAndCaptured :
    (run2.chanter = some Plane.a ∧ run2.n = 0)
  ∧ (mk3.chanter = some Plane.a)
  ∧ (mk3.chanter = some Plane.a ∧ (2 : Nat) ≤ 3)
  ∧ (mk3.chanter = some Plane.a ∧ mk3.n % 2 ^ loadLog2 Plane.a mk3 = 0 ∧ mk3.n ≠ 0)
  ∧ (mk3b.chanter = some Plane.a ∧ mk3b.n % 2 ^ loadLog2 Plane.a mk3b ≠ 0) := by
  refine ⟨?_, ?_, ?_, ?_, ?_⟩ <;> decide +kernel

end Sys2Proof.Tests.W2
end

