-- ==== Sys2Proof/Tests/Witness3.lean ====
section
/-! SUPPORT. Witnesses, part 3: states and operands that meet the hypotheses of each clause of a statement together. -/

open Sys2Proof Sys2Proof.Machine Sys2Proof.Tests

namespace Sys2Proof.Tests.W3

set_option Elab.async false
set_option linter.all false
set_option maxRecDepth 100000

def s0 := State.reset
def bob (n : Nat) : Bobbin := ⟨wordN (2^35 + n), 0x2000, 0, 0x3000, 0, 0⟩
def toHost (n : Nat) : Bobbin := ⟨wordN (2^35 + 2^28 + n), 0x2000, 0, 0x30000, wordN (2^32), 0⟩
def fromPort (n : Nat) : Bobbin := ⟨wordN (2^35 + 2^28 + n), 0x2000, wordN (2 * 2^32), 0x30000, wordN (2^32), 0⟩
def ring (b : Bobbin) : State :=
  let s := granted.wr .a (R.DMA_CH_RING 3) 0x1000
  ((s.sputPair .a 0x1000 b.w0 b.w1).sputPair .a 0x1002 b.w2 b.w3).sputPair .a 0x1004 b.w4 b.w5
def cfg3 (s : State) (f : Fld) (n : Nat) : State := s.put .a (R.DMA_CH_CFG 3) f n
def ringC : State := cfg3 (ring (bob 4)) F.DMA_CH_CFG_RING_LOG2 3
def stt (s : State) (n : Nat) : State := s.put .a (R.DMA_CH_STATUS 3) F.DMA_CH_STATUS_STATE n
def dch (s : State) (x : DmaCh) : State := s.setDma .a { s.dma .a with chs := (s.dma .a).chs.set 3 x }
def active : State := dch (stt ringC 1) { dmaIdle with bob := some (bob 4) }
def mk1 := (active.setDma .a { active.dma .a with bursts := [⟨3,0,2,[1,2],false,0⟩] })
def b02 : Burst := ⟨3,0,2,[1,2],false,0⟩
def b24 : Burst := ⟨3,2,4,[1,2,3,4],false,0⟩
def flying (b : Bobbin) : State := let s := dch (stt granted 1) { dmaIdle with bob := some b, issued := 6 }
  s.setDma .a { s.dma .a with bursts := [b02, b24] }
def holdS : State := active.setDma .a { active.dma .a with hold := true }
def toHostP (n : Nat) : Bobbin := ⟨wordN (2^35 + n), 0x2000, 0, 0x30000, wordN (2^32), 0⟩
def portStore (n : Nat) : Bobbin := ⟨wordN (2^35 + n), 0x2000, wordN (2 * 2^32), 0x30000, 0, 0⟩
def routed (k v : Nat) : State := ((granted.dp (R.EVM_ROUTE 1) F.EVM_ROUTE_EN 1).dp (R.EVM_ROUTE 1) F.EVM_ROUTE_KIND k).dp (R.EVM_ROUTE 1) F.EVM_ROUTE_TARGET v
def held3 : State := ((s0.dp (R.EVM_VEC_CFG 3) F.EVM_VEC_CFG_HOLDOFF_RUN 1).dp (R.EVM_VEC_CFG 3) F.EVM_VEC_CFG_HOLD_PEND 1).dp R.EVM_STATUS F.EVM_STATUS_MSIX_EN 1
def pst (q : Plane) (n : Nat) (s : State) : State := setPlaneState q n s
def two : State := pst .b 2 (pst .a 1 granted)
def lineS : State := two.setWard .a { two.ward .a with mchk := true }
def mk2 := { two with red := { two.red with readyAt := some 0, firstCycle := 1 }, cyc := { two.cyc with starts := 5 } }
def dueS : State := { two with red := { two.red with swapSent := true, applied := some 4, lastCommit := 4 } }
def mk3 := { dueS with red := { dueS.red with applied := none } }
def period1 : State := { two with now := 3600 * 10 ^ 12 }
def mk4 := { two with red := { two.red with hostSwap := true } }
def mk5 := { period1 with red := { two.red with reversion := true } }
def lit : State := let s := two.setWard .a { two.ward .a with interlock := true }; s.dp R.RED_EPOCH F.RED_EPOCH_EPOCH 6

/-- The hypotheses of DmaChannelsObeyCommands can be met, clause by clause. -/
theorem witness_DmaChannelsObeyCommands :
    ((stt ringC 4).chanter = some Plane.a ∧ 3 < ((stt ringC 4).dma Plane.a).chs.length ∧
      (stt ringC 4).poisoned Plane.a (bobAddr Plane.a 3 (stt ringC 4)) 6 = false ∧
      bitN (BitVec.toNat (bobAt Plane.a 3 (stt ringC 4)).w0) 35 = true ∧
      bobbinOk (bobAt Plane.a 3 (stt ringC 4)) (stt ringC 4) = true ∧ dmaState Plane.a 3 (stt ringC 4) = 4)
  ∧ (mk1.chanter = some Plane.a ∧ 3 < (mk1.dma Plane.a).chs.length ∧ (6 : Nat) ≤ 12)
  ∧ (ringC.chanter = some Plane.a ∧ 3 < (ringC.dma Plane.a).chs.length ∧
      (dmaState Plane.a 3 ringC = 0 ∨ dmaState Plane.a 3 ringC = 4 ∨ dmaState Plane.a 3 ringC = 5))
  ∧ (mk1.chanter = some Plane.a ∧ 3 < (mk1.dma Plane.a).chs.length ∧ dmaState Plane.a 3 mk1 = 1)
  ∧ (mk1.chanter = some Plane.a ∧ 3 < (mk1.dma Plane.a).chs.length ∧ dmaState Plane.a 3 mk1 = 1 ∧ inFlight Plane.a 3 mk1 ≠ [])
  ∧ ((stt ringC 2).chanter = some Plane.a ∧ 3 < ((stt ringC 2).dma Plane.a).chs.length ∧ dmaState Plane.a 3 (stt ringC 2) = 2)
  ∧ ((stt ringC 2).chanter = some Plane.a ∧ 3 < ((stt ringC 2).dma Plane.a).chs.length ∧
      (dmaState Plane.a 3 (stt ringC 2) = 2 ∨ dmaState Plane.a 3 (stt ringC 2) = 4 ∨ dmaState Plane.a 3 (stt ringC 2) = 5)) := by
  refine ⟨?_, ?_, ?_, ?_, ?_, ?_, ?_⟩ <;> decide +kernel

/-- The hypotheses of BurstsAreIssuedAndAnswered can be met, clause by clause. -/
theorem witness_BurstsAreIssuedAndAnswered :
    (active.chanter = some Plane.a ∧ 3 < (active.dma Plane.a).chs.length ∧ (active.dch Plane.a 3).bob = some (bob 4) ∧
      (∀ (d : Fin 64), dmaState Plane.a (↑d) active ≠ 3) ∧ (active.dma Plane.a).hold = false ∧ (active.dma Plane.a).bursts = [] ∧
      burstPick Plane.a active = some 3 ∧ (bob 4).space false = 0 ∧ (bob 4).space true = 0 ∧
      domBusy (3 + 4 * Plane.a.code) active = false ∧ dmaCfg Plane.a 3 F.DMA_CH_CFG_PACED active = 0 ∧
      (active.dch Plane.a 3).issued < (bob 4).count ∧ (active.plane Plane.a).store.bad = [])
  ∧ (holdS.chanter = some Plane.a ∧ 3 < (holdS.dma Plane.a).chs.length ∧ (holdS.dch Plane.a 3).bob = some (bob 4) ∧
      (∀ (d : Fin 64), dmaState Plane.a (↑d) holdS ≠ 3) ∧ (holdS.dma Plane.a).hold = true)
  ∧ ((flying (toHost 8)).chanter = some Plane.a ∧ 3 < ((flying (toHost 8)).dma Plane.a).chs.length ∧
      ((flying (toHost 8)).dch Plane.a 3).bob = some (toHost 8) ∧ (∀ (d : Fin 64), dmaState Plane.a (↑d) (flying (toHost 8)) ≠ 3) ∧
      popBurst Plane.a 3 (flying (toHost 8)) = some (b02, [b24]) ∧ bitN (BitVec.toNat (toHost 8).w0) 33 = false ∧
      List.filter (fun x => x.ch == 3) [b24] ≠ [] ∧ (∀ (d : ℕ), nth (flying (toHost 8)).bel.deferred d none = none) ∧
      (toHost 8).space true = 1 ∧ ackWords (toHost 8) b02 (Beats.store 2) ≠ [] ∧
      b02.len ≤ (ackWords (toHost 8) b02 (Beats.store 2)).length)
  ∧ ((flying (bob 8)).chanter = some Plane.a ∧ 3 < ((flying (bob 8)).dma Plane.a).chs.length ∧
      ((flying (bob 8)).dch Plane.a 3).bob = some (bob 8) ∧ (∀ (d : Fin 64), dmaState Plane.a (↑d) (flying (bob 8)) ≠ 3) ∧
      popBurst Plane.a 3 (flying (bob 8)) = some (b02, [b24]) ∧ bitN (BitVec.toNat (bob 8).w0) 33 = false ∧
      List.filter (fun x => x.ch == 3) [b24] ≠ [] ∧ (∀ (d : ℕ), nth (flying (bob 8)).bel.deferred d none = none) ∧
      (bob 8).space true = 0 ∧ b02.len ≤ (ackWords (bob 8) b02 (Beats.store 2)).length ∧
      (bob 8).addr true + b02.first + (ackWords (bob 8) b02 (Beats.store 2)).length ≤ storeWords ∧
      ((flying (bob 8)).plane Plane.a).store.bad = [])
  ∧ ((flying (toHost 8)).chanter = some Plane.a ∧ 3 < ((flying (toHost 8)).dma Plane.a).chs.length ∧
      ((flying (toHost 8)).dch Plane.a 3).bob = some (toHost 8) ∧ (∀ (d : Fin 64), dmaState Plane.a (↑d) (flying (toHost 8)) ≠ 3) ∧
      popBurst Plane.a 3 (flying (toHost 8)) = some (b02, [b24]) ∧ bitN (BitVec.toNat (toHost 8).w0) 33 = false ∧
      List.filter (fun x => x.ch == 3) [b24] ≠ [] ∧ (∀ (d : ℕ), nth (flying (toHost 8)).bel.deferred d none = none) ∧
      (toHost 8).space true = 1) := by
  refine ⟨?_, ?_, ?_, ?_, ?_⟩ <;> first | decide +kernel | (and_intros <;> first | decide +kernel | exact nth_none (by decide +kernel) | exact none_ne (by decide +kernel) | exact none_ne2 (by decide +kernel) | exact none_all2 (by decide +kernel) | exact some_all3 (by decide +kernel) | exact .inl (by decide +kernel) | exact .inl (none_ne (by decide +kernel)) | exact .inr (.inr ⟨rfl, none_ne2 (by decide +kernel)⟩))

/-- The hypotheses of EventsAreCountedAndRouted can be met, clause by clause. -/
theorem witness_EventsAreCountedAndRouted :
    (s0.dg (R.EVM_VEC_CFG 0) F.EVM_VEC_CFG_HOLDOFF_RUN = 0)
  ∧ (routeOk 0 = true)
  ∧ ([3, 200, 7].Nodup ∧ (∀ e ∈ [3, 200, 7], s0.dg (R.EVM_ROUTE ↑e) F.EVM_ROUTE_EN = 0))
  ∧ (routeOf 1 (routed 2 5) = some (2, 5) ∧ (routed 2 5).chanter = some Plane.a ∧ 5 < ((routed 2 5).dma Plane.a).lines.length ∧
      nth ((routed 2 5).dma Plane.a).lines 5 0 < 65535)
  ∧ (routeOf 1 (routed 3 5) = some (3, 5))
  ∧ (routeOf 1 ((routed 0 5).dp R.EVM_STATUS F.EVM_STATUS_MSIX_EN 1) = some (0, 5) ∧
      ((routed 0 5).dp R.EVM_STATUS F.EVM_STATUS_MSIX_EN 1).dg R.EVM_STATUS F.EVM_STATUS_MSIX_EN = 1 ∧
      vecMasked 5 ((routed 0 5).dp R.EVM_STATUS F.EVM_STATUS_MSIX_EN 1) = false ∧ 5 < 64 ∧
      ((routed 0 5).dp R.EVM_STATUS F.EVM_STATUS_MSIX_EN 1).dg (R.EVM_VEC_CFG 5) F.EVM_VEC_CFG_HOLDOFF_RUN = 0 ∧
      ((routed 0 5).dp R.EVM_STATUS F.EVM_STATUS_MSIX_EN 1).dg (R.EVM_VEC_CFG 5) F.EVM_VEC_CFG_HOLDOFF_US = 0)
  ∧ ((s0.dp (R.EVM_VEC_CFG 3) F.EVM_VEC_CFG_HOLDOFF_RUN 1).dg (R.EVM_VEC_CFG 3) F.EVM_VEC_CFG_HOLDOFF_RUN = 1 ∧
      (s0.dp (R.EVM_VEC_CFG 3) F.EVM_VEC_CFG_HOLDOFF_RUN 1).dg (R.EVM_VEC_CFG 3) F.EVM_VEC_CFG_HOLD_PEND = 0)
  ∧ (held3.dg (R.EVM_VEC_CFG 3) F.EVM_VEC_CFG_HOLDOFF_RUN = 1 ∧ held3.dg (R.EVM_VEC_CFG 3) F.EVM_VEC_CFG_HOLD_PEND = 1 ∧
      held3.dg R.EVM_STATUS F.EVM_STATUS_MSIX_EN = 1 ∧ vecMasked 3 held3 = false)
  ∧ (routeOk (F.EVM_ROUTE_TARGET.set (F.EVM_ROUTE_KIND.set 0 3) 9) = false) := by
  refine ⟨?_, ?_, ?_, ?_, ?_, ?_, ?_, ?_, ?_⟩ <;> decide +kernel

/-- The hypotheses of FaultsHandTheGrantToTheDrone can be met, clause by clause. -/
theorem witness_FaultsHandTheGrantToTheDrone :
    (lineS.chanter = some Plane.a ∧ eligible Plane.a.other true lineS = true ∧ (lineS.ward Plane.a).mchk = true)
  ∧ (mk2.chanter = some Plane.a ∧ eligible Plane.a.other true mk2 = true ∧ mk2.red.readyAt ≠ none ∧ mk2.red.firstCycle < mk2.n ∧
      mk2.red.pathP = false ∧ (mk2.ward Plane.a).toggled = false) := by
  refine ⟨?_, ?_⟩ <;> decide +kernel

/-- The hypotheses of PlannedSwapsAndRetirement can be met, clause by clause. -/
theorem witness_PlannedSwapsAndRetirement :
    (two.chanter = some Plane.a)
  ∧ (two.chanter = some Plane.a ∧ native two = true ∧ eligible Plane.a.other false two = true)
  ∧ (dueS.chanter = some Plane.a ∧ dueS.red.swapSent = true ∧ dueS.red.applied = some dueS.red.lastCommit ∧
      eligible Plane.a.other false dueS = true ∧ (dueS.ward Plane.a).mchk = false)
  ∧ (mk3.chanter = some Plane.a ∧ mk3.red.swapSent = true ∧ mk3.red.applied ≠ some mk3.red.lastCommit)
  ∧ (mk4.chanter = some Plane.a ∧ swapDue mk4 = some SwapCause.host)
  ∧ ((6 : Nat) ≤ 12)
  ∧ (two.chanter ≠ some Plane.b ∧ planeState Plane.b two ≠ 5)
  ∧ (two.dg (R.RED_PLANE Plane.b.code) F.RED_PLANE_HOLDOFF ≠ 1)
  ∧ (planeState Plane.b (pst Plane.b 3 two) = 3)
  ∧ (planeState Plane.b (pst Plane.b 5 two) = 5 ∧ ((pst Plane.b 5 two).ward Plane.b).unusable = false ∧
      (pst Plane.b 5 two).dg R.RED_STATUS F.RED_STATUS_HALT = 0)
  ∧ ((two.dp (R.RED_PLANE 1) F.RED_PLANE_HOLDOFF 1).dg (R.RED_PLANE Plane.b.code) F.RED_PLANE_HOLDOFF = 1)
  ∧ (lit.chanter = some Plane.a ∧ 6 = lit.dg R.RED_EPOCH F.RED_EPOCH_EPOCH ∧ 6 ≠ 0)
  ∧ (linkDrops Plane.b Stage.sense lit = true)
  ∧ ((lit.chanter ≠ some Plane.b ∨ 6 ≠ lit.dg R.RED_EPOCH F.RED_EPOCH_EPOCH ∨ 6 = 0) ∧
      (true = true ∨ linkDrops Plane.b Stage.sense lit = false)) := by
  refine ⟨?_, ?_, ?_, ?_, ?_, ?_, ?_, ?_, ?_, ?_, ?_, ?_, ?_, ?_⟩ <;> decide +kernel

/-- The hypotheses of PlanesReportAndAreConfigured can be met, clause by clause. -/
theorem witness_PlanesReportAndAreConfigured :
    (two.get Plane.a R.RDB_STATUS F.RDB_STATUS_STATE = 0)
  ∧ ((2 : Nat) ≤ 3)
  ∧ (two.chanter = some Plane.a ∧ two.red.readyAt = none)
  ∧ (two.chanter = some Plane.a ∧ two.anyClosed = false ∧
      segCheck (segWritten Plane.a (two.put Plane.a (R.PLANE_REPL_SIZE 0) F.PLANE_REPL_SIZE_WORDS (F.PLANE_REPL_SIZE_WORDS.get 0))) = 0)
  ∧ (two.chanter = some Plane.a ∧ two.anyClosed = false ∧
      segCheck (segWritten Plane.a (two.put Plane.a (R.PLANE_REPL_BASE 0) F.PLANE_REPL_BASE_ADDR (F.PLANE_REPL_BASE_ADDR.get 0))) = 0)
  ∧ ((two.dp R.RED_STATUS F.RED_STATUS_MODE 1).chanter = some Plane.a ∧ native (two.dp R.RED_STATUS F.RED_STATUS_MODE 1) = false ∧
      planeState Plane.a.other (two.dp R.RED_STATUS F.RED_STATUS_MODE 1) = 2)
  ∧ ((two.put Plane.a (R.CLE_CH_STATUS 0) F.CLE_CH_STATUS_MODE 3).chanter = some Plane.a ∧
      (two.put Plane.a (R.CLE_CH_STATUS 0) F.CLE_CH_STATUS_MODE 3).anyClosed = true) := by
  refine ⟨?_, ?_, ?_, ?_, ?_, ?_, ?_⟩ <;> decide +kernel

end Sys2Proof.Tests.W3
end

