-- ==== Sys2Proof/Tests/Witness4.lean ====
section
/-! SUPPORT. Witnesses, part 4: states and operands that meet the hypotheses of each clause of a statement together. -/

open Sys2Proof Sys2Proof.Machine Sys2Proof.Tests

namespace Sys2Proof.Tests.W4

set_option Elab.async false
set_option linter.all false
set_option maxRecDepth 100000

def s0 := State.reset
def pst (q : Plane) (n : Nat) (s : State) : State := setPlaneState q n s
def two : State := pst .b 2 (pst .a 1 granted)
def dirty : State := let s := two.sput .a 17 9; s
def cyc1 (s : State) : State := { s.dp R.TIM_CYC_STATUS F.TIM_CYC_STATUS_STATE 1 with cyc := { s.cyc with inCycle := true } }
def dirty2 : State := let dirty := cyc1 dirty; let p := dirty.pa; { dirty with pa := { p with xlk := { p.xlk with dirty := [2, 5] } } }
def recv : State := { two with xlk := [.line 3 [1,2,3,4,0,6,7,8], .breath []] }
def sweepS : State := let s := two; let s := s.setRep .a { s.rep .a with act := sPut regReset (s.rep .a).act (R.PLANE_REPL_SIZE 0) (F.PLANE_REPL_SIZE_WORDS.set 0 64) }; s.setPlane .a { s.pa with xlk := { s.pa.xlk with sweeping := true, swept := 3, room := 8 } }
def mk1 := { two with xlk := [.breath [7]] }
def mk1b := { two with xlk := [.breath [0x40007, 0, 5, 0]] }
def mk2 := { (pst .b 4 two) with xlk := [.breath [7]] }
def dom (d n : Nat) (s : State) : State := s.dp (R.BEL_DOM_STATUS d) F.BEL_DOM_STATUS_STATE n
def up9 : State := s0.dp (R.BEL_DOM_CFG 9) F.BEL_DOM_CFG_TOL_NS (2^32-1)
def idle8 : State := (setStage 8 s0).dp (R.BEL_DOM_CFG 8) F.BEL_DOM_CFG_TOL_NS (2^32-1)
def hostBob : Bobbin := ⟨wordN (2^35 + 8), 0x2000, 0, 0x30000, wordN (2^32), 0⟩
def idle3 : State := let s := (setStage 8 granted).dp (R.BEL_DOM_CFG 9) F.BEL_DOM_CFG_TOL_NS (2^32-1)
  s.setDma .a { s.dma .a with bursts := [⟨3,0,2,[1,2],false,0⟩], chs := (s.dma .a).chs.set 3 { dmaIdle with bob := some hostBob, issued := 2 } }
def mk3 := { s0 with bel := { s0.bel with entering := s0.bel.entering.set 9 (some 2) } }
def mk4 := { (dom 9 2 s0) with bel := { s0.bel with wake := s0.bel.wake.set 9 (some 77) } }
def heldW : HeldAccess := .write R.CST_SCRUB .a 0x55
def mk4b := { (dom 3 2 granted) with bel := { s0.bel with wake := s0.bel.wake.set 3 (some 77), held := [heldW] } }
def mk5 := (two.setWard .b { two.ward .b with inReset := false })
def miss (i n g : Nat) : State := { two with cyc := { two.cyc with miss := s0.cyc.miss.set i n, good := s0.cyc.good.set i g } }
def gn (f : Bool) : GNode := ⟨0, 0, 0, 0, f, 0, []⟩
def gr (k : Nat) (f : Bool) : GraphSt := ⟨k, [gn f], [0], [], [(0, 1)], 0, 1000⟩
def graphS (k : Nat) (f : Bool) : State := let p := s0.pb; { (pst .b 4 granted) with pb := { p with graph := some (gr k f) } }

def gw : List Word := let b : List Word := [wordN (6*2^28 + 2^20 + 2*2^16 + 1), 1000, 0, 0, 0, 0, 0, 0]; b ++ [wordN (crc32 b)]
def mk6 : State := (let s := (pst .b 4 two).setWard .b { two.ward .b with inReset := true }; { s with tab := { s.tab with bist := gw } } )

/-- The hypotheses of CopyLinesCrossXlk can be met, clause by clause. -/
theorem witness_CopyLinesCrossXlk :
    (dirty2.chanter = some Plane.a ∧ xlkFailed dirty2 = false ∧ (dirty2.plane Plane.a).xlk.exceeded = false ∧
      beforeCommit dirty2 = true ∧ (dirty2.plane Plane.a).xlk.dirty = [2, 5] ∧
      (dirty2.plane Plane.a).xlk.sent + 8 ≤ copyBudget dirty2 ∧ dirty2.poisoned Plane.a (8 * 2) 8 = false)
  ∧ (sweepS.chanter = some Plane.a ∧ xlkFailed sweepS = false ∧ (sweepS.plane Plane.a).xlk.exceeded = false ∧
      (beforeCommit sweepS = false ∨ (sweepS.plane Plane.a).xlk.dirty = []) ∧ (sweepS.plane Plane.a).xlk.sweeping = true ∧
      8 ≤ (sweepS.plane Plane.a).xlk.room ∧ sweepLine (sweepSegs Plane.a sweepS) (sweepS.plane Plane.a).xlk.swept = some 3 ∧
      sweepS.poisoned Plane.a (8 * 3) 8 = false)
  ∧ (recv.chanter = some Plane.a ∧ recv.xlk = [XlkItem.line 3 [1, 2, 3, 4, 0, 6, 7, 8], XlkItem.breath []] ∧
      (planeState Plane.a.other recv = 2 ∨ planeState Plane.a.other recv = 3) ∧ [1, 2, 3, 4, 0, 6, 7, 8].length = 8 ∧
      (recv.plane Plane.a.other).xlk.undo = [])
  ∧ (mk1.chanter = some Plane.a ∧ mk1.xlk = [XlkItem.breath [7]] ∧ planeState Plane.a.other mk1 = 2 ∧
      bitN (BitVec.toNat (nth ([7] : List Word) 0 0)) 18 = false)
  ∧ (mk1b.chanter = some Plane.a ∧ mk1b.xlk = [XlkItem.breath [262151, 0, 5, 0]] ∧ planeState Plane.a.other mk1b = 2 ∧
      bitN (BitVec.toNat (nth ([262151, 0, 5, 0] : List Word) 0 0)) 18 = true)
  ∧ (mk2.chanter = some Plane.a ∧ mk2.xlk = [XlkItem.breath [7]] ∧ planeState Plane.a.other mk2 = 4) := by
  refine ⟨?_, ?_, ?_, ?_, ?_, ?_⟩ <;> decide +kernel

/-- The hypotheses of DomainsEnterAndWake can be met, clause by clause. -/
theorem witness_DomainsEnterAndWake :
    (idle8.bel.entering.length = 12 ∧ idle8.bel.deferred.length = 12 ∧ belControls 8 idle8 = true ∧
      nth idle8.bel.wake 8 none = none ∧ dmaUses 8 idle8 = [] ∧
      idle8.dom 8 < chooseWithin 8 (min (min (maxDepth 8 idle8) (deepestOf 8)) (floorOf 8 idle8)) (10 ^ 9) idle8 ∧
      chooseWithin 8 (min (min (maxDepth 8 idle8) (deepestOf 8)) (floorOf 8 idle8)) (10 ^ 9) idle8 < 8)
  ∧ (s0.bel.entering.length = 12 ∧ s0.bel.deferred.length = 12 ∧ belControls 1 s0 = false)
  ∧ (idle3.bel.entering.length = 12 ∧ idle3.bel.deferred.length = 12 ∧ belControls 9 idle3 = true ∧
      nth idle3.bel.wake 9 none = none ∧ ((dmaUses 9 idle3).any fun x => x.flying) = true ∧
      idle3.dom 9 < chooseWithin 9 (min (min (maxDepth 9 idle3) (deepestOf 9)) (floorOf 9 idle3)) (10 ^ 9) idle3 ∧
      chooseWithin 9 (min (min (maxDepth 9 idle3) (deepestOf 9)) (floorOf 9 idle3)) (10 ^ 9) idle3 < 8)
  ∧ (mk3.bel.entering.length = 12 ∧ mk3.bel.deferred.length = 12 ∧ nth mk3.bel.entering 9 none = some 2 ∧ 2 < 8)
  ∧ ((dom 9 2 s0).bel.entering.length = 12 ∧ (dom 9 2 s0).bel.deferred.length = 12 ∧ 1 ≤ (dom 9 2 s0).dom 9 ∧
      (dom 9 2 s0).dom 9 ≤ 4 ∧ (dom 9 2 s0).bel.wake.length = 12)
  ∧ ((dom 9 2 s0).bel.entering.length = 12 ∧ (dom 9 2 s0).bel.deferred.length = 12)
  ∧ (nth mk4.bel.wake 9 none = some 77 ∧ mk4.bel.wake.length = 12 ∧ mk4.bel.held = [])
  ∧ (nth s0.bel.wake 9 none = none)
  ∧ (nth mk4b.bel.wake 3 none = some 77 ∧ mk4b.bel.wake.length = 12 ∧ mk4b.bel.held = [HeldAccess.write R.CST_SCRUB Plane.a 85] ∧
      domainOf Plane.a (keyOf R.CST_SCRUB) = some 3 ∧ plainKey (keyOf R.CST_SCRUB) = true ∧ isReg (keyOf R.CST_SCRUB) = true ∧
      discards Plane.a (keyOf R.CST_SCRUB) mk4b = false) := by
  refine ⟨?_, ?_, ?_, ?_, ?_, ?_, ?_, ?_, ?_⟩ <;> decide +kernel

/-- The hypotheses of LinksBeaconsAndRails can be met, clause by clause. -/
theorem witness_LinksBeaconsAndRails :
    (s0.cyc.miss.length = 40 ∧ hearsBeacons 0 s0 = false)
  ∧ (s0.boot.up = false)
  ∧ (3 < 4 ∧ Link.wardenSense ≠ Link.xlk ∧ two.links.length = 15)
  ∧ (3 < 4 ∧ (mk5.ward Plane.b).inReset = false)
  ∧ ((4 : Nat) ≤ 4 ∧ two.links.length = 15 ∧ (nth two.links Link.portA.num { retries := 0, failed := false }).failed = false ∧
      linkPlane Link.portA = some Plane.a ∧ planeState Plane.a two ≠ 5)
  ∧ ((4 : Nat) ≤ 4 ∧ two.links.length = 15 ∧ (nth two.links Link.wardenPort.num { retries := 0, failed := false }).failed = false ∧
      linkPlane Link.wardenPort = none ∧ Link.wardenPort ≠ Link.xlk)
  ∧ ((4 : Nat) ≤ 4 ∧ (pst Plane.b 3 two).links.length = 15 ∧
      (nth (pst Plane.b 3 two).links Link.xlk.num { retries := 0, failed := false }).failed = false ∧
      (pst Plane.b 3 two).chanter = some Plane.a ∧ planeState Plane.a.other (pst Plane.b 3 two) ≠ 2)
  ∧ ((miss 36 5 0).cyc.miss.length = 40 ∧ hearsBeacons 36 (miss 36 5 0) = true ∧ nth (miss 36 5 0).cyc.good 36 0 = 0 ∧
      nth (miss 36 5 0).cyc.miss 36 0 ≠ 7 ∧ nth (miss 36 5 0).cyc.miss 36 0 ≠ 63)
  ∧ ((miss 36 5 1).cyc.miss.length = 40 ∧ hearsBeacons 36 (miss 36 5 1) = true ∧ nth (miss 36 5 1).cyc.good 36 0 ≠ 0 ∧
      nth (miss 36 5 1).cyc.miss 36 0 < 64)
  ∧ ((miss 36 7 0).cyc.miss.length = 40 ∧ hearsBeacons 36 (miss 36 7 0) = true ∧ nth (miss 36 7 0).cyc.good 36 0 = 0 ∧
      nth (miss 36 7 0).cyc.miss 36 0 = 7)
  ∧ (((miss 3 63 0).setWard Plane.a { interlock := (two.ward Plane.a).interlock, mchk := (two.ward Plane.a).mchk, toggled := (two.ward Plane.a).toggled, noToggle := (two.ward Plane.a).noToggle, faults := (two.ward Plane.a).faults, holdNext := (two.ward Plane.a).holdNext, unusable := (two.ward Plane.a).unusable, inReset := false, healthAt := (two.ward Plane.a).healthAt, since := (two.ward Plane.a).since }).cyc.miss.length = 40 ∧
      hearsBeacons 3 ((miss 3 63 0).setWard Plane.a { interlock := (two.ward Plane.a).interlock, mchk := (two.ward Plane.a).mchk, toggled := (two.ward Plane.a).toggled, noToggle := (two.ward Plane.a).noToggle, faults := (two.ward Plane.a).faults, holdNext := (two.ward Plane.a).holdNext, unusable := (two.ward Plane.a).unusable, inReset := false, healthAt := (two.ward Plane.a).healthAt, since := (two.ward Plane.a).since }) = true ∧
      nth ((miss 3 63 0).setWard Plane.a { interlock := (two.ward Plane.a).interlock, mchk := (two.ward Plane.a).mchk, toggled := (two.ward Plane.a).toggled, noToggle := (two.ward Plane.a).noToggle, faults := (two.ward Plane.a).faults, holdNext := (two.ward Plane.a).holdNext, unusable := (two.ward Plane.a).unusable, inReset := false, healthAt := (two.ward Plane.a).healthAt, since := (two.ward Plane.a).since }).cyc.good 3 0 = 0 ∧
      nth ((miss 3 63 0).setWard Plane.a { interlock := (two.ward Plane.a).interlock, mchk := (two.ward Plane.a).mchk, toggled := (two.ward Plane.a).toggled, noToggle := (two.ward Plane.a).noToggle, faults := (two.ward Plane.a).faults, holdNext := (two.ward Plane.a).holdNext, unusable := (two.ward Plane.a).unusable, inReset := false, healthAt := (two.ward Plane.a).healthAt, since := (two.ward Plane.a).since }).cyc.miss 3 0 = 63 ∧
      islandPlane 3 = some Plane.a)
  ∧ (railOk Plane.b (withBoot (pst Plane.b 5 two) fun b => { up := b.up, hot := b.hot, found := b.found, refclkMHz := b.refclkMHz, refclk := b.refclk, railA := b.railA, railB := true, vbatLost := b.vbatLost, since := b.since, readyAt := b.readyAt, tried := b.tried, man := b.man, placed := b.placed, lanesDone := b.lanesDone, storeDone := b.storeDone, loaded1 := b.loaded1, loaded2 := b.loaded2, graphDone := b.graphDone, keys := b.keys, job := b.job, flash := b.flash, flashed := b.flashed, ir := b.ir, dr := b.dr, extest := b.extest, chal := b.chal, chals := b.chals }) = true ∧
      (withBoot (pst Plane.b 5 two) fun b => { up := b.up, hot := b.hot, found := b.found, refclkMHz := b.refclkMHz, refclk := b.refclk, railA := b.railA, railB := true, vbatLost := b.vbatLost, since := b.since, readyAt := b.readyAt, tried := b.tried, man := b.man, placed := b.placed, lanesDone := b.lanesDone, storeDone := b.storeDone, loaded1 := b.loaded1, loaded2 := b.loaded2, graphDone := b.graphDone, keys := b.keys, job := b.job, flash := b.flash, flashed := b.flashed, ir := b.ir, dr := b.dr, extest := b.extest, chal := b.chal, chals := b.chals }).chanter ≠ some Plane.b ∧
      planeState Plane.b (withBoot (pst Plane.b 5 two) fun b => { up := b.up, hot := b.hot, found := b.found, refclkMHz := b.refclkMHz, refclk := b.refclk, railA := b.railA, railB := true, vbatLost := b.vbatLost, since := b.since, readyAt := b.readyAt, tried := b.tried, man := b.man, placed := b.placed, lanesDone := b.lanesDone, storeDone := b.storeDone, loaded1 := b.loaded1, loaded2 := b.loaded2, graphDone := b.graphDone, keys := b.keys, job := b.job, flash := b.flash, flashed := b.flashed, ir := b.ir, dr := b.dr, extest := b.extest, chal := b.chal, chals := b.chals }) = 5)
  ∧ (railOk Plane.a (withBoot two fun b => { up := b.up, hot := b.hot, found := b.found, refclkMHz := b.refclkMHz, refclk := b.refclk, railA := true, railB := true, vbatLost := b.vbatLost, since := b.since, readyAt := b.readyAt, tried := b.tried, man := b.man, placed := b.placed, lanesDone := b.lanesDone, storeDone := b.storeDone, loaded1 := b.loaded1, loaded2 := b.loaded2, graphDone := b.graphDone, keys := b.keys, job := b.job, flash := b.flash, flashed := b.flashed, ir := b.ir, dr := b.dr, extest := b.extest, chal := b.chal, chals := b.chals }) = true ∧
      (withBoot two fun b => { up := b.up, hot := b.hot, found := b.found, refclkMHz := b.refclkMHz, refclk := b.refclk, railA := true, railB := true, vbatLost := b.vbatLost, since := b.since, readyAt := b.readyAt, tried := b.tried, man := b.man, placed := b.placed, lanesDone := b.lanesDone, storeDone := b.storeDone, loaded1 := b.loaded1, loaded2 := b.loaded2, graphDone := b.graphDone, keys := b.keys, job := b.job, flash := b.flash, flashed := b.flashed, ir := b.ir, dr := b.dr, extest := b.extest, chal := b.chal, chals := b.chals }).chanter = some Plane.a ∧
      eligible Plane.a.other true (withBoot two fun b => { up := b.up, hot := b.hot, found := b.found, refclkMHz := b.refclkMHz, refclk := b.refclk, railA := true, railB := true, vbatLost := b.vbatLost, since := b.since, readyAt := b.readyAt, tried := b.tried, man := b.man, placed := b.placed, lanesDone := b.lanesDone, storeDone := b.storeDone, loaded1 := b.loaded1, loaded2 := b.loaded2, graphDone := b.graphDone, keys := b.keys, job := b.job, flash := b.flash, flashed := b.flashed, ir := b.ir, dr := b.dr, extest := b.extest, chal := b.chal, chals := b.chals }) = true) := by
  refine ⟨?_, ?_, ?_, ?_, ?_, ?_, ?_, ?_, ?_, ?_, ?_, ?_, ?_⟩ <;> decide +kernel

/-- The hypotheses of GraphsEnd can be met, clause by clause. -/
theorem witness_GraphsEnd :
    (((graphS 2 false).plane Plane.b).graph = some (gr 2 false) ∧ (gr 2 false).kind = 2 ∧ 3 ≠ 0 ∧ (gr 2 false).running = [(0, 1)] ∧
      opOf (nth (gr 2 false).nodes 0 { exec := 0, mask := 0, op := 0, thresh := 0, final := false, arg := 0, succ := [] }) (graphS 2 false) ≠ some NodeOp.storeTest)
  ∧ (((pst Plane.b 3 (graphS 3 true)).plane Plane.b).graph = some (gr 3 true) ∧ (gr 3 true).kind = 3 ∧
      (gr 3 true).running = [(0, 1)] ∧
      (nth (gr 3 true).nodes 0 { exec := 0, mask := 0, op := 0, thresh := 0, final := false, arg := 0, succ := [] }).final = true ∧
      opOf (nth (gr 3 true).nodes 0 { exec := 0, mask := 0, op := 0, thresh := 0, final := false, arg := 0, succ := [] }) (pst Plane.b 3 (graphS 3 true)) = none)
  ∧ (((graphS 2 false).plane Plane.b).graph = some (gr 2 false) ∧ (gr 2 false).kind = 2)
  ∧ (planeState Plane.b (withBoot mk6 fun b => { up := b.up, hot := b.hot, found := b.found, refclkMHz := b.refclkMHz, refclk := b.refclk, railA := true, railB := true, vbatLost := b.vbatLost, since := b.since, readyAt := b.readyAt, tried := b.tried, man := b.man, placed := b.placed, lanesDone := b.lanesDone, storeDone := b.storeDone, loaded1 := b.loaded1, loaded2 := b.loaded2, graphDone := b.graphDone, keys := b.keys, job := b.job, flash := b.flash, flashed := b.flashed, ir := b.ir, dr := b.dr, extest := b.extest, chal := b.chal, chals := b.chals }) = 4 ∧
      ((withBoot mk6 fun b => { up := b.up, hot := b.hot, found := b.found, refclkMHz := b.refclkMHz, refclk := b.refclk, railA := true, railB := true, vbatLost := b.vbatLost, since := b.since, readyAt := b.readyAt, tried := b.tried, man := b.man, placed := b.placed, lanesDone := b.lanesDone, storeDone := b.storeDone, loaded1 := b.loaded1, loaded2 := b.loaded2, graphDone := b.graphDone, keys := b.keys, job := b.job, flash := b.flash, flashed := b.flashed, ir := b.ir, dr := b.dr, extest := b.extest, chal := b.chal, chals := b.chals }).ward Plane.b).inReset = true ∧
      railOk Plane.b (withBoot mk6 fun b => { up := b.up, hot := b.hot, found := b.found, refclkMHz := b.refclkMHz, refclk := b.refclk, railA := true, railB := true, vbatLost := b.vbatLost, since := b.since, readyAt := b.readyAt, tried := b.tried, man := b.man, placed := b.placed, lanesDone := b.lanesDone, storeDone := b.storeDone, loaded1 := b.loaded1, loaded2 := b.loaded2, graphDone := b.graphDone, keys := b.keys, job := b.job, flash := b.flash, flashed := b.flashed, ir := b.ir, dr := b.dr, extest := b.extest, chal := b.chal, chals := b.chals }) = true ∧
      (graphLoad (withBoot mk6 fun b => { up := b.up, hot := b.hot, found := b.found, refclkMHz := b.refclkMHz, refclk := b.refclk, railA := true, railB := true, vbatLost := b.vbatLost, since := b.since, readyAt := b.readyAt, tried := b.tried, man := b.man, placed := b.placed, lanesDone := b.lanesDone, storeDone := b.storeDone, loaded1 := b.loaded1, loaded2 := b.loaded2, graphDone := b.graphDone, keys := b.keys, job := b.job, flash := b.flash, flashed := b.flashed, ir := b.ir, dr := b.dr, extest := b.extest, chal := b.chal, chals := b.chals }).tab.bist).isSome = true)
  ∧ (((graphS 2 false).plane Plane.b).graph = some (gr 2 false) ∧ (gr 2 false).running = [(0, 1)] ∧ (gr 2 false).ready = [] ∧
      (nth (gr 2 false).nodes 0 { exec := 0, mask := 0, op := 0, thresh := 0, final := false, arg := 0, succ := [] }).final = false ∧
      (nth (gr 2 false).nodes 0 { exec := 0, mask := 0, op := 0, thresh := 0, final := false, arg := 0, succ := [] }).succ = [] ∧
      opOf (nth (gr 2 false).nodes 0 { exec := 0, mask := 0, op := 0, thresh := 0, final := false, arg := 0, succ := [] }) (graphS 2 false) = none) := by
  refine ⟨?_, ?_, ?_, ?_, ?_⟩ <;> decide +kernel

end Sys2Proof.Tests.W4
end

