-- ==== Sys2Proof/Tests/Witness5.lean ====
section
/-! SUPPORT. Witnesses, part 5: states and operands that meet the hypotheses of each clause of a statement together. -/

open Sys2Proof Sys2Proof.Machine Sys2Proof.Tests

namespace Sys2Proof.Tests.W5

set_option Elab.async false
set_option linter.all false
set_option maxRecDepth 100000

def s0 := State.reset
def pst (q : Plane) (n : Nat) (s : State) : State := setPlaneState q n s
def two : State := let s := pst .b 2 (pst .a 1 granted); { s with red := { s.red with readyAt := some 0 } }
def cyc (n : Nat) (s : State) : State := s.dp R.TIM_CYC_STATUS F.TIM_CYC_STATUS_STATE n
def running (s : State) : State := let s := cyc 1 s; { s with cyc := { s.cyc with inCycle := true, starts := 3, tick := 1000, nextTick := 1500 }, now := 250000000 }
def mk1 := { s0 with now := 123456789 }
def mk2 : State := (let s := running two; { s with cyc := { s.cyc with step := some 5000000 } })
def mk3 : State := (let s := running two; { s with cyc := { s.cyc with step := some 5000000 } })
def c0cfg : CycCfg := cycWritten s0
def pendS : State := (let s := running two; { s with cyc := { s.cyc with pend := some c0cfg } })
def mk4 := (running (let s := s0; { s with cyc := { s.cyc with evp := s.cyc.evp.set 0 (wordN (2^35 + 100)) } }))
def setLinks (s : State) (k : Nat) : State := { s with links := s.links.set k ⟨0, true⟩ }
def F1 : Word := F.TIM_CYC_EVP_OFFSET_NS.set (F.TIM_CYC_EVP_EN.set 0 1) 100
def fires : State := (let s := running two; { s with cyc := { s.cyc with evp := s.cyc.evp.set 2 F1 } })
def late : State := ((running two).put .a (R.CLE_CH_STATUS 0) F.CLE_CH_STATUS_MODE 1)
def lev : State := let s := running s0; { s with fio := { s.fio with levels := some 0x8005 } }
def cont (e : Nat) : CommitContent := ⟨.a, e, 3, [], 0x55, true⟩
def contB : CommitContent := {cont 0 with plane := .b}
def arr (c : CommitContent) : State := let s := running two; { s with red := { s.red with content := some c } }
def livePl : State := (running two).setWard .a { two.ward .a with inReset := false }
def ran : State := let s := running two; s.setCle .a { s.cle .a with chs := (s.cle .a).chs.map fun x => { x with ran := 3 } }

def di3 : State := ((s0.dp (R.FIO_DI_STATUS 3) F.FIO_DI_STATUS_UNKNOWN 0).dp (R.FIO_DI_STATUS 3) F.FIO_DI_STATUS_RAW 1)
def di3p : State := di3.dp (R.FIO_DI_CFG 3) F.FIO_DI_CFG_PICOT 3
def di3f : State := { di3p with fio := { di3p.fio with fifo := List.replicate 64 [0,0,0,0] } }
def pic : State := { granted with fio := { s0.fio with fifo := [[1,2,3,4],[5]], picBase := 512 } }
def pw : List Word := [1,2,3,4]
def pr : List (List Word) := [[5]]
def pic6 : State := (pic.setWard .a { pic.ward .a with inReset := false }).dp R.FIO_PICOT_CFG F.FIO_PICOT_CFG_SIZE_LOG2 6
def safeTab : SafetyTab := ⟨0,[],[],[],[],[],[],0,[],(0,1),[(5,3,true)],[(1,true)]⟩
def tabS : State := { s0 with tab := { s0.tab with safety := some safeTab } }
def on (k : Nat) (s : State) : State := (s.dp (R.FIO_DO_STATUS k) F.FIO_DO_STATUS_OUT 1).dp (R.FIO_DO_STATUS k) F.FIO_DO_STATUS_CMD 1
def dz : DoSt := ⟨false, none, false, false, false, false, false, false, 5000⟩
def dos (k : Nat) (x : DoSt) (s : State) : State := { s with fio := { s.fio with dos := s.fio.dos.set k x } }
def mk9 := (dos 3 {dz with retry := true} s0)
def mk10 := (dos 3 {dz with latched := true} s0)
def mk11 := (dos 3 {dz with failed := true, ext := true} s0)
def sup (n : Nat) (s : State) : State := s.dp R.FIO_STATUS F.FIO_STATUS_SUPPLY n
def mk12 := (sup 1 { s0 with fio := { s0.fio with low := some 7 } })
def mk13 := (sup 1 { s0 with fio := { s0.fio with good := some 7 } })
def mk14 := ((sup 2 { s0 with fio := { s0.fio with back := some 7 } }).dp R.FIO_CFG F.FIO_CFG_SAG_RESTORE 0)
def mk15 := { s0 with fio := { s0.fio with unmarked := 20} }
def perm : State := let s := two.setSsm .one .a { two.ssm .one .a with permit := true }; { s with ssm2 := { s.ssm2 with permit := true }, fio := { s.fio with ssa := true, unasked := 4 } }

/-- The hypotheses of TheSequencerStartsCycles can be met, clause by clause. -/
theorem witness_TheSequencerStartsCycles :
    (cycState s0 = 0 ∧ bootStage s0 ≠ 6 ∧ bootStage s0 ≠ 9)
  ∧ (cycState s0 ≠ 1)
  ∧ ((cycState mk2 ≠ 0 ∨ bootStage mk2 = 9))
  ∧ (cycState (running two) = 1 ∧ changeDue (running two) = false)
  ∧ (cycState (cyc 2 (running two)) = 2)
  ∧ (cycState mk2 = 1 ∧ changeDue mk2 = true ∧ mk2.cyc.pend = none)
  ∧ (inCycle mk3 = true ∧ stepDue mk3 = some 5000000 ∧ mk3.cyc.pend = none)
  ∧ (cycState pendS = 1 ∧ pendS.cyc.inCycle = true ∧ pendS.cyc.pend = some c0cfg ∧ stepDue pendS = none) := by
  refine ⟨?_, ?_, ?_, ?_, ?_, ?_, ?_, ?_⟩ <;> decide +kernel

/-- The hypotheses of ApplyChecksTheConfiguration can be met, clause by clause. -/
theorem witness_ApplyChecksTheConfiguration :
    (applyRefusal (cycWritten s0) s0 = 0 ∧ cycState s0 = 0)
  ∧ ((3 : Nat) ≤ 3)
  ∧ (applyRefusal (cycWritten (running two)) (running two) = 0 ∧ inCycle (running two) = true)
  ∧ (applyRefusal (cycWritten (s0.dp R.TIM_CYC_PERIOD F.TIM_CYC_PERIOD_PERIOD_Q 3)) (s0.dp R.TIM_CYC_PERIOD F.TIM_CYC_PERIOD_PERIOD_Q 3) ≠ 0) := by
  refine ⟨?_, ?_, ?_, ?_⟩ <;> decide +kernel

/-- The hypotheses of TheCycleHasItsPoints can be met, clause by clause. -/
theorem witness_TheCycleHasItsPoints :
    (evpFires 0 s0 = false)
  ∧ (inCycle s0 = false)
  ∧ (inCycle mk4 = true ∧ cycleChanter mk4 = none)
  ∧ (inCycle mk4 = true)
  ∧ (evpFires 0 mk4 = true)
  ∧ (inCycle late = true ∧ cycleChanter late = some Plane.a ∧
      (engineLate Plane.a (each (intakePlanes ((late.toTime (late.atOfs R.TIM_CYC_ACT_COMMIT_OFS)).dp R.TIM_CYC_STATUS F.TIM_CYC_STATUS_PHASE 3)) takeSample ((late.toTime (late.atOfs R.TIM_CYC_ACT_COMMIT_OFS)).dp R.TIM_CYC_STATUS F.TIM_CYC_STATUS_PHASE 3)) = true ∨ ssmLate Plane.a (each (intakePlanes ((late.toTime (late.atOfs R.TIM_CYC_ACT_COMMIT_OFS)).dp R.TIM_CYC_STATUS F.TIM_CYC_STATUS_PHASE 3)) takeSample ((late.toTime (late.atOfs R.TIM_CYC_ACT_COMMIT_OFS)).dp R.TIM_CYC_STATUS F.TIM_CYC_STATUS_PHASE 3)) = true))
  ∧ ((arr contB).red.content = some contB ∧ (false = false ∨ (arr contB).linkUp (stageLink contB.plane Stage.port) = false))
  ∧ ((arr (cont 0)).red.content = some (cont 0) ∧ (arr (cont 0)).chanter = some (cont 0).plane ∧
      (cont 0).epoch = (arr (cont 0)).dg R.RED_EPOCH F.RED_EPOCH_EPOCH ∧ (arr (cont 0)).linkUp (portLink (cont 0).plane) = true)
  ∧ ((arr (cont 0)).red.content = some (cont 0) ∧ (arr (cont 0)).chanter = some (cont 0).plane ∧
      (cont 0).epoch = (arr (cont 0)).dg R.RED_EPOCH F.RED_EPOCH_EPOCH ∧ (arr (cont 0)).linkUp (fieldLink (cont 0).plane) = true)
  ∧ ((arr contB).red.content = some contB ∧ (arr contB).linkUp (stageLink contB.plane Stage.port) = true ∧
      ((arr contB).chanter ≠ some contB.plane ∨ contB.epoch ≠ (arr contB).dg R.RED_EPOCH F.RED_EPOCH_EPOCH))
  ∧ (inCycle livePl = true ∧ fieldLost livePl = false ∧ planeState Plane.a livePl ≠ 5 ∧ livePl.linkUp (fieldLink Plane.a) = true ∧
      livePl.linkUp (storeLink Plane.a) = true ∧ (livePl.ward Plane.a).inReset = false ∧
      BitVec.toNat (livePl.rd Plane.a R.FIO_IMG_BASE) / 4 * 4 + 4 ≤ storeWords) := by
  refine ⟨?_, ?_, ?_, ?_, ?_, ?_, ?_, ?_, ?_, ?_, ?_⟩ <;> decide +kernel

/-- The hypotheses of InputsAreDebounced can be met, clause by clause. -/
theorem witness_InputsAreDebounced :
    (s0.fio.dis.length = 32)
  ∧ ((s0.dg (R.FIO_DI_STATUS 0) F.FIO_DI_STATUS_UNKNOWN = 1 ∨ s0.dg (R.FIO_DI_STATUS 0) F.FIO_DI_STATUS_RAW = s0.dg (R.FIO_DI_STATUS 0) F.FIO_DI_STATUS_LEVEL))
  ∧ (s0.dg (R.FIO_DI_STATUS 0) F.FIO_DI_STATUS_UNKNOWN = 1 ∧ cutOff s0 = false)
  ∧ ((s0.fio.fifo = [] ∨ fieldLost s0 = true))
  ∧ (s0.tab.safety = none)
  ∧ (di3.dg (R.FIO_DI_STATUS 3) F.FIO_DI_STATUS_UNKNOWN = 0 ∧
      di3.dg (R.FIO_DI_STATUS 3) F.FIO_DI_STATUS_RAW ≠ di3.dg (R.FIO_DI_STATUS 3) F.FIO_DI_STATUS_LEVEL)
  ∧ ((di3.dg (R.FIO_DI_STATUS 3) F.FIO_DI_STATUS_UNKNOWN = 0 ∨ cutOff di3 = true))
  ∧ (pic6.fio.fifo = pw :: pr ∧ pw.length = 4 ∧ fieldLost pic6 = false ∧ 6 ≤ pic6.dg R.FIO_PICOT_CFG F.FIO_PICOT_CFG_SIZE_LOG2 ∧
      pic6.dg R.FIO_PICOT_CFG F.FIO_PICOT_CFG_SIZE_LOG2 ≤ 16 ∧
      pic6.fio.picBase / 2 ^ (2 + pic6.dg R.FIO_PICOT_CFG F.FIO_PICOT_CFG_SIZE_LOG2) * 2 ^ (2 + pic6.dg R.FIO_PICOT_CFG F.FIO_PICOT_CFG_SIZE_LOG2) + 4 * (pic6.dg R.FIO_PICOT_WR F.FIO_PICOT_WR_COUNT % 2 ^ pic6.dg R.FIO_PICOT_CFG F.FIO_PICOT_CFG_SIZE_LOG2) + 4 ≤ storeWords)
  ∧ (tabS.tab.safety = some safeTab ∧ (∀ e ∈ safeTab.inputs, e.1 < 32) ∧ (∀ e ∈ safeTab.types, e.1 < 4))
  ∧ (F.FIO_GRP_CFG_TYPE.get (F.FIO_GRP_CFG_TYPE.set 0 1) ≠ di3.dg (R.FIO_GRP_CFG 0) F.FIO_GRP_CFG_TYPE ∧
      ((groupDis 0).any fun k => safetyDi k di3) = false)
  ∧ (F.FIO_GRP_CFG_TYPE.get (F.FIO_GRP_CFG_TYPE.set 0 1) ≠ (di3.dp (R.FIO_DI_STATUS 9) F.FIO_DI_STATUS_SAFETY 1).dg (R.FIO_GRP_CFG 1) F.FIO_GRP_CFG_TYPE ∧
      ((groupDis 1).any fun k => safetyDi k (di3.dp (R.FIO_DI_STATUS 9) F.FIO_DI_STATUS_SAFETY 1)) = true) := by
  refine ⟨?_, ?_, ?_, ?_, ?_, ?_, ?_, ?_, ?_, ?_, ?_⟩ <;> decide +kernel

/-- The hypotheses of OutputsShowTheirFaults can be met, clause by clause. -/
theorem witness_OutputsShowTheirFaults :
    (mk9.fio.dos.length = 16 ∧ doOn 3 mk9 = false ∧ (mk9.dout 3).ext = false ∧ doDriven 3 mk9 = false)
  ∧ (mk9.fio.dos.length = 16 ∧ doOn 3 mk9 = false)
  ∧ (mk10.fio.dos.length = 16 ∧ (mk10.dout 3).retry = false)
  ∧ (mk9.fio.dos.length = 16)
  ∧ (mk9.fio.dos.length = 16 ∧ (mk9.dout 3).latched = false ∧ (mk9.dout 3).failed = false)
  ∧ (mk9.fio.dos.length = 16 ∧ (2 : Nat) ≤ 3)
  ∧ ((on 3 (dos 3 dz s0)).fio.dos.length = 16 ∧ doOn 3 (on 3 (dos 3 dz s0)) = true ∧ doRetries 3 (on 3 (dos 3 dz s0)) < 3 ∧
      cutOff (on 3 (dos 3 dz s0)) = false ∧ ((on 3 (dos 3 dz s0)).dout 3).safeOff = false ∧
      ((on 3 (dos 3 dz s0)).dout 3).latched = false ∧ ((on 3 (dos 3 dz s0)).dout 3).failed = false)
  ∧ ((on 3 (dos 3 dz s0)).fio.dos.length = 16 ∧ doOn 3 (on 3 (dos 3 dz s0)) = true)
  ∧ (mk11.fio.dos.length = 16 ∧ (doOn 3 mk11 = true ∨ (mk11.dout 3).ext = true))
  ∧ (((on 3 (dos 3 dz s0)).dp (R.FIO_DO_STATUS 3) F.FIO_DO_STATUS_RETRIES 3).fio.dos.length = 16 ∧
      doOn 3 ((on 3 (dos 3 dz s0)).dp (R.FIO_DO_STATUS 3) F.FIO_DO_STATUS_RETRIES 3) = true ∧
      doRetries 3 ((on 3 (dos 3 dz s0)).dp (R.FIO_DO_STATUS 3) F.FIO_DO_STATUS_RETRIES 3) = 3 ∧
      cutOff ((on 3 (dos 3 dz s0)).dp (R.FIO_DO_STATUS 3) F.FIO_DO_STATUS_RETRIES 3) = false ∧
      (((on 3 (dos 3 dz s0)).dp (R.FIO_DO_STATUS 3) F.FIO_DO_STATUS_RETRIES 3).dout 3).safeOff = false)
  ∧ (mk9.fio.dos.length = 16 ∧ (mk9.dout 3).retry = true)
  ∧ (mk10.fio.dos.length = 16 ∧ ((mk10.dout 3).latched = true ∨ (mk10.dout 3).failed = true)) := by
  refine ⟨?_, ?_, ?_, ?_, ?_, ?_, ?_, ?_, ?_, ?_, ?_, ?_⟩ <;> decide +kernel

/-- The hypotheses of SupplyFailsafeAndSafeStop can be met, clause by clause. -/
theorem witness_SupplyFailsafeAndSafeStop :
    (mk14.fio.dos.length = 16 ∧ (19456 ≤ 0 ∨ supply mk14 ≠ 0) ∧ (12288 ≤ 0 ∨ supply mk14 = 2))
  ∧ (s0.fio.dos.length = 16 ∧ (12288 : Nat) ≤ 13000 ∧ 13000 < 19456 ∧ supply s0 = 0)
  ∧ (s0.fio.dos.length = 16 ∧ 0 < 12288 ∧ supply s0 ≠ 2)
  ∧ (s0.fio.dos.length = 16 ∧ (s0.fio.low = none ∨ supply s0 ≠ 1 ∧ supply s0 ≠ 3))
  ∧ (s0.fio.dos.length = 16 ∧ (s0.fio.good = none ∨ supply s0 ≠ 1))
  ∧ (s0.fio.dos.length = 16 ∧ (s0.fio.back = none ∨ supply s0 ≠ 2))
  ∧ (s0.fio.dos.length = 16 ∧ supply s0 ≠ 3)
  ∧ (s0.fio.dos.length = 16 ∧ (3 : Nat) ≤ 3)
  ∧ (s0.fio.dos.length = 16 ∧ (s0.fio.ssa && true) = false)
  ∧ (s0.fio.dos.length = 16 ∧ (s0.fio.ssa = false ∨ s0.fio.unasked < 4))
  ∧ (s0.fio.dos.length = 16 ∧
      (s0.fio.unmarked < max 3 (s0.dg R.FIO_CFG F.FIO_CFG_HOLD_N) ∨ s0.dg R.FIO_STATUS F.FIO_STATUS_FAILSAFE = 1))
  ∧ (s0.fio.dos.length = 16 ∧ (s0.dg R.FIO_STATUS F.FIO_STATUS_FAILSAFE = 0 ∨ s0.fio.unmarked ≠ 0 ∨ fieldLost s0 = true))
  ∧ (mk12.fio.dos.length = 16 ∧ mk12.fio.low = some 7 ∧ (supply mk12 = 1 ∨ supply mk12 = 3))
  ∧ (mk13.fio.dos.length = 16 ∧ mk13.fio.good = some 7 ∧ supply mk13 = 1)
  ∧ (mk14.fio.dos.length = 16 ∧ mk14.fio.back = some 7 ∧ supply mk14 = 2 ∧ mk14.dg R.FIO_CFG F.FIO_CFG_SAG_RESTORE = 0)
  ∧ ((mk14.dp R.FIO_CFG F.FIO_CFG_SAG_RESTORE 1).fio.dos.length = 16 ∧
      (mk14.dp R.FIO_CFG F.FIO_CFG_SAG_RESTORE 1).fio.back = some 7 ∧ supply (mk14.dp R.FIO_CFG F.FIO_CFG_SAG_RESTORE 1) = 2 ∧
      (mk14.dp R.FIO_CFG F.FIO_CFG_SAG_RESTORE 1).dg R.FIO_CFG F.FIO_CFG_SAG_RESTORE = 1)
  ∧ ((sup 3 s0).fio.dos.length = 16 ∧ supply (sup 3 s0) = 3)
  ∧ ((s0.dp R.FIO_STATUS F.FIO_STATUS_FAILSAFE 1).fio.dos.length = 16 ∧
      (s0.dp R.FIO_STATUS F.FIO_STATUS_FAILSAFE 1).dg R.FIO_STATUS F.FIO_STATUS_FAILSAFE = 1 ∧
      (s0.dp R.FIO_STATUS F.FIO_STATUS_FAILSAFE 1).fio.unmarked = 0 ∧
      fieldLost (s0.dp R.FIO_STATUS F.FIO_STATUS_FAILSAFE 1) = false)
  ∧ (mk15.fio.dos.length = 16 ∧ max 3 (mk15.dg R.FIO_CFG F.FIO_CFG_HOLD_N) ≤ mk15.fio.unmarked ∧
      mk15.dg R.FIO_STATUS F.FIO_STATUS_FAILSAFE = 0)
  ∧ (perm.fio.dos.length = 16 ∧ perm.chanter = some Plane.a ∧ (perm.ssm SsmChan.one Plane.a).permit = true ∧
      perm.ssm2.permit = true ∧ perm.fio.ssa = true)
  ∧ (perm.fio.dos.length = 16 ∧ perm.chanter = some Plane.a ∧ (perm.ssm SsmChan.one Plane.a).permit = true ∧
      perm.ssm2.permit = true ∧ perm.fio.ssa = true ∧ 4 ≤ perm.fio.unasked) := by
  refine ⟨?_, ?_, ?_, ?_, ?_, ?_, ?_, ?_, ?_, ?_, ?_, ?_, ?_, ?_, ?_, ?_, ?_, ?_, ?_, ?_, ?_⟩ <;> decide +kernel

end Sys2Proof.Tests.W5
end

