-- ==== Sys2Proof/Tests/Witness6.lean ====
section
/-! SUPPORT. Witnesses, part 6: states and operands that meet the hypotheses of each clause of a statement together. -/

open Sys2Proof Sys2Proof.Machine Sys2Proof.Tests

namespace Sys2Proof.Tests.W6

set_option Elab.async false
set_option linter.all false
set_option maxRecDepth 100000

def s0 := State.reset
def pst (q : Plane) (n : Nat) (s : State) : State := setPlaneState q n s
def two : State := let s := pst .b 2 (pst .a 1 granted); { s with red := { s.red with readyAt := some 0 } }
def pif (p : Nat) (x : PifSt) (s : State) : State := { s with sense := { s.sense with pifs := s.sense.pifs.set p x } }
def p0 := PifSt.initial
def force (l : List (Nat × Fld × Nat)) (x : PifSt) : PifSt := { x with inForce := l.foldl (fun a e => a.set e.1 (e.2.1.set (nth a e.1 0) e.2.2)) x.inForce }
def inc : State := pif 5 (force [(0, F.PIF_CFG_EN, 1), (0, F.PIF_CFG_MODE, 1), (1, F.PIF_INC_CFG_MULT, 1)] p0) s0
def mk1 := (pif 5 {inc.pif 5 with b := true} s0)
def mk2 := (pif 5 (force [(0, F.PIF_CFG_EN, 1), (0, F.PIF_CFG_MODE, 1), (1, F.PIF_INC_CFG_MULT, 1)] { p0 with b := true, count := 7, last := some (7, 60), edges := 3 }) s0)
def scq : State := pif 5 (force [(0, F.PIF_CFG_EN, 1), (0, F.PIF_CFG_MODE, 3), (2, F.PIF_SC_CFG_INTERP_LOG2, 4)] { p0 with qc := some 0, fine := some 5 }) s0
def mk3 := (pif 5 (force [(0, F.PIF_CFG_EN, 1), (0, F.PIF_CFG_MODE, 1)] { p0 with last := some (3, 500), v := 8, r := 3 }) s0)
def ser (m : Nat) : State := pif 5 (force [(0, F.PIF_CFG_EN, 1), (0, F.PIF_CFG_MODE, m), (4, F.PIF_SER_CFG2_CRC_LEN, 0)] p0) { s0 with sense := { s0.sense with smpBase := 256 } }
def mk4 := (pif 5 { p0 with ref := some 6, armed := true, count := -5, idx := 3, v := 6 } s0)
def mk5 := ((pif 5 { p0 with fifo := [[1,2,3,4],[5]] } s0).dp R.PIF_PICOT_CFG F.PIF_PICOT_CFG_SIZE_LOG2 6)
def cmpS (u : Nat) (x : CmpSt) (s : State) : State := { s with sense := { s.sense with cmps := s.sense.cmps.set u x } }
def c0 : CmpSt := ⟨false, none, 0, 0, [], none, []⟩
def ccfg (u : Nat) (l : List (Fld × Nat)) (s : State) : State := l.foldl (fun s e => s.dp (R.CMP_CFG u) e.1 e.2) s
def tu : State := (ccfg 3 [(F.CMP_CFG_KIND, 2), (F.CMP_CFG_TRG, 6), (F.CMP_CFG_ACTION, 2)] s0).wr .a (R.CMP_VAL 3) 0x1234567
def mk6 := (ccfg 3 [(F.CMP_CFG_ACTION, 1)] (cmpS 3 ⟨true, none, 5000, 0, [], none, []⟩ tu))
def mk7 := (cmpS 3 ⟨true, none, 5000, 0, [], none, []⟩ tu)
def fr (t : Nat) : Fire := ⟨t, false, 4, 1, 100, 77⟩
def mk8 := (cmpS 3 ⟨true, none, 5000, 0, [fr 700, fr 900], none, []⟩ tu)
def pend : PulseEnd := ⟨900, 7, true, 3⟩
def trg (k : Nat) (x : TrgSt) (s : State) : State := { s with sense := { s.sense with trgs := s.sense.trgs.set k x } }
def mk9 := (trg 6 ⟨true, some pend⟩ s0)
def mk10 := ({s0 with evm := { s0.evm with trig := [6, 2] }}.dp (R.TRG_CFG 6) F.TRG_CFG_EVT_ACTION 1)
def prd : Pred := ⟨3, 2, 1500, false, 1, 50, 9⟩
def mk11 := { tu with sense := { tu.sense with flight := [.pred prd, .cancel 2] }}
def mk12 := (cmpS 3 ⟨true, none, 0, 0, [], none, [fr 5000]⟩ tu)
def mk13 : State := (let s := ccfg 3 [(F.CMP_CFG_KIND, 1), (F.CMP_CFG_ARM, 2)] (cmpS 3 ⟨true, none, 0, 0, [], none, [fr 5000]⟩ tu); { s with sense := { s.sense with flight := [.cancel 2] }})
def caps0 : Capsule := ⟨0, [0,0,0], [0,0,0], 0⟩
def conn1 : ConnTab := ⟨7, 1, 0, none, 0, 0, 0, 0, 500, 3, ⟨0,0,0,0⟩, caps0⟩
def conn2 : ConnTab := { conn1 with chan := 2 }
def saf : SafetyTab := ⟨0, [conn1, conn2], [], [], [], [], [], 3, [], (4, 5), [], []⟩
def ssm (s : State) : State := { s with tab := { s.tab with safety := some saf } }
def live (ch : SsmChan) (c : Nat) (s : State) : State := let x := s.ssm ch .a; s.setSsm ch .a { x with conns := x.conns.set c ⟨false, 9, none, 0, [], []⟩ }
def sarm (ch : SsmChan) (x : SsmArm) (s : State) : State := let y := s.ssm ch .a; s.setSsm ch .a { y with arms := y.arms.set 2 x, permit := true }
def a0 : SsmArm := ⟨some 1, 3, 100, 50, 2, false, false, some 600, some 900⟩
def fast (ch : SsmChan) (s : State) : State := let y := s.ssm ch .a; s.setSsm ch .a { y with own := some ⟨0,[],[0,0,50],[],[],[]⟩ }

def perm : State := let s := two.setSsm .one .a { two.ssm .one .a with permit := true }; { s with ssm2 := { s.ssm2 with permit := true }, fio := { s.fio with ssa := true, unasked := 4 } }
def rst : State := let s := ssm (setStage 8 two); (s.dp R.SSM2_STATUS F.SSM2_STATUS_STATE 1).put .a R.SSM_STATUS F.SSM_STATUS_STATE 1

/-- The hypotheses of InterfacesCountAndObey can be met, clause by clause. -/
theorem witness_InterfacesCountAndObey :
    (mk1.sense.pifs.length = 24 ∧ (∀ (u : Fin 16), (mk1.cmp ↑u).live = false) ∧ (mk1.pif 5).mode = 1 ∧ (mk1.pif 5).a = false ∧
      (mk1.pif 5).b = true ∧ (mk1.pif 5).cfg 1 F.PIF_INC_CFG_MULT = 1 ∧ (mk1.pif 5).cfg 0 F.PIF_CFG_INV_DIR = 0 ∧
      (mk1.pif 5).cfg 0 F.PIF_CFG_PICOT_SEL = 0 ∧ 4 * (mk1.pif 5).cfg 0 F.PIF_CFG_FILT ≤ 0 ∧
      (mk1.pif 5).pairOf true (500 * 0) = none)
  ∧ (mk1.sense.pifs.length = 24 ∧ (∀ (u : Fin 16), (mk1.cmp ↑u).live = false) ∧ (mk1.pif 5).mode = 1 ∧
      (if true = true then (mk1.pif 5).a else (mk1.pif 5).b) ≠ true ∧ 4 * (mk1.pif 5).cfg 0 F.PIF_CFG_FILT ≤ 0)
  ∧ ((pif 5 (force [(0, F.PIF_CFG_FILT, 3)] p0) s0).sense.pifs.length = 24 ∧
      (∀ (u : Fin 16), ((pif 5 (force [(0, F.PIF_CFG_FILT, 3)] p0) s0).cmp ↑u).live = false) ∧
      0 < 4 * ((pif 5 (force [(0, F.PIF_CFG_FILT, 3)] p0) s0).pif 5).cfg 0 F.PIF_CFG_FILT)
  ∧ ((pif 5 (force [(0, F.PIF_CFG_EN, 1), (0, F.PIF_CFG_MODE, 3)] p0) s0).sense.pifs.length = 24 ∧
      (∀ (u : Fin 16), ((pif 5 (force [(0, F.PIF_CFG_EN, 1), (0, F.PIF_CFG_MODE, 3)] p0) s0).cmp ↑u).live = false) ∧
      ((pif 5 (force [(0, F.PIF_CFG_EN, 1), (0, F.PIF_CFG_MODE, 3)] p0) s0).pif 5).mode = 3 ∧
      ((pif 5 (force [(0, F.PIF_CFG_EN, 1), (0, F.PIF_CFG_MODE, 3)] p0) s0).pif 5).qc = none ∧
      ((pif 5 (force [(0, F.PIF_CFG_EN, 1), (0, F.PIF_CFG_MODE, 3)] p0) s0).pif 5).fine = none ∧
      2 ≤ ((pif 5 (force [(0, F.PIF_CFG_EN, 1), (0, F.PIF_CFG_MODE, 3)] p0) s0).pif 5).cfg 2 F.PIF_SC_CFG_INTERP_LOG2 ∧
      (pif 5 (force [(0, F.PIF_CFG_EN, 1), (0, F.PIF_CFG_MODE, 3)] p0) s0).dg (R.PIF_STATUS 5) F.PIF_STATUS_AMP_BAD = 0 ∧
      ↑(((pif 5 (force [(0, F.PIF_CFG_EN, 1), (0, F.PIF_CFG_MODE, 3)] p0) s0).pif 5).cfg 2 F.PIF_SC_CFG_AMP_LO) * 2 ^ 64 ≤ (((-30000 : BitVec 18).toInt - signedOf 18 (F.PIF_SC_OFS_S.get ((pif 5 (force [(0, F.PIF_CFG_EN, 1), (0, F.PIF_CFG_MODE, 3)] p0) s0).rd Plane.a (R.PIF_SC_OFS 5)))) * ↑(F.PIF_SC_OFS_S.get ((pif 5 (force [(0, F.PIF_CFG_EN, 1), (0, F.PIF_CFG_MODE, 3)] p0) s0).rd Plane.a (R.PIF_SC_GAIN 5))) * (((-30000 : BitVec 18).toInt - signedOf 18 (F.PIF_SC_OFS_S.get ((pif 5 (force [(0, F.PIF_CFG_EN, 1), (0, F.PIF_CFG_MODE, 3)] p0) s0).rd Plane.a (R.PIF_SC_OFS 5)))) * ↑(F.PIF_SC_OFS_S.get ((pif 5 (force [(0, F.PIF_CFG_EN, 1), (0, F.PIF_CFG_MODE, 3)] p0) s0).rd Plane.a (R.PIF_SC_GAIN 5)))) + ((-30000 : BitVec 18).toInt - signedOf 18 (F.PIF_SC_OFS_C.get ((pif 5 (force [(0, F.PIF_CFG_EN, 1), (0, F.PIF_CFG_MODE, 3)] p0) s0).rd Plane.a (R.PIF_SC_OFS 5)))) * ↑(F.PIF_SC_OFS_C.get ((pif 5 (force [(0, F.PIF_CFG_EN, 1), (0, F.PIF_CFG_MODE, 3)] p0) s0).rd Plane.a (R.PIF_SC_GAIN 5))) * (((-30000 : BitVec 18).toInt - signedOf 18 (F.PIF_SC_OFS_C.get ((pif 5 (force [(0, F.PIF_CFG_EN, 1), (0, F.PIF_CFG_MODE, 3)] p0) s0).rd Plane.a (R.PIF_SC_OFS 5)))) * ↑(F.PIF_SC_OFS_C.get ((pif 5 (force [(0, F.PIF_CFG_EN, 1), (0, F.PIF_CFG_MODE, 3)] p0) s0).rd Plane.a (R.PIF_SC_GAIN 5))))) * 256 ∧
      (((-30000 : BitVec 18).toInt - signedOf 18 (F.PIF_SC_OFS_S.get ((pif 5 (force [(0, F.PIF_CFG_EN, 1), (0, F.PIF_CFG_MODE, 3)] p0) s0).rd Plane.a (R.PIF_SC_OFS 5)))) * ↑(F.PIF_SC_OFS_S.get ((pif 5 (force [(0, F.PIF_CFG_EN, 1), (0, F.PIF_CFG_MODE, 3)] p0) s0).rd Plane.a (R.PIF_SC_GAIN 5))) * (((-30000 : BitVec 18).toInt - signedOf 18 (F.PIF_SC_OFS_S.get ((pif 5 (force [(0, F.PIF_CFG_EN, 1), (0, F.PIF_CFG_MODE, 3)] p0) s0).rd Plane.a (R.PIF_SC_OFS 5)))) * ↑(F.PIF_SC_OFS_S.get ((pif 5 (force [(0, F.PIF_CFG_EN, 1), (0, F.PIF_CFG_MODE, 3)] p0) s0).rd Plane.a (R.PIF_SC_GAIN 5)))) + ((-30000 : BitVec 18).toInt - signedOf 18 (F.PIF_SC_OFS_C.get ((pif 5 (force [(0, F.PIF_CFG_EN, 1), (0, F.PIF_CFG_MODE, 3)] p0) s0).rd Plane.a (R.PIF_SC_OFS 5)))) * ↑(F.PIF_SC_OFS_C.get ((pif 5 (force [(0, F.PIF_CFG_EN, 1), (0, F.PIF_CFG_MODE, 3)] p0) s0).rd Plane.a (R.PIF_SC_GAIN 5))) * (((-30000 : BitVec 18).toInt - signedOf 18 (F.PIF_SC_OFS_C.get ((pif 5 (force [(0, F.PIF_CFG_EN, 1), (0, F.PIF_CFG_MODE, 3)] p0) s0).rd Plane.a (R.PIF_SC_OFS 5)))) * ↑(F.PIF_SC_OFS_C.get ((pif 5 (force [(0, F.PIF_CFG_EN, 1), (0, F.PIF_CFG_MODE, 3)] p0) s0).rd Plane.a (R.PIF_SC_GAIN 5))))) * 256 ≤ ↑(((pif 5 (force [(0, F.PIF_CFG_EN, 1), (0, F.PIF_CFG_MODE, 3)] p0) s0).pif 5).cfg 2 F.PIF_SC_CFG_AMP_HI) * 2 ^ 64 ∧
      (((-30000 : BitVec 18).toInt - signedOf 18 (F.PIF_SC_OFS_S.get ((pif 5 (force [(0, F.PIF_CFG_EN, 1), (0, F.PIF_CFG_MODE, 3)] p0) s0).rd Plane.a (R.PIF_SC_OFS 5)))) * ↑(F.PIF_SC_OFS_S.get ((pif 5 (force [(0, F.PIF_CFG_EN, 1), (0, F.PIF_CFG_MODE, 3)] p0) s0).rd Plane.a (R.PIF_SC_GAIN 5))) ≠ 0 ∨ ((-30000 : BitVec 18).toInt - signedOf 18 (F.PIF_SC_OFS_C.get ((pif 5 (force [(0, F.PIF_CFG_EN, 1), (0, F.PIF_CFG_MODE, 3)] p0) s0).rd Plane.a (R.PIF_SC_OFS 5)))) * ↑(F.PIF_SC_OFS_C.get ((pif 5 (force [(0, F.PIF_CFG_EN, 1), (0, F.PIF_CFG_MODE, 3)] p0) s0).rd Plane.a (R.PIF_SC_GAIN 5))) ≠ 0))
  ∧ (scq.sense.pifs.length = 24 ∧ (∀ (u : Fin 16), (scq.cmp ↑u).live = false) ∧ (scq.pif 5).qc = some 0 ∧
      (scq.pif 5).fine = some 5 ∧ (scq.pif 5).mode = 3 ∧ 2 ≤ (scq.pif 5).cfg 2 F.PIF_SC_CFG_INTERP_LOG2 ∧
      scq.dg (R.PIF_STATUS 5) F.PIF_STATUS_AMP_BAD = 0 ∧
      ↑((scq.pif 5).cfg 2 F.PIF_SC_CFG_AMP_LO) * 2 ^ 64 ≤ (((-30000 : BitVec 18).toInt - signedOf 18 (F.PIF_SC_OFS_S.get (scq.rd Plane.a (R.PIF_SC_OFS 5)))) * ↑(F.PIF_SC_OFS_S.get (scq.rd Plane.a (R.PIF_SC_GAIN 5))) * (((-30000 : BitVec 18).toInt - signedOf 18 (F.PIF_SC_OFS_S.get (scq.rd Plane.a (R.PIF_SC_OFS 5)))) * ↑(F.PIF_SC_OFS_S.get (scq.rd Plane.a (R.PIF_SC_GAIN 5)))) + ((-30000 : BitVec 18).toInt - signedOf 18 (F.PIF_SC_OFS_C.get (scq.rd Plane.a (R.PIF_SC_OFS 5)))) * ↑(F.PIF_SC_OFS_C.get (scq.rd Plane.a (R.PIF_SC_GAIN 5))) * (((-30000 : BitVec 18).toInt - signedOf 18 (F.PIF_SC_OFS_C.get (scq.rd Plane.a (R.PIF_SC_OFS 5)))) * ↑(F.PIF_SC_OFS_C.get (scq.rd Plane.a (R.PIF_SC_GAIN 5))))) * 256 ∧
      (((-30000 : BitVec 18).toInt - signedOf 18 (F.PIF_SC_OFS_S.get (scq.rd Plane.a (R.PIF_SC_OFS 5)))) * ↑(F.PIF_SC_OFS_S.get (scq.rd Plane.a (R.PIF_SC_GAIN 5))) * (((-30000 : BitVec 18).toInt - signedOf 18 (F.PIF_SC_OFS_S.get (scq.rd Plane.a (R.PIF_SC_OFS 5)))) * ↑(F.PIF_SC_OFS_S.get (scq.rd Plane.a (R.PIF_SC_GAIN 5)))) + ((-30000 : BitVec 18).toInt - signedOf 18 (F.PIF_SC_OFS_C.get (scq.rd Plane.a (R.PIF_SC_OFS 5)))) * ↑(F.PIF_SC_OFS_C.get (scq.rd Plane.a (R.PIF_SC_GAIN 5))) * (((-30000 : BitVec 18).toInt - signedOf 18 (F.PIF_SC_OFS_C.get (scq.rd Plane.a (R.PIF_SC_OFS 5)))) * ↑(F.PIF_SC_OFS_C.get (scq.rd Plane.a (R.PIF_SC_GAIN 5))))) * 256 ≤ ↑((scq.pif 5).cfg 2 F.PIF_SC_CFG_AMP_HI) * 2 ^ 64 ∧
      (((-30000 : BitVec 18).toInt - signedOf 18 (F.PIF_SC_OFS_S.get (scq.rd Plane.a (R.PIF_SC_OFS 5)))) * ↑(F.PIF_SC_OFS_S.get (scq.rd Plane.a (R.PIF_SC_GAIN 5))) ≠ 0 ∨ ((-30000 : BitVec 18).toInt - signedOf 18 (F.PIF_SC_OFS_C.get (scq.rd Plane.a (R.PIF_SC_OFS 5)))) * ↑(F.PIF_SC_OFS_C.get (scq.rd Plane.a (R.PIF_SC_GAIN 5))) ≠ 0))
  ∧ (mk3.sense.pifs.length = 24 ∧ (∀ (u : Fin 16), (mk3.cmp ↑u).live = false) ∧ ((mk3.pif 5).mode = 1 ∨ (mk3.pif 5).mode = 2) ∧
      (mk3.pif 5).last = some (3, 500))
  ∧ ((ser 4).sense.pifs.length = 24 ∧ (∀ (u : Fin 16), ((ser 4).cmp ↑u).live = false) ∧ ((ser 4).pif 5).mode = 4 ∧
      ((ser 4).pif 5).cfg 3 F.PIF_SER_CFG_TRAIL ≤ ((ser 4).pif 5).cfg 3 F.PIF_SER_CFG_ERR_POS ∧
      ((ser 4).pif 5).cfg 3 F.PIF_SER_CFG_PARITY = 0)
  ∧ ((ser 4).sense.pifs.length = 24 ∧ (∀ (u : Fin 16), ((ser 4).cmp ↑u).live = false) ∧ ((ser 4).pif 5).mode = 4)
  ∧ ((ser 5).sense.pifs.length = 24 ∧ (∀ (u : Fin 16), ((ser 5).cmp ↑u).live = false) ∧ ((ser 5).pif 5).mode = 5 ∧
      0 ≤ ((ser 5).pif 5).cfg 4 F.PIF_SER_CFG2_ACK_TMO ∧
      (((ser 5).pif 5).cfg 4 F.PIF_SER_CFG2_CRC_LEN = 0 ∨ 123459 % 2 ^ ((ser 5).pif 5).cfg 4 F.PIF_SER_CFG2_CRC_LEN = 2 ^ ((ser 5).pif 5).cfg 4 F.PIF_SER_CFG2_CRC_LEN - 1 - crcMsb (((ser 5).pif 5).cfg 4 F.PIF_SER_CFG2_CRC_LEN) (((ser 5).pif 5).cfg 4 F.PIF_SER_CFG2_CRC_POLY) (((ser 5).pif 5).cfg 3 F.PIF_SER_CFG_BITS + 2) (123459 / 2 ^ ((ser 5).pif 5).cfg 4 F.PIF_SER_CFG2_CRC_LEN % 2 ^ (((ser 5).pif 5).cfg 3 F.PIF_SER_CFG_BITS + 2)) 0) ∧
      bitN (123459 / 2 ^ ((ser 5).pif 5).cfg 4 F.PIF_SER_CFG2_CRC_LEN % 2 ^ (((ser 5).pif 5).cfg 3 F.PIF_SER_CFG_BITS + 2)) 0 = true ∧
      bitN (123459 / 2 ^ ((ser 5).pif 5).cfg 4 F.PIF_SER_CFG2_CRC_LEN % 2 ^ (((ser 5).pif 5).cfg 3 F.PIF_SER_CFG_BITS + 2)) 1 = true)
  ∧ ((ser 5).sense.pifs.length = 24 ∧ (∀ (u : Fin 16), ((ser 5).cmp ↑u).live = false) ∧ ((ser 5).pif 5).mode = 5)
  ∧ (s0.sense.pifs.length = 24)
  ∧ (s0.sense.pifs.length = 24 ∧ s0.dg (R.PIF_STATUS 5) F.PIF_STATUS_CLOSED = 0)
  ∧ (s0.sense.pifs.length = 24 ∧ s0.dg (R.PIF_STATUS 5) F.PIF_STATUS_CLOSED = 0 ∧ (s0.pif 5).ref = none)
  ∧ (s0.sense.pifs.length = 24 ∧ (6 : Nat) ≤ 12)
  ∧ (s0.sense.pifs.length = 24 ∧ s0.dg (R.PIF_STATUS 5) F.PIF_STATUS_CLOSED = 0 ∧ pifRefusal 5 PifReg.cfg 0 = 0)
  ∧ (s0.sense.pifs.length = 24 ∧ s0.dg (R.PIF_STATUS 5) F.PIF_STATUS_CLOSED = 0 ∧ pifRefusal 5 PifReg.ser 0 ≠ 0)
  ∧ (mk4.sense.pifs.length = 24 ∧ mk4.dg (R.PIF_STATUS 5) F.PIF_STATUS_CLOSED = 0 ∧ (mk4.pif 5).ref ≠ none)
  ∧ ((s0.dp (R.PIF_STATUS 5) F.PIF_STATUS_CLOSED 1).sense.pifs.length = 24 ∧
      (s0.dp (R.PIF_STATUS 5) F.PIF_STATUS_CLOSED 1).dg (R.PIF_STATUS 5) F.PIF_STATUS_CLOSED = 1)
  ∧ (mk5.sense.pifs.length = 24 ∧ (if 5 < 24 then (mk5.pif 5).fifo else mk5.sense.fifo) = [[1, 2, 3, 4], [5]] ∧
      [1, 2, 3, 4].length = 4 ∧ 6 ≤ mk5.dg R.PIF_PICOT_CFG F.PIF_PICOT_CFG_SIZE_LOG2 ∧
      mk5.dg R.PIF_PICOT_CFG F.PIF_PICOT_CFG_SIZE_LOG2 ≤ 16 ∧
      mk5.sense.picBase / 2 ^ (2 + mk5.dg R.PIF_PICOT_CFG F.PIF_PICOT_CFG_SIZE_LOG2) * 2 ^ (2 + mk5.dg R.PIF_PICOT_CFG F.PIF_PICOT_CFG_SIZE_LOG2) + 4 * (mk5.dg R.PIF_PICOT_WR F.PIF_PICOT_WR_COUNT % 2 ^ mk5.dg R.PIF_PICOT_CFG F.PIF_PICOT_CFG_SIZE_LOG2) + 4 ≤ storeWords) := by
  refine ⟨?_, ?_, ?_, ?_, ?_, ?_, ?_, ?_, ?_, ?_, ?_, ?_, ?_, ?_, ?_, ?_, ?_, ?_, ?_⟩ <;> first | decide +kernel | (and_intros <;> first | decide +kernel | exact nth_none (by decide +kernel) | exact none_ne (by decide +kernel) | exact none_ne2 (by decide +kernel) | exact none_all2 (by decide +kernel) | exact some_all3 (by decide +kernel) | exact .inl (by decide +kernel) | exact .inl (none_ne (by decide +kernel)) | exact .inr (.inr ⟨rfl, none_ne2 (by decide +kernel)⟩))

/-- The hypotheses of CompareUnitsFire can be met, clause by clause. -/
theorem witness_CompareUnitsFire :
    (tu.sense.cmps.length = 16 ∧ tu.sense.trgs.length = 8 ∧ tu.sense.fifo.length < 63 ∧ cmpCfg 3 F.CMP_CFG_KIND tu = 2 ∧
      cmpCfg 3 F.CMP_CFG_DIR tu = 1 ∧ tu.dg (R.CMP_STATUS 3) F.CMP_STATUS_STATE = 0 ∧
      tu.now * 4294967296 ≤ of72 (tu.rd Plane.a (R.CMP_VAL 3)) (tu.rd Plane.a (R.CMP_VAL_HI 3)) * 1000000000000)
  ∧ (tu.sense.cmps.length = 16 ∧ tu.sense.trgs.length = 8 ∧ tu.sense.fifo.length < 63)
  ∧ (tu.sense.cmps.length = 16 ∧ tu.sense.trgs.length = 8 ∧ tu.sense.fifo.length < 63 ∧ (4 : Nat) ≤ 12)
  ∧ (tu.sense.cmps.length = 16 ∧ tu.sense.trgs.length = 8 ∧ tu.sense.fifo.length < 63 ∧
      tu.dg (R.CMP_STATUS 3) F.CMP_STATUS_STATE = 0 ∧ holdsTrigs 3 tu = false)
  ∧ (mk6.sense.cmps.length = 16 ∧ mk6.sense.trgs.length = 8 ∧ mk6.sense.fifo.length < 63 ∧ cmpCfg 3 F.CMP_CFG_TRG mk6 < 8 ∧
      (mk6.trg (cmpCfg 3 F.CMP_CFG_TRG mk6)).pulse = none ∧ cmpCfg 3 F.CMP_CFG_ACTION mk6 = 1)
  ∧ (mk7.sense.cmps.length = 16 ∧ mk7.sense.trgs.length = 8 ∧ mk7.sense.fifo.length < 63 ∧ cmpCfg 3 F.CMP_CFG_KIND mk7 = 2 ∧
      (mk7.cmp 3).live = true ∧ (mk7.cmp 3).fires = [] ∧ (mk7.cmp 3).last = none ∧ mk7.rd Plane.a (R.CMP_STEP 3) = 0 ∧
      cmpCfg 3 F.CMP_CFG_TRG mk7 < 8 ∧ (mk7.trg (cmpCfg 3 F.CMP_CFG_TRG mk7)).pulse = none ∧ cmpCfg 3 F.CMP_CFG_ACTION mk7 = 2)
  ∧ (mk8.sense.cmps.length = 16 ∧ mk8.sense.trgs.length = 8 ∧ mk8.sense.fifo.length < 63 ∧ (mk8.cmp 3).fires = [fr 700, fr 900] ∧
      (fr 700).trg < 8 ∧ (mk8.trg (fr 700).trg).pulse = none ∧ (fr 700).act < 4)
  ∧ ((tu.dp (R.CMP_STATUS 3) F.CMP_STATUS_STATE 1).sense.cmps.length = 16 ∧
      (tu.dp (R.CMP_STATUS 3) F.CMP_STATUS_STATE 1).sense.trgs.length = 8 ∧
      (tu.dp (R.CMP_STATUS 3) F.CMP_STATUS_STATE 1).sense.fifo.length < 63 ∧
      ((tu.dp (R.CMP_STATUS 3) F.CMP_STATUS_STATE 1).dg (R.CMP_STATUS 3) F.CMP_STATUS_STATE ≠ 0 ∨ holdsTrigs 3 (tu.dp (R.CMP_STATUS 3) F.CMP_STATUS_STATE 1) = true))
  ∧ (mk9.sense.cmps.length = 16 ∧ mk9.sense.trgs.length = 8 ∧ mk9.sense.fifo.length < 63 ∧ (mk9.trg 6).pulse = some pend)
  ∧ (mk10.sense.cmps.length = 16 ∧ mk10.sense.trgs.length = 8 ∧ mk10.sense.fifo.length < 63 ∧ mk10.evm.trig = [6, 2] ∧
      (mk10.trg 6).pulse = none)
  ∧ (mk11.sense.cmps.length = 16 ∧ mk11.sense.trgs.length = 8 ∧ mk11.sense.fifo.length < 63 ∧
      mk11.sense.flight = [SenseMsg.pred prd, SenseMsg.cancel 2] ∧ prd.unit = 3)
  ∧ (mk12.sense.cmps.length = 16 ∧ mk12.sense.trgs.length = 8 ∧ mk12.sense.fifo.length < 63 ∧ (mk12.cmp 3).preds = [fr 5000] ∧
      (mk12.cmp 3).last = none ∧ (fr 5000).trg = 4 ∧ (mk12.trg 4).pulse = none ∧ (fr 5000).act < 4)
  ∧ (mk13.sense.cmps.length = 16 ∧ mk13.sense.trgs.length = 8 ∧ mk13.sense.fifo.length < 63 ∧
      mk13.sense.flight = [SenseMsg.cancel 2]) := by
  refine ⟨?_, ?_, ?_, ?_, ?_, ?_, ?_, ?_, ?_, ?_, ?_, ?_, ?_⟩ <;> decide +kernel

/-- The hypotheses of ChannelTwoEvaluates can be met, clause by clause. -/
theorem witness_ChannelTwoEvaluates :
    ((ssm two).tab.safety = some saf ∧
      ((ssm two).dg R.SSM2_STATUS F.SSM2_STATUS_STATE ≠ 1 ∨ (ssm two).n % 2 ^ t2Log (ssm two) ≠ 0))
  ∧ (((ssm two).dp R.SSM2_STATUS F.SSM2_STATUS_STATE 1).tab.safety = some saf ∧
      ((ssm two).dp R.SSM2_STATUS F.SSM2_STATUS_STATE 1).dg R.SSM2_STATUS F.SSM2_STATUS_STATE = 1 ∧
      ((ssm two).dp R.SSM2_STATUS F.SSM2_STATUS_STATE 1).n % 2 ^ t2Log ((ssm two).dp R.SSM2_STATUS F.SSM2_STATUS_STATE 1) = 0)
  ∧ ((live SsmChan.one 0 (ssm two)).tab.safety = some saf ∧ saf.conns[0]? = some conn1 ∧ conn1.chan = ssmNum SsmChan.one ∧
      (((live SsmChan.one 0 (ssm two)).ssm SsmChan.one (ssmPlane (live SsmChan.one 0 (ssm two)))).conn 0).lost = false ∧
      ((live SsmChan.one 0 (ssm two)).ssm SsmChan.one (ssmPlane (live SsmChan.one 0 (ssm two)))).conns.length = 128)
  ∧ ((live SsmChan.one 0 (ssm two)).tab.safety = some saf ∧
      ((live SsmChan.one 0 (ssm two)).ssm SsmChan.one (ssmPlane (live SsmChan.one 0 (ssm two)))).arms.length = 16 ∧
      ((((live SsmChan.one 0 (ssm two)).ssm SsmChan.one (ssmPlane (live SsmChan.one 0 (ssm two)))).arm 0).cat = none ∨ (((live SsmChan.one 0 (ssm two)).ssm SsmChan.one (ssmPlane (live SsmChan.one 0 (ssm two)))).arm 0).monitored = true))
  ∧ ((live SsmChan.one 0 (ssm two)).tab.safety = some saf ∧
      ((live SsmChan.one 0 (ssm two)).ssm SsmChan.one (ssmPlane (live SsmChan.one 0 (ssm two)))).arms.length = 16 ∧
      ((((live SsmChan.one 0 (ssm two)).ssm SsmChan.one (ssmPlane (live SsmChan.one 0 (ssm two)))).arm 0).cat = none ∨ (((live SsmChan.one 0 (ssm two)).ssm SsmChan.one (ssmPlane (live SsmChan.one 0 (ssm two)))).arm 0).okSince = none))
  ∧ ((live SsmChan.one 0 (ssm two)).tab.safety = some saf ∧
      ((live SsmChan.one 0 (ssm two)).ssm SsmChan.one (ssmPlane (live SsmChan.one 0 (ssm two)))).arms.length = 16 ∧
      (((live SsmChan.one 0 (ssm two)).ssm SsmChan.one (ssmPlane (live SsmChan.one 0 (ssm two)))).arm 0).lostAt = none)
  ∧ ((sarm SsmChan.one a0 (ssm two)).tab.safety = some saf ∧
      ((sarm SsmChan.one a0 (ssm two)).ssm SsmChan.one (ssmPlane (sarm SsmChan.one a0 (ssm two)))).arms.length = 16 ∧
      (((sarm SsmChan.one a0 (ssm two)).ssm SsmChan.one (ssmPlane (sarm SsmChan.one a0 (ssm two)))).arm 2).cat.isSome = true ∧
      (((sarm SsmChan.one a0 (ssm two)).ssm SsmChan.one (ssmPlane (sarm SsmChan.one a0 (ssm two)))).arm 2).monitored = false ∧
      nth ((Option.map (fun x => x.speed) ((sarm SsmChan.one a0 (ssm two)).ssm SsmChan.one (ssmPlane (sarm SsmChan.one a0 (ssm two)))).own).getD []) 2 0 ≤ BitVec.toNat (saf.arm 2).vstill)
  ∧ ((sarm SsmChan.one a0 (ssm two)).tab.safety = some saf ∧
      ((sarm SsmChan.one a0 (ssm two)).ssm SsmChan.one (ssmPlane (sarm SsmChan.one a0 (ssm two)))).arms.length = 16 ∧
      (((sarm SsmChan.one a0 (ssm two)).ssm SsmChan.one (ssmPlane (sarm SsmChan.one a0 (ssm two)))).arm 2).cat.isSome = true ∧
      (((sarm SsmChan.one a0 (ssm two)).ssm SsmChan.one (ssmPlane (sarm SsmChan.one a0 (ssm two)))).arm 2).okSince = some 600 ∧
      ((((sarm SsmChan.one a0 (ssm two)).ssm SsmChan.one (ssmPlane (sarm SsmChan.one a0 (ssm two)))).arm 2).cause = 6 → ((sarm SsmChan.one a0 (ssm two)).ssm SsmChan.one (ssmPlane (sarm SsmChan.one a0 (ssm two)))).permit = true ∧
      (sarm SsmChan.one a0 (ssm two)).ssm2.permit = true))
  ∧ ((sarm SsmChan.one a0 (ssm two)).tab.safety = some saf ∧
      ((sarm SsmChan.one a0 (ssm two)).ssm SsmChan.one (ssmPlane (sarm SsmChan.one a0 (ssm two)))).arms.length = 16 ∧
      (((sarm SsmChan.one a0 (ssm two)).ssm SsmChan.one (ssmPlane (sarm SsmChan.one a0 (ssm two)))).arm 2).lostAt = some 900 ∧
      ((sarm SsmChan.one a0 (ssm two)).ssm SsmChan.one (ssmPlane (sarm SsmChan.one a0 (ssm two)))).permit = true)
  ∧ ((fast SsmChan.one (sarm SsmChan.one a0 (ssm two))).tab.safety = some saf ∧
      ((fast SsmChan.one (sarm SsmChan.one a0 (ssm two))).ssm SsmChan.one (ssmPlane (fast SsmChan.one (sarm SsmChan.one a0 (ssm two))))).arms.length = 16 ∧
      (((fast SsmChan.one (sarm SsmChan.one a0 (ssm two))).ssm SsmChan.one (ssmPlane (fast SsmChan.one (sarm SsmChan.one a0 (ssm two))))).arm 2).cat.isSome = true ∧
      (((fast SsmChan.one (sarm SsmChan.one a0 (ssm two))).ssm SsmChan.one (ssmPlane (fast SsmChan.one (sarm SsmChan.one a0 (ssm two))))).arm 2).monitored = false ∧
      BitVec.toNat (saf.arm 2).vstill < nth ((Option.map (fun x => x.speed) ((fast SsmChan.one (sarm SsmChan.one a0 (ssm two))).ssm SsmChan.one (ssmPlane (fast SsmChan.one (sarm SsmChan.one a0 (ssm two))))).own).getD []) 2 0) := by
  refine ⟨?_, ?_, ?_, ?_, ?_, ?_, ?_, ?_, ?_, ?_⟩ <;> decide +kernel

/-- The hypotheses of OutputsDropAndAreReset can be met, clause by clause. -/
theorem witness_OutputsDropAndAreReset :
    ((perm.ssm SsmChan.one (ssmPlane perm)).permit = true ∧ perm.ssm2.permit = true)
  ∧ ((perm.ssm SsmChan.one (ssmPlane perm)).permit = true ∧ perm.ssm2.permit = true ∧ (true || !true) = true)
  ∧ ((perm.ssm2.permit && (false || !true)) = false)
  ∧ ((0 < 100000 ∨ 2000000 < 0 ∨ 0 < 100000 ∨ 2000000 < 0 ∨ 0 + 500000 < 0 ∨ 0 + 500000 < 0 ∨ perm.isReady = false ∨ 2 ≤ perm.dg R.FIO_STATUS F.FIO_STATUS_SUPPLY ∨ perm.tab.safety = none ∨ perm.chanter = none ∨ perm.boot.extest = true))
  ∧ ((2 : Nat) ≤ 3)
  ∧ (rst.tab.safety = some saf ∧ rst.chanter = some (ssmPlane rst) ∧ (100000 : Nat) ≤ 100000 ∧ (100000 : Nat) ≤ 2000000 ∧
      (2000000 : Nat) ≤ 2000000 ∧ 7 ≤ 500007 + 500000 ∧ 500007 ≤ 7 + 500000 ∧ rst.isReady = true ∧
      rst.dg R.FIO_STATUS F.FIO_STATUS_SUPPLY < 2 ∧ rst.boot.extest = false ∧
      causeStands SsmChan.one (ssmPlane rst) saf rst = false ∧ causeStands SsmChan.two (ssmPlane rst) saf rst = false ∧
      ((rst.ssm SsmChan.one (ssmPlane rst)).permit && rst.ssm2.permit) = false) := by
  refine ⟨?_, ?_, ?_, ?_, ?_, ?_⟩ <;> decide +kernel

end Sys2Proof.Tests.W6
end

