-- ==== Sys2Proof/Tests/Witness7.lean ====
section
/-! SUPPORT. Witnesses, part 7: states and operands that meet the hypotheses of each clause of a statement together. -/

open Sys2Proof Sys2Proof.Machine Sys2Proof.Tests

namespace Sys2Proof.Tests.W7

set_option Elab.async false
set_option linter.all false
set_option maxRecDepth 100000

def s0 := State.reset
def bst (n : Nat) (s : State) : State := s.dp (R.CBUS_CH_STATUS 1) F.CBUS_CH_STATUS_STATE n
def stn (k n : Nat) (s : State) : State := s.dp (R.CBUS_STN_STATUS 1 k) F.CBUS_STN_STATUS_STATE n
def bus (x : BusSt) (s : State) : State := { s with cbus := { s.cbus with chs := s.cbus.chs.set 1 x } }
def b0 := BusSt.initial
def sl (kind : Nat) (s : State) : State :=
  let g := R.CBUS_SLOT_CFG 1 0 7
  let s := ((s.dp g F.CBUS_SLOT_CFG_EN 1).dp g F.CBUS_SLOT_CFG_KIND kind).dp g F.CBUS_SLOT_CFG_STATION 3
  let s := (s.dp (R.CBUS_SLOT_TIME 1 0 7) F.CBUS_SLOT_TIME_TIME 20000).dp (R.CBUS_SLOT_TX 1 0 7) F.CBUS_SLOT_TX_TX_WORDS 2
  (s.dp (R.CBUS_SLOT_RX 1 0 7) F.CBUS_SLOT_RX_RX_WORDS 4).dp (R.CBUS_SLOT_RX 1 0 7) F.CBUS_SLOT_RX_RX_OFS 32
def polls (kind : Nat) : State := let s := stn 3 3 (bst 5 (sl kind (s0.dp R.TIM_CYC_STATUS F.TIM_CYC_STATUS_STATE 1))); { (bus { b0 with mutes := [3, 5] } s) with cyc := { s.cyc with starts := 8, tick := 1000, inCycle := true }, cbus := { (bus { b0 with mutes := [3, 5] } s).cbus with tx := some (6, [(0, 9)]), imgBase := 0x1000 } }
def nullP : State := let s := polls 0; { s with cbus := { s.cbus with tx := none } }
def wt (mg got : Bool) : SlotWait := ⟨7, 3, 300000000, 290000000, 310000000, 4, 2, 33, mg, got⟩
def waits (mg got : Bool) : State := bus { b0 with waits := [wt mg got] } (polls 0)
def frm : BusFrame := ⟨300010000, 100, true, BitVec.ofNat 16 ((polls 0).dg R.CBUS_CFG F.CBUS_CFG_ETHERTYPE), 2, 3, 0, 3, 7, 3, 1, 0x11, 0, [1,2,3,4]⟩
def frmBad : BusFrame := { frm with fcs := false }
def awake (s : State) : State := (s.setWard .a { s.ward .a with inReset := false }).setWard .b { s.ward .b with inReset := false }
def echo (n : Nat) (last : Bool) : BusFrame := { frm with kind := 5, hop := 2, words := 3, swords := 0, data := [7, 8, if last then 1 else 0] }
def prb (n : Nat) : State := bus { b0 with cnt := n, probeX := 5000 } (bst 3 (polls 0))
def foreign : BusFrame := { frm with kind := 2 }
def mk1 := (bus { b0 with cnt := 8, probeX := 5000, echoes := [⟨2, [1,2,3,4,5,6,7], 7, 8, 1⟩] } (bst 3 (polls 0)))
def conf : State := (stn 1 2 (bst 4 s0)).dp (R.CBUS_CH_STATUS 1) F.CBUS_CH_STATUS_FOUND 3
def confBad : State := (conf.dp (R.CBUS_SLOT_CFG 1 0 7) F.CBUS_SLOT_CFG_EN 1).dp (R.CBUS_SLOT_TX 1 0 7) F.CBUS_SLOT_TX_TX_WORDS 5
def back5 : State := bst 5 (bus { b0 with backAt := some 5 } s0)
def mk2 := (bst 1 (bus { b0 with listen := some 55 } s0))
def mk3 := (bst 6 (bus { b0 with listen := some 55, backAt := some 1 } s0))
def mk4 := (bst 6 (bus { b0 with listen := some 55, backAt := some 1 } s0))
def closedB : State := let s := bst 5 (granted.put .a (R.CLE_CH_STATUS 0) F.CLE_CH_STATUS_MODE 3)
  { s with tab := { s.tab with chans := [⟨none, none, none, none, some 1⟩] } }
def badB : State := ((s0.dp (R.CBUS_SLOT_CFG 1 1 7) F.CBUS_SLOT_CFG_EN 1).dp (R.CBUS_SLOT_CFG 1 1 7) F.CBUS_SLOT_CFG_STATION 3).dp (R.CBUS_SLOT_TIME 1 1 7) F.CBUS_SLOT_TIME_TIME 20000

/-- The hypotheses of PollsAndResponsesPass can be met, clause by clause. -/
theorem witness_PollsAndResponsesPass :
    (nullP.cbus.chs.length = 2 ∧ nullP.pa.store.bad = [] ∧ nullP.pb.store.bad = [] ∧
      polled 1 (busSlot 1 (actBank 1 nullP) 7 nullP) nullP = true ∧ (0 : Nat) ≤ 40000 ∧ (40000 : Nat) ≤ 40000)
  ∧ (nullP.cbus.chs.length = 2 ∧ nullP.pa.store.bad = [] ∧ nullP.pb.store.bad = [] ∧
      polled 1 (busSlot 1 (actBank 1 nullP) 7 nullP) nullP = true ∧ (-5 < 0 ∨ 40000 < -5))
  ∧ (nullP.cbus.chs.length = 2 ∧ nullP.pa.store.bad = [] ∧ nullP.pb.store.bad = [] ∧
      polled 1 (busSlot 1 (actBank 1 nullP) 0 nullP) nullP = false)
  ∧ (nullP.cbus.chs.length = 2 ∧ nullP.pa.store.bad = [] ∧ nullP.pb.store.bad = [] ∧
      List.find? (fun w => w.slot == 0) (nullP.bus 1).waits = none)
  ∧ ((waits false false).cbus.chs.length = 2 ∧ (waits false false).pa.store.bad = [] ∧ (waits false false).pb.store.bad = [] ∧
      (busState 1 (waits false false) = 4 ∨ busState 1 (waits false false) = 5) ∧ frm.fcs = true ∧
      frameOk 1 frm (waits false false) = true ∧ frm.kind = 3 ∧ answers 1 frm (waits false false) = some (wt false false) ∧
      (wt false false).station < 64 ∧ (wt false false).mgmt = false ∧
      (waits false false).cbus.imgBase + (wt false false).ofs + frm.words.toNat < storeWords)
  ∧ ((waits true false).cbus.chs.length = 2 ∧ (waits true false).pa.store.bad = [] ∧ (waits true false).pb.store.bad = [] ∧
      (busState 1 (waits true false) = 4 ∨ busState 1 (waits true false) = 5) ∧ frmBad.fcs = false)
  ∧ ((waits true false).cbus.chs.length = 2 ∧ (waits true false).pa.store.bad = [] ∧ (waits true false).pb.store.bad = [] ∧
      List.find? (fun w => w.slot == 7) ((waits true false).bus 1).waits = some (wt true false) ∧ (wt true false).station < 64 ∧
      (wt true false).got = false ∧ (waits true false).cbus.imgBase + (wt true false).ofs < storeWords)
  ∧ ((waits true false).cbus.chs.length = 2 ∧ (waits true false).pa.store.bad = [] ∧ (waits true false).pb.store.bad = [] ∧
      (busState 1 (waits true false) = 4 ∨ busState 1 (waits true false) = 5) ∧ frm.fcs = true ∧
      frameOk 1 frm (waits true false) = true ∧ frm.kind = 3 ∧ answers 1 frm (waits true false) = some (wt true false) ∧
      (wt true false).station < 64 ∧ (wt true false).mgmt = true)
  ∧ ((waits false true).cbus.chs.length = 2 ∧ (waits false true).pa.store.bad = [] ∧ (waits false true).pb.store.bad = [] ∧
      List.find? (fun w => w.slot == 7) ((waits false true).bus 1).waits = some (wt false true) ∧ (wt false true).station < 64 ∧
      (wt false true).got = true) := by
  refine ⟨?_, ?_, ?_, ?_, ?_, ?_, ?_, ?_, ?_⟩ <;> decide +kernel

/-- The hypotheses of ChannelsProbeAndListen can be met, clause by clause. -/
theorem witness_ChannelsProbeAndListen :
    ((prb 3).cbus.chs.length = 2 ∧ busState 1 (prb 3) = 3 ∧ (echo 3 true).fcs = true ∧ frameOk 1 (echo 3 true) (prb 3) = true ∧
      (echo 3 true).kind = 5 ∧ (echo 3 true).data.length = 3 ∧ (echo 3 true).hop.toNat < 64 ∧
      (echoOf 1 (echo 3 true).hop.toNat (prb 3)).rts.length < ((prb 3).bus 1).cnt ∧
      (((prb 3).bus 1).cnt ≠ 8 ∨ bitN (BitVec.toNat (nth (echo 3 true).data 2 0)) 0 = false))
  ∧ (mk1.cbus.chs.length = 2 ∧ busState 1 mk1 ≠ 4)
  ∧ (mk1.cbus.chs.length = 2 ∧ (mk1.bus 1).listen = none)
  ∧ (mk1.cbus.chs.length = 2)
  ∧ (mk1.cbus.chs.length = 2 ∧ busState 1 mk1 = 3 ∧ (echo 3 true).fcs = true ∧ frameOk 1 (echo 3 true) mk1 = true ∧
      (echo 3 true).kind = 5 ∧ (echo 3 true).data.length = 3 ∧ (echo 3 true).hop.toNat < 64 ∧
      (echoOf 1 (echo 3 true).hop.toNat mk1).rts.length < (mk1.bus 1).cnt ∧ (mk1.bus 1).cnt = 8 ∧
      bitN (BitVec.toNat (nth (echo 3 true).data 2 0)) 0 = true)
  ∧ (mk2.cbus.chs.length = 2 ∧ busState 1 mk2 ≠ 3)
  ∧ (confBad.cbus.chs.length = 2 ∧ busState 1 confBad = 4 ∧
      checkBank 1 (actBank 1 (each (List.range (found 1 confBad)) (fun k s => if stnState 1 k s = 0 then setStn 1 k 2 s else s) confBad)) (each (List.range (found 1 confBad)) (fun k s => if stnState 1 k s = 0 then setStn 1 k 2 s else s) confBad) ≠ 0)
  ∧ (conf.cbus.chs.length = 2 ∧ busState 1 conf = 4 ∧ found 1 conf ≤ 64 ∧
      checkBank 1 (actBank 1 (each (List.range (found 1 conf)) (fun k s => if stnState 1 k s = 0 then setStn 1 k 2 s else s) conf)) (each (List.range (found 1 conf)) (fun k s => if stnState 1 k s = 0 then setStn 1 k 2 s else s) conf) = 0)
  ∧ (mk2.cbus.chs.length = 2 ∧ frameOk 1 foreign mk2 = true ∧ (foreign.kind = 1 ∨ foreign.kind = 2 ∨ foreign.kind = 4) ∧
      (busState 1 mk2 = 1 ∨ busState 1 mk2 = 6))
  ∧ ((bst 5 (waits false false)).cbus.chs.length = 2 ∧ frameOk 1 foreign (bst 5 (waits false false)) = true ∧
      (foreign.kind = 1 ∨ foreign.kind = 2 ∨ foreign.kind = 4) ∧ busState 1 (bst 5 (waits false false)) = 5 ∧
      ((bst 5 (waits false false)).bus 1).backAt = none)
  ∧ (back5.cbus.chs.length = 2 ∧ frameOk 1 foreign back5 = true ∧ (foreign.kind = 1 ∨ foreign.kind = 2 ∨ foreign.kind = 4) ∧
      busState 1 back5 = 5 ∧ (back5.bus 1).backAt = some 5)
  ∧ (mk2.cbus.chs.length = 2 ∧ (mk2.bus 1).listen = some 55 ∧ (busState 1 mk2 = 1 ∨ busState 1 mk2 = 6)) := by
  refine ⟨?_, ?_, ?_, ?_, ?_, ?_, ?_, ?_, ?_, ?_, ?_, ?_⟩ <;> decide +kernel

/-- The hypotheses of ChannelsObeyCommands can be met, clause by clause. -/
theorem witness_ChannelsObeyCommands :
    ((s0.dp (R.CBUS_CH_CFG 1) F.CBUS_CH_CFG_SPEED 3).cbus.chs.length = 2 ∧
      busState 1 (s0.dp (R.CBUS_CH_CFG 1) F.CBUS_CH_CFG_SPEED 3) = 0 ∧
      speedBad 1 (s0.dp (R.CBUS_CH_CFG 1) F.CBUS_CH_CFG_SPEED 3) = true)
  ∧ (s0.cbus.chs.length = 2 ∧ busClosed 1 s0 = false ∧ busState 1 s0 = 0)
  ∧ (s0.cbus.chs.length = 2 ∧ busState 1 s0 ≠ 5)
  ∧ (s0.cbus.chs.length = 2 ∧ busState 1 s0 ≠ 7)
  ∧ (s0.cbus.chs.length = 2 ∧ (compat 1 s0 && speedBad 1 s0) = false ∧ checkBank 1 (1 - actBank 1 s0) s0 = 0)
  ∧ (s0.cbus.chs.length = 2)
  ∧ (s0.cbus.chs.length = 2 ∧ (7 : Nat) ≤ 12)
  ∧ (s0.cbus.chs.length = 2 ∧ busGuards (busSlotOf (BusReg.slotTime 1 1 5)) s0 = [])
  ∧ (s0.cbus.chs.length = 2 ∧ busGuards (busSlotOf (BusReg.slotTime 1 0 5)) s0 = [1])
  ∧ (s0.cbus.chs.length = 2 ∧ 1 ∈ busGuards (busSlotOf (BusReg.slotTime 1 0 5)) s0)
  ∧ (((s0.dp (R.CBUS_CH_CFG 1) F.CBUS_CH_CFG_SPEED 1).dp (R.CBUS_CH_CFG 1) F.CBUS_CH_CFG_COMPAT 1).cbus.chs.length = 2 ∧
      compat 1 ((s0.dp (R.CBUS_CH_CFG 1) F.CBUS_CH_CFG_SPEED 1).dp (R.CBUS_CH_CFG 1) F.CBUS_CH_CFG_COMPAT 1) = true ∧
      speedBad 1 ((s0.dp (R.CBUS_CH_CFG 1) F.CBUS_CH_CFG_SPEED 1).dp (R.CBUS_CH_CFG 1) F.CBUS_CH_CFG_COMPAT 1) = true)
  ∧ (s0.cbus.chs.length = 2 ∧ busState 1 s0 = 0 ∧ speedBad 1 s0 = false)
  ∧ (closedB.cbus.chs.length = 2 ∧ busState 1 closedB ≠ 0)
  ∧ ((bst 5 (polls 0)).cbus.chs.length = 2 ∧ busClosed 1 (bst 5 (polls 0)) = false ∧ busState 1 (bst 5 (polls 0)) ≠ 0)
  ∧ ((bst 5 (polls 0)).cbus.chs.length = 2 ∧ busState 1 (bst 5 (polls 0)) = 5 ∧ busClosed 1 (bst 5 (polls 0)) = false)
  ∧ ((bst 7 (polls 0)).cbus.chs.length = 2 ∧ busState 1 (bst 7 (polls 0)) = 7)
  ∧ (closedB.cbus.chs.length = 2 ∧ busState 1 closedB = 5 ∧ busClosed 1 closedB = true)
  ∧ (closedB.cbus.chs.length = 2 ∧ busClosed 1 closedB = true)
  ∧ (closedB.cbus.chs.length = 2 ∧ (compat 1 closedB && speedBad 1 closedB) = false ∧
      checkBank 1 (1 - actBank 1 closedB) closedB ≠ 0) := by
  refine ⟨?_, ?_, ?_, ?_, ?_, ?_, ?_, ?_, ?_, ?_, ?_, ?_, ?_, ?_, ?_, ?_, ?_, ?_, ?_⟩ <;> decide +kernel

end Sys2Proof.Tests.W7
end

