-- ==== Sys2Proof/Tests/Witness8.lean ====
section
/-! SUPPORT. Witnesses, part 8: states and operands that meet the hypotheses of each clause of a statement together. -/

open Sys2Proof Sys2Proof.Machine Sys2Proof.Tests

namespace Sys2Proof.Tests.W8

set_option Elab.async false
set_option linter.all false
set_option maxRecDepth 100000

def s0 := State.reset
def ann0 : PtpAnn := ⟨7, 99, 128, 6, 0x21, 100, 128, 1, 37, true, false, false, true⟩
def ptp1 (f : PtpSt → PtpSt) (s : State) : State := s.setPtp 1 (f (s.ptp 1))
def st0 (n port : Nat) : State :=
  let s := s0.wr .a (R.FED_PTP_STATUS 1) ((s0.rd .a (R.FED_PTP_STATUS 1)) ||| BitVec.ofNat 36 (port <<< 20))
  let s := s.dp (R.FED_PTP_STATUS 1) F.FED_PTP_STATUS_STATE n
  let s := (s.dp (R.FED_PTP_CFG 1) F.FED_PTP_CFG_EN 1).dp (R.FED_PTP_CFG 1) F.FED_PTP_CFG_PORTS 2
  let s := (s.dp (R.FED_PORT_CFG 1) F.FED_PORT_CFG_EN 1).dp (R.FED_PORT_STATUS 1) F.FED_PORT_STATUS_LINK 1
  { s with now := 7000000000 }
def slave : State := ptp1 (fun x => { x with parent := some ann0, d1 := some 40, req := x.req.set 1 (some (5, 30)), servo := { x.servo with theta := some 3, last := some 1000, rhoI := 9 } }) (st0 3 9)
def msg (two : Bool) : PtpMsg := ⟨7, 5, 20, 65536, two⟩
def oth : PtpMsg := { msg false with seq := 6 }
def slave2 : State := ptp1 (fun x => { x with sync := some (1, 4000, msg true) }) slave
def master : State := st0 1 6
def mk1 := (ptp1 (fun x => {x with parent := some ann0}) master)
def peer (s : State) : State := s.dp (R.FED_PTP_CFG 1) F.FED_PTP_CFG_DELAY 1
def mk2 := (ptp1 (fun x => {x with resp := x.resp.set 1 (some (5, 22, 23))}) (peer slave))

def annMe : PtpAnn := {ann0 with gm := BitVec.ofNat 64 (clockId s0)}
def mk3 := {ann0 with steps := 255}
def mk4 := { slave with fed := { slave.fed with ppsState := 3 } }

def beac : State := let s := withBoot slave (fun b => {b with refclk := true, up := true}); { s with fed := { s.fed with rhoNext := some 33, src := (1, 0) } }
def mk5 := ({slave with fed := {slave.fed with ppsState := 2}}.dp R.TIM_PPS_CFG F.TIM_PPS_CFG_IN_EN 1)
def track : State := ({ slave with fed := { slave.fed with src := (1, 1) } }).dp R.TIM_CAL_TRIM F.TIM_CAL_TRIM_AUTO 1

def pr (k id : Nat) (s : State) : State := (s.dp (R.FED_PEER_CFG k) F.FED_PEER_CFG_EN 1).dp (R.FED_PEER_CFG k) F.FED_PEER_CFG_PEER_ID id
def ex : State := pr 2 77 (((({ slave with cyc := { slave.cyc with inCycle := true } }).dp R.TIM_CYC_STATUS F.TIM_CYC_STATUS_STATE 1).dp R.FED_EXCH_CFG F.FED_EXCH_CFG_EN 1).dp R.FED_CFG F.FED_CFG_FED_ID 9)
def fr : FedFrame := ⟨8000000000, true, BitVec.ofNat 16 (ex.dg R.FED_CFG F.FED_CFG_ETHERTYPE), 1, 1, 77, 9, BitVec.ofNat 14 (ex.dg R.TIM_CYC_ACT_PERIOD F.TIM_CYC_ACT_PERIOD_VALUE), 0, [0, 0]⟩
def mk6 : FedFrame := {fr with fcs := false}
def mk7 : FedFrame := {fr with src := 76}
def fr2 : FedFrame := {fr with t := 10, words := [lo72 (7000000000*0), 0]}
def frMe : FedFrame := {fr with src := 9}
def frV : FedFrame := {fr with ver := 2}
def ms : State := ex.dp (R.FED_PEER_STATUS 2) F.FED_PEER_STATUS_MISS_RUN 8

/-- The hypotheses of PtpInstancesFollowTheirMessages can be met, clause by clause. -/
theorem witness_PtpInstancesFollowTheirMessages :
    (mk2.fed.ptp.length = 8 ∧ ofMaster 1 1 (msg true) mk2 = true ∧ (msg true).twoStep = true)
  ∧ (s0.fed.ptp.length = 8 ∧
      (∀ (h : ℕ) (y : PtpMsg), (s0.ptp 1).sync = some (1, h, y) → y.seq = oth.seq → ofMaster 1 1 oth s0 = false))
  ∧ (s0.fed.ptp.length = 8 ∧ portState 1 1 s0 ≠ 6)
  ∧ (s0.fed.ptp.length = 8 ∧ (portState 1 1 s0 ≠ 6 ∨ peerDelay 1 s0 = true))
  ∧ (mk2.fed.ptp.length = 8 ∧ ptpState 1 mk2 ≠ 0 ∧ 1 ∈ memberPorts 1 mk2 ∧ (peerDelay 1 mk2 = true ∨ portState 1 1 mk2 = 9))
  ∧ (slave.fed.ptp.length = 8 ∧ nth (slave.ptp 1).req 1 none = some ((msg true).seq.toNat, 30) ∧ (slave.ptp 1).d1 = some 40 ∧
      ofMaster 1 1 (msg true) slave = true ∧ peerDelay 1 slave = false)
  ∧ (s0.fed.ptp.length = 8 ∧
      ((∀ (t3 : ℚ), nth (s0.ptp 1).req 1 none ≠ some (oth.seq.toNat, t3)) ∨ (s0.ptp 1).d1 = none ∨ ofMaster 1 1 oth s0 = false ∨ peerDelay 1 s0 = true))
  ∧ (s0.fed.ptp.length = 8 ∧ (ptpState 1 s0 = 0 ∨ 1 ∉ memberPorts 1 s0 ∨ peerDelay 1 s0 = false))
  ∧ (s0.fed.ptp.length = 8 ∧
      ((∀ (t1 : ℚ), nth (s0.ptp 1).req 1 none ≠ some (oth.seq.toNat, t1)) ∨ peerDelay 1 s0 = false ∨ true = true ∧
      ∀ (r4 r2 : ℚ), nth (s0.ptp 1).resp 1 none ≠ some (oth.seq.toNat, r4, r2)))
  ∧ (s0.fed.ptp.length = 8 ∧ ofMaster 1 1 oth s0 = false)
  ∧ (s0.fed.ptp.length = 8 ∧ (ptpState 1 s0 = 0 ∨ 1 ∉ memberPorts 1 s0 ∨ peerDelay 1 s0 = false ∧ portState 1 1 s0 ≠ 9))
  ∧ (slave.fed.ptp.length = 8 ∧ ofMaster 1 1 (msg false) slave = true ∧ ((msg false).twoStep = false ∧
      Instr.ptpSyncReceived 1 1 4000 (msg false) = Instr.ptpSyncReceived 1 1 4000 (msg false) ∧ 4000 = 4000 ∧ 20 = (msg false).ns ∧
      65536 = (msg false).corr))
  ∧ (mk1.fed.ptp.length = 8 ∧ portState 1 1 mk1 = 6)
  ∧ (master.fed.ptp.length = 8 ∧ portState 1 1 master = 6 ∧ (master.ptp 1).parent = none)
  ∧ (mk1.fed.ptp.length = 8 ∧ portState 1 1 mk1 = 6 ∧ peerDelay 1 mk1 = false)
  ∧ (mk1.fed.ptp.length = 8 ∧ portState 1 1 mk1 = 6 ∧ (mk1.ptp 1).parent = some ann0)
  ∧ (mk2.fed.ptp.length = 8 ∧ ptpState 1 mk2 ≠ 0 ∧ 1 ∈ memberPorts 1 mk2 ∧ peerDelay 1 mk2 = true)
  ∧ (mk2.fed.ptp.length = 8 ∧ nth (mk2.ptp 1).req 1 none = some ((msg true).seq.toNat, 30) ∧ peerDelay 1 mk2 = true ∧
      (msg true).twoStep = true)
  ∧ (mk2.fed.ptp.length = 8 ∧ nth (mk2.ptp 1).req 1 none = some ((msg false).seq.toNat, 30) ∧ peerDelay 1 mk2 = true ∧
      (msg false).twoStep = false)
  ∧ (mk2.fed.ptp.length = 8 ∧ nth (mk2.ptp 1).req 1 none = some ((msg true).seq.toNat, 30) ∧ peerDelay 1 mk2 = true ∧
      nth (mk2.ptp 1).resp 1 none = some ((msg true).seq.toNat, 22, 23))
  ∧ (mk4.fed.ptp.length = 8 ∧ ptpState 1 mk4 ≠ 0 ∧ 1 ∈ memberPorts 1 mk4 ∧ portUp 1 mk4 = true ∧ ann0.steps.toNat ≤ 254 ∧
      ann0.gm.toNat ≠ clockId mk4)
  ∧ (mk4.fed.ptp.length = 8 ∧ ptpState 1 mk4 ≠ 0 ∧ 1 ∈ memberPorts 1 mk4 ∧ portUp 1 mk4 = true ∧
      (254 < annMe.steps.toNat ∨ annMe.gm.toNat = clockId mk4))
  ∧ (mk4.fed.ptp.length = 8 ∧ ptpState 1 mk4 ≠ 0 ∧ 1 ∈ memberPorts 1 mk4 ∧ portUp 1 mk4 = true)
  ∧ (mk4.fed.ptp.length = 8 ∧ ptpState 1 mk4 = 3)
  ∧ (s0.fed.ptp.length = 8 ∧ s0.fed.ppsState ≠ 3)
  ∧ (mk4.fed.ptp.length = 8 ∧ F.FED_PTP_CFG_EN.get 0 = 0 ∧ ptpState 1 mk4 ≠ 0)
  ∧ (s0.fed.ptp.length = 8 ∧ F.FED_PTP_CFG_EN.get ↑(1 <<< 35) = 1)
  ∧ (s0.fed.ptp.length = 8)
  ∧ (s0.fed.ptp.length = 8 ∧ (2 : Nat) ≤ 3)
  ∧ (s0.fed.ptp.length = 8 ∧ 0 < 2)
  ∧ (s0.fed.ptp.length = 8 ∧ s0.dg (R.FED_PORT_STATUS 1) F.FED_PORT_STATUS_LINK ≠ b2n true)
  ∧ (s0.fed.ptp.length = 8 ∧ s0.dg (R.FED_PORT_STATUS 1) F.FED_PORT_STATUS_LINK = b2n false)
  ∧ (mk4.fed.ptp.length = 8 ∧ mk4.fed.ppsState = 3)
  ∧ (s0.fed.ptp.length = 8 ∧ (ptpState 1 s0 = 0 ∨ 1 ∉ memberPorts 1 s0 ∨ portUp 1 s0 = false))
  ∧ (s0.fed.ptp.length = 8 ∧ ptpState 1 s0 ≠ 3)
  ∧ (s0.fed.ptp.length = 8 ∧ F.FED_PTP_CFG_EN.get ↑(1 <<< 35) = 1 ∧ ptpState 1 s0 = 0 ∧ (s0.ptp 1).foreign = [])
  ∧ (s0.fed.ptp.length = 8 ∧ F.FED_PTP_CFG_EN.get 0 = 0 ∧ ptpState 1 s0 = 0) := by
  refine ⟨?_, ?_, ?_, ?_, ?_, ?_, ?_, ?_, ?_, ?_, ?_, ?_, ?_, ?_, ?_, ?_, ?_, ?_, ?_, ?_, ?_, ?_, ?_, ?_, ?_, ?_, ?_, ?_, ?_, ?_, ?_, ?_, ?_, ?_, ?_, ?_, ?_⟩ <;> first | decide +kernel | (and_intros <;> first | decide +kernel | exact nth_none (by decide +kernel) | exact none_ne (by decide +kernel) | exact none_ne2 (by decide +kernel) | exact none_all2 (by decide +kernel) | exact some_all3 (by decide +kernel) | exact .inl (by decide +kernel) | exact .inl (none_ne (by decide +kernel)) | exact .inr (.inr ⟨rfl, none_ne2 (by decide +kernel)⟩))

/-- The hypotheses of TheTimeKeeperKeepsTime can be met, clause by clause. -/
theorem witness_TheTimeKeeperKeepsTime :
    ((beac.boot.refclk = true ∧ beac.boot.up = true ∧ bootStage beac ≠ 9))
  ∧ (F.TIM_SRC_KIND.get 0 ≠ 3)
  ∧ (F.TIM_SRC_KIND.get ↑(3 <<< 34) = 3)
  ∧ ((beac.dg R.TIM_PPS_CFG F.TIM_PPS_CFG_IN_EN = 0 ∨ ppsTooClose (0 * 500) beac = true))
  ∧ (beac.dg R.TIM_PPS_CFG F.TIM_PPS_CFG_IN_EN = 0 ∧ beac.fed.src.1 ≠ 2)
  ∧ (mk5.dg R.TIM_PPS_CFG F.TIM_PPS_CFG_OUT_EN = 0)
  ∧ ((mk5.dg R.TIM_CAL_TRIM F.TIM_CAL_TRIM_AUTO = 0 ∨ steerState mk5 ≠ 3))
  ∧ (steerState mk5 ≠ 3)
  ∧ ((3 : Nat) ≤ 3)
  ∧ (0 < 3)
  ∧ ((¬(mk5.boot.refclk = true ∧ mk5.boot.up = true ∧ bootStage mk5 ≠ 9)))
  ∧ (mk5.dg R.TIM_PPS_CFG F.TIM_PPS_CFG_IN_EN = 1 ∧ ppsTooClose (0 * 500) mk5 = false)
  ∧ ((mk5.dg R.TIM_PPS_CFG F.TIM_PPS_CFG_IN_EN = 1 ∨ mk5.fed.src.1 = 2))
  ∧ ((slave.dp R.TIM_PPS_CFG F.TIM_PPS_CFG_OUT_EN 1).dg R.TIM_PPS_CFG F.TIM_PPS_CFG_OUT_EN = 1)
  ∧ (track.dg R.TIM_CAL_TRIM F.TIM_CAL_TRIM_AUTO = 1 ∧ steerState track = 3)
  ∧ (steerState track = 3) := by
  refine ⟨?_, ?_, ?_, ?_, ?_, ?_, ?_, ?_, ?_, ?_, ?_, ?_, ?_, ?_, ?_, ?_⟩ <;> decide +kernel

/-- The hypotheses of FederationFramesPass can be met, clause by clause. -/
theorem witness_FederationFramesPass :
    (ex.dg R.FED_EXCH_CFG F.FED_EXCH_CFG_EN = 1 ∧ inCycle ex = true)
  ∧ ((portOn 0 ex = false ∨ fr.fcs = true ∧
      (fr.etype.toNat ≠ ex.dg R.FED_CFG F.FED_CFG_ETHERTYPE ∨ fr.ver ≠ 1 ∨ fr.kind ≠ 1 ∨ fr.src.toNat ≠ fedId ex ∧
      fr.dst.toNat ≠ fedId ex)))
  ∧ (portOn 1 ex = true ∧ frMe.fcs = true ∧ frMe.etype.toNat = ex.dg R.FED_CFG F.FED_CFG_ETHERTYPE ∧ frMe.ver = 1 ∧ frMe.kind = 1 ∧
      frMe.src.toNat = fedId ex)
  ∧ (portOn 1 ex = true ∧ mk6.fcs = false)
  ∧ (portOn 1 ex = true ∧ fr.fcs = true ∧ fr.etype.toNat = ex.dg R.FED_CFG F.FED_CFG_ETHERTYPE ∧ fr.ver = 1 ∧ fr.kind = 1 ∧
      fr.src.toNat ≠ fedId ex ∧ fr.dst.toNat = fedId ex ∧
      List.find? (fun k => peerOn k ex && peerId k ex == fr.src.toNat) (List.range 16) = some 2 ∧ fr.words.length ≤ 2)
  ∧ (portOn 1 ex = true ∧ mk7.fcs = true ∧ mk7.etype.toNat = ex.dg R.FED_CFG F.FED_CFG_ETHERTYPE ∧ mk7.ver = 1 ∧ mk7.kind = 1 ∧
      mk7.src.toNat ≠ fedId ex ∧ mk7.dst.toNat = fedId ex ∧
      (∀ (k : Fin 16), peerOn (↑k) ex = true → peerId (↑k) ex ≠ mk7.src.toNat))
  ∧ ((peerOn 0 ex = false ∨ 0 ∈ ex.fed.missed ∨ ex.dg (R.FED_PEER_STATUS 0) F.FED_PEER_STATUS_MISS_RUN < 8))
  ∧ (exchEarly (F.FED_EXCH_CFG_EXCH_OFS.get 4886718345) (ex.dg R.TIM_CYC_ACT_FB_DEADLINE F.TIM_CYC_ACT_PERIOD_VALUE) = false)
  ∧ (exchEarly (F.FED_EXCH_CFG_EXCH_OFS.get 0) (ex.dg R.TIM_CYC_ACT_FB_DEADLINE F.TIM_CYC_ACT_PERIOD_VALUE) = true)
  ∧ ((ex.dg R.FED_EXCH_CFG F.FED_EXCH_CFG_EN = 1 ∨ busState 0 ex ≠ 0 ∨ busState 1 ex ≠ 0) ∧ F.FED_CFG_FED_ID.get 0 ≠ fedId ex)
  ∧ ((slave.dg R.FED_EXCH_CFG F.FED_EXCH_CFG_EN = 0 ∨ inCycle slave = false))
  ∧ (busState 0 slave = 0 ∧ busState 1 slave = 0 ∧ slave.dg R.FED_EXCH_CFG F.FED_EXCH_CFG_EN = 0)
  ∧ (peerOn 2 ms = true ∧ 2 ∉ ms.fed.missed ∧ 8 ≤ ms.dg (R.FED_PEER_STATUS 2) F.FED_PEER_STATUS_MISS_RUN) := by
  refine ⟨?_, ?_, ?_, ?_, ?_, ?_, ?_, ?_, ?_, ?_, ?_, ?_, ?_⟩ <;> first | decide +kernel | (and_intros <;> first | decide +kernel | exact nth_none (by decide +kernel) | exact none_ne (by decide +kernel) | exact none_ne2 (by decide +kernel) | exact none_all2 (by decide +kernel) | exact some_all3 (by decide +kernel) | exact .inl (by decide +kernel) | exact .inl (none_ne (by decide +kernel)) | exact .inr (.inr ⟨rfl, none_ne2 (by decide +kernel)⟩))

end Sys2Proof.Tests.W8
end

