-- ==== Sys2Proof/Tests/Witness9.lean ====
section
/-! SUPPORT. Witnesses, part 9: states and operands that meet the hypotheses of each clause of a statement together. -/

open Sys2Proof Sys2Proof.Machine Sys2Proof.Tests

namespace Sys2Proof.Tests.W9

set_option Elab.async false
set_option linter.all false
set_option maxRecDepth 100000

def cfg (r p sel : Nat) : Word := F.CLE_CH_CFG_RATE.set (F.CLE_CH_CFG_PHASE.set (F.CLE_CH_CFG_PARSEL.set 0 sel) p) r
def ax : AxisTab := ⟨false, 0, 0x1000, 5, 5, 5⟩
def arm3 : ArmTab := ⟨[ax, ax], [130], [], [], [], [], [], [], [], poseId, poseId, poseId, 0⟩
def base : State := { granted with tab := { granted.tab with arms := [⟨[], [], [], [], [], [], [], [], [], poseId, poseId, poseId, 0⟩, ⟨[], [], [], [], [], [], [], [], [], poseId, poseId, poseId, 0⟩, ⟨[], [], [], [], [], [], [], [], [], poseId, poseId, poseId, 0⟩, arm3] }, cyc := { granted.cyc with starts := 6, tick := 99 }, now := 5000000 }
def md (c n : Nat) (s : State) : State := s.put .a (R.CLE_CH_STATUS c) F.CLE_CH_STATUS_MODE n
def fb (c n : Nat) (s : State) : State := s.put .a (R.CLE_CH_STATUS c) F.CLE_CH_STATUS_FB_STATE n
def runst : State := fb 25 1 (md 24 3 (md 25 2 base))
def stp (s : State) (u : StopUnit) : State := s.setCle .a { s.cle .a with stops := (s.cle .a).stops.set 3 u }
def mk1 := (stp runst ⟨1, 1, [(0,1)], 4000000⟩)
def mk2 := (stp (fb 25 3 runst) ⟨1, 2, [(0,1)], 4000000⟩)
def mk3 := (stp runst ⟨2, 1, [], 4000000⟩)
def mk4 := (stp runst ⟨1, 1, [], 4000000⟩)
def mk5 := (stp runst ⟨2, 1, [(5, 1)], 4000000⟩)

def stop2S : State := stp runst ⟨2, 1, [(0, 1), (5, 1)], 4000000⟩
def stop0S : State := stp runst ⟨2, 0, [(0, 0)], 4000000⟩

/-- The hypotheses of ChannelsRunOncePerCycle can be met, clause by clause. -/
theorem witness_ChannelsRunOncePerCycle :
    (base.chanter = some Plane.a ∧ (base.cle Plane.a).chs.length = 192 ∧ runDue Plane.a 7 base = true)
  ∧ (base.chanter = some Plane.a ∧ (base.cle Plane.a).chs.length = 192)
  ∧ (base.chanter = some Plane.a ∧ (base.cle Plane.a).chs.length = 192 ∧ F.CLE_CH_CFG_RATE.get 0 ≠ 7 ∧
      F.CLE_CH_CFG_PHASE.get 0 < 2 ^ F.CLE_CH_CFG_RATE.get 0 ∧ base.closedCh Plane.a 7 = false)
  ∧ (base.chanter = some Plane.a ∧ (base.cle Plane.a).chs.length = 192 ∧
      (F.CLE_CH_CFG_RATE.get (cfg 2 5 1) = 7 ∨ 2 ^ F.CLE_CH_CFG_RATE.get (cfg 2 5 1) ≤ F.CLE_CH_CFG_PHASE.get (cfg 2 5 1)))
  ∧ (granted.chanter = some Plane.a ∧ (granted.cle Plane.a).chs.length = 192 ∧ runDue Plane.a 7 granted = false)
  ∧ (runst.chanter = some Plane.a ∧ (runst.cle Plane.a).chs.length = 192 ∧ F.CLE_CH_CFG_RATE.get (cfg 3 5 1) ≠ 7 ∧
      F.CLE_CH_CFG_PHASE.get (cfg 3 5 1) < 2 ^ F.CLE_CH_CFG_RATE.get (cfg 3 5 1) ∧ runst.closedCh Plane.a 25 = true ∧
      (F.CLE_CH_CFG_RATE.get (cfg 3 5 1) ≠ runst.get Plane.a (R.CLE_CH_CFG 25) F.CLE_CH_CFG_RATE ∨ F.CLE_CH_CFG_PHASE.get (cfg 3 5 1) ≠ runst.get Plane.a (R.CLE_CH_CFG 25) F.CLE_CH_CFG_PHASE)) := by
  refine ⟨?_, ?_, ?_, ?_, ?_, ?_⟩ <;> decide +kernel

/-- The hypotheses of ArmsStopAndClear can be met, clause by clause. -/
theorem witness_ArmsStopAndClear :
    (runst.chanter = some Plane.a ∧ (runst.cle Plane.a).chs.length = 192 ∧ 3 < (runst.cle Plane.a).stops.length ∧
      (∀ c ∈ runst.stopChannels 3, c < 192) ∧ (runst.stopOf Plane.a 3).state = 0 ∧ (runst.stopOf Plane.a 3).reqs = [] ∧ (1 = 1 ∧
      Instr.stop1 3 = Instr.stop1 3) ∧ (∀ c ∈ runst.stopChannels 3, fbState Plane.a c runst ≠ 3))
  ∧ (runst.chanter = some Plane.a ∧ (runst.cle Plane.a).chs.length = 192 ∧ 3 < (runst.cle Plane.a).stops.length ∧
      (∀ c ∈ runst.stopChannels 3, c < 192) ∧ (runst.stopOf Plane.a 3).state = 0 ∧ (runst.stopOf Plane.a 3).reqs = [])
  ∧ (mk1.chanter = some Plane.a ∧ (mk1.cle Plane.a).chs.length = 192 ∧ 3 < (mk1.cle Plane.a).stops.length ∧
      (∀ c ∈ mk1.stopChannels 3, c < 192) ∧ (mk1.stopOf Plane.a (unitOf 0 mk1)).state ≠ 1)
  ∧ (mk3.chanter = some Plane.a ∧ (mk3.cle Plane.a).chs.length = 192 ∧ 3 < (mk3.cle Plane.a).stops.length ∧
      (∀ c ∈ mk3.stopChannels 3, c < 192) ∧ (mk3.stopOf Plane.a 3).state ≠ 1 ∧ (mk3.stopOf Plane.a 3).reqs = [])
  ∧ (mk1.chanter = some Plane.a ∧ (mk1.cle Plane.a).chs.length = 192 ∧ 3 < (mk1.cle Plane.a).stops.length ∧
      (∀ c ∈ mk1.stopChannels 3, c < 192))
  ∧ (mk1.chanter = some Plane.a ∧ (mk1.cle Plane.a).chs.length = 192 ∧ 3 < (mk1.cle Plane.a).stops.length ∧
      (∀ c ∈ mk1.stopChannels 3, c < 192) ∧ (5 : Nat) ≤ 12)
  ∧ (mk1.chanter = some Plane.a ∧ (mk1.cle Plane.a).chs.length = 192 ∧ 3 < (mk1.cle Plane.a).stops.length ∧
      (∀ c ∈ mk1.stopChannels 3, c < 192) ∧ unitOf 25 mk1 = 3 ∧ (mk1.stopOf Plane.a 3).state = 1)
  ∧ (mk1.chanter = some Plane.a ∧ (mk1.cle Plane.a).chs.length = 192 ∧ 3 < (mk1.cle Plane.a).stops.length ∧
      (∀ c ∈ mk1.stopChannels 3, c < 192) ∧ ((mk1.stopOf Plane.a 3).state = 1 ∨ (mk1.stopOf Plane.a 3).reqs ≠ []))
  ∧ (stop2S.chanter = some Plane.a ∧ (stop2S.cle Plane.a).chs.length = 192 ∧ 3 < (stop2S.cle Plane.a).stops.length ∧
      (∀ c ∈ stop2S.stopChannels 3, c < 192) ∧ (stop2S.stopOf Plane.a 3).state = 2 ∧ (2 = 2 ∧ Instr.stop2 3 = Instr.stop2 3) ∧
      (stop2S.stopOf Plane.a 3).cat ≤ 2 ∧ (∀ r ∈ (stop2S.stopOf Plane.a 3).reqs, (stop2S.stopOf Plane.a 3).cat ≤ r.2)) := by
  refine ⟨?_, ?_, ?_, ?_, ?_, ?_, ?_, ?_, ?_⟩ <;> decide +kernel

end Sys2Proof.Tests.W9
end

/-! ## Flags, their counters and their events (R16, R33, R475) -/

namespace Sys2Proof.Machine

/-- A write of a register leaves the event matrix as it is. -/
@[simp] theorem State.evm_wr (s : State) (q : Plane) (k : Nat) (v : Word) : (s.wr q k v).evm = s.evm := by
  unfold State.wr
  split
  · rfl
  · dsimp only
    split <;> cases q <;> rfl

@[simp] theorem State.evm_flag (s : State) (q : Plane) (b : Bank) (j : Nat) : (s.flag q b j).evm = s.evm := by
  simp [State.flag, State.count, State.put]

/-- The links lie behind the registers. -/
theorem State.linkUp_of_inner {s t : State} (h : t.inner = s.inner) (l : Link) : t.linkUp l = s.linkUp l := by
  have hl : t.links = s.links := congrArg (fun x => x.links) h
  simp [State.linkUp, hl]

theorem State.eventPath_of_inner {s t : State} (h : t.inner = s.inner) (slot : Nat) : t.eventPath slot = s.eventPath slot := by
  simp [State.eventPath, State.linkUp_of_inner h]

/-- The event of a flag changes no register of the flag's own side: the registers of EVM, which NOT_GRANTED changes, lie on a
single-copy die, and only a plane's event raises it. -/
theorem State.rd_notify_of_isDev_eq (s : State) (p q : Plane) {slot k : Nat} (e : Nat) (h : isDev k = isDev slot) :
    (s.notify q slot e).rd p k = s.rd p k := by
  by_cases hd : isDev slot = true
  · simp only [State.notify, hd, if_true]
    split <;> simp [State.event]
  · have hne : ∀ r, isDev r = true → k ≠ r := by
      rintro r hr rfl
      exact hd (h ▸ hr)
    exact s.rd_notify p q slot e k (hne _ (by decide)) (hne _ (by decide))

/-- A register on the side of the bank reads after a raised flag as after the flag itself. -/
theorem State.rd_raise_of_isDev_eq (s : State) (p q : Plane) (b : Bank) (e j : Nat) {k : Nat} (h : isDev k = isDev b.flags) :
    (s.raise q b e j).rd p k = (s.flag q b j).rd p k := by
  simp only [State.raise]
  split
  · exact State.rd_notify_of_isDev_eq _ p q e h
  · rfl

theorem State.flagged_flag (s : State) (q : Plane) (b : Bank) {j : Nat} (hj : j < 36) (h : b.flags ≠ b.cnt + j / 4) :
    (s.flag q b j).flagged q b j := by
  have ok : Fld.ok ⟨j, j⟩ := ⟨Nat.le_refl _, hj⟩
  simp [State.flagged, State.flag, State.count, State.get_put_ne _ _ _ _ _ _ h, State.get_put_same _ _ _ _ _ ok, Fld.width]

/-- The counter of a flag counts the occurrence and stays at 255. -/
theorem State.get_flag_counter (s : State) (q : Plane) (b : Bank) (j : Nat) (h : b.flags ≠ b.cnt + j / 4) :
    (s.flag q b j).get q (b.cnt + j / 4) ⟨8 * (j % 4) + 7, 8 * (j % 4)⟩
      = min 255 (s.get q (b.cnt + j / 4) ⟨8 * (j % 4) + 7, 8 * (j % 4)⟩ + 1) := by
  have ok : Fld.ok ⟨8 * (j % 4) + 7, 8 * (j % 4)⟩ := ⟨by simp, by simp; omega⟩
  have hw : Fld.width ⟨8 * (j % 4) + 7, 8 * (j % 4)⟩ = 8 := by simp only [Fld.width]; omega
  simp only [State.flag, State.count, State.get_put_same _ _ _ _ _ ok, State.get_put_ne _ _ _ _ _ _ h.symm, hw, satAdd]
  omega

/-- The grant is what RED_STATUS shows (R362). -/
theorem State.chanter_of_rd {s t : State} (h : t.rd .a R.RED_STATUS = s.rd .a R.RED_STATUS) : t.chanter = s.chanter := by
  unfold State.chanter State.dg State.get
  rw [h]

theorem State.chanter_flag (s : State) (q : Plane) (b : Bank) (j : Nat) (h1 : b.flags ≠ R.RED_STATUS)
    (h2 : b.cnt + j / 4 ≠ R.RED_STATUS) : (s.flag q b j).chanter = s.chanter :=
  State.chanter_of_rd (s.rd_flag .a q b j R.RED_STATUS (.inl ⟨h1.symm, h2.symm⟩))

theorem State.enabled_flag (s : State) (q : Plane) (b : Bank) (j : Nat)
    (h : ∀ m, b.mask = some m → m ≠ b.flags ∧ m ≠ b.cnt + j / 4) : (s.flag q b j).enabled q b j = s.enabled q b j := by
  cases hm : b.mask with
  | none => simp [State.enabled, hm]
  | some m => simp [State.enabled, hm, s.rd_flag q q b j m (.inl (h m hm))]

/-- The links that the event of a bank's flag takes to the matrix have not failed (R30, R33). -/
def State.bankPath (s : State) (q : Plane) (slot : Nat) : Bool := if isDev slot then s.eventPath slot else s.linkUp (portLink q)

/-- The event of a flag of a single-copy die, or of the plane with the grant, reaches the matrix over links that are up. -/
theorem State.raised_notify (s : State) (q : Plane) (slot e : Nat) (h : isDev slot = true ∨ s.chanter = some q) :
    (s.notify q slot e).evm.raised = if s.bankPath q slot then s.evm.raised ++ [e] else s.evm.raised := by
  by_cases hd : isDev slot = true
  · simp only [State.notify, State.bankPath, hd, if_true]
    split <;> rfl
  · have hq : s.chanter = some q := h.resolve_left hd
    cases hl : s.linkUp (portLink q) <;> simp [State.notify, State.bankPath, State.event, State.toMatrix, hd, hq, hl]

theorem State.raised_raise (s : State) (q : Plane) (b : Bank) (e j : Nat)
    (hm : ∀ m, b.mask = some m → m ≠ b.flags ∧ m ≠ b.cnt + j / 4) (h1 : b.flags ≠ R.RED_STATUS)
    (h2 : b.cnt + j / 4 ≠ R.RED_STATUS) (hg : isDev b.flags = true ∨ s.chanter = some q) :
    (s.raise q b e j).evm.raised
      = if s.enabled q b j ∧ s.bankPath q b.flags = true then s.evm.raised ++ [e] else s.evm.raised := by
  have hi := s.inner_flag q b j
  have hp : (s.flag q b j).bankPath q b.flags = s.bankPath q b.flags := by
    simp [State.bankPath, State.eventPath_of_inner hi, State.linkUp_of_inner hi]
  have hn := (s.flag q b j).raised_notify q b.flags e (by rwa [s.chanter_flag q b j h1 h2])
  rw [hp, s.evm_flag] at hn
  simp only [State.raise, s.enabled_flag q b j hm]
  cases he : s.enabled q b j
  · simp
  · simpa using hn

/-- Settles O4: the flag and its counter are written first, and the event that may follow changes no register on the bank's
side. -/
theorem flagsCountTheirOccurrences : Obligations.FlagsCountTheirOccurrences := by
  intro q b ev j s hj hne hside
  refine ⟨?_, ?_, (Keeps.refl q s _).raise b ev j fun _ hk => hk, ?_⟩
  · simpa only [State.flagged, State.get, s.rd_raise_of_isDev_eq q q b ev j rfl] using s.flagged_flag q b hj hne
  · simpa only [State.get, s.rd_raise_of_isDev_eq q q b ev j hside.symm] using s.get_flag_counter q b j hne
  · intro hm h1 h2 hg
    exact s.raised_raise q b ev j hm h1 h2 hg

end Sys2Proof.Machine

/-! ## Wakes of power domains, and the frame of an access that waits (R471, R495) -/

namespace Sys2Proof.Machine

/-- Between the two states Bellows has only decided wakes, and undone entries and deferrals (R471). -/
def OnlyWakes (s t : State) : Prop :=
  ∃ w e d, t = { s with bel := { s.bel with wake := w, entering := e, deferred := d } }

theorem OnlyWakes.refl (s : State) : OnlyWakes s s := ⟨_, _, _, rfl⟩

theorem OnlyWakes.trans {s t u : State} (h1 : OnlyWakes s t) (h2 : OnlyWakes t u) : OnlyWakes s u := by
  obtain ⟨_, _, _, rfl⟩ := h1
  obtain ⟨w, e, d, rfl⟩ := h2
  exact ⟨w, e, d, rfl⟩

theorem onlyWakes_wake (s : State) (d : Nat) : OnlyWakes s (s.wake d) := by
  unfold State.wake
  dsimp only
  split <;> exact ⟨_, _, _, rfl⟩

theorem onlyWakes_touch (d : Option Nat) (s : State) : OnlyWakes s (touch d s) := by
  cases d with
  | none => exact OnlyWakes.refl s
  | some d => exact onlyWakes_wake s d

theorem onlyWakes_belRecheck (s : State) : OnlyWakes s (belRecheck s) := ⟨_, _, _, rfl⟩

/-- Wakes, one after the other, are wakes. -/
theorem onlyWakes_each {α : Type} (f : α → State → State) (hf : ∀ a s, OnlyWakes s (f a s)) :
    ∀ (l : List α) (s : State), OnlyWakes s (each l f s)
  | [], s => OnlyWakes.refl s
  | a :: l, s => (hf a s).trans (onlyWakes_each f hf l (f a s))

theorem OnlyWakes.rd {s t : State} (h : OnlyWakes s t) (p : Plane) (k : Nat) : t.rd p k = s.rd p k := by
  obtain ⟨_, _, _, rfl⟩ := h
  cases p <;> rfl

theorem OnlyWakes.inner {s t : State} (h : OnlyWakes s t) : t.inner = s.inner := by
  obtain ⟨_, _, _, rfl⟩ := h
  rfl

theorem OnlyWakes.hif {s t : State} (h : OnlyWakes s t) : t.hif = s.hif := by
  obtain ⟨_, _, _, rfl⟩ := h
  rfl

theorem OnlyWakes.held {s t : State} (h : OnlyWakes s t) : t.bel.held = s.bel.held := by
  obtain ⟨_, _, _, rfl⟩ := h
  rfl

theorem OnlyWakes.chanter {s t : State} (h : OnlyWakes s t) : t.chanter = s.chanter := State.chanter_of_rd (h.rd .a _)

/-- Whether a domain is below RUN is what its status register shows, which a wake leaves alone until the exit is done (R468). -/
theorem OnlyWakes.asleep {s t : State} (h : OnlyWakes s t) (d : Option Nat) : asleep d t = asleep d s := by
  cases d <;> simp [Machine.asleep, State.dom, State.dg, State.get, h.rd]

theorem OnlyWakes.slotDomain {s t : State} (h : OnlyWakes s t) (p : Option Plane) (k : Nat) :
    slotDomain p k t = slotDomain p k s := by
  obtain ⟨_, _, _, rfl⟩ := h
  rfl

theorem OnlyWakes.regsKept {s t : State} (h : OnlyWakes s t) (q : Plane) (ks : List Nat) : RegsKept q s t ks :=
  fun p k _ => h.rd p k

theorem OnlyWakes.sameStores {s t : State} (h : OnlyWakes s t) : SameStores s t := State.sw_of_inner h.inner

theorem OnlyWakes.keeps {s t : State} (h : OnlyWakes s t) (q : Plane) (ks : List Nat) : Keeps q s t ks :=
  ⟨h.inner, h.regsKept q ks⟩

/-- The state in which a host access waits for its domain (R25, R495). -/
def State.hold (s : State) (x : HeldAccess) : State := { s with bel := { s.bel with held := s.bel.held ++ [x] } }

/-- The state with a completion for the host (R494). -/
def State.withCompletion (s : State) (ws : List (BitVec 64)) (p : Bool) : State :=
  { s with hif := { s.hif with cpl := ws, poisoned := p } }

/-- A completion wakes PORT_HOST, and changes nothing but the completion (R472). -/
theorem onlyWakes_complete (ws : List (BitVec 64)) (p : Bool) (s : State) : OnlyWakes (s.withCompletion ws p) (complete ws p s) :=
  onlyWakes_wake _ 9

theorem OnlyWakes.hold {s t : State} (h : OnlyWakes s t) (x : HeldAccess) : OnlyWakes (s.hold x) (t.hold x) := by
  obtain ⟨w, e, d, rfl⟩ := h
  exact ⟨w, e, d, rfl⟩

theorem OnlyWakes.withCompletion {s t : State} (h : OnlyWakes s t) (ws : List (BitVec 64)) (p : Bool) :
    OnlyWakes (s.withCompletion ws p) (t.withCompletion ws p) := by
  obtain ⟨w, e, d, rfl⟩ := h
  exact ⟨w, e, d, rfl⟩

/-- An access that waits is held, and nothing else happens to the registers, the stores or the endpoint. -/
theorem OnlyWakes.of_hold {s t : State} {x : HeldAccess} (h : OnlyWakes (s.hold x) t) :
    t.bel.held = s.bel.held ++ [x] ∧ t.hif = s.hif ∧ SameStores s t ∧ RegsKept .a s t [] := by
  obtain ⟨_, _, _, rfl⟩ := h
  exact ⟨rfl, rfl, fun p a => by cases p <;> rfl, fun p k _ => by cases p <;> rfl⟩

/-! ## Reads of BAR0 (R17, R494, R495) -/

/-- The state after a read has woken the domains of the slots it reads. -/
def readWoken (off dws : Nat) (s : State) : State :=
  each (slotsOf (off / 4) dws) (fun k s => touch (slotDomain s.chanter k s) s) s

theorem onlyWakes_readWoken (off dws : Nat) (s : State) : OnlyWakes s (readWoken off dws s) :=
  onlyWakes_each _ (fun k s => onlyWakes_touch (slotDomain s.chanter k s) s) _ s

/-- A read waits where a block it reads is below RUN, and completes otherwise. -/
theorem exec_bar0ReadTlp (off dws : Nat) (s : State) :
    exec (.bar0ReadTlp off dws) s
      = settled (if (slotsOf (off / 4) dws).any (fun k => asleep (slotDomain s.chanter k s) s) then
          (readWoken off dws s).hold (.read off dws s.chanter)
        else complete ((slotsOf (off / 4) dws).map (fun k => laneOf s.chanter (off / 4) dws k (readWoken off dws s))) false
          (readWoken off dws s)) := by
  have hw := onlyWakes_readWoken off dws s
  have hany : (slotsOf (off / 4) dws).any (fun k => asleep (slotDomain (readWoken off dws s).chanter k (readWoken off dws s))
        (readWoken off dws s))
      = (slotsOf (off / 4) dws).any (fun k => asleep (slotDomain s.chanter k s) s) := by
    simp only [hw.chanter, hw.slotDomain, hw.asleep]
  rw [← hany]
  simp only [← hw.chanter]
  rfl

/-- Settles O20: the domains read are woken; then either the access is held or the completion is made, and neither touches a
register or a store word. -/
theorem readsChangeNothing : Obligations.ReadsChangeNothing := by
  intro off dws s
  refine does_of_exec (exec_bar0ReadTlp off dws s) ?_
  have hw := onlyWakes_readWoken off dws s
  split
  · obtain ⟨w, e, d, ht⟩ := (hw.hold (.read off dws s.chanter)).trans (onlyWakes_belRecheck _)
    rw [ht]
    exact ⟨⟨rfl, rfl⟩, rfl, rfl, rfl, rfl, rfl, rfl, rfl, fun p a => by cases p <;> rfl, fun p k _ => by cases p <;> rfl⟩
  · obtain ⟨w, e, d, ht⟩ := ((hw.withCompletion _ false).trans (onlyWakes_complete _ false _)).trans (onlyWakes_belRecheck _)
    rw [ht]
    exact ⟨⟨rfl, rfl, rfl, rfl⟩, rfl, rfl, rfl, rfl, rfl, rfl, rfl, fun p a => by cases p <;> rfl,
      fun p k _ => by cases p <;> rfl⟩

end Sys2Proof.Machine

/-! ## Access codes (R14, R16) -/

namespace Sys2Proof.Machine

/-- A one-bit field reads the bit. -/
theorem Fld.get_bit (w : Word) (j : Nat) : Fld.get ⟨j, j⟩ w = (w.toNat.testBit j).toNat := by
  simp [Fld.get, Nat.toNat_testBit]

theorem bitN_eq_testBit (n j : Nat) : bitN n j = n.testBit j := by
  simp [bitN, Nat.testBit_eq_decide_div_mod_eq, beq_eq_decide]

/-- A single W1C flag falls where a 1 is written, and every other bit stays. -/
theorem testBit_fieldWrite_w1c (f : RegField) (hf : f.acc = .w1c) (hb : f.fld.hi = f.fld.lo) (hl : f.fld.lo < 36)
    (old v : Word) (i : Nat) : (fieldWrite f old v).toNat.testBit i
      = (old.toNat.testBit i && !(v.toNat.testBit i && f.fld.lo == i)) := by
  obtain ⟨⟨hi, lo⟩, acc, r⟩ := f
  obtain rfl : acc = .w1c := hf
  obtain rfl : hi = lo := hb
  have ok : Fld.ok ⟨hi, hi⟩ := ⟨Nat.le_refl _, hl⟩
  simp only [fieldWrite, Fld.testBit_set _ ok, Fld.get_bit]
  by_cases h : hi = i
  · subst h
    cases old.toNat.testBit hi <;> cases v.toNat.testBit hi <;> simp [clearOnes]
  · have : ¬ (hi ≤ i ∧ i ≤ hi) := by omega
    simp [this, h]

/-- A write of a register of W1C flags: a flag falls where a 1 is written. -/
theorem testBit_wordWrite_w1c (v : Word) (i : Nat) : ∀ (fs : List RegField) (old : Word),
    (∀ f ∈ fs, f.acc = .w1c ∧ f.fld.hi = f.fld.lo ∧ f.fld.lo < 36) →
      (wordWrite fs old v).toNat.testBit i = (old.toNat.testBit i && !(v.toNat.testBit i && fs.any (fun f => f.fld.lo == i)))
  | [], old, _ => by simp [wordWrite]
  | f :: fs, old, h => by
    obtain ⟨hf, hb, hl⟩ := h f (by simp)
    have ih := testBit_wordWrite_w1c v i fs (fieldWrite f old v) fun g hg => h g (by simp [hg])
    have hc : wordWrite (f :: fs) old v = wordWrite fs (fieldWrite f old v) v := rfl
    rw [hc, ih, testBit_fieldWrite_w1c f hf hb hl, List.any_cons, Bool.and_assoc, ← Bool.not_or, ← Bool.and_or_distrib_left]

/-- Byte `i` of a counter field. -/
def byteFld (f : Fld) (i : Nat) : Fld := ⟨f.lo + 8 * i + 7, f.lo + 8 * i⟩

/-- One counter byte of a register under a write (R16). -/
def clearByte (f : Fld) (v w : Word) (i : Nat) : Word := if (byteFld f i).get v = 0 then (byteFld f i).set w 0 else w

theorem clearBytes_eq_foldl (f : Fld) (old v : Word) :
    clearBytes f old v = (List.range (f.width / 8)).foldl (clearByte f v) old := rfl

/-- Clearing counters touches no byte but theirs, and each clears where 0 is written. -/
theorem get_foldl_clearByte (f : Fld) (v : Word) {i : Nat} (hi : f.lo + 8 * i + 7 < 36) : ∀ (l : List Nat) (w : Word),
    (∀ j ∈ l, f.lo + 8 * j + 7 < 36) → (byteFld f i).get (l.foldl (clearByte f v) w)
      = if i ∈ l ∧ (byteFld f i).get v = 0 then 0 else (byteFld f i).get w
  | [], w, _ => by simp
  | j :: l, w, h => by
    have ok : (byteFld f j).ok := ⟨by simp [byteFld], h j (by simp)⟩
    have hj : (byteFld f i).get (clearByte f v w j)
        = if i = j ∧ (byteFld f i).get v = 0 then 0 else (byteFld f i).get w := by
      by_cases hij : i = j
      · subst hij
        by_cases hv : (byteFld f i).get v = 0 <;> simp [clearByte, hv, Fld.get_set_same _ ok]
      · have hd : (byteFld f i).hi < (byteFld f j).lo ∨ (byteFld f j).hi < (byteFld f i).lo := by simp only [byteFld]; omega
        by_cases hv : (byteFld f j).get v = 0 <;> simp [clearByte, hv, hij, Fld.get_set_ne _ _ ok hd]
    rw [List.foldl_cons, get_foldl_clearByte f v hi l _ fun m hm => h m (by simp [hm]), hj]
    by_cases hv : (byteFld f i).get v = 0
    · obtain rfl | hij := eq_or_ne i j
      · simp [hv]
      · simp [hij, hv]
    · simp [hv]

/-! ## Plain registers (R14, R15) -/

theorem pick_none_cons (l : List (Option State)) (d : State) : pick (none :: l) d = pick l d := rfl

theorem pick_nil (d : State) : pick [] d = d := rfl

theorem hit_of_ne {r k : Nat} (h : k ≠ r) (t : Unit → State) : hit r k t = none := if_neg h

theorem hitOf_of_not_mem {f : Nat → Nat} {n k : Nat} (h : k ∉ (List.range n).map f) (t : Nat → State) :
    hitOf f n k t = none := by
  have hx : ixOf f n k = none := by
    simp only [List.mem_map, not_exists, not_and] at h
    simpa [ixOf] using fun i hi => h i (List.mem_range.2 hi)
  rw [hitOf, hx, Option.map_none]

/-- The plain registers: their blocks, and the registers there that have a behaviour of their own. -/
theorem plainKey_iff (k : Nat) : plainKey k = true ↔
    (k < 0x80000 ∨ 0xA0000 ≤ k ∧ k < 0x100000 ∨ 0x660000 ≤ k ∧ k < 0x680000 ∨ 0x6A0000 ≤ k ∧ k < 0x6E0000
      ∨ 0x700000 ≤ k ∧ k < 0x800000)
    ∧ (k ≠ R.BOOT_FLASH_CMD ∧ k ≠ R.SEC_CMD ∧ k ≠ R.RED_CFG ∧ k ≠ R.RED_SWAP_PERIOD ∧ k ≠ R.RED_CMD ∧ k ≠ R.SSM2_CMD
      ∧ k ≠ R.SLV_CMD ∧ k ≠ R.EST_CMD ∧ k ≠ R.EST_SUB_WR ∧ k ≠ R.RDB_CMD)
    ∧ k ∉ (List.range 256).map R.EVM_ROUTE ∧ k ∉ (List.range 12).map R.BEL_DOM_CFG := by
  simp only [plainKey, Bool.and_eq_true, Bool.or_eq_true, decide_eq_true_eq, Bool.not_eq_true', List.contains_eq_mem,
    decide_eq_false_iff_not, List.mem_append, List.mem_cons, List.not_mem_nil, or_false, not_or, or_assoc, and_assoc]

theorem writeInDie_of_plainKey {k : Nat} (hp : plainKey k = true) (hd : isDev k = true) (v : Word) (s : State) :
    writeInDie k v s = s.writePlain .a k v := by
  obtain ⟨hr, ⟨h1, h2, h3, h4, h5, h6, -⟩, h7, h8⟩ := (plainKey_iff k).1 hp
  have hk : k < 0x600000 := by simpa [isDev] using hd
  simp only [writeInDie, writeBoot, writeRed, hit_of_ne h1, hit_of_ne h2, hit_of_ne h3, hit_of_ne h4, hit_of_ne h5, hit_of_ne h6,
    hitOf_of_not_mem h7, hitOf_of_not_mem h8, pick_none_cons, pick_nil]
  by_cases hlow : k < 0x80000
  · simp only [hlow, if_true, ite_self]
  · have hmid : 0xA0000 ≤ k ∧ k < 0x100000 := by omega
    have n1 : ¬ k < 0x20000 := by omega
    have n2 : ¬ k < 0x40000 := by omega
    have n3 : ¬ k < 0x60000 := by omega
    have n4 : ¬ k < 0xA0000 := by omega
    simp only [n1, n2, n3, hlow, n4, hmid.2, if_true, if_false, ite_self]

theorem writeInPlane_of_plainKey {k : Nat} (hp : plainKey k = true) (hd : isDev k = false) (q : Plane) (v : Word) (s : State) :
    writeInPlane q k v s = s.writePlain q k v := by
  obtain ⟨hr, ⟨-, -, -, -, -, -, h1, h2, h3, h4⟩, -⟩ := (plainKey_iff k).1 hp
  have hk : ¬ k < 0x600000 := by simpa [isDev] using hd
  have n1 : ¬ k < 0x620000 := by omega
  have n2 : ¬ k < 0x640000 := by omega
  have n3 : ¬ k < 0x660000 := by omega
  simp only [writeInPlane, hit_of_ne h1, hit_of_ne h2, hit_of_ne h3, hit_of_ne h4, pick_none_cons, pick_nil, n1, n2, n3, if_false]
  by_cases hc : k < 0x680000
  · simp only [hc, if_true]
  · have n4 : ¬ k < 0x6A0000 := by omega
    by_cases he : k < 0x6E0000
    · simp only [hc, n4, he, if_true, if_false, ite_self]
    · have n5 : ¬ k < 0x6C0000 := by omega
      have n6 : ¬ k < 0x700000 := by omega
      simp only [hc, n4, n5, he, n6, if_false, ite_self]

/-- A plain register takes a write as its access codes say, and nothing else happens. -/
theorem writeReg_of_plainKey {k : Nat} (hp : plainKey k = true) (q : Plane) (v : Word) (s : State) :
    writeReg q k v s = s.writePlain q k v := by
  by_cases hd : isDev k = true
  · rw [writeReg, if_pos hd, writeInDie_of_plainKey hp hd]
    simp [State.writePlain, State.wr, hd, s.rd_dev .a q hd]
  · rw [writeReg, if_neg hd, writeInPlane_of_plainKey hp (by simpa using hd)]

theorem rd_writePlain (s : State) (q : Plane) (k : Nat) (v : Word) :
    (s.writePlain q k v).rd q k = wordWrite (regFields k) (s.rd q k) v := s.rd_wr_same q k _

theorem keeps_writePlain (s : State) (q : Plane) (k : Nat) (v : Word) : Keeps q s (s.writePlain q k v) [k] :=
  (Keeps.refl q s _).wr k _ (by simp)

/-! ## Writes of a slot (R13, R491 to R495) -/

theorem Does.of_exec_eq {c c' : Instr} {s s' : State} {P : State → Prop} (h : exec c s = exec c' s') (hp : Does c' s' P) :
    Does c s P := by
  obtain ⟨t, ht, hP⟩ := hp
  exact ⟨t, h.trans ht, hP⟩

theorem Does.imp {c : Instr} {s : State} {P Q : State → Prop} (hp : Does c s P) (h : ∀ t, P t → Q t) : Does c s Q := by
  obtain ⟨t, ht, hP⟩ := hp
  exact ⟨t, ht, h t hP⟩

/-- Two commands that answer alike: one does what the other does. -/
theorem does_exec_of_eq {c c' : Instr} {s s' : State} (h : exec c s = exec c' s') : Does c s (fun t => exec c' s' = .next t) := by
  obtain ⟨t, ht⟩ := exec_next c' s'
  exact ⟨t, h.trans ht, ht⟩

/-- The state with the low-half latch empty (R13). -/
def State.unlatched (s : State) : State := { s with hif := { s.hif with latch := none } }

theorem exec_registerWrite {k : Nat} (hm : isMsix k = false) (v : Word) (s : State) :
    exec (.registerWrite (8 * k) v) s = settled (writeSlot k v s) := by
  have hk : 8 * k / 8 = k := by omega
  have hv : (v.setWidth 64).setWidth 36 = v := by simp
  show settled (write64 (8 * k / 8) (v.setWidth 64) s) = _
  rw [hk, write64, if_neg (by simp [hm]), hv]

theorem exec_writeLowHalf (k : Nat) (v : BitVec 32) (s : State) :
    exec (.writeLowHalf (8 * k) v) s = settled (writeLow k v s) := by
  have hk : 8 * k / 8 = k := by omega
  show settled (writeLow (8 * k / 8) v s) = _
  rw [hk]

theorem exec_writeHighHalf (k : Nat) (v : BitVec 32) (s : State) :
    exec (.writeHighHalf (8 * k + 4) v) s = settled (writeHigh k v s) := by
  have hk : (8 * k + 4) / 8 = k := by omega
  show settled (writeHigh ((8 * k + 4) / 8) v s) = _
  rw [hk]

/-- The write of the high half whose low half is latched acts as one 64-bit write of both. -/
theorem exec_writeHighHalf_of_latched {k : Nat} (hm : isMsix k = false) (v w : BitVec 32) {s : State}
    (hl : s.hif.latch = some (latchKey k s, w)) :
    exec (.writeHighHalf (8 * k + 4) v) s = exec (.registerWrite (8 * k) (v.setWidth 4 ++ w)) s.unlatched := by
  rw [exec_writeHighHalf, exec_registerWrite hm]
  simp [writeHigh, hm, hl, State.unlatched]

/-- Without its low half in the latch, the high half is written over the present low bits. -/
theorem exec_writeHighHalf_of_not_latched {k : Nat} (hm : isMsix k = false) (v : BitVec 32) {s : State}
    (hl : ∀ w, s.hif.latch ≠ some (latchKey k s, w)) : exec (.writeHighHalf (8 * k + 4) v) s
      = exec (.registerWrite (8 * k) (v.setWidth 4 ++ (readSlot k s).setWidth 32)) s.unlatched := by
  rw [exec_writeHighHalf, exec_registerWrite hm]
  cases h : s.hif.latch with
  | none => simp [writeHigh, hm, h, State.unlatched]
  | some e =>
    obtain ⟨j, w⟩ := e
    have hj : j ≠ latchKey k s := fun hj => hl w (by rw [h, hj])
    simp [writeHigh, hm, h, hj, State.unlatched]

section
variable {k : Nat} {q : Plane} {s : State} (ht : target k s = some q) (hd : discards q (keyOf k) s = false)
  (hr : isReg (keyOf k) = true)
include ht hd hr

/-- A write to a block below RUN wakes its domain and waits. -/
theorem writeSlot_of_asleep (ha : asleep (domainOf q (keyOf k)) s = true) (v : Word) :
    writeSlot k v s = (touch (domainOf q (keyOf k)) s).hold (.write k q v) := by
  simp [writeSlot, ht, hd, hr, (onlyWakes_touch _ s).asleep, ha, State.hold]

/-- A write to a block in RUN arrives at its register. -/
theorem writeSlot_of_awake (ha : asleep (domainOf q (keyOf k)) s = false) (v : Word) :
    writeSlot k v s = writeReg q (keyOf k) v (touch (domainOf q (keyOf k)) s) := by
  have hw := onlyWakes_touch (domainOf q (keyOf k)) s
  have hd' : discards q (keyOf k) (touch (domainOf q (keyOf k)) s) = false := by
    rw [discards, hw.chanter]
    exact hd
  simp [writeSlot, ht, hd, hr, hw.asleep, ha, arrive, hd']

end

theorem writeSlot_of_no_target {k : Nat} {s : State} (ht : target k s = none) (v : Word) : writeSlot k v s = s := by
  simp [writeSlot, ht]

/-- A write of a plain register whose block is in RUN. -/
theorem does_registerWrite_plain {k : Nat} {q : Plane} {s : State} (hp : plainKey (keyOf k) = true)
    (hr : isReg (keyOf k) = true) (hm : isMsix k = false) (ht : target k s = some q) (hd : discards q (keyOf k) s = false)
    (ha : asleep (domainOf q (keyOf k)) s = false) (v : Word) : Does (.registerWrite (8 * k) v) s (fun t =>
      t.rd q (keyOf k) = wordWrite (regFields (keyOf k)) (s.rd q (keyOf k)) v ∧ Keeps q s t [keyOf k]) := by
  have hw := onlyWakes_touch (domainOf q (keyOf k)) s
  refine does_of_exec ((exec_registerWrite hm v s).trans
    (congrArg settled ((writeSlot_of_awake ht hd hr ha v).trans (writeReg_of_plainKey hp q v _)))) ⟨?_, ?_⟩
  · rw [State.rd_belRecheck, rd_writePlain, hw.rd]
  · exact ((hw.keeps q _).trans (keeps_writePlain _ q _ v)).recheck

/-- A write of a plain register of BOOT, SEC or RED, which lie in no power domain (R467). -/
theorem does_registerWrite_warden {k : Nat} (h1 : 0x40000 ≤ k) (h2 : k < 0x80000) (hp : plainKey k = true) (hr : isReg k = true)
    (v : Word) (s : State) : Does (.registerWrite (8 * k) v) s (fun t =>
      t.rd .a k = wordWrite (regFields k) (s.rd .a k) v ∧ Keeps .a s t [k]) := by
  have hlow : k < 0x200000 := by omega
  have hkey : keyOf k = k := by simp [keyOf, hlow]
  have hmsix : ¬ k < msixSlot + 128 := by simp only [msixSlot]; omega
  have hm : isMsix k = false := by simp [isMsix, hmsix]
  have ht : target k s = some .a := by simp [target, targetAt, hlow]
  have hdev : isDev k = true := by simp [isDev]; omega
  have hdom : domainOf .a k = none := by
    simp [domainOf, show ¬ k < 0x20000 by omega, show ¬ k < 0x40000 by omega, show k < 0x100000 by omega]
  have h := does_registerWrite_plain (k := k) (q := .a) (s := s) (by rwa [hkey]) (by rwa [hkey]) hm ht
    (by simp [discards, hkey, hdev]) (by rw [hkey, hdom]; rfl) v
  rwa [hkey] at h

/-! ## The four access codes at RED (R14 to R16) -/

theorem dg_of_rd {t : State} {k : Nat} {w : Word} (h : t.rd .a k = w) (f : Fld) : t.dg k f = f.get w := by
  rw [State.dg, State.get, h]

theorem get_swapPat (w : Word) : F.RED_SWAP_PAT_LO_PAT.get w = (w.setWidth 32).toNat := by
  simp [Fld.get, F.RED_SWAP_PAT_LO_PAT]

theorem get_wordWrite_swapPat (old v : Word) :
    F.RED_SWAP_PAT_LO_PAT.get (wordWrite (regFields R.RED_SWAP_PAT_LO) old v) = F.RED_SWAP_PAT_LO_PAT.get v := by
  have hf : regFields R.RED_SWAP_PAT_LO = [⟨F.RED_SWAP_PAT_LO_PAT, .rw, 2863311530⟩] := by decide +kernel
  have ok : F.RED_SWAP_PAT_LO_PAT.ok := by decide
  have hv : F.RED_SWAP_PAT_LO_PAT.get v < 2 ^ F.RED_SWAP_PAT_LO_PAT.width := Nat.mod_lt _ (Nat.two_pow_pos _)
  rw [hf]
  simp only [wordWrite, List.foldl_cons, List.foldl_nil, fieldWrite, Fld.get_set_same _ ok, Nat.mod_eq_of_lt hv]

theorem get_wordWrite_redFlags (old v : Word) {j : Nat} (hj : j < 15) :
    Fld.get ⟨j, j⟩ (wordWrite (regFields R.RED_FLAGS) old v) = if bitN v.toNat j then 0 else Fld.get ⟨j, j⟩ old := by
  have hf : ∀ f ∈ regFields R.RED_FLAGS, f.acc = .w1c ∧ f.fld.hi = f.fld.lo ∧ f.fld.lo < 36 := by decide +kernel
  have hany : ∀ j < 15, (regFields R.RED_FLAGS).any (fun f => f.fld.lo == j) = true := by decide +kernel
  rw [Fld.get_bit, Fld.get_bit, testBit_wordWrite_w1c v j _ old hf, hany j hj, bitN_eq_testBit]
  cases v.toNat.testBit j <;> simp

theorem get_wordWrite_redFlagCnt (old v : Word) {i : Nat} (hi : i < 4) :
    Fld.get ⟨8 * i + 7, 8 * i⟩ (wordWrite (regFields R.RED_FLAG_CNT0) old v)
      = if v.toNat / 2 ^ (8 * i) % 256 = 0 then 0 else Fld.get ⟨8 * i + 7, 8 * i⟩ old := by
  have hf : regFields R.RED_FLAG_CNT0 = [⟨⟨31, 0⟩, .cnt, 0⟩] := by decide +kernel
  have hb : byteFld ⟨31, 0⟩ i = ⟨8 * i + 7, 8 * i⟩ := by simp [byteFld]
  have hv : Fld.get ⟨8 * i + 7, 8 * i⟩ v = v.toNat / 2 ^ (8 * i) % 256 := by
    have : 8 * i + 7 + 1 - 8 * i = 8 := by omega
    simp [Fld.get, this]
  have h := get_foldl_clearByte ⟨31, 0⟩ v (i := i) (by simp; omega) (List.range 4) old (by decide)
  simp only [hb, hv, List.mem_range, hi, true_and] at h
  rw [hf]
  exact h

theorem wordWrite_redEpoch (old v : Word) : wordWrite (regFields R.RED_EPOCH) old v = old := by
  have hf : regFields R.RED_EPOCH = [⟨⟨31, 0⟩, .ro, 0⟩] := by decide +kernel
  rw [hf]
  rfl

/-- A register of a single-copy die that reads as before is kept too. -/
theorem Keeps.of_rd_eq {q : Plane} {s t : State} {k : Nat} (h : Keeps q s t [k]) (hd : isDev k = true)
    (he : t.rd q k = s.rd q k) : Keeps q s t [] := by
  refine ⟨h.1, fun p j _ => ?_⟩
  by_cases hj : j = k
  · subst hj
    rw [t.rd_dev p q hd, s.rd_dev p q hd, he]
  · exact h.2 p j (.inl (by simp [hj]))

theorem does_write_swapPat (v : Word) (s : State) : Does (.registerWrite (8 * R.RED_SWAP_PAT_LO) v) s (fun t =>
    t.dg R.RED_SWAP_PAT_LO F.RED_SWAP_PAT_LO_PAT = F.RED_SWAP_PAT_LO_PAT.get v ∧ Keeps .a s t [R.RED_SWAP_PAT_LO]) :=
  (does_registerWrite_warden (by decide) (by decide) (by decide +kernel) (by decide +kernel) v s).imp
    fun _ ⟨hr, hk⟩ => ⟨(dg_of_rd hr _).trans (get_wordWrite_swapPat _ v), hk⟩

theorem does_write_redFlags (v : Word) (s : State) : Does (.registerWrite (8 * R.RED_FLAGS) v) s (fun t =>
    (∀ j, j < 15 → t.dg R.RED_FLAGS ⟨j, j⟩ = if bitN v.toNat j then 0 else s.dg R.RED_FLAGS ⟨j, j⟩)
      ∧ Keeps .a s t [R.RED_FLAGS]) :=
  (does_registerWrite_warden (by decide) (by decide) (by decide +kernel) (by decide +kernel) v s).imp
    fun _ ⟨hr, hk⟩ => ⟨fun _ hj => (dg_of_rd hr _).trans (get_wordWrite_redFlags _ v hj), hk⟩

theorem does_write_redFlagCnt (v : Word) (s : State) : Does (.registerWrite (8 * R.RED_FLAG_CNT0) v) s (fun t =>
    (∀ i, i < 4 → t.dg R.RED_FLAG_CNT0 ⟨8 * i + 7, 8 * i⟩
        = if v.toNat / 2 ^ (8 * i) % 256 = 0 then 0 else s.dg R.RED_FLAG_CNT0 ⟨8 * i + 7, 8 * i⟩)
      ∧ Keeps .a s t [R.RED_FLAG_CNT0]) :=
  (does_registerWrite_warden (by decide) (by decide) (by decide +kernel) (by decide +kernel) v s).imp
    fun _ ⟨hr, hk⟩ => ⟨fun _ hi => (dg_of_rd hr _).trans (get_wordWrite_redFlagCnt _ v hi), hk⟩

theorem does_write_redEpoch (v : Word) (s : State) :
    Does (.registerWrite (8 * R.RED_EPOCH) v) s (fun t => Keeps .a s t []) :=
  (does_registerWrite_warden (by decide) (by decide) (by decide +kernel) (by decide +kernel) v s).imp
    fun _ ⟨hr, hk⟩ => hk.of_rd_eq (by decide) (hr.trans (wordWrite_redEpoch _ v))

/-! ## Write TLPs (R494) -/

theorem lanes_even (k : Nat) (l : List HostDword) : lanes (2 * k) l = lanesFrom k l := by
  simp [lanes]

theorem lanes_odd (k : Nat) (l : List HostDword) : lanes (2 * k + 1) l = lanesFrom k (noDword :: l) := by
  have hk : (2 * k + 1) / 2 = k := by omega
  simp [lanes, hk]

/-- A TLP of whole dwords writes its lanes in order. -/
theorem exec_bar0WriteTlp_whole (off : Nat) {dws : List HostDword} (h : ∀ x ∈ dws, x.be = 15) (s : State) :
    exec (.bar0WriteTlp off dws) s = settled (each (lanes (off / 4) dws) writeLane s) := by
  have hn : dws.findIdx? (fun x => !wholeDword x && !noneDword x) = none := by
    simp only [List.findIdx?_eq_none_iff, wholeDword]
    intro x hx
    simp [h x hx]
  show execBar0WriteTlp off dws s = _
  rw [execBar0WriteTlp, hn]

/-- A whole dword at the low half of a slot is the write of that half. -/
theorem exec_bar0WriteTlp_low (k : Nat) (lo : BitVec 32) (s : State) :
    exec (.bar0WriteTlp (8 * k) [⟨lo, 15⟩]) s = exec (.writeLowHalf (8 * k) lo) s := by
  have hk : 8 * k / 4 = 2 * k := by omega
  rw [exec_writeLowHalf, exec_bar0WriteTlp_whole _ (by simp), hk, lanes_even]
  rfl

/-- A whole dword at the high half of a slot is the write of that half. -/
theorem exec_bar0WriteTlp_high (k : Nat) (hi : BitVec 32) (s : State) :
    exec (.bar0WriteTlp (8 * k + 4) [⟨hi, 15⟩]) s = exec (.writeHighHalf (8 * k + 4) hi) s := by
  have hk : (8 * k + 4) / 4 = 2 * k + 1 := by omega
  rw [exec_writeHighHalf, exec_bar0WriteTlp_whole _ (by simp), hk, lanes_odd]
  rfl

/-- Both whole dwords of a slot are one 64-bit write. -/
theorem exec_bar0WriteTlp_both {k : Nat} (hm : isMsix k = false) (lo hi : BitVec 32) (s : State) :
    exec (.bar0WriteTlp (8 * k) [⟨lo, 15⟩, ⟨hi, 15⟩]) s = exec (.registerWrite (8 * k) ((hi ++ lo).setWidth 36)) s := by
  have hk : 8 * k / 4 = 2 * k := by omega
  have hw : write64 k (hi ++ lo) s = writeSlot k ((hi ++ lo).setWidth 36) s := if_neg (by simp [hm])
  rw [exec_registerWrite hm, exec_bar0WriteTlp_whole _ (by simp), hk, lanes_even, ← hw]
  rfl

/-! ## The MSI-X table (R478) -/

/-- With no message pending, a change of a mask sends none. -/
theorem unmaskMsix_of_pba_nil {s : State} (h : s.evm.pba = []) : unmaskMsix s = s := by
  simp [unmaskMsix, h, each]

theorem exec_writeLowHalf_msix {k : Nat} (hm : isMsix k = true) {s : State} (hp : s.evm.pba = []) (v : BitVec 32) :
    exec (.writeLowHalf (8 * k) v) s = settled (writeMsix (2 * k) v s) := by
  rw [exec_writeLowHalf, writeLow, if_pos hm, unmaskMsix_of_pba_nil (s := writeMsix (2 * k) v s) hp]

theorem exec_writeHighHalf_msix {k : Nat} (hm : isMsix k = true) {s : State} (hp : s.evm.pba = []) (v : BitVec 32) :
    exec (.writeHighHalf (8 * k + 4) v) s = settled (writeMsix (2 * k + 1) v s) := by
  rw [exec_writeHighHalf, writeHigh, if_pos hm, unmaskMsix_of_pba_nil (s := writeMsix (2 * k + 1) v s) hp]

theorem nth_set {α : Type} (l : List α) (i j : Nat) (x d : α) :
    nth (l.set i x) j d = if i = j ∧ i < l.length then x else nth l j d := by
  simp only [nth, List.getD_eq_getElem?_getD, List.getElem?_set]
  by_cases h : i = j
  · subst h
    by_cases hl : i < l.length <;> simp [hl]
  · simp [h]

theorem isMsix_iff (k : Nat) : isMsix k = true ↔ msixSlot ≤ k ∧ k < msixSlot + 128 := by
  simp [isMsix]

/-- A dword of the table after one is written: the written one, and every other as before. -/
theorem msixDword_writeMsix {s : State} (hl : s.evm.table.length = 64) (h4 : ∀ l ∈ s.evm.table, l.length = 4) {d i : Nat}
    (hd : isMsix (d / 2) = true) (hi : isMsix (i / 2) = true) (v : BitVec 32) :
    msixDword i (writeMsix d v s) = if i = d then v else msixDword i s := by
  rw [isMsix_iff] at hd hi
  have hrow : (d - 2 * msixSlot) / 4 < s.evm.table.length := by omega
  have hcol : (d - 2 * msixSlot) % 4 < (nth s.evm.table ((d - 2 * msixSlot) / 4) []).length := by
    rw [nth, List.getD_eq_getElem _ _ hrow, h4 _ (List.getElem_mem hrow)]
    omega
  simp only [msixDword, writeMsix, nth_set, hrow, and_true]
  by_cases hr : (d - 2 * msixSlot) / 4 = (i - 2 * msixSlot) / 4
  · have hid : i = d ↔ (d - 2 * msixSlot) % 4 = (i - 2 * msixSlot) % 4 := by omega
    simp only [if_pos hr, nth_set, hcol, and_true, hid]
    rw [hr]
  · have hne : i ≠ d := fun h => hr (by rw [h])
    rw [if_neg hr, if_neg hne]

/-- What the write of dword `d` of the table leaves: the dword, and all else. -/
theorem writeMsix_writes {s : State} (hl : s.evm.table.length = 64) (h4 : ∀ l ∈ s.evm.table, l.length = 4) {d : Nat}
    (hd : isMsix (d / 2) = true) (v : BitVec 32) :
    let t := belRecheck (writeMsix d v s)
    msixDword d t = v ∧ (∀ i, isMsix (i / 2) = true → i ≠ d → msixDword i t = msixDword i s) ∧ t.hif = s.hif
      ∧ SameStores s t ∧ RegsKept .a s t [] := by
  refine ⟨?_, fun i hi hne => ?_, rfl, fun p a => ?_, fun p k _ => ?_⟩
  · exact (msixDword_writeMsix hl h4 hd hd v).trans (if_pos rfl)
  · exact (msixDword_writeMsix hl h4 hd hi v).trans (if_neg hne)
  · cases p <;> rfl
  · cases p <;> rfl

/-! ## Register writes: the clauses of O21 -/

/-- A write of a plain register: it waits for a block below RUN, and follows the access codes in one that runs. -/
theorem does_registerWrite_of_plainKey {k : Nat} {q : Plane} {s : State} (hp : plainKey (keyOf k) = true)
    (hr : isReg (keyOf k) = true) (hm : isMsix k = false) (ht : target k s = some q) (hd : discards q (keyOf k) s = false)
    (v : Word) : Does (.registerWrite (8 * k) v) s (fun t =>
      if asleep (domainOf q (keyOf k)) s then t.bel.held = s.bel.held ++ [.write k q v] ∧ t.hif = s.hif ∧ RegsKept .a s t []
      else t.rd q (keyOf k) = wordWrite (regFields (keyOf k)) (s.rd q (keyOf k)) v ∧ Keeps q s t [keyOf k]) := by
  cases ha : asleep (domainOf q (keyOf k)) s with
  | true =>
    refine does_of_exec ((exec_registerWrite hm v s).trans (congrArg settled (writeSlot_of_asleep ht hd hr ha v))) ?_
    obtain ⟨hheld, hhif, -, hregs⟩ := (((onlyWakes_touch (domainOf q (keyOf k)) s).hold (.write k q v)).trans
      (onlyWakes_belRecheck _)).of_hold
    exact ⟨hheld, hhif, hregs⟩
  | false => exact does_registerWrite_plain hp hr hm ht hd ha v

theorem does_registerWrite_of_no_target {k : Nat} {s : State} (hm : isMsix k = false) (ht : target k s = none) (v : Word) :
    Does (.registerWrite (8 * k) v) s (fun t => Keeps .a s t []) :=
  does_of_exec ((exec_registerWrite hm v s).trans (congrArg settled (writeSlot_of_no_target ht v))) (Keeps.refl .a s []).recheck

theorem does_bar0WriteTlp_swapPat (lo hi : BitVec 32) (s : State) :
    Does (.bar0WriteTlp (8 * R.RED_SWAP_PAT_LO) [⟨lo, 15⟩, ⟨hi, 15⟩]) s (fun t =>
      t.dg R.RED_SWAP_PAT_LO F.RED_SWAP_PAT_LO_PAT = lo.toNat ∧ Keeps .a s t [R.RED_SWAP_PAT_LO]) := by
  have hv : F.RED_SWAP_PAT_LO_PAT.get ((hi ++ lo).setWidth 36) = lo.toNat := by
    rw [get_swapPat, BitVec.setWidth_setWidth_of_le _ (by decide), BitVec.setWidth_append_eq_right]
  exact .of_exec_eq (exec_bar0WriteTlp_both (by decide) lo hi s)
    ((does_write_swapPat ((hi ++ lo).setWidth 36) s).imp fun t ⟨hg, hk⟩ => ⟨hg.trans hv, hk⟩)

theorem does_writeLowHalf {k : Nat} (hm : isMsix k = false) (v : BitVec 32) (s : State) : Does (.writeLowHalf (8 * k) v) s (fun t =>
    t.hif = { s.hif with latch := some (latchKey k s, v) } ∧ Keeps .a { s with hif := t.hif } t []) := by
  refine does_of_exec (exec_writeLowHalf k v s) ?_
  rw [writeLow, if_neg (by simp [hm])]
  exact ⟨rfl, (Keeps.refl .a _ []).recheck⟩

theorem does_writeHighHalf_swapPat (v w : BitVec 32) {s : State} (hl : s.hif.latch = some (R.RED_SWAP_PAT_LO, w)) :
    Does (.writeHighHalf (8 * R.RED_SWAP_PAT_LO + 4) v) s (fun t =>
      t.dg R.RED_SWAP_PAT_LO F.RED_SWAP_PAT_LO_PAT = w.toNat ∧ t.hif = { s.hif with latch := none }
        ∧ Keeps .a { s with hif := t.hif } t [R.RED_SWAP_PAT_LO]) := by
  have hv : F.RED_SWAP_PAT_LO_PAT.get (v.setWidth 4 ++ w) = w.toNat := by
    rw [get_swapPat, BitVec.setWidth_append_eq_right]
  refine .of_exec_eq (exec_writeHighHalf_of_latched (by decide) v w hl) ((does_write_swapPat _ s.unlatched).imp ?_)
  intro t ⟨hg, hk⟩
  have hh : t.hif = s.unlatched.hif := congrArg (fun x => x.hif) hk.1
  exact ⟨hg.trans hv, hh, by rw [hh]; exact hk⟩

/-- Settles O21: a write that its TLP or its halves make up is one 64-bit write of a slot, which reaches a plain register under
its access codes, waits, or is lost; a dword of the MSI-X table is written by itself. -/
theorem registerWritesFollowTheAccessCodes : Obligations.RegisterWritesFollowTheAccessCodes := by
  refine ⟨fun v s => ⟨does_write_swapPat v s, does_write_redFlags v s, does_write_redFlagCnt v s, does_write_redEpoch v s,
    fun q k hp hr hm ht hd => does_registerWrite_of_plainKey hp hr hm ht hd v,
    fun k hm ht => does_registerWrite_of_no_target hm ht v,
    fun k lo hi => ⟨does_exec_of_eq (exec_bar0WriteTlp_low k lo s), does_exec_of_eq (exec_bar0WriteTlp_high k hi s),
      fun hm => does_exec_of_eq (exec_bar0WriteTlp_both hm lo hi s)⟩,
    fun lo hi => does_bar0WriteTlp_swapPat lo hi s⟩, fun k v s => ⟨fun hm => ⟨does_writeLowHalf hm v s,
      fun w hl => does_exec_of_eq (exec_writeHighHalf_of_latched hm v w hl),
      fun hl => does_exec_of_eq (exec_writeHighHalf_of_not_latched hm v hl), ?_⟩, fun hm hp hl h4 => ⟨?_, ?_⟩⟩⟩
  · rintro w hl rfl
    exact does_writeHighHalf_swapPat v w hl
  · exact does_of_exec (exec_writeLowHalf_msix hm hp v) (writeMsix_writes hl h4 (by rwa [Nat.mul_div_cancel_left k two_pos]) v)
  · exact does_of_exec (exec_writeHighHalf_msix hm hp v) (writeMsix_writes hl h4 (by rwa [show (2 * k + 1) / 2 = k by omega]) v)

end Sys2Proof.Machine

/-! ## Storing words where a pair may be poisoned (R402, R403) -/

namespace Sys2Proof.Machine

/-- The words of a store after a word is stored, in a poisoned pair too: the report changes none. -/
theorem State.words_sput_of_lt (s : State) (q : Plane) {a : Nat} (ha : a < storeWords) (v : Word) (r : Plane) :
    ((s.sput q a v).plane r).store.words
      = if r = q then sPut (fun _ => (0 : Word)) (s.plane q).store.words a v else (s.plane r).store.words := by
  cases hb : s.isBad q (a / 2) with
  | false => exact s.words_sput q a v ha hb r
  | true =>
    simp only [State.sput, ha, hb, if_true, State.store_markDirty, State.store_setStore]
    by_cases hr : r = q <;> simp [hr, s.words_eccDouble]

/-- A store holds the word stored, and every other word as before, poisoned or not. -/
theorem State.sw_sput_of_lt (s : State) (q : Plane) {a : Nat} (ha : a < storeWords) (v : Word) (r : Plane) (b : Nat) :
    (s.sput q a v).sw r b = if r = q ∧ b = a then v else s.sw r b := by
  simp only [State.sw, s.words_sput_of_lt q ha v r]
  by_cases hr : r = q
  · by_cases h : b = a
    · simp [hr, h]
    · simp [hr, h, sGet_sPut_ne _ _ _ h]
  · simp [hr]

/-- A whole pair written is no longer poisoned. -/
theorem State.isBad_sputPair (s : State) (q : Plane) {a : Nat} (ha : a < storeWords) (v0 v1 : Word) :
    (s.sputPair q a v0 v1).isBad q (a / 2) = false := by
  simp [State.isBad, State.sputPair, ha]

/-- The report of an uncorrectable pair changes no store word. -/
theorem State.sameStores_eccDouble (s : State) (q : Plane) (a : Nat) : SameStores s (s.eccDouble q a) := by
  intro r b
  simp only [State.sw, s.words_eccDouble q a r]

theorem SameStores.refl (s : State) : SameStores s s := fun _ _ => rfl

theorem SameStores.trans {s t u : State} (h1 : SameStores s t) (h2 : SameStores t u) : SameStores s u :=
  fun q a => (h2 q a).trans (h1 q a)

/-- A read reports the uncorrectable pairs that it has met, one after the other (R403). -/
def State.reportPairs (s : State) (q : Plane) (l : List Nat) : State := each l (fun p s => s.eccDouble q (2 * p)) s

theorem State.sameStores_reportPairs (q : Plane) : ∀ (l : List Nat) (s : State), SameStores s (s.reportPairs q l)
  | [], s => SameStores.refl s
  | p :: l, s => (s.sameStores_eccDouble q (2 * p)).trans (State.sameStores_reportPairs q l _)

/-! ## Accesses to BAR2 (R409, R493, R495, R496) -/

theorem OnlyWakes.bar2Plane {s t : State} (h : OnlyWakes s t) : bar2Plane t = bar2Plane s := by
  unfold Machine.bar2Plane State.dg State.get
  rw [h.rd, h.chanter]

theorem OnlyWakes.bar2Domain {s t : State} (h : OnlyWakes s t) : bar2Domain t = bar2Domain s := by
  rw [Machine.bar2Domain, h.bar2Plane, Machine.bar2Domain]

theorem OnlyWakes.isBad {s t : State} (h : OnlyWakes s t) (q : Plane) (p : Nat) : t.isBad q p = s.isBad q p := by
  simp only [State.isBad, State.store_of_inner h.inner q]

theorem OnlyWakes.memWf {s t : State} (h : OnlyWakes s t) : t.memWf = s.memWf := by
  obtain ⟨_, _, _, rfl⟩ := h
  rfl

theorem fullLane_whole (lo hi : BitVec 32) : fullLane ⟨lo, 15⟩ ⟨hi, 15⟩ = true := by
  show ((15 : BitVec 4) == 15 && (15 : BitVec 4).getLsbD 0) = true
  decide

/-- A lane of a write that reaches a store: it lies in the store and enables a byte (R402, R409). -/
def storeLane (e : Nat × HostDword × HostDword) : Bool :=
  decide (e.1 < storeWords) && !(noneDword e.2.1 && noneDword e.2.2)

theorem bar2WriteNow_some (off : Nat) (dws : List HostDword) (q : Plane) (s : State) :
    bar2WriteNow off dws (some q) s = bar2Lanes q ((lanes (off / 4) dws).filter storeLane) s := rfl

/-- The state after an access to BAR2 has woken the domain of its store. -/
def bar2Woken (s : State) : State := touch (bar2Domain s) s

theorem onlyWakes_bar2Woken (s : State) : OnlyWakes s (bar2Woken s) := onlyWakes_touch _ s

/-- A write on BAR2 waits for a store below RUN, and reaches one that runs. -/
theorem exec_bar2Write (off : Nat) (dws : List HostDword) (s : State) : exec (.bar2Write off dws) s
    = settled (if asleep (bar2Domain s) s then (bar2Woken s).hold (.bar2Write off dws (bar2Plane s))
      else bar2WriteNow off dws (bar2Plane s) (bar2Woken s)) := by
  have hw := onlyWakes_bar2Woken s
  rw [← hw.bar2Plane, ← hw.asleep, ← hw.bar2Domain]
  rfl

/-- A read on BAR2 waits for a store below RUN, and reads one that runs. -/
theorem exec_bar2Read (off n : Nat) (s : State) : exec (.bar2Read off n) s
    = settled (if asleep (bar2Domain s) s then (bar2Woken s).hold (.bar2Read off n (bar2Plane s))
      else bar2ReadNow off n (bar2Plane s) (bar2Woken s)) := by
  have hw := onlyWakes_bar2Woken s
  rw [← hw.bar2Plane, ← hw.asleep, ← hw.bar2Domain]
  rfl

/-- A dword with one byte of another, where it is enabled. -/
def mergeByte (x : HostDword) (w : BitVec 32) (j : Nat) : BitVec 32 :=
  if x.be.getLsbD j then (w &&& ~~~((0xFF : BitVec 32) <<< (8 * j))) ||| (x.data &&& ((0xFF : BitVec 32) <<< (8 * j))) else w

theorem mergeDword_eq_foldl (old : BitVec 32) (x : HostDword) : mergeDword old x = (List.range 4).foldl (mergeByte x) old := rfl

theorem getLsbD_byteMask (j : Nat) {i : Nat} (hi : i < 32) :
    ((0xFF : BitVec 32) <<< (8 * j)).getLsbD i = decide (i / 8 = j) := by
  have hff : ∀ m, (0xFF : BitVec 32).getLsbD m = decide (m < 8) := fun m => by
    rw [← BitVec.testBit_toNat]
    exact Nat.testBit_two_pow_sub_one 8 m
  rw [BitVec.getLsbD_shiftLeft, hff]
  simp only [hi, decide_true, Bool.true_and, ← decide_not, ← Bool.decide_and, decide_eq_decide]
  omega

theorem getLsbD_mergeByte (x : HostDword) (w : BitVec 32) (j : Nat) {i : Nat} (hi : i < 32) :
    (mergeByte x w j).getLsbD i = if x.be.getLsbD j = true ∧ i / 8 = j then x.data.getLsbD i else w.getLsbD i := by
  cases hx : x.be.getLsbD j
  · simp [mergeByte, hx]
  · rw [mergeByte, if_pos hx, BitVec.getLsbD_or, BitVec.getLsbD_and, BitVec.getLsbD_and, BitVec.getLsbD_not, getLsbD_byteMask j hi]
    by_cases hj : i / 8 = j <;> simp [hj, hi]

/-- Each enabled byte of a dword comes from the write, and each other one stays. -/
theorem getLsbD_mergeDword (old : BitVec 32) (x : HostDword) {i : Nat} (hi : i < 32) :
    (mergeDword old x).getLsbD i = if x.be.getLsbD (i / 8) then x.data.getLsbD i else old.getLsbD i := by
  have hr : List.range 4 = [0, 1, 2, 3] := by decide
  have h4 : i / 8 = 0 ∨ i / 8 = 1 ∨ i / 8 = 2 ∨ i / 8 = 3 := by omega
  simp only [mergeDword_eq_foldl, hr, List.foldl_cons, List.foldl_nil, getLsbD_mergeByte _ _ _ hi]
  rcases h4 with h | h | h | h <;> simp [h]

theorem mergeDword_whole (old lo : BitVec 32) : mergeDword old ⟨lo, 15⟩ = lo := by
  have h15 : ∀ j < 4, (15 : BitVec 4).getLsbD j = true := by decide
  refine BitVec.eq_of_getLsbD_eq fun i hi => ?_
  rw [getLsbD_mergeDword old _ hi, if_pos (h15 _ (by omega))]

/-- A lane of two whole dwords is a whole word, whatever was there (R11). -/
theorem mergeWord_whole (old : Word) (lo hi : BitVec 32) : mergeWord old ⟨lo, 15⟩ ⟨hi, 15⟩ = (hi ++ lo).setWidth 36 := by
  simp only [mergeWord, mergeDword_whole]

section
variable {s : State} {q : Plane} (hq : bar2Plane s = some q) (ha : asleep (bar2Domain s) s = false) {a : Nat}
include hq ha

section
variable (hlt : a < storeWords)
include hlt

/-- One lane with an enabled byte is a read-modify-write of its word. -/
theorem exec_bar2Write_lane (x y : HostDword) (hxy : x.be ≠ 0 ∨ y.be ≠ 0) : exec (.bar2Write (8 * a) [x, y]) s
    = settled ((bar2Woken s).sput q a (mergeWord (s.sw q a) x y)) := by
  have h8 : 8 * a / 4 = 2 * a := by omega
  have hbe : noneDword x = false ∨ noneDword y = false := by simpa only [noneDword, beq_eq_false_iff_ne] using hxy
  have hf : (lanesFrom a [x, y]).filter storeLane = [(a, x, y)] := by simp [lanesFrom, storeLane, hlt, hbe]
  rw [exec_bar2Write, ha, hq, if_neg Bool.false_ne_true, bar2WriteNow_some, h8, lanes_even, hf,
    ← (onlyWakes_bar2Woken s).sameStores q a]
  rfl

/-- Two lanes of whole dwords in one pair are the write of the pair. -/
theorem exec_bar2Write_pair (he : a % 2 = 0) (lo hi lo' hi' : BitVec 32) :
    exec (.bar2Write (8 * a) [⟨lo, 15⟩, ⟨hi, 15⟩, ⟨lo', 15⟩, ⟨hi', 15⟩]) s
      = settled ((bar2Woken s).sputPair q a ((hi ++ lo).setWidth 36) ((hi' ++ lo').setWidth 36)) := by
  have h8 : 8 * a / 4 = 2 * a := by omega
  have hlt' : a + 1 < storeWords := by simp only [storeWords] at *; omega
  have hf : (lanesFrom a [⟨lo, 15⟩, ⟨hi, 15⟩, ⟨lo', 15⟩, ⟨hi', 15⟩]).filter storeLane
      = [(a, ⟨lo, 15⟩, ⟨hi, 15⟩), (a + 1, ⟨lo', 15⟩, ⟨hi', 15⟩)] := by simp [lanesFrom, storeLane, hlt, hlt', noneDword]
  rw [exec_bar2Write, ha, hq, if_neg Bool.false_ne_true, bar2WriteNow_some, h8, lanes_even, hf, bar2Lanes,
    if_pos ⟨he, rfl, fullLane_whole lo hi, fullLane_whole lo' hi'⟩, mergeWord_whole, mergeWord_whole]
  rfl

/-- A lane with an enabled byte changes its word and nothing else. -/
theorem does_bar2Write_lane (x y : HostDword) (hxy : x.be ≠ 0 ∨ y.be ≠ 0) : Does (.bar2Write (8 * a) [x, y]) s (fun t =>
    t.sw q a = mergeWord (s.sw q a) x y ∧ (∀ p b, (p ≠ q ∨ b ≠ a) → t.sw p b = s.sw p b)
      ∧ (s.isBad q (a / 2) = false → RegsKept q s t []) ∧ (s.memWf = true → t.memWf = true)) := by
  have hw := onlyWakes_bar2Woken s
  refine does_of_exec (exec_bar2Write_lane hq ha hlt x y hxy) ?_
  have hsw : ∀ r b, (belRecheck ((bar2Woken s).sput q a (mergeWord (s.sw q a) x y))).sw r b
      = if r = q ∧ b = a then mergeWord (s.sw q a) x y else s.sw r b := by
    intro r b
    rw [(onlyWakes_belRecheck _).sameStores r b, State.sw_sput_of_lt _ q hlt, hw.sameStores r b]
  refine ⟨by simp [hsw], fun p b hpb => ?_, fun hb p k _ => ?_, fun hm => ?_⟩
  · rw [hsw, if_neg (by tauto)]
  · rw [State.rd_belRecheck, State.rd_sput _ _ _ _ (by rw [hw.isBad]; exact hb), hw.rd]
  · rw [(onlyWakes_belRecheck _).memWf]
    exact State.memWf_sput _ _ _ _ (by rw [hw.memWf]; exact hm)

/-- A pair written holds both words, is no longer poisoned, and nothing else changes. -/
theorem does_bar2Write_pair (he : a % 2 = 0) (lo hi lo' hi' : BitVec 32) :
    Does (.bar2Write (8 * a) [⟨lo, 15⟩, ⟨hi, 15⟩, ⟨lo', 15⟩, ⟨hi', 15⟩]) s (fun t =>
      t.sw q a = (hi ++ lo).setWidth 36 ∧ t.sw q (a + 1) = (hi' ++ lo').setWidth 36 ∧ t.isBad q (a / 2) = false
        ∧ (∀ p b, (p ≠ q ∨ (b ≠ a ∧ b ≠ a + 1)) → t.sw p b = s.sw p b) ∧ RegsKept q s t []
        ∧ (s.memWf = true → t.memWf = true)) := by
  have hw := onlyWakes_bar2Woken s
  refine does_of_exec (exec_bar2Write_pair hq ha hlt he lo hi lo' hi') ?_
  have hsw : ∀ r b, (belRecheck ((bar2Woken s).sputPair q a ((hi ++ lo).setWidth 36) ((hi' ++ lo').setWidth 36))).sw r b
      = if r = q ∧ b = a then (hi ++ lo).setWidth 36 else if r = q ∧ b = a + 1 then (hi' ++ lo').setWidth 36 else s.sw r b := by
    intro r b
    rw [(onlyWakes_belRecheck _).sameStores r b, State.sw_sputPair _ q a _ _ hlt, hw.sameStores r b]
  refine ⟨by simp [hsw], by simp [hsw], ?_, fun p b hpb => ?_, fun p k _ => ?_, fun hm => ?_⟩
  · rw [(onlyWakes_belRecheck _).isBad]
    exact State.isBad_sputPair _ q hlt _ _
  · rw [hsw, if_neg (by tauto), if_neg (by tauto)]
  · rw [State.rd_belRecheck, State.rd_sputPair, hw.rd]
  · rw [(onlyWakes_belRecheck _).memWf]
    exact State.memWf_sputPair _ _ _ _ _ (by rw [hw.memWf]; exact hm)

end

/-- The words of a read on BAR2, and the uncorrectable pairs it meets. -/
theorem exec_bar2Read_words {n : Nat} (hn : a + n ≤ storeWords) : ∃ bad : List Nat,
    (bad = [] ↔ (List.range n).any (fun i => s.isBad q ((a + i) / 2)) = false)
    ∧ exec (.bar2Read (8 * a) n) s = settled (complete ((s.swords q a n).map (fun w => w.setWidth 64)) (!bad.isEmpty)
        ((bar2Woken s).reportPairs q bad)) := by
  have hw := onlyWakes_bar2Woken s
  have h8 : 8 * a / 8 = a := by omega
  have has : ((List.range n).map (fun i => a + i)).filter (fun b => decide (b < storeWords))
      = (List.range n).map (fun i => a + i) := by
    rw [List.filter_eq_self]
    simp only [List.mem_map, List.mem_range, decide_eq_true_eq]
    rintro b ⟨i, hi, rfl⟩
    omega
  refine ⟨(((List.range n).map (fun i => a + i)).map (· / 2)).dedup.filter ((bar2Woken s).isBad q), ?_, ?_⟩
  · simp [hw.isBad]
  · rw [exec_bar2Read, ha, hq, if_neg Bool.false_ne_true, bar2ReadNow]
    have hsw : ∀ b, (bar2Woken s).sw q b = s.sw q b := hw.sameStores q
    simp only [h8, has, List.map_map, State.swords, hsw]
    rfl

/-- A read on BAR2 returns the words of the store, and is poisoned where a pair is uncorrectable. -/
theorem does_bar2Read {n : Nat} (hn : a + n ≤ storeWords) : Does (.bar2Read (8 * a) n) s (fun t =>
    t.hif.cpl = (s.swords q a n).map (fun w => w.setWidth 64) ∧ SameStores s t
      ∧ (if (List.range n).any (fun i => s.isBad q ((a + i) / 2)) then t.hif.poisoned = true
        else t.hif.poisoned = false ∧ RegsKept q s t [])) := by
  have hw := onlyWakes_bar2Woken s
  obtain ⟨bad, hbad, hex⟩ := exec_bar2Read_words hq ha hn
  have ht := (onlyWakes_complete ((s.swords q a n).map (fun w => w.setWidth 64)) (!bad.isEmpty)
    ((bar2Woken s).reportPairs q bad)).trans (onlyWakes_belRecheck _)
  refine does_of_exec hex ⟨by rw [ht.hif]; rfl, (hw.sameStores.trans (State.sameStores_reportPairs q bad _)).trans ht.sameStores, ?_⟩
  split
  · rename_i hany
    have hne : bad ≠ [] := fun h => by simp [hbad.1 h] at hany
    rw [ht.hif]
    simpa [State.withCompletion] using hne
  · rename_i hany
    obtain rfl : bad = [] := hbad.2 (by simpa using hany)
    exact ⟨by rw [ht.hif]; rfl, fun p k _ => (ht.rd p k).trans (hw.rd p k)⟩

end

/-- An access to BAR2 whose store is below RUN waits for it. -/
theorem OnlyWakes.of_bar2Woken_hold (s : State) (x : HeldAccess) : OnlyWakes (s.hold x) (belRecheck ((bar2Woken s).hold x)) :=
  ((onlyWakes_bar2Woken s).hold x).trans (onlyWakes_belRecheck _)

theorem does_bar2Write_of_asleep {s : State} {q : Plane} (hq : bar2Plane s = some q) (ha : asleep (bar2Domain s) s = true)
    (off : Nat) (dws : List HostDword) : Does (.bar2Write off dws) s (fun t =>
      t.bel.held = s.bel.held ++ [.bar2Write off dws (some q)] ∧ SameStores s t ∧ t.hif = s.hif ∧ RegsKept .a s t []) := by
  refine does_of_exec ((exec_bar2Write off dws s).trans (congrArg settled (if_pos ha))) ?_
  rw [hq]
  obtain ⟨hheld, hhif, hsw, hregs⟩ := (OnlyWakes.of_bar2Woken_hold s (.bar2Write off dws (some q))).of_hold
  exact ⟨hheld, hsw, hhif, hregs⟩

theorem does_bar2Read_of_asleep {s : State} {q : Plane} (hq : bar2Plane s = some q) (ha : asleep (bar2Domain s) s = true)
    (off n : Nat) : Does (.bar2Read off n) s (fun t =>
      t.bel.held = s.bel.held ++ [.bar2Read off n (some q)] ∧ SameStores s t ∧ t.hif = s.hif ∧ RegsKept .a s t []) := by
  refine does_of_exec ((exec_bar2Read off n s).trans (congrArg settled (if_pos ha))) ?_
  rw [hq]
  obtain ⟨hheld, hhif, hsw, hregs⟩ := (OnlyWakes.of_bar2Woken_hold s (.bar2Read off n (some q))).of_hold
  exact ⟨hheld, hsw, hhif, hregs⟩

/-- Without a grant no domain stands behind BAR2, and none is below RUN. -/
theorem asleep_bar2Domain_of_no_plane {s : State} (hq : bar2Plane s = none) : asleep (bar2Domain s) s = false := by
  rw [bar2Domain, hq]
  rfl

theorem does_bar2Write_of_no_plane {s : State} (hq : bar2Plane s = none) (off : Nat) (dws : List HostDword) :
    Does (.bar2Write off dws) s (fun t => Keeps .a s t []) := by
  refine does_of_exec (u := bar2Woken s) ?_ ((onlyWakes_bar2Woken s).keeps .a []).recheck
  rw [exec_bar2Write, asleep_bar2Domain_of_no_plane hq, if_neg Bool.false_ne_true, hq]
  rfl

theorem does_bar2Read_of_no_plane {s : State} (hq : bar2Plane s = none) {a : Nat} (hlt : a < storeWords) :
    Does (.bar2Read (8 * a) 1) s (fun t => t.hif.cpl = [0] ∧ SameStores s t ∧ RegsKept .a s t []) := by
  have hw := onlyWakes_bar2Woken s
  have ht := (onlyWakes_complete [0] false (bar2Woken s)).trans (onlyWakes_belRecheck _)
  have h8 : 8 * a / 8 = a := by omega
  refine does_of_exec (u := complete [0] false (bar2Woken s)) ?_
    ⟨by rw [ht.hif]; rfl, hw.sameStores.trans ht.sameStores, fun p k _ => (ht.rd p k).trans (hw.rd p k)⟩
  rw [exec_bar2Read, asleep_bar2Domain_of_no_plane hq, if_neg Bool.false_ne_true, hq, bar2ReadNow]
  simp [h8, hlt]

/-- Settles O23: BAR2 reaches the store of the plane that `bar2Plane` names, by words, merged bytes or pairs; its access waits for
a store below RUN, and goes nowhere without a plane. -/
theorem bar2IsTheGrantedStore : Obligations.Bar2IsTheGrantedStore := by
  intro s a hlt
  refine ⟨fun q hq ha => ⟨fun lo hi => ?_, fun x y hxy => does_bar2Write_lane hq ha hlt x y hxy,
    fun lo hi lo' hi' he => does_bar2Write_pair hq ha hlt he lo hi lo' hi', fun n hn => does_bar2Read hq ha hn⟩,
    fun q hq ha => ⟨does_bar2Write_of_asleep hq ha _, does_bar2Read_of_asleep hq ha _⟩,
    fun hq => ⟨does_bar2Write_of_no_plane hq _, does_bar2Read_of_no_plane hq hlt⟩⟩
  simpa only [mergeWord_whole] using does_bar2Write_lane hq ha hlt ⟨lo, 15⟩ ⟨hi, 15⟩ (.inl (show (15 : BitVec 4) ≠ 0 by decide))

end Sys2Proof.Machine

/-! ## Fields of registers of single-copy dies -/

namespace Sys2Proof.Machine

theorem Fld.get_lt (f : Fld) (w : Word) : f.get w < 2 ^ f.width := Nat.mod_lt _ (Nat.two_pow_pos _)

theorem State.dg_lt (s : State) (k : Nat) (f : Fld) : s.dg k f < 2 ^ f.width := f.get_lt _

/-- A field of a single-copy die reads what was put into it. -/
theorem State.dg_dp_same (s : State) (k : Nat) {f : Fld} {n : Nat} (hf : f.ok) (hn : n < 2 ^ f.width) :
    (s.dp k f n).dg k f = n := (s.get_put_same .a k f n hf).trans (Nat.mod_eq_of_lt hn)

theorem State.dg_dp_mod (s : State) (k : Nat) {f : Fld} (n : Nat) (hf : f.ok) :
    (s.dp k f (n % 2 ^ f.width)).dg k f = n % 2 ^ f.width := s.dg_dp_same k hf (Nat.mod_lt _ (Nat.two_pow_pos _))

theorem State.dg_dp_field (s : State) (k : Nat) {f g : Fld} (n : Nat) (hg : g.ok) (h : f.hi < g.lo ∨ g.hi < f.lo) :
    (s.dp k g n).dg k f = s.dg k f := s.get_put_field .a k f g n hg h

theorem State.dg_dp_ne (s : State) {k j : Nat} (f g : Fld) (n : Nat) (h : j ≠ k) : (s.dp k g n).dg j f = s.dg j f :=
  s.get_put_ne .a .a g f n h

/-- A counter stops at its greatest value. -/
theorem satAdd_lt (b n k : Nat) : satAdd b n k < 2 ^ b := by
  have := Nat.two_pow_pos b
  simp only [satAdd]
  omega

theorem State.get_count_same (s : State) (q : Plane) (k : Nat) {f : Fld} (n : Nat) (hf : f.ok) :
    (s.count q k f n).get q k f = satAdd f.width (s.get q k f) n :=
  (s.get_put_same q k f _ hf).trans (Nat.mod_eq_of_lt (satAdd_lt _ _ _))

theorem State.dg_count_same (s : State) (k : Nat) {f : Fld} (n : Nat) (hf : f.ok) :
    (s.count .a k f n).dg k f = satAdd f.width (s.dg k f) n := s.get_count_same .a k n hf

theorem b2n_lt_two (b : Bool) : b2n b < 2 := by cases b <;> decide

theorem b2n_beq_one {n : Nat} (h : n < 2) : b2n (n == 1) = n := by
  obtain rfl | rfl : n = 0 ∨ n = 1 := by omega
  all_goals rfl

theorem isDev_of_lt {k : Nat} (h : k < 0x600000) : isDev k = true := decide_eq_true h

/-! ## Steps, one for each element of a list -/

theorem each_cons {σ α : Type} (a : α) (l : List α) (f : α → σ → σ) (s : σ) : each (a :: l) f s = each l f (f a s) := rfl

/-- What every step keeps, all of them in a row keep. -/
theorem each_keeps {σ α : Type} {P : σ → Prop} {f : α → σ → σ} : ∀ {l : List α} {s : σ}, (∀ a ∈ l, ∀ s, P s → P (f a s)) → P s →
    P (each l f s)
  | [], _, _, h => h
  | a :: l, s, hf, h => each_keeps (l := l) (fun b hb => hf b (by simp [hb])) (hf a (by simp) s h)

/-- What each step makes and none undoes holds in the end. -/
theorem each_makes {σ α : Type} {Q : α → σ → Prop} {f : α → σ → σ} {l : List α} (s : σ) (hmake : ∀ a ∈ l, ∀ s, Q a (f a s))
    (hkeep : ∀ a ∈ l, ∀ b ∈ l, ∀ s, Q b s → Q b (f a s)) : ∀ b ∈ l, Q b (each l f s) := by
  have key : ∀ (m : List α) (s : σ), (∀ a ∈ m, a ∈ l) → ∀ b ∈ l, (b ∈ m ∨ Q b s) → Q b (each m f s) := by
    intro m
    induction m with
    | nil => exact fun s _ b _ h => h.resolve_left (by simp)
    | cons a m ih =>
      intro s hm b hb h
      refine ih (f a s) (fun c hc => hm c (by simp [hc])) b hb ?_
      rcases h with h | h
      · rcases List.mem_cons.1 h with rfl | h
        · exact .inr (hmake b hb s)
        · exact .inl h
      · exact .inr (hkeep a (hm a (by simp)) b hb s h)
  exact fun b hb => key l s (fun _ h => h) b hb (.inl hb)

/-! ## Frames: what a command leaves -/

/-- Both stores, and every register but `ks`, are as before; registers of plane `q` where they lie in a plane window. -/
def Leaves (q : Plane) (s t : State) (ks : List Nat) : Prop := SameStores s t ∧ RegsKept q s t ks

theorem RegsKept.trans {q : Plane} {s t u : State} {ks : List Nat} (h1 : RegsKept q s t ks) (h2 : RegsKept q t u ks) :
    RegsKept q s u ks := fun p k h => (h2 p k h).trans (h1 p k h)

theorem RegsKept.mono {q : Plane} {s t : State} {ks ls : List Nat} (h : RegsKept q s t ks) (hs : ∀ k ∈ ks, k ∈ ls) :
    RegsKept q s t ls := fun p k hk => h p k (hk.imp (fun hn hc => hn (hs k hc)) id)

theorem Leaves.refl (q : Plane) (s : State) (ks : List Nat) : Leaves q s s ks := ⟨SameStores.refl s, fun _ _ _ => rfl⟩

theorem Leaves.trans {q : Plane} {s t u : State} {ks : List Nat} (h1 : Leaves q s t ks) (h2 : Leaves q t u ks) :
    Leaves q s u ks := ⟨h1.1.trans h2.1, h1.2.trans h2.2⟩

theorem Leaves.mono {q : Plane} {s t : State} {ks ls : List Nat} (h : Leaves q s t ks) (hs : ∀ k ∈ ks, k ∈ ls) :
    Leaves q s t ls := ⟨h.1, h.2.mono hs⟩

theorem Keeps.leaves {q : Plane} {s t : State} {ks : List Nat} (h : Keeps q s t ks) : Leaves q s t ks :=
  ⟨State.sw_of_inner h.1, h.2⟩

/-- A change that leaves the registers and the planes alone. -/
theorem Leaves.of_planes {s t : State} (q : Plane) (ks : List Nat) (hd : t.dev = s.dev) (ha : t.pa = s.pa) (hb : t.pb = s.pb) :
    Leaves q s t ks := by
  have hp : ∀ p, t.plane p = s.plane p := fun p => by cases p <;> assumption
  exact ⟨fun p a => by simp only [State.sw, hp], fun p k _ => by simp only [State.rd, hd, hp]⟩

/-- A frame goes on over a change of registers that it names. -/
theorem Leaves.andKeeps {q : Plane} {s t u : State} {ks : List Nat} (h1 : Leaves q s t ks) (h2 : Keeps q t u ks) :
    Leaves q s u ks := h1.trans h2.leaves

theorem Leaves.rd {q : Plane} {s t : State} {ks : List Nat} (h : Leaves q s t ks) (p : Plane) {k : Nat} (hk : k ∉ ks) :
    t.rd p k = s.rd p k := h.2 p k (.inl hk)

theorem Leaves.each {α : Type} {q : Plane} {ks : List Nat} {f : α → State → State} {l : List α}
    (hf : ∀ a ∈ l, ∀ s, Leaves q s (f a s) ks) (s : State) : Leaves q s (Machine.each l f s) ks :=
  each_keeps (P := fun t => Leaves q s t ks) (fun a ha t h => h.trans (hf a ha t)) (.refl q s ks)

/-- What a change of registers leaves behind them. -/
theorem Keeps.now {q : Plane} {s t : State} {ks : List Nat} (h : Keeps q s t ks) : t.now = s.now := (congrArg State.now h.1 :)
theorem Keeps.fio {q : Plane} {s t : State} {ks : List Nat} (h : Keeps q s t ks) : t.fio = s.fio := (congrArg State.fio h.1 :)
theorem Keeps.sense {q : Plane} {s t : State} {ks : List Nat} (h : Keeps q s t ks) : t.sense = s.sense := (congrArg State.sense h.1 :)
theorem Keeps.cbus {q : Plane} {s t : State} {ks : List Nat} (h : Keeps q s t ks) : t.cbus = s.cbus := (congrArg State.cbus h.1 :)
theorem Keeps.cyc {q : Plane} {s t : State} {ks : List Nat} (h : Keeps q s t ks) : t.cyc = s.cyc := (congrArg State.cyc h.1 :)
theorem Keeps.red {q : Plane} {s t : State} {ks : List Nat} (h : Keeps q s t ks) : t.red = s.red := (congrArg State.red h.1 :)
theorem Keeps.links {q : Plane} {s t : State} {ks : List Nat} (h : Keeps q s t ks) : t.links = s.links := (congrArg State.links h.1 :)

theorem Keeps.dg {q : Plane} {s t : State} {ks : List Nat} (h : Keeps q s t ks) {k : Nat} (f : Fld) (hk : k ∉ ks) :
    t.dg k f = s.dg k f := congrArg f.get (h.2 .a k (.inl hk))

theorem Leaves.dg {q : Plane} {s t : State} {ks : List Nat} (h : Leaves q s t ks) {k : Nat} (f : Fld) (hk : k ∉ ks) :
    t.dg k f = s.dg k f := congrArg f.get (h.2 .a k (.inl hk))

/-- What a write of a register leaves behind the registers. -/
@[simp] theorem State.now_wr (s : State) (q : Plane) (k : Nat) (v : Word) : (s.wr q k v).now = s.now :=
  (congrArg State.now (s.inner_wr q k v) :)
@[simp] theorem State.fio_wr (s : State) (q : Plane) (k : Nat) (v : Word) : (s.wr q k v).fio = s.fio :=
  (congrArg State.fio (s.inner_wr q k v) :)
@[simp] theorem State.sense_wr (s : State) (q : Plane) (k : Nat) (v : Word) : (s.wr q k v).sense = s.sense :=
  (congrArg State.sense (s.inner_wr q k v) :)
@[simp] theorem State.cbus_wr (s : State) (q : Plane) (k : Nat) (v : Word) : (s.wr q k v).cbus = s.cbus :=
  (congrArg State.cbus (s.inner_wr q k v) :)
@[simp] theorem State.cyc_wr (s : State) (q : Plane) (k : Nat) (v : Word) : (s.wr q k v).cyc = s.cyc :=
  (congrArg State.cyc (s.inner_wr q k v) :)
@[simp] theorem State.red_wr (s : State) (q : Plane) (k : Nat) (v : Word) : (s.wr q k v).red = s.red :=
  (congrArg State.red (s.inner_wr q k v) :)
@[simp] theorem State.links_wr (s : State) (q : Plane) (k : Nat) (v : Word) : (s.wr q k v).links = s.links :=
  (congrArg State.links (s.inner_wr q k v) :)
@[simp] theorem State.boot_wr (s : State) (q : Plane) (k : Nat) (v : Word) : (s.wr q k v).boot = s.boot :=
  (congrArg State.boot (s.inner_wr q k v) :)
@[simp] theorem State.tab_wr (s : State) (q : Plane) (k : Nat) (v : Word) : (s.wr q k v).tab = s.tab :=
  (congrArg State.tab (s.inner_wr q k v) :)
@[simp] theorem State.xlk_wr (s : State) (q : Plane) (k : Nat) (v : Word) : (s.wr q k v).xlk = s.xlk :=
  (congrArg State.xlk (s.inner_wr q k v) :)
@[simp] theorem State.ssm2_wr (s : State) (q : Plane) (k : Nat) (v : Word) : (s.wr q k v).ssm2 = s.ssm2 :=
  (congrArg State.ssm2 (s.inner_wr q k v) :)
@[simp] theorem State.now_dp (s : State) (k : Nat) (f : Fld) (n : Nat) : (s.dp k f n).now = s.now := s.now_wr .a k _
@[simp] theorem State.fio_dp (s : State) (k : Nat) (f : Fld) (n : Nat) : (s.dp k f n).fio = s.fio := s.fio_wr .a k _
@[simp] theorem State.sense_dp (s : State) (k : Nat) (f : Fld) (n : Nat) : (s.dp k f n).sense = s.sense := s.sense_wr .a k _
@[simp] theorem State.cbus_dp (s : State) (k : Nat) (f : Fld) (n : Nat) : (s.dp k f n).cbus = s.cbus := s.cbus_wr .a k _
@[simp] theorem State.cyc_dp (s : State) (k : Nat) (f : Fld) (n : Nat) : (s.dp k f n).cyc = s.cyc := s.cyc_wr .a k _
@[simp] theorem State.red_dp (s : State) (k : Nat) (f : Fld) (n : Nat) : (s.dp k f n).red = s.red := s.red_wr .a k _
@[simp] theorem State.links_dp (s : State) (k : Nat) (f : Fld) (n : Nat) : (s.dp k f n).links = s.links := s.links_wr .a k _
@[simp] theorem State.boot_dp (s : State) (k : Nat) (f : Fld) (n : Nat) : (s.dp k f n).boot = s.boot := s.boot_wr .a k _
@[simp] theorem State.tab_dp (s : State) (k : Nat) (f : Fld) (n : Nat) : (s.dp k f n).tab = s.tab := s.tab_wr .a k _
@[simp] theorem State.xlk_dp (s : State) (k : Nat) (f : Fld) (n : Nat) : (s.dp k f n).xlk = s.xlk := s.xlk_wr .a k _
@[simp] theorem State.ssm2_dp (s : State) (k : Nat) (f : Fld) (n : Nat) : (s.dp k f n).ssm2 = s.ssm2 := s.ssm2_wr .a k _

/-! ## Flags of single-copy dies -/

/-- A flag that stands outlives the raising of another one of its bank. -/
theorem State.flagged_raise_of_flagged {s : State} {q : Plane} {b : Bank} {i : Nat} (h : s.flagged q b i) (e : Nat) {j : Nat}
    (hj : j < 36) (hb : b.flags ≠ b.cnt + j / 4) : (s.raise q b e j).flagged q b i := by
  by_cases hij : i = j
  · subst hij
    have := s.flagged_flag q b hj hb
    simpa only [State.flagged, State.get, State.rd_raise_of_isDev_eq s q q b e i rfl] using this
  · have ok : Fld.ok ⟨j, j⟩ := ⟨Nat.le_refl _, hj⟩
    have hd : (Fld.mk i i).hi < (Fld.mk j j).lo ∨ (Fld.mk j j).hi < (Fld.mk i i).lo := by simp; omega
    have hf : (s.flag q b j).flagged q b i := by
      simpa only [State.flagged, State.flag, State.count, State.get_put_ne _ _ _ _ _ _ hb,
        State.get_put_field _ _ _ _ _ _ ok hd] using h
    simpa only [State.flagged, State.get, State.rd_raise_of_isDev_eq s q q b e j rfl] using hf

/-- A raised flag of any bank is set. -/
theorem State.flagged_raise_self (s : State) (q : Plane) (b : Bank) (e : Nat) {j : Nat} (hj : j < 36)
    (hb : b.flags ≠ b.cnt + j / 4) : (s.raise q b e j).flagged q b j := by
  simpa only [State.flagged, State.get, State.rd_raise_of_isDev_eq s q q b e j rfl] using s.flagged_flag q b hj hb

/-- A flag outlives what leaves its register alone. -/
theorem State.flagged_of_rd {s t : State} {q : Plane} {b : Bank} {j : Nat} (h : t.rd q b.flags = s.rd q b.flags)
    (hf : s.flagged q b j) : t.flagged q b j := by
  unfold State.flagged State.get at *
  rw [h]; exact hf

/-- A refused command leaves its reason and its flag, and nothing else. -/
theorem does_of_refuse {c : Instr} {s : State} {q : Plane} {k : Nat} {f : Fld} {code : Nat} {b : Bank} {e j : Nat}
    (h : exec c s = settled (s.refuse q k f code b e j)) (hf : f.ok) (hc : code < 2 ^ f.width) (hj : j < 36)
    (hb : b.flags ≠ b.cnt + j / 4) (hk : k ∉ flagSlots b j) :
    Does c s (fun t => t.get q k f = code ∧ t.flagged q b j ∧ Keeps q s t (k :: flagSlots b j)) := by
  refine does_of_exec h ⟨?_, ?_, ((Keeps.refl _ _ _).refuse _ _ _ _ _ _ (by simp) fun _ h => List.mem_cons_of_mem _ h).recheck⟩
  · rw [State.get_belRecheck, State.refuse, State.get_raise _ _ _ _ _ _ _ _ hk, State.get_put_same _ _ _ _ _ hf, Nat.mod_eq_of_lt hc]
  · rw [State.flagged_belRecheck]
    exact State.flagged_raise_self _ _ _ _ hj hb

end Sys2Proof.Machine

/-! ## Words that a single die stores in the planes (R30, R36, R374, R402, R403) -/

namespace Sys2Proof.Machine

/-- Only the planes differ. -/
def OnlyPlanes (s t : State) : Prop := ∃ x y, t = { s with pa := x, pb := y }

theorem OnlyPlanes.refl (s : State) : OnlyPlanes s s := ⟨_, _, rfl⟩

theorem OnlyPlanes.trans {s t u : State} (h1 : OnlyPlanes s t) (h2 : OnlyPlanes t u) : OnlyPlanes s u := by
  obtain ⟨_, _, rfl⟩ := h1
  obtain ⟨x, y, rfl⟩ := h2
  exact ⟨x, y, rfl⟩

theorem onlyPlanes_setPlane (s : State) (q : Plane) (p : PlaneSt) : OnlyPlanes s (s.setPlane q p) := by
  cases q
  · exact ⟨p, s.pb, rfl⟩
  · exact ⟨s.pa, p, rfl⟩

theorem onlyPlanes_markDirty (s : State) (q : Plane) (a : Nat) : OnlyPlanes s (s.markDirty q a) := by
  simp only [State.markDirty]
  split
  · split
    · exact .refl s
    · exact onlyPlanes_setPlane _ _ _
  · exact .refl s

theorem OnlyPlanes.linkUp {s t : State} (h : OnlyPlanes s t) (l : Link) : t.linkUp l = s.linkUp l := by
  obtain ⟨_, _, rfl⟩ := h
  rfl

theorem OnlyPlanes.ward {s t : State} (h : OnlyPlanes s t) (q : Plane) : t.ward q = s.ward q := by
  obtain ⟨_, _, rfl⟩ := h
  cases q <;> rfl

theorem OnlyPlanes.dev {s t : State} (h : OnlyPlanes s t) : t.dev = s.dev := by
  obtain ⟨_, _, rfl⟩ := h
  rfl

/-- Storing the words makes no read of a poisoned pair: they are whole pairs, or no pair is poisoned (R403). -/
def Quiet (s : State) (a : Nat) (ws : List Word) : Prop :=
  (a % 2 = 0 ∧ ws.length % 2 = 0) ∨ ∀ q, (s.plane q).store.bad = []

/-- A write of the store that shows in no register, and poisons no pair. -/
structure StoreOnly (s t : State) : Prop where
  planes : OnlyPlanes s t
  rd : ∀ p k, t.rd p k = s.rd p k
  sound : (∀ q, (s.plane q).store.bad = []) → ∀ q, (t.plane q).store.bad = []

theorem StoreOnly.refl (s : State) : StoreOnly s s := ⟨.refl s, fun _ _ => rfl, id⟩

theorem StoreOnly.trans {s t u : State} (h1 : StoreOnly s t) (h2 : StoreOnly t u) : StoreOnly s u :=
  ⟨h1.planes.trans h2.planes, fun p k => (h2.rd p k).trans (h1.rd p k), fun h => h2.sound (h1.sound h)⟩

theorem storeOnly_sputPair (s : State) (q : Plane) (a : Nat) (v w : Word) : StoreOnly s (s.sputPair q a v w) := by
  refine ⟨?_, fun p k => s.rd_sputPair q a v w p k, fun h r => ?_⟩
  · simp only [State.sputPair]
    split
    · exact (onlyPlanes_setPlane _ _ _).trans (onlyPlanes_markDirty _ _ _)
    · exact .refl s
  · simp only [State.sputPair]
    split
    · rw [State.store_markDirty, State.store_setStore]
      split
      · rw [h q]; rfl
      · exact h r
    · exact h r

theorem storeOnly_sput {s : State} {q : Plane} {a : Nat} (v : Word) (hs : ∀ q, (s.plane q).store.bad = []) :
    StoreOnly s (s.sput q a v) := by
  have hb : s.isBad q (a / 2) = false := by simp [State.isBad, hs]
  refine ⟨?_, fun p k => s.rd_sput q a v hb p k, fun h r => ?_⟩
  · simp only [State.sput, hb, Bool.false_eq_true, if_false]
    split
    · exact (onlyPlanes_setPlane _ _ _).trans (onlyPlanes_markDirty _ _ _)
    · exact .refl s
  · simp only [State.sput, hb, Bool.false_eq_true, if_false]
    split
    · rw [State.store_markDirty, State.store_setStore]
      split
      · rw [h q]; rfl
      · exact h r
    · exact h r

/-- Words stored quietly change the store and nothing else. -/
theorem storeOnly_sputs (q : Plane) : ∀ (n : Nat) (ws : List Word) (s : State) (a : Nat), ws.length ≤ n → Quiet s a ws →
    StoreOnly s (s.sputs q a ws)
  | _, [], s, _, _, _ => .refl s
  | _, [v], s, a, _, h => storeOnly_sput v (h.resolve_left (by simp))
  | 0, _ :: _ :: _, _, _, hn, _ => absurd hn (by simp)
  | n + 1, v :: w :: t, s, a, hn, h => by
    have ht : t.length ≤ n := by simp at hn; omega
    simp only [State.sputs]
    split
    · have h1 := storeOnly_sputPair s q a v w
      refine h1.trans (storeOnly_sputs q n t _ _ ht (h.imp (fun he => ?_) h1.sound))
      simp only [List.length_cons] at he
      omega
    · have hs := h.resolve_left (by omega)
      have h1 := storeOnly_sput (q := q) (a := a) v hs
      have h2 := h1.trans (storeOnly_sput (q := q) (a := a + 1) w (h1.sound hs))
      exact h2.trans (storeOnly_sputs q n t _ _ ht (.inr (h2.sound hs)))

/-- What a store holds after words have been stored in it. -/
theorem State.sw_sputs (q : Plane) : ∀ (n : Nat) (ws : List Word) (s : State) (a : Nat), ws.length ≤ n → a + ws.length ≤ storeWords →
    ∀ (r : Plane) (b : Nat), (s.sputs q a ws).sw r b
      = if r = q ∧ a ≤ b ∧ b < a + ws.length then nth ws (b - a) 0 else s.sw r b
  | _, [], s, a, _, _, r, b => by
    have : ¬ (r = q ∧ a ≤ b ∧ b < a + ([] : List Word).length) := by simp
    rw [if_neg this]; rfl
  | _, [v], s, a, _, ha, r, b => by
    simp only [State.sputs, State.sw_sput_of_lt s q (show a < storeWords by simp at ha; omega) v r b, List.length_singleton]
    by_cases hb : b = a
    · subst hb; simp [nth]
    · rw [if_neg (by tauto), if_neg (by omega)]
  | 0, _ :: _ :: _, _, _, hn, _, _, _ => absurd hn (by simp)
  | n + 1, v :: w :: t, s, a, hn, ha, r, b => by
    have ht : t.length ≤ n := by simp at hn; omega
    simp only [List.length_cons] at ha ⊢
    have hrest := fun u => State.sw_sputs q n t u (a + 2) ht (by omega) r b
    have htwo : ∀ u : State, u.sw r b = (if r = q ∧ b = a then v else if r = q ∧ b = a + 1 then w else s.sw r b) →
        (u.sputs q (a + 2) t).sw r b
          = if r = q ∧ a ≤ b ∧ b < a + (t.length + 1 + 1) then nth (v :: w :: t) (b - a) 0 else s.sw r b := by
      intro u hu
      rw [hrest, hu]
      by_cases hr : r = q
      · subst hr
        by_cases h2 : a + 2 ≤ b ∧ b < a + 2 + t.length
        · have hi : b - a = b - (a + 2) + 1 + 1 := by omega
          rw [if_pos ⟨rfl, h2⟩, if_pos ⟨rfl, by omega⟩, hi]; rfl
        · rw [if_neg (by tauto)]
          by_cases h0 : b = a
          · subst h0; simp [nth]
          · by_cases h1 : b = a + 1
            · subst h1; simp [nth]
            · rw [if_neg (by tauto), if_neg (by tauto), if_neg (by omega)]
      · simp [hr]
    simp only [State.sputs]
    split
    · exact htwo _ (s.sw_sputPair q a v w (by omega) r b)
    · refine htwo _ ?_
      rw [State.sw_sput_of_lt _ q (show a + 1 < storeWords by omega), State.sw_sput_of_lt s q (show a < storeWords by omega)]
      by_cases h0 : b = a
      · subst h0; simp
      · simp [h0]

/-- Pairs beyond the store have no word (R402). -/
theorem State.sputs_of_beyond (q : Plane) : ∀ (n : Nat) (ws : List Word) (s : State) (a : Nat), ws.length ≤ n → storeWords ≤ a →
    s.sputs q a ws = s
  | _, [], _, _, _, _ => rfl
  | _, [v], s, a, _, h => if_neg (by omega)
  | 0, _ :: _ :: _, _, _, hn, _ => absurd hn (by simp)
  | n + 1, v :: w :: t, s, a, hn, h => by
    have ht : t.length ≤ n := by simp at hn; omega
    have h0 : ∀ u : State, u.sput q a v = u := fun u => if_neg (by omega)
    have h1 : ∀ u : State, u.sput q (a + 1) w = u := fun u => if_neg (by omega)
    have hp : s.sputPair q a v w = s := if_neg (by omega)
    simp only [State.sputs, h0, h1, hp, ite_self]
    exact State.sputs_of_beyond q n t s (a + 2) ht (by omega)

/-- The links of a die carry words to the store of a plane in service (R30, R36, R374). -/
def carries (l : Plane → Link) (s : State) (q : Plane) : Bool := s.linkUp (l q) && s.linkUp (storeLink q) && !(s.ward q).inReset

theorem carries_iff (l : Plane → Link) (s : State) (q : Plane) : carries l s q = true
    ↔ s.linkUp (l q) = true ∧ s.linkUp (storeLink q) = true ∧ (s.ward q).inReset = false := by
  simp [carries, and_assoc]

theorem OnlyPlanes.carries {s t : State} (h : OnlyPlanes s t) (l : Plane → Link) (q : Plane) : carries l t q = carries l s q := by
  simp only [Machine.carries, h.linkUp, h.ward]

/-- One plane's part of a write that a single die delivers. -/
def sputOver (l : Plane → Link) (a : Nat) (ws : List Word) (q : Plane) (s : State) : State :=
  if carries l s q then s.sputs q a ws else s

theorem State.sputVia_eq (s : State) (l : Plane → Link) (a : Nat) (ws : List Word) :
    s.sputVia l a ws = sputOver l a ws .b (sputOver l a ws .a s) := rfl

theorem storeOnly_sputOver (l : Plane → Link) {a : Nat} {ws : List Word} (q : Plane) {s : State} (h : Quiet s a ws) :
    StoreOnly s (sputOver l a ws q s) := by
  unfold sputOver
  split
  · exact storeOnly_sputs q _ ws s a (le_refl _) h
  · exact .refl s

theorem Quiet.of_storeOnly {s t : State} {a : Nat} {ws : List Word} (h : Quiet s a ws) (ht : StoreOnly s t) : Quiet t a ws :=
  h.imp id ht.sound

/-- A delivery to both stores shows in no register. -/
theorem storeOnly_sputVia (l : Plane → Link) {a : Nat} {ws : List Word} {s : State} (h : Quiet s a ws) :
    StoreOnly s (s.sputVia l a ws) :=
  (storeOnly_sputOver l .a h).trans (storeOnly_sputOver l .b (h.of_storeOnly (storeOnly_sputOver l .a h)))

theorem sw_sputOver (l : Plane → Link) {a : Nat} {ws : List Word} (q : Plane) (s : State) (ha : a + ws.length ≤ storeWords)
    (r : Plane) (b : Nat) : (sputOver l a ws q s).sw r b
      = if r = q ∧ carries l s q = true ∧ a ≤ b ∧ b < a + ws.length then nth ws (b - a) 0 else s.sw r b := by
  unfold sputOver
  cases hr : carries l s q
  · simp
  · simp [State.sw_sputs q _ ws s a (le_refl _) ha]

/-- What the stores hold after a delivery: the words where the links carry them, and what they held elsewhere. -/
theorem State.sw_sputVia (l : Plane → Link) {a : Nat} {ws : List Word} {s : State} (h : Quiet s a ws)
    (ha : a + ws.length ≤ storeWords) (q : Plane) (b : Nat) : (s.sputVia l a ws).sw q b
      = if carries l s q = true ∧ a ≤ b ∧ b < a + ws.length then nth ws (b - a) 0 else s.sw q b := by
  have h1 := storeOnly_sputOver l .a h
  rw [State.sputVia_eq, sw_sputOver l .b _ ha, sw_sputOver l .a _ ha, h1.planes.carries]
  cases q <;> simp

theorem map_nth_range (ws : List Word) : (List.range ws.length).map (fun i => nth ws i 0) = ws := by
  refine List.ext_getElem (by simp) fun i h1 h2 => ?_
  simpa [nth] using congrArg (Option.getD · 0) (List.getElem?_eq_getElem h2)

/-- A record of four words at a place of its own: it stands where the links carry it, and no other word changes. -/
theorem sputVia_record (l : Plane → Link) {a : Nat} {w : List Word} (s : State) (h4 : a % 4 = 0) (hw : w.length = 4)
    (ha : a + 4 ≤ storeWords) :
    (∀ q, (s.sputVia l a w).swords q a 4
      = if s.linkUp (l q) ∧ s.linkUp (storeLink q) ∧ (s.ward q).inReset = false then w else s.swords q a 4)
    ∧ ∀ q b, b / 4 ≠ a / 4 → (s.sputVia l a w).sw q b = s.sw q b := by
  have hq : Quiet s a w := .inl ⟨by omega, by omega⟩
  have hsw := State.sw_sputVia l hq (by omega)
  refine ⟨fun q => ?_, fun q b hb => ?_⟩
  · simp only [← carries_iff]
    have hi : ∀ i ∈ List.range 4, (s.sputVia l a w).sw q (a + i) = if carries l s q = true then nth w i 0 else s.sw q (a + i) := by
      intro i hi
      rw [List.mem_range] at hi
      rw [hsw]
      cases carries l s q
      · simp
      · rw [if_pos ⟨rfl, by omega, by omega⟩, Nat.add_sub_cancel_left]; rfl
    rw [State.swords, List.map_congr_left hi]
    cases carries l s q
    · rfl
    · simpa only [hw, if_true] using map_nth_range w
  · rw [hsw, if_neg (by omega)]

/-- The place of a record in a ring of records of four words (R250, R434). -/
theorem ring_mod_four (b lg x : Nat) : (b / 2 ^ (2 + lg) * 2 ^ (2 + lg) + 4 * x) % 4 = 0 := by
  have h : b / 2 ^ (2 + lg) * 2 ^ (2 + lg) = 4 * (b / 2 ^ (2 + lg) * 2 ^ lg) := by rw [Nat.pow_add]; ring
  omega

theorem SameStores.swords {s t : State} (h : SameStores s t) (q : Plane) (a n : Nat) : t.swords q a n = s.swords q a n := by
  simp only [State.swords, h q]

/-- A record of four words leaves a FIFO for its ring, and the count of the ring's register goes on (R250, R434). -/
theorem record_to_ring (l : Plane → Link) {s s1 : State} (h1 : Leaves .a s s1 []) (hc : ∀ q, carries l s1 q = carries l s q) {a : Nat}
    {w : List Word} (h4 : a % 4 = 0) (hw : w.length = 4) (ha : a + 4 ≤ storeWords) {k : Nat} (f : Fld) (n : Nat) (hk : isDev k = true) :
    let t := belRecheck ((s1.sputVia l a w).dp k f n)
    (∀ q, t.swords q a 4 = if s.linkUp (l q) ∧ s.linkUp (storeLink q) ∧ (s.ward q).inReset = false then w else s.swords q a 4)
    ∧ (∀ q b, b / 4 ≠ a / 4 → t.sw q b = s.sw q b) ∧ RegsKept .a s t [k] ∧ t.fio = s1.fio ∧ t.sense = s1.sense := by
  intro t
  have hso : StoreOnly s1 (s1.sputVia l a w) := storeOnly_sputVia l (.inl ⟨by omega, by omega⟩)
  obtain ⟨hrec, hframe⟩ := sputVia_record l s1 h4 hw ha
  have hkeep : Keeps .a (s1.sputVia l a w) t [k] := ((Keeps.refl _ _ _).dp _ _ _ (by simp) hk).recheck
  have hsw := hkeep.leaves.1
  obtain ⟨x, y, hxy⟩ := hso.planes
  refine ⟨fun q => ?_, fun q b hb => (hsw q b).trans ((hframe q b hb).trans (h1.1 q b)), ?_, ?_, ?_⟩
  · rw [hsw.swords q a 4, hrec q, h1.1.swords q a 4]
    simp only [← carries_iff, hc]
  · exact RegsKept.trans (h1.2.mono (by simp)) (RegsKept.trans (fun p j _ => hso.rd p j) hkeep.2)
  · rw [hkeep.fio, hxy]
  · rw [hkeep.sense, hxy]

/-- A delivery beyond the store goes nowhere. -/
theorem State.sputVia_of_beyond (l : Plane → Link) {a : Nat} (ws : List Word) (s : State) (ha : storeWords ≤ a) :
    s.sputVia l a ws = s := by
  have h : ∀ q (u : State), sputOver l a ws q u = u := fun q u => by
    rw [sputOver, State.sputs_of_beyond q _ ws u a (le_refl _) ha, ite_self]
  rw [State.sputVia_eq, h, h]

end Sys2Proof.Machine

/-! ## Inputs of FIELD (R430 to R434) -/

namespace Sys2Proof.Machine

/-- FIO_DI_STATUS is none of the registers that a flag of an input changes. -/
theorem diStatus_not_mem_flagSlots (k : Fin 32) (i : Nat) (hi : i < 4) : R.FIO_DI_STATUS k ∉ flagSlots (bDI k) i := by
  have hk := k.isLt
  simp only [flagSlots, bDI, R.FIO_DI_STATUS, R.FIO_DI_FLAGS, R.FIO_DI_FLAG_CNT, R.EVM_FLAGS, R.EVM_FLAG_CNT, List.mem_cons,
    List.not_mem_nil, or_false]
  omega

theorem isDev_diStatus (k : Fin 32) : isDev (R.FIO_DI_STATUS k) = true :=
  isDev_of_lt (by simp only [R.FIO_DI_STATUS]; omega)

@[simp] theorem State.di_setDi (s : State) (k : Nat) (x : DiSt) (hk : k < s.fio.dis.length) : (setDi k x s).di k = x := by
  simp [State.di, setDi, nth, hk]

theorem leaves_setDi (k : Nat) (x : DiSt) (s : State) (ks : List Nat) : Leaves .a s (setDi k x s) ks := .of_planes _ _ rfl rfl rfl

theorem leaves_toTime (q : Plane) (t : Nat) (s : State) (ks : List Nat) : Leaves q s (s.toTime t) ks := .of_planes _ _ rfl rfl rfl

/-! ### Edges that reach the intakes (R184) -/

/-- Only the intakes of the planes differ. -/
def OnlyIntakes (s t : State) : Prop :=
  ∃ x y, t = { s with pa := { s.pa with intake := x }, pb := { s.pb with intake := y } }

theorem OnlyIntakes.refl (s : State) : OnlyIntakes s s := ⟨_, _, rfl⟩

theorem OnlyIntakes.trans {s t u : State} (h1 : OnlyIntakes s t) (h2 : OnlyIntakes t u) : OnlyIntakes s u := by
  obtain ⟨_, _, rfl⟩ := h1
  obtain ⟨x, y, rfl⟩ := h2
  exact ⟨x, y, rfl⟩

theorem onlyIntakes_setIntake (s : State) (q : Plane) (x : IntakeSt) : OnlyIntakes s (s.setIntake q x) := by
  cases q
  · exact ⟨x, s.pb.intake, rfl⟩
  · exact ⟨s.pa.intake, x, rfl⟩

theorem onlyIntakes_each {α : Type} (f : α → State → State) (hf : ∀ a s, OnlyIntakes s (f a s)) :
    ∀ (l : List α) (s : State), OnlyIntakes s (each l f s)
  | [], s => OnlyIntakes.refl s
  | a :: l, s => (hf a s).trans (onlyIntakes_each f hf l (f a s))

/-- An edge that a probe may wait for reaches the intakes, and nothing else (R184). -/
theorem onlyIntakes_probeEdge (via : Plane → Link) (src idx : Nat) (falling : Bool) (t : Nat) (s : State) :
    OnlyIntakes s (probeEdge via src idx falling t s) :=
  onlyIntakes_each _ (fun q s => onlyIntakes_setIntake s q _) _ s

theorem OnlyIntakes.leaves {s t : State} (h : OnlyIntakes s t) (q : Plane) (ks : List Nat) : Leaves q s t ks := by
  obtain ⟨_, _, rfl⟩ := h
  exact ⟨fun p a => by cases p <;> rfl, fun p k _ => by cases p <;> rfl⟩

theorem OnlyIntakes.rd {s t : State} (h : OnlyIntakes s t) (p : Plane) (k : Nat) : t.rd p k = s.rd p k := by
  obtain ⟨_, _, rfl⟩ := h
  cases p <;> rfl

/-! ### Edges, debouncing and Picots -/

/-- A raw edge is stamped, and starts its settling where the level differs from the one known (R430). -/
theorem does_diRawEdge (k : Fin 32) (level : Bool) (at' : Nat) (s : State) (hl : s.fio.dis.length = 32) :
    let raw := b2n (level != (s.dg (R.FIO_DI_CFG k) F.FIO_DI_CFG_INV == 1))
    Does (.diRawEdge k level at') s (fun t => t.dg (R.FIO_DI_STATUS k) F.FIO_DI_STATUS_RAW = raw
      ∧ t.di k = (if s.dg (R.FIO_DI_STATUS k) F.FIO_DI_STATUS_RAW = raw then s.di k else ⟨at' * 10000, at' * 10000 + settlePs k s⟩)
      ∧ t.now = max s.now (at' * 10000) ∧ SameStores s t ∧ RegsKept .a s t [R.FIO_DI_STATUS k]) := by
  intro raw
  refine does_of_exec rfl ?_
  have h0 : Leaves .a s (s.toTime (at' * 10000)) [R.FIO_DI_STATUS k] := leaves_toTime _ _ _ _
  by_cases h : s.dg (R.FIO_DI_STATUS k) F.FIO_DI_STATUS_RAW = raw
  · rw [if_pos h.symm, if_pos h]
    exact ⟨h, rfl, rfl, h0.andKeeps (Keeps.refl _ _ _).recheck⟩
  · rw [if_neg (Ne.symm h), if_neg h]
    refine ⟨?_, ?_, ?_, ((h0.andKeeps ((Keeps.refl _ _ _).dp _ _ _ (by simp) (isDev_diStatus k))).trans
      (leaves_setDi _ _ _ _)).andKeeps (Keeps.refl _ _ _).recheck⟩
    · exact State.dg_dp_same _ _ (by decide) (b2n_lt_two _)
    · exact State.di_setDi _ _ _ (by simp [State.toTime, hl])
    · exact State.now_dp _ _ _ _

/-- An input makes a Picot of a level where its PICOT bit says so and FIELD hears the beacons (R434, R444). -/
theorem diPicot_of_not_makes {k level t : Nat} {s : State}
    (h : (bitN (s.dg (R.FIO_DI_CFG k) F.FIO_DI_CFG_PICOT) (1 - level) && !fieldLost s) = false) : diPicot k level t s = s :=
  if_pos (by cases hf : fieldLost s <;> simp_all)

theorem diPicot_of_full {k level t : Nat} {s : State}
    (h : (bitN (s.dg (R.FIO_DI_CFG k) F.FIO_DI_CFG_PICOT) (1 - level) && !fieldLost s) = true) (hf : 64 ≤ s.fio.fifo.length) :
    diPicot k level t s = raiseFio 7 s :=
  (if_neg (by simp_all)).trans (if_pos hf)

theorem diPicot_of_room {k level t : Nat} {s : State}
    (h : (bitN (s.dg (R.FIO_DI_CFG k) F.FIO_DI_CFG_PICOT) (1 - level) && !fieldLost s) = true) (hf : s.fio.fifo.length < 64) :
    OnlyIntakes { s with fio := { s.fio with fifo := s.fio.fifo
      ++ [picotOf 2 k (1 - level) false false 0 t (wordN (supplyQ s * 2 ^ 35 + debUs k s))] } } (diPicot k level t s) := by
  have he : diPicot k level t s = probeEdge fieldLink 0 k (decide (level = 0)) t { s with fio := { s.fio with fifo := s.fio.fifo
      ++ [picotOf 2 k (1 - level) false false 0 t (wordN (supplyQ s * 2 ^ 35 + debUs k s))] } } :=
    (if_neg (by simp_all)).trans (if_neg (by omega))
  rw [he]
  exact onlyIntakes_probeEdge _ _ _ _ _ _

theorem diCfg_not_mem (k : Fin 32) (i : Nat) (hi : i < 4) : R.FIO_DI_CFG k ∉ R.FIO_DI_STATUS k :: flagSlots (bDI k) i := by
  have hk := k.isLt
  simp only [flagSlots, bDI, R.FIO_DI_CFG, R.FIO_DI_STATUS, R.FIO_DI_FLAGS, R.FIO_DI_FLAG_CNT, R.EVM_FLAGS, R.EVM_FLAG_CNT, List.mem_cons,
    List.not_mem_nil, or_false]
  omega

theorem fioStatus_not_mem (k : Fin 32) (i : Nat) (hi : i < 4) : R.FIO_STATUS ∉ R.FIO_DI_STATUS k :: flagSlots (bDI k) i := by
  have hk := k.isLt
  simp only [flagSlots, bDI, R.FIO_STATUS, R.FIO_DI_STATUS, R.FIO_DI_FLAGS, R.FIO_DI_FLAG_CNT, R.EVM_FLAGS, R.EVM_FLAG_CNT, List.mem_cons,
    List.not_mem_nil, or_false]
  omega

/-- The registers of an input are none of those that PICOT_OVF of FIELD changes. -/
theorem di_not_mem_flagSlots_fio (k : Fin 32) : R.FIO_DI_STATUS k ∉ flagSlots bFIO 7 ∧ R.FIO_DI_FLAGS k ∉ flagSlots bFIO 7 := by
  have hk := k.isLt
  simp only [flagSlots, bFIO, R.FIO_FLAGS, R.FIO_FLAG_CNT0, R.FIO_DI_STATUS, R.FIO_DI_FLAGS, R.EVM_FLAGS, R.EVM_FLAG_CNT,
    List.mem_cons, List.not_mem_nil, or_false]
  omega

/-- The state of an input whose raw level has been stable for DEB: the level follows, with its flag (R430, R434). -/
def debounced (k : Fin 32) (s : State) : State :=
  let raw := s.dg (R.FIO_DI_STATUS k) F.FIO_DI_STATUS_RAW
  ((s.toTime ((s.di k).edge + debUs k s * 1000000)).dp (R.FIO_DI_STATUS k) F.FIO_DI_STATUS_LEVEL raw).raise .a (bDI k) (144 + k) (1 - raw)

theorem keeps_debounced (k : Fin 32) (s : State) :
    Keeps .a (s.toTime ((s.di k).edge + debUs k s * 1000000)) (debounced k s)
      (R.FIO_DI_STATUS k :: flagSlots (bDI k) (1 - s.dg (R.FIO_DI_STATUS k) F.FIO_DI_STATUS_RAW)) :=
  ((Keeps.refl _ _ _).dp _ _ _ (by simp) (isDev_diStatus k)).raise _ _ _ fun _ hk => List.mem_cons_of_mem _ hk

theorem dg_level_debounced (k : Fin 32) (s : State) :
    (debounced k s).dg (R.FIO_DI_STATUS k) F.FIO_DI_STATUS_LEVEL = s.dg (R.FIO_DI_STATUS k) F.FIO_DI_STATUS_RAW := by
  rw [State.dg, debounced, State.get_raise _ _ _ _ _ _ _ _ (diStatus_not_mem_flagSlots k _ (by omega))]
  exact State.dg_dp_same _ _ (by decide) (s.dg_lt _ _)

theorem flagged_debounced (k : Fin 32) (s : State) :
    (debounced k s).flagged .a (bDI k) (1 - s.dg (R.FIO_DI_STATUS k) F.FIO_DI_STATUS_RAW) :=
  State.flagged_raise_self _ _ _ _ (by omega) (by simp only [bDI, R.FIO_DI_FLAGS, R.FIO_DI_FLAG_CNT]; omega)

theorem exec_debounceExpiry {k : Fin 32} {s : State} (hu : s.dg (R.FIO_DI_STATUS k) F.FIO_DI_STATUS_UNKNOWN = 0)
    (hr : s.dg (R.FIO_DI_STATUS k) F.FIO_DI_STATUS_RAW ≠ s.dg (R.FIO_DI_STATUS k) F.FIO_DI_STATUS_LEVEL) :
    exec (.debounceExpiry k) s
      = settled (diPicot k (s.dg (R.FIO_DI_STATUS k) F.FIO_DI_STATUS_RAW) (s.di k).edge (debounced k s)) :=
  congrArg settled (if_neg (by rw [hu]; simpa using hr))

/-- A debounced input has its level, its flag with its event, and its Picot (R430, R434). -/
theorem does_debounceExpiry (k : Fin 32) (s : State) (hu : s.dg (R.FIO_DI_STATUS k) F.FIO_DI_STATUS_UNKNOWN = 0) :
    let raw := s.dg (R.FIO_DI_STATUS k) F.FIO_DI_STATUS_RAW
    raw ≠ s.dg (R.FIO_DI_STATUS k) F.FIO_DI_STATUS_LEVEL → Does (.debounceExpiry k) s (fun t =>
      let makes := bitN (s.dg (R.FIO_DI_CFG k) F.FIO_DI_CFG_PICOT) (1 - raw) && !fieldLost s
      t.dg (R.FIO_DI_STATUS k) F.FIO_DI_STATUS_LEVEL = raw ∧ t.flagged .a (bDI k) (1 - raw)
      ∧ t.now = max s.now ((s.di k).edge + debUs k s * 1000000) ∧ SameStores s t
      ∧ (if makes ∧ s.fio.fifo.length < 64 then t.fio.fifo = s.fio.fifo
          ++ [picotOf 2 k (1 - raw) false false 0 (s.di k).edge (wordN (supplyQ s * 2 ^ 35 + debUs k s))]
        else t.fio.fifo = s.fio.fifo)
      ∧ (if makes ∧ 64 ≤ s.fio.fifo.length then t.flagged .a bFIO 7
          ∧ RegsKept .a s t (R.FIO_DI_STATUS k :: flagSlots (bDI k) (1 - raw) ++ flagSlots bFIO 7)
        else RegsKept .a s t (R.FIO_DI_STATUS k :: flagSlots (bDI k) (1 - raw)))) := by
  intro raw hr
  refine does_of_exec (exec_debounceExpiry hu hr) ?_
  have hkeep := keeps_debounced k s
  have hfio : (debounced k s).fio = s.fio := hkeep.fio
  have hnow : (debounced k s).now = max s.now ((s.di k).edge + debUs k s * 1000000) := hkeep.now
  have hl : Leaves .a s (debounced k s) (R.FIO_DI_STATUS k :: flagSlots (bDI k) (1 - raw)) :=
    (leaves_toTime _ _ _ _).andKeeps hkeep
  have hcfg : ∀ f, (debounced k s).dg (R.FIO_DI_CFG k) f = s.dg (R.FIO_DI_CFG k) f := fun f => hl.dg f (diCfg_not_mem k _ (by omega))
  have hlost : fieldLost (debounced k s) = fieldLost s := by unfold fieldLost; rw [hkeep.cyc]; rfl
  have hq : supplyQ (debounced k s) = supplyQ s := by unfold supplyQ supply; rw [hl.dg _ (fioStatus_not_mem k _ (by omega))]
  have hdeb : debUs k (debounced k s) = debUs k s := hcfg _
  have hlev := dg_level_debounced k s
  have hflag := flagged_debounced k s
  intro makes
  have hmakes : (bitN ((debounced k s).dg (R.FIO_DI_CFG k) F.FIO_DI_CFG_PICOT) (1 - raw) && !fieldLost (debounced k s)) = makes := by
    rw [hcfg, hlost]
  cases hm : makes with
  | false =>
    rw [diPicot_of_not_makes (hmakes.trans hm)]
    have hf := hl.andKeeps (Keeps.refl _ _ _).recheck
    simp only [Bool.false_eq_true, false_and, if_false]
    exact ⟨hlev, hflag, hnow, hf.1, congrArg FioSt.fifo hfio, hf.2⟩
  | true =>
    by_cases hlen : 64 ≤ s.fio.fifo.length
    · rw [diPicot_of_full (hmakes.trans hm) (by rw [hfio]; exact hlen)]
      have hk : Keeps .a (debounced k s) (belRecheck (raiseFio 7 (debounced k s))) (flagSlots bFIO 7) :=
        ((Keeps.refl _ _ _).raise _ _ _ fun _ h => h).recheck
      have hf := (hl.mono fun _ h => List.mem_append_left _ h).andKeeps (hk.mono fun _ h => List.mem_append_right _ h)
      simp only [true_and, hlen, if_true, if_neg (Nat.not_lt.mpr hlen)]
      refine ⟨(hk.dg _ (di_not_mem_flagSlots_fio k).1).trans hlev,
        State.flagged_of_rd (hk.2 .a _ (.inl (di_not_mem_flagSlots_fio k).2)) hflag, hk.now.trans hnow, hf.1,
        congrArg FioSt.fifo (hk.fio.trans hfio), ?_, hf.2⟩
      exact (State.flagged_belRecheck _ _ _ _).2 (State.flagged_raise_self _ _ _ _ (by decide) (by decide))
    · obtain ⟨x, y, hx⟩ := diPicot_of_room (t := (s.di k).edge) (hmakes.trans hm) (by rw [hfio]; omega)
      have hi : OnlyIntakes _ (diPicot k raw (s.di k).edge (debounced k s)) := ⟨x, y, hx⟩
      have hf := ((hl.trans (.of_planes _ _ rfl rfl rfl)).trans (hi.leaves _ _)).andKeeps (Keeps.refl _ _ _).recheck
      simp only [true_and, if_pos (Nat.lt_of_not_le hlen), hlen, if_false]
      rw [hfio, hq, hdeb] at hx
      refine ⟨?_, ?_, ?_, hf.1, ?_, hf.2⟩
      · rw [hx]; exact hlev
      · rw [hx]; exact hflag
      · rw [hx]; exact hnow
      · rw [hx]; rfl

/-- A command that finds nothing to do changes nothing. -/
theorem does_nothing {c : Instr} {s : State} (q : Plane) (ks : List Nat) (h : exec c s = settled s) :
    Does c s (fun t => Keeps q s t ks) := does_of_exec h (Keeps.refl _ _ _).recheck

theorem does_debounceExpiry_of_stable {k : Fin 32} {s : State} (h : s.dg (R.FIO_DI_STATUS k) F.FIO_DI_STATUS_UNKNOWN = 1
    ∨ s.dg (R.FIO_DI_STATUS k) F.FIO_DI_STATUS_RAW = s.dg (R.FIO_DI_STATUS k) F.FIO_DI_STATUS_LEVEL) :
    Does (.debounceExpiry k) s (fun t => Keeps .a s t []) := does_nothing _ _ (congrArg settled (if_pos h))

theorem does_diSettle_of_known {k : Fin 32} {s : State} (h : s.dg (R.FIO_DI_STATUS k) F.FIO_DI_STATUS_UNKNOWN = 0 ∨ cutOff s = true) :
    Does (.diSettle k) s (fun t => Keeps .a s t []) := does_nothing _ _ (congrArg settled (if_pos h))

/-- An UNKNOWN input takes its stable level, without an event (R431). -/
theorem does_diSettle {k : Fin 32} {s : State} (hu : s.dg (R.FIO_DI_STATUS k) F.FIO_DI_STATUS_UNKNOWN = 1) (hc : cutOff s = false) :
    Does (.diSettle k) s (fun t => t.dg (R.FIO_DI_STATUS k) F.FIO_DI_STATUS_UNKNOWN = 0
      ∧ t.dg (R.FIO_DI_STATUS k) F.FIO_DI_STATUS_LEVEL = s.dg (R.FIO_DI_STATUS k) F.FIO_DI_STATUS_RAW
      ∧ t.evm.raised = s.evm.raised ∧ t.fio = s.fio ∧ SameStores s t ∧ RegsKept .a s t [R.FIO_DI_STATUS k]) := by
  refine does_of_exec (congrArg settled (if_neg (by simp [hu, hc]))) ?_
  have hk : Keeps .a (s.toTime (s.di k).settle)
      (((s.toTime (s.di k).settle).dp (R.FIO_DI_STATUS k) F.FIO_DI_STATUS_UNKNOWN 0).dp (R.FIO_DI_STATUS k) F.FIO_DI_STATUS_LEVEL
        (s.dg (R.FIO_DI_STATUS k) F.FIO_DI_STATUS_RAW)) [R.FIO_DI_STATUS k] :=
    ((Keeps.refl _ _ _).dp _ _ _ (by simp) (isDev_diStatus k)).dp _ _ _ (by simp) (isDev_diStatus k)
  have hl := (leaves_toTime _ _ _ _).andKeeps hk.recheck
  refine ⟨?_, State.dg_dp_same _ _ (by decide) (s.dg_lt _ _), ?_, hk.recheck.fio, hl.1, hl.2⟩
  · exact (State.dg_dp_field _ _ _ (by decide) (by decide)).trans (State.dg_dp_same _ _ (by decide) (by decide))
  · exact congrArg EvmSt.raised ((State.evm_wr _ _ _ _).trans (State.evm_wr _ _ _ _))

/-- The oldest Picot of the inputs goes to the ring (R434). -/
theorem does_diPicotDrain {s : State} {w : List Word} {rest : List (List Word)} (hf : s.fio.fifo = w :: rest) (hw : w.length = 4)
    (hlost : fieldLost s = false) :
    let lg := s.dg R.FIO_PICOT_CFG F.FIO_PICOT_CFG_SIZE_LOG2
    let a := s.fio.picBase / 2 ^ (2 + lg) * 2 ^ (2 + lg) + 4 * (s.dg R.FIO_PICOT_WR F.FIO_PICOT_WR_COUNT % 2 ^ lg)
    6 ≤ lg → lg ≤ 16 → a + 4 ≤ storeWords → Does .diPicotDrain s (fun t =>
      t.fio.fifo = rest ∧ (∀ q, t.swords q a 4 = (if s.linkUp (fieldLink q) ∧ s.linkUp (storeLink q) ∧ (s.ward q).inReset = false
        then w else s.swords q a 4))
      ∧ (∀ q b, b / 4 ≠ a / 4 → t.sw q b = s.sw q b)
      ∧ t.dg R.FIO_PICOT_WR F.FIO_PICOT_WR_COUNT = (s.dg R.FIO_PICOT_WR F.FIO_PICOT_WR_COUNT + 1) % 2 ^ 32
      ∧ RegsKept .a s t [R.FIO_PICOT_WR]) := by
  intro lg a h6 h16 ha
  have hex : exec .diPicotDrain s = settled (({ s with fio := { s.fio with fifo := rest } }.sputVia fieldLink a w).dp R.FIO_PICOT_WR
      F.FIO_PICOT_WR_COUNT ((s.dg R.FIO_PICOT_WR F.FIO_PICOT_WR_COUNT + 1) % 2 ^ 32)) := by
    show settled _ = _
    rw [hf]
    exact congrArg settled (if_neg (by simp [hlost]; omega))
  refine does_of_exec hex ?_
  obtain ⟨hrec, hframe, hregs, hfio, -⟩ := record_to_ring fieldLink (.of_planes _ _ rfl rfl rfl)
    (s := s) (s1 := { s with fio := { s.fio with fifo := rest } }) (fun q => by cases q <;> rfl) (ring_mod_four _ _ _) hw ha
    (k := R.FIO_PICOT_WR) F.FIO_PICOT_WR_COUNT ((s.dg R.FIO_PICOT_WR F.FIO_PICOT_WR_COUNT + 1) % 2 ^ 32) rfl
  exact ⟨congrArg FioSt.fifo hfio, hrec, hframe, (State.dg_belRecheck _ _ _).trans (State.dg_dp_mod _ R.FIO_PICOT_WR (f := F.FIO_PICOT_WR_COUNT) _ (by decide)), hregs⟩

theorem does_diPicotDrain_of_none {s : State} (h : s.fio.fifo = [] ∨ fieldLost s = true) :
    Does .diPicotDrain s (fun t => Keeps .a s t []) := by
  refine does_nothing _ _ (show settled _ = _ from ?_)
  rcases h with h | h
  · rw [h]
  · cases s.fio.fifo with
    | nil => rfl
    | cons w rest => exact congrArg settled (if_pos (.inr (.inr h)))

/-! ### Types and power-up (R431, R432) -/

theorem diStatus_inj {j k : Nat} : R.FIO_DI_STATUS j = R.FIO_DI_STATUS k ↔ j = k := by simp only [R.FIO_DI_STATUS]; omega

theorem leaves_diUnknown {k : Nat} (hk : k < 32) (s : State) : Leaves .a s (diUnknown k s) [R.FIO_DI_STATUS k] :=
  have hd : isDev (R.FIO_DI_STATUS k) = true := isDev_diStatus ⟨k, hk⟩
  (((Leaves.refl _ _ _).andKeeps ((Keeps.refl _ _ _).dp _ _ _ (by simp) hd)).andKeeps ((Keeps.refl _ _ _).dp _ _ _ (by simp) hd)).trans
    (leaves_setDi _ _ _ _)

/-- An input that is UNKNOWN reports the level 0 (R431). -/
def reportsUnknown (k : Nat) (s : State) : Prop :=
  s.dg (R.FIO_DI_STATUS k) F.FIO_DI_STATUS_UNKNOWN = 1 ∧ s.dg (R.FIO_DI_STATUS k) F.FIO_DI_STATUS_LEVEL = 0

theorem reportsUnknown_diUnknown (k : Nat) (s : State) : reportsUnknown k (diUnknown k s) :=
  ⟨(State.dg_dp_field _ _ _ (by decide) (by decide)).trans (State.dg_dp_same _ _ (by decide) (by decide)),
    State.dg_dp_same _ _ (by decide) (by decide)⟩

theorem dg_diUnknown_ne {j k : Nat} (h : j ≠ k) (f : Fld) (s : State) :
    (diUnknown k s).dg (R.FIO_DI_STATUS j) f = s.dg (R.FIO_DI_STATUS j) f :=
  have hne : R.FIO_DI_STATUS j ≠ R.FIO_DI_STATUS k := diStatus_inj.not.2 h
  (State.dg_dp_ne _ _ _ _ hne).trans (State.dg_dp_ne _ _ _ _ hne)

theorem reportsUnknown_diUnknown_of {j : Nat} {s : State} (h : reportsUnknown j s) (k : Nat) : reportsUnknown j (diUnknown k s) := by
  by_cases hjk : j = k
  · subst hjk; exact reportsUnknown_diUnknown _ _
  · exact ⟨(dg_diUnknown_ne hjk _ s).trans h.1, (dg_diUnknown_ne hjk _ s).trans h.2⟩

/-- Inputs that are made UNKNOWN one after the other are so in the end. -/
theorem reportsUnknown_each (l : List Nat) (s : State) : ∀ k ∈ l, reportsUnknown k (each l diUnknown s) :=
  each_makes s (fun k _ s => reportsUnknown_diUnknown k s) fun k _ _ _ _ h => reportsUnknown_diUnknown_of h k

theorem mem_groupDis {g : Fin 4} {k : Nat} (h : k ∈ groupDis g) : k < 32 := by
  have hg := g.isLt
  simp only [groupDis, List.mem_map, List.mem_range] at h
  obtain ⟨i, hi, rfl⟩ := h
  omega

theorem grpCfg_ne_diStatus (g : Fin 4) (k : Nat) : R.FIO_GRP_CFG g ≠ R.FIO_DI_STATUS k := by
  have hg := g.isLt
  simp only [R.FIO_GRP_CFG, R.FIO_DI_STATUS]
  omega

/-- A changed type of a group makes its inputs UNKNOWN (R431). -/
theorem does_groupWrite {g : Fin 4} {v : Word} {s : State}
    (ht : F.FIO_GRP_CFG_TYPE.get v ≠ s.dg (R.FIO_GRP_CFG g) F.FIO_GRP_CFG_TYPE)
    (hsafe : (groupDis g).any (fun k => safetyDi k s) = false) : Does (.fieldConfigWrite (.grp g) v) s (fun t =>
      t.dg (R.FIO_GRP_CFG g) F.FIO_GRP_CFG_TYPE = F.FIO_GRP_CFG_TYPE.get v
      ∧ (∀ k ∈ groupDis g, t.dg (R.FIO_DI_STATUS k) F.FIO_DI_STATUS_UNKNOWN = 1 ∧ t.dg (R.FIO_DI_STATUS k) F.FIO_DI_STATUS_LEVEL = 0)
      ∧ SameStores s t ∧ RegsKept .a s t (R.FIO_GRP_CFG g :: (groupDis g).map R.FIO_DI_STATUS)) := by
  set s1 := s.dp (R.FIO_GRP_CFG g) F.FIO_GRP_CFG_TYPE (F.FIO_GRP_CFG_TYPE.get v) with hs1
  have hex : exec (.fieldConfigWrite (.grp g) v) s = settled (each (groupDis g) diUnknown s1) :=
    congrArg settled ((if_neg ht).trans (if_neg (by rw [hsafe]; decide)))
  have hd : isDev (R.FIO_GRP_CFG g) = true := isDev_of_lt (by have := g.isLt; simp only [R.FIO_GRP_CFG]; omega)
  have h1 : Leaves .a s s1 [R.FIO_GRP_CFG g] := ((Keeps.refl _ _ _).dp _ _ _ (by simp) hd).leaves
  have h2 : Leaves .a s1 (each (groupDis g) diUnknown s1) ((groupDis g).map R.FIO_DI_STATUS) :=
    Leaves.each (fun k hk s => (leaves_diUnknown (mem_groupDis hk) s).mono (by simpa using ⟨k, hk, rfl⟩)) s1
  have hl := ((h1.mono (ls := R.FIO_GRP_CFG g :: (groupDis g).map R.FIO_DI_STATUS) (by simp)).trans
    (h2.mono fun _ h => List.mem_cons_of_mem _ h)).andKeeps (Keeps.refl _ _ _).recheck
  refine does_of_exec hex ⟨?_, fun k hk => ?_, hl⟩
  rotate_left
  · simp only [State.dg_belRecheck]
    exact reportsUnknown_each (groupDis g) s1 k hk
  rw [State.dg_belRecheck]
  have hg : R.FIO_GRP_CFG g ∉ (groupDis g).map R.FIO_DI_STATUS := by
    simp only [List.mem_map, not_exists, not_and]
    exact fun k _ h => grpCfg_ne_diStatus g k h.symm
  exact (h2.dg _ hg).trans (State.dg_dp_same _ _ (by decide) (F.FIO_GRP_CFG_TYPE.get_lt v))

/-- A refused command of FIELD: the reason, the flag, and nothing else (R445). -/
theorem does_of_fioRefuse {c : Instr} {code : Nat} {s : State} (h : exec c s = settled (fioRefuse code s)) (hc : code < 16) :
    Does c s (fun t => t.dg R.FIO_STATUS F.FIO_STATUS_REFUSE = code ∧ t.flagged .a bFIO 8
      ∧ Keeps .a s t (R.FIO_STATUS :: flagSlots bFIO 8)) :=
  does_of_refuse (e := 183) h (by decide) hc (by decide) (by decide) (by decide)

/-- The type of a group with an input of the safety parameters is not the host's (R432). -/
theorem does_groupWrite_of_safety {g : Fin 4} {v : Word} {s : State}
    (ht : F.FIO_GRP_CFG_TYPE.get v ≠ s.dg (R.FIO_GRP_CFG g) F.FIO_GRP_CFG_TYPE)
    (hsafe : (groupDis g).any (fun k => safetyDi k s) = true) : Does (.fieldConfigWrite (.grp g) v) s (fun t =>
      t.dg R.FIO_STATUS F.FIO_STATUS_REFUSE = 1 ∧ t.flagged .a bFIO 8 ∧ Keeps .a s t (R.FIO_STATUS :: flagSlots bFIO 8)) :=
  does_of_fioRefuse (congrArg settled ((if_neg ht).trans (if_pos hsafe))) (by decide)

/-- A register map without some keys reads their default, and the others as before. -/
theorem sGet_filter {α : Type} (d : Nat → α) (p : Nat → Bool) (k : Nat) : ∀ m : List (Nat × α),
    sGet d (m.filter (fun e => p e.1)) k = if p k then sGet d m k else d k
  | [] => by simp [sGet]
  | e :: m => by
    have ih := sGet_filter d p k m
    by_cases hk : e.1 = k
    · subst hk
      cases hp : p e.1 <;> simp_all [sGet]
    · cases hp : p e.1 <;> simp_all [sGet]

/-- What a reset of FIELD, and the safety parameters after it, leave: both stores, and every register but FIELD's own. -/
def OutsideField (s t : State) : Prop := SameStores s t ∧ ∀ p k, isFio k = false → t.rd p k = s.rd p k

theorem OutsideField.trans {s t u : State} (h1 : OutsideField s t) (h2 : OutsideField t u) : OutsideField s u :=
  ⟨h1.1.trans h2.1, fun p k h => (h2.2 p k h).trans (h1.2 p k h)⟩

theorem OutsideField.of_leaves {s t : State} {ks : List Nat} (h : Leaves .a s t ks) (hks : ∀ k ∈ ks, isFio k = true) :
    OutsideField s t := ⟨h.1, fun p k hk => h.2 p k (.inl fun hm => by simp [hks k hm] at hk)⟩

theorem outsideField_dp {s : State} {k : Nat} (f : Fld) (n : Nat) (hk : isFio k = true) (hd : isDev k = true) :
    OutsideField s (s.dp k f n) :=
  .of_leaves (ks := [k]) ((Keeps.refl _ _ _).dp _ _ _ (by simp) hd).leaves (by simpa using hk)

theorem isFio_iff (k : Nat) : isFio k = true ↔ R.FIO_CFG ≤ k ∧ k < R.FIO_CFG + 0x20000 := by simp [isFio]

theorem isFio_diStatus {k : Nat} (hk : k < 32) : isFio (R.FIO_DI_STATUS k) = true :=
  (isFio_iff _).2 (by simp only [R.FIO_CFG, R.FIO_DI_STATUS]; omega)

theorem outsideField_diUnknown {k : Nat} (hk : k < 32) (s : State) : OutsideField s (diUnknown k s) :=
  .of_leaves (leaves_diUnknown hk s) (by simpa using isFio_diStatus hk)

/-- FIELD as it comes out of reset: every input UNKNOWN, every output off, nothing to permit and nothing to tell (R431). -/
structure FieldAtRest (s : State) : Prop where
  unknown : ∀ k : Fin 32, s.dg (R.FIO_DI_STATUS k) F.FIO_DI_STATUS_UNKNOWN = 1
  off : ∀ k : Fin 16, s.dg (R.FIO_DO_STATUS k) F.FIO_DO_STATUS_OUT = 0
  ssa : s.fio.ssa = false
  fifo : s.fio.fifo = []

/-- A field of a register that is no output's status, and is not UNKNOWN of an input, can be written. -/
theorem FieldAtRest.dp {s : State} (h : FieldAtRest s) {k : Nat} {f : Fld} (n : Nat) (hf : f.ok)
    (hi : f.hi < F.FIO_DI_STATUS_UNKNOWN.lo ∨ ∀ j : Fin 32, R.FIO_DI_STATUS j ≠ k) (ho : ∀ j : Fin 16, R.FIO_DO_STATUS j ≠ k) :
    FieldAtRest (s.dp k f n) := by
  refine ⟨fun j => ?_, fun j => (State.dg_dp_ne _ _ _ _ (ho j)).trans (h.off j), by simpa using h.ssa, by simpa using h.fifo⟩
  by_cases hk : R.FIO_DI_STATUS j = k
  · subst hk
    exact (State.dg_dp_field _ _ _ hf (.inr (hi.resolve_right fun h => h j rfl))).trans (h.unknown j)
  · exact (State.dg_dp_ne _ _ _ _ hk).trans (h.unknown j)

theorem doStatus_ne_diStatus (j : Fin 16) {k : Nat} (hk : k < 32) : R.FIO_DO_STATUS j ≠ R.FIO_DI_STATUS k := by
  simp only [R.FIO_DO_STATUS, R.FIO_DI_STATUS]
  omega

theorem dg_doStatus_diUnknown (j : Fin 16) {k : Nat} (hk : k < 32) (f : Fld) (s : State) :
    (diUnknown k s).dg (R.FIO_DO_STATUS j) f = s.dg (R.FIO_DO_STATUS j) f :=
  (leaves_diUnknown hk s).dg f (by simpa using doStatus_ne_diStatus j hk)

theorem fio_diUnknown (k : Nat) (s : State) : (diUnknown k s).fio = { s.fio with dis := (diUnknown k s).fio.dis } := by
  have h : ((s.dp (R.FIO_DI_STATUS k) F.FIO_DI_STATUS_UNKNOWN 1).dp (R.FIO_DI_STATUS k) F.FIO_DI_STATUS_LEVEL 0).fio = s.fio := by simp
  rw [diUnknown, setDi, h]

theorem FieldAtRest.diUnknown {s : State} (h : FieldAtRest s) {k : Nat} (hk : k < 32) : FieldAtRest (diUnknown k s) := by
  refine ⟨fun j => ?_, fun j => (dg_doStatus_diUnknown j hk _ s).trans (h.off j), ?_, ?_⟩
  · by_cases hj : j = k
    · rw [hj]; exact (reportsUnknown_diUnknown k s).1
    · exact (dg_diUnknown_ne hj _ s).trans (h.unknown j)
  · rw [fio_diUnknown]; exact h.ssa
  · rw [fio_diUnknown]; exact h.fifo

/-- The registers of FIELD at their reset values, with its state behind them (R508). -/
def fieldCleared (s : State) : State := { s with dev := s.dev.filter (fun e => !isFio e.1), fio := FioSt.initial }

theorem rd_fieldCleared_of_fio {k : Nat} (hk : isFio k = true) (hd : isDev k = true) (p : Plane) (s : State) :
    (fieldCleared s).rd p k = regReset k := by
  simp only [fieldCleared, State.rd, hd, if_true, sGet_filter regReset (fun k => !isFio k), hk, Bool.not_true, Bool.false_eq_true, if_false]

theorem outsideField_fieldCleared (s : State) : OutsideField s (fieldCleared s) := by
  refine ⟨fun p a => by cases p <;> rfl, fun p k hk => ?_⟩
  unfold State.rd
  cases hd : isDev k
  · cases p <;> rfl
  · simp only [fieldCleared, if_true, sGet_filter regReset (fun k => !isFio k), hk, Bool.not_false]

/-- A channel of the separation monitor replaced changes no register and no store word. -/
theorem leaves_setSsm (s : State) (ch : SsmChan) (q r : Plane) (x : SsmSt) (ks : List Nat) : Leaves r s (s.setSsm ch q x) ks := by
  cases ch
  · exact ⟨fun p a => by cases q <;> cases p <;> rfl, fun p k _ => s.rd_setPlane q p _ k rfl rfl⟩
  · exact .of_planes _ _ rfl rfl rfl

/-- The state of a reset Field die before its inputs report UNKNOWN. -/
def fieldDead (s : State) : State :=
  let s1 := fieldCleared s
  let s2 : State := { s1 with ssm2 := { s1.ssm2 with fault := false } }
  s2.setSsm .one (ssmPlane s) { s2.ssm .one (ssmPlane s) with fault := false }

theorem fieldReset_eq (s : State) : fieldReset s = each (List.range 32) diUnknown (fieldDead s) := rfl

theorem leaves_fieldDead (s : State) (ks : List Nat) : Leaves .a (fieldCleared s) (fieldDead s) ks :=
  (Leaves.of_planes _ _ rfl rfl rfl).trans (leaves_setSsm _ _ _ _ _ _)

theorem fio_fieldDead (s : State) : (fieldDead s).fio = FioSt.initial := by
  unfold fieldDead
  dsimp only [State.setSsm, State.setRep]
  generalize ssmPlane s = q
  cases q <;> rfl

theorem dg_doStatus_fieldDead (k : Fin 16) (s : State) : (fieldDead s).dg (R.FIO_DO_STATUS k) F.FIO_DO_STATUS_OUT = 0 := by
  have hreset : ∀ k : Fin 16, F.FIO_DO_STATUS_OUT.get (regReset (R.FIO_DO_STATUS k)) = 0 := by decide
  have hk := k.isLt
  have hf : isFio (R.FIO_DO_STATUS k) = true := (isFio_iff _).2 (by simp only [R.FIO_CFG, R.FIO_DO_STATUS]; omega)
  have hd : isDev (R.FIO_DO_STATUS k) = true := isDev_of_lt (by simp only [R.FIO_DO_STATUS]; omega)
  rw [(leaves_fieldDead s []).dg _ (by simp), State.dg, State.get, rd_fieldCleared_of_fio hf hd]
  exact hreset k

theorem dg_doStatus_each_diUnknown (j : Fin 16) (s : State) {n : Nat} (hn : n ≤ 32) (f : Fld) :
    (each (List.range n) diUnknown s).dg (R.FIO_DO_STATUS j) f = s.dg (R.FIO_DO_STATUS j) f :=
  each_keeps (P := fun t => t.dg (R.FIO_DO_STATUS j) f = s.dg (R.FIO_DO_STATUS j) f)
    (fun k hk t h => (dg_doStatus_diUnknown j (by rw [List.mem_range] at hk; omega) f t).trans h) rfl

theorem fieldAtRest_fieldReset (s : State) : FieldAtRest (fieldReset s) := by
  rw [fieldReset_eq]
  have hfio : (each (List.range 32) diUnknown (fieldDead s)).fio.ssa = false ∧ (each (List.range 32) diUnknown (fieldDead s)).fio.fifo = [] :=
    each_keeps (P := fun t : State => t.fio.ssa = false ∧ t.fio.fifo = []) (fun k _ t h => by rw [fio_diUnknown]; exact h)
      ⟨congrArg FioSt.ssa (fio_fieldDead s), congrArg FioSt.fifo (fio_fieldDead s)⟩
  exact ⟨fun k => (reportsUnknown_each (List.range 32) (fieldDead s) k (List.mem_range.2 k.isLt)).1,
    fun k => (dg_doStatus_each_diUnknown k _ (le_refl 32) _).trans (dg_doStatus_fieldDead k s), hfio.1, hfio.2⟩

theorem outsideField_fieldReset (s : State) : OutsideField s (fieldReset s) :=
  each_keeps (P := OutsideField s) (fun k hk t h => h.trans (outsideField_diUnknown (List.mem_range.1 hk) t))
    ((outsideField_fieldCleared s).trans (.of_leaves (leaves_fieldDead s []) (by simp)))

theorem tab_fieldDead (s : State) : (fieldDead s).tab = s.tab := by
  unfold fieldDead
  dsimp only [State.setSsm, State.setRep]
  generalize ssmPlane s = q
  cases q <;> rfl

theorem tab_diUnknown (k : Nat) (s : State) : (diUnknown k s).tab = s.tab := by simp [diUnknown, setDi]

theorem tab_fieldReset (s : State) : (fieldReset s).tab = s.tab :=
  each_keeps (P := fun t : State => t.tab = s.tab) (s := fieldDead s) (fun k _ t h => (tab_diUnknown k t).trans h) (tab_fieldDead s)

/-- What the safety parameters do to one input (R432). -/
def safetyInput (e : Nat × Nat × Bool) (s : State) : State :=
  let r := R.FIO_DI_CFG e.1
  diUnknown e.1 (((s.dp r F.FIO_DI_CFG_DEB e.2.1).dp r F.FIO_DI_CFG_INV (b2n e.2.2)).dp (R.FIO_DI_STATUS e.1) F.FIO_DI_STATUS_SAFETY 1)

/-- What they do to one group. -/
def safetyGroup (e : Nat × Bool) (s : State) : State := s.dp (R.FIO_GRP_CFG e.1) F.FIO_GRP_CFG_TYPE (b2n e.2)

theorem fieldSafety_eq (t : SafetyTab) (s : State) : fieldSafety t s = each t.inputs safetyInput (each t.types safetyGroup s) := rfl

theorem isFio_diCfg {k : Nat} (hk : k < 32) : isFio (R.FIO_DI_CFG k) = true :=
  (isFio_iff _).2 (by simp only [R.FIO_CFG, R.FIO_DI_CFG]; omega)

theorem isFio_grpCfg {g : Nat} (hg : g < 4) : isFio (R.FIO_GRP_CFG g) = true :=
  (isFio_iff _).2 (by simp only [R.FIO_CFG, R.FIO_GRP_CFG]; omega)

theorem isDev_of_isFio {k : Nat} (h : isFio k = true) : isDev k = true := by
  have := ((isFio_iff k).1 h).2
  exact isDev_of_lt (by simp only [R.FIO_CFG] at this; omega)

theorem diStatus_ne_diCfg (j k : Nat) : R.FIO_DI_STATUS j ≠ R.FIO_DI_CFG k := by
  simp only [R.FIO_DI_STATUS, R.FIO_DI_CFG]
  omega

theorem doStatus_ne_diCfg (j : Fin 16) (k : Nat) : R.FIO_DO_STATUS j ≠ R.FIO_DI_CFG k := by
  simp only [R.FIO_DO_STATUS, R.FIO_DI_CFG]
  omega

theorem FieldAtRest.safetyGroup {s : State} (h : FieldAtRest s) {e : Nat × Bool} (he : e.1 < 4) : FieldAtRest (safetyGroup e s) :=
  h.dp _ (by decide) (.inr fun j hj => grpCfg_ne_diStatus ⟨e.1, he⟩ j hj.symm)
    (fun j => by simp only [R.FIO_DO_STATUS, R.FIO_GRP_CFG]; omega)

theorem FieldAtRest.safetyInput {s : State} (h : FieldAtRest s) {e : Nat × Nat × Bool} (he : e.1 < 32) :
    FieldAtRest (safetyInput e s) := by
  have hcfg : ∀ {u : State} {f : Fld} (n : Nat), f.ok → FieldAtRest u → FieldAtRest (u.dp (R.FIO_DI_CFG e.1) f n) := fun n hf hu =>
    hu.dp n hf (.inr fun j => diStatus_ne_diCfg j _) fun j => doStatus_ne_diCfg j _
  exact ((hcfg _ (by decide) (hcfg _ (by decide) h)).dp _ (by decide) (.inl (by decide)) fun j => doStatus_ne_diStatus j he).diUnknown he

theorem outsideField_safetyGroup {e : Nat × Bool} (he : e.1 < 4) (s : State) : OutsideField s (safetyGroup e s) :=
  outsideField_dp _ _ (isFio_grpCfg he) (isDev_of_isFio (isFio_grpCfg he))

theorem outsideField_safetyInput {e : Nat × Nat × Bool} (he : e.1 < 32) (s : State) : OutsideField s (safetyInput e s) :=
  have hc := isFio_diCfg he
  have hs := isFio_diStatus he
  (((outsideField_dp _ _ hc (isDev_of_isFio hc)).trans (outsideField_dp _ _ hc (isDev_of_isFio hc))).trans
    (outsideField_dp _ _ hs (isDev_of_isFio hs))).trans (outsideField_diUnknown he _)

/-- An input of the safety parameters stays marked while others are. -/
theorem dg_safety_safetyInput (e : Nat × Nat × Bool) (j : Nat) (s : State) :
    (safetyInput e s).dg (R.FIO_DI_STATUS j) F.FIO_DI_STATUS_SAFETY
      = if j = e.1 then 1 else s.dg (R.FIO_DI_STATUS j) F.FIO_DI_STATUS_SAFETY := by
  have hcfg : ∀ (u : State) (f : Fld) (n : Nat), (u.dp (R.FIO_DI_CFG e.1) f n).dg (R.FIO_DI_STATUS j) F.FIO_DI_STATUS_SAFETY
      = u.dg (R.FIO_DI_STATUS j) F.FIO_DI_STATUS_SAFETY := fun u f n => State.dg_dp_ne _ _ _ _ (diStatus_ne_diCfg j _)
  by_cases h : j = e.1
  · subst h
    rw [if_pos rfl]
    exact ((State.dg_dp_field _ _ _ (by decide) (by decide)).trans (State.dg_dp_field _ _ _ (by decide) (by decide))).trans
      (State.dg_dp_same _ _ (by decide) (by decide))
  · rw [if_neg h]
    exact (((dg_diUnknown_ne h _ _).trans (State.dg_dp_ne _ _ _ _ (diStatus_inj.not.2 h))).trans (hcfg _ _ _)).trans (hcfg _ _ _)

/-- Bellows' look at the domains afterwards changes nothing of FIELD. -/
theorem FieldAtRest.recheck {s : State} (h : FieldAtRest s) : FieldAtRest (belRecheck s) := by
  have hfio : (belRecheck s).fio = s.fio := (Keeps.refl .a s []).recheck.fio
  exact ⟨fun k => (State.dg_belRecheck _ _ _).trans (h.unknown k), fun k => (State.dg_belRecheck _ _ _).trans (h.off k),
    (congrArg FioSt.ssa hfio).trans h.ssa, (congrArg FioSt.fifo hfio).trans h.fifo⟩

theorem OutsideField.recheck {s t : State} (h : OutsideField s t) : OutsideField s (belRecheck t) :=
  h.trans (.of_leaves (Keeps.refl _ _ []).recheck.leaves (by simp))

theorem exec_fieldPowerUp (s : State) : exec .fieldPowerUp s = execFieldPowerUp s := rfl

/-- FIELD comes out of reset at power-up, and has no safety parameters yet (R431, R432). -/
theorem does_fieldPowerUp_of_none {s : State} (h : s.tab.safety = none) : Does .fieldPowerUp s (fun t =>
    (∀ k : Fin 32, t.dg (R.FIO_DI_STATUS k) F.FIO_DI_STATUS_UNKNOWN = 1) ∧ (∀ k : Fin 16, t.dg (R.FIO_DO_STATUS k) F.FIO_DO_STATUS_OUT = 0)
    ∧ t.fio.ssa = false ∧ t.fio.fifo = [] ∧ SameStores s t ∧ ∀ p k, isFio k = false → t.rd p k = s.rd p k) := by
  have hex : exec .fieldPowerUp s = settled (fieldReset s) := by
    simp only [exec_fieldPowerUp, execFieldPowerUp, tab_fieldReset, h]
  have hr := (fieldAtRest_fieldReset s).recheck
  have ho := (outsideField_fieldReset s).recheck
  exact does_of_exec hex ⟨hr.unknown, hr.off, hr.ssa, hr.fifo, ho.1, ho.2⟩

/-- Its safety parameters mark their inputs, and leave it at rest (R432). -/
theorem does_fieldPowerUp_of_some {s : State} {tab : SafetyTab} (h : s.tab.safety = some tab) (hi : ∀ e ∈ tab.inputs, e.1 < 32)
    (ht : ∀ e ∈ tab.types, e.1 < 4) : Does .fieldPowerUp s (fun t =>
    (∀ k : Fin 32, t.dg (R.FIO_DI_STATUS k) F.FIO_DI_STATUS_UNKNOWN = 1)
    ∧ (∀ e ∈ tab.inputs, t.dg (R.FIO_DI_STATUS e.1) F.FIO_DI_STATUS_SAFETY = 1)
    ∧ (∀ k : Fin 16, t.dg (R.FIO_DO_STATUS k) F.FIO_DO_STATUS_OUT = 0)
    ∧ t.fio.ssa = false ∧ t.fio.fifo = [] ∧ SameStores s t ∧ ∀ p k, isFio k = false → t.rd p k = s.rd p k) := by
  have hex : exec .fieldPowerUp s = settled (each tab.inputs safetyInput (each tab.types safetyGroup (fieldReset s))) := by
    rw [← fieldSafety_eq]
    simp only [exec_fieldPowerUp, execFieldPowerUp, tab_fieldReset, h]
  have hk := each_keeps (P := fun t => FieldAtRest t ∧ OutsideField s t)
    (fun e he t hh => ⟨hh.1.safetyGroup (ht e he), hh.2.trans (outsideField_safetyGroup (ht e he) t)⟩)
    (s := fieldReset s) ⟨fieldAtRest_fieldReset s, outsideField_fieldReset s⟩
  have hk2 := each_keeps (P := fun t => FieldAtRest t ∧ OutsideField s t)
    (fun e he t hh => ⟨hh.1.safetyInput (hi e he), hh.2.trans (outsideField_safetyInput (hi e he) t)⟩) hk
  have hm := each_makes (Q := fun e t => t.dg (R.FIO_DI_STATUS e.1) F.FIO_DI_STATUS_SAFETY = 1) (l := tab.inputs) (f := safetyInput)
    (each tab.types safetyGroup (fieldReset s)) (fun e _ t => (dg_safety_safetyInput e _ t).trans (if_pos rfl))
    (fun a _ b _ t hQ => by rw [dg_safety_safetyInput a _ t, hQ, ite_self])
  have hr := hk2.1.recheck
  have ho := hk2.2.recheck
  exact does_of_exec hex ⟨hr.unknown, fun e he => (State.dg_belRecheck _ _ _).trans (hm e he), hr.off, hr.ssa, hr.fifo, ho.1, ho.2⟩

/-- Settles O29, command by command: an edge, its debouncing or settling, the drain of the Picots, a type and the power-up. -/
theorem inputsAreDebounced : Obligations.InputsAreDebounced := by
  unfold Obligations.InputsAreDebounced
  intro s
  exact ⟨fun k level at' hl => does_diRawEdge k level at' s hl, fun k => does_debounceExpiry k s, fun _ h => does_debounceExpiry_of_stable h,
    fun _ h => does_diSettle_of_known h, fun _ hu hc => does_diSettle hu hc, fun w rest hf hw hlost => does_diPicotDrain hf hw hlost,
    fun h => does_diPicotDrain_of_none h, fun g v ht hs => does_groupWrite ht hs, fun g v ht hs => does_groupWrite_of_safety ht hs,
    fun h => does_fieldPowerUp_of_none h, fun tab h hi ht => does_fieldPowerUp_of_some h hi ht⟩

end Sys2Proof.Machine

/-! ## The Cell Bus: polls and responses (R308, R315 to R333) -/

namespace Sys2Proof.Machine

/-! ### Channels, their registers and their flags -/

theorem State.bus_setBus {s : State} {c : Nat} (x : BusSt) (h : c < s.cbus.chs.length) : (s.setBus c x).bus c = x := by
  simp [State.bus, State.setBus, nth, h]

theorem leaves_setBus (c : Nat) (x : BusSt) (s : State) (ks : List Nat) : Leaves .a s (s.setBus c x) ks := .of_planes _ _ rfl rfl rfl

/-- The registers of a channel that a flag of its bank changes are its flags and their counters alone. -/
theorem stnStatus_not_mem_flagSlots (c : Fin 2) (k j : Nat) (hj : j < 16) : R.CBUS_STN_STATUS c k ∉ flagSlots (bBUS c) j := by
  simp only [flagSlots, bBUS, R.CBUS_STN_STATUS, R.CBUS_CH_FLAGS, R.CBUS_CH_FLAG_CNT0, R.EVM_FLAGS, R.EVM_FLAG_CNT, List.mem_cons,
    List.not_mem_nil, or_false]
  omega

theorem busCounts_not_mem_flagSlots (c : Fin 2) (j : Nat) (hj : j < 16) :
    R.CBUS_CH_CNT_MISS c ∉ flagSlots (bBUS c) j ∧ R.CBUS_CH_CNT_CRC c ∉ flagSlots (bBUS c) j := by
  simp only [flagSlots, bBUS, R.CBUS_CH_CNT_MISS, R.CBUS_CH_CNT_CRC, R.CBUS_CH_FLAGS, R.CBUS_CH_FLAG_CNT0, R.EVM_FLAGS, R.EVM_FLAG_CNT,
    List.mem_cons, List.not_mem_nil, or_false]
  omega

theorem busFlags_ne_cnt (c : Fin 2) (j : Nat) : (bBUS c).flags ≠ (bBUS c).cnt + j / 4 := by
  simp only [bBUS, R.CBUS_CH_FLAGS, R.CBUS_CH_FLAG_CNT0]
  omega

theorem isDev_stnStatus (c : Fin 2) {k : Nat} (hk : k < 64) : isDev (R.CBUS_STN_STATUS c k) = true :=
  isDev_of_lt (by simp only [R.CBUS_STN_STATUS]; omega)

theorem keeps_raiseBus (c : Fin 2) (j : Nat) (s : State) : Keeps .a s (raiseBus c j s) (flagSlots (bBUS c) j) :=
  (Keeps.refl _ _ _).raise _ _ _ fun _ h => h

theorem flagged_raiseBus (c : Fin 2) {j : Nat} (hj : j < 36) (s : State) : (raiseBus c j s).flagged .a (bBUS c) j :=
  State.flagged_raise_self _ _ _ _ hj (busFlags_ne_cnt c j)

theorem flagged_raiseBus_of (c : Fin 2) {i j : Nat} (hj : j < 36) {s : State} (h : s.flagged .a (bBUS c) i) :
    (raiseBus c j s).flagged .a (bBUS c) i := State.flagged_raise_of_flagged h _ hj (busFlags_ne_cnt c j)

theorem bus_of_cbus {s t : State} (h : t.cbus = s.cbus) (c : Nat) : t.bus c = s.bus c := by unfold State.bus; rw [h]

/-! ### Polls (R315, R319, R325, R328) -/

/-- The payload of a poll (R315, R328). -/
def pollWords (c : Nat) (y : Slot) (mail : List Word) (s : State) : List Word :=
  if y.kind == 1 then mail.take y.tx else if !(y.kind == 1) && !busFresh s then [] else gatherTx c (actBank c s) y s

/-- The wait for the response to a poll that departs at `d` (R319, R320). -/
def pollWait (c k d n : Nat) (y : Slot) (s : State) : SlotWait :=
  let a := arrivalOf c d n y.station s
  ⟨k, y.station, a, a - guardPs c s, a + lMax c y s + guardPs c s, y.rx, y.srx, y.ofs, y.kind == 1, false⟩

/-- The count and the flags of a NULL poll (R328). -/
def pollNoted (c : Nat) (null : Bool) (s : State) : State :=
  if null then raiseCyc 6 (raiseBus c 12 (s.count .a (R.CBUS_CH_CNT_NULL c) F.CBUS_CH_CNT_MISS_COUNT 1)) else s

/-- What a poll leaves of its channel, by its departure. -/
def pollBus (c k : Nat) (dev : Int) (y : Slot) (d : Nat) (words : List Word) (x : BusSt) (s : State) : BusSt :=
  let z := { x with waits := x.waits ++ [pollWait c k d words.length y s] }
  let fr := busFrame c 2 (b2n (!(y.kind == 1) && !busFresh s) + 2 * b2n (y.kind == 1) + 4 * b2n (x.mutes.contains y.station)) y.station k words s
  if dev < 0 then z
  else if 40000 < dev then { z with poll := cutFrame c (dev.toNat - 40000) fr s }
  else { z with mutes := x.mutes.filter (· != y.station), poll := fr }

theorem exec_pollDeparture {c : Fin 2} {k : Fin 256} {s : State} (dev : Int) (mail : List Word)
    (h : polled c (busSlot c (actBank c s) k s) s = true) :
    let y := busSlot c (actBank c s) k s
    let d := ((s.ct0Hts + y.time : Nat) + dev).toNat
    let s2 := pollNoted c (!(y.kind == 1) && !busFresh s) (s.toTime d)
    let s3 := if dev < 0 ∨ 40000 < dev then raiseBus c 11 s2 else s2
    exec (.pollDeparture c k dev mail) s = settled (s3.setBus c (pollBus c k dev y d (pollWords c y mail s) (s3.bus c) s)) :=
  congrArg settled (if_pos h)

theorem keeps_pollNoted (c : Fin 2) (null : Bool) (s : State) :
    Keeps .a s (pollNoted c null s) (R.CBUS_CH_CNT_NULL c :: flagSlots (bBUS c) 12 ++ flagSlots bCYC 6) := by
  unfold pollNoted
  split
  · exact (((Keeps.refl _ _ _).count _ _ _ (by simp)).raise _ _ _ fun _ h => by simp [h]).raise _ _ _ fun _ h => by simp [h]
  · exact .refl _ _ _

theorem busFlags_not_mem_flagSlots_cyc (c : Fin 2) : R.CBUS_CH_FLAGS c ∉ flagSlots bCYC 6 := by
  simp only [flagSlots, bCYC, R.CBUS_CH_FLAGS, R.TIM_CYC_FLAGS, R.TIM_CYC_FLAG_CNT0, R.EVM_FLAGS, R.EVM_FLAG_CNT, List.mem_cons,
    List.not_mem_nil, or_false]
  omega

/-- A flag of the sequencer that is raised is set. -/
theorem get_raiseCyc {j : Nat} (hj : j < 32) (s : State) : (raiseCyc j s).get .a R.TIM_CYC_FLAGS ⟨j, j⟩ = 1 :=
  State.flagged_raise_self _ .a bCYC 94 (by omega) (by simp only [bCYC, R.TIM_CYC_FLAGS, R.TIM_CYC_FLAG_CNT0]; omega)

theorem keeps_raiseCyc (j : Nat) (s : State) : Keeps .a s (raiseCyc j s) (flagSlots bCYC j) := (Keeps.refl _ _ _).raise _ _ _ fun _ h => h

/-- A NULL poll is reported on its channel and to the sequencer (R328). -/
theorem flagged_pollNoted (c : Fin 2) (s : State) :
    (pollNoted c true s).flagged .a (bBUS c) 12 ∧ (pollNoted c true s).get .a R.TIM_CYC_FLAGS ⟨6, 6⟩ = 1 := by
  rw [pollNoted, if_pos rfl]
  exact ⟨State.flagged_of_rd ((keeps_raiseCyc 6 _).2 .a _ (.inl (busFlags_not_mem_flagSlots_cyc c))) (flagged_raiseBus c (by decide) _),
    get_raiseCyc (by decide) _⟩

/-- What a channel keeps beyond its registers is replaced, at the end of a command. -/
theorem setBus_recheck {c : Fin 2} {s u : State} {ks : List Nat} (hc : s.cbus.chs.length = 2) (hl : Leaves .a s u ks)
    (hu : u.cbus = s.cbus) (x : BusSt) :
    let t := belRecheck (u.setBus c x)
    t.bus c = x ∧ t.now = u.now ∧ Leaves .a s t ks ∧ ∀ k, t.rd .a k = u.rd .a k := by
  have ha : Leaves .a u (belRecheck (u.setBus c x)) [] := (leaves_setBus _ _ _ _).andKeeps (Keeps.refl _ _ _).recheck
  exact ⟨(bus_of_cbus (Keeps.refl .a _ []).recheck.cbus c).trans (State.bus_setBus _ (by rw [hu, hc]; exact c.isLt)),
    (Keeps.refl .a (u.setBus c x) []).recheck.now, hl.trans (ha.mono (by simp)), fun k => ha.2 .a k (.inl (by simp))⟩

/-- What a poll leaves of its channel when it departs on time (R315, R325). -/
theorem pollBus_of_onTime (c k : Nat) {dev : Int} (h0 : 0 ≤ dev) (h4 : dev ≤ 40000) (y : Slot) (d : Nat) (words : List Word) (x : BusSt)
    (s : State) : pollBus c k dev y d words x s = { x with
      waits := x.waits ++ [pollWait c k d words.length y s]
      mutes := x.mutes.filter (· != y.station)
      poll := busFrame c 2 (b2n (!(y.kind == 1) && !busFresh s) + 2 * b2n (y.kind == 1) + 4 * b2n (x.mutes.contains y.station))
        y.station k words s } := by
  rw [pollBus, if_neg (by omega), if_neg (by omega)]

/-- What it leaves of its channel when it departs early or late: the station stays muted, and an early poll keeps its frame back. -/
theorem pollBus_of_off (c k : Nat) {dev : Int} (hd : dev < 0 ∨ 40000 < dev) (y : Slot) (d : Nat) (words : List Word) (x : BusSt)
    (s : State) : (pollBus c k dev y d words x s).mutes = x.mutes ∧ (pollBus c k dev y d words x s).waits.length = x.waits.length + 1
      ∧ (dev < 0 → (pollBus c k dev y d words x s).poll = x.poll) := by
  by_cases h : dev < 0
  · simp [pollBus, h]
  · simp [pollBus, h, hd.resolve_left h]

/-- A poll on time: its frame leaves, its slot waits, and a NULL one is reported (R315, R319, R328). -/
theorem does_pollDeparture {c : Fin 2} {s : State} (hc : s.cbus.chs.length = 2) {k : Fin 256} {dev : Int} (mail : List Word)
    (hp : polled c (busSlot c (actBank c s) k s) s = true) (h0 : 0 ≤ dev) (h4 : dev ≤ 40000) :
    Does (.pollDeparture c k dev mail) s (fun t =>
      let x := s.bus c
      let y := busSlot c (actBank c s) k s
      let null := y.kind != 1 && !busFresh s
      let words := if y.kind = 1 then mail.take y.tx else if null then [] else gatherTx c (actBank c s) y s
      let d := s.ct0Hts + y.time + dev.toNat
      let a := arrivalOf c d words.length y.station s
      t.bus c = { x with
        waits := x.waits ++ [⟨k, y.station, a, a - guardPs c s, a + lMax c y s + guardPs c s, y.rx, y.srx, y.ofs, y.kind == 1, false⟩]
        mutes := x.mutes.filter (· != y.station)
        poll := busFrame c 2 (b2n null + 2 * b2n (y.kind == 1) + 4 * b2n (x.mutes.contains y.station)) y.station k words s }
      ∧ t.now = max s.now d ∧ SameStores s t
      ∧ if null then t.flagged .a (bBUS c) 12 ∧ t.get .a R.TIM_CYC_FLAGS ⟨6, 6⟩ = 1
          ∧ RegsKept .a s t (R.CBUS_CH_CNT_NULL c :: flagSlots (bBUS c) 12 ++ flagSlots bCYC 6)
        else RegsKept .a s t []) := by
  refine does_of_exec (exec_pollDeparture dev mail hp) ?_
  intro x y null words d a
  have hd : ((s.ct0Hts + y.time : Nat) + dev).toNat = d := by omega
  have hwords : pollWords c y mail s = words := by simp only [pollWords, beq_iff_eq]; rfl
  rw [if_neg (by omega), hd, pollBus_of_onTime _ _ h0 h4, hwords]
  have hk := keeps_pollNoted c null (s.toTime d)
  have hl := (leaves_toTime .a d s _).andKeeps hk
  obtain ⟨hbus, hnow, hleaves, hrd⟩ := setBus_recheck hc hl hk.cbus { s.bus c with
        waits := x.waits ++ [pollWait c k d words.length y s]
        mutes := x.mutes.filter (· != y.station)
        poll := busFrame c 2 (b2n null + 2 * b2n (y.kind == 1) + 4 * b2n (x.mutes.contains y.station)) y.station k words s }
  have hx : (pollNoted c null (s.toTime d)).bus c = s.bus c := bus_of_cbus hk.cbus c
  rw [show (!(y.kind == 1) && !busFresh s) = null from rfl, hx]
  refine ⟨hbus, hnow.trans hk.now, hleaves.1, ?_⟩
  cases hn : null with
  | false => exact (setBus_recheck hc (ks := []) (leaves_toTime .a d s []) rfl _).2.2.1.2
  | true =>
    rw [hn] at hrd hleaves
    obtain ⟨h12, h6⟩ := flagged_pollNoted c (s.toTime d)
    exact ⟨State.flagged_of_rd (hrd _) h12, (congrArg (Fld.get ⟨6, 6⟩) (hrd _)).trans h6, hleaves.2⟩

/-- A poll that departs early or late is reported, and the Mute cuts it (R325). -/
theorem does_pollDeparture_off {c : Fin 2} {s : State} (hc : s.cbus.chs.length = 2) {k : Fin 256} {dev : Int} (mail : List Word)
    (hp : polled c (busSlot c (actBank c s) k s) s = true) (hd : dev < 0 ∨ 40000 < dev) :
    Does (.pollDeparture c k dev mail) s (fun t => t.flagged .a (bBUS c) 11 ∧ (t.bus c).mutes = (s.bus c).mutes
      ∧ (t.bus c).waits.length = (s.bus c).waits.length + 1 ∧ (dev < 0 → (t.bus c).poll = (s.bus c).poll) ∧ SameStores s t) := by
  refine does_of_exec (exec_pollDeparture dev mail hp) ?_
  rw [if_pos hd]
  generalize busSlot c (actBank c s) k s = y
  generalize ((s.ct0Hts + y.time : Nat) + dev).toNat = d
  generalize (!(y.kind == 1) && !busFresh s) = null
  have hk2 := keeps_pollNoted c null (s.toTime d)
  have hk3 := keeps_raiseBus c 11 (pollNoted c null (s.toTime d))
  have hcb : (raiseBus c 11 (pollNoted c null (s.toTime d))).cbus = s.cbus := hk3.cbus.trans hk2.cbus
  have hl := ((leaves_toTime .a d s _).andKeeps (hk2.mono fun _ h => List.mem_append_right _ h)).andKeeps
      (hk3.mono fun _ h => List.mem_append_left _ h)
  have hflag := flagged_raiseBus c (j := 11) (by decide) (pollNoted c null (s.toTime d))
  obtain ⟨hbus, -, hleaves, hrd⟩ := setBus_recheck hc hl hcb (pollBus c k dev y d (pollWords c y mail s) (s.bus c) s)
  obtain ⟨hm, hw, hp⟩ := pollBus_of_off c k hd y d (pollWords c y mail s) (s.bus c) s
  rw [bus_of_cbus hcb, hbus]
  exact ⟨State.flagged_of_rd (hrd _) hflag, hm, hw, hp, hleaves.1⟩

theorem does_pollDeparture_of_none {c : Fin 2} {s : State} {k : Fin 256} (dev : Int) (mail : List Word)
    (hp : polled c (busSlot c (actBank c s) k s) s = false) :
    Does (.pollDeparture c k dev mail) s (fun t => Keeps .a s t []) := does_nothing _ _ (congrArg settled (if_neg (by simp [hp])))

end Sys2Proof.Machine

namespace Sys2Proof.Machine

/-! ### Responses (R308, R320, R326, R333) -/

/-- Of all that lies behind the registers, only what the channels of the Cell Bus keep has changed. -/
structure BusOnly (s t : State) (ks : List Nat) : Prop where
  leaves : Leaves .a s t ks
  inner : ∃ chs, chs.length = s.cbus.chs.length ∧ t.inner = ({ s with cbus := { s.cbus with chs := chs } } : State).inner

theorem BusOnly.refl (s : State) (ks : List Nat) : BusOnly s s ks := ⟨.refl _ _ _, s.cbus.chs, rfl, rfl⟩

theorem BusOnly.keeps {s t u : State} {ks : List Nat} (h : BusOnly s t ks) (hk : Keeps .a t u ks) : BusOnly s u ks := by
  obtain ⟨chs, hl, hi⟩ := h.inner
  exact ⟨h.leaves.andKeeps hk, chs, hl, hk.1.trans hi⟩

theorem BusOnly.chs {s t : State} {ks : List Nat} (h : BusOnly s t ks) : t.cbus.chs.length = s.cbus.chs.length := by
  obtain ⟨chs, hl, hi⟩ := h.inner
  exact (congrArg (fun u : State => u.cbus.chs.length) hi :).trans hl

theorem BusOnly.setBus {s t : State} {ks : List Nat} (h : BusOnly s t ks) (c : Nat) (x : BusSt) : BusOnly s (t.setBus c x) ks := by
  obtain ⟨chs, hl, hi⟩ := h.inner
  refine ⟨h.leaves.trans (leaves_setBus _ _ _ _), chs.set c x, by simpa using hl, ?_⟩
  show ({ t.inner with cbus := { t.inner.cbus with chs := t.inner.cbus.chs.set c x } } : State) = _
  rw [hi]
  rfl

theorem BusOnly.trans {s t u : State} {ks : List Nat} (h1 : BusOnly s t ks) (h2 : BusOnly t u ks) : BusOnly s u ks := by
  obtain ⟨chs, hl, hi⟩ := h1.inner
  obtain ⟨chs', hl', hi'⟩ := h2.inner
  refine ⟨h1.leaves.trans h2.leaves, chs', hl'.trans h1.chs, hi'.trans ?_⟩
  show ({ t.inner with cbus := { t.inner.cbus with chs := chs' } } : State) = _
  rw [hi]
  rfl

theorem BusOnly.mono {s t : State} {ks ls : List Nat} (h : BusOnly s t ks) (hs : ∀ k ∈ ks, k ∈ ls) : BusOnly s t ls :=
  ⟨h.leaves.mono hs, h.inner⟩

/-- What lies around the channels is as before. -/
theorem BusOnly.around {s t : State} {ks : List Nat} (h : BusOnly s t ks) : t.now = s.now ∧ t.n = s.n
    ∧ t.cbus.imgBase = s.cbus.imgBase ∧ (∀ l, t.linkUp l = s.linkUp l) ∧ (∀ q, t.ward q = s.ward q)
    ∧ (∀ q, (t.plane q).store = (s.plane q).store) := by
  obtain ⟨chs, -, hi⟩ := h.inner
  refine ⟨(congrArg State.now hi :), (congrArg State.n hi :), (congrArg (fun u : State => u.cbus.imgBase) hi :), fun l => ?_, fun q => ?_,
    fun q => ?_⟩
  · exact (congrArg (fun u : State => u.linkUp l) hi :)
  · cases q
    · exact (congrArg (fun u : State => u.red.wa) hi :)
    · exact (congrArg (fun u : State => u.red.wb) hi :)
  · cases q
    · exact (congrArg (fun u : State => u.pa.store) hi :)
    · exact (congrArg (fun u : State => u.pb.store) hi :)

/-- The flags of a channel that are set remain so. -/
def BusFlagsStay (c : Fin 2) (s t : State) : Prop := ∀ i, s.flagged .a (bBUS c) i → t.flagged .a (bBUS c) i

theorem BusFlagsStay.of_rd {c : Fin 2} {s t : State} (h : t.rd .a (R.CBUS_CH_FLAGS c) = s.rd .a (R.CBUS_CH_FLAGS c)) :
    BusFlagsStay c s t := fun _ hi => State.flagged_of_rd h hi

theorem BusFlagsStay.trans {c : Fin 2} {s t u : State} (h1 : BusFlagsStay c s t) (h2 : BusFlagsStay c t u) : BusFlagsStay c s u :=
  fun i h => h2 i (h1 i h)

theorem busFlagsStay_raiseBus (c : Fin 2) {j : Nat} (hj : j < 36) (s : State) : BusFlagsStay c s (raiseBus c j s) :=
  fun _ h => flagged_raiseBus_of c hj h

theorem stnStatus_ne_busFlags (c : Fin 2) (k : Nat) : R.CBUS_CH_FLAGS c ≠ R.CBUS_STN_STATUS c k := by
  simp only [R.CBUS_CH_FLAGS, R.CBUS_STN_STATUS]
  omega

theorem busFlagsStay_stn (c : Fin 2) (k : Nat) (f : Fld) (n : Nat) (s : State) : BusFlagsStay c s (s.dp (R.CBUS_STN_STATUS c k) f n) :=
  .of_rd (State.rd_wr_ne _ _ _ _ (stnStatus_ne_busFlags c k))

theorem busOnly_stn (c : Fin 2) {k : Nat} (hk : k < 64) (f : Fld) (n : Nat) (s : State) :
    BusOnly s (s.dp (R.CBUS_STN_STATUS c k) f n) [R.CBUS_STN_STATUS c k] :=
  (BusOnly.refl _ _).keeps ((Keeps.refl _ _ _).dp _ _ _ (by simp) (isDev_stnStatus c hk))

theorem busOnly_raiseBus (c : Fin 2) (j : Nat) (s : State) : BusOnly s (raiseBus c j s) (flagSlots (bBUS c) j) :=
  (BusOnly.refl _ _).keeps (keeps_raiseBus c j s)

theorem stnState_raiseBus (c : Fin 2) (k : Nat) {j : Nat} (hj : j < 16) (s : State) : stnState c k (raiseBus c j s) = stnState c k s :=
  (keeps_raiseBus c j s).dg _ (stnStatus_not_mem_flagSlots c k j hj)

/-- A station's state and its run of missed slots are fields of one register. -/
theorem dg_missRun_setStn (c k code : Nat) (s : State) : (setStn c k code s).dg (R.CBUS_STN_STATUS c k) F.CBUS_STN_STATUS_MISS_RUN
    = s.dg (R.CBUS_STN_STATUS c k) F.CBUS_STN_STATUS_MISS_RUN := State.dg_dp_field _ _ _ (by decide) (by decide)

theorem stnState_setStn (c k : Nat) {code : Nat} (h : code < 8) (s : State) : stnState c k (setStn c k code s) = code :=
  State.dg_dp_same _ _ (by decide) h

theorem stnState_missRun (c k n : Nat) (s : State) :
    stnState c k (s.dp (R.CBUS_STN_STATUS c k) F.CBUS_STN_STATUS_MISS_RUN n) = stnState c k s :=
  State.dg_dp_field _ _ _ (by decide) (by decide)

/-- A station's state with its change reported. -/
def setStnTold (c : Fin 2) (k code j : Nat) (s : State) : State := raiseBus c j (setStn c k code s)

theorem setStnTold_facts (c : Fin 2) {k code j : Nat} (hk : k < 64) (hcode : code < 8) (hj : j < 16) (s : State) :
    BusOnly s (setStnTold c k code j s) (R.CBUS_STN_STATUS c k :: flagSlots (bBUS c) j) ∧ BusFlagsStay c s (setStnTold c k code j s)
    ∧ stnState c k (setStnTold c k code j s) = code ∧ (setStnTold c k code j s).flagged .a (bBUS c) j
    ∧ (setStnTold c k code j s).dg (R.CBUS_STN_STATUS c k) F.CBUS_STN_STATUS_MISS_RUN
      = s.dg (R.CBUS_STN_STATUS c k) F.CBUS_STN_STATUS_MISS_RUN := by
  have hs : setStn c k code s = s.dp (R.CBUS_STN_STATUS c k) F.CBUS_STN_STATUS_STATE code := rfl
  refine ⟨?_, ?_, ?_, flagged_raiseBus c (by omega) _, ?_⟩
  · exact ((busOnly_stn c hk _ _ _).mono (by simp)).trans ((busOnly_raiseBus c j _).mono fun _ h => List.mem_cons_of_mem _ h)
  · exact (busFlagsStay_stn c k _ _ s).trans (busFlagsStay_raiseBus c (by omega) _)
  · exact (stnState_raiseBus c k hj _).trans (stnState_setStn _ _ hcode s)
  · exact ((keeps_raiseBus c j _).dg _ (stnStatus_not_mem_flagSlots c k j hj)).trans (dg_missRun_setStn c k code s)

/-- What a response or a missed slot changes of a station before its state follows. -/
def stnMarked (c k g m : Nat) (s : State) : State :=
  (s.setBus c { s.bus c with good := (s.bus c).good.set k g }).dp (R.CBUS_STN_STATUS c k) F.CBUS_STN_STATUS_MISS_RUN m

theorem stnMarked_facts (c : Fin 2) {k m : Nat} (hk : k < 64) (g : Nat) (hm : m < 32) (s : State) :
    BusOnly s (stnMarked c k g m s) [R.CBUS_STN_STATUS c k] ∧ BusFlagsStay c s (stnMarked c k g m s)
    ∧ stnState c k (stnMarked c k g m s) = stnState c k s
    ∧ (stnMarked c k g m s).dg (R.CBUS_STN_STATUS c k) F.CBUS_STN_STATUS_MISS_RUN = m := by
  refine ⟨((BusOnly.refl s _).setBus c _).trans (busOnly_stn c hk _ _ _), ?_, stnState_missRun c k m _, State.dg_dp_same _ _ (by decide) hm⟩
  exact (BusFlagsStay.of_rd ((leaves_setBus c _ s []).rd .a (by simp))).trans (busFlagsStay_stn c k _ _ _)

theorem stnGood_cases (c : Fin 2) (k : Nat) (cyclic : Bool) (s : State) :
    let u := stnMarked c k (nth (s.bus c).good k 0 + 1) 0 s
    (stnState c k s = 2 ∧ cyclic = true ∧ stnGood c k cyclic s = setStn c k 3 u)
    ∨ (¬ (stnState c k s = 2 ∧ cyclic = true) ∧ (stnGood c k cyclic s = setStnTold c k 3 5 u ∨ stnGood c k cyclic s = u)) := by
  unfold stnGood
  dsimp only
  split
  · exact .inl ⟨(‹_ ∧ _›).1, (‹_ ∧ _›).2, rfl⟩
  · refine .inr ⟨‹_›, ?_⟩
    split
    · exact .inl rfl
    · exact .inr rfl

/-- A station that has answered: its run of missed slots ends, and a CONFIGURED one becomes ACTIVE (R333). -/
theorem stnGood_facts (c : Fin 2) {k : Nat} (hk : k < 64) (cyclic : Bool) (s : State) :
    BusOnly s (stnGood c k cyclic s) (R.CBUS_STN_STATUS c k :: flagSlots (bBUS c) 5) ∧ BusFlagsStay c s (stnGood c k cyclic s)
    ∧ (stnGood c k cyclic s).dg (R.CBUS_STN_STATUS c k) F.CBUS_STN_STATUS_MISS_RUN = 0
    ∧ (stnState c k s = 2 → cyclic = true → stnState c k (stnGood c k cyclic s) = 3) := by
  obtain ⟨hb, hf, hst, hrun⟩ := stnMarked_facts c hk (nth (s.bus c).good k 0 + 1) (m := 0) (by decide) s
  have hb' := hb.mono (ls := R.CBUS_STN_STATUS c k :: flagSlots (bBUS c) 5) (by simp)
  have hcases := stnGood_cases c k cyclic s
  dsimp only at hcases
  generalize stnMarked c k (nth (s.bus c).good k 0 + 1) 0 s = u at *
  rcases hcases with ⟨h2, hc, h⟩ | ⟨hn, h | h⟩ <;> rw [h]
  · exact ⟨hb'.trans ((busOnly_stn c hk _ _ _).mono (by simp)), hf.trans (busFlagsStay_stn c k _ _ u),
      (dg_missRun_setStn _ _ _ _).trans hrun, fun _ _ => stnState_setStn _ _ (by decide) u⟩
  · obtain ⟨hb2, hf2, -, -, hrun2⟩ := setStnTold_facts c hk (code := 3) (j := 5) (by decide) (by decide) u
    exact ⟨hb'.trans hb2, hf.trans hf2, hrun2.trans hrun, fun h1 h2 => absurd ⟨h1, h2⟩ hn⟩
  · exact ⟨hb', hf, hrun, fun h1 h2 => absurd ⟨h1, h2⟩ hn⟩

/-- What a response's flags show of its station, and its timing (R319, R326, R328). -/
def answerNoted (c : Nat) (f : BusFrame) (margin : Bool) (s : State) : State :=
  let s2 := busIf margin c 8 (busIf (bitN f.flags.toNat 2) c 13 (busIf (bitN f.flags.toNat 3) c 10 s))
  if bitN f.flags.toNat 0 then s2.count .a (R.CBUS_CH_CNT_NOTREADY c) F.CBUS_CH_CNT_MISS_COUNT 1 else s2

theorem busIf_facts (p : Bool) (c : Fin 2) {j : Nat} (hj : j < 16) (s : State) : BusOnly s (busIf p c j s) (flagSlots (bBUS c) j)
    ∧ BusFlagsStay c s (busIf p c j s) ∧ (p = true → (busIf p c j s).flagged .a (bBUS c) j) := by
  cases p
  · exact ⟨.refl _ _, fun _ h => h, nofun⟩
  · exact ⟨busOnly_raiseBus c j s, busFlagsStay_raiseBus c (by omega) s, fun _ => flagged_raiseBus c (by omega) s⟩

/-- The registers of a channel that an accepted response may change. -/
def answerRegs (c k : Nat) : List Nat := [R.CBUS_STN_STATUS c k, R.CBUS_CH_CNT_NOTREADY c] ++ [5, 8, 10, 13].flatMap (flagSlots (bBUS c))

theorem mem_answerRegs_of_flag (c k : Nat) {j : Nat} (hj : j ∈ [5, 8, 10, 13]) : ∀ r ∈ flagSlots (bBUS c) j, r ∈ answerRegs c k :=
  fun _ hr => List.mem_append_right _ (List.mem_flatMap.2 ⟨j, hj, hr⟩)

theorem notReady_ne_busFlags (c : Fin 2) : R.CBUS_CH_FLAGS c ≠ R.CBUS_CH_CNT_NOTREADY c := by
  simp only [R.CBUS_CH_FLAGS, R.CBUS_CH_CNT_NOTREADY]
  omega

theorem stnStatus_not_mem_noted (c : Fin 2) (k : Nat) :
    R.CBUS_STN_STATUS c k ∉ R.CBUS_CH_CNT_NOTREADY c :: [8, 10, 13].flatMap (flagSlots (bBUS c)) := by
  have h : R.CBUS_STN_STATUS c k ≠ R.CBUS_CH_CNT_NOTREADY c := by simp only [R.CBUS_STN_STATUS, R.CBUS_CH_CNT_NOTREADY]; omega
  simp only [List.mem_cons, List.mem_flatMap, not_or, not_exists, not_and]
  refine ⟨h, fun j hj => stnStatus_not_mem_flagSlots c k j ?_⟩
  simp at hj
  omega

theorem answerNoted_facts (c : Fin 2) (f : BusFrame) (margin : Bool) (s : State) :
    BusOnly s (answerNoted c f margin s) (R.CBUS_CH_CNT_NOTREADY c :: [8, 10, 13].flatMap (flagSlots (bBUS c)))
    ∧ (margin = true → (answerNoted c f margin s).flagged .a (bBUS c) 8)
    ∧ (bitN f.flags.toNat 2 = true → (answerNoted c f margin s).flagged .a (bBUS c) 13)
    ∧ (bitN f.flags.toNat 3 = true → (answerNoted c f margin s).flagged .a (bBUS c) 10) := by
  unfold answerNoted
  dsimp only
  have hmem : ∀ j ∈ [8, 10, 13], ∀ r ∈ flagSlots (bBUS c) j,
      r ∈ R.CBUS_CH_CNT_NOTREADY c :: [8, 10, 13].flatMap (flagSlots (bBUS c)) :=
    fun j hj r hr => List.mem_cons_of_mem _ (List.mem_flatMap.2 ⟨j, hj, hr⟩)
  obtain ⟨ha, -, fa⟩ := busIf_facts (bitN f.flags.toNat 3) c (j := 10) (by decide) s
  generalize busIf (bitN f.flags.toNat 3) c 10 s = u1 at *
  obtain ⟨hb, sb, fb⟩ := busIf_facts (bitN f.flags.toNat 2) c (j := 13) (by decide) u1
  generalize busIf (bitN f.flags.toNat 2) c 13 u1 = u2 at *
  obtain ⟨hm, sm, fm⟩ := busIf_facts margin c (j := 8) (by decide) u2
  generalize busIf margin c 8 u2 = u3 at *
  have h3 := ((ha.mono (hmem 10 (by decide))).trans (hb.mono (hmem 13 (by decide)))).trans (hm.mono (hmem 8 (by decide)))
  have key : ∀ u, BusOnly u3 u [R.CBUS_CH_CNT_NOTREADY c] → BusFlagsStay c u3 u →
      BusOnly s u (R.CBUS_CH_CNT_NOTREADY c :: [8, 10, 13].flatMap (flagSlots (bBUS c))) ∧ (margin = true → u.flagged .a (bBUS c) 8)
      ∧ (bitN f.flags.toNat 2 = true → u.flagged .a (bBUS c) 13) ∧ (bitN f.flags.toNat 3 = true → u.flagged .a (bBUS c) 10) :=
    fun u hu su => ⟨h3.trans (hu.mono (by simp)), fun h => su _ (fm h), fun h => su _ (sm _ (fb h)), fun h => su _ (sm _ (sb _ (fa h)))⟩
  split
  · refine key _ ((BusOnly.refl _ _).keeps ((Keeps.refl _ _ _).count _ _ _ (by simp))) (.of_rd ?_)
    exact State.rd_wr_ne _ _ _ _ (notReady_ne_busFlags c)
  · exact key _ (.refl _ _) fun _ h => h

/-- The state once an accepted response has been noted: its wait ended, its flags raised, its station's run at an end. -/
def answered (c : Nat) (f : BusFrame) (w : SlotWait) (s : State) : State :=
  stnGood c w.station (!w.mgmt) (answerNoted c f (!onTime c f w s)
    (setWait c w.slot (some { w with got := true }) (s.toTime (frameEnd c f s))))

theorem answered_facts (c : Fin 2) (f : BusFrame) {w : SlotWait} (hw : w.station < 64) (s : State) :
    BusOnly (s.toTime (frameEnd c f s)) (answered c f w s) (answerRegs c w.station)
    ∧ (answered c f w s).dg (R.CBUS_STN_STATUS c w.station) F.CBUS_STN_STATUS_MISS_RUN = 0
    ∧ (onTime c f w s = false → (answered c f w s).flagged .a (bBUS c) 8)
    ∧ (bitN f.flags.toNat 2 = true → (answered c f w s).flagged .a (bBUS c) 13)
    ∧ (bitN f.flags.toNat 3 = true → (answered c f w s).flagged .a (bBUS c) 10)
    ∧ (stnState c w.station s = 2 → w.mgmt = false → stnState c w.station (answered c f w s) = 3) := by
  unfold answered
  have h0 : stnState c w.station (s.toTime (frameEnd c f s)) = stnState c w.station s := rfl
  generalize s.toTime (frameEnd c f s) = s0 at *
  have h1 : BusOnly s0 (setWait c w.slot (some { w with got := true }) s0) [] := (BusOnly.refl _ _).setBus _ _
  generalize setWait c w.slot (some { w with got := true }) s0 = s1 at *
  obtain ⟨h2, f8, f13, f10⟩ := answerNoted_facts c f (!onTime c f w s) s1
  generalize answerNoted c f (!onTime c f w s) s1 = s2 at *
  obtain ⟨h3, hstay, hrun, hst⟩ := stnGood_facts c hw (!w.mgmt) s2
  have hsub : ∀ r ∈ R.CBUS_CH_CNT_NOTREADY c :: [8, 10, 13].flatMap (flagSlots (bBUS c)), r ∈ answerRegs c w.station := by
    intro r hr
    simp only [answerRegs, List.mem_append, List.mem_cons, List.mem_flatMap] at hr ⊢
    rcases hr with rfl | ⟨j, hj, hr⟩
    · simp
    · exact .inr ⟨j, .inr hj, hr⟩
  have hsub3 : ∀ r ∈ R.CBUS_STN_STATUS c w.station :: flagSlots (bBUS c) 5, r ∈ answerRegs c w.station := by
    intro r hr
    rcases List.mem_cons.1 hr with rfl | hr
    · simp [answerRegs]
    · exact mem_answerRegs_of_flag c _ (by decide) r hr
  refine ⟨((h1.mono (by simp)).trans (h2.mono hsub)).trans (h3.mono hsub3), hrun, fun h => hstay _ (f8 (by simp [h])),
    fun h => hstay _ (f13 h), fun h => hstay _ (f10 h), fun h hm => hst ?_ (by simp [hm])⟩
  refine Eq.trans ?_ (h0.trans h)
  exact (h2.leaves.dg _ (stnStatus_not_mem_noted c _)).trans (h1.leaves.dg _ (by simp))

theorem exec_responseReceived {c : Fin 2} {f : BusFrame} {w : SlotWait} {s : State} (hst : busState c s = 4 ∨ busState c s = 5)
    (hfcs : f.fcs = true) (hok : frameOk c f s = true) (hkind : f.kind = 3) (hans : answers c f s = some w) :
    exec (.responseReceived c f) s = settled (if w.mgmt then
        (answered c f w s).setBus c { (answered c f w s).bus c with reply := (w.station, f.data.take f.words.toNat) }
      else takeResponse c w f (!onTime c f w s) (answered c f w s)) := by
  refine congrArg settled ((if_neg ?_).trans ((if_neg (by simp [hfcs])).trans ((if_neg ?_).trans ?_)))
  · omega
  · simp [show frameOk c f s = true from hok, hkind]
  · rw [hans]
    rfl

/-- What the Warden gets of a response changes its channel of the separation monitor alone. -/
theorem toWarden_eq (c k : Nat) (ws : List Word) (s : State) : ∃ x, toWarden c k ws s = { s with ssm2 := x } := by
  unfold toWarden
  split
  · exact ⟨_, rfl⟩
  · split
    · exact ⟨_, rfl⟩
    · refine each_keeps (P := fun t => ∃ x, t = { s with ssm2 := x }) (fun e _ t h => ?_) ⟨s.ssm2, rfl⟩
      obtain ⟨x, rfl⟩ := h
      dsimp only
      split
      · exact ⟨_, rfl⟩
      · exact ⟨_, rfl⟩

theorem fcs_of_frameOk {c : Nat} {f : BusFrame} {s : State} (h : frameOk c f s = true) : f.words.toNat ≤ f.data.length := by
  simp only [frameOk, Bool.and_eq_true, decide_eq_true_eq] at h
  omega

/-- The words of an accepted response stand where the links carry them, and every other word stays (R326). -/
theorem sw_takeResponse {c : Nat} {w : SlotWait} {f : BusFrame} (margin : Bool) {s : State} (hbad : ∀ q, (s.plane q).store.bad = [])
    (hlen : f.words.toNat ≤ f.data.length) (hroom : s.cbus.imgBase + w.ofs + f.words.toNat < storeWords) (q : Plane) (i : Nat) :
    (takeResponse c w f margin s).sw q i
      = if carries portLink s q = true ∧ s.cbus.imgBase + w.ofs ≤ i ∧ i < s.cbus.imgBase + w.ofs + (f.words.toNat + 1)
        then nth (wordN (2 ^ 35 + f.flags.toNat % 2 * 2 ^ 34 + b2n margin * 2 ^ 33 + f.flags.toNat / 4 % 2 * 2 ^ 32
          + (if compat c s then 0 else f.invalid.toNat) * 2 ^ 16 + s.n % 2 ^ 16) :: f.data.take f.words.toNat)
          (i - (s.cbus.imgBase + w.ofs)) 0
        else s.sw q i := by
  unfold takeResponse
  dsimp only
  obtain ⟨x, hx⟩ := toWarden_eq c w.station (if compat c s then [] else f.data.drop f.words.toNat)
    (s.sputVia portLink (s.cbus.imgBase + w.ofs) (wordN (2 ^ 35 + f.flags.toNat % 2 * 2 ^ 34 + b2n margin * 2 ^ 33
      + f.flags.toNat / 4 % 2 * 2 ^ 32 + (if compat c s then 0 else f.invalid.toNat) * 2 ^ 16 + s.n % 2 ^ 16)
      :: f.data.take f.words.toNat))
  have hl : ∀ v : Word, (v :: f.data.take f.words.toNat).length = f.words.toNat + 1 := by simp [hlen]
  rw [hx]
  have := State.sw_sputVia portLink (s := s) (a := s.cbus.imgBase + w.ofs) (ws := wordN (2 ^ 35 + f.flags.toNat % 2 * 2 ^ 34
    + b2n margin * 2 ^ 33 + f.flags.toNat / 4 % 2 * 2 ^ 32 + (if compat c s then 0 else f.invalid.toNat) * 2 ^ 16 + s.n % 2 ^ 16)
      :: f.data.take f.words.toNat) (.inr hbad) (by rw [hl]; omega) q i
  rw [hl] at this
  exact this

theorem storeOnly_takeResponse (c : Nat) (w : SlotWait) (f : BusFrame) (margin : Bool) {s : State}
    (hbad : ∀ q, (s.plane q).store.bad = []) :
    (takeResponse c w f margin s).now = s.now ∧ ∀ p k, (takeResponse c w f margin s).rd p k = s.rd p k := by
  unfold takeResponse
  dsimp only
  generalize (wordN _ :: f.data.take f.words.toNat) = ws
  have h := storeOnly_sputVia portLink (s := s) (a := s.cbus.imgBase + w.ofs) (ws := ws) (.inr hbad)
  generalize s.sputVia portLink (s.cbus.imgBase + w.ofs) ws = u at *
  obtain ⟨x, hx⟩ := toWarden_eq c w.station (if compat c s then [] else f.data.drop f.words.toNat) u
  rw [hx]
  obtain ⟨y, z, hu⟩ := h.planes
  refine ⟨by rw [hu], fun p k => Eq.trans ?_ (h.rd p k)⟩
  cases p <;> rfl

end Sys2Proof.Machine

namespace Sys2Proof.Machine

/-- What an accepted response shows beyond its words (R319, R326, R333). -/
def ResponseShown (c : Nat) (f : BusFrame) (w : SlotWait) (s t : State) : Prop :=
  t.dg (R.CBUS_STN_STATUS c w.station) F.CBUS_STN_STATUS_MISS_RUN = 0
  ∧ (onTime c f w s = false → t.flagged .a (bBUS c) 8) ∧ (bitN f.flags.toNat 2 = true → t.flagged .a (bBUS c) 13)
  ∧ (bitN f.flags.toNat 3 = true → t.flagged .a (bBUS c) 10) ∧ t.now = max s.now (frameEnd c f s)
  ∧ RegsKept .a s t (answerRegs c w.station)

/-- Words stored and mailboxes kept afterwards show in none of these. -/
theorem responseShown_of {c : Fin 2} {f : BusFrame} {w : SlotWait} {s t : State} (hw : w.station < 64)
    (hnow : t.now = (answered c f w s).now) (hrd : ∀ p k, t.rd p k = (answered c f w s).rd p k) : ResponseShown c f w s t := by
  obtain ⟨hb, hrun, f8, f13, f10, -⟩ := answered_facts c f hw s
  refine ⟨(congrArg _ (hrd .a _)).trans hrun, fun h => State.flagged_of_rd (hrd _ _) (f8 h), fun h => State.flagged_of_rd (hrd _ _) (f13 h),
    fun h => State.flagged_of_rd (hrd _ _) (f10 h), hnow.trans hb.around.1, fun p k hk => (hrd p k).trans ?_⟩
  exact (hb.leaves.2 p k hk).trans (State.rd_toTime _ _ _ _)

theorem stores_sound {s : State} (ha : s.pa.store.bad = []) (hb : s.pb.store.bad = []) : ∀ q, (s.plane q).store.bad = []
  | .a => ha
  | .b => hb

theorem BusOnly.carries {s t : State} {ks : List Nat} (h : BusOnly s t ks) (l : Plane → Link) (q : Plane) :
    carries l t q = carries l s q := by
  obtain ⟨-, -, -, hlink, hward, -⟩ := h.around
  simp only [Machine.carries, hlink, hward]

/-- An accepted response of a cyclic slot: its status word and its data in each store that the links reach (R326). -/
theorem does_responseReceived_cyclic {c : Fin 2} {s : State} (ha : s.pa.store.bad = []) (hb : s.pb.store.bad = []) {f : BusFrame}
    {w : SlotWait} (hst : busState c s = 4 ∨ busState c s = 5) (hfcs : f.fcs = true) (hok : frameOk c f s = true) (hkind : f.kind = 3)
    (hans : answers c f s = some w) (hw : w.station < 64) (hm : w.mgmt = false)
    (hroom : s.cbus.imgBase + w.ofs + f.words.toNat < storeWords) : Does (.responseReceived c f) s (fun t =>
      let a := s.cbus.imgBase + w.ofs
      (∀ q, (carries portLink s q = true → t.sw q a = wordN (2 ^ 35 + f.flags.toNat % 2 * 2 ^ 34 + b2n (!onTime c f w s) * 2 ^ 33
            + f.flags.toNat / 4 % 2 * 2 ^ 32 + (if compat c s then 0 else f.invalid.toNat) * 2 ^ 16 + s.n % 2 ^ 16)
          ∧ (∀ i, i < f.words.toNat → t.sw q (a + 1 + i) = nth f.data i 0))
        ∧ (∀ i, ¬ carries portLink s q = true ∨ i < a ∨ a + f.words.toNat < i → t.sw q i = s.sw q i))
      ∧ (stnState c w.station s = 2 → stnState c w.station t = 3) ∧ ResponseShown c f w s t) := by
  have hex := exec_responseReceived hst hfcs hok hkind hans
  rw [if_neg (by simp [hm])] at hex
  refine does_of_exec hex ?_
  obtain ⟨hbus, -, -, -, -, hstate⟩ := answered_facts c f hw s
  have hcompat : compat c (answered c f w s) = compat c s := by
    refine congrArg (· == 1) (hbus.leaves.dg _ ?_ : _ = (s.toTime (frameEnd c f s)).dg _ _)
    have := c.isLt
    simp only [answerRegs, flagSlots, bBUS, R.CBUS_CH_CFG, R.CBUS_STN_STATUS, R.CBUS_CH_CNT_NOTREADY, R.CBUS_CH_FLAGS, R.CBUS_CH_FLAG_CNT0,
      R.EVM_FLAGS, R.EVM_FLAG_CNT, List.flatMap_cons, List.flatMap_nil, List.mem_append, List.mem_cons, List.not_mem_nil, or_false]
    omega
  obtain ⟨-, hn, hbase, -, -, hstore⟩ := hbus.around
  have hcar : ∀ q, carries portLink (answered c f w s) q = carries portLink s q := fun q => (hbus.carries _ _).trans (by cases q <;> rfl)
  have hsame : SameStores s (answered c f w s) := (leaves_toTime .a (frameEnd c f s) s []).1.trans hbus.leaves.1
  have hbad : ∀ q, ((answered c f w s).plane q).store.bad = [] := fun q => by
    rw [hstore]; exact stores_sound (s := s.toTime (frameEnd c f s)) ha hb q
  have hbase' : (answered c f w s).cbus.imgBase = s.cbus.imgBase := hbase
  have hn' : (answered c f w s).n = s.n := hn
  have hsw := sw_takeResponse (c := c) (w := w) (f := f) (!onTime c f w s) hbad (fcs_of_frameOk hok) (by rw [hbase']; exact hroom)
  obtain ⟨hnow, hrd⟩ := storeOnly_takeResponse c w f (!onTime c f w s) hbad
  have hre := (Keeps.refl .a (takeResponse c w f (!onTime c f w s) (answered c f w s)) []).recheck
  rw [hbase', hcompat, hn'] at hsw
  simp only [hcar] at hsw
  intro a
  refine ⟨fun q => ⟨fun hr => ⟨?_, fun i hi => ?_⟩, fun i hi => ?_⟩, fun h => ?_, responseShown_of hw (hre.now.trans hnow) fun p k =>
    (hre.2 p k (.inl (by simp))).trans (hrd p k)⟩
  · rw [hre.leaves.1 q, hsw, if_pos ⟨hr, by omega, by omega⟩, Nat.sub_self]
    rfl
  · have h1 : a + 1 + i - a = i + 1 := by omega
    rw [hre.leaves.1 q, hsw, if_pos ⟨hr, by omega, by omega⟩, h1]
    show ((f.data.take f.words.toNat)[i]?).getD 0 = (f.data[i]?).getD 0
    rw [List.getElem?_take_of_lt hi]
  · rw [hre.leaves.1 q, hsw, if_neg, hsame q]
    rintro ⟨h1, h2, h3⟩
    rcases hi with hi | hi | hi
    · exact hi h1
    · omega
    · omega
  · exact (hre.dg _ (by simp)).trans ((congrArg _ (hrd .a _)).trans (hstate h hm))

/-- An accepted response to a mailbox: the reply of the station (R323). -/
theorem does_responseReceived_mgmt {c : Fin 2} {s : State} (hc : s.cbus.chs.length = 2) {f : BusFrame} {w : SlotWait}
    (hst : busState c s = 4 ∨ busState c s = 5) (hfcs : f.fcs = true) (hok : frameOk c f s = true) (hkind : f.kind = 3)
    (hans : answers c f s = some w) (hw : w.station < 64) (hm : w.mgmt = true) : Does (.responseReceived c f) s (fun t =>
      (t.bus c).reply = (w.station, f.data.take f.words.toNat) ∧ SameStores s t ∧ ResponseShown c f w s t) := by
  have hex := exec_responseReceived hst hfcs hok hkind hans
  rw [if_pos hm] at hex
  refine does_of_exec hex ?_
  obtain ⟨hbus, -⟩ := answered_facts c f hw s
  have hlen := hbus.chs.trans hc
  have hsame : SameStores s (answered c f w s) := (leaves_toTime .a (frameEnd c f s) s []).1.trans hbus.leaves.1
  obtain ⟨hx, hnow, hl, -⟩ := setBus_recheck hlen (.refl _ _ []) rfl
    { (answered c f w s).bus c with reply := (w.station, f.data.take f.words.toNat) }
  exact ⟨congrArg BusSt.reply hx, hsame.trans hl.1, responseShown_of hw hnow fun p k => hl.2 p k (.inl (by simp))⟩

/-- A response with a bad FCS is reported and counted (R308). -/
theorem does_responseReceived_bad {c : Fin 2} {s : State} {f : BusFrame} (hst : busState c s = 4 ∨ busState c s = 5)
    (hfcs : f.fcs = false) : Does (.responseReceived c f) s (fun t => t.flagged .a (bBUS c) 9
      ∧ t.dg (R.CBUS_CH_CNT_CRC c) F.CBUS_CH_CNT_MISS_COUNT
        = satAdd F.CBUS_CH_CNT_MISS_COUNT.width (s.dg (R.CBUS_CH_CNT_CRC c) F.CBUS_CH_CNT_MISS_COUNT) 1
      ∧ t.bus c = s.bus c ∧ SameStores s t ∧ RegsKept .a s t (R.CBUS_CH_CNT_CRC c :: flagSlots (bBUS c) 9)) := by
  have hex : exec (.responseReceived c f) s = settled (badResponse c f (s.toTime (frameEnd c f s))) :=
    congrArg settled ((if_neg (by omega)).trans (if_pos (by simp [hfcs])))
  refine does_of_exec hex ?_
  have h0 := leaves_toTime .a (frameEnd c f s) s (R.CBUS_CH_CNT_CRC c :: flagSlots (bBUS c) 9)
  have hdg : (s.toTime (frameEnd c f s)).dg (R.CBUS_CH_CNT_CRC c) F.CBUS_CH_CNT_MISS_COUNT
      = s.dg (R.CBUS_CH_CNT_CRC c) F.CBUS_CH_CNT_MISS_COUNT := rfl
  have hbus0 : (s.toTime (frameEnd c f s)).bus c = s.bus c := rfl
  rw [← hdg, ← hbus0]
  generalize s.toTime (frameEnd c f s) = s0 at *
  obtain ⟨u, hu, x, hx⟩ : ∃ u, u = raiseBus c 9 (s0.count .a (R.CBUS_CH_CNT_CRC c) F.CBUS_CH_CNT_MISS_COUNT 1)
      ∧ ∃ x, badResponse c f s0 = { u with cbus := { u.cbus with crcFails := x } } := by
    refine ⟨_, rfl, ?_⟩
    unfold badResponse
    split
    · exact ⟨_, rfl⟩
    · exact ⟨_, rfl⟩
  have hk : Keeps .a s0 u (R.CBUS_CH_CNT_CRC c :: flagSlots (bBUS c) 9) := by
    rw [hu]
    exact ((Keeps.refl _ _ _).count _ _ _ (by simp)).raise _ _ _ fun _ h => List.mem_cons_of_mem _ h
  have hflag : u.flagged .a (bBUS c) 9 := hu ▸ flagged_raiseBus c (by decide) _
  have hcnt : u.dg (R.CBUS_CH_CNT_CRC c) F.CBUS_CH_CNT_MISS_COUNT
      = satAdd F.CBUS_CH_CNT_MISS_COUNT.width (s0.dg (R.CBUS_CH_CNT_CRC c) F.CBUS_CH_CNT_MISS_COUNT) 1 := by
    rw [hu]
    refine ((keeps_raiseBus c 9 _).dg _ (busCounts_not_mem_flagSlots c 9 (by decide)).2).trans ?_
    exact State.dg_count_same _ _ _ (by decide)
  have hl : Leaves .a u (belRecheck (badResponse c f s0)) [] := by
    rw [hx]
    have h1 : Leaves .a u { u with cbus := { u.cbus with crcFails := x } } [] := .of_planes _ _ rfl rfl rfl
    exact h1.andKeeps (Keeps.refl _ _ _).recheck
  have hall := (h0.andKeeps hk).trans (hl.mono (by simp))
  refine ⟨State.flagged_of_rd (hl.2 _ _ (.inl (by simp))) hflag, (hl.dg _ (by simp)).trans hcnt, ?_, hall.1, hall.2⟩
  rw [hx]
  exact bus_of_cbus hk.cbus c

/-! ### The close of a receive window (R320, R333) -/

/-- Whether a station is LOST after `run` missed slots (R333). -/
def lostAfter (c k run : Nat) (s : State) : Bool :=
  decide (max 1 (s.dg (R.CBUS_CH_CFG c) F.CBUS_CH_CFG_MISS_N) ≤ run) && (stnState c k s == 2 || stnState c k s == 3)

/-- The registers of a channel that a missed slot may change. -/
def missedRegs (c k : Nat) : List Nat := R.CBUS_STN_STATUS c k :: flagSlots (bBUS c) 4

theorem lostAfter_iff (c k run : Nat) (s : State) : lostAfter c k run s = true
    ↔ max 1 (s.dg (R.CBUS_CH_CFG c) F.CBUS_CH_CFG_MISS_N) ≤ run ∧ (stnState c k s = 2 ∨ stnState c k s = 3) := by
  simp [lostAfter]

theorem stnMissed_cases (c : Fin 2) (k : Nat) (s : State) :
    let run := min 31 (s.dg (R.CBUS_STN_STATUS c k) F.CBUS_STN_STATUS_MISS_RUN + 1)
    (lostAfter c k run s = true ∧ stnMissed c k s = setStnTold c k 4 4 (stnMarked c k 0 run s))
    ∨ (lostAfter c k run s = false ∧ stnMissed c k s = stnMarked c k 0 run s) := by
  unfold stnMissed
  dsimp only
  split
  · exact .inl ⟨(lostAfter_iff _ _ _ _).2 ‹_›, rfl⟩
  · exact .inr ⟨Bool.eq_false_iff.2 fun h => ‹¬ _› ((lostAfter_iff _ _ _ _).1 h), rfl⟩

/-- A station that has missed a slot: its run goes on, and after MISS_N it is LOST (R333). -/
theorem stnMissed_facts (c : Fin 2) {k : Nat} (hk : k < 64) (s : State) :
    let run := min 31 (s.dg (R.CBUS_STN_STATUS c k) F.CBUS_STN_STATUS_MISS_RUN + 1)
    BusOnly s (stnMissed c k s) (missedRegs c k) ∧ BusFlagsStay c s (stnMissed c k s)
    ∧ (stnMissed c k s).dg (R.CBUS_STN_STATUS c k) F.CBUS_STN_STATUS_MISS_RUN = run
    ∧ stnState c k (stnMissed c k s) = (if lostAfter c k run s then 4 else stnState c k s)
    ∧ (lostAfter c k run s = true → (stnMissed c k s).flagged .a (bBUS c) 4) := by
  intro run
  obtain ⟨hb, hf, hst, hrun⟩ := stnMarked_facts c hk 0 (m := run) (by omega) s
  have hb' := hb.mono (ls := missedRegs c k) (by simp [missedRegs])
  have hcases : (lostAfter c k run s = true ∧ stnMissed c k s = setStnTold c k 4 4 (stnMarked c k 0 run s))
    ∨ (lostAfter c k run s = false ∧ stnMissed c k s = stnMarked c k 0 run s) := stnMissed_cases c k s
  generalize stnMarked c k 0 run s = u at *
  rcases hcases with ⟨hl, he⟩ | ⟨hl, he⟩ <;> rw [he, hl]
  · obtain ⟨hb2, hf2, hst2, hflag, hrun2⟩ := setStnTold_facts c hk (code := 4) (j := 4) (by decide) (by decide) u
    exact ⟨hb'.trans hb2, hf.trans hf2, hrun2.trans hrun, hst2, fun _ => hflag⟩
  · exact ⟨hb', hf, hrun, hst, nofun⟩

/-- A slot without an accepted response, before its status word is written: the count, its flag and the station (R326, R333). -/
def slotMissed (c : Nat) (w : SlotWait) (s : State) : State :=
  stnMissed c w.station (raiseBus c 7 (s.count .a (R.CBUS_CH_CNT_MISS c) F.CBUS_CH_CNT_MISS_COUNT 1))

theorem exec_receiveWindowClose {c : Fin 2} {k : Fin 256} {s : State} {w : SlotWait}
    (h : (s.bus c).waits.find? (fun w => w.slot == k.val) = some w) :
    let s1 := setWait c k none (s.toTime w.hi)
    exec (.receiveWindowClose c k) s = settled (if w.got then s1 else if w.mgmt then slotMissed c w s1
      else (slotMissed c w s1).sputVia portLink ((slotMissed c w s1).cbus.imgBase + w.ofs) [wordN (s.n % 2 ^ 16)]) := by
  show execReceiveWindowClose c k s = _
  simp only [execReceiveWindowClose, h]
  rfl

/-- A window that closes after its response: its wait has ended (R320). -/
theorem does_receiveWindowClose_of_got {c : Fin 2} {s : State} (hc : s.cbus.chs.length = 2) {k : Fin 256} {w : SlotWait}
    (h : (s.bus c).waits.find? (fun w => w.slot == k.val) = some w) (hg : w.got = true) :
    Does (.receiveWindowClose c k) s (fun t => t.now = max s.now w.hi
      ∧ (t.bus c).waits = (s.bus c).waits.flatMap (fun v => if v.slot = k.val then [] else [v]) ∧ SameStores s t ∧ RegsKept .a s t []) := by
  have hex := exec_receiveWindowClose h
  dsimp only at hex
  rw [if_pos hg] at hex
  refine does_of_exec hex ?_
  obtain ⟨hx, hnow, hl, -⟩ := setBus_recheck hc (leaves_toTime .a w.hi s []) rfl { s.bus c with
    waits := (s.bus c).waits.flatMap (fun v => if v.slot = k.val then [] else [v]) }
  exact ⟨hnow, congrArg BusSt.waits hx, hl.1, hl.2⟩

theorem busCfg_not_mem (c : Fin 2) : R.CBUS_CH_CFG c ∉ R.CBUS_CH_CNT_MISS c :: flagSlots (bBUS c) 7 := by
  simp only [flagSlots, bBUS, R.CBUS_CH_CNT_MISS, R.CBUS_CH_CFG, R.CBUS_CH_FLAGS, R.CBUS_CH_FLAG_CNT0, R.EVM_FLAGS, R.EVM_FLAG_CNT,
    List.mem_cons, List.not_mem_nil, or_false]
  omega

theorem stnStatus_not_mem_missed (c : Fin 2) (k : Nat) : R.CBUS_STN_STATUS c k ∉ R.CBUS_CH_CNT_MISS c :: flagSlots (bBUS c) 7 := by
  have h : R.CBUS_STN_STATUS c k ≠ R.CBUS_CH_CNT_MISS c := by simp only [R.CBUS_STN_STATUS, R.CBUS_CH_CNT_MISS]; omega
  exact List.not_mem_cons_of_ne_of_not_mem h (stnStatus_not_mem_flagSlots c k 7 (by decide))

theorem busMiss_not_mem_missedRegs (c : Fin 2) (k : Nat) : R.CBUS_CH_CNT_MISS c ∉ missedRegs c k := by
  have h : R.CBUS_CH_CNT_MISS c ≠ R.CBUS_STN_STATUS c k := by simp only [R.CBUS_STN_STATUS, R.CBUS_CH_CNT_MISS]; omega
  exact List.not_mem_cons_of_ne_of_not_mem h (busCounts_not_mem_flagSlots c 4 (by decide)).1

/-- The registers that the close of a window without a response may change. -/
def closeRegs (c k : Nat) : List Nat :=
  [R.CBUS_CH_CNT_MISS c, R.CBUS_STN_STATUS c k] ++ flagSlots (bBUS c) 7 ++ flagSlots (bBUS c) 4

/-- What a slot without a response shows in the registers (R326, R333). -/
structure SlotShownMissed (c : Nat) (w : SlotWait) (s t : State) : Prop where
  state : stnState c w.station t = if lostAfter c w.station (min 31 (s.dg (R.CBUS_STN_STATUS c w.station) F.CBUS_STN_STATUS_MISS_RUN + 1)) s
    then 4 else stnState c w.station s
  lost : lostAfter c w.station (min 31 (s.dg (R.CBUS_STN_STATUS c w.station) F.CBUS_STN_STATUS_MISS_RUN + 1)) s = true →
    t.flagged .a (bBUS c) 4
  count : t.dg (R.CBUS_CH_CNT_MISS c) F.CBUS_CH_CNT_MISS_COUNT
    = satAdd F.CBUS_CH_CNT_MISS_COUNT.width (s.dg (R.CBUS_CH_CNT_MISS c) F.CBUS_CH_CNT_MISS_COUNT) 1
  run : t.dg (R.CBUS_STN_STATUS c w.station) F.CBUS_STN_STATUS_MISS_RUN
    = min 31 (s.dg (R.CBUS_STN_STATUS c w.station) F.CBUS_STN_STATUS_MISS_RUN + 1)
  missed : t.flagged .a (bBUS c) 7
  regs : RegsKept .a s t (closeRegs c w.station)

/-- It lies in the registers alone. -/
theorem SlotShownMissed.of_rd {c : Nat} {w : SlotWait} {s s' t t' : State} (h : SlotShownMissed c w s t) (hs : ∀ p k, s'.rd p k = s.rd p k)
    (ht : ∀ p k, t'.rd p k = t.rd p k) : SlotShownMissed c w s' t' := by
  have hsd : ∀ k f, s'.dg k f = s.dg k f := fun k f => congrArg f.get (hs .a k)
  have htd : ∀ k f, t'.dg k f = t.dg k f := fun k f => congrArg f.get (ht .a k)
  have hl : ∀ k n, lostAfter c k n s' = lostAfter c k n s := fun k n => by simp only [lostAfter, stnState, hsd]
  obtain ⟨h1, h2, h3, h4, h5, h6⟩ := h
  constructor
  · simp only [stnState, hl, hsd, htd] at h1 ⊢
    exact h1
  · rw [hl, hsd]
    exact fun h => State.flagged_of_rd (ht _ _) (h2 h)
  · rw [htd, hsd]
    exact h3
  · rw [htd, hsd]
    exact h4
  · exact State.flagged_of_rd (ht _ _) h5
  · exact fun p k hk => ((ht p k).trans (h6 p k hk)).trans (hs p k).symm

theorem slotMissed_facts (c : Fin 2) {w : SlotWait} (hw : w.station < 64) (s : State) :
    BusOnly s (slotMissed c w s) (closeRegs c w.station) ∧ SlotShownMissed c w s (slotMissed c w s) := by
  unfold slotMissed
  have hk : Keeps .a s (raiseBus c 7 (s.count .a (R.CBUS_CH_CNT_MISS c) F.CBUS_CH_CNT_MISS_COUNT 1))
      (R.CBUS_CH_CNT_MISS c :: flagSlots (bBUS c) 7) :=
    ((Keeps.refl _ _ _).count _ _ _ (by simp)).raise _ _ _ fun _ h => List.mem_cons_of_mem _ h
  have hflag := flagged_raiseBus c (j := 7) (by decide) (s.count .a (R.CBUS_CH_CNT_MISS c) F.CBUS_CH_CNT_MISS_COUNT 1)
  have hcnt := ((keeps_raiseBus c 7 (s.count .a (R.CBUS_CH_CNT_MISS c) F.CBUS_CH_CNT_MISS_COUNT 1)).dg F.CBUS_CH_CNT_MISS_COUNT
    (busCounts_not_mem_flagSlots c 7 (by decide)).1).trans (State.dg_count_same _ _ _ (by decide))
  generalize raiseBus c 7 (s.count .a (R.CBUS_CH_CNT_MISS c) F.CBUS_CH_CNT_MISS_COUNT 1) = u at *
  obtain ⟨hb, hstay, hrun, hst, hlost⟩ := stnMissed_facts c hw u
  have hstn : ∀ f, u.dg (R.CBUS_STN_STATUS c w.station) f = s.dg (R.CBUS_STN_STATUS c w.station) f :=
    fun f => hk.dg f (stnStatus_not_mem_missed c _)
  have hl : ∀ n, lostAfter c w.station n u = lostAfter c w.station n s := fun n => by
    simp only [lostAfter, stnState, hstn, hk.dg _ (busCfg_not_mem c)]
  rw [hl, hstn] at hst hlost
  rw [hstn] at hrun
  have hregs : BusOnly s (stnMissed c w.station u) (closeRegs c w.station) :=
    ((BusOnly.refl s (closeRegs c w.station)).keeps (hk.mono fun r hr => by simp [closeRegs] at hr ⊢; tauto)).trans
      (hb.mono fun r hr => by simp [closeRegs, missedRegs] at hr ⊢; tauto)
  refine ⟨hregs, hst.trans ?_, hlost, (hb.leaves.dg _ (busMiss_not_mem_missedRegs c _)).trans hcnt, hrun, hstay _ hflag, hregs.leaves.2⟩
  simp only [stnState, hstn]

/-- A window that closes without a response: the status word alone in each store that the links reach, and the miss (R320, R326). -/
theorem does_receiveWindowClose_of_missed {c : Fin 2} {s : State} (ha : s.pa.store.bad = []) (hb : s.pb.store.bad = []) {k : Fin 256}
    {w : SlotWait} (h : (s.bus c).waits.find? (fun w => w.slot == k.val) = some w) (hw : w.station < 64) (hg : w.got = false)
    (hroom : s.cbus.imgBase + w.ofs < storeWords) : Does (.receiveWindowClose c k) s (fun t =>
      (∀ q, (carries portLink s q = true → w.mgmt = false → t.sw q (s.cbus.imgBase + w.ofs) = wordN (s.n % 2 ^ 16))
        ∧ ∀ i, (¬ carries portLink s q = true ∨ w.mgmt = true ∨ i ≠ s.cbus.imgBase + w.ofs) → t.sw q i = s.sw q i)
      ∧ SlotShownMissed c w s t) := by
  have hex := exec_receiveWindowClose h
  dsimp only at hex
  rw [if_neg (by simp [hg])] at hex
  refine does_of_exec hex ?_
  have h0 : BusOnly (s.toTime w.hi) (setWait c k none (s.toTime w.hi)) [] := (BusOnly.refl _ _).setBus _ _
  have hcar0 : ∀ q, carries portLink (s.toTime w.hi) q = carries portLink s q := fun q => by cases q <;> rfl
  have hbad0 : ∀ q, ((s.toTime w.hi).plane q).store.bad = [] := stores_sound (s := s.toTime w.hi) ha hb
  have hsame0 : SameStores s (s.toTime w.hi) := (leaves_toTime .a w.hi s []).1
  have hrd0 : ∀ p j, (s.toTime w.hi).rd p j = s.rd p j := State.rd_toTime s w.hi
  have hbase0 : (s.toTime w.hi).cbus.imgBase = s.cbus.imgBase := rfl
  generalize s.toTime w.hi = s0 at *
  generalize setWait c k none s0 = s1 at *
  obtain ⟨h1, hshown⟩ := slotMissed_facts c hw s1
  generalize slotMissed c w s1 = u at *
  have hu : BusOnly s0 u (closeRegs c w.station) := (h0.mono (by simp)).trans h1
  have hshown' : SlotShownMissed c w s u := hshown.of_rd (fun p j => ((h0.leaves.2 p j (.inl (by simp))).trans (hrd0 p j)).symm) fun _ _ => rfl
  obtain ⟨-, -, hbase, -, -, hstore⟩ := hu.around
  have hbad : ∀ q, (u.plane q).store.bad = [] := fun q => by rw [hstore]; exact hbad0 q
  have hcar : ∀ q, carries portLink u q = carries portLink s q := fun q => (hu.carries _ q).trans (hcar0 q)
  have hsame := hsame0.trans hu.leaves.1
  have hre : ∀ v, Leaves .a v (belRecheck v) [] := fun v => (Keeps.refl _ _ _).recheck.leaves
  cases hm : w.mgmt with
  | true =>
    rw [if_pos rfl]
    refine ⟨fun q => ⟨fun _ hf => absurd hf (by simp), fun i _ => ((hre u).1 q i).trans (hsame q i)⟩, hshown'.of_rd (fun _ _ => rfl) fun p j => ?_⟩
    exact (hre u).2 p j (.inl (by simp))
  | false =>
    rw [if_neg (by simp), hbase, hbase0]
    have hsw := State.sw_sputVia portLink (s := u) (a := s.cbus.imgBase + w.ofs) (ws := [wordN (s.n % 2 ^ 16)]) (.inr hbad)
      (by simp; omega)
    have hso := storeOnly_sputVia portLink (s := u) (a := s.cbus.imgBase + w.ofs) (ws := [wordN (s.n % 2 ^ 16)]) (.inr hbad)
    simp only [hcar, List.length_singleton] at hsw
    refine ⟨fun q => ⟨fun hr _ => ?_, fun i hi => ?_⟩, hshown'.of_rd (fun _ _ => rfl) fun p j =>
      ((hre _).2 p j (.inl (by simp))).trans (hso.rd p j)⟩
    · rw [(hre _).1 q, hsw, if_pos ⟨hr, by omega, by omega⟩, Nat.sub_self]
      rfl
    · rw [(hre _).1 q, hsw, if_neg, hsame q]
      rintro ⟨hr, h1, h2⟩
      rcases hi with hi | hi | hi
      · exact hi hr
      · exact absurd hi (by simp)
      · omega

theorem does_receiveWindowClose_of_none {c : Fin 2} {s : State} {k : Fin 256}
    (h : (s.bus c).waits.find? (fun w => w.slot == k.val) = none) : Does (.receiveWindowClose c k) s (fun t => Keeps .a s t []) := by
  refine does_nothing _ _ ?_
  show execReceiveWindowClose c k s = _
  simp only [execReceiveWindowClose, h]

/-- Settles O36, command by command: a poll's departure, a response, and the close of a receive window. -/
theorem pollsAndResponsesPass : Obligations.PollsAndResponsesPass := by
  unfold Obligations.PollsAndResponsesPass
  intro c s hc ha hb x b Reached
  have hreach : ∀ q, Reached q ↔ carries portLink s q = true := fun q => (carries_iff portLink s q).symm
  refine ⟨fun k dev mail hp h0 h4 => does_pollDeparture hc mail hp h0 h4, fun k dev mail hp hd => does_pollDeparture_off hc mail hp hd,
    fun k dev mail hp => does_pollDeparture_of_none dev mail hp, fun f w hst hfcs hok hkind hans hw => ⟨fun hm hroom => ?_, fun hm =>
      does_responseReceived_mgmt hc hst hfcs hok hkind hans hw hm⟩, fun f hst hfcs => does_responseReceived_bad hst hfcs,
    fun k w hfind hw => ⟨fun hg => does_receiveWindowClose_of_got hc hfind hg, fun hg hroom => ?_⟩,
    fun k hfind => does_receiveWindowClose_of_none hfind⟩
  · simp only [hreach]
    exact does_responseReceived_cyclic ha hb hst hfcs hok hkind hans hw hm hroom
  · simp only [hreach]
    refine (does_receiveWindowClose_of_missed ha hb hfind hw hg hroom).imp fun t ht => ?_
    obtain ⟨hsw, hshown⟩ := ht
    exact ⟨hsw, hshown.state, hshown.lost, hshown.count, hshown.run, hshown.missed, hshown.regs⟩

end Sys2Proof.Machine

/-! ## Position interfaces (R233 to R263) -/

namespace Sys2Proof.Machine

/-! ### Interfaces, their registers and their flags -/

theorem State.pif_setPif_same {s : State} {p : Nat} (x : PifSt) (h : p < s.sense.pifs.length) : (s.setPif p x).pif p = x := by
  simp [State.pif, State.setPif, nth, h]

theorem isDev_pifStatus (p : Fin 24) : isDev (R.PIF_STATUS p) = true := isDev_of_lt (by simp only [R.PIF_STATUS]; omega)

theorem pifFlags_ne_cnt (p : Fin 24) (j : Nat) : (bPIF p).flags ≠ (bPIF p).cnt + j / 4 := by
  simp only [bPIF, R.PIF_FLAGS, R.PIF_FLAG_CNT0]
  omega

theorem pifStatus_not_mem_flagSlots (p : Fin 24) (j : Nat) (hj : j < 16) : R.PIF_STATUS p ∉ flagSlots (bPIF p) j := by
  simp only [flagSlots, bPIF, R.PIF_STATUS, R.PIF_FLAGS, R.PIF_FLAG_CNT0, R.EVM_FLAGS, R.EVM_FLAG_CNT, List.mem_cons,
    List.not_mem_nil, or_false]
  omega

theorem pifFlags_ne_status (p : Fin 24) : R.PIF_FLAGS p ≠ R.PIF_STATUS p := by
  simp only [R.PIF_FLAGS, R.PIF_STATUS]
  omega

/-- No unit is armed: a change of count arms and disarms none (R251). -/
def NoneLive (s : State) : Prop := ∀ u : Fin 16, (s.cmp u).live = false

/-- The interfaces, the compare units and the intakes alone have changed, beside the registers `ks`. -/
structure SenseOnly (s t : State) (ks : List Nat) : Prop where
  leaves : Leaves .a s t ks
  now : t.now = s.now
  links : t.links = s.links
  red : t.red = s.red
  base : t.sense.smpBase = s.sense.smpBase
  len : t.sense.pifs.length = s.sense.pifs.length

theorem SenseOnly.refl (s : State) (ks : List Nat) : SenseOnly s s ks := ⟨.refl _ _ _, rfl, rfl, rfl, rfl, rfl⟩

theorem SenseOnly.trans {s t u : State} {ks : List Nat} (h1 : SenseOnly s t ks) (h2 : SenseOnly t u ks) : SenseOnly s u ks :=
  ⟨h1.leaves.trans h2.leaves, h2.now.trans h1.now, h2.links.trans h1.links, h2.red.trans h1.red, h2.base.trans h1.base, h2.len.trans h1.len⟩

theorem SenseOnly.mono {s t : State} {ks ls : List Nat} (h : SenseOnly s t ks) (hs : ∀ k ∈ ks, k ∈ ls) : SenseOnly s t ls :=
  { h with leaves := h.leaves.mono hs }

theorem SenseOnly.of_keeps {s t : State} {ks : List Nat} (h : Keeps .a s t ks) : SenseOnly s t ks :=
  ⟨h.leaves, h.now, h.links, h.red, congrArg SenseSt.smpBase h.sense, congrArg (fun x : SenseSt => x.pifs.length) h.sense⟩

theorem SenseOnly.of_setPif (p : Nat) (x : PifSt) (s : State) : SenseOnly s (s.setPif p x) [] :=
  ⟨.of_planes _ _ rfl rfl rfl, rfl, rfl, rfl, rfl, by simp [State.setPif]⟩

theorem SenseOnly.of_intakes {s t : State} (h : OnlyIntakes s t) : SenseOnly s t [] := by
  have hl := h.leaves .a []
  obtain ⟨_, _, rfl⟩ := h
  exact ⟨hl, rfl, rfl, rfl, rfl, rfl⟩

theorem pif_of_sense {s t : State} (h : t.sense = s.sense) (p : Nat) : t.pif p = s.pif p := by unfold State.pif; rw [h]

theorem OnlyIntakes.sense {s t : State} (h : OnlyIntakes s t) : t.sense = s.sense := by
  obtain ⟨_, _, rfl⟩ := h
  rfl

theorem keeps_raisePif (p : Fin 24) (j : Nat) (s : State) : Keeps .a s (raisePif p j s) (flagSlots (bPIF p) j) :=
  (Keeps.refl _ _ _).raise _ _ _ fun _ h => h

theorem flagged_raisePif (p : Fin 24) {j : Nat} (hj : j < 36) (s : State) : (raisePif p j s).flagged .a (bPIF p) j :=
  State.flagged_raise_self _ _ _ _ hj (pifFlags_ne_cnt p j)

theorem pif_raisePif (p : Fin 24) (j : Nat) (s : State) (q : Nat) : (raisePif p j s).pif q = s.pif q :=
  pif_of_sense (keeps_raisePif p j s).sense q

/-- The flags of an interface that are set remain so. -/
def PifFlagsStay (p : Fin 24) (s t : State) : Prop := ∀ i, s.flagged .a (bPIF p) i → t.flagged .a (bPIF p) i

theorem PifFlagsStay.of_leaves {p : Fin 24} {s t : State} {ks : List Nat} (h : Leaves .a s t ks) (hk : R.PIF_FLAGS p ∉ ks) :
    PifFlagsStay p s t := fun _ hi => State.flagged_of_rd (h.rd .a hk) hi

theorem PifFlagsStay.trans {p : Fin 24} {s t u : State} (h1 : PifFlagsStay p s t) (h2 : PifFlagsStay p t u) : PifFlagsStay p s u :=
  fun i h => h2 i (h1 i h)

theorem pifFlagsStay_raisePif (p : Fin 24) {j : Nat} (hj : j < 36) (s : State) : PifFlagsStay p s (raisePif p j s) :=
  fun _ h => State.flagged_raise_of_flagged h _ hj (pifFlags_ne_cnt p j)

theorem keeps_showPif (p : Fin 24) (s : State) : Keeps .a s (showPif p s) [R.PIF_STATUS p] := by
  have hd := isDev_pifStatus p
  exact ((((Keeps.refl _ _ _).dp _ _ _ (by simp) hd).dp _ _ _ (by simp) hd).dp _ _ _ (by simp) hd).dp _ _ _ (by simp) hd

theorem pif_showPif (p : Fin 24) (s : State) (q : Nat) : (showPif p s).pif q = s.pif q := pif_of_sense (keeps_showPif p s).sense q

theorem pifFlagsStay_showPif (p : Fin 24) (s : State) : PifFlagsStay p s (showPif p s) :=
  .of_leaves (keeps_showPif p s).leaves (by simpa using pifFlags_ne_status p)

/-! ### Counting while no unit is armed (R235, R251) -/

/-- Only the compare units have changed, and none is armed. -/
def CmpsOnly (s t : State) : Prop := (∃ c, t = { s with sense := { s.sense with cmps := c } }) ∧ NoneLive t

theorem CmpsOnly.refl {s : State} (h : NoneLive s) : CmpsOnly s s := ⟨⟨s.sense.cmps, rfl⟩, h⟩

theorem CmpsOnly.trans {s t u : State} (h1 : CmpsOnly s t) (h2 : CmpsOnly t u) : CmpsOnly s u := by
  obtain ⟨⟨_, rfl⟩, -⟩ := h1
  obtain ⟨⟨c, rfl⟩, h⟩ := h2
  exact ⟨⟨c, rfl⟩, h⟩

theorem CmpsOnly.pif {s t : State} (h : CmpsOnly s t) (p : Nat) : t.pif p = s.pif p := by
  obtain ⟨⟨_, rfl⟩, -⟩ := h
  rfl

theorem CmpsOnly.senseOnly {s t : State} (h : CmpsOnly s t) : SenseOnly s t [] := by
  obtain ⟨⟨_, rfl⟩, -⟩ := h
  exact ⟨.of_planes _ _ rfl rfl rfl, rfl, rfl, rfl, rfl, rfl⟩

theorem cmp_setCmp (s : State) (u v : Nat) (x : CmpSt) : (s.setCmp u x).cmp v = x ∨ (s.setCmp u x).cmp v = s.cmp v := by
  simp only [State.cmp, State.setCmp, nth, List.getD_eq_getElem?_getD, List.getElem?_set]
  split
  · split
    · exact .inl rfl
    · subst_vars
      exact .inr (by rw [List.getElem?_eq_none (by omega)])
  · exact .inr rfl

theorem cmpsOnly_setCmp {s : State} (h : NoneLive s) (u : Nat) {x : CmpSt} (hx : x.live = false) : CmpsOnly s (s.setCmp u x) := by
  refine ⟨⟨_, rfl⟩, fun v => ?_⟩
  rcases cmp_setCmp s u v x with hv | hv <;> rw [hv]
  · exact hx
  · exact h v

theorem cmpsOnly_commitFire {s : State} (h : NoneLive s) {u : Nat} (hu : u < 16) (t : Nat) (late : Bool) :
    CmpsOnly s (commitFire u t late s) := cmpsOnly_setCmp h u (h ⟨u, hu⟩)

theorem cmpsOnly_advanceCmp {s : State} (h : NoneLive s) {u : Nat} (hu : u < 16) : CmpsOnly s (advanceCmp u s) := by
  have hl : (s.cmp u).live = false := h ⟨u, hu⟩
  simp only [advanceCmp, hl]
  split
  · exact cmpsOnly_setCmp h u rfl
  · exact cmpsOnly_setCmp h u rfl

theorem CmpsOnly.ite {s t u : State} {c : Prop} [Decidable c] (h1 : CmpsOnly s t) (h2 : CmpsOnly s u) :
    CmpsOnly s (if c then t else u) := by
  split
  · exact h1
  · exact h2

theorem cmpsOnly_crossUnit {u : Nat} (hu : u < 16) (p : Nat) (old new : Int) (tx : Int → Nat) :
    ∀ (k : Nat) {s : State}, NoneLive s → CmpsOnly s (crossUnit u p old new tx k s)
  | 0, _, h => .refl h
  | k + 1, s, h => by
    unfold crossUnit
    have h1 := cmpsOnly_commitFire h hu (slotOf (tx (s.cmp u).c) + 500 * s.dg (R.CMP_DELAY u) F.CMP_DELAY_DELAY) false
    have h2 := h1.trans (cmpsOnly_advanceCmp h1.2 hu)
    exact .ite (h2.trans (cmpsOnly_crossUnit hu p old new tx k h2.2)) (.refl h)

theorem cmpsOnly_each {f : Nat → State → State} {l : List Nat} {s : State} (hf : ∀ u ∈ l, ∀ t, NoneLive t → CmpsOnly t (f u t))
    (h : NoneLive s) : CmpsOnly s (each l f s) :=
  each_keeps (P := CmpsOnly s) (fun u hu t ht => ht.trans (hf u hu t ht.2)) (.refl h)

theorem cmpsOnly_endCuts (p : Nat) {s : State} (h : NoneLive s) : CmpsOnly s (endCuts p s) := by
  refine cmpsOnly_each (fun u hu t ht => ?_) h
  split
  · exact cmpsOnly_setCmp ht u (ht ⟨u, List.mem_range.1 hu⟩)
  · exact .refl ht

/-- The count goes to its new value, with its direction, and the rest of the interface stays (R251). -/
theorem countTo_facts {p : Fin 24} (new : Int) (tx : Int → Nat) {s : State} (h : NoneLive s) (hp : s.sense.pifs.length = 24) :
    SenseOnly s (countTo p new tx s) [] ∧ NoneLive (countTo p new tx s)
    ∧ ∃ neg, (countTo p new tx s).pif p = { s.pif p with count := new, neg := neg } := by
  unfold countTo
  dsimp only
  split
  · next hn => exact ⟨.refl _ _, h, (s.pif p).neg, by rw [hn]⟩
  · have h1 : NoneLive (s.setPif p { s.pif p with count := new, neg := decide (new < (s.pif p).count) }) := h
    have h3 := cmpsOnly_each (f := fun u t => crossUnit u p (s.pif p).count new tx ((new - (s.pif p).count).natAbs + 1) t)
      (l := List.range 16) (fun u hu t ht => cmpsOnly_crossUnit (List.mem_range.1 hu) _ _ _ _ _ ht) h1
    exact ⟨(SenseOnly.of_setPif _ _ _).trans h3.senseOnly, h3.2, _, (h3.pif p).trans (State.pif_setPif_same _ (by rw [hp]; exact p.isLt))⟩

/-- The levels, ERR_ILLEGAL and the configuration of an interface. -/
def SameLevels (x y : PifSt) : Prop := y.a = x.a ∧ y.b = x.b ∧ y.illegal = x.illegal ∧ y.inForce = x.inForce

/-- A counted edge moves the count by its positions, with INV_DIR (R233, R235). -/
theorem countEdge_facts {p : Fin 24} (d : Int) (t : Nat) {s : State} (h : NoneLive s) (hp : s.sense.pifs.length = 24) :
    SenseOnly s (countEdge p d t s) [] ∧ SameLevels (s.pif p) ((countEdge p d t s).pif p)
    ∧ ((countEdge p d t s).pif p).count = (s.pif p).count + if (s.pif p).cfg 0 F.PIF_CFG_INV_DIR = 1 then -d else d := by
  unfold countEdge
  dsimp only
  split
  · next hd => exact ⟨.refl _ _, ⟨rfl, rfl, rfl, rfl⟩, by simp [hd]⟩
  · generalize (s.pif p).count + (if (s.pif p).cfg 0 F.PIF_CFG_INV_DIR = 1 then -d else d) = new
    have h1 : SenseOnly s (timeEdge p new t s) [] := .of_setPif _ _ _
    have hx : SameLevels (s.pif p) ((timeEdge p new t s).pif p) := by
      rw [timeEdge, State.pif_setPif_same _ (by rw [hp]; exact p.isLt)]
      exact ⟨rfl, rfl, rfl, rfl⟩
    have h0 : NoneLive (timeEdge p new t s) := h
    obtain ⟨h2, -, neg, hpif⟩ := countTo_facts (p := p) new (fun _ => t) h0 (h1.len.trans hp)
    rw [hpif]
    exact ⟨h1.trans h2, hx, rfl⟩

/-- A Picot of an interface changes its FIFO alone, beside the intakes, or drops with its flag (R249, R250). -/
theorem pifPicot_facts (p : Fin 24) (edge t : Nat) {s : State} (hp : s.sense.pifs.length = 24) :
    SenseOnly s (pifPicot p edge t s) (flagSlots (bPIF p) 6) ∧ PifFlagsStay p s (pifPicot p edge t s)
    ∧ ∃ fifo, (pifPicot p edge t s).pif p = { s.pif p with fifo := fifo } := by
  unfold pifPicot
  dsimp only
  split
  · exact ⟨.refl _ _, fun _ h => h, _, rfl⟩
  · split
    · exact ⟨.of_keeps (keeps_raisePif p 6 s), pifFlagsStay_raisePif p (by decide) s, _, pif_raisePif p 6 s p⟩
    · generalize hx : { s.pif p with fifo := (s.pif p).fifo ++ [picotOf 1 p edge false (s.pif p).neg 0 t (wordI (s.pif p).count)] } = x
      have h1 : SenseOnly s (s.setPif p x) [] := .of_setPif _ _ _
      have hpif : (s.setPif p x).pif p = x := State.pif_setPif_same _ (by rw [hp]; exact p.isLt)
      split
      · have hi := onlyIntakes_probeEdge senseLink 1 p (decide (edge % 2 = 1)) t (s.setPif p x)
        have h2 := h1.trans (.of_intakes hi)
        exact ⟨h2.mono (by simp), .of_leaves h2.leaves (by simp), _, ((pif_of_sense hi.sense p).trans hpif).trans hx.symm⟩
      · exact ⟨h1.mono (by simp), .of_leaves h1.leaves (by simp), _, hpif.trans hx.symm⟩

theorem abPicot_facts (p : Fin 24) (edge t : Nat) {s : State} (hp : s.sense.pifs.length = 24) :
    SenseOnly s (abPicot p edge t s) (flagSlots (bPIF p) 6) ∧ PifFlagsStay p s (abPicot p edge t s)
    ∧ SameLevels (s.pif p) ((abPicot p edge t s).pif p) ∧ ((abPicot p edge t s).pif p).count = (s.pif p).count := by
  unfold abPicot
  dsimp only
  split
  · exact ⟨.refl _ _, fun _ h => h, ⟨rfl, rfl, rfl, rfl⟩, rfl⟩
  · have h1 : SenseOnly s (s.setPif p { s.pif p with dec := (s.pif p).dec + 1 }) [] := .of_setPif _ _ _
    have hpif : (s.setPif p { s.pif p with dec := (s.pif p).dec + 1 }).pif p = { s.pif p with dec := (s.pif p).dec + 1 } :=
      State.pif_setPif_same _ (by rw [hp]; exact p.isLt)
    generalize s.setPif p { s.pif p with dec := (s.pif p).dec + 1 } = u at *
    have hs : PifFlagsStay p s u := .of_leaves h1.leaves (by simp)
    split
    · obtain ⟨h2, hs2, fifo, hf⟩ := pifPicot_facts p edge t (h1.len.trans hp)
      rw [hf, hpif]
      exact ⟨(h1.mono (by simp)).trans h2, hs.trans hs2, ⟨rfl, rfl, rfl, rfl⟩, rfl⟩
    · rw [hpif]
      exact ⟨h1.mono (by simp), hs, ⟨rfl, rfl, rfl, rfl⟩, rfl⟩

/-- With no edge selected there is no Picot. -/
theorem abPicot_of_unselected {p edge t : Nat} {s : State} (h : (s.pif p).cfg 0 F.PIF_CFG_PICOT_SEL = 0) : abPicot p edge t s = s :=
  if_pos (by simp [h, bitN])

/-! ### Edges of A and B (R234 to R236) -/

/-- What an edge of A or B in INC counts: two within ILL_NS count for nothing (R235, R236). -/
def incEdge (p : Nat) (onA level : Bool) (t : Nat) (s : State) : State :=
  let x := s.pif p
  let a1 := if onA then level else x.a
  let b1 := if onA then x.b else level
  let s1 := s.setPif p { x with a := a1, b := b1 }
  match x.pairOf onA t with
  | some u => illegalPair p u s1
  | none => countEdge p (incCount (x.cfg 1 F.PIF_INC_CFG_MULT) onA x.a x.b a1 b1) t (s1.setPif p { s1.pif p with undo := some (x.before onA t) })

theorem exec_pifEdge_of_short {p : Fin 24} {line : PifLine} {level : Bool} {at' held : Nat} {other : Option Nat} {s : State}
    (h : held < 4 * (s.pif p).cfg 0 F.PIF_CFG_FILT) : exec (.pifEdge p line level at' held other) s = settled s :=
  congrArg settled (if_pos h)

theorem exec_pifEdge {p : Fin 24} {onA level : Bool} {at' held : Nat} {s : State} (hm : (s.pif p).mode = 1)
    (hl : (if onA then (s.pif p).a else (s.pif p).b) ≠ level) (hh : 4 * (s.pif p).cfg 0 F.PIF_CFG_FILT ≤ held) :
    exec (.pifEdge p (if onA then .a else .b) level at' held none) s
      = settled (showPif p (abPicot p (edgeCode (if onA then .a else .b) level) (500 * at') (incEdge p onA level (500 * at')
          (s.toTime (500 * at'))))) := by
  refine congrArg settled ((if_neg (by omega)).trans (congrArg (showPif p) ?_))
  have hm' : ((s.toTime (500 * at')).pif p).mode = 1 := hm
  cases onA with
  | true =>
    have hl' : ((s.toTime (500 * at')).pif p).a ≠ level := hl
    simp only [pifEdge, incEdge, hm', if_true, if_neg hl', decide_true] <;> rfl
  | false =>
    have hl' : ((s.toTime (500 * at')).pif p).b ≠ level := hl
    simp only [pifEdge, incEdge, hm', Bool.false_eq_true, if_false, if_neg hl', reduceCtorEq, decide_false] <;> rfl

/-- An edge: the levels follow, and the count moves by what the edge counts, or goes back to where an illegal pair found it. -/
theorem incEdge_facts {p : Fin 24} (onA level : Bool) (t : Nat) {s : State} (h : NoneLive s) (hp : s.sense.pifs.length = 24) :
    let x := s.pif p
    let d := incCount (x.cfg 1 F.PIF_INC_CFG_MULT) onA x.a x.b (if onA then level else x.a) (if onA then x.b else level)
    let u := incEdge p onA level t s
    SenseOnly s u (if x.pairOf onA t = none then [] else flagSlots (bPIF p) 1)
    ∧ (u.pif p).a = (if onA then level else x.a) ∧ (u.pif p).b = (if onA then x.b else level) ∧ (u.pif p).inForce = x.inForce
    ∧ match x.pairOf onA t with
      | none => (u.pif p).count = x.count + if x.cfg 0 F.PIF_CFG_INV_DIR = 1 then -d else d
      | some w => (u.pif p).count = w.count ∧ (u.pif p).illegal = true ∧ u.flagged .a (bPIF p) 1 := by
  unfold incEdge
  dsimp only
  generalize hx : { s.pif p with a := if onA then level else (s.pif p).a, b := if onA then (s.pif p).b else level } = x
  have h1 : SenseOnly s (s.setPif p x) [] := .of_setPif _ _ _
  have hpif : (s.setPif p x).pif p = x := State.pif_setPif_same _ (by rw [hp]; exact p.isLt)
  have hlive : NoneLive (s.setPif p x) := h
  generalize s.setPif p x = s1 at *
  have hp1 := h1.len.trans hp
  cases hpair : (s.pif p).pairOf onA t with
  | none =>
    have hu : SenseOnly s1 (s1.setPif p { s1.pif p with undo := some ((s.pif p).before onA t) }) [] := .of_setPif _ _ _
    have hupif : (s1.setPif p { s1.pif p with undo := some ((s.pif p).before onA t) }).pif p
        = { x with undo := some ((s.pif p).before onA t) } := by
      rw [State.pif_setPif_same _ (by rw [hp1]; exact p.isLt), hpif]
    have hulive : NoneLive (s1.setPif p { s1.pif p with undo := some ((s.pif p).before onA t) }) := hlive
    generalize s1.setPif p { s1.pif p with undo := some ((s.pif p).before onA t) } = s2 at *
    obtain ⟨h3, ⟨ha, hb, -, hf⟩, hc⟩ := countEdge_facts (p := p) (incCount ((s.pif p).cfg 1 F.PIF_INC_CFG_MULT) onA (s.pif p).a (s.pif p).b
      (if onA then level else (s.pif p).a) (if onA then (s.pif p).b else level)) t hulive (hu.len.trans hp1)
    rw [hupif, ← hx] at ha hb hf hc
    exact ⟨(h1.trans hu).trans h3, ha, hb, hf, hc⟩
  | some w =>
    have hi := SenseOnly.of_setPif p { s1.pif p with
      count := w.count, neg := w.neg, edges := w.edges, last := w.last, t0 := w.t0, tk := w.tk, tj := w.tj, since := w.since
      turned := w.turned, illegal := true, undo := none } s1
    have hk := keeps_raisePif p 1 (s1.setPif p { s1.pif p with
      count := w.count, neg := w.neg, edges := w.edges, last := w.last, t0 := w.t0, tk := w.tk, tj := w.tj, since := w.since
      turned := w.turned, illegal := true, undo := none })
    have hpu : (illegalPair p w s1).pif p = { x with
      count := w.count, neg := w.neg, edges := w.edges, last := w.last, t0 := w.t0, tk := w.tk, tj := w.tj, since := w.since
      turned := w.turned, illegal := true, undo := none } := by
      rw [illegalPair, pif_raisePif, State.pif_setPif_same _ (by rw [hp1]; exact p.isLt), hpif]
    dsimp only
    rw [hpu, if_neg (by simp)]
    exact ⟨((h1.trans hi).mono (by simp)).trans (.of_keeps hk), by rw [← hx], by rw [← hx], by rw [← hx], rfl, rfl,
      flagged_raisePif p (by decide) _⟩

/-- An edge of A or B: the levels follow, and the count goes one up or down, or counts for nothing (R235, R236). -/
theorem does_pifEdge {p : Fin 24} {s : State} (hp : s.sense.pifs.length = 24) (h : NoneLive s) {onA level : Bool} {at' held : Nat}
    (hm : (s.pif p).mode = 1) (hl : (if onA then (s.pif p).a else (s.pif p).b) ≠ level)
    (hh : 4 * (s.pif p).cfg 0 F.PIF_CFG_FILT ≤ held) :
    let x := s.pif p
    let a1 := if onA then level else x.a
    let b1 := if onA then x.b else level
    let d := incCount (x.cfg 1 F.PIF_INC_CFG_MULT) onA x.a x.b a1 b1
    Does (.pifEdge p (if onA then .a else .b) level at' held none) s (fun t => (t.pif p).a = a1 ∧ (t.pif p).b = b1
      ∧ t.now = max s.now (500 * at') ∧ SameStores s t ∧ match x.pairOf onA (500 * at') with
        | none => (t.pif p).count = x.count + if x.cfg 0 F.PIF_CFG_INV_DIR = 1 then -d else d
        | some u => (t.pif p).count = u.count ∧ (t.pif p).illegal = true ∧ t.flagged .a (bPIF p) 1) := by
  intro x a1 b1 d
  refine does_of_exec (exec_pifEdge hm hl hh) ?_
  have h0 := leaves_toTime .a (500 * at') s []
  have hn0 : (s.toTime (500 * at')).now = max s.now (500 * at') := rfl
  have hp0 : (s.toTime (500 * at')).sense.pifs.length = 24 := hp
  obtain ⟨h1, ha, hb, hf, hc⟩ := incEdge_facts (p := p) onA level (500 * at') (s := s.toTime (500 * at')) h hp
  have hx : (s.toTime (500 * at')).pif p = x := rfl
  rw [hx] at h1 ha hb hf hc
  generalize s.toTime (500 * at') = s0 at *
  generalize incEdge p onA level (500 * at') s0 = s1 at *
  obtain ⟨h2, hs2, ⟨ha2, hb2, hi2, -⟩, hc2⟩ := abPicot_facts p (edgeCode (if onA then .a else .b) level) (500 * at') (h1.len.trans hp0)
  generalize abPicot p (edgeCode (if onA then .a else .b) level) (500 * at') s1 = s2 at *
  have hk := (keeps_showPif p s2).recheck
  have hpif : (belRecheck (showPif p s2)).pif p = s2.pif p := pif_of_sense hk.sense p
  rw [hpif]
  refine ⟨ha2.trans ha, hb2.trans hb, ((hk.now.trans h2.now).trans h1.now).trans hn0,
    ((h0.1.trans h1.leaves.1).trans h2.leaves.1).trans hk.leaves.1, ?_⟩
  cases hpair : x.pairOf onA (500 * at') with
  | none =>
    rw [hpair] at hc
    exact hc2.trans hc
  | some u =>
    rw [hpair] at hc
    obtain ⟨hcu, hiu, hfu⟩ := hc
    exact ⟨hc2.trans hcu, hi2.trans hiu, (State.flagged_belRecheck _ _ _ _).2 (pifFlagsStay_showPif p s2 1 (hs2 1 hfu))⟩

/-- What a rising edge of A counts against the level of B (R235). -/
theorem incCount_riseA (b : Bool) : incCount 1 true false b true b = if b then -1 else 1 := by cases b <;> decide

/-- A rising edge of A that makes no Picot: the count goes one up or down against the level of B (R235). -/
theorem does_pifEdge_riseA {p : Fin 24} {s : State} (hp : s.sense.pifs.length = 24) (h : NoneLive s) {b : Bool} {at' held : Nat}
    (hm : (s.pif p).mode = 1) (ha : (s.pif p).a = false) (hb : (s.pif p).b = b) (hmult : (s.pif p).cfg 1 F.PIF_INC_CFG_MULT = 1)
    (hinv : (s.pif p).cfg 0 F.PIF_CFG_INV_DIR = 0) (hsel : (s.pif p).cfg 0 F.PIF_CFG_PICOT_SEL = 0)
    (hh : 4 * (s.pif p).cfg 0 F.PIF_CFG_FILT ≤ held) (hpair : (s.pif p).pairOf true (500 * at') = none) :
    Does (.pifEdge p .a true at' held none) s (fun t => (t.pif p).count = (if b then (s.pif p).count - 1 else (s.pif p).count + 1)
      ∧ (t.pif p).a = true ∧ (t.pif p).b = b ∧ t.now = max s.now (500 * at') ∧ SameStores s t ∧ RegsKept .a s t [R.PIF_STATUS p]) := by
  refine does_of_exec (exec_pifEdge (onA := true) hm (by simp [ha]) hh) ?_
  have h0 := leaves_toTime .a (500 * at') s []
  have hn0 : (s.toTime (500 * at')).now = max s.now (500 * at') := rfl
  obtain ⟨h1, ha1, hb1, hf, hc⟩ := incEdge_facts (p := p) true true (500 * at') (s := s.toTime (500 * at')) h hp
  have hx : (s.toTime (500 * at')).pif p = s.pif p := rfl
  rw [hx] at h1 ha1 hb1 hf hc
  rw [hpair] at hc h1
  rw [if_pos rfl] at h1
  dsimp only at hc
  rw [if_neg (by omega), if_pos rfl, if_pos rfl, hmult, ha, hb, incCount_riseA] at hc
  generalize s.toTime (500 * at') = s0 at *
  generalize incEdge p true true (500 * at') s0 = s1 at *
  have hsel1 : (s1.pif p).cfg 0 F.PIF_CFG_PICOT_SEL = 0 := by rw [PifSt.cfg, hf]; exact hsel
  rw [abPicot_of_unselected hsel1]
  have hk := (keeps_showPif p s1).recheck
  have hpif : (belRecheck (showPif p s1)).pif p = s1.pif p := pif_of_sense hk.sense p
  have hl := ((h0.trans h1.leaves).mono (by simp)).andKeeps hk
  rw [hpif]
  refine ⟨hc.trans ?_, ha1, hb1.trans hb, (hk.now.trans h1.now).trans hn0, hl.1, hl.2⟩
  cases b <;> rfl

theorem does_pifEdge_of_short {p : Fin 24} {line : PifLine} {level : Bool} {at' held : Nat} {other : Option Nat} {s : State}
    (h : held < 4 * (s.pif p).cfg 0 F.PIF_CFG_FILT) : Does (.pifEdge p line level at' held other) s (fun t => Keeps .a s t []) :=
  does_nothing _ _ (exec_pifEdge_of_short h)

end Sys2Proof.Machine

namespace Sys2Proof.Machine

/-! ### SINCOS conversions (R239, R240) -/

/-- The scaled channels of a conversion (R239). -/
def scA (p : Nat) (sn : BitVec 18) (s : State) : Int :=
  (sn.toInt - signedOf 18 (F.PIF_SC_OFS_S.get (s.rd .a (R.PIF_SC_OFS p)))) * F.PIF_SC_OFS_S.get (s.rd .a (R.PIF_SC_GAIN p))
def scB (p : Nat) (cs : BitVec 18) (s : State) : Int :=
  (cs.toInt - signedOf 18 (F.PIF_SC_OFS_C.get (s.rd .a (R.PIF_SC_OFS p)))) * F.PIF_SC_OFS_C.get (s.rd .a (R.PIF_SC_GAIN p))

/-- A conversion whose amplitude is in its limits, and was so before (R240). -/
structure GoodConversion (p : Nat) (x : PifSt) (a b : Int) (s : State) : Prop where
  mode : x.mode = 3
  interp : 2 ≤ x.cfg 2 F.PIF_SC_CFG_INTERP_LOG2
  good : s.dg (R.PIF_STATUS p) F.PIF_STATUS_AMP_BAD = 0
  low : (x.cfg 2 F.PIF_SC_CFG_AMP_LO : Int) * 2 ^ 64 ≤ (a * a + b * b) * 256
  high : (a * a + b * b) * 256 ≤ (x.cfg 2 F.PIF_SC_CFG_AMP_HI : Int) * 2 ^ 64
  angle : a ≠ 0 ∨ b ≠ 0

/-- The value of R239 for a fine angle `th` and the quadrant count of the conversion before. -/
def scValue (i th : Nat) (qc : Int) : Int :=
  2 ^ (i - 2) * ((quadrantNear qc (th / 2 ^ (i - 2))).getD qc)
    + ((if (quadrantNear qc (th / 2 ^ (i - 2))).isNone then 0 else th % 2 ^ (i - 2) : Nat) : Int)

/-- What a conversion moves the count by. -/
def scMove (x : PifSt) (val : Int) : Int :=
  match x.fine with
  | none => 0
  | some v => if x.cfg 0 F.PIF_CFG_INV_DIR = 1 then v - val else val - v

/-- What a conversion keeps beside the count. -/
def scKept (x : PifSt) (amp : Nat) (qc val : Int) (lost : Bool) (conv : List (Int × Nat)) : PifSt :=
  { x with amp := amp, qc := some qc, fine := some val, sync := lost, edges := x.edges + 1, conv := conv }

theorem exec_sincosConversion {p : Fin 24} {sn cs : BitVec 18} {at' : Nat} {s : State}
    (h : GoodConversion p (s.pif p) (scA p sn s) (scB p cs s) s) :
    let x := s.pif p
    let i := x.cfg 2 F.PIF_SC_CFG_INTERP_LOG2
    let th := fineAngle i (scA p sn s) (scB p cs s)
    let qc := x.qc.getD (th / 2 ^ (i - 2) : Nat)
    let lost := (quadrantNear qc (th / 2 ^ (i - 2))).isNone
    let s3 := if lost then raisePif p 5 (s.toTime (500 * at')) else s.toTime (500 * at')
    ∃ amp tx conv, exec (.sincosConversion p sn cs at') s = settled (showPif p (endCuts p (countTo p
      (x.count + scMove x (scValue i th qc)) tx (s3.setPif p (scKept x amp qc (scValue i th qc) lost conv))))) := by
  obtain ⟨hm, hi, hg, hlo, hhi, hz⟩ := h
  have hout : (decide ((scA p sn s * scA p sn s + scB p cs s * scB p cs s) * 256 < ((s.pif p).cfg 2 F.PIF_SC_CFG_AMP_LO : Int) * 2 ^ 64)
      || decide (((s.pif p).cfg 2 F.PIF_SC_CFG_AMP_HI : Int) * 2 ^ 64 < (scA p sn s * scA p sn s + scB p cs s * scB p cs s) * 256)) = false := by
    simp only [Bool.or_eq_false_iff, decide_eq_false_iff_not]
    omega
  have hbad : (s.dg (R.PIF_STATUS p) F.PIF_STATUS_AMP_BAD == 1) = false := by rw [hg]; rfl
  have hz' : ¬ (scA p sn s = 0 ∧ scB p cs s = 0) := by tauto
  have hn : ¬ max 1 ((s.pif p).cfg 2 F.PIF_SC_CFG_AMP_N) ≤ 0 := by omega
  show ∃ amp tx conv, execSincosConversion p sn cs at' s = _
  unfold execSincosConversion
  extract_lets x sgn ofs gain a b i amp out bad n flip bad' s0 s1 dr th s2 qf qc fq val lost s3 d new told tx z y
  have hn0 : n = 0 := if_neg (by rw [show out = false from hout, show bad = false from hbad]; decide)
  have hflip : flip = false := decide_eq_false (by rw [hn0]; exact hn)
  have hbad' : bad' = false := (if_neg (by rw [hflip]; decide)).trans hbad
  have hs1 : s1 = s0 := if_neg (by rw [hflip]; decide)
  have hs2 : s2 = s0 := (if_neg hz').trans hs1
  have hth : th = fineAngle i (scA p sn s) (scB p cs s) := if_neg hz'
  have hlost : lost = fq.isNone := by simp only [lost, hbad', Bool.not_false, Bool.and_true]
  have hval : val = scValue i th qc := by
    simp only [val, hbad', Bool.false_eq_true, if_false, Bool.false_or]
    rfl
  have hd : d = scMove x val := rfl
  have hs3 : s3 = if fq.isNone then raisePif p 5 s0 else s0 := by simp only [s3, hlost, hs2]
  have hx : s3.pif p = x := by
    rw [hs3]
    split
    · exact pif_raisePif p 5 s0 p
    · rfl
  have hy : y = scKept x y.amp qc val lost y.conv := by
    simp only [y, show z = x from hx, scKept]
  refine ⟨y.amp, tx, y.conv, ?_⟩
  rw [if_neg (not_not.2 hm), hy]
  have hnew : new = x.count + scMove x (scValue i th qc) := congrArg (fun v => x.count + scMove x v) hval
  rw [hnew, hval, hlost, hs3]
  simp only [fq, qf, qc, hth]
  rfl

/-- The fine angle is a part of one period. -/
theorem fineAngle_lt (i : Nat) (sn cs : Int) : fineAngle i sn cs < 2 ^ i := by
  unfold fineAngle
  dsimp only
  split
  · next h => rw [h]; exact Nat.mod_lt _ (by decide)
  · exact Nat.mod_lt _ (Nat.two_pow_pos i)

/-- Its quadrant is one of four. -/
theorem fineAngle_quadrant {i : Nat} (hi : 2 ≤ i) (sn cs : Int) : fineAngle i sn cs / 2 ^ (i - 2) < 4 := by
  have h := fineAngle_lt i sn cs
  have he : 2 ^ i = 4 * 2 ^ (i - 2) := by
    rw [show (4 : Nat) = 2 ^ 2 from rfl, ← Nat.pow_add]
    congr 1
    omega
  exact (Nat.div_lt_iff_lt_mul (Nat.two_pow_pos _)).2 (by omega)

/-- The first conversion takes its quadrant count from the angle. -/
theorem quadrantNear_self {q : Nat} (h : q < 4) : quadrantNear q q = some (q : Int) := by
  have : (q : Int) % 4 = q := by omega
  simp [quadrantNear, this]

theorem scValue_self {i th : Nat} (h : th / 2 ^ (i - 2) < 4) : scValue i th (th / 2 ^ (i - 2) : Nat) = th := by
  rw [scValue, quadrantNear_self h]
  simp only [Option.getD_some, Option.isNone_some, Bool.false_eq_true, if_false]
  have := Nat.div_add_mod th (2 ^ (i - 2))
  exact_mod_cast this

/-- What a conversion leaves: the count, the interface and its flags. -/
theorem conversion_facts {p : Fin 24} {s : State} (h : NoneLive s) (hp : s.sense.pifs.length = 24) (new : Int) (tx : Int → Nat) (y : PifSt) :
    let u := belRecheck (showPif p (endCuts p (countTo p new tx (s.setPif p y))))
    Leaves .a s u [R.PIF_STATUS p] ∧ PifFlagsStay p s u ∧ ∃ neg, u.pif p = { y with count := new, neg := neg } := by
  have h1 : SenseOnly s (s.setPif p y) [] := .of_setPif _ _ _
  have hpif : (s.setPif p y).pif p = y := State.pif_setPif_same _ (by rw [hp]; exact p.isLt)
  have hlive : NoneLive (s.setPif p y) := h
  generalize s.setPif p y = s1 at *
  obtain ⟨h2, hlive2, neg, hc⟩ := countTo_facts (p := p) new tx hlive (h1.len.trans hp)
  generalize countTo p new tx s1 = s2 at *
  have h3 := cmpsOnly_endCuts p hlive2
  generalize endCuts p s2 = s3 at *
  have hk := (keeps_showPif p s3).recheck
  have hl : Leaves .a s s3 [] := (h1.leaves.trans h2.leaves).trans h3.senseOnly.leaves
  have hu := (hl.mono (by simp)).andKeeps hk
  refine ⟨hu, .of_leaves hu (by simpa using pifFlags_ne_status p), neg, ?_⟩
  rw [pif_of_sense hk.sense, h3.pif, hc, hpif]

/-- The first good conversion takes the fine angle and leaves the count (R239). -/
theorem does_sincosConversion_first {p : Fin 24} {sn cs : BitVec 18} {at' : Nat} {s : State} (hp : s.sense.pifs.length = 24)
    (hlive : NoneLive s) (h : GoodConversion p (s.pif p) (scA p sn s) (scB p cs s) s) (hqc : (s.pif p).qc = none)
    (hfine : (s.pif p).fine = none) : Does (.sincosConversion p sn cs at') s (fun t => (t.pif p).count = (s.pif p).count
      ∧ (t.pif p).fine = some (fineAngle ((s.pif p).cfg 2 F.PIF_SC_CFG_INTERP_LOG2) (scA p sn s) (scB p cs s) : Nat)
      ∧ (t.pif p).edges = (s.pif p).edges + 1 ∧ SameStores s t ∧ RegsKept .a s t [R.PIF_STATUS p]) := by
  obtain ⟨amp, tx, conv, hex⟩ := exec_sincosConversion (at' := at') h
  refine does_of_exec hex ?_
  have hq := fineAngle_quadrant h.interp (scA p sn s) (scB p cs s)
  generalize fineAngle ((s.pif p).cfg 2 F.PIF_SC_CFG_INTERP_LOG2) (scA p sn s) (scB p cs s) = th at *
  have hmove : ∀ v, scMove (s.pif p) v = 0 := fun v => by rw [scMove, hfine]
  rw [hqc, Option.getD_none, scValue_self hq, quadrantNear_self hq, hmove, if_neg (by simp)]
  have h0 := leaves_toTime .a (500 * at') s [R.PIF_STATUS p]
  obtain ⟨hu, -, neg, hpif⟩ := conversion_facts (p := p) (s := s.toTime (500 * at')) hlive hp ((s.pif p).count + 0) tx
    (scKept (s.pif p) amp (th / 2 ^ ((s.pif p).cfg 2 F.PIF_SC_CFG_INTERP_LOG2 - 2) : Nat) th (some ((th / 2 ^ ((s.pif p).cfg 2
      F.PIF_SC_CFG_INTERP_LOG2 - 2) : Nat) : Int)).isNone conv)
  have hl := h0.trans hu
  rw [hpif]
  exact ⟨add_zero _, rfl, rfl, hl.1, hl.2⟩

/-- A conversion whose angle and quadrant count have names. -/
theorem exec_sincosConversion_of {p : Fin 24} {sn cs : BitVec 18} {at' : Nat} {s : State}
    (h : GoodConversion p (s.pif p) (scA p sn s) (scB p cs s) s) {i th : Nat} {qc : Int}
    (hi : (s.pif p).cfg 2 F.PIF_SC_CFG_INTERP_LOG2 = i) (hth : fineAngle i (scA p sn s) (scB p cs s) = th)
    (hqc : (s.pif p).qc = some qc) :
    let lost := (quadrantNear qc (th / 2 ^ (i - 2))).isNone
    ∃ amp tx conv, exec (.sincosConversion p sn cs at') s = settled (showPif p (endCuts p (countTo p
      ((s.pif p).count + scMove (s.pif p) (scValue i th qc)) tx
      ((if lost then raisePif p 5 (s.toTime (500 * at')) else s.toTime (500 * at')).setPif p
        (scKept (s.pif p) amp qc (scValue i th qc) lost conv))))) := by
  have hex := exec_sincosConversion (at' := at') h
  dsimp only at hex
  rw [hi, hth, hqc] at hex
  exact hex

/-- A good conversion after another one moves the count by the fine angle, or loses it (R239). -/
theorem does_sincosConversion_next {p : Fin 24} {sn cs : BitVec 18} {at' : Nat} {s : State} (hp : s.sense.pifs.length = 24)
    (hlive : NoneLive s) (h : GoodConversion p (s.pif p) (scA p sn s) (scB p cs s) s) {v qc : Int} (hqc : (s.pif p).qc = some qc)
    (hfine : (s.pif p).fine = some v) {i th : Nat} (hi : (s.pif p).cfg 2 F.PIF_SC_CFG_INTERP_LOG2 = i)
    (hth : fineAngle i (scA p sn s) (scB p cs s) = th) :
    Does (.sincosConversion p sn cs at') s (fun t => SameStores s t ∧ match quadrantNear qc (th / 2 ^ (i - 2)) with
      | some n =>
        let new := 2 ^ (i - 2) * n + (th % 2 ^ (i - 2) : Nat)
        (t.pif p).fine = some new ∧ (t.pif p).count = (s.pif p).count + if (s.pif p).cfg 0 F.PIF_CFG_INV_DIR = 1 then v - new else new - v
      | none => t.flagged .a (bPIF p) 5 ∧ (t.pif p).sync = true) := by
  obtain ⟨amp, tx, conv, hex⟩ := exec_sincosConversion_of (at' := at') h hi hth hqc
  refine does_of_exec hex ?_
  clear hth hex
  have hmove : ∀ w, scMove (s.pif p) w = if (s.pif p).cfg 0 F.PIF_CFG_INV_DIR = 1 then v - w else w - v := fun w => by rw [scMove, hfine]
  have h0 := leaves_toTime .a (500 * at') s []
  cases hn : quadrantNear qc (th / 2 ^ (i - 2)) with
  | some n =>
    have hval : scValue i th qc = 2 ^ (i - 2) * n + (th % 2 ^ (i - 2) : Nat) := by
      simp only [scValue, hn, Option.getD_some, Option.isNone_some, Bool.false_eq_true, if_false]
    simp only [Option.isNone_some, Bool.false_eq_true, if_false]
    obtain ⟨hu, -, neg, hpif⟩ := conversion_facts (p := p) (s := s.toTime (500 * at')) hlive hp
      ((s.pif p).count + scMove (s.pif p) (scValue i th qc)) tx (scKept (s.pif p) amp qc (scValue i th qc) false conv)
    rw [hpif]
    refine ⟨h0.1.trans hu.1, congrArg some hval, ?_⟩
    rw [← hval, ← hmove]
  | none =>
    simp only [Option.isNone_none, if_true]
    have hk := keeps_raisePif p 5 (s.toTime (500 * at'))
    have hlive' : NoneLive (raisePif p 5 (s.toTime (500 * at'))) := fun u => by
      have : (raisePif p 5 (s.toTime (500 * at'))).cmp u = s.cmp u := by unfold State.cmp; rw [hk.sense]; rfl
      rw [this]; exact hlive u
    obtain ⟨hu, hstay, neg, hpif⟩ := conversion_facts (p := p) hlive' ((congrArg (fun x : SenseSt => x.pifs.length) hk.sense).trans hp)
      ((s.pif p).count + scMove (s.pif p) (scValue i th qc)) tx (scKept (s.pif p) amp qc (scValue i th qc) true conv)
    rw [hpif]
    exact ⟨(h0.1.trans hk.leaves.1).trans hu.1, hstay 5 (flagged_raisePif p (by decide) _), rfl⟩

end Sys2Proof.Machine

namespace Sys2Proof.Machine

/-! ### Velocity that times out (R246) -/

theorem does_velTimeout {p : Fin 24} {s : State} (hp : s.sense.pifs.length = 24) {l : Int × Nat}
    (hm : (s.pif p).mode = 1 ∨ (s.pif p).mode = 2) (hl : (s.pif p).last = some l) :
    Does (.velTimeout p) s (fun t => (t.pif p).v = 0 ∧ (t.pif p).r = 0
      ∧ t.now = max s.now (l.2 + 1000000000 * max 1 (s.dg (R.PIF_VEL_CFG p) F.PIF_VEL_CFG_VEL_TMO)) ∧ SameStores s t
      ∧ RegsKept .a s t []) := by
  generalize htmo : l.2 + 1000000000 * max 1 (s.dg (R.PIF_VEL_CFG p) F.PIF_VEL_CFG_VEL_TMO) = tmo
  have hex : exec (.velTimeout p) s = settled ((s.toTime tmo).setPif p { s.pif p with r := 0, v := 0 }) := by
    show execVelTimeout p s = _
    simp only [execVelTimeout, hl, if_pos hm, htmo]
  refine does_of_exec hex ?_
  have h1 := SenseOnly.of_setPif p { s.pif p with r := 0, v := 0 } (s.toTime tmo)
  have hpif : ((s.toTime tmo).setPif p { s.pif p with r := 0, v := 0 }).pif p = { s.pif p with r := 0, v := 0 } :=
    State.pif_setPif_same _ (by rw [show (s.toTime tmo).sense = s.sense from rfl, hp]; exact p.isLt)
  generalize (s.toTime tmo).setPif p { s.pif p with r := 0, v := 0 } = u at *
  have hk := (Keeps.refl .a u []).recheck
  have hall := ((leaves_toTime .a tmo s []).trans h1.leaves).andKeeps hk
  rw [pif_of_sense hk.sense, hpif]
  exact ⟨rfl, rfl, hk.now.trans h1.now, hall.1, hall.2⟩

/-! ### Serial frames and their samples (R241 to R245) -/

/-- The place of an interface's sample (R245). -/
def smpAddr (p : Nat) (s : State) : Nat := s.sense.smpBase / 128 * 128 + 4 * p

/-- A sample stands in each store that the links reach: the count without what the commands of the cycle added, and the velocity. -/
def PifSampled (p : Nat) (setBy : Int) (s t : State) : Prop :=
  (∀ q a, a / 4 ≠ smpAddr p s / 4 → t.sw q a = s.sw q a)
  ∧ ∀ q, s.linkUp (senseLink q) = true → s.linkUp (storeLink q) = true → (s.ward q).inReset = false → smpAddr p s + 4 ≤ storeWords →
    t.sw q (smpAddr p s) = lo72 (((t.pif p).count - setBy) % 2 ^ 72).toNat ∧ t.sw q (smpAddr p s + 2) = (t.pif p).v

/-- A delivery of four words to a place of its own: they stand where the links carry them, and no other word changes. -/
theorem sw_record {l : Plane → Link} {a : Nat} {w : List Word} (s : State) (h4 : a % 4 = 0) (hw : w.length = 4) :
    (∀ q b, b / 4 ≠ a / 4 → (s.sputVia l a w).sw q b = s.sw q b)
    ∧ ∀ q, carries l s q = true → a + 4 ≤ storeWords → ∀ i < 4, (s.sputVia l a w).sw q (a + i) = nth w i 0 := by
  by_cases ha : a + 4 ≤ storeWords
  · have hsw := State.sw_sputVia l (s := s) (a := a) (ws := w) (.inl ⟨by omega, by omega⟩) (by omega)
    refine ⟨fun q b hb => ?_, fun q hq _ i hi => ?_⟩
    · rw [hsw, if_neg (by omega)]
    · rw [hsw, if_pos ⟨hq, by omega, by omega⟩, Nat.add_sub_cancel_left]
  · have h : storeWords ≤ a := by
      have : storeWords % 4 = 0 := by decide
      omega
    rw [State.sputVia_of_beyond l w s h]
    exact ⟨fun _ _ _ => rfl, fun _ _ h => absurd h ha⟩

/-- The sample after a frame (R244, R245). -/
theorem serialSample_facts {p : Fin 24} (err warn : Bool) {s0 s : State} {ks : List Nat} (hp : s0.sense.pifs.length = 24)
    (h : SenseOnly s0 s ks) : let t := belRecheck (serialSample p err warn s)
    (t.pif p).count = (s.pif p).count ∧ PifSampled p ((s.pif p).setBy.getD 0) s0 t ∧ PifFlagsStay p s t
    ∧ RegsKept .a s0 t (R.PIF_STATUS p :: ks) := by
  intro t
  obtain ⟨s1, hs1, x, hx, hcount, hset⟩ : ∃ s1, s1 = velocity p (s.atOfs R.TIM_CYC_ACT_SYNC_OFS) s
      ∧ ∃ x, s1 = s.setPif p x ∧ x.count = (s.pif p).count ∧ x.setBy = (s.pif p).setBy := ⟨_, rfl, _, rfl, rfl, rfl⟩
  have h1 : SenseOnly s s1 [] := hx ▸ .of_setPif _ _ _
  have hpif1 : s1.pif p = x := by rw [hx]; exact State.pif_setPif_same _ (by rw [h.len.trans hp]; exact p.isLt)
  have hk := keeps_showPif p s1
  obtain ⟨w, hw, hw0, hw2, hput⟩ : ∃ w : List Word, w.length = 4
      ∧ nth w 0 0 = lo72 ((x.count - x.setBy.getD 0) % 2 ^ 72).toNat ∧ nth w 2 0 = x.v
      ∧ serialSample p err warn s = (showPif p s1).sputVia senseLink (smpAddr p s1) w := by
    rw [serialSample, ← hs1, ← hpif1]
    exact ⟨_, rfl, rfl, rfl, rfl⟩
  have hbase : smpAddr p s1 = smpAddr p s0 := by rw [smpAddr, h1.base, h.base, smpAddr]
  rw [hbase] at hput
  have h02 : SenseOnly s0 (showPif p s1) (R.PIF_STATUS p :: ks) :=
    ((h.mono fun _ hk => List.mem_cons_of_mem _ hk).trans (h1.mono (by simp))).trans (.of_keeps (hk.mono (by simp)))
  have hpif2 : (showPif p s1).pif p = x := (pif_showPif p s1 p).trans hpif1
  have hstay : PifFlagsStay p s (showPif p s1) := (PifFlagsStay.of_leaves h1.leaves (by simp)).trans (pifFlagsStay_showPif p s1)
  generalize showPif p s1 = s2 at *
  have h4 : smpAddr p s0 % 4 = 0 := by simp only [smpAddr]; omega
  obtain ⟨hframe, hrec⟩ := sw_record (l := senseLink) (w := w) s2 h4 hw
  have hso : StoreOnly s2 (s2.sputVia senseLink (smpAddr p s0) w) := storeOnly_sputVia _ (.inl ⟨by omega, by omega⟩)
  have hcar : ∀ q, carries senseLink s2 q = carries senseLink s0 q := fun q => by
    simp only [carries, State.linkUp, State.ward, h02.links]
    cases q <;> simp only [h02.red]
  have hre : Keeps .a (s2.sputVia senseLink (smpAddr p s0) w) t [] := by
    show Keeps .a _ (belRecheck (serialSample p err warn s)) []
    rw [hput]
    exact (Keeps.refl _ _ _).recheck
  have hpif : t.pif p = x := by
    obtain ⟨y, z, hy⟩ := hso.planes
    rw [pif_of_sense hre.sense, hy]
    exact hpif2
  have hrd : ∀ q k, t.rd q k = s2.rd q k := fun q k => (hre.2 q k (.inl (by simp))).trans (hso.rd q k)
  refine ⟨?_, ⟨fun q a ha => ?_, fun q h1 h2 h3 ha => ?_⟩, fun i hi => State.flagged_of_rd (hrd _ _) (hstay i hi), fun q k hkk => ?_⟩
  · rw [hpif, hcount]
  · rw [hre.leaves.1 q, hframe q a ha, h02.leaves.1 q]
  · have hq : carries senseLink s2 q = true := (hcar q).trans ((carries_iff _ _ _).2 ⟨h1, h2, h3⟩)
    rw [hre.leaves.1 q, hre.leaves.1 q, hpif, ← hset, ← hw0, ← hw2]
    exact ⟨hrec q hq ha 0 (by decide), hrec q hq ha 2 (by decide)⟩
  · exact (hrd q k).trans (h02.leaves.2 q k hkk)

/-- Where a valid position moves the count: the first one sets it, the next ones move it by their difference (R243). -/
def movedBy (x : PifSt) (n pos : Nat) : Int :=
  let v : Int := if x.cfg 4 F.PIF_SER_CFG2_SIGNED = 1 then signedOf n pos else pos
  match x.pos with
  | none => v
  | some o =>
    let d := signedOf n ((v - o) % 2 ^ n).toNat
    x.count + if x.cfg 0 F.PIF_CFG_INV_DIR = 1 then -d else d

theorem takePos_facts {p : Fin 24} (pos : Nat) {s : State} (hp : s.sense.pifs.length = 24) :
    SenseOnly s (takePos p pos s) [] ∧ ((takePos p pos s).pif p).count = movedBy (s.pif p) ((s.pif p).cfg 3 F.PIF_SER_CFG_BITS) pos
    ∧ ((takePos p pos s).pif p).setBy = (s.pif p).setBy := by
  have hlt : (p : Nat) < s.sense.pifs.length := by rw [hp]; exact p.isLt
  refine ⟨.of_setPif _ _ _, ?_, ?_⟩
  · rw [takePos, State.pif_setPif_same _ hlt]
    simp only [movedBy]
    cases hpos : (s.pif p).pos with
    | none => simp
    | some o => simp
  · rw [takePos, State.pif_setPif_same _ hlt]

/-- A frame with a valid position: its sample, and the counter set or moved (R243, R245). -/
theorem does_serialFrame {c : Instr} {p : Fin 24} {s : State} (hp : s.sense.pifs.length = 24) {warn : Bool} {pos : Nat}
    (h : exec c s = settled (serialSample p false warn (takePos p pos s))) : Does c s (fun t =>
      (t.pif p).count = movedBy (s.pif p) ((s.pif p).cfg 3 F.PIF_SER_CFG_BITS) pos ∧ PifSampled p ((s.pif p).setBy.getD 0) s t
      ∧ RegsKept .a s t [R.PIF_STATUS p]) := by
  refine does_of_exec h ?_
  obtain ⟨h1, hcount, hset⟩ := takePos_facts (p := p) pos hp
  obtain ⟨hc, hs, -, hr⟩ := serialSample_facts (p := p) false warn hp h1
  rw [hset] at hs
  exact ⟨hc.trans hcount, hs, hr⟩

/-- A bad frame: its sample, its flag, and the counter as it was (R241, R242). -/
theorem does_serialFrame_of_bad {c : Instr} {p : Fin 24} {s : State} (hp : s.sense.pifs.length = 24) {warn : Bool}
    (h : exec c s = settled (serialSample p true warn (raisePif p 4 s))) : Does c s (fun t => (t.pif p).count = (s.pif p).count
      ∧ t.flagged .a (bPIF p) 4 ∧ PifSampled p ((s.pif p).setBy.getD 0) s t ∧ RegsKept .a s t (R.PIF_STATUS p :: flagSlots (bPIF p) 4)) := by
  refine does_of_exec h ?_
  have hpif := pif_raisePif p 4 s p
  obtain ⟨hc, hs, hstay, hr⟩ := serialSample_facts (p := p) true warn hp (.of_keeps (keeps_raisePif p 4 s))
  rw [hpif] at hc hs
  exact ⟨hc, hstay 4 (flagged_raisePif p (by decide) s), hs, hr⟩

theorem does_ssiFrameEnd {p : Fin 24} {s : State} (hp : s.sense.pifs.length = 24) {raw : Nat} (hm : (s.pif p).mode = 4)
    (htr : (s.pif p).cfg 3 F.PIF_SER_CFG_TRAIL ≤ (s.pif p).cfg 3 F.PIF_SER_CFG_ERR_POS) (hpar : (s.pif p).cfg 3 F.PIF_SER_CFG_PARITY = 0) :
    let n := (s.pif p).cfg 3 F.PIF_SER_CFG_BITS
    let bits := raw / 2 ^ (s.pif p).cfg 3 F.PIF_SER_CFG_TRAIL % 2 ^ n
    let pos := if (s.pif p).cfg 3 F.PIF_SER_CFG_GRAY = 1 then ungray 48 bits else bits
    Does (.ssiFrameEnd p true raw) s (fun t => (t.pif p).count = movedBy (s.pif p) n pos ∧ PifSampled p ((s.pif p).setBy.getD 0) s t
      ∧ RegsKept .a s t [R.PIF_STATUS p]) := by
  intro n bits pos
  refine does_serialFrame hp (warn := false) ?_
  show execSsiFrameEnd p true raw s = _
  have hep : decide ((s.pif p).cfg 3 F.PIF_SER_CFG_ERR_POS < (s.pif p).cfg 3 F.PIF_SER_CFG_TRAIL) = false := by simpa using htr
  unfold execSsiFrameEnd
  extract_lets x n' tr par body pos' ep err odd parBad bad
  have herr : err = false := by simp only [err, ep, tr, x, hep, Bool.false_and]
  have hbody : body = raw := if_pos hpar
  have hpb : parBad = false := by simp [parBad, show par = 0 from hpar]
  have hbad : bad = false := by simp [bad, herr, hpb]
  rw [if_neg (not_not.2 hm), if_neg (by simp [hbad])]
  simp only [pos', hbody]
  rfl

theorem does_ssiFrameEnd_of_bad {p : Fin 24} {s : State} (hp : s.sense.pifs.length = 24) {raw : Nat} (hm : (s.pif p).mode = 4) :
    Does (.ssiFrameEnd p false raw) s (fun t => (t.pif p).count = (s.pif p).count ∧ t.flagged .a (bPIF p) 4
      ∧ PifSampled p ((s.pif p).setBy.getD 0) s t ∧ RegsKept .a s t (R.PIF_STATUS p :: flagSlots (bPIF p) 4)) :=
  does_serialFrame_of_bad hp (warn := false) (congrArg settled ((if_neg (not_not.2 hm)).trans (if_pos rfl)))

theorem does_bissFrameEnd {p : Fin 24} {s : State} (hp : s.sense.pifs.length = 24) {raw d : Nat} (hm : (s.pif p).mode = 5)
    (hd : d ≤ (s.pif p).cfg 4 F.PIF_SER_CFG2_ACK_TMO) :
    let n := (s.pif p).cfg 3 F.PIF_SER_CFG_BITS
    let cl := (s.pif p).cfg 4 F.PIF_SER_CFG2_CRC_LEN
    let data := raw / 2 ^ cl % 2 ^ (n + 2)
    (cl = 0 ∨ raw % 2 ^ cl = 2 ^ cl - 1 - crcMsb cl ((s.pif p).cfg 4 F.PIF_SER_CFG2_CRC_POLY) (n + 2) data 0) →
    bitN data 0 = true → bitN data 1 = true →
    Does (.bissFrameEnd p (some d) raw) s (fun t => (t.pif p).count = movedBy (s.pif p) n (data / 4)
      ∧ PifSampled p ((s.pif p).setBy.getD 0) s t ∧ RegsKept .a s t [R.PIF_STATUS p]) := by
  intro n cl data hcrc hw he
  refine does_serialFrame hp (warn := false) ?_
  show execBissFrameEnd p (some d) raw s = _
  unfold execBissFrameEnd
  extract_lets x n' cl' data' crc crcBad lost bad warn s1
  have hlost : lost = false := decide_eq_false (Nat.not_lt.2 hd)
  have hcb : crcBad = false := by
    rw [show crcBad = (decide (0 < cl) && decide (raw % 2 ^ cl ≠ 2 ^ cl - 1 - crc)) from rfl]
    rcases hcrc with h | h
    · simp [h]
    · simp [show raw % 2 ^ cl = 2 ^ cl - 1 - crc from h]
  have hwarn : warn = false := by simp [warn, show bitN data' 0 = true from hw]
  have hbad : bad = false := by simp [bad, hlost, hcb, show bitN data' 1 = true from he]
  have hs1 : s1 = s := if_neg (by simp [hwarn])
  rw [if_neg (not_not.2 hm), if_neg (by simp [hbad]), hs1, hwarn]

theorem does_bissFrameEnd_of_lost {p : Fin 24} {s : State} (hp : s.sense.pifs.length = 24) {raw : Nat} (hm : (s.pif p).mode = 5) :
    Does (.bissFrameEnd p none raw) s (fun t => (t.pif p).count = (s.pif p).count ∧ t.flagged .a (bPIF p) 4
      ∧ PifSampled p ((s.pif p).setBy.getD 0) s t ∧ RegsKept .a s t (R.PIF_STATUS p :: flagSlots (bPIF p) 4)) :=
  does_serialFrame_of_bad hp (warn := false) (congrArg settled ((if_neg (not_not.2 hm)).trans (if_pos rfl)))

/-! ### Commands and configuration (R244, R248, R263) -/

/-- What an interface keeps is replaced, at the end of a command. -/
theorem does_setPif {c : Instr} {p : Fin 24} {s : State} (hp : s.sense.pifs.length = 24) {x : PifSt}
    (h : exec c s = settled (s.setPif p x)) : Does c s (fun t => t.pif p = x ∧ SameStores s t ∧ RegsKept .a s t []) := by
  refine does_of_exec h ?_
  have h1 := SenseOnly.of_setPif p x s
  have hpif : (s.setPif p x).pif p = x := State.pif_setPif_same _ (by rw [hp]; exact p.isLt)
  generalize s.setPif p x = u at *
  have hk := (Keeps.refl .a u []).recheck
  have hl := h1.leaves.andKeeps hk
  exact ⟨(pif_of_sense hk.sense p).trans hpif, hl.1, hl.2⟩

/-- A refused command of an interface: the reason, the flag, and nothing else (R263). -/
theorem does_of_pifRefuse {c : Instr} {p : Fin 24} {code : Nat} {s : State} (h : exec c s = settled (refusePif p code s))
    (hc : code < 16) : Does c s (fun t => t.dg (R.PIF_STATUS p) F.PIF_STATUS_REFUSE = code ∧ t.flagged .a (bPIF p) 7
      ∧ Keeps .a s t (R.PIF_STATUS p :: flagSlots (bPIF p) 7)) :=
  does_of_refuse (e := 96 + p) h (by decide) hc (by decide) (pifFlags_ne_cnt p 7) (pifStatus_not_mem_flagSlots p 7 (by decide))

/-- The two words of a captured value (R7). -/
theorem capture72_facts {k : Nat} (x : Int) {s : State} (hk : isDev k = true) (hk1 : isDev (k + 1) = true) :
    (capture72 k x s).rd .a k = lo72 (x % 2 ^ 72).toNat ∧ Keeps .a s (capture72 k x s) [k, k + 1] := by
  refine ⟨?_, ((Keeps.refl _ _ _).wrDev _ _ _ (by simp) hk).wrDev _ _ _ (by simp) hk1⟩
  rw [capture72, State.rd_wr_ne _ _ _ _ (by omega), State.rd_wr_same]

/-- The registers that CAPTURE fills. -/
def captureRegs (p : Nat) : List Nat :=
  [R.PIF_CNT p, R.PIF_CNT p + 1, R.PIF_IDX_LATCH p, R.PIF_IDX_LATCH p + 1, R.PIF_IDX_REF p, R.PIF_IDX_REF p + 1, R.PIF_VEL p]

theorem isDev_captureRegs (p : Fin 24) : ∀ k ∈ captureRegs p, isDev k = true := by
  intro k hk
  have hp := p.isLt
  refine isDev_of_lt ?_
  simp only [captureRegs, R.PIF_CNT, R.PIF_IDX_LATCH, R.PIF_IDX_REF, R.PIF_VEL, List.mem_cons, List.not_mem_nil, or_false] at hk
  omega

/-- CAPTURE copies count, latch, reference and velocity (R263). -/
theorem does_pifCapture (p : Fin 24) (s : State) : Does (.pifCapture p) s (fun t =>
    t.rd .a (R.PIF_CNT p) = lo72 ((s.pif p).count % 2 ^ 72).toNat ∧ t.rd .a (R.PIF_IDX_LATCH p) = lo72 ((s.pif p).idx % 2 ^ 72).toNat
    ∧ t.rd .a (R.PIF_IDX_REF p) = lo72 ((s.pif p).ref.getD 0 % 2 ^ 72).toNat ∧ t.rd .a (R.PIF_VEL p) = (s.pif p).v
    ∧ Keeps .a s t (captureRegs p)) := by
  have hd := isDev_captureRegs p
  obtain ⟨h1, k1⟩ := capture72_facts (k := R.PIF_CNT p) (s.pif p).count (s := s) (hd _ (by simp [captureRegs])) (hd _ (by simp [captureRegs]))
  generalize hs1 : capture72 (R.PIF_CNT p) (s.pif p).count s = s1 at *
  obtain ⟨h2, k2⟩ := capture72_facts (k := R.PIF_IDX_LATCH p) (s.pif p).idx (s := s1) (hd _ (by simp [captureRegs]))
    (hd _ (by simp [captureRegs]))
  generalize hs2 : capture72 (R.PIF_IDX_LATCH p) (s.pif p).idx s1 = s2 at *
  obtain ⟨h3, k3⟩ := capture72_facts (k := R.PIF_IDX_REF p) ((s.pif p).ref.getD 0) (s := s2) (hd _ (by simp [captureRegs]))
    (hd _ (by simp [captureRegs]))
  generalize hs3 : capture72 (R.PIF_IDX_REF p) ((s.pif p).ref.getD 0) s2 = s3 at *
  have k4 : Keeps .a s3 (belRecheck (s3.wr .a (R.PIF_VEL p) (s.pif p).v)) [R.PIF_VEL p] :=
    ((Keeps.refl _ _ _).wrDev _ _ _ (by simp) (hd _ (by simp [captureRegs]))).recheck
  have hex : exec (.pifCapture p) s = settled (s3.wr .a (R.PIF_VEL p) (s.pif p).v) := by rw [← hs3, ← hs2, ← hs1]; rfl
  refine does_of_exec hex ⟨?_, ?_, ?_, ?_, ?_⟩
  · rw [k4.2 .a _ (.inl (by simp [R.PIF_CNT, R.PIF_VEL])), k3.2 .a _ (.inl (by simp [R.PIF_CNT, R.PIF_IDX_REF]; omega)),
      k2.2 .a _ (.inl (by simp [R.PIF_CNT, R.PIF_IDX_LATCH]; omega)), h1]
  · rw [k4.2 .a _ (.inl (by simp [R.PIF_IDX_LATCH, R.PIF_VEL])), k3.2 .a _ (.inl (by simp [R.PIF_IDX_LATCH, R.PIF_IDX_REF]; omega)), h2]
  · rw [k4.2 .a _ (.inl (by simp [R.PIF_IDX_REF, R.PIF_VEL])), h3]
  · rw [State.rd_belRecheck, State.rd_wr_same]
  · have hall := ((k1.mono (ls := captureRegs p) (by simp [captureRegs])).trans (k2.mono (by simp [captureRegs]))).trans
      (k3.mono (by simp [captureRegs]))
    exact hall.trans (k4.mono (by simp [captureRegs]))

theorem does_setCount {p : Fin 24} {s : State} (hp : s.sense.pifs.length = 24) (hc : s.dg (R.PIF_STATUS p) F.PIF_STATUS_CLOSED = 0) :
    Does (.setCount p) s (fun t => (t.pif p).cmds = (s.pif p).cmds ++ [2] ∧ (t.pif p).count = (s.pif p).count ∧ SameStores s t
      ∧ RegsKept .a s t []) := by
  refine (does_setPif (c := .setCount p) hp (x := { s.pif p with cmds := (s.pif p).cmds ++ [2] }) (congrArg settled (if_neg (by omega)))).imp fun t ht => ?_
  obtain ⟨hx, hs, hr⟩ := ht
  exact ⟨congrArg PifSt.cmds hx, (congrArg PifSt.count hx :), hs, hr⟩

theorem does_correct {p : Fin 24} {s : State} (hp : s.sense.pifs.length = 24) (hc : s.dg (R.PIF_STATUS p) F.PIF_STATUS_CLOSED = 0)
    (href : (s.pif p).ref ≠ none) : Does (.correct p) s (fun t => (t.pif p).cmds = (s.pif p).cmds ++ [3]
      ∧ (t.pif p).count = (s.pif p).count ∧ SameStores s t ∧ RegsKept .a s t []) := by
  refine (does_setPif (c := .correct p) hp (x := { s.pif p with cmds := (s.pif p).cmds ++ [3] }) (congrArg settled ((if_neg (by omega)).trans
    (if_neg (by simpa using href))))).imp fun t ht => ?_
  obtain ⟨hx, hs, hr⟩ := ht
  exact ⟨congrArg PifSt.cmds hx, (congrArg PifSt.count hx :), hs, hr⟩

/-- While a closed channel names the interface, its count commands are refused (R244). -/
theorem does_countCmd_of_closed {p : Fin 24} {s : State} (hc : s.dg (R.PIF_STATUS p) F.PIF_STATUS_CLOSED = 1) :
    ∀ c ∈ [Instr.setCount p, .correct p], Does c s (fun t => t.dg (R.PIF_STATUS p) F.PIF_STATUS_REFUSE = 1 ∧ t.flagged .a (bPIF p) 7
      ∧ Keeps .a s t (R.PIF_STATUS p :: flagSlots (bPIF p) 7)) := by
  intro c hmem
  simp only [List.mem_cons, List.not_mem_nil, or_false] at hmem
  rcases hmem with rfl | rfl
  · exact does_of_pifRefuse (congrArg settled (if_pos hc)) (by decide)
  · exact does_of_pifRefuse (congrArg settled (if_pos hc)) (by decide)

theorem does_correct_of_none {p : Fin 24} {s : State} (hc : s.dg (R.PIF_STATUS p) F.PIF_STATUS_CLOSED = 0) (href : (s.pif p).ref = none) :
    Does (.correct p) s (fun t => t.dg (R.PIF_STATUS p) F.PIF_STATUS_REFUSE = 2 ∧ t.flagged .a (bPIF p) 7
      ∧ Keeps .a s t (R.PIF_STATUS p :: flagSlots (bPIF p) 7)) :=
  does_of_pifRefuse (congrArg settled ((if_neg (by omega)).trans (if_pos (by simp [href])))) (by decide)

theorem does_armRef {p : Fin 24} {s : State} (hp : s.sense.pifs.length = 24) : Does (.armRef p) s (fun t => (t.pif p).armed = true
    ∧ (t.pif p).ref = (s.pif p).ref ∧ SameStores s t ∧ RegsKept .a s t []) := by
  refine (does_setPif (c := .armRef p) hp (x := { s.pif p with armed := true }) rfl).imp fun t ht => ?_
  obtain ⟨hx, hs, hr⟩ := ht
  exact ⟨congrArg PifSt.armed hx, (congrArg PifSt.ref hx :), hs, hr⟩

/-- PIF_STATUS shows whether the interface has a reference. -/
theorem dg_refValid_showPif (p : Fin 24) (s : State) :
    (showPif p s).dg (R.PIF_STATUS p) F.PIF_STATUS_REF_VALID = b2n (s.pif p).ref.isSome :=
  ((State.dg_dp_field _ _ _ (by decide) (by decide)).trans (State.dg_dp_field _ _ _ (by decide) (by decide))).trans
    (State.dg_dp_same _ _ (by decide) (b2n_lt_two _))

theorem does_clearRef {p : Fin 24} {s : State} (hp : s.sense.pifs.length = 24) : Does (.clearRef p) s (fun t => (t.pif p).armed = false
    ∧ (t.pif p).ref = none ∧ t.dg (R.PIF_STATUS p) F.PIF_STATUS_REF_VALID = 0 ∧ SameStores s t ∧ RegsKept .a s t [R.PIF_STATUS p]) := by
  refine does_of_exec (u := showPif p (s.setPif p { s.pif p with ref := none, armed := false })) rfl ?_
  have h1 := SenseOnly.of_setPif p { s.pif p with ref := none, armed := false } s
  have hpif : (s.setPif p { s.pif p with ref := none, armed := false }).pif p = { s.pif p with ref := none, armed := false } :=
    State.pif_setPif_same _ (by rw [hp]; exact p.isLt)
  generalize s.setPif p { s.pif p with ref := none, armed := false } = u at *
  have hk := (keeps_showPif p u).recheck
  have hl := (h1.leaves.mono (by simp)).andKeeps hk
  have ht := (pif_of_sense hk.sense p).trans hpif
  refine ⟨congrArg PifSt.armed ht, congrArg PifSt.ref ht, ?_, hl.1, hl.2⟩
  rw [State.dg_belRecheck, dg_refValid_showPif, hpif]
  rfl

theorem does_pifCmdReserved {p : Fin 24} {s : State} {code : BitVec 4} (hc : 6 ≤ code.toNat) : Does (.pifCmdReserved p code) s (fun t =>
    t.dg (R.PIF_STATUS p) F.PIF_STATUS_REFUSE = 3 ∧ t.flagged .a (bPIF p) 7 ∧ Keeps .a s t (R.PIF_STATUS p :: flagSlots (bPIF p) 7)) :=
  does_of_pifRefuse (congrArg settled (if_neg (by omega))) (by decide)

theorem isDev_pifSlot (p : Fin 24) (r : PifReg) : isDev (pifSlot p r) = true := by
  have hp := p.isLt
  refine isDev_of_lt ?_
  cases r <;> simp only [pifSlot, R.PIF_CFG, R.PIF_INC_CFG, R.PIF_SC_CFG, R.PIF_SER_CFG, R.PIF_SER_CFG2] <;> omega

/-- A configuration register takes its RW fields while no closed channel names the interface (R14, R244). -/
theorem does_pifConfigWrite {p : Fin 24} {s : State} {r : PifReg} {v : Word} (hc : s.dg (R.PIF_STATUS p) F.PIF_STATUS_CLOSED = 0)
    (hr : pifRefusal p r v = 0) : Does (.pifConfigWrite p r v) s (fun t => t.rd .a (pifSlot p r)
      = rwMerge (pifSlot p r) (s.rd .a (pifSlot p r)) v ∧ Keeps .a s t [pifSlot p r]) := by
  have hex : exec (.pifConfigWrite p r v) s = settled (s.writeRw .a (pifSlot p r) v) :=
    congrArg settled ((if_neg (by omega)).trans (if_neg (not_not.2 hr)))
  refine does_of_exec hex ⟨?_, ((Keeps.refl _ _ _).wrDev _ _ _ (by simp) (isDev_pifSlot p r)).recheck⟩
  rw [State.rd_belRecheck, State.writeRw, State.rd_wr_same]

theorem does_pifConfigWrite_of_closed {p : Fin 24} {s : State} {r : PifReg} {v : Word}
    (hc : s.dg (R.PIF_STATUS p) F.PIF_STATUS_CLOSED = 1) : Does (.pifConfigWrite p r v) s (fun t =>
      t.dg (R.PIF_STATUS p) F.PIF_STATUS_REFUSE = 1 ∧ t.flagged .a (bPIF p) 7 ∧ Keeps .a s t (R.PIF_STATUS p :: flagSlots (bPIF p) 7)) :=
  does_of_pifRefuse (congrArg settled (if_pos hc)) (by decide)

theorem pifRefusal_lt (p : Nat) (r : PifReg) (v : Word) : pifRefusal p r v < 16 := by
  cases r
  case ser2 => exact Nat.succ_pos 15
  all_goals
    simp only [pifRefusal]
    split_ifs <;> decide

theorem does_pifConfigWrite_of_refused {p : Fin 24} {s : State} {r : PifReg} {v : Word}
    (hc : s.dg (R.PIF_STATUS p) F.PIF_STATUS_CLOSED = 0) (hr : pifRefusal p r v ≠ 0) : Does (.pifConfigWrite p r v) s (fun t =>
      t.dg (R.PIF_STATUS p) F.PIF_STATUS_REFUSE = pifRefusal p r v ∧ t.flagged .a (bPIF p) 7
      ∧ Keeps .a s t (R.PIF_STATUS p :: flagSlots (bPIF p) 7)) :=
  does_of_pifRefuse (congrArg settled ((if_neg (by omega)).trans (if_pos hr))) (pifRefusal_lt p r v)

/-! ### The drain of a FIFO (R250) -/

/-- The Picots of FIFO `f` that wait: those of an interface, or of the triggers. -/
def picotQueue (f : Nat) (s : State) : List (List Word) := if f < 24 then (s.pif f).fifo else s.sense.fifo

/-- The state with other Picots in it. -/
def setPicotQueue (f : Nat) (l : List (List Word)) (s : State) : State :=
  if f < 24 then s.setPif f { s.pif f with fifo := l } else { s with sense := { s.sense with fifo := l } }

theorem picotQueue_setPicotQueue {s : State} (hp : s.sense.pifs.length = 24) (f : Nat) (l : List (List Word)) :
    picotQueue f (setPicotQueue f l s) = l := by
  unfold picotQueue setPicotQueue
  split
  · next h => exact congrArg PifSt.fifo (State.pif_setPif_same { s.pif f with fifo := l } (by omega))
  · rfl

theorem picotQueue_of_sense {s t : State} (h : t.sense = s.sense) (f : Nat) : picotQueue f t = picotQueue f s := by
  simp only [picotQueue, State.pif, h]

theorem leaves_setPicotQueue (f : Nat) (l : List (List Word)) (s : State) : Leaves .a s (setPicotQueue f l s) []
    ∧ ∀ k q, carries k (setPicotQueue f l s) q = carries k s q := by
  unfold setPicotQueue
  split
  · exact ⟨.of_planes _ _ rfl rfl rfl, fun k q => by cases q <;> rfl⟩
  · exact ⟨.of_planes _ _ rfl rfl rfl, fun k q => by cases q <;> rfl⟩

/-- The oldest Picot of a FIFO goes to the ring (R250). -/
theorem does_picotDrain {s : State} (hp : s.sense.pifs.length = 24) {f : Fin 25} {w : List Word} {rest : List (List Word)}
    (hq : picotQueue f s = w :: rest) (hw : w.length = 4) :
    let lg := s.dg R.PIF_PICOT_CFG F.PIF_PICOT_CFG_SIZE_LOG2
    let a := s.sense.picBase / 2 ^ (2 + lg) * 2 ^ (2 + lg) + 4 * (s.dg R.PIF_PICOT_WR F.PIF_PICOT_WR_COUNT % 2 ^ lg)
    6 ≤ lg → lg ≤ 16 → a + 4 ≤ storeWords → Does (.picotDrain f) s (fun t => picotQueue f t = rest
      ∧ (∀ q, t.swords q a 4 = (if s.linkUp (senseLink q) ∧ s.linkUp (storeLink q) ∧ (s.ward q).inReset = false
        then w else s.swords q a 4))
      ∧ (∀ q b, b / 4 ≠ a / 4 → t.sw q b = s.sw q b)
      ∧ t.dg R.PIF_PICOT_WR F.PIF_PICOT_WR_COUNT = (s.dg R.PIF_PICOT_WR F.PIF_PICOT_WR_COUNT + 1) % 2 ^ 32
      ∧ RegsKept .a s t [R.PIF_PICOT_WR]) := by
  intro lg a h6 h16 ha
  have hex : exec (.picotDrain f) s = settled (((setPicotQueue f rest s).sputVia senseLink a w).dp R.PIF_PICOT_WR
      F.PIF_PICOT_WR_COUNT ((s.dg R.PIF_PICOT_WR F.PIF_PICOT_WR_COUNT + 1) % 2 ^ 32)) := by
    have hq' : (if f.val < 24 then (s.pif f).fifo else s.sense.fifo) = w :: rest := hq
    show execPicotDrain f s = _
    simp only [execPicotDrain, hq']
    exact congrArg settled (if_neg (by omega))
  refine does_of_exec hex ?_
  obtain ⟨hl, hcar⟩ := leaves_setPicotQueue f rest s
  have hqueue := picotQueue_setPicotQueue hp f rest
  generalize setPicotQueue f rest s = s1 at *
  obtain ⟨hrec, hframe, hregs, -, hsense⟩ := record_to_ring senseLink hl (hcar senseLink) (ring_mod_four _ _ _) hw ha
    (k := R.PIF_PICOT_WR) F.PIF_PICOT_WR_COUNT ((s.dg R.PIF_PICOT_WR F.PIF_PICOT_WR_COUNT + 1) % 2 ^ 32) rfl
  exact ⟨(picotQueue_of_sense hsense f).trans hqueue, hrec, hframe,
    (State.dg_belRecheck _ _ _).trans (State.dg_dp_mod _ R.PIF_PICOT_WR (f := F.PIF_PICOT_WR_COUNT) _ (by decide)), hregs⟩

/-- Settles O32, command by command: edges, conversions, frames and their samples, then the commands, the configuration and the
drain of an interface. -/
theorem interfacesCountAndObey : Obligations.InterfacesCountAndObey := by
  unfold Obligations.InterfacesCountAndObey
  refine ⟨fun p s hp hlive => ?_, fun p s hp => ?_⟩
  · intro x base Moved _
    refine ⟨fun b at' held hm ha hb hmult hinv hsel hh hpair => does_pifEdge_riseA hp hlive hm ha hb hmult hinv hsel hh hpair,
      fun onA level at' held hm hl hh => does_pifEdge hp hlive hm hl hh, fun line level at' held other h => does_pifEdge_of_short h,
      fun sn cs at' => ⟨fun hm hqc hfine hi hg hlo hhi hz => does_sincosConversion_first hp hlive ⟨hm, hi, hg, hlo, hhi, hz⟩ hqc hfine,
        fun v qc hqc hfine hm hi hg hlo hhi hz => does_sincosConversion_next hp hlive ⟨hm, hi, hg, hlo, hhi, hz⟩ hqc hfine rfl rfl⟩,
      fun l hm hl => does_velTimeout hp hm hl, fun raw hm htr hpar => (does_ssiFrameEnd hp hm htr hpar).imp fun t ht => ?_,
      fun raw hm => does_ssiFrameEnd_of_bad hp hm, fun raw d hm hd hcrc hw he => does_bissFrameEnd hp hm hd hcrc hw he,
      fun raw hm => does_bissFrameEnd_of_lost hp hm⟩
    obtain ⟨hc, hs, hr⟩ := ht
    exact ⟨hs, hr, hc⟩
  · exact ⟨does_pifCapture p s, fun hc => does_setCount hp hc, fun hc href => does_correct hp hc href, fun hc => does_countCmd_of_closed hc,
      fun hc href => does_correct_of_none hc href, does_armRef hp, does_clearRef hp, fun code hc => does_pifCmdReserved hc,
      fun r v hc hr => does_pifConfigWrite hc hr, fun r v hc => does_pifConfigWrite_of_closed hc,
      fun r v hc hr => does_pifConfigWrite_of_refused hc hr,
      fun f w rest hq hw h6 h16 ha => does_picotDrain hp hq hw h6 h16 ha⟩

end Sys2Proof.Machine

/-! ## What happens within a plane leaves the single-copy dies alone -/

namespace Sys2Proof.Machine

/-- The state of the single-copy dies behind their registers, without the flits on XLK, the events on their way and the wakes of domains. -/
def State.dies (s : State) : State :=
  { s with dev := [], xlk := [], evm := State.reset.evm, bel := State.reset.bel, pa := PlaneSt.initial .a, pb := PlaneSt.initial .b }

/-- The registers of single-copy dies in which something within a plane can show: NOT_GRANTED of EVM, and the tags that bursts hold. -/
def sharedSlots : List Nat := [R.EVM_FLAGS, R.EVM_FLAG_CNT, R.HIF_LINK]

/-- The single-copy dies keep their state, and their registers but those in which a plane shows. -/
structure DiesKept (s t : State) : Prop where
  dies : t.dies = s.dies
  rd : ∀ k, isDev k = true → k ∉ sharedSlots → t.rd .a k = s.rd .a k

theorem isDev_of_ge {k : Nat} (h : 0x600000 ≤ k) : isDev k = false := decide_eq_false (by omega)

theorem State.rd_of_dev {s t : State} (h : t.dev = s.dev) {k : Nat} (hk : isDev k = true) (p : Plane) : t.rd p k = s.rd p k := by
  simp only [State.rd, hk, if_true, h]

/-- The registers of a plane are not among the dies. -/
theorem State.dies_wr (s : State) (q : Plane) (k : Nat) (v : Word) : (s.wr q k v).dies = s.dies := by
  unfold State.wr
  split
  · rfl
  · split
    · cases q <;> rfl
    · cases q <;> rfl

namespace DiesKept

variable {s t u : State}

theorem refl (s : State) : DiesKept s s := ⟨rfl, fun _ _ _ => rfl⟩

theorem trans (h1 : DiesKept s t) (h2 : DiesKept t u) : DiesKept s u :=
  ⟨h2.dies.trans h1.dies, fun k hd hk => (h2.rd k hd hk).trans (h1.rd k hd hk)⟩

theorem dg (h : DiesKept s t) {k : Nat} (f : Fld) (hd : isDev k = true) (hk : k ∉ sharedSlots) : t.dg k f = s.dg k f :=
  congrArg f.get (h.rd k hd hk)

theorem red (h : DiesKept s t) : t.red = s.red := (congrArg State.red h.dies :)
theorem boot (h : DiesKept s t) : t.boot = s.boot := (congrArg State.boot h.dies :)
theorem links (h : DiesKept s t) : t.links = s.links := (congrArg State.links h.dies :)
theorem now (h : DiesKept s t) : t.now = s.now := (congrArg State.now h.dies :)
theorem cyc (h : DiesKept s t) : t.cyc = s.cyc := (congrArg State.cyc h.dies :)

theorem ward (h : DiesKept s t) (q : Plane) : t.ward q = s.ward q := by
  cases q
  · exact congrArg RedSt.wa h.red
  · exact congrArg RedSt.wb h.red

/-- A write of a register of a plane. -/
theorem wr (h : DiesKept s t) {q : Plane} {k : Nat} {v : Word} (hk : 0x600000 ≤ k) : DiesKept s (t.wr q k v) :=
  h.trans ⟨t.dies_wr q k v, fun j hj _ => t.rd_wr_ne .a q v fun he => absurd hj (by rw [he, isDev_of_ge hk]; decide)⟩

theorem put (h : DiesKept s t) {q : Plane} {k : Nat} {f : Fld} {n : Nat} (hk : 0x600000 ≤ k) : DiesKept s (t.put q k f n) := h.wr hk

theorem count (h : DiesKept s t) {q : Plane} {k : Nat} {f : Fld} {n : Nat} (hk : 0x600000 ≤ k) : DiesKept s (t.count q k f n) :=
  h.put hk

/-- A write of a register that shows something of a plane. -/
theorem wrShared (h : DiesKept s t) {q : Plane} {k : Nat} {v : Word} (hk : k ∈ sharedSlots) : DiesKept s (t.wr q k v) :=
  h.trans ⟨t.dies_wr q k v, fun _ _ hj => t.rd_wr_ne .a q v fun he => hj (he ▸ hk)⟩

theorem dpShared (h : DiesKept s t) {k : Nat} {f : Fld} {n : Nat} (hk : k ∈ sharedSlots) : DiesKept s (t.dp k f n) := h.wrShared hk

/-- A change of a plane, with its registers or without. -/
theorem setPlane (h : DiesKept s t) {q : Plane} {p : PlaneSt} : DiesKept s (t.setPlane q p) :=
  h.trans ⟨by cases q <;> rfl, fun _ hk _ => State.rd_of_dev (t.dev_setPlane q p) hk _⟩

theorem toMatrix (h : DiesKept s t) {e : Nat} : DiesKept s (t.toMatrix e) := h.trans ⟨rfl, fun _ _ _ => rfl⟩

theorem wake (h : DiesKept s t) {d : Nat} : DiesKept s (t.wake d) :=
  h.trans ⟨by unfold State.wake; split <;> rfl, fun _ _ _ => State.rd_wake _ _ _ _⟩

/-- Flits taken off XLK. -/
theorem setXlk (h : DiesKept s t) {l : List (XlkItem Rep)} : DiesKept s { t with xlk := l } := h.trans ⟨rfl, fun _ _ _ => rfl⟩

theorem raiseEVM (h : DiesKept s t) {j : Nat} (hj : j / 4 = 0) : DiesKept s (t.raiseEVM j) := by
  have h1 : DiesKept s (t.flag .a bEVM j) := (h.wrShared (by simp [bEVM, sharedSlots])).wrShared (by simp [bEVM, sharedSlots, hj])
  unfold State.raiseEVM
  extract_lets
  split
  · exact h1.toMatrix
  · exact h1

theorem event (h : DiesKept s t) {src : Option Plane} {e : Nat} : DiesKept s (t.event src e) := by
  unfold State.event
  split
  · exact h.toMatrix
  · split
    · exact h
    · split
      · exact h.toMatrix
      · exact h.raiseEVM rfl

theorem notify (h : DiesKept s t) {q : Plane} {k e : Nat} : DiesKept s (t.notify q k e) := by
  unfold State.notify
  split
  · split
    · exact h.event
    · exact h
  · exact h.event

theorem flag (h : DiesKept s t) {q : Plane} {b : Bank} {j : Nat} (hf : 0x600000 ≤ b.flags) (hc : 0x600000 ≤ b.cnt) :
    DiesKept s (t.flag q b j) := (h.put hf).count (Nat.le_add_right_of_le hc)

/-- A flag of a plane. -/
theorem raise (h : DiesKept s t) {q : Plane} {b : Bank} {e j : Nat} (hf : 0x600000 ≤ b.flags) (hc : 0x600000 ≤ b.cnt) :
    DiesKept s (t.raise q b e j) := by
  unfold State.raise
  extract_lets
  split
  · exact (h.flag hf hc).notify
  · exact h.flag hf hc

theorem each {α : Type} {f : α → State → State} {l : List α} (h : DiesKept s t) (hf : ∀ a u, DiesKept u (f a u)) :
    DiesKept s (Machine.each l f t) :=
  each_keeps (P := DiesKept s) (fun a _ _ hu => hu.trans (hf a _)) h

end DiesKept

/-! ### The store, snapshots and the rollback -/

theorem diesKept_snapLost (q : Plane) (s : State) : DiesKept s (s.snapLost q) := by
  unfold State.snapLost
  split
  · exact .refl s
  · exact .raise (.put (.refl s) (by decide)) (by decide) (by decide)

theorem diesKept_spareStart (q : Plane) (row : Nat) (s : State) : DiesKept s (s.spareStart q row) := by
  unfold State.spareStart
  extract_lets
  split
  · exact .put (.setPlane (.refl s)) (by decide)
  · exact .refl s

theorem diesKept_eccDouble (q : Plane) (a : Nat) (s : State) : DiesKept s (s.eccDouble q a) :=
  .trans (.raise (.wr (.count (.refl s) (by decide)) (by decide)) (by decide) (by decide)) (diesKept_spareStart q _ _)

theorem DiesKept.of_onlyPlanes {s t : State} (h : OnlyPlanes s t) : DiesKept s t := by
  refine ⟨?_, fun k hk _ => State.rd_of_dev h.dev hk _⟩
  obtain ⟨_, _, rfl⟩ := h
  rfl

theorem diesKept_sput (q : Plane) (a : Nat) (v : Word) (s : State) : DiesKept s (s.sput q a v) := by
  unfold State.sput
  split
  · refine DiesKept.trans (.setPlane ?_) (.of_onlyPlanes (onlyPlanes_markDirty _ _ _))
    split
    · exact diesKept_eccDouble q a s
    · exact .refl s
  · exact .refl s

theorem diesKept_sputPair (q : Plane) (a : Nat) (v w : Word) (s : State) : DiesKept s (s.sputPair q a v w) :=
  .of_onlyPlanes (storeOnly_sputPair s q a v w).planes

theorem diesKept_sputs (q : Plane) : ∀ (n : Nat) (ws : List Word) (s : State) (a : Nat), ws.length ≤ n → DiesKept s (s.sputs q a ws)
  | _, [], s, _, _ => .refl s
  | _, [v], s, a, _ => diesKept_sput q a v s
  | 0, _ :: _ :: _, _, _, hn => absurd hn (by simp)
  | n + 1, v :: w :: t, s, a, hn => by
    have ht : t.length ≤ n := by simp at hn; omega
    unfold State.sputs
    split
    · exact (diesKept_sputPair q a v w s).trans (diesKept_sputs q n t _ _ ht)
    · exact ((diesKept_sput q a v s).trans (diesKept_sput q (a + 1) w _)).trans (diesKept_sputs q n t _ _ ht)

theorem diesKept_reportBad (q : Plane) (a n : Nat) (s : State) : DiesKept s (s.reportBad q a n) := by
  unfold State.reportBad
  generalize s.badPairs q a n = l
  induction l generalizing s with
  | nil => exact .refl s
  | cons p l ih => exact (diesKept_eccDouble q (2 * p) s).trans (ih _)

theorem diesKept_rollback (q : Plane) (s : State) : DiesKept s (rollback q s) :=
  .setXlk (.setPlane (.put (.setPlane (.each (.refl s) fun _ u => .setPlane (.refl u))) (by decide)))

end Sys2Proof.Machine

/-! ## The scheduler, the DMA engine and the stops of a plane leave the single-copy dies alone -/

namespace Sys2Proof.Machine

/-! ### The scheduler at a grant (R390, R392, R397) -/

theorem diesKept_setReady (q : Plane) (p : Nat) (l : List Nat) (s : State) : DiesKept s (setReady q p l s) :=
  .put (.put (.setPlane (.refl s)) (by unfold R.SCH_PRIO_DEPTH; omega)) (by unfold R.SCH_PRIO_DEPTH; omega)

theorem diesKept_toReady (q : Plane) (t : Nat) (head : Bool) (s : State) : DiesKept s (toReady q t head s) :=
  .put (.setPlane (diesKept_setReady q _ _ s)) (by unfold R.SCH_THR_STATUS; omega)

theorem diesKept_outReady (q : Plane) (t : Nat) (s : State) : DiesKept s (outReady q t s) :=
  .each (.refl s) fun p u => by
    show DiesKept u (if _ then _ else _)
    split
    · exact diesKept_setReady q p _ u
    · exact .refl u

theorem diesKept_showPosts (q : Plane) (s : State) : DiesKept s (showPosts q s) :=
  .put (.put (.refl s) (by decide)) (by decide)

theorem diesKept_showThrPosts (q : Plane) (t : Nat) (s : State) : DiesKept s (showThrPosts q t s) :=
  .put (.refl s) (by unfold R.SCH_THR_STATUS; omega)

theorem diesKept_takePost (q : Plane) (t : Nat) (s : State) : DiesKept s (takePost q t s) := by
  unfold takePost
  extract_lets
  split
  · exact .trans (.trans (.setPlane (.refl s)) (diesKept_showPosts q _)) (diesKept_showThrPosts q t _)
  · exact .refl s

theorem diesKept_dispatchOn (q : Plane) (t k : Nat) (s : State) : DiesKept s (dispatchOn q t k s) := by
  unfold dispatchOn
  extract_lets s0 wait s1 x s2 s3 s4 s5 s6 warn
  have h1 : DiesKept s s1 := .trans (.wake (.refl s)) (diesKept_outReady q t _)
  have h3 : DiesKept s s3 := .put (.put (.setPlane h1) (by unfold R.SCH_THR_STATUS; omega)) (by unfold R.SCH_THR_STATUS; omega)
  have h5 : DiesKept s s5 := .wr (.wr (.wr h3 (by unfold R.SCH_CORE_STATUS; omega)) (by unfold R.SCH_THR_WAIT; omega))
    (by unfold R.SCH_THR_WAIT_MAX; omega)
  have h6 : DiesKept s s6 := .count (.count h5 (by unfold R.SCH_THR_DISP; omega)) (by unfold R.SCH_CORE_DISP; omega)
  refine .trans ?_ (diesKept_takePost q t _)
  split
  · exact h6.raise (by decide) (by decide)
  · exact h6

theorem diesKept_leaveCore (q : Plane) (k : Nat) (s : State) : DiesKept s (leaveCore q k s) :=
  .wr (.setPlane (.refl s)) (by unfold R.SCH_CORE_STATUS; omega)

theorem diesKept_preempt (q : Plane) (k : Nat) (head : Bool) (s : State) : DiesKept s (preempt q k head s) := by
  unfold preempt
  split
  · exact (diesKept_leaveCore q k s).trans (diesKept_toReady q _ head _)
  · exact .refl s

theorem diesKept_coreFree (q : Plane) (k : Nat) (s : State) : DiesKept s (coreFree q k s) := by
  unfold coreFree
  split
  · split
    · exact diesKept_dispatchOn q _ k s
    · exact .refl s
  · exact .refl s

theorem diesKept_placeFrom (q : Plane) : ∀ (n t : Nat) (s : State), DiesKept s (placeFrom q n t s)
  | 0, _, s => .refl s
  | n + 1, t, s => by
    unfold placeFrom
    split
    · exact diesKept_dispatchOn q t _ s
    · split
      · next k _ =>
        have h1 : DiesKept s (dispatchOn q t k (preempt q k true s)) := (diesKept_preempt q k true s).trans (diesKept_dispatchOn q t k _)
        extract_lets
        split
        · exact h1.trans (diesKept_placeFrom q n _ _)
        · exact h1
      · exact .refl s

theorem diesKept_placeReady (q : Plane) (t : Nat) (s : State) : DiesKept s (placeReady q t s) := by
  unfold placeReady
  split
  · exact diesKept_placeFrom q 64 t s
  · exact .refl s

theorem diesKept_acceptPost (q : Plane) (t : Nat) (v : Word) (s : State) : DiesKept s (acceptPost q t v s) := by
  unfold acceptPost
  extract_lets x d s1 s2 y
  have h1 : DiesKept s s1 := .trans (.trans (.setPlane (.refl s)) (diesKept_showPosts q _)) (diesKept_showThrPosts q t _)
  have h2 : DiesKept s s2 := by
    show DiesKept s (if _ then _ else _)
    split
    · exact h1.raise (by decide) (by decide)
    · split
      · exact h1.raise (by decide) (by decide)
      · exact h1
  split
  · exact (h2.setPlane.trans (diesKept_toReady q t false _)).trans (diesKept_placeReady q t _)
  · exact h2

theorem diesKept_drainPosts (q : Plane) : ∀ (n : Nat) (s : State), DiesKept s (drainPosts q n s)
  | 0, s => .refl s
  | n + 1, s => by
    unfold drainPosts
    extract_lets x pick
    clear_value pick
    split
    · exact .trans (.trans (.count (.setPlane (.refl s)) (by decide)) (diesKept_acceptPost q _ _ _)) (diesKept_drainPosts q n _)
    · exact .refl s

theorem diesKept_schedGrant (q : Plane) (s : State) : DiesKept s (schedGrant q s) :=
  .trans (.each (.each (.put (.refl s) (by decide)) (diesKept_preempt q · true)) (diesKept_coreFree q)) (diesKept_drainPosts q _ _)

/-! ### The DMA engine at a fault switch-over (R415, R416, R424) -/

theorem diesKept_dmaRaise (q : Plane) (c j : Nat) (s : State) : DiesKept s (dmaRaise q c j s) :=
  .raise (.refl s) (by unfold bDMA R.DMA_CH_FLAGS; simp only; omega) (by unfold bDMA R.DMA_CH_FLAG_CNT0; simp only; omega)

theorem diesKept_setDch (q : Plane) (c : Nat) (x : DmaCh) (s : State) : DiesKept s (setDch q c x s) :=
  .put (.setPlane (.refl s)) (by unfold R.DMA_CH_PROGRESS; omega)

theorem diesKept_setDmaState (q : Plane) (c n : Nat) (s : State) : DiesKept s (setDmaState q c n s) :=
  .put (.refl s) (by unfold R.DMA_CH_STATUS; omega)

theorem diesKept_setBursts (q : Plane) (l : List Burst) (s : State) : DiesKept s (setBursts q l s) :=
  .dpShared (.put (.put (.setPlane (.refl s)) (by decide)) (by decide)) (by decide)

theorem diesKept_raiseHalf (q : Plane) (c : Nat) (s : State) : DiesKept s (raiseHalf q c s) := by
  unfold raiseHalf
  extract_lets
  split
  · split
    · exact (diesKept_setDch q c _ s).trans (diesKept_dmaRaise q c 0 _)
    · exact .refl s
  · exact .refl s

theorem diesKept_bobWrite (q : Plane) (c st good : Nat) (b : Bobbin) (issued : Nat) (s : State) :
    DiesKept s (bobWrite q c st good b issued s) := by
  unfold bobWrite
  extract_lets a s1 keep w0 s2 s3 s4 size s5
  have h2 : DiesKept s s2 := .trans (.trans (diesKept_sput q _ _ s) (diesKept_sput q _ _ _)) (diesKept_raiseHalf q c _)
  have h3 : DiesKept s s3 := by
    show DiesKept s (if _ then _ else _)
    split
    · exact h2.trans (diesKept_dmaRaise q c 1 _)
    · exact h2
  have h4 : DiesKept s s4 := by
    show DiesKept s (if _ then _ else _)
    split
    · exact h3.trans (diesKept_dmaRaise q c 2 _)
    · exact h3
  exact (h4.put (by unfold R.DMA_CH_STATUS; omega)).put (by unfold R.DMA_CH_STATUS; omega)

theorem diesKept_afterBob {q : Plane} {c st : Nat} {b : Bobbin} {x : DmaCh} {s t : State} (h : afterBob q c st b x s = some t) :
    DiesKept s t := by
  unfold afterBob at h
  extract_lets cont s1 at h
  have h1 : DiesKept s s1 := diesKept_setDch q c dmaIdle s
  split at h
  · cases h; exact h1.trans (diesKept_setDmaState q c 0 _)
  · split at h
    · cases h; exact h1.trans (diesKept_setDmaState q c 4 _)
    · split at h
      · cases h; exact (h1.trans (diesKept_setDmaState q c 5 _)).trans (diesKept_dmaRaise q c 4 _)
      · cases h

theorem diesKept_loadBob (q : Plane) (c : Nat) : ∀ (n : Nat) (s : State), DiesKept s (loadBob q c n s)
  | 0, s => .refl s
  | n + 1, s => by
    unfold loadBob
    extract_lets a b bad _ _ s1 st s2
    have h1 : DiesKept s s1 := .trans (diesKept_setDch q c _ s) (diesKept_setDmaState q c 1 _)
    have h2 : DiesKept s s2 := (h1.trans (diesKept_reportBad q a 6 _)).trans (diesKept_bobWrite q c st 0 b 0 _)
    split
    · split
      · exact diesKept_setDch q c _ s
      · exact ((diesKept_setDch q c _ s).trans (diesKept_setDmaState q c 2 _)).trans (diesKept_dmaRaise q c 3 _)
    · split
      · exact h1
      · split
        · next h => exact h2.trans (diesKept_afterBob h)
        · exact (h2.trans (diesKept_setDch q c _ _)).trans (diesKept_loadBob q c n _)

theorem diesKept_finishBob (q : Plane) (c st good : Nat) (s : State) : DiesKept s (finishBob q c st good s) := by
  unfold finishBob
  extract_lets x
  split
  · next b _ =>
    have h1 := diesKept_bobWrite q c st good b x.issued s
    extract_lets
    split
    · next h => exact h1.trans (diesKept_afterBob h)
    · exact (h1.trans (diesKept_setDch q c _ _)).trans (diesKept_loadBob q c _ _)
  · exact .refl s

theorem diesKept_settleBob (q : Plane) (c : Nat) (s : State) : DiesKept s (settleBob q c s) := by
  unfold settleBob
  extract_lets x
  split
  · split
    · exact diesKept_finishBob q c 6 _ s
    · split
      · exact diesKept_finishBob q c _ _ s
      · split
        · exact diesKept_finishBob q c 0 _ s
        · exact .refl s
  · exact .refl s

theorem diesKept_dmaReplay (q : Plane) (s : State) : DiesKept s (dmaReplay q s) :=
  .each (.trans (.setPlane (.refl s)) (diesKept_setBursts q [] _)) fun c u => by
    split
    · exact ((diesKept_setDch q c _ u).trans (diesKept_dmaRaise q c 8 _)).trans (diesKept_settleBob q c _)
    · exact .refl u

/-! ### The Warden's stop of every arm (R30, R224 to R226) -/

theorem diesKept_putCh (q : Plane) (c : Nat) (f : Fld) (n : Nat) (s : State) : DiesKept s (putCh q c f n s) :=
  .put (.refl s) (by unfold R.CLE_CH_STATUS; omega)

theorem diesKept_raiseC (q : Plane) (c j : Nat) (s : State) : DiesKept s (raiseC q c j s) :=
  .raise (.refl s) (by unfold bCH R.CLE_CH_FLAGS; simp only; omega) (by unfold bCH R.CLE_CH_FLAG_CNT0; simp only; omega)

theorem diesKept_setSlot (q : Plane) (c : Nat) (out pre : Int) (clamped : Bool) (s : State) :
    DiesKept s (setSlot q c out pre clamped s) :=
  .trans (.wr (.setPlane (.refl s)) (by unfold R.CLE_CH_OUT; omega)) (diesKept_sputs q _ _ _ _ (Nat.le_refl _))

theorem diesKept_touchSlot (q : Plane) (c : Nat) (s : State) : DiesKept s (touchSlot q c s) := diesKept_setSlot q c _ _ _ s

theorem diesKept_newMode (q : Plane) (c m : Nat) (s : State) : DiesKept s (newMode q c m s) := by
  unfold newMode
  split
  · exact .refl s
  · exact (diesKept_putCh q c _ m s).trans (diesKept_raiseC q c 12 _)

theorem diesKept_enterOff (q : Plane) (c : Nat) (s : State) : DiesKept s (enterOff q c s) := by
  have h1 : DiesKept s (newMode q c 0 (s.setChan q c (toOff (s.chan q c)))) := .trans (.setPlane (.refl s)) (diesKept_newMode q c 0 _)
  exact (((h1.trans (diesKept_putCh q c _ _ _)).trans (diesKept_putCh q c _ _ _)).trans (diesKept_putCh q c _ _ _)).trans
    (diesKept_setSlot q c 0 0 false _)

theorem diesKept_setStop (q : Plane) (u : Nat) (x : StopUnit) (s : State) : DiesKept s (setStop q u x s) := by
  unfold setStop
  extract_lets _ s1
  have h1 : DiesKept s s1 := .setPlane (.refl s)
  split
  · exact (h1.put (by unfold R.CLE_ARM_STATUS; omega)).put (by unfold R.CLE_ARM_STATUS; omega)
  · exact h1

theorem diesKept_stopChannel (q : Plane) (cat : Nat) (first : Bool) (c : Nat) (s : State) :
    DiesKept s (stopChannel q cat first c s) := by
  have hset : ∀ x, DiesKept s (s.setChan q c x) := fun _ => .setPlane (.refl s)
  unfold stopChannel
  extract_lets
  split
  · exact (hset _).trans (diesKept_enterOff q c _)
  · split
    · exact (hset _).trans (diesKept_touchSlot q c _)
    · split
      · exact hset _
      · split
        · exact hset _
        · exact hset _

theorem diesKept_endStop (q : Plane) (u : Nat) (expired : Bool) (s : State) : DiesKept s (endStop q u expired s) := by
  refine .trans (.each (.refl s) fun c v => ?_) (diesKept_setStop q u _ _)
  refine .trans (.trans ?_ (diesKept_putCh q c _ 0 _)) (diesKept_raiseC q c 10 _)
  split
  · exact .trans (.setPlane (.refl v)) (diesKept_enterOff q c _)
  · exact .trans (.setPlane (.refl v)) (diesKept_touchSlot q c _)

theorem diesKept_checkStop (q : Plane) (u : Nat) (s : State) : DiesKept s (checkStop q u s) := by
  unfold checkStop
  split
  · exact diesKept_endStop q u false s
  · exact .refl s

theorem diesKept_requestStop (q : Plane) (u cat src : Nat) (s : State) : DiesKept s (requestStop q u cat src s) := by
  unfold requestStop
  extract_lets st reqs low s1 first s2 _ s3 s4
  have h1 : DiesKept s s1 := by
    show DiesKept s (if _ then _ else _)
    split
    · exact .put (.refl s) (by unfold R.CLE_ARM_STATUS; omega)
    · exact .refl s
  have h3 : DiesKept s s3 := by
    show DiesKept s (if _ then _ else _)
    split
    · exact (h1.trans (diesKept_setStop q u _ _)).setPlane
    · exact h1.trans (diesKept_setStop q u _ _)
  have h4 : DiesKept s s4 := h3.each fun c v => (diesKept_stopChannel q low first c v).trans (diesKept_putCh q c _ 1 _)
  split
  · exact h1.trans (diesKept_setStop q u _ _)
  · split
    · exact h1.trans (diesKept_setStop q u _ _)
    · split
      · exact h4.trans (diesKept_checkStop q u _)
      · exact h4

theorem diesKept_wardenStop (q : Plane) (s : State) : DiesKept s (wardenStop q s) :=
  .each (.refl s) fun a u => diesKept_requestStop q a _ srcWarden u

end Sys2Proof.Machine

/-! ## The redundancy arbiter: wards, plane states, retirement and recovery (R362, R374, R380, R382, R383) -/

namespace Sys2Proof.Machine

/-! ### The ward of a plane -/

theorem State.red_of_inner {s t : State} (h : t.inner = s.inner) : t.red = s.red := (congrArg State.red h :)

theorem State.ward_of_red {s t : State} (h : t.red = s.red) (q : Plane) : t.ward q = s.ward q := by
  cases q
  · exact congrArg RedSt.wa h
  · exact congrArg RedSt.wb h

@[simp] theorem State.ward_put (s : State) (p : Plane) (k : Nat) (f : Fld) (n : Nat) (q : Plane) : (s.put p k f n).ward q = s.ward q :=
  State.ward_of_red (s.red_wr p k _) q

@[simp] theorem State.ward_dp (s : State) (k : Nat) (f : Fld) (n : Nat) (q : Plane) : (s.dp k f n).ward q = s.ward q :=
  State.ward_of_red (s.red_dp k f n) q

@[simp] theorem State.ward_raise (s : State) (p : Plane) (b : Bank) (e j : Nat) (q : Plane) : (s.raise p b e j).ward q = s.ward q :=
  State.ward_of_red (State.red_of_inner (s.inner_raise p b e j)) q

@[simp] theorem State.ward_redRaise (s : State) (j : Nat) (q : Plane) : (redRaise j s).ward q = s.ward q := s.ward_raise .a _ _ j q

@[simp] theorem State.ward_setWard (s : State) (q : Plane) (w : WardPlane) : (s.setWard q w).ward q = w := by cases q <;> rfl

@[simp] theorem State.ward_setWard_other (s : State) (q : Plane) (w : WardPlane) : (s.setWard q w).ward q.other = s.ward q.other := by
  cases q <;> rfl

@[simp] theorem State.ward_other_setWard (s : State) (q : Plane) (w : WardPlane) : (s.setWard q.other w).ward q = s.ward q := by
  cases q <;> rfl

/-! ### What the arbiter changes -/

/-- Of the single-copy dies, only what the arbiter keeps and the registers `ks` differ. -/
structure ArbiterOnly (ks : List Nat) (s t : State) : Prop where
  boot : t.boot = s.boot
  links : t.links = s.links
  now : t.now = s.now
  rd : ∀ k, isDev k = true → k ∉ ks → t.rd .a k = s.rd .a k

namespace ArbiterOnly

variable {ks ls : List Nat} {s t u : State}

theorem refl (ks : List Nat) (s : State) : ArbiterOnly ks s s := ⟨rfl, rfl, rfl, fun _ _ _ => rfl⟩

theorem trans (h1 : ArbiterOnly ks s t) (h2 : ArbiterOnly ks t u) : ArbiterOnly ks s u :=
  ⟨h2.boot.trans h1.boot, h2.links.trans h1.links, h2.now.trans h1.now, fun k hd hk => (h2.rd k hd hk).trans (h1.rd k hd hk)⟩

theorem mono (h : ArbiterOnly ks s t) (hs : ∀ k ∈ ks, k ∈ ls) : ArbiterOnly ls s t :=
  ⟨h.boot, h.links, h.now, fun k hd hk => h.rd k hd fun hc => hk (hs k hc)⟩

theorem dg (h : ArbiterOnly ks s t) {k : Nat} (f : Fld) (hd : isDev k = true) (hk : k ∉ ks) : t.dg k f = s.dg k f :=
  congrArg f.get (h.rd k hd hk)

theorem keeps (h : ArbiterOnly ks s t) (h2 : Keeps .a t u ks) : ArbiterOnly ks s u :=
  h.trans ⟨(congrArg State.boot h2.1 :), h2.links, h2.now, fun k _ hk => h2.2 .a k (.inl hk)⟩

theorem dp (h : ArbiterOnly ks s t) {k : Nat} {f : Fld} {n : Nat} (hk : k ∈ ks) (hd : isDev k = true) : ArbiterOnly ks s (t.dp k f n) :=
  h.keeps ((Keeps.refl _ _ _).dp k f n hk hd)

theorem redRaise (h : ArbiterOnly ks s t) {j : Nat} (hk : ∀ k ∈ flagSlots bRED j, k ∈ ks) : ArbiterOnly ks s (redRaise j t) :=
  h.keeps ((Keeps.refl _ _ _).raise _ _ _ hk)

theorem setWard (h : ArbiterOnly ks s t) {q : Plane} {w : WardPlane} : ArbiterOnly ks s (t.setWard q w) :=
  h.trans ⟨by cases q <;> rfl, by cases q <;> rfl, by cases q <;> rfl, fun _ _ _ => State.rd_setWard _ _ _ _ _⟩

theorem setRed (h : ArbiterOnly ks s t) {r : RedSt} : ArbiterOnly ks s { t with red := r } :=
  h.trans ⟨rfl, rfl, rfl, fun _ _ _ => rfl⟩

theorem kept (h : ArbiterOnly ks s t) (h2 : DiesKept t u) (hk : ∀ k ∈ sharedSlots, k ∈ ks) : ArbiterOnly ks s u :=
  h.trans ⟨h2.boot, h2.links, h2.now, fun k hd hn => h2.rd k hd fun hc => hn (hk k hc)⟩

theorem planeState (h : ArbiterOnly ks s t) {q : Plane} (hk : R.RED_PLANE q.code ∉ ks) : planeState q t = planeState q s :=
  h.dg _ (by cases q <;> decide) hk

theorem chanter (h : ArbiterOnly ks s t) (hk : R.RED_STATUS ∉ ks) : t.chanter = s.chanter := by
  simp only [State.chanter, h.dg _ (by decide) hk]

end ArbiterOnly

theorem sameStores_of_words {s t : State} (h : ∀ r, (t.plane r).store.words = (s.plane r).store.words) : SameStores s t :=
  fun r a => by simp only [State.sw, h r]

theorem sameStores_setWard (s : State) (q : Plane) (w : WardPlane) : SameStores s (s.setWard q w) :=
  sameStores_of_words fun r => by cases q <;> cases r <;> rfl

/-! ### The state of a plane -/

/-- The slots of the domains of the planes. -/
def domSlots : List Nat := (List.range 8).map R.BEL_DOM_STATUS

theorem planeState_setPlaneState (q : Plane) {n : Nat} (hn : n < 8) (s : State) : planeState q (setPlaneState q n s) = n := by
  simp only [planeState, setPlaneState, State.dg, State.get, State.rd_setWard]
  refine (State.get_put_ne _ .a q F.RED_PLANE_STATE _ n (by cases q <;> decide)).trans ?_
  exact State.dg_dp_same s _ (by decide) hn

theorem ward_setPlaneState (q : Plane) (n : Nat) (s : State) : (setPlaneState q n s).ward q = { s.ward q with since := s.now } := by
  simp only [setPlaneState, State.ward_setWard, State.ward_put, State.ward_dp]
  rw [show ((s.dp (R.RED_PLANE q.code) F.RED_PLANE_STATE n).put q R.PLANE_STATUS F.PLANE_STATUS_STATE n).now = s.now from
    (State.now_wr _ _ _ _).trans (s.now_dp _ _ _)]

theorem ward_other_setPlaneState (q : Plane) (n : Nat) (s : State) : (setPlaneState q n s).ward q.other = s.ward q.other := by
  simp only [setPlaneState, State.ward_setWard_other, State.ward_put, State.ward_dp]

theorem arbiterOnly_setPlaneState {ks : List Nat} (q : Plane) (n : Nat) (s : State) (hk : R.RED_PLANE q.code ∈ ks)
    (hs : ∀ k ∈ sharedSlots, k ∈ ks) : ArbiterOnly ks s (setPlaneState q n s) :=
  .setWard (.kept (.dp (.refl ks s) hk (by cases q <;> decide)) (.put (.refl _) (by decide)) hs)

theorem sameStores_setPlaneState (q : Plane) (n : Nat) (s : State) : SameStores s (setPlaneState q n s) :=
  .trans (State.sw_of_inner (t := (s.dp (R.RED_PLANE q.code) F.RED_PLANE_STATE n).put q R.PLANE_STATUS F.PLANE_STATUS_STATE n) (by simp))
    (sameStores_setWard _ _ _)

/-! ### The domains and the reset of a plane (R374, R406, R468) -/

theorem planeDoms_lt {q : Plane} {d : Nat} (h : d ∈ planeDoms q) : d < 8 := by
  cases q
  · revert d; decide
  · revert d; decide

theorem arbiterOnly_setDoms {ks : List Nat} (q : Plane) (n : Nat) (s : State) (hk : ∀ k ∈ domSlots, k ∈ ks) :
    ArbiterOnly ks s (setDoms q n s) := by
  refine each_keeps (P := ArbiterOnly ks s) (fun d hd u hu => ?_) (.refl ks s)
  have hm : R.BEL_DOM_STATUS d ∈ domSlots := List.mem_map_of_mem (List.mem_range.2 (planeDoms_lt hd))
  have hlt := planeDoms_lt hd
  have h1 := hu.dp (f := F.BEL_DOM_STATUS_STATE) (n := n) (hk _ hm) (isDev_of_lt (by unfold R.BEL_DOM_STATUS; omega))
  exact ⟨h1.boot, h1.links, h1.now, h1.rd⟩

/-- The domains lie apart from what the Warden keeps, and from the planes. -/
theorem setDoms_rest (q : Plane) (n : Nat) (s : State) : (setDoms q n s).red = s.red ∧ SameStores s (setDoms q n s) := by
  refine each_keeps (P := fun t => t.red = s.red ∧ SameStores s t) (fun d _ u hu => ?_) ⟨rfl, SameStores.refl s⟩
  obtain ⟨hred, hstore⟩ := hu
  have h1 : (u.dp (R.BEL_DOM_STATUS d) F.BEL_DOM_STATUS_STATE n).inner = u.inner := u.inner_dp _ _ _
  exact ⟨(State.red_of_inner h1).trans hred, hstore.trans ((State.sw_of_inner h1).trans fun _ _ => rfl)⟩

/-- The plane after its reset, before its registers show it. -/
theorem diesKept_planeReset (q : Plane) (s : State) : ∃ t, DiesKept s t
    ∧ (∀ r, (t.plane r).store.words = (s.plane r).store.words)
    ∧ planeReset q s = t.setWard q { t.ward q with interlock := false, inReset := true, mchk := false, toggled := false, noToggle := 0 } := by
  refine ⟨_, .put (.put (.setPlane (diesKept_snapLost q s)) (by decide)) (by decide), fun r => ?_, rfl⟩
  have hs : ((s.snapLost q).plane r).store = (s.plane r).store := by
    unfold State.snapLost
    split
    · rfl
    · exact State.store_of_inner (by simp) r
  rw [State.store_of_inner (State.inner_put _ _ _ _ _) r, State.store_of_inner (State.inner_put _ _ _ _ _) r, State.plane_setPlane]
  split
  · next h => rw [h]
  · rw [hs]

theorem arbiterOnly_planeReset {ks : List Nat} (q : Plane) (s : State) (hk : ∀ k ∈ sharedSlots, k ∈ ks) :
    ArbiterOnly ks s (planeReset q s) := by
  obtain ⟨t, ht, -, he⟩ := diesKept_planeReset q s
  rw [he]
  exact .setWard (.kept (.refl ks s) ht hk)

theorem sameStores_planeReset (q : Plane) (s : State) : SameStores s (planeReset q s) := by
  obtain ⟨t, -, hw, he⟩ := diesKept_planeReset q s
  rw [he]
  exact (sameStores_of_words hw).trans (sameStores_setWard _ _ _)

theorem ward_planeReset (q : Plane) (s : State) : (planeReset q s).ward q
    = { s.ward q with interlock := false, inReset := true, mchk := false, toggled := false, noToggle := 0 } := by
  obtain ⟨t, ht, -, he⟩ := diesKept_planeReset q s
  rw [he, State.ward_setWard, ht.ward]

theorem ward_other_planeReset (q : Plane) (s : State) : (planeReset q s).ward q.other = s.ward q.other := by
  obtain ⟨t, ht, -, he⟩ := diesKept_planeReset q s
  rw [he, State.ward_setWard_other, ht.ward]

/-! ### Retirement and recovery (R374, R380, R382, R383) -/

/-- The registers of single-copy dies in which the retirement and the recovery of plane `q` show. -/
def faultSlots (q : Plane) : List Nat :=
  [R.RED_STATUS, R.RED_PLANE q.code] ++ flagSlots bRED 9 ++ domSlots ++ sharedSlots

theorem arbiterOnly_enterSimplex (q : Plane) (s : State) : ArbiterOnly (faultSlots q) s (enterSimplex s) := by
  unfold enterSimplex
  split
  · exact .refl _ s
  · exact .redRaise (.dp (.refl _ s) (by simp [faultSlots]) (by decide)) (by simp [faultSlots, flagSlots])

theorem simplex_enterSimplex (s : State) : (enterSimplex s).dg R.RED_STATUS F.RED_STATUS_SIMPLEX = 1 := by
  unfold enterSimplex
  split
  · assumption
  · exact (State.get_raise _ _ _ _ _ _ _ _ (by decide)).trans (State.dg_dp_same _ _ (by decide) (by decide))

theorem inner_enterSimplex (s : State) : (enterSimplex s).inner = s.inner := by
  unfold enterSimplex
  split
  · rfl
  · simp [redRaise]

theorem planeState_enterSimplex (q : Plane) (s : State) : planeState q (enterSimplex s) = planeState q s := by
  unfold enterSimplex
  split
  · rfl
  · refine (State.get_raise _ _ _ _ _ _ _ _ (by cases q <;> decide)).trans (State.dg_dp_ne _ _ _ _ (by cases q <;> decide))

/-- A plane in reset, its domains and its state shown. -/
theorem arbiterOnly_resetAs {ks : List Nat} (q : Plane) (d n : Nat) (s : State) (hk : ∀ k ∈ faultSlots q, k ∈ ks) :
    ArbiterOnly ks s (setPlaneState q n (setDoms q d (planeReset q s))) :=
  have h : ArbiterOnly (faultSlots q) s (setPlaneState q n (setDoms q d (planeReset q s))) :=
    .trans (.trans (arbiterOnly_planeReset q s (by simp +contextual [faultSlots])) (arbiterOnly_setDoms q d _ (by simp +contextual [faultSlots])))
      (arbiterOnly_setPlaneState q n _ (by simp [faultSlots]) (by simp +contextual [faultSlots]))
  h.mono hk

theorem sameStores_resetAs (q : Plane) (d n : Nat) (s : State) : SameStores s (setPlaneState q n (setDoms q d (planeReset q s))) :=
  ((sameStores_planeReset q s).trans (setDoms_rest q d _).2).trans (sameStores_setPlaneState q n _)

theorem ward_resetAs (q : Plane) (d n : Nat) (s : State) :
    let w := (setPlaneState q n (setDoms q d (planeReset q s))).ward q
    w.inReset = true ∧ w.interlock = false := by
  rw [ward_setPlaneState, State.ward_of_red (setDoms_rest q d _).1, ward_planeReset]
  exact ⟨rfl, rfl⟩

theorem ward_other_resetAs (q : Plane) (d n : Nat) (s : State) :
    (setPlaneState q n (setDoms q d (planeReset q s))).ward q.other = s.ward q.other := by
  rw [ward_other_setPlaneState, State.ward_of_red (setDoms_rest q d _).1, ward_other_planeReset]

/-- A plane is held in reset with its interlock inactive, in state `n`; the other one, and both stores, are as they were. -/
structure HeldInReset (q : Plane) (n : Nat) (s t : State) : Prop where
  only : ArbiterOnly (faultSlots q) s t
  state : planeState q t = n
  inReset : (t.ward q).inReset = true
  interlock : (t.ward q).interlock = false
  other : t.ward q.other = s.ward q.other
  stores : SameStores s t

theorem heldInReset_retire (q : Plane) (s : State) :
    HeldInReset q 5 s (retire q s) ∧ (retire q s).dg R.RED_STATUS F.RED_STATUS_SIMPLEX = 1 := by
  refine ⟨?_, simplex_enterSimplex _⟩
  unfold retire
  have h1 := arbiterOnly_resetAs q 4 5 s (fun _ h => h)
  have hstate := planeState_setPlaneState q (n := 5) (by decide) (setDoms q 4 (planeReset q s))
  have hstores := sameStores_resetAs q 4 5 s
  obtain ⟨hin, hlock⟩ := ward_resetAs q 4 5 s
  have hother := ward_other_resetAs q 4 5 s
  generalize setPlaneState q 5 (setDoms q 4 (planeReset q s)) = u at *
  have hinner : (enterSimplex (redRaise 9 u)).inner = u.inner := (inner_enterSimplex _).trans (u.inner_raise _ _ _ _)
  have hw := State.ward_of_red (State.red_of_inner hinner)
  have hraise : planeState q (redRaise 9 u) = planeState q u := State.get_raise _ _ _ _ _ _ _ _ (by cases q <;> decide)
  exact
    { only := (h1.redRaise (by simp +contextual [faultSlots])).trans (arbiterOnly_enterSimplex q _)
      state := (planeState_enterSimplex q _).trans (hraise.trans hstate)
      inReset := (congrArg WardPlane.inReset (hw q)).trans hin
      interlock := (congrArg WardPlane.interlock (hw q)).trans hlock
      other := (hw _).trans hother
      stores := hstores.trans (State.sw_of_inner hinner) }

theorem heldInReset_recover (q : Plane) (s : State) :
    HeldInReset q 4 s (recover q s) ∧ ((recover q s).ward q).holdNext = true := by
  unfold recover
  extract_lets s1 s2
  have h1 : ArbiterOnly (faultSlots q) s s1 := arbiterOnly_resetAs q 5 4 s (fun _ h => h)
  have hstate : planeState q s1 = 4 := planeState_setPlaneState q (n := 4) (by decide) _
  have hstores : SameStores s s1 := sameStores_resetAs q 5 4 s
  obtain ⟨hin, hlock⟩ : (s1.ward q).inReset = true ∧ (s1.ward q).interlock = false := ward_resetAs q 5 4 s
  have hother : s1.ward q.other = s.ward q.other := ward_other_resetAs q 5 4 s
  have hw : ∀ p, s2.ward p = s1.ward p := fun p => s1.ward_dp _ _ _ p
  have hs2 : planeState q s2 = planeState q s1 := State.dg_dp_field _ _ _ (by decide) (by decide)
  refine ⟨{ only := .setWard (.dp h1 (by simp [faultSlots]) (by cases q <;> decide)), state := ?_, inReset := ?_, interlock := ?_
            other := ?_, stores := ?_ }, by rw [State.ward_setWard]⟩
  · simp only [planeState, State.dg, State.get, State.rd_setWard]
    exact hs2.trans hstate
  · rw [State.ward_setWard]; exact (congrArg WardPlane.inReset (hw q)).trans hin
  · rw [State.ward_setWard]; exact (congrArg WardPlane.interlock (hw q)).trans hlock
  · rw [State.ward_setWard_other, hw, hother]
  · exact (hstores.trans (State.sw_of_inner (s1.inner_dp _ _ _))).trans (sameStores_setWard _ _ _)

end Sys2Proof.Machine

/-! ## Grants and role changes (R364, R379, R380) -/

namespace Sys2Proof.Machine

theorem ofCode_code (q : Plane) : Plane.ofCode q.code = q := by cases q <;> rfl

theorem code_lt_two (q : Plane) : q.code < 2 := by cases q <;> decide

theorem other_other (q : Plane) : q.other.other = q := by cases q <;> rfl

/-- The grant that RED_STATUS shows (R364). -/
theorem chanter_of_fields {s : State} {q : Plane} (h1 : s.dg R.RED_STATUS F.RED_STATUS_GRANTED = 1)
    (h2 : s.dg R.RED_STATUS F.RED_STATUS_CHANTER = q.code) : s.chanter = some q := by
  rw [State.chanter, if_pos h1, h2, ofCode_code]

/-- What belongs to the plane that a grant names. -/
structure Granted (q : Plane) (s t : State) : Prop where
  only : ArbiterOnly ([R.RED_EPOCH, R.RED_STATUS, R.RED_PLANE q.code] ++ sharedSlots) s t
  chanter : t.chanter = some q
  state : planeState q t = 1
  epoch : t.dg R.RED_EPOCH F.RED_EPOCH_EPOCH = (s.dg R.RED_EPOCH F.RED_EPOCH_EPOCH + 1) % 2 ^ 32
  interlock : (t.ward q).interlock = true
  otherInterlock : (t.ward q.other).interlock = false
  otherReset : (t.ward q.other).inReset = (s.ward q.other).inReset

/-- The interlocks change, and the epoch and the grant are shown. -/
theorem granted_shown (q : Plane) (s : State) {u : State} (w : WardPlane)
    (hu : u = (s.setWard q.other { s.ward q.other with interlock := false }).setWard q { w with interlock := true })
    {t : State} (ht : t = ((u.dp R.RED_EPOCH F.RED_EPOCH_EPOCH ((s.dg R.RED_EPOCH F.RED_EPOCH_EPOCH + 1) % 2 ^ 32)).dp R.RED_STATUS
      F.RED_STATUS_GRANTED 1).dp R.RED_STATUS F.RED_STATUS_CHANTER q.code) :
    ArbiterOnly ([R.RED_EPOCH, R.RED_STATUS, R.RED_PLANE q.code] ++ sharedSlots) s t ∧ t.chanter = some q
      ∧ t.dg R.RED_EPOCH F.RED_EPOCH_EPOCH = (s.dg R.RED_EPOCH F.RED_EPOCH_EPOCH + 1) % 2 ^ 32
      ∧ (t.ward q).interlock = true ∧ (t.ward q.other).interlock = false ∧ (t.ward q.other).inReset = (s.ward q.other).inReset := by
  have hw : ∀ p, t.ward p = u.ward p := fun p => by subst ht; simp
  refine ⟨?_, ?_, ?_, ?_, ?_, ?_⟩
  · subst ht hu
    exact .dp (.dp (.dp (.setWard (.setWard (.refl _ s))) (by simp) (by decide)) (by simp) (by decide)) (by simp) (by decide)
  · refine chanter_of_fields ?_ ?_
    · rw [ht, State.dg_dp_field _ _ _ (by decide) (by decide)]
      exact State.dg_dp_same _ _ (by decide) (by decide)
    · rw [ht]
      exact State.dg_dp_same _ _ (by decide) (code_lt_two q)
  · rw [ht, State.dg_dp_ne _ _ _ _ (by decide), State.dg_dp_ne _ _ _ _ (by decide)]
    exact State.dg_dp_mod _ _ _ (by decide)
  · rw [hw, hu, State.ward_setWard]
  · rw [hw, hu, State.ward_setWard_other, State.ward_setWard]
  · rw [hw, hu, State.ward_setWard_other, State.ward_setWard]

theorem granted_grant (q : Plane) (s : State) : Granted q s (grant q s) := by
  unfold grant
  extract_lets e _ s1 _ s2 s3 s4 s5 s6 s7 s8 p _ _ s9
  obtain ⟨h3, hch, hep, hlock, hother, hreset⟩ := granted_shown q s { s1.ward q with noToggle := 0, toggled := false } (u := s2) rfl
    (t := s3) rfl
  have h5 : DiesKept s3 s5 := by
    have h4 : DiesKept s3 s4 := .put (.refl _) (by decide)
    show DiesKept s3 (if _ then _ else _)
    split
    · exact h4
    · exact h4.put (by decide)
  have h8 : DiesKept s6 s8 := .trans (.trans (.trans (diesKept_rollback q s6) (diesKept_snapLost q _)) (diesKept_snapLost q.other _))
    (diesKept_schedGrant q _)
  have h9 : DiesKept s6 s9 := .setPlane h8
  have h6 : ArbiterOnly [R.RED_PLANE q.code] (setPlaneState q 1 s5) s6 :=
    .dp (.dp (.refl _ _) (by simp) (by cases q <;> decide)) (by simp) (by cases q <;> decide)
  have hstate6 : planeState q s6 = 1 := by
    refine ((State.dg_dp_field _ _ _ (by decide) (by decide)).trans (State.dg_dp_field _ _ _ (by decide) (by decide))).trans ?_
    exact planeState_setPlaneState q (by decide) s5
  have hw6 : ∀ p, s6.ward p = (setPlaneState q 1 s5).ward p := fun p => by simp only [s6, State.ward_dp]
  have hw : ∀ p, s9.ward p = (setPlaneState q 1 s5).ward p := fun p => (h9.ward p).trans (hw6 p)
  have hw5 : ∀ p, s5.ward p = s3.ward p := h5.ward
  have hsub : ∀ k ∈ sharedSlots, k ∈ [R.RED_EPOCH, R.RED_STATUS, R.RED_PLANE q.code] ++ sharedSlots := by simp +contextual
  have honly5 := (arbiterOnly_setPlaneState (ks := R.RED_PLANE q.code :: sharedSlots) q 1 s5 (by simp) (by simp +contextual))
  have h39 : ArbiterOnly (R.RED_PLANE q.code :: sharedSlots) s3 s9 :=
    (((ArbiterOnly.refl _ s3).kept h5 (by simp +contextual)).trans (honly5.trans (h6.mono (by simp)))).kept h9 (by simp +contextual)
  exact
    { only := .setRed (h3.trans (h39.mono (by simp +contextual)))
      chanter := (h39.chanter (by cases q <;> decide)).trans hch
      state := (h9.dg _ (by cases q <;> decide) (by cases q <;> decide)).trans hstate6
      epoch := (h39.dg _ (by decide) (by cases q <;> decide)).trans hep
      interlock := by
        refine (congrArg WardPlane.interlock ((hw q).trans (ward_setPlaneState q 1 s5))).trans ?_
        exact (congrArg WardPlane.interlock (hw5 q)).trans hlock
      otherInterlock := by
        refine (congrArg WardPlane.interlock ((hw _).trans (ward_other_setPlaneState q 1 s5))).trans ?_
        exact (congrArg WardPlane.interlock (hw5 _)).trans hother
      otherReset := by
        refine (congrArg WardPlane.inReset ((hw _).trans (ward_other_setPlaneState q 1 s5))).trans ?_
        exact (congrArg WardPlane.inReset (hw5 _)).trans hreset }

end Sys2Proof.Machine

/-! ## O14: planned swaps, retirement and readmission (R379 to R385) -/

namespace Sys2Proof.Machine

/-! ### Swaps (R378, R379, R425) -/

theorem leaves_setDma (q p : Plane) (x : DmaSt) (s : State) : Leaves p s (s.setDma q x) [] :=
  ⟨sameStores_of_words fun r => by cases q <;> cases r <;> rfl, fun r k _ => s.rd_setPlane q r _ k rfl rfl⟩

theorem dma_setDma (q : Plane) (x : DmaSt) (s : State) : (s.setDma q x).dma q = x := by cases q <;> rfl

theorem State.dma_of_inner {s t : State} (h : t.inner = s.inner) (q : Plane) : t.dma q = s.dma q := by
  cases q
  · exact (congrArg (fun x => x.pa.rep.dma) h :)
  · exact (congrArg (fun x => x.pb.rep.dma) h :)

/-- A change of what the arbiter keeps leaves stores and registers. -/
theorem leaves_setRed (q : Plane) (r : RedSt) (s : State) (ks : List Nat) : Leaves q s { s with red := r } ks :=
  .of_planes q ks rfl rfl rfl

/-- Where only registers of single-copy dies change, it does not matter which plane is looked at. -/
theorem RegsKept.ofDev {s t : State} {ks : List Nat} (h : RegsKept .a s t ks) (hd : ∀ k ∈ ks, isDev k = true) (q : Plane) :
    RegsKept q s t ks := fun p k hk =>
  h p k (.inl (hk.elim id fun hn hc => absurd (hd k hc) (by rw [hn.1]; decide)))

theorem Keeps.ofDev {s t : State} {ks : List Nat} (h : Keeps .a s t ks) (hd : ∀ k ∈ ks, isDev k = true) (q : Plane) :
    Keeps q s t ks := ⟨h.1, h.2.ofDev hd q⟩

theorem keeps_redRaise (j : Nat) (s : State) : Keeps .a s (redRaise j s) (flagSlots bRED j) :=
  (Keeps.refl _ _ _).raise _ _ _ fun _ h => h

theorem flagged_redRaise (s : State) {j : Nat} (hj : j < 36) (hb : bRED.flags ≠ bRED.cnt + j / 4) : (redRaise j s).flagged .a bRED j :=
  s.flagged_raise_self .a bRED _ hj hb

theorem Leaves.chanter {q : Plane} {s t : State} {ks : List Nat} (h : Leaves q s t ks) (hk : R.RED_STATUS ∉ ks) :
    t.chanter = s.chanter := by
  simp only [State.chanter, h.dg _ hk]

/-- A swap that is due is announced (R425). -/
theorem does_swapAnnounce {q : Plane} {s : State} {cause : SwapCause} (hc : s.chanter = some q) (hd : swapDue s = some cause) :
    Does .swapAnnounce s (fun t => (t.dma q).hold = true ∧ t.red.announced = true ∧ SameStores s t ∧ RegsKept q s t []) := by
  have he : exec .swapAnnounce s = settled (dmaHold q true { s with red := { s.red with announced := true } }) := by
    show execSwapAnnounce s = _
    rw [execSwapAnnounce, hc, hd]
  have hl : Leaves q s (dmaHold q true { s with red := { s.red with announced := true } }) [] :=
    (leaves_setRed q _ s []).trans (leaves_setDma q q _ _)
  refine does_of_exec he ⟨?_, ?_, (hl.andKeeps (Keeps.refl _ _ _).recheck)⟩
  · exact congrArg DmaSt.hold (dma_setDma q _ _)
  · cases q <;> rfl

/-- The end of a command that has replaced what the arbiter keeps. -/
theorem leaves_endRed (q : Plane) (r : RedSt) (s : State) : Leaves q s (belRecheck { s with red := r }) [] :=
  (leaves_setRed q r s []).andKeeps (Keeps.refl _ _ _).recheck

theorem dma_endRed (q : Plane) (r : RedSt) (s : State) : (belRecheck { s with red := r }).dma q = s.dma q := by cases q <;> rfl

/-- What the arbiter keeps after the Chanter has stayed. -/
def stayRed (r : RedSt) : RedSt := { r with swapSent := false, announced := false, due := none }

theorem exec_swapDecision_stay {q : Plane} {s : State} (hc : s.chanter = some q) (hs : s.red.swapSent = true)
    (ha : s.red.applied ≠ some s.red.lastCommit) :
    exec .swapDecision s = settled { redRaise 2 (dmaHold q false s) with red := stayRed (redRaise 2 (dmaHold q false s)).red } := by
  show execSwapDecision s = _
  simp only [execSwapDecision, hc, hs, ha, decide_false, Bool.false_and, Bool.not_true, Bool.false_eq_true, if_false, stayRed]

/-- The Chanter stays where its Drone does not report the commit as applied (R379). -/
theorem does_swapDecision_stay {q : Plane} {s : State} (hc : s.chanter = some q) (hs : s.red.swapSent = true)
    (ha : s.red.applied ≠ some s.red.lastCommit) :
    Does .swapDecision s (fun t => t.chanter = some q ∧ t.flagged .a bRED 2 ∧ t.red.swapSent = false ∧ t.red.due = none
      ∧ (t.dma q).hold = false ∧ SameStores s t ∧ RegsKept q s t (flagSlots bRED 2)) := by
  have he := exec_swapDecision_stay hc hs ha
  have h1 : Leaves q s (dmaHold q false s) (flagSlots bRED 2) := (leaves_setDma q q _ s).mono (by simp)
  have hhold : ((dmaHold q false s).dma q).hold = false := congrArg DmaSt.hold (dma_setDma q _ s)
  generalize dmaHold q false s = u at *
  have hk := keeps_redRaise 2 u
  have hflag : (redRaise 2 u).flagged .a bRED 2 := flagged_redRaise u (by decide) (by decide)
  have hdma := State.dma_of_inner hk.1 q
  have h2 : Leaves q s (redRaise 2 u) (flagSlots bRED 2) := h1.andKeeps (hk.ofDev (by decide) q)
  generalize redRaise 2 u = v at *
  have hv := leaves_endRed q (stayRed v.red) v
  have hl := h2.trans (hv.mono (by simp))
  refine does_of_exec he ⟨(hl.chanter (by decide)).trans hc, State.flagged_of_rd (hv.rd .a (by simp)) hflag, rfl, rfl, ?_, hl⟩
  rw [dma_endRed, hdma, hhold]

/-- The role change that RED_LAST_SW records. -/
theorem lastSw_fields (cause : Nat) (q : Plane) (cycle : Nat) (s : State) :
    (lastSw cause q 0 cycle s).dg R.RED_LAST_SW F.RED_LAST_SW_FROM = q.code
      ∧ (lastSw cause q 0 cycle s).dg R.RED_LAST_SW F.RED_LAST_SW_GAP = 0 := by
  have hq := code_lt_two q
  constructor
  · rw [lastSw, State.dg, State.get, State.rd_wr_same, Fld.get_set_ne _ _ (by decide) (by decide), Fld.get_set_same _ (by decide)]
    exact Nat.mod_eq_of_lt hq
  · rw [lastSw, State.dg, State.get, State.rd_wr_same, Fld.get_set_ne _ _ (by decide) (by decide),
      Fld.get_set_ne _ _ (by decide) (by decide), Fld.get_set_same _ (by decide)]
    decide

theorem keeps_lastSw (cause : Nat) (q : Plane) (gap cycle : Nat) (s : State) :
    Keeps .a s (lastSw cause q gap cycle s) [R.RED_LAST_SW] := (Keeps.refl _ _ _).wr _ _ (by simp)

/-- The registers of single-copy dies in which a plane's entry to IN_STEP shows. -/
def inStepSlots (q : Plane) : List Nat := R.RED_PLANE q.code :: flagSlots bRED 7 ++ sharedSlots

theorem enterInStep_facts (q : Plane) (s : State) :
    ArbiterOnly (inStepSlots q) s (enterInStep q s) ∧ planeState q (enterInStep q s) = 2 := by
  unfold enterInStep
  extract_lets w s1
  have h1 : ArbiterOnly (inStepSlots q) s s1 := by
    show ArbiterOnly _ s (if _ then _ else _)
    split
    · exact .dp (.setWard (.refl _ s)) (by simp [inStepSlots]) (by cases q <;> decide)
    · exact .refl _ s
  have h2 := arbiterOnly_setPlaneState (ks := inStepSlots q) q 2 s1 (by simp [inStepSlots]) (by simp +contextual [inStepSlots])
  have hstate := planeState_setPlaneState q (n := 2) (by decide) s1
  generalize setPlaneState q 2 s1 = u at *
  have h3 : ArbiterOnly (inStepSlots q) u (redRaise 7 u) := .redRaise (.refl _ u) (by simp +contextual [inStepSlots])
  have hraise : planeState q (redRaise 7 u) = planeState q u := State.get_raise _ _ _ _ _ _ _ _ (by cases q <;> decide)
  have h4 : DiesKept (redRaise 7 u) ((redRaise 7 u).put q R.SCH_STATUS F.SCH_STATUS_MODE 2) := .put (.refl _) (by decide)
  exact ⟨((h1.trans h2).trans h3).kept h4 (by simp +contextual [inStepSlots]),
    (h4.dg _ (by cases q <;> decide) (by cases q <;> decide)).trans (hraise.trans hstate)⟩

/-- What follows a grant: engines go on, and the role change is recorded. -/
theorem roleChange_facts {j : Nat} (hj : j < 4) (cause : Nat) (src : Plane) (cycle : Nat) {s u : State} (hu : DiesKept s u) :
    let t := lastSw cause src 0 cycle (redRaise j u)
    ArbiterOnly (R.RED_LAST_SW :: flagSlots bRED j ++ sharedSlots) s t ∧ t.red = s.red ∧ t.flagged .a bRED j
      ∧ t.dg R.RED_LAST_SW F.RED_LAST_SW_FROM = src.code ∧ t.dg R.RED_LAST_SW F.RED_LAST_SW_GAP = 0 := by
  intro t
  have hk := keeps_redRaise j u
  have hl := keeps_lastSw cause src 0 cycle (redRaise j u)
  have hne : ∀ i < 4, bRED.flags ≠ bRED.cnt + i / 4 := by decide
  obtain ⟨hfrom, hgap⟩ := lastSw_fields cause src cycle (redRaise j u)
  refine ⟨?_, hl.red.trans (hk.red.trans hu.red), ?_, hfrom, hgap⟩
  · exact (((ArbiterOnly.refl _ s).kept hu (by simp +contextual)).keeps (hk.mono (by simp +contextual))).keeps (hl.mono (by simp))
  · exact State.flagged_of_rd (hl.2 .a _ (.inl (by decide))) (flagged_redRaise u (by omega) (hne j hj))

/-- What the arbiter keeps after a planned swap: the new Chanter runs from this cycle on. -/
def swappedRed (s : State) : RedSt := { s.red with readyAt := some s.now, firstCycle := s.n, hostSwap := false, reversion := false }

/-- The state in which a planned swap leaves the planes, before the arbiter has recorded it. -/
def swapped (q : Plane) (s : State) : State := dmaHold q.other false (dmaHold q false (grant q.other (enterInStep q s)))

/-- A planned swap, recorded. -/
def swapNoted (q : Plane) (cause : Nat) (s : State) : State := lastSw cause q 0 s.n (redRaise 1 s)

theorem exec_swapDecision_taken {q : Plane} {s : State} (hc : s.chanter = some q) (hs : s.red.swapSent = true)
    (ha : s.red.applied = some s.red.lastCommit) (hel : eligible q.other false s = true) (hm : (s.ward q).mchk = false) :
    exec .swapDecision s = settled { swapNoted q (s.red.due.getD .planned).code (swapped q s) with
      red := swappedRed (swapNoted q (s.red.due.getD .planned).code (swapped q s)) } := by
  show execSwapDecision s = _
  simp only [execSwapDecision, hc, hs, ha, hel, hm, decide_true, Bool.true_and, Bool.not_true, Bool.not_false, Bool.false_eq_true,
    if_false, if_true, swapNoted, swapped, swappedRed]

/-- A planned swap is taken: the Drone is granted in the cycle, and the Chanter goes on in step (R379). -/
theorem does_swapDecision_taken {q : Plane} {s : State} (hc : s.chanter = some q) (hs : s.red.swapSent = true)
    (ha : s.red.applied = some s.red.lastCommit) (hel : eligible q.other false s = true) (hm : (s.ward q).mchk = false) :
    Does .swapDecision s (fun t => t.chanter = some q.other ∧ planeState q t = 2 ∧ planeState q.other t = 1
      ∧ t.dg R.RED_EPOCH F.RED_EPOCH_EPOCH = (s.dg R.RED_EPOCH F.RED_EPOCH_EPOCH + 1) % 2 ^ 32 ∧ t.flagged .a bRED 1
      ∧ t.dg R.RED_LAST_SW F.RED_LAST_SW_FROM = q.code ∧ t.dg R.RED_LAST_SW F.RED_LAST_SW_GAP = 0) := by
  have he := exec_swapDecision_taken hc hs ha hel hm
  obtain ⟨hin, hstate⟩ := enterInStep_facts q s
  have hgr := granted_grant q.other (enterInStep q s)
  have hd : DiesKept (grant q.other (enterInStep q s)) (swapped q s) := .setPlane (.setPlane (.refl _))
  generalize swapped q s = w at *
  generalize grant q.other (enterInStep q s) = v at *
  obtain ⟨honly, -, hflag, hfrom, hgap⟩ := roleChange_facts (j := 1) (by decide) (s.red.due.getD .planned).code q w.n hd
  change exec _ s = settled { lastSw _ q 0 w.n (redRaise 1 w) with red := swappedRed (lastSw _ q 0 w.n (redRaise 1 w)) } at he
  generalize lastSw _ q 0 w.n (redRaise 1 w) = x at *
  have hx := leaves_endRed q (swappedRed x) x
  refine does_of_exec he ⟨?_, ?_, ?_, ?_, State.flagged_of_rd (hx.rd .a (by simp)) hflag, (hx.dg _ (by simp)).trans hfrom,
    (hx.dg _ (by simp)).trans hgap⟩
  · exact (hx.chanter (by simp)).trans ((honly.chanter (by decide)).trans hgr.chanter)
  · refine (hx.dg _ (by simp)).trans ((honly.planeState (by cases q <;> decide)).trans ?_)
    exact (hgr.only.planeState (by cases q <;> decide)).trans hstate
  · exact (hx.dg _ (by simp)).trans ((honly.planeState (by cases q <;> decide)).trans hgr.state)
  · rw [hx.dg _ (by simp), honly.dg _ (by decide) (by decide), hgr.epoch, hin.dg _ (by decide) (by cases q <;> decide)]

end Sys2Proof.Machine

/-! ### The commands and watches of the Warden (R32, R364, R378, R380, R382, R383, R385) -/

namespace Sys2Proof.Machine

/-- A new swap period shows its scheduled Chanter, and SWAP_SKIPPED at most is raised (R378, R379). -/
theorem does_swapPeriodBoundary (q : Plane) (s : State) :
    Does .swapPeriodBoundary s (fun t => t.dg R.RED_STATUS F.RED_STATUS_SCHED = (scheduled (periodOf s) s).code
      ∧ t.red.period = periodOf s ∧ SameStores s t ∧ RegsKept q s t (R.RED_STATUS :: flagSlots bRED 3)) := by
  let code := (scheduled (periodOf s) s).code
  let r : RedSt := { s.red with period := periodOf s, reversion := s.red.reversion && !decide (periodOf s ≠ s.red.period) }
  have hdp : Keeps .a s (s.dp R.RED_STATUS F.RED_STATUS_SCHED code) [R.RED_STATUS] := (Keeps.refl _ _ _).dp _ _ _ (by simp) (by decide)
  have hsched : (s.dp R.RED_STATUS F.RED_STATUS_SCHED code).dg R.RED_STATUS F.RED_STATUS_SCHED = code :=
    State.dg_dp_same _ _ (by decide) (code_lt_two _)
  obtain ⟨t, he, ht⟩ : ∃ t, exec .swapPeriodBoundary s = settled t
      ∧ Keeps .a { s.dp R.RED_STATUS F.RED_STATUS_SCHED code with red := r } t (flagSlots bRED 3) := by
    refine ⟨_, rfl, ?_⟩
    split
    · exact keeps_redRaise 3 _
    · exact .refl _ _ _
  have hs1 := leaves_setRed .a r (s.dp R.RED_STATUS F.RED_STATUS_SCHED code) []
  have hred : { s.dp R.RED_STATUS F.RED_STATUS_SCHED code with red := r }.red = r := rfl
  have hs1dg := hs1.dg F.RED_STATUS_SCHED (k := R.RED_STATUS) (by simp)
  generalize s.dp R.RED_STATUS F.RED_STATUS_SCHED code = u at *
  generalize { u with red := r } = v at *
  have hl : Leaves .a s (belRecheck t) (R.RED_STATUS :: flagSlots bRED 3) :=
    ((hdp.leaves.mono (by simp)).trans (hs1.mono (by simp))).andKeeps (ht.recheck.mono (by simp +contextual))
  refine does_of_exec he ⟨?_, ?_, hl.1, hl.2.ofDev (by decide) q⟩
  · rw [ht.recheck.dg _ (by decide), hs1dg, hsched]
  · rw [ht.recheck.red, hred]

/-! ### The commands in RED_CMD -/

/-- A command of RED is shown in RED_CMD. -/
def redShown (code : Nat) (q : Plane) (s : State) : State := (s.dp R.RED_CMD F.RED_CMD_CODE code).dp R.RED_CMD F.RED_CMD_PLANE q.code

theorem keeps_redShown (code : Nat) (q : Plane) (s : State) : Keeps .a s (redShown code q s) [R.RED_CMD] :=
  ((Keeps.refl _ _ _).dp _ _ _ (by simp) (by decide)).dp _ _ _ (by simp) (by decide)

theorem arbiterOnly_redShown (code : Nat) (q : Plane) (s : State) : ArbiterOnly [R.RED_CMD] s (redShown code q s) :=
  .keeps (.refl _ s) (keeps_redShown code q s)

theorem ward_redShown (code : Nat) (q p : Plane) (s : State) : (redShown code q s).ward p = s.ward p :=
  State.ward_of_red (keeps_redShown code q s).red p

theorem does_swapNow {q : Plane} {s : State} (hc : s.chanter = some q) (hn : native s = true) (hel : eligible q.other false s = true) :
    Does .swapNow s (fun t => t.red.hostSwap = true ∧ SameStores s t ∧ RegsKept q s t [R.RED_CMD]) := by
  have hk := keeps_redShown 1 .a s
  have ho := arbiterOnly_redShown 1 .a s
  have hc' : (redShown 1 .a s).chanter = some q := (ho.chanter (by decide)).trans hc
  have hn' : native (redShown 1 .a s) = true := by simpa only [native, ho.dg _ (by decide) (show R.RED_STATUS ∉ [R.RED_CMD] by decide)] using hn
  have hel' : eligible q.other false (redShown 1 .a s) = true := by
    simp only [eligible, ward_redShown, ho.planeState (q := q.other) (by cases q <;> decide),
      ho.dg F.RED_PLANE_HOLDOFF (k := R.RED_PLANE q.other.code) (by cases q <;> decide) (by cases q <;> decide)]
    exact hel
  have he : exec .swapNow s = settled { redShown 1 .a s with red := { (redShown 1 .a s).red with hostSwap := true } } := by
    show settled (redCmd 1 .a s) = _
    unfold redCmd
    change settled (match (redShown 1 .a s).chanter with
      | some c => if native (redShown 1 .a s) && eligible c.other false (redShown 1 .a s) then _ else _
      | none => _) = _
    rw [hc']
    simp only [hn', hel', Bool.and_self, if_true]
    rfl
  generalize redShown 1 .a s = u at *
  have hl : Leaves .a s (belRecheck { u with red := { u.red with hostSwap := true } }) [R.RED_CMD] :=
    hk.leaves.trans ((leaves_endRed .a _ u).mono (by simp))
  exact does_of_exec he ⟨rfl, hl.1, hl.2.ofDev (by decide) q⟩

/-- SUSPEND and RESUME_SWAPS set a field of RED_STATUS. -/
theorem does_setSuspended {c : Instr} {code n : Nat} {s : State} (q : Plane) (hn : n < 2)
    (he : exec c s = settled ((redShown code .a s).dp R.RED_STATUS F.RED_STATUS_SUSPENDED n)) :
    Does c s (fun t => t.dg R.RED_STATUS F.RED_STATUS_SUSPENDED = n ∧ Keeps q s t [R.RED_CMD, R.RED_STATUS]) := by
  have hk := (((keeps_redShown code .a s).mono (by simp)).dp R.RED_STATUS F.RED_STATUS_SUSPENDED n (ks := [R.RED_CMD, R.RED_STATUS])
    (by simp) (by decide)).recheck
  refine does_of_exec he ⟨?_, hk.ofDev (by decide) q⟩
  rw [State.dg_belRecheck, State.dg_dp_same _ _ (by decide) hn]

/-- Reserved codes are refused (R385). -/
theorem does_redCmdReserved (q : Plane) (s : State) (code : BitVec 4) (hc : 6 ≤ code.toNat) :
    Does (.redCmdReserved code) s (fun t => t.dg R.RED_STATUS F.RED_STATUS_REFUSE = 5
      ∧ t.flagged .a bRED 13 ∧ Keeps q s t ([R.RED_CMD, R.RED_STATUS] ++ flagSlots bRED 13)) := by
  have he : exec (.redCmdReserved code) s = settled (redRefuse 5 (redShown code.toNat .a s)) := by
    show settled (redCmd code.toNat .a s) = _
    unfold redCmd
    split
    · omega
    · omega
    · omega
    · omega
    · omega
    · omega
    · rfl
  have hk := keeps_redShown code.toNat .a s
  generalize redShown code.toNat .a s = u at *
  have hk2 := ((hk.mono (ls := [R.RED_CMD, R.RED_STATUS] ++ flagSlots bRED 13) (by simp)).dp R.RED_STATUS F.RED_STATUS_REFUSE 5 (by simp)
    (by decide)).raise bRED (redEvent 13) 13 (by simp +contextual)
  refine does_of_exec he ⟨?_, ?_, hk2.recheck.ofDev (by decide) q⟩
  · rw [State.dg_belRecheck]
    exact (State.get_raise _ _ _ _ _ _ _ _ (by decide)).trans (State.dg_dp_same _ _ (by decide) (by decide))
  · rw [State.flagged_belRecheck]
    exact flagged_redRaise _ (by decide) (by decide)

/-- What the retirement of a plane shows, at the end of a command. -/
theorem does_retire {c : Instr} {s u : State} {q : Plane} (he : exec c s = settled (retire q u)) (hs : SameStores s u) :
    Does c s (fun t => planeState q t = 5 ∧ t.now = u.now ∧ t.dg R.RED_STATUS F.RED_STATUS_SIMPLEX = 1 ∧ (t.ward q).inReset = true
      ∧ (t.ward q).interlock = false ∧ SameStores s t) := by
  obtain ⟨h, hsimplex⟩ := heldInReset_retire q u
  generalize retire q u = v at *
  have hk : Keeps .a v (belRecheck v) [] := (Keeps.refl _ _ _).recheck
  have hw := State.ward_of_red hk.red q
  exact does_of_exec he ⟨(hk.dg _ (by simp)).trans h.state, hk.now.trans h.only.now, (hk.dg _ (by simp)).trans hsimplex,
    (congrArg WardPlane.inReset hw).trans h.inReset, (congrArg WardPlane.interlock hw).trans h.interlock,
    (hs.trans h.stores).trans hk.leaves.1⟩

/-- RETIRE of a plane that is neither the Chanter nor retired (R382). -/
theorem exec_redRetire {q : Plane} {s : State} (hc : s.chanter ≠ some q) (hs : planeState q s ≠ 5) :
    exec (.redRetire q) s = settled (retire q (redShown 5 q s)) := by
  have ho := arbiterOnly_redShown 5 q s
  have hc' : (redShown 5 q s).chanter ≠ some q := by rw [ho.chanter (by decide)]; exact hc
  have hs' : planeState q (redShown 5 q s) ≠ 5 := by rw [ho.planeState (by cases q <;> decide)]; exact hs
  exact congrArg settled ((if_neg hc').trans (if_neg hs'))

/-- READMIT of a retired plane that can serve (R382). -/
theorem does_redReadmit {q : Plane} {s : State} (hs : planeState q s = 5) (hu : (s.ward q).unusable = false)
    (hh : s.dg R.RED_STATUS F.RED_STATUS_HALT = 0) :
    Does (.redReadmit q) s (fun t => planeState q t = 4 ∧ (t.ward q).inReset = true ∧ (t.ward q).holdNext = true ∧ SameStores s t) := by
  have ho := arbiterOnly_redShown 4 q s
  have hs' : planeState q (redShown 4 q s) = 5 := (ho.planeState (by cases q <;> decide)).trans hs
  have hu' : ((redShown 4 q s).ward q).unusable = false := by rw [ward_redShown]; exact hu
  have hh' : (redShown 4 q s).dg R.RED_STATUS F.RED_STATUS_HALT = 0 := (ho.dg _ (by decide) (by decide)).trans hh
  have he : exec (.redReadmit q) s = settled (recover q ((redShown 4 q s).dp R.RED_STATUS F.RED_STATUS_SIMPLEX
      (b2n (decide (planeState q.other (redShown 4 q s) = 5))))) := congrArg settled (if_pos ⟨hs', hu', hh'⟩)
  have hst : SameStores s ((redShown 4 q s).dp R.RED_STATUS F.RED_STATUS_SIMPLEX
      (b2n (decide (planeState q.other (redShown 4 q s) = 5)))) :=
    ((keeps_redShown 4 q s).leaves.1).trans (State.sw_of_inner (State.inner_dp _ _ _ _))
  generalize State.dp _ R.RED_STATUS _ _ = u at *
  obtain ⟨h, hnext⟩ := heldInReset_recover q u
  generalize recover q u = v at *
  have hk : Keeps .a v (belRecheck v) [] := (Keeps.refl _ _ _).recheck
  have hw := State.ward_of_red hk.red q
  exact does_of_exec he ⟨(hk.dg _ (by simp)).trans h.state, (congrArg WardPlane.inReset hw).trans h.inReset,
    (congrArg WardPlane.holdNext hw).trans hnext, (hst.trans h.stores).trans hk.leaves.1⟩

/-- The hold-off of a plane ends (R380). -/
theorem does_holdoffEnd {q : Plane} {s : State} (hh : s.dg (R.RED_PLANE q.code) F.RED_PLANE_HOLDOFF = 1) :
    Does (.holdoffEnd q) s (fun t => t.dg (R.RED_PLANE q.code) F.RED_PLANE_HOLDOFF = 0
      ∧ t.now = max s.now ((s.ward q).since + holdoffPs s) ∧ SameStores s t ∧ RegsKept q s t [R.RED_PLANE q.code]) := by
  have hd : isDev (R.RED_PLANE q.code) = true := by cases q <;> decide
  let s1 := (s.toTime ((s.ward q).since + holdoffPs s)).dp (R.RED_PLANE q.code) F.RED_PLANE_HOLDOFF 0
  have hzero : s1.dg (R.RED_PLANE q.code) F.RED_PLANE_HOLDOFF = 0 := State.dg_dp_same _ _ (by decide) (by decide)
  have hnow : s1.now = max s.now ((s.ward q).since + holdoffPs s) := State.now_dp _ _ _ _
  have h1 : Leaves .a s s1 [R.RED_PLANE q.code] :=
    (leaves_toTime .a _ s _).andKeeps ((Keeps.refl _ _ _).dp _ _ _ (by simp) hd)
  have he : exec (.holdoffEnd q) s = settled (if scheduled (periodOf s1) s1 = q then { s1 with red := { s1.red with reversion := true } }
      else s1) := congrArg settled (if_pos hh)
  clear_value s1
  obtain ⟨t, het, ht, hnt⟩ : ∃ t, exec (.holdoffEnd q) s = settled t ∧ Leaves .a s1 t [] ∧ t.now = s1.now := by
    refine ⟨_, he, ?_⟩
    split
    · exact ⟨leaves_setRed .a _ s1 [], rfl⟩
    · exact ⟨.refl _ _ _, rfl⟩
  have hk : Keeps .a t (belRecheck t) [] := (Keeps.refl _ _ _).recheck
  have ht2 := ht.andKeeps hk
  have hl := h1.trans (ht2.mono (by simp))
  exact does_of_exec het ⟨(ht2.dg _ (by simp)).trans hzero, (hk.now.trans hnt).trans hnow, hl.1, hl.2.ofDev (by simpa using hd) q⟩

/-! ### Requests to the output stages (R32, R364, R365) -/

theorem isDev_reject (stage : Stage) : isDev (R.RED_REJECT stage.num) = true := by cases stage <;> decide

/-- A request of the Chanter in the current epoch, or one that its link discards, changes nothing. -/
theorem does_outputStage_nothing {stage : Stage} {q p : Plane} {req : StageReq} {s : State}
    (h : ((linkDrops q stage s && !req.passed) || (decide (s.chanter = some q) && (decide (req.epoch ≠ 0)
      && req.epoch.toNat == s.dg R.RED_EPOCH F.RED_EPOCH_EPOCH))) = true) :
    Does (.outputStageRequest stage q req) s (fun t => Keeps p s t []) :=
  does_of_exec (congrArg settled (if_pos h)) (Keeps.refl _ _ _).recheck

/-- Any other request is counted, and otherwise ignored. -/
theorem does_outputStage_counted {stage : Stage} {q : Plane} {req : StageReq} {s : State}
    (h : ((linkDrops q stage s && !req.passed) || (decide (s.chanter = some q) && (decide (req.epoch ≠ 0)
      && req.epoch.toNat == s.dg R.RED_EPOCH F.RED_EPOCH_EPOCH))) = false) :
    Does (.outputStageRequest stage q req) s (fun t => Keeps q s t [R.RED_REJECT stage.num]
      ∧ t.dg (R.RED_REJECT stage.num) F.RED_REJECT_COUNT
        = satAdd F.RED_REJECT_COUNT.width (s.dg (R.RED_REJECT stage.num) F.RED_REJECT_COUNT) 1) := by
  refine does_of_exec (congrArg settled (if_neg (by rw [h]; decide)))
    ⟨((Keeps.refl _ _ _).count _ _ _ (by simp)).recheck.ofDev (by simpa using isDev_reject stage) q, ?_⟩
  rw [State.dg_belRecheck, State.dg_count_same _ _ _ (by decide)]

/-- Settles O14: a role change shows in RED_EPOCH, RED_STATUS and RED_PLANE, and what the planes do of themselves leaves those alone. -/
theorem plannedSwapsAndRetirement : Obligations.PlannedSwapsAndRetirement := by
  refine ⟨fun q s hc => ⟨fun cause hd => does_swapAnnounce hc hd, fun hs ha hel hm => does_swapDecision_taken hc hs ha hel hm,
    fun hs ha => does_swapDecision_stay hc hs ha, does_swapPeriodBoundary q s, fun hn hel => does_swapNow hc hn hel⟩,
    fun q s => ⟨does_setSuspended q (by decide) rfl, does_setSuspended q (by decide) rfl, fun code hc => does_redCmdReserved q s code hc,
      fun hc hs => ?_, fun hs => ?_, fun hs hu hh => does_redReadmit hs hu hh, does_holdoffEnd,
      fun hh => does_of_exec (congrArg settled (if_neg hh)) (Keeps.refl _ _ _).recheck,
      fun stage epoch passed => ⟨fun hc he h0 => ?_, fun hd => ?_, fun hn hp => ?_⟩⟩⟩
  · exact (does_retire (exec_redRetire hc hs) (keeps_redShown 5 q s).leaves.1).imp fun t ⟨h1, _, h2⟩ => ⟨h1, h2⟩
  · exact does_retire (u := s.toTime ((s.ward q).since + 60 * 10 ^ 12)) (congrArg settled (if_pos hs)) (leaves_toTime .a _ s []).1
  · have h1 : decide (epoch ≠ 0) = true := decide_eq_true h0
    exact does_outputStage_nothing (by simp only [hc, he, h1, beq_self_eq_true, Bool.and_self, decide_true, Bool.or_true])
  · exact does_outputStage_nothing (by simp [hd])
  · refine does_outputStage_counted ?_
    have h1 : (linkDrops q stage s && !passed) = false := by
      rcases hp with rfl | h
      · simp
      · simp [h]
    rcases hn with h | h | h
    · simp [h1, h]
    · simp [h1, h]
    · simp [h1, h]

end Sys2Proof.Machine

/-! ## O18: links, beacons and rails (R29, R30, R48, R509) -/

namespace Sys2Proof.Machine

/-! ### Links (R29, R30) -/

theorem num_lt (l : Link) : l.num < 15 := by cases l <;> decide

/-- A link of the state after a change of it. -/
theorem nth_links_set {s : State} (hl : s.links.length = 15) (l : Link) (x : LinkSt) :
    nth (s.links.set l.num x) l.num ⟨0, false⟩ = x := by
  have := num_lt l
  rw [nth_set, if_pos ⟨rfl, by omega⟩]

/-- A change of the links leaves stores and registers. -/
theorem leaves_setLinks (q : Plane) (x : List LinkSt) (s : State) : Leaves q s { s with links := x } [] := .of_planes q _ rfl rfl rfl

/-- A flit of another link than XLK is retried and counted (R29). -/
theorem does_flitRetry {l : Link} {n : Nat} {s : State} (hn : n < 4) (hx : l ≠ .xlk) (hl : s.links.length = 15) :
    Does (.flitCrcFail l n) s (fun t => (nth t.links l.num ⟨0, false⟩).retries = (nth s.links l.num ⟨0, false⟩).retries + 1
      ∧ (nth t.links l.num ⟨0, false⟩).failed = (nth s.links l.num ⟨0, false⟩).failed ∧ SameStores s t ∧ RegsKept .a s t []) := by
  let x := nth s.links l.num ⟨0, false⟩
  let m := s.links.set l.num { x with retries := x.retries + 1 }
  have he : exec (.flitCrcFail l n) s = settled { s with links := m } := congrArg settled ((if_pos hn).trans (if_neg hx))
  have hm : nth m l.num ⟨0, false⟩ = { x with retries := x.retries + 1 } := nth_links_set hl l _
  have hleaf : Leaves .a s (belRecheck { s with links := m }) [] := (leaves_setLinks .a m s).andKeeps (Keeps.refl _ _ _).recheck
  exact does_of_exec he ⟨(congrArg LinkSt.retries hm :), (congrArg LinkSt.failed hm :), hleaf.1, hleaf.2⟩

/-- A retried flit of XLK counts in a plane that is out of reset. -/
def countRetry (q : Plane) (s : State) : State := if (s.ward q).inReset then s else s.count q R.XLK_RETRY F.XLK_RETRY_COUNT 1

theorem inner_countRetry (q : Plane) (s : State) : (countRetry q s).inner = s.inner := by
  unfold countRetry
  split
  · rfl
  · exact s.inner_count _ _ _ _

theorem get_countRetry {q : Plane} {s : State} (h : (s.ward q).inReset = false) :
    (countRetry q s).get q R.XLK_RETRY F.XLK_RETRY_COUNT = satAdd F.XLK_RETRY_COUNT.width (s.get q R.XLK_RETRY F.XLK_RETRY_COUNT) 1 := by
  rw [countRetry, if_neg (by simp [h]), State.get_count_same _ _ _ _ (by decide)]

theorem rd_countRetry_other (q : Plane) (s : State) : (countRetry q.other s).rd q R.XLK_RETRY = s.rd q R.XLK_RETRY := by
  unfold countRetry
  split
  · rfl
  · exact State.rd_wr_other s _ _ (by cases q <;> decide) (by decide)

/-- A flit of XLK is retried and counted (R29, R386). -/
theorem does_flitRetry_xlk {q : Plane} {n : Nat} {s : State} (hn : n < 4) (hr : (s.ward q).inReset = false) :
    Does (.flitCrcFail .xlk n) s (fun t => t.get q R.XLK_RETRY F.XLK_RETRY_COUNT
      = satAdd F.XLK_RETRY_COUNT.width (s.get q R.XLK_RETRY F.XLK_RETRY_COUNT) 1 ∧ SameStores s t) := by
  let x := nth s.links Link.xlk.num ⟨0, false⟩
  let m := s.links.set Link.xlk.num { x with retries := x.retries + 1 }
  have he : exec (.flitCrcFail .xlk n) s = settled (countRetry .b (countRetry .a { s with links := m })) := by
    show settled (if n < 4 then _ else _) = _
    rw [if_pos hn]; rfl
  have hs : SameStores s (countRetry .b (countRetry .a { s with links := m })) :=
    (leaves_setLinks .a m s).1.trans (State.sw_of_inner ((inner_countRetry _ _).trans (inner_countRetry _ _)))
  have hu : { s with links := m }.get q R.XLK_RETRY F.XLK_RETRY_COUNT = s.get q R.XLK_RETRY F.XLK_RETRY_COUNT :=
    congrArg F.XLK_RETRY_COUNT.get ((leaves_setLinks .a m s).rd q (by simp))
  have hw : ({ s with links := m }.ward q).inReset = false := hr
  generalize { s with links := m } = u at *
  refine does_of_exec he ⟨?_, hs.trans (Keeps.refl .a _ []).recheck.leaves.1⟩
  rw [State.get_belRecheck, ← hu]
  cases q with
  | a => exact (congrArg F.XLK_RETRY_COUNT.get (rd_countRetry_other .a _)).trans (get_countRetry hw)
  | b =>
    have h1 : ((countRetry .a u).ward .b).inReset = false := by
      rw [State.ward_of_red (State.red_of_inner (inner_countRetry .a u))]; exact hw
    rw [get_countRetry h1]
    exact congrArg (satAdd _ · 1) (congrArg F.XLK_RETRY_COUNT.get (rd_countRetry_other .b u))

/-! ### The machine check of a plane (R373) -/

/-- A machine check as its plane and the Warden show it. -/
structure MachineCheck (q : Plane) (cause : Nat) (s t : State) : Prop where
  cause : t.get q R.PLANE_MCHK F.PLANE_MCHK_CAUSE = cause
  line : (t.ward q).mchk = true
  stores : SameStores s t
  only : ArbiterOnly (R.RED_PLANE q.code :: sharedSlots) s t

theorem keeps_snapLost (q : Plane) (s : State) : Keeps q s (s.snapLost q) (R.RDB_STATUS :: flagSlots bRDB 1) := by
  unfold State.snapLost
  split
  · exact .refl _ _ _
  · exact ((Keeps.refl _ _ _).put _ _ _ (by simp)).raise _ _ _ (by simp +contextual)

theorem machineCheck_mcheck (q : Plane) {cause : Nat} (hc : cause < 16) (s : State) : MachineCheck q cause s (s.mcheck q cause) := by
  unfold State.mcheck
  extract_lets s1 s2
  have hcause1 : s1.get q R.PLANE_MCHK F.PLANE_MCHK_CAUSE = cause := by
    refine (State.get_put_field _ _ _ _ _ _ (by decide) (by decide)).trans ((State.get_put_same _ _ _ _ _ (by decide)).trans ?_)
    exact Nat.mod_eq_of_lt hc
  have h1 : DiesKept s s1 := .put (.put (.refl s) (by decide)) (by decide)
  have hinner1 : s1.inner = s.inner := (State.inner_put _ _ _ _ _).trans (State.inner_put _ _ _ _ _)
  have hraise : DiesKept s (s1.raise q bPLANE 0 0) := h1.raise (by decide) (by decide)
  have h2 : ArbiterOnly (R.RED_PLANE q.code :: sharedSlots) s s2 :=
    .dp (.kept (.refl _ s) hraise (by simp +contextual)) (by simp) (by cases q <;> decide)
  have hcause2 : s2.get q R.PLANE_MCHK F.PLANE_MCHK_CAUSE = cause := by
    refine (State.get_put_ne _ q .a _ _ _ (by cases q <;> decide)).trans ((State.get_raise _ _ _ _ _ _ _ _ (by decide)).trans hcause1)
  have hinner2 : s2.inner = s.inner := (State.inner_dp _ _ _ _).trans ((State.inner_raise _ _ _ _ _).trans hinner1)
  clear_value s2
  have hset : ∀ w, ArbiterOnly (R.RED_PLANE q.code :: sharedSlots) s (s2.setWard q w) := fun w => h2.setWard
  have hrd : ∀ w, (s2.setWard q w).get q R.PLANE_MCHK F.PLANE_MCHK_CAUSE = cause := fun w => by
    rw [State.get, State.rd_setWard]; exact hcause2
  have hst : ∀ w, SameStores s (s2.setWard q w) := fun w => (State.sw_of_inner hinner2).trans (sameStores_setWard _ _ _)
  have hlost := keeps_snapLost q
  exact
    { cause := (congrArg F.PLANE_MCHK_CAUSE.get ((hlost _).2 q _ (.inl (by decide)))).trans (hrd _)
      line := by rw [State.ward_of_red (hlost _).red, State.ward_setWard]
      stores := (hst _).trans (hlost _).leaves.1
      only := (hset _).kept (diesKept_snapLost q _) (by simp +contextual) }

/-- A machine check at the end of a command. -/
theorem MachineCheck.recheck {q : Plane} {cause : Nat} {s t : State} (h : MachineCheck q cause s t) :
    MachineCheck q cause s (belRecheck t) := by
  have hk : Keeps .a t (belRecheck t) [] := (Keeps.refl _ _ _).recheck
  exact ⟨(State.get_belRecheck _ _ _ _).trans h.cause, (congrArg WardPlane.mchk (State.ward_of_red hk.red q)).trans h.line,
    h.stores.trans hk.leaves.1, h.only.keeps (hk.mono (by simp))⟩

/-! ### Links that fail (R30) -/

/-- The links once link `l` has failed. -/
def failedLinks (l : Link) (s : State) : List LinkSt := s.links.set l.num { nth s.links l.num ⟨0, false⟩ with failed := true }

theorem failed_failedLinks {s : State} (hl : s.links.length = 15) (l : Link) :
    (nth (failedLinks l s) l.num ⟨0, false⟩).failed = true := congrArg LinkSt.failed (nth_links_set hl l _)

theorem exec_linkFail {l : Link} {n : Nat} {s : State} (hn : 4 ≤ n) (hf : (nth s.links l.num ⟨0, false⟩).failed = false) :
    exec (.flitCrcFail l n) s = settled (linkResponse l { s with links := failedLinks l s }) :=
  congrArg settled ((if_neg (by omega)).trans (if_neg (by simp [hf])))

/-- A link of one plane alone fails: its machine check (R30, R373). -/
theorem does_linkFail_plane {l : Link} {n : Nat} {q : Plane} {s : State} (hn : 4 ≤ n) (hl : s.links.length = 15)
    (hf : (nth s.links l.num ⟨0, false⟩).failed = false) (hp : linkPlane l = some q) (hs : planeState q s ≠ 5) :
    Does (.flitCrcFail l n) s (fun t => (nth t.links l.num ⟨0, false⟩).failed = true ∧ t.get q R.PLANE_MCHK F.PLANE_MCHK_CAUSE = 1
      ∧ (t.ward q).mchk = true ∧ SameStores s t) := by
  have hm := failed_failedLinks hl l
  have hleaf := leaves_setLinks .a (failedLinks l s) s
  have hlinks : { s with links := failedLinks l s }.links = failedLinks l s := rfl
  have he := exec_linkFail hn hf
  generalize { s with links := failedLinks l s } = u at *
  have hs' : planeState q u ≠ 5 := by rw [planeState, hleaf.dg _ (by simp)]; exact hs
  have he' : exec (.flitCrcFail l n) s = settled (u.mcheck q 1) := by
    rw [he]; unfold linkResponse; rw [hp]; exact congrArg settled (if_neg hs')
  have hc := (machineCheck_mcheck q (cause := 1) (by decide) u).recheck
  exact does_of_exec he' ⟨by rw [hc.only.links, hlinks]; exact hm, hc.cause, hc.line, hleaf.1.trans hc.stores⟩

theorem diesKept_deviceStop (s : State) : DiesKept s (deviceStop s) := by
  unfold deviceStop State.onChanter
  split
  · exact diesKept_wardenStop _ s
  · exact .refl s

/-- A link that both planes share fails: a device link fault (R30). -/
theorem does_linkFail_shared {l : Link} {n : Nat} {s : State} (hn : 4 ≤ n) (hl : s.links.length = 15)
    (hf : (nth s.links l.num ⟨0, false⟩).failed = false) (hp : linkPlane l = none) (hx : l ≠ .xlk) :
    Does (.flitCrcFail l n) s (fun t => (nth t.links l.num ⟨0, false⟩).failed = true ∧ t.red.linkFault = true) := by
  have hm := failed_failedLinks hl l
  have he := exec_linkFail hn hf
  have hlinks : { s with links := failedLinks l s }.links = failedLinks l s := rfl
  generalize { s with links := failedLinks l s } = u at *
  have he' : exec (.flitCrcFail l n) s = settled (deviceStop { u with red := { u.red with linkFault := true } }) := by
    rw [he]; unfold linkResponse; rw [hp]; exact congrArg settled (if_neg hx)
  have hd := diesKept_deviceStop { u with red := { u.red with linkFault := true } }
  have h1 : { u with red := { u.red with linkFault := true } }.links = u.links := rfl
  have h2 : { u with red := { u.red with linkFault := true } }.red.linkFault = true := rfl
  generalize { u with red := { u.red with linkFault := true } } = v at *
  have hk : Keeps .a (deviceStop v) (belRecheck (deviceStop v)) [] := (Keeps.refl _ _ _).recheck
  exact does_of_exec he' ⟨by rw [hk.links, hd.links, h1, hlinks]; exact hm, by rw [hk.red, hd.red, h2]⟩

/-- LINK_FAIL of XLK shows within the planes. -/
theorem xlkFailFlags_facts (s : State) : DiesKept s (xlkFailFlags s) ∧ (xlkFailFlags s).inner = s.inner := by
  refine each_keeps (P := fun t => DiesKept s t ∧ t.inner = s.inner) (fun q _ u hu => ?_) ⟨.refl s, rfl⟩
  obtain ⟨hd, hi⟩ := hu
  show DiesKept s (if _ then _ else _) ∧ State.inner (if _ then _ else _) = _
  split
  · exact ⟨hd, hi⟩
  · unfold xlkRaise
    split
    · exact ⟨hd.raise (by decide) (by decide), (u.inner_raise _ _ _ _).trans hi⟩
    · exact ⟨hd.flag (by decide) (by decide), (u.inner_flag _ _ _).trans hi⟩

/-- XLK fails: path P is lost with it (R30, R372). -/
theorem does_linkFail_xlk {n : Nat} {q : Plane} {s : State} (hn : 4 ≤ n) (hl : s.links.length = 15)
    (hf : (nth s.links Link.xlk.num ⟨0, false⟩).failed = false) (hc : s.chanter = some q) (hs : planeState q.other s ≠ 2) :
    Does (.flitCrcFail .xlk n) s (fun t => (nth t.links Link.xlk.num ⟨0, false⟩).failed = true ∧ t.xlk = []
      ∧ t.dg (R.RED_PLANE q.code) F.RED_PLANE_PATH_P_OK = 0 ∧ t.flagged .a bRED 4 ∧ SameStores s t) := by
  have hm := failed_failedLinks hl .xlk
  have he := exec_linkFail hn hf
  have hleaf : Leaves .a s { s with links := failedLinks .xlk s, xlk := [] } [] := .of_planes .a _ rfl rfl rfl
  have hlinks : { s with links := failedLinks .xlk s, xlk := [] }.links = failedLinks .xlk s := rfl
  have hxlk : { s with links := failedLinks .xlk s, xlk := [] }.xlk = [] := rfl
  have he' : exec (.flitCrcFail .xlk n) s = settled (let s0 := xlkFailFlags { s with links := failedLinks .xlk s, xlk := [] }
    match s0.chanter with
      | some q => loseStep q.other (redRaise 4 (s0.dp (R.RED_PLANE q.code) F.RED_PLANE_PATH_P_OK 0))
      | none => s0) := he
  generalize { s with links := failedLinks .xlk s, xlk := [] } = u at *
  obtain ⟨hd, hi⟩ := xlkFailFlags_facts u
  generalize xlkFailFlags u = v at *
  have hov := (ArbiterOnly.refl sharedSlots u).kept hd fun _ h => h
  have hcv : v.chanter = some q := (hov.chanter (by decide)).trans ((hleaf.chanter (by simp)).trans hc)
  have hk : Keeps .a v (redRaise 4 (v.dp (R.RED_PLANE q.code) F.RED_PLANE_PATH_P_OK 0)) (R.RED_PLANE q.code :: flagSlots bRED 4) :=
    ((Keeps.refl _ _ _).dp _ _ _ (by simp) (by cases q <;> decide)).raise _ _ _ (by simp +contextual)
  have hflag : (redRaise 4 (v.dp (R.RED_PLANE q.code) F.RED_PLANE_PATH_P_OK 0)).flagged .a bRED 4 :=
    flagged_redRaise _ (by decide) (by decide)
  have hpath : (redRaise 4 (v.dp (R.RED_PLANE q.code) F.RED_PLANE_PATH_P_OK 0)).dg (R.RED_PLANE q.code) F.RED_PLANE_PATH_P_OK = 0 :=
    (State.get_raise _ _ _ _ _ _ _ _ (by cases q <;> decide)).trans (State.dg_dp_same _ _ (by decide) (by decide))
  have hstate : planeState q.other (redRaise 4 (v.dp (R.RED_PLANE q.code) F.RED_PLANE_PATH_P_OK 0)) ≠ 2 := by
    have h1 : planeState q.other v = planeState q.other u := hov.planeState (by cases q <;> decide)
    have h2 : planeState q.other u = planeState q.other s := hleaf.dg _ (by simp)
    rw [planeState, hk.dg _ (by cases q <;> decide)]
    exact fun h => hs (h2 ▸ h1 ▸ h)
  have he2 : exec (.flitCrcFail .xlk n) s = settled (redRaise 4 (v.dp (R.RED_PLANE q.code) F.RED_PLANE_PATH_P_OK 0)) := by
    rw [he']
    simp only [hcv, loseStep, if_neg hstate]
  generalize redRaise 4 (v.dp (R.RED_PLANE q.code) F.RED_PLANE_PATH_P_OK 0) = w at *
  have hkr : Keeps .a w (belRecheck w) [] := (Keeps.refl _ _ _).recheck
  have hinner : (belRecheck w).inner = u.inner := hkr.1.trans (hk.1.trans hi)
  have hlk : (belRecheck w).links = u.links := (congrArg State.links hinner :)
  refine does_of_exec he2 ⟨?_, (congrArg State.xlk hinner :).trans hxlk, (hkr.dg _ (by simp)).trans hpath, ?_,
    hleaf.1.trans (State.sw_of_inner hinner)⟩
  · rw [hlk, hlinks]; exact hm
  · rw [State.flagged_belRecheck]; exact hflag

end Sys2Proof.Machine

/-! ### Missed beacons (R48) -/

namespace Sys2Proof.Machine

/-- The state after island `i` has missed its `run`-th beacon in a row, before anything is raised. -/
def missed (i run : Nat) (s : State) : State :=
  { runOn i s with cyc := { (runOn i s).cyc with miss := (runOn i s).cyc.miss.set i run, good := (runOn i s).cyc.good.set i 0 } }

theorem leaves_missed (i run : Nat) (s : State) : Leaves .a s (missed i run s) [] := .of_planes .a _ rfl rfl rfl

theorem miss_missed {i : Nat} (hi : i < s.cyc.miss.length) (run : Nat) : nth (missed i run s).cyc.miss i 0 = run := by
  show nth (s.cyc.miss.set i run) i 0 = run
  rw [nth_set, if_pos ⟨rfl, hi⟩]

/-- The island is named in TIM_CYC_STATUS. -/
def missNamed (i run : Nat) (s : State) : State := (missed i run s).dp R.TIM_CYC_STATUS F.TIM_CYC_STATUS_LAST_ISLAND i

theorem missBeacon_eq {i : Nat} {s : State} (h : hearsBeacons i s = true) {run : Nat}
    (hr : (if 64 ≤ nth s.cyc.miss i 0 then nth s.cyc.miss i 0 + 1 else if nth s.cyc.good i 0 = 0 then nth s.cyc.miss i 0 + 1 else 1) = run) :
    missBeacon i s = if run = 8 then raiseCyc 0 (missNamed i run s) else if run = 64 then timeLost i (raiseCyc 1 (missNamed i run s))
      else missed i run s := by
  unfold missBeacon
  rw [if_neg (by simp [h])]
  subst hr
  rfl

/-- A beacon missed that is neither the eighth nor the 64th in a row is counted. -/
theorem does_beaconMissed_counted {i : Fin 40} {s : State} (hl : s.cyc.miss.length = 40) (h : hearsBeacons i s = true) {run : Nat}
    (hr : (if 64 ≤ nth s.cyc.miss i 0 then nth s.cyc.miss i 0 + 1 else if nth s.cyc.good i 0 = 0 then nth s.cyc.miss i 0 + 1 else 1) = run)
    (h8 : run ≠ 8) (h64 : run ≠ 64) :
    Does (.beaconMissed i) s (fun t => nth t.cyc.miss i 0 = run ∧ SameStores s t ∧ RegsKept .a s t []) := by
  have he : exec (.beaconMissed i) s = settled (missed i run s) :=
    congrArg settled ((missBeacon_eq h hr).trans ((if_neg h8).trans (if_neg h64)))
  have hm : nth (missed i run s).cyc.miss i 0 = run := miss_missed (by omega) run
  have hleaf := leaves_missed i run s
  generalize missed i run s = u at *
  have hk : Keeps .a u (belRecheck u) [] := (Keeps.refl _ _ _).recheck
  have ht := hleaf.andKeeps hk
  exact does_of_exec he ⟨by rw [hk.cyc]; exact hm, ht.1, ht.2⟩

/-- The eighth beacon missed in a row raises BEACON_MISS with the island's number. -/
theorem does_beaconMissed_eighth {i : Fin 40} {s : State} (h : hearsBeacons i s = true) (hg : nth s.cyc.good i 0 = 0)
    (hm : nth s.cyc.miss i 0 = 7) :
    Does (.beaconMissed i) s (fun t => t.dg R.TIM_CYC_STATUS F.TIM_CYC_STATUS_LAST_ISLAND = i ∧ t.get .a R.TIM_CYC_FLAGS ⟨0, 0⟩ = 1
      ∧ SameStores s t) := by
  have he : exec (.beaconMissed i) s = settled (raiseCyc 0 (missNamed i 8 s)) :=
    congrArg settled ((missBeacon_eq h (run := 8) (by simp [hm, hg])).trans (if_pos rfl))
  have hname : (missNamed i 8 s).dg R.TIM_CYC_STATUS F.TIM_CYC_STATUS_LAST_ISLAND = i :=
    State.dg_dp_same _ _ (by decide) (i.isLt.trans (by decide))
  have hst : SameStores s (missNamed i 8 s) := (leaves_missed i 8 s).1.trans (State.sw_of_inner (State.inner_dp _ _ _ _))
  generalize missNamed i 8 s = u at *
  have hk := (keeps_raiseCyc 0 u).recheck
  exact does_of_exec he ⟨(hk.dg _ (by decide)).trans hname, (State.get_belRecheck _ _ _ _).trans (get_raiseCyc (by decide) u),
    hst.trans hk.leaves.1⟩

/-- The 64th beacon missed in a row is a machine check of the island's plane. -/
theorem does_beaconMissed_lost {i : Fin 40} {q : Plane} {s : State} (h : hearsBeacons i s = true) (hg : nth s.cyc.good i 0 = 0)
    (hm : nth s.cyc.miss i 0 = 63) (hp : islandPlane i = some q) :
    Does (.beaconMissed i) s (fun t => t.get .a R.TIM_CYC_FLAGS ⟨1, 1⟩ = 1 ∧ t.get q R.PLANE_MCHK F.PLANE_MCHK_CAUSE = 2
      ∧ (t.ward q).mchk = true ∧ SameStores s t) := by
  have he : exec (.beaconMissed i) s = settled ((raiseCyc 1 (missNamed i 64 s)).mcheck q 2) := by
    refine congrArg settled ((missBeacon_eq h (run := 64) (by simp [hm, hg])).trans ?_)
    rw [if_neg (by decide), if_pos rfl, timeLost, hp]
  have hst : SameStores s (missNamed i 64 s) := (leaves_missed i 64 s).1.trans (State.sw_of_inner (State.inner_dp _ _ _ _))
  generalize missNamed i 64 s = u at *
  have hk := keeps_raiseCyc 1 u
  have hflag := get_raiseCyc (j := 1) (by decide) u
  generalize raiseCyc 1 u = v at *
  have hc := (machineCheck_mcheck q (cause := 2) (by decide) v).recheck
  exact does_of_exec he ⟨(hc.only.dg _ (by decide) (by cases q <;> decide)).trans hflag, hc.cause, hc.line,
    (hst.trans hk.leaves.1).trans hc.stores⟩

/-! ### Rails (R374, R509) -/

theorem railOk_setRail (q : Plane) (ok : Bool) (s : State) : railOk q (setRail q ok s) = ok := by cases q <;> rfl

theorem railOk_setRail_other (q : Plane) (ok : Bool) (s : State) : railOk q.other (setRail q ok s) = railOk q.other s := by
  cases q <;> rfl

theorem railOk_of_boot {s t : State} (h : t.boot = s.boot) (q : Plane) : railOk q t = railOk q s := by
  cases q
  · exact congrArg BootSt.railA h
  · exact congrArg BootSt.railB h

/-- The rails lie apart from stores, registers and the Warden. -/
theorem leaves_setRail (q p : Plane) (ok : Bool) (s : State) (ks : List Nat) : Leaves p s (setRail q ok s) ks := by
  cases q <;> exact .of_planes p ks rfl rfl rfl

theorem red_setRail (q : Plane) (ok : Bool) (s : State) : (setRail q ok s).red = s.red := by cases q <;> rfl

/-- A rail in or out of range changes nothing else. -/
theorem does_setRail {c : Instr} {q : Plane} {ok : Bool} {s : State} (he : exec c s = settled (setRail q ok s)) :
    Does c s (fun t => railOk q t = ok ∧ railOk q.other t = railOk q.other s ∧ SameStores s t ∧ RegsKept q s t []) := by
  have h1 := railOk_setRail q ok s
  have h2 := railOk_setRail_other q ok s
  have hl := leaves_setRail q q ok s []
  generalize setRail q ok s = u at *
  have hk : Keeps q u (belRecheck u) [] := (Keeps.refl _ _ _).recheck
  have hb : (belRecheck u).boot = u.boot := (congrArg State.boot hk.1 :)
  have ht := hl.andKeeps hk
  exact does_of_exec he ⟨by rw [railOk_of_boot hb]; exact h1, by rw [railOk_of_boot hb]; exact h2, ht.1, ht.2⟩

theorem exec_planeRailFault {q : Plane} {s : State} (h : railOk q s = true) :
    exec (.planeRailFault q) s = settled (railLost q (setRail q false s)) := congrArg settled (if_pos h)

/-- A faulted plane is held in reset, and recovers or is retired (R374, R382). -/
theorem faultPlane_facts (q : Plane) (s : State) : ∃ n, (n = 4 ∨ n = 5) ∧ ∃ u, ArbiterOnly [R.RED_PLANE q.code] s u
    ∧ u.ward q.other = s.ward q.other ∧ HeldInReset q n u (faultPlane q s) := by
  have hu : ArbiterOnly [R.RED_PLANE q.code] s (countFault q s) :=
    .dp (.setWard (.refl _ s)) (by simp) (by cases q <;> decide)
  have hw : (countFault q s).ward q.other = s.ward q.other := by
    unfold countFault
    rw [State.ward_dp, State.ward_setWard_other]
  unfold faultPlane
  extract_lets s1
  split
  · exact ⟨5, .inr rfl, s1, hu, hw, (heldInReset_retire q s1).1⟩
  · exact ⟨4, .inl rfl, s1, hu, hw, (heldInReset_recover q s1).1⟩

/-- What the arbiter keeps after a fault switch-over: the new Chanter runs no cycle before it is ready. -/
def switchedRed (s : State) : RedSt := { s.red with readyAt := none, hostSwap := false, reversion := false }

/-- A switch-over is recorded. -/
def switchNoted (q : Plane) (cause : Nat) (s : State) : State := lastSw cause q 0 0 (redRaise 0 s)

theorem switchOver_eq {q : Plane} {cause : Nat} {s : State} (h : eligible q.other true s = true) :
    switchOver q cause s = { switchNoted q cause (dmaReplay q.other (grant q.other (faultPlane q s))) with
      red := switchedRed (switchNoted q cause (dmaReplay q.other (grant q.other (faultPlane q s)))) } := if_pos h

theorem ward_switchedRed (s : State) (q : Plane) : (belRecheck { s with red := switchedRed s }).ward q = s.ward q := by
  cases q <;> rfl

theorem boot_endRed (r : RedSt) (s : State) : (belRecheck { s with red := r }).boot = s.boot := rfl

/-- A fault switch-over to an eligible Drone: the failed plane is held in reset, and the other one is the Chanter (R374). -/
theorem does_switchOver {c : Instr} {q : Plane} {cause : Nat} {s0 s : State} (h : eligible q.other true s = true)
    (he : exec c s0 = settled (switchOver q cause s)) :
    Does c s0 (fun t => t.boot = s.boot ∧ t.chanter = some q.other ∧ planeState q.other t = 1 ∧ (planeState q t = 4 ∨ planeState q t = 5)
      ∧ (t.ward q).inReset = true ∧ (t.ward q).interlock = false ∧ (t.ward q.other).interlock = true) := by
  rw [switchOver_eq h] at he
  obtain ⟨n, hn, u, hu, -, hheld⟩ := faultPlane_facts q s
  have hgr := granted_grant q.other (faultPlane q s)
  generalize faultPlane q s = v at *
  have hreset : ((grant q.other v).ward q).inReset = (v.ward q).inReset := by
    simpa only [other_other] using hgr.otherReset
  have hlock : ((grant q.other v).ward q).interlock = false := by
    simpa only [other_other] using hgr.otherInterlock
  have hd := diesKept_dmaReplay q.other (grant q.other v)
  generalize grant q.other v = w at *
  generalize dmaReplay q.other w = x at *
  obtain ⟨honly, hred, -⟩ := roleChange_facts (j := 0) (by decide) cause q 0 hd
  simp only [switchNoted] at he
  generalize lastSw _ q 0 0 (redRaise 0 x) = y at *
  have hy := leaves_endRed q (switchedRed y) y
  have hw : ∀ p, (belRecheck { y with red := switchedRed y }).ward p = w.ward p := fun p =>
    (ward_switchedRed y p).trans (State.ward_of_red hred p)
  refine does_of_exec he ⟨?_, ?_, ?_, ?_, ?_, ?_, ?_⟩
  · rw [boot_endRed, honly.boot, hgr.only.boot, hheld.only.boot, hu.boot]
  · exact (hy.chanter (by simp)).trans ((honly.chanter (by decide)).trans hgr.chanter)
  · exact (hy.dg _ (by simp)).trans ((honly.planeState (by cases q <;> decide)).trans hgr.state)
  · have hs : planeState q (belRecheck { y with red := switchedRed y }) = n := by
      refine (hy.dg _ (by simp)).trans ((honly.planeState (by cases q <;> decide)).trans ?_)
      exact (hgr.only.planeState (by cases q <;> decide)).trans hheld.state
    rw [hs]; exact hn
  · rw [hw, hreset]; exact hheld.inReset
  · rw [hw]; exact hlock
  · rw [hw]; exact hgr.interlock

/-- A rail of the Chanter fails, with an eligible Drone (R374, R509). -/
theorem does_planeRailFault_chanter {q : Plane} {s : State} (h : railOk q s = true) (hc : s.chanter = some q)
    (hel : eligible q.other true s = true) :
    Does (.planeRailFault q) s (fun t => railOk q t = false ∧ t.chanter = some q.other ∧ planeState q.other t = 1
      ∧ (planeState q t = 4 ∨ planeState q t = 5) ∧ (t.ward q).inReset = true ∧ (t.ward q).interlock = false
      ∧ (t.ward q.other).interlock = true) := by
  have he := exec_planeRailFault h
  have hl := leaves_setRail q q false s []
  have hrail := railOk_setRail q false s
  have hred := red_setRail q false s
  generalize setRail q false s = u at *
  have hcu : u.chanter = some q := (hl.chanter (by simp)).trans hc
  have helu : eligible q.other true u = true := by
    simp only [eligible, planeState, hl.dg _ (List.not_mem_nil), State.ward_of_red hred]
    exact hel
  have he' : exec (.planeRailFault q) s = settled (switchOver q 2 u) := he.trans (congrArg settled (if_pos hcu))
  exact (does_switchOver helu he').imp fun t ⟨hboot, hrest⟩ => ⟨(railOk_of_boot hboot q).trans hrail, hrest⟩

/-- A rail of a retired plane fails: nothing else changes (R509). -/
theorem exec_planeRailFault_retired {q : Plane} {s : State} (h : railOk q s = true) (hc : s.chanter ≠ some q)
    (hs : planeState q s = 5) : exec (.planeRailFault q) s = settled (setRail q false s) := by
  have hl := leaves_setRail q q false s []
  have hcu : (setRail q false s).chanter ≠ some q := by rw [hl.chanter (by simp)]; exact hc
  have hsu : planeState q (setRail q false s) = 5 := (hl.dg _ (by simp)).trans hs
  rw [exec_planeRailFault h, railLost, if_neg hcu, hsu]
  rfl

/-- Settles O18, command by command: retries and failed links, missed beacons, and the supplies. -/
theorem linksBeaconsAndRails : Obligations.LinksBeaconsAndRails := by
  refine fun s => ⟨fun l n hn hx hl => does_flitRetry hn hx hl, fun q n hn hr => does_flitRetry_xlk hn hr,
    fun l n hn hl hf => ⟨fun q hp hs => does_linkFail_plane hn hl hf hp hs, fun hp hx => does_linkFail_shared hn hl hf hp hx,
      fun q hx hc hs => ?_⟩,
    fun i hlen => ⟨fun h => ?_, fun h => ⟨fun hg h7 h63 => ?_, fun hg hm => ?_, fun hg hm => does_beaconMissed_eighth h hg hm,
      fun q hg hm hp => does_beaconMissed_lost h hg hm hp⟩⟩,
    fun q h hc hs => ?_, fun q h hc hel => does_planeRailFault_chanter h hc hel, fun q => does_setRail rfl, ?_, fun hup => ?_⟩
  · subst hx
    exact does_linkFail_xlk hn hl hf hc hs
  · exact does_of_exec (congrArg settled (if_pos (by simp [h]))) (Keeps.refl _ _ _).recheck
  · refine does_beaconMissed_counted hlen h ?_ (by omega) ?_
    · simp [hg]
    · omega
  · exact does_beaconMissed_counted hlen h (by rw [if_neg (by omega), if_neg hg]) (by decide) (by decide)
  · exact (does_setRail (exec_planeRailFault_retired h hc hs)).imp fun t ⟨h1, _, h2⟩ => ⟨h1, h2⟩
  · have hl : Leaves .a s { s with boot := { s.boot with refclk := false } } [] := .of_planes .a _ rfl rfl rfl
    have ht := hl.andKeeps (Keeps.refl _ _ _).recheck
    exact does_of_exec (u := { s with boot := { s.boot with refclk := false } }) rfl ⟨rfl, ht.1, ht.2⟩
  · have he : exec .vfieldLow s = settled (fieldReset s) := congrArg settled (if_pos (by simp [hup]))
    have ho := (outsideField_fieldReset s).recheck
    exact does_of_exec he ⟨(fieldAtRest_fieldReset s).recheck.ssa, ho.1, ho.2⟩

end Sys2Proof.Machine

/-! ## O27: event points and the points of a cycle (R57, R60, R61, R63, R364, R366) -/

namespace Sys2Proof.Machine

/-! ### Event points (R60, R61) -/

theorem regFields_evp : ∀ k : Fin 16, regFields (R.TIM_CYC_EVP k) = [⟨F.TIM_CYC_EVP_EN, .rw, 0⟩, ⟨F.TIM_CYC_EVP_DIV, .rw, 0⟩,
    ⟨F.TIM_CYC_EVP_SEL_PHASE, .rw, 0⟩, ⟨F.TIM_CYC_EVP_OFFSET_NS, .rw, 0⟩] := by decide +kernel

/-- A field of an event point reads as written. -/
theorem get_rwMerge_evp (k : Fin 16) (old v : Word) : ∀ f ∈ [F.TIM_CYC_EVP_EN, F.TIM_CYC_EVP_DIV, F.TIM_CYC_EVP_SEL_PHASE,
    F.TIM_CYC_EVP_OFFSET_NS], f.get (rwMerge (R.TIM_CYC_EVP k) old v) = f.get v := by
  have hlt : ∀ f : Fld, f.get v % 2 ^ f.width = f.get v := fun f => Nat.mod_eq_of_lt (f.get_lt v)
  have hm : rwMerge (R.TIM_CYC_EVP k) old v = F.TIM_CYC_EVP_OFFSET_NS.set (F.TIM_CYC_EVP_SEL_PHASE.set (F.TIM_CYC_EVP_DIV.set
      (F.TIM_CYC_EVP_EN.set old (F.TIM_CYC_EVP_EN.get v)) (F.TIM_CYC_EVP_DIV.get v)) (F.TIM_CYC_EVP_SEL_PHASE.get v))
      (F.TIM_CYC_EVP_OFFSET_NS.get v) := by
    rw [rwMerge, regFields_evp]; rfl
  have hoff : F.TIM_CYC_EVP_OFFSET_NS.ok := by decide
  have hsel : F.TIM_CYC_EVP_SEL_PHASE.ok := by decide
  have hdiv : F.TIM_CYC_EVP_DIV.ok := by decide
  intro f hf
  simp only [List.mem_cons, List.not_mem_nil, or_false] at hf
  rw [hm]
  rcases hf with rfl | rfl | rfl | rfl
  · rw [Fld.get_set_ne _ _ hoff (by decide), Fld.get_set_ne _ _ hsel (by decide), Fld.get_set_ne _ _ hdiv (by decide),
      Fld.get_set_same _ (by decide), hlt]
  · rw [Fld.get_set_ne _ _ hoff (by decide), Fld.get_set_ne _ _ hsel (by decide), Fld.get_set_same _ hdiv, hlt]
  · rw [Fld.get_set_ne _ _ hoff (by decide), Fld.get_set_same _ hsel, hlt]
  · rw [Fld.get_set_same _ hoff, hlt]

theorem isDev_evp (k : Fin 16) : isDev (R.TIM_CYC_EVP k) = true := isDev_of_lt (by unfold R.TIM_CYC_EVP; omega)

/-- The end of a command that has replaced what the sequencer keeps. -/
theorem leaves_endCyc (c : CycleSt) (s : State) : Leaves .a s (belRecheck { s with cyc := c }) [] :=
  have h : Leaves .a s { s with cyc := c } [] := .of_planes .a _ rfl rfl rfl
  h.andKeeps (Keeps.refl _ _ _).recheck

/-- A written event point waits for the next cycle start (R61). -/
theorem does_evpWrite (k : Fin 16) (v : Word) (s : State) : Does (.evpWrite k v) s (fun t => k.val ∈ t.cyc.evpNew ∧ t.cyc.evp = s.cyc.evp
    ∧ (∀ f ∈ [F.TIM_CYC_EVP_EN, F.TIM_CYC_EVP_DIV, F.TIM_CYC_EVP_SEL_PHASE, F.TIM_CYC_EVP_OFFSET_NS],
        t.dg (R.TIM_CYC_EVP k) f = f.get v) ∧ SameStores s t ∧ RegsKept .a s t [R.TIM_CYC_EVP k]) := by
  have hk : Keeps .a s (s.writeRw .a (R.TIM_CYC_EVP k) v) [R.TIM_CYC_EVP k] := (Keeps.refl _ _ _).wr _ _ (by simp)
  have hrd : (s.writeRw .a (R.TIM_CYC_EVP k) v).rd .a (R.TIM_CYC_EVP k) = rwMerge (R.TIM_CYC_EVP k) (s.rd .a (R.TIM_CYC_EVP k)) v :=
    State.rd_wr_same _ _ _ _
  have he : exec (.evpWrite k v) s = settled (writeEvp k v s) := rfl
  unfold writeEvp at he
  generalize s.writeRw .a (R.TIM_CYC_EVP k) v = u at *
  extract_lets s1 at he
  have hl := fun c => leaves_endCyc c u
  have ht := fun c => hk.leaves.trans ((hl c).mono (ls := [R.TIM_CYC_EVP k]) (by simp))
  refine does_of_exec he ⟨?_, ?_, fun f hf => ?_, (ht _).1, (ht _).2⟩
  · show k.val ∈ (if _ then _ else _)
    split
    · next h => simpa using h
    · simp
  · exact (congrArg CycleSt.evp hk.cyc :)
  · rw [(hl _).dg _ (by simp), State.dg, State.get, hrd]
    exact get_rwMerge_evp k _ v f hf

/-- A point that fires raises its event at its time, over warden–port (R33, R60). -/
theorem does_eventPoint {k : Fin 16} {s : State} (h : evpFires k s = true) : Does (.eventPoint k) s (fun t =>
    t.evm.raised = (if s.linkUp .wardenPort then s.evm.raised ++ [k.val] else s.evm.raised)
    ∧ t.now = max s.now (s.ct0Hts + F.TIM_CYC_EVP_OFFSET_NS.get (nth s.cyc.evp k 0) * 1000) ∧ SameStores s t ∧ RegsKept .a s t []) := by
  let n := s.ct0Hts + F.TIM_CYC_EVP_OFFSET_NS.get (nth s.cyc.evp k 0) * 1000
  have he : exec (.eventPoint k) s = settled ((s.toTime n).notify .a (R.TIM_CYC_EVP k) k) := congrArg settled (if_pos h)
  have hpath : (s.toTime n).eventPath (R.TIM_CYC_EVP k) = s.linkUp .wardenPort := by
    unfold State.eventPath
    rw [if_neg (by unfold R.TIM_CYC_EVP; omega), if_pos (by unfold R.TIM_CYC_EVP; omega)]
    rfl
  have hnow : (s.toTime n).now = max s.now n := rfl
  have hraised : (s.toTime n).evm = s.evm := rfl
  have hl := leaves_toTime .a n s []
  rw [State.notify, if_pos (isDev_evp k), hpath] at he
  generalize s.toTime n = u at *
  have hout : ∀ v : State, Keeps .a u v [] → v.evm.raised = (if s.linkUp .wardenPort then s.evm.raised ++ [k.val] else s.evm.raised) →
      exec (.eventPoint k) s = settled v → Does (.eventPoint k) s (fun t =>
        t.evm.raised = (if s.linkUp .wardenPort then s.evm.raised ++ [k.val] else s.evm.raised) ∧ t.now = max s.now n
          ∧ SameStores s t ∧ RegsKept .a s t []) := fun v hv hr he => by
    have ht := hl.andKeeps hv.recheck
    exact does_of_exec he ⟨hr, hv.recheck.now.trans hnow, ht.1, ht.2⟩
  cases hup : s.linkUp .wardenPort with
  | true =>
    rw [hup] at hout
    exact hout _ ((Keeps.refl .a u []).toMatrix k) (congrArg (fun e : EvmSt => e.raised ++ [k.val]) hraised :) (by rw [he, hup, if_pos rfl]; rfl)
  | false =>
    rw [hup] at hout
    exact hout u (.refl _ _ _) (congrArg EvmSt.raised hraised) (by rw [he, hup, if_neg (by decide)])

end Sys2Proof.Machine

/-! ### The commit and the interpolation (R53, R57, R63) -/

namespace Sys2Proof.Machine

/-- Without a cycle its points do nothing. -/
theorem does_point_outside {s : State} (h : inCycle s = false) :
    ∀ c ∈ [Instr.commit, .interpolation, .syncPoint, .applyPoint, .timeStep], Does c s (fun t => Keeps .a s t []) := by
  have hk : Keeps .a s (belRecheck s) [] := (Keeps.refl _ _ _).recheck
  intro c hc
  simp only [List.mem_cons, List.not_mem_nil, or_false] at hc
  rcases hc with rfl | rfl | rfl | rfl | rfl
  · exact does_of_exec (congrArg settled (if_pos (by simp [h]))) hk
  · exact does_of_exec (congrArg settled (if_pos (by simp [h]))) hk
  · exact does_of_exec (congrArg settled (if_neg (by simp [h]))) hk
  · exact does_of_exec (congrArg settled (if_neg (by simp [h]))) hk
  · exact does_of_exec (congrArg settled (if_neg (by simp [h]))) hk

/-- The sequencer is in phase `n` from a point of the cycle on. -/
def phased (k n : Nat) (s : State) : State := (s.toTime (s.atOfs k)).dp R.TIM_CYC_STATUS F.TIM_CYC_STATUS_PHASE n

/-- What the Chanter of a cycle depends on. -/
theorem cycleChanter_of {s t : State} (h1 : t.rd .a R.RED_STATUS = s.rd .a R.RED_STATUS) (h2 : t.red = s.red) (h3 : t.cyc = s.cyc) :
    cycleChanter t = cycleChanter s := by
  have hd : ∀ f, t.dg R.RED_STATUS f = s.dg R.RED_STATUS f := fun f => congrArg f.get h1
  have hc : t.chanter = s.chanter := by simp only [State.chanter, hd]
  have hn : t.n = s.n := congrArg (fun c : CycleSt => c.starts - 1) h3
  have hr : runningChanter t = runningChanter s := by simp only [runningChanter, hc, h2, hn]
  simp only [cycleChanter, hr, State.ward_of_red h2]

/-- A phase begins at its time, and shows in TIM_CYC_STATUS alone. -/
structure Phased (k n : Nat) (s t : State) : Prop where
  phase : t.dg R.TIM_CYC_STATUS F.TIM_CYC_STATUS_PHASE = n
  now : t.now = max s.now (s.atOfs k)
  leaves : Leaves .a s t [R.TIM_CYC_STATUS]
  red : t.red = s.red
  cyc : t.cyc = s.cyc

theorem phased_phased (k : Nat) {n : Nat} (hn : n < 4) (s : State) : Phased k n s (phased k n s) where
  phase := State.dg_dp_same _ _ (by decide) hn
  now := State.now_dp _ _ _ _
  leaves := (leaves_toTime .a _ s _).andKeeps ((Keeps.refl _ _ _).dp _ _ _ (by simp) (by decide))
  red := State.red_dp _ _ _ _
  cyc := State.cyc_dp _ _ _ _

theorem Phased.onlyPlanes {k n : Nat} {s t u : State} (h : Phased k n s t) (hu : OnlyPlanes t u) (hl : Leaves .a t u []) : Phased k n s u where
  phase := (hl.dg _ (by simp)).trans h.phase
  now := by obtain ⟨_, _, rfl⟩ := hu; exact h.now
  leaves := h.leaves.trans (hl.mono (by simp))
  red := by obtain ⟨_, _, rfl⟩ := hu; exact h.red
  cyc := by obtain ⟨_, _, rfl⟩ := hu; exact h.cyc

theorem Phased.cycleChanter {k n : Nat} {s t : State} (h : Phased k n s t) : cycleChanter t = cycleChanter s :=
  cycleChanter_of (h.leaves.rd .a (by decide)) h.red h.cyc

/-- At the end of a command. -/
theorem Phased.does {k n : Nat} {s t : State} {c : Instr} (h : Phased k n s t) (he : exec c s = settled t) :
    Does c s (fun t => t.dg R.TIM_CYC_STATUS F.TIM_CYC_STATUS_PHASE = n ∧ t.now = max s.now (s.atOfs k)
      ∧ RegsKept .a s t [R.TIM_CYC_STATUS] ∧ SameStores s t) := by
  have hk : Keeps .a t (belRecheck t) [] := (Keeps.refl _ _ _).recheck
  have hl := h.leaves.andKeeps (hk.mono (by simp))
  exact does_of_exec he ⟨(hk.dg _ (by simp)).trans h.phase, hk.now.trans h.now, hl.2, hl.1⟩

/-- The samples of a cycle enter the planes' intakes (R185). -/
theorem takeSample_facts (l : List Plane) (s : State) : OnlyPlanes s (each l takeSample s) ∧ Leaves .a s (each l takeSample s) [] := by
  refine each_keeps (P := fun t => OnlyPlanes s t ∧ Leaves .a s t []) (fun q _ u hu => ?_) ⟨.refl s, .refl _ _ _⟩
  obtain ⟨ho, hl⟩ := hu
  exact ⟨ho.trans (onlyPlanes_setPlane _ _ _), hl.trans
    ⟨sameStores_of_words fun r => by cases q <;> cases r <;> rfl, fun r k _ => u.rd_setPlane q r _ k rfl rfl⟩⟩

/-- The state at the commit, when the intakes have the samples of the cycle. -/
def sampled (s : State) : State :=
  each (intakePlanes (phased R.TIM_CYC_ACT_COMMIT_OFS 3 s)) takeSample (phased R.TIM_CYC_ACT_COMMIT_OFS 3 s)

theorem phased_sampled (s : State) : Phased R.TIM_CYC_ACT_COMMIT_OFS 3 s (sampled s) :=
  have h := takeSample_facts (intakePlanes (phased R.TIM_CYC_ACT_COMMIT_OFS 3 s)) (phased R.TIM_CYC_ACT_COMMIT_OFS 3 s)
  (phased_phased _ (by decide) s).onlyPlanes h.1 h.2

theorem exec_commit {s : State} (h : inCycle s = true) : exec .commit s = settled (match cycleChanter (sampled s) with
    | none => sampled s
    | some q => if engineLate q (sampled s) || ssmLate q (sampled s) then (raiseCyc 5 (sampled s)).mcheck q 3
        else commitCycle q (sampled s)) := congrArg settled (if_neg (by simp [h]))

/-- The content on its way is not the concern of a machine check. -/
theorem content_mcheck (q : Plane) (cause : Nat) (s : State) : (s.mcheck q cause).red.content = s.red.content := by
  unfold State.mcheck
  extract_lets s1 s2
  have h1 : s1.red = s.red := (State.red_wr _ _ _ _).trans (State.red_wr _ _ _ _)
  have h2 : s2.red = s.red := (State.red_dp _ _ _ _).trans ((State.red_of_inner (State.inner_raise _ _ _ _ _)).trans h1)
  have hw : ∀ (u : State) (w : WardPlane), (u.setWard q w).red.content = u.red.content := fun u w => by cases q <;> rfl
  rw [(keeps_snapLost q _).red, hw, h2]

/-- An engine or channel 1 that is late at the commit is a machine check (R63). -/
theorem does_commit_late {q : Plane} {s : State} (h : inCycle s = true) (hc : cycleChanter s = some q)
    (hl : engineLate q (sampled s) = true ∨ ssmLate q (sampled s) = true) : Does .commit s (fun t =>
      t.get q R.PLANE_MCHK F.PLANE_MCHK_CAUSE = 3 ∧ (t.ward q).mchk = true ∧ t.get .a R.TIM_CYC_FLAGS ⟨5, 5⟩ = 1
      ∧ t.dg R.TIM_CYC_STATUS F.TIM_CYC_STATUS_PHASE = 3 ∧ t.red.content = s.red.content ∧ SameStores s t) := by
  have hp := phased_sampled s
  have he : exec .commit s = settled ((raiseCyc 5 (sampled s)).mcheck q 3) := by
    have hlate : (engineLate q (sampled s) || ssmLate q (sampled s)) = true := by simpa using hl
    simp only [exec_commit h, hp.cycleChanter, hc, hlate, if_true]
  generalize sampled s = u at *
  have hk := keeps_raiseCyc 5 u
  have hflag := get_raiseCyc (j := 5) (by decide) u
  generalize raiseCyc 5 u = v at *
  have hcontent := content_mcheck q 3 v
  have hm := machineCheck_mcheck q (cause := 3) (by decide) v
  generalize v.mcheck q 3 = w at *
  have hr : Keeps .a w (belRecheck w) [] := (Keeps.refl _ _ _).recheck
  have hmr := hm.recheck
  refine does_of_exec he ⟨hmr.cause, hmr.line, (hmr.only.dg _ (by decide) (by cases q <;> decide)).trans hflag, ?_, ?_,
    (hp.leaves.1.trans hk.leaves.1).trans hmr.stores⟩
  · exact (hmr.only.dg _ (by decide) (by cases q <;> decide)).trans ((hk.dg _ (by decide)).trans hp.phase)
  · rw [hr.red, hcontent, hk.red, hp.red]

/-- Without a Chanter that runs cycles, the commit only begins its phase. -/
theorem does_commit_none {s : State} (h : inCycle s = true) (hc : cycleChanter s = none) :
    Does .commit s (fun t => t.dg R.TIM_CYC_STATUS F.TIM_CYC_STATUS_PHASE = 3
      ∧ t.now = max s.now (s.atOfs R.TIM_CYC_ACT_COMMIT_OFS) ∧ RegsKept .a s t [R.TIM_CYC_STATUS] ∧ SameStores s t) := by
  have hp := phased_sampled s
  exact hp.does (by rw [exec_commit h, hp.cycleChanter, hc])

/-- So does the interpolation. -/
theorem does_interpolation_none {s : State} (h : inCycle s = true) (hc : cycleChanter s = none) :
    Does .interpolation s (fun t => t.dg R.TIM_CYC_STATUS F.TIM_CYC_STATUS_PHASE = 1
      ∧ t.now = max s.now (s.atOfs R.TIM_CYC_ACT_FB_DEADLINE) ∧ RegsKept .a s t [R.TIM_CYC_STATUS] ∧ SameStores s t) := by
  have hp := phased_phased R.TIM_CYC_ACT_FB_DEADLINE (n := 1) (by decide) s
  have hcc := hp.cycleChanter.trans hc
  have he : exec .interpolation s = settled (phased R.TIM_CYC_ACT_FB_DEADLINE 1 s) := by
    show execInterpolation s = _
    unfold phased at hcc
    simp only [execInterpolation, h, Bool.not_true, Bool.false_eq_true, if_false, hcc, phased]
  exact hp.does he

/-! ### The content of a commit at the output stages (R30, R364, R366) -/

theorem sense_flight_or_same (stage : Stage) (s : State) : Leaves .a s (dropContent stage s) [] ∧ (dropContent stage s).fio = s.fio
    ∧ (dropContent stage s).cbus = s.cbus ∧ (stage = .sense → (dropContent stage s).sense.flight = []) := by
  cases stage with
  | sense => exact ⟨.of_planes .a _ rfl rfl rfl, rfl, rfl, fun _ => rfl⟩
  | port => exact ⟨.refl _ _ _, rfl, rfl, by simp⟩
  | field => exact ⟨.refl _ _ _, rfl, rfl, by simp⟩
  | warden => exact ⟨.refl _ _ _, rfl, rfl, by simp⟩

/-- Content without its marker, or over a failed link, is dropped. -/
theorem does_content_dropped {stage : Stage} {m : Bool} {p : CommitContent} {s : State} (hp : s.red.content = some p)
    (h : m = false ∨ s.linkUp (stageLink p.plane stage) = false) : Does (.commitContentArrival stage m) s (fun t =>
      (t.fio = s.fio ∧ t.cbus = s.cbus ∧ SameStores s t ∧ (stage = .sense → t.sense.flight = [])) ∧ RegsKept .a s t []) := by
  have he : exec (.commitContentArrival stage m) s = settled (dropContent stage s) := by
    show execCommitContentArrival stage m s = _
    rw [execCommitContentArrival, hp]
    exact congrArg settled (if_pos (by rcases h with rfl | h <;> simp [*]))
  obtain ⟨hl, hfio, hcbus, hflight⟩ := sense_flight_or_same stage s
  generalize dropContent stage s = u at *
  have hk : Keeps .a u (belRecheck u) [] := (Keeps.refl _ _ _).recheck
  have ht := hl.andKeeps hk
  exact does_of_exec he ⟨⟨hk.fio.trans hfio, hk.cbus.trans hcbus, ht.1, fun hs => by rw [hk.sense]; exact hflight hs⟩, ht.2⟩

/-- Content of a stale epoch is counted and dropped. -/
theorem does_content_stale {stage : Stage} {p : CommitContent} {s : State} (hp : s.red.content = some p)
    (hup : s.linkUp (stageLink p.plane stage) = true) (h : s.chanter ≠ some p.plane ∨ p.epoch ≠ s.dg R.RED_EPOCH F.RED_EPOCH_EPOCH) :
    Does (.commitContentArrival stage true) s (fun t => t.dg (R.RED_REJECT stage.num) F.RED_REJECT_COUNT
      = satAdd F.RED_REJECT_COUNT.width (s.dg (R.RED_REJECT stage.num) F.RED_REJECT_COUNT) 1
      ∧ (t.fio = s.fio ∧ t.cbus = s.cbus ∧ SameStores s t ∧ (stage = .sense → t.sense.flight = []))
      ∧ RegsKept .a s t [R.RED_REJECT stage.num]) := by
  have he : exec (.commitContentArrival stage true) s
      = settled ((dropContent stage s).count .a (R.RED_REJECT stage.num) F.RED_REJECT_COUNT 1) := by
    show execCommitContentArrival stage true s = _
    rw [execCommitContentArrival, hp]
    exact congrArg settled ((if_neg (by simp [hup])).trans (if_neg (by tauto)))
  obtain ⟨hl, hfio, hcbus, hflight⟩ := sense_flight_or_same stage s
  generalize dropContent stage s = u at *
  have hcount : (u.count .a (R.RED_REJECT stage.num) F.RED_REJECT_COUNT 1).dg (R.RED_REJECT stage.num) F.RED_REJECT_COUNT
      = satAdd F.RED_REJECT_COUNT.width (s.dg (R.RED_REJECT stage.num) F.RED_REJECT_COUNT) 1 := by
    rw [State.dg_count_same _ _ _ (by decide), hl.dg _ (by simp)]
  have hk : Keeps .a u (u.count .a (R.RED_REJECT stage.num) F.RED_REJECT_COUNT 1) [R.RED_REJECT stage.num] :=
    (Keeps.refl _ _ _).count _ _ _ (by simp)
  generalize u.count .a (R.RED_REJECT stage.num) F.RED_REJECT_COUNT 1 = v at *
  have hr : Keeps .a v (belRecheck v) [] := (Keeps.refl _ _ _).recheck
  have hkr := hk.recheck
  have ht := (hl.mono (by simp)).andKeeps hkr
  exact does_of_exec he ⟨(hr.dg _ (by simp)).trans hcount, ⟨hkr.fio.trans hfio, hkr.cbus.trans hcbus, ht.1,
    fun hs => by rw [hkr.sense]; exact hflight hs⟩, ht.2⟩

/-- Current content over a link in service is taken. -/
theorem exec_content_taken {stage : Stage} {p : CommitContent} {s : State} (hp : s.red.content = some p)
    (hup : s.linkUp (stageLink p.plane stage) = true) (hc : s.chanter = some p.plane) (hep : p.epoch = s.dg R.RED_EPOCH F.RED_EPOCH_EPOCH) :
    exec (.commitContentArrival stage true) s = settled (takeContent stage p s) := by
  show execCommitContentArrival stage true s = _
  rw [execCommitContentArrival, hp]
  exact congrArg settled ((if_neg (by simp [hup])).trans (if_pos ⟨hc, hep⟩))

/-- PORT takes its transmit content as it is. -/
theorem does_content_port {p : CommitContent} {s : State} (hp : s.red.content = some p) (hup : s.linkUp (portLink p.plane) = true)
    (hc : s.chanter = some p.plane) (hep : p.epoch = s.dg R.RED_EPOCH F.RED_EPOCH_EPOCH) :
    Does (.commitContentArrival .port true) s (fun t => t.inner = (takeTx p.cycle p.cmd s).inner
      ∧ ∀ p' k, t.rd p' k = (takeTx p.cycle p.cmd s).rd p' k) := by
  have he := exec_content_taken (stage := .port) hp hup hc hep
  change _ = settled (takeTx p.cycle p.cmd s) at he
  generalize takeTx p.cycle p.cmd s = u at *
  exact does_of_exec he ⟨State.inner_belRecheck u, fun q k => State.rd_belRecheck u q k⟩

/-- FIELD after it has taken the content of a commit. -/
def fieldTook (p : CommitContent) (s : State) : FioSt :=
  { s.fio with levels := some p.douts, marked := true, unmarked := 0, unasked := if p.ssa then 0 else s.fio.unasked }

theorem takeDouts_eq {p : CommitContent} {s : State} (hp : s.red.content = some p) (hup : s.linkUp (fieldLink p.plane) = true)
    (hc : s.chanter = some p.plane) (hep : p.epoch = s.dg R.RED_EPOCH F.RED_EPOCH_EPOCH) :
    takeDouts s = { s with fio := fieldTook p s }.dp R.FIO_STATUS F.FIO_STATUS_SSA_REQ (b2n p.ssa) := by
  rw [takeDouts, hp]
  exact (if_neg (by simp [hup])).trans (if_pos ⟨hc, hep⟩)

/-- FIELD takes the levels and the PERMIT request (R366, R435). -/
theorem does_takeDouts {c : Instr} {p : CommitContent} {s : State} (he : exec c s = settled (takeDouts s))
    (hp : s.red.content = some p) (hup : s.linkUp (fieldLink p.plane) = true)
    (hc : s.chanter = some p.plane) (hep : p.epoch = s.dg R.RED_EPOCH F.RED_EPOCH_EPOCH) :
    Does c s (fun t => t.fio.levels = some p.douts ∧ t.fio.marked = true ∧ t.fio.unmarked = 0
      ∧ t.dg R.FIO_STATUS F.FIO_STATUS_SSA_REQ = b2n p.ssa ∧ SameStores s t ∧ RegsKept .a s t [R.FIO_STATUS]) := by
  rw [takeDouts_eq hp hup hc hep] at he
  have hfio : { s with fio := fieldTook p s }.fio = fieldTook p s := rfl
  have hl : Leaves .a s { s with fio := fieldTook p s } [] := .of_planes .a _ rfl rfl rfl
  generalize { s with fio := fieldTook p s } = u at *
  have hk : Keeps .a u (belRecheck (u.dp R.FIO_STATUS F.FIO_STATUS_SSA_REQ (b2n p.ssa))) [R.FIO_STATUS] :=
    ((Keeps.refl _ _ _).dp _ _ _ (by simp) (by decide)).recheck
  have ht := (hl.mono (by simp)).andKeeps hk
  have hf := hk.fio.trans hfio
  refine does_of_exec he ⟨congrArg FioSt.levels hf, congrArg FioSt.marked hf, congrArg FioSt.unmarked hf, ?_, ht.1, ht.2⟩
  rw [State.dg_belRecheck, State.dg_dp_same _ _ (by decide) (b2n_lt_two _)]

end Sys2Proof.Machine

/-! ### The apply point (R435) -/

namespace Sys2Proof.Machine

/-- What FIELD keeps of an output is replaced. -/
def withDo (k : Nat) (x : DoSt) (s : State) : State := { s with fio := { s.fio with dos := s.fio.dos.set k x } }

theorem leaves_withDo (k : Nat) (x : DoSt) (s : State) (ks : List Nat) : Leaves .a s (withDo k x s) ks := .of_planes .a ks rfl rfl rfl

theorem dout_withDo_ne {k j : Nat} (h : j ≠ k) (x : DoSt) (s : State) : (withDo k x s).dout j = s.dout j := by
  show nth (s.fio.dos.set k x) j _ = _
  rw [nth_set, if_neg (by omega)]; rfl

theorem dout_withDo (k : Nat) (x : DoSt) (s : State) :
    (withDo k x s).dout k = x ∨ (withDo k x s).dout k = ⟨false, none, false, false, false, false, false, false, 0⟩ := by
  show nth (s.fio.dos.set k x) k _ = x ∨ nth (s.fio.dos.set k x) k _ = _
  rw [nth_set]
  split
  · exact .inl rfl
  · next h =>
    refine .inr (List.getD_eq_default _ _ ?_)
    omega

/-- The causes that hold an output off, but for the supply (R436). -/
structure NoCause (x : DoSt) : Prop where
  hold : x.hold = none
  safeOff : x.safeOff = false
  latched : x.latched = false
  failed : x.failed = false
  retry : x.retry = false
  waits : x.waits = false

/-- A place beyond the outputs has no cause either. -/
theorem noCause_withDo {k : Nat} {x : DoSt} (h : NoCause x) (s : State) : NoCause ((withDo k x s).dout k) := by
  rcases dout_withDo k x s with hd | hd
  · rw [hd]; exact h
  · rw [hd]; exact ⟨rfl, rfl, rfl, rfl, rfl, rfl⟩

theorem doDriven_of_noCause {k : Nat} {s : State} (h : NoCause (s.dout k)) (hc : cutOff s = false) :
    doDriven k s = (s.dg (R.FIO_DO_STATUS k) F.FIO_DO_STATUS_CMD == 1) := by
  simp [doDriven, h.hold, h.safeOff, h.latched, h.failed, h.retry, h.waits, hc]

theorem cutOff_of_rd {s t : State} (h : t.rd .a R.FIO_STATUS = s.rd .a R.FIO_STATUS) : cutOff t = cutOff s :=
  congrArg (fun w => decide (2 ≤ F.FIO_STATUS_SUPPLY.get w)) h

/-- A change of the status of output `k` alone. -/
structure OutputOnly (k : Nat) (s t : State) : Prop where
  leaves : Leaves .a s t [R.FIO_DO_STATUS k]
  now : t.now = s.now
  levels : t.fio.levels = s.fio.levels
  dout : ∀ j, j ≠ k → t.dout j = s.dout j

theorem OutputOnly.trans {k : Nat} {s t u : State} (h1 : OutputOnly k s t) (h2 : OutputOnly k t u) : OutputOnly k s u :=
  ⟨h1.leaves.trans h2.leaves, h2.now.trans h1.now, h2.levels.trans h1.levels, fun j hj => (h2.dout j hj).trans (h1.dout j hj)⟩

theorem dout_of_fio {s t : State} (h : t.fio = s.fio) (j : Nat) : t.dout j = s.dout j := by unfold State.dout; rw [h]

theorem OutputOnly.of_keeps {k : Nat} {s t : State} (h : Keeps .a s t [R.FIO_DO_STATUS k]) : OutputOnly k s t :=
  ⟨h.leaves, h.now, congrArg FioSt.levels h.fio, fun j _ => dout_of_fio h.fio j⟩

theorem outputOnly_withDo (k : Nat) (x : DoSt) (s : State) : OutputOnly k s (withDo k x s) :=
  ⟨leaves_withDo k x s _, rfl, rfl, fun _ hj => dout_withDo_ne hj x s⟩

theorem OutputOnly.cutOff {k : Nat} {s t : State} (h : OutputOnly k s t) : cutOff t = cutOff s :=
  cutOff_of_rd (h.leaves.rd .a (by simp only [List.mem_singleton, R.FIO_STATUS, R.FIO_DO_STATUS]; omega))

theorem isDev_doStatus {k : Nat} (hk : k < 16) : isDev (R.FIO_DO_STATUS k) = true := isDev_of_lt (by unfold R.FIO_DO_STATUS; omega)

/-- The time of a change of the driven state is kept. -/
def sinceKept (k : Nat) (s : State) : State := if doDriven k s = doOn k s then s else withDo k { s.dout k with since := s.now } s

theorem sinceKept_facts (k : Nat) (s : State) : OutputOnly k s (sinceKept k s) ∧ (NoCause (s.dout k) → NoCause ((sinceKept k s).dout k)) := by
  unfold sinceKept
  split
  · exact ⟨⟨.refl _ _ _, rfl, rfl, fun _ _ => rfl⟩, id⟩
  · exact ⟨outputOnly_withDo k _ s, fun h => noCause_withDo (k := k)
      (x := { s.dout k with since := s.now }) ⟨h.hold, h.safeOff, h.latched, h.failed, h.retry, h.waits⟩ s⟩

theorem showDo_eq (k : Nat) (s : State) : showDo k s
    = (((sinceKept k s).dp (R.FIO_DO_STATUS k) F.FIO_DO_STATUS_OUT (b2n (doDriven k (sinceKept k s)))).dp (R.FIO_DO_STATUS k)
      F.FIO_DO_STATUS_FAULT (doFault k (sinceKept k s))).dp (R.FIO_DO_STATUS k) F.FIO_DO_STATUS_READBACK
      (b2n (doDriven k (sinceKept k s) || ((sinceKept k s).dout k).ext)) := rfl

/-- An output's status as its causes give it. -/
theorem showDo_facts {k : Nat} (hk : k < 16) (s : State) : OutputOnly k s (showDo k s)
    ∧ (showDo k s).dg (R.FIO_DO_STATUS k) F.FIO_DO_STATUS_CMD = (sinceKept k s).dg (R.FIO_DO_STATUS k) F.FIO_DO_STATUS_CMD
    ∧ (NoCause (s.dout k) → cutOff s = false →
      (showDo k s).dg (R.FIO_DO_STATUS k) F.FIO_DO_STATUS_OUT = (showDo k s).dg (R.FIO_DO_STATUS k) F.FIO_DO_STATUS_CMD) := by
  obtain ⟨hu, hnc⟩ := sinceKept_facts k s
  have he := showDo_eq k s
  generalize sinceKept k s = u at *
  have hcmd : (showDo k s).dg (R.FIO_DO_STATUS k) F.FIO_DO_STATUS_CMD = u.dg (R.FIO_DO_STATUS k) F.FIO_DO_STATUS_CMD := by
    rw [he, State.dg_dp_field _ _ _ (by decide) (by decide), State.dg_dp_field _ _ _ (by decide) (by decide),
      State.dg_dp_field _ _ _ (by decide) (by decide)]
  have hout : (showDo k s).dg (R.FIO_DO_STATUS k) F.FIO_DO_STATUS_OUT = b2n (doDriven k u) := by
    rw [he, State.dg_dp_field _ _ _ (by decide) (by decide), State.dg_dp_field _ _ _ (by decide) (by decide),
      State.dg_dp_same _ _ (by decide) (b2n_lt_two _)]
  have hd := isDev_doStatus hk
  have hko : OutputOnly k u (showDo k s) := by
    rw [he]
    exact .of_keeps ((((Keeps.refl _ _ _).dp _ _ _ (by simp) hd).dp _ _ _ (by simp) hd).dp _ _ _ (by simp) hd)
  refine ⟨hu.trans hko, hcmd, fun hn hc => ?_⟩
  rw [hout, hcmd, doDriven_of_noCause (hnc hn) (hu.cutOff.trans hc), b2n_beq_one (State.dg_lt _ _ _)]

theorem dg_cmd_sinceKept (k : Nat) (s : State) (j : Nat) (f : Fld) : (sinceKept k s).dg j f = s.dg j f := by
  unfold sinceKept
  split
  · rfl
  · exact (leaves_withDo k _ s []).dg f (by simp)

/-- What the apply point makes of an output. -/
structure Applied (lv : Option Nat) (k : Nat) (s t : State) : Prop where
  cmd : t.dg (R.FIO_DO_STATUS k) F.FIO_DO_STATUS_CMD = (match lv with
    | some l => b2n (bitN l k)
    | none => s.dg (R.FIO_DO_STATUS k) F.FIO_DO_STATUS_CMD)
  out : cutOff s = false → (s.dout k).hold = none → (s.dout k).safeOff = false → (s.dout k).latched = false →
    (s.dout k).failed = false → (s.dout k).retry = false →
    t.dg (R.FIO_DO_STATUS k) F.FIO_DO_STATUS_OUT = t.dg (R.FIO_DO_STATUS k) F.FIO_DO_STATUS_CMD

/-- The command of an output is taken. -/
def commanded (lv : Option Nat) (k : Nat) (s : State) : State :=
  match lv with
  | some l => s.dp (R.FIO_DO_STATUS k) F.FIO_DO_STATUS_CMD (b2n (bitN l k))
  | none => s

theorem commanded_facts (lv : Option Nat) {k : Nat} (hk : k < 16) (s : State) : Keeps .a s (commanded lv k s) [R.FIO_DO_STATUS k]
    ∧ (commanded lv k s).dg (R.FIO_DO_STATUS k) F.FIO_DO_STATUS_CMD = (match lv with
      | some l => b2n (bitN l k)
      | none => s.dg (R.FIO_DO_STATUS k) F.FIO_DO_STATUS_CMD) := by
  cases lv with
  | none => exact ⟨.refl _ _ _, rfl⟩
  | some l => exact ⟨(Keeps.refl _ _ _).dp _ _ _ (by simp) (isDev_doStatus hk), State.dg_dp_same _ _ (by decide) (b2n_lt_two _)⟩

/-- A retry that the supply has cancelled counts as its switch-on, once the supply is back (R437, R441). -/
def retryCounted (k : Nat) (c s : State) : State :=
  if (c.dout k).again && (c.dout k).waits && c.dg (R.FIO_DO_STATUS k) F.FIO_DO_STATUS_CMD == 1 && !cutOff s
  then c.dp (R.FIO_DO_STATUS k) F.FIO_DO_STATUS_RETRIES (min 3 (doRetries k c + 1)) else c

/-- What FIELD keeps of an output from the apply point on. -/
def appliedDo (k : Nat) (c s : State) : DoSt :=
  { c.dout k with
    retry := (c.dout k).retry && c.dg (R.FIO_DO_STATUS k) F.FIO_DO_STATUS_CMD == 1
    again := (c.dout k).again && cutOff s
    waits := (c.dout k).waits && cutOff s }

theorem applyDo_eq (lv : Option Nat) (k : Nat) (s : State) : applyDo lv k s
    = showDo k (withDo k (appliedDo k (commanded lv k s) s) (retryCounted k (commanded lv k s) s)) := by
  cases lv <;> rfl

theorem retryCounted_facts {k : Nat} (hk : k < 16) (c s : State) : Keeps .a c (retryCounted k c s) [R.FIO_DO_STATUS k]
    ∧ (retryCounted k c s).dg (R.FIO_DO_STATUS k) F.FIO_DO_STATUS_CMD = c.dg (R.FIO_DO_STATUS k) F.FIO_DO_STATUS_CMD := by
  unfold retryCounted
  split
  · exact ⟨(Keeps.refl _ _ _).dp _ _ _ (by simp) (isDev_doStatus hk), State.dg_dp_field _ _ _ (by decide) (by decide)⟩
  · exact ⟨.refl _ _ _, rfl⟩

/-- No cause is left of an output that has none but the supply's. -/
theorem noCause_appliedDo {k : Nat} {c s : State} (h0 : cutOff s = false) (h1 : (c.dout k).hold = none) (h2 : (c.dout k).safeOff = false)
    (h3 : (c.dout k).latched = false) (h4 : (c.dout k).failed = false) (h5 : (c.dout k).retry = false) : NoCause (appliedDo k c s) :=
  ⟨h1, h2, h3, h4, by simp [appliedDo, h5], by simp [appliedDo, h0]⟩

theorem applyDo_facts (lv : Option Nat) {k : Nat} (hk : k < 16) (s : State) :
    OutputOnly k s (applyDo lv k s) ∧ Applied lv k s (applyDo lv k s) := by
  obtain ⟨hc, hcmd⟩ := commanded_facts lv hk s
  obtain ⟨hu, hucmd⟩ := retryCounted_facts hk (commanded lv k s) s
  rw [applyDo_eq]
  have hdout := dout_of_fio hc.fio k
  have happ := noCause_appliedDo (k := k) (c := commanded lv k s) (s := s)
  generalize appliedDo k (commanded lv k s) s = x at *
  generalize retryCounted k (commanded lv k s) s = u at *
  generalize commanded lv k s = c at *
  have hou : OutputOnly k s u := (OutputOnly.of_keeps hc).trans (.of_keeps hu)
  have how := hou.trans (outputOnly_withDo k x u)
  have hwcmd : (withDo k x u).dg (R.FIO_DO_STATUS k) F.FIO_DO_STATUS_CMD = u.dg (R.FIO_DO_STATUS k) F.FIO_DO_STATUS_CMD :=
    (leaves_withDo k x u []).dg _ (by simp)
  have hnc := noCause_withDo (k := k) (x := x) (s := u)
  generalize withDo k x u = w at *
  obtain ⟨hshow, hscmd, hsout⟩ := showDo_facts hk w
  refine ⟨how.trans hshow, ⟨?_, fun h0 h1 h2 h3 h4 h5 => hsout (hnc ?_) (how.cutOff.trans h0)⟩⟩
  · rw [hscmd, dg_cmd_sinceKept, hwcmd, hucmd, hcmd]
  · rw [← hdout] at h1 h2 h3 h4 h5
    exact happ h0 h1 h2 h3 h4 h5

/-! #### All outputs -/

theorem doStatus_injective {j k : Nat} (h : R.FIO_DO_STATUS j = R.FIO_DO_STATUS k) : j = k := by
  simp only [R.FIO_DO_STATUS] at h; omega

/-- What an output's part reads. -/
theorem Applied.of_same {lv : Option Nat} {k : Nat} {s s' t t' : State} (h : Applied lv k s' t)
    (hs : s'.dg (R.FIO_DO_STATUS k) F.FIO_DO_STATUS_CMD = s.dg (R.FIO_DO_STATUS k) F.FIO_DO_STATUS_CMD) (hc : cutOff s' = cutOff s)
    (hd : s'.dout k = s.dout k) (ht : t'.rd .a (R.FIO_DO_STATUS k) = t.rd .a (R.FIO_DO_STATUS k)) : Applied lv k s t' := by
  have hf : ∀ f, t'.dg (R.FIO_DO_STATUS k) f = t.dg (R.FIO_DO_STATUS k) f := fun f => congrArg f.get ht
  refine ⟨by rw [hf, h.cmd, hs], fun h0 h1 h2 h3 h4 h5 => ?_⟩
  rw [← hc] at h0
  rw [← hd] at h1 h2 h3 h4 h5
  rw [hf, hf]
  exact h.out h0 h1 h2 h3 h4 h5

/-- What the apply point makes of the outputs `l`. -/
structure AppliedAll (lv : Option Nat) (l : List Nat) (s t : State) : Prop where
  leaves : Leaves .a s t (l.map R.FIO_DO_STATUS)
  now : t.now = s.now
  levels : t.fio.levels = s.fio.levels
  applied : ∀ k ∈ l, Applied lv k s t

/-- The apply point, output by output. -/
theorem appliedAll_each (lv : Option Nat) : ∀ (l : List Nat) (s : State), l.Nodup → (∀ k ∈ l, k < 16) →
    AppliedAll lv l s (each l (applyDo lv) s)
  | [], s, _, _ => ⟨.refl _ _ _, rfl, rfl, fun _ h => absurd h (by simp)⟩
  | a :: l, s, hn, hl => by
    obtain ⟨ha, hn'⟩ := List.nodup_cons.1 hn
    obtain ⟨hout, happ⟩ := applyDo_facts lv (hl a (by simp)) s
    have hrest := appliedAll_each lv l (applyDo lv a s) hn' (fun k hk => hl k (by simp [hk]))
    rw [each_cons]
    generalize applyDo lv a s = u at *
    generalize each l (applyDo lv) u = t at *
    refine ⟨(hout.leaves.mono (by simp)).trans (hrest.leaves.mono (by simp +contextual)), hrest.now.trans hout.now,
      hrest.levels.trans hout.levels, fun k hk => ?_⟩
    rcases List.mem_cons.1 hk with rfl | hk
    · refine happ.of_same rfl rfl rfl (hrest.leaves.rd .a fun hm => ?_)
      obtain ⟨j, hj, he⟩ := List.mem_map.1 hm
      exact ha (doStatus_injective he ▸ hj)
    · have hne : k ≠ a := fun h => ha (h ▸ hk)
      exact (hrest.applied k hk).of_same (hout.leaves.dg _ fun hm => hne (doStatus_injective (List.mem_singleton.1 hm))) hout.cutOff
        (hout.dout k hne) rfl

/-- The apply point switches the outputs (R435). -/
theorem does_applyPoint {s : State} (h : inCycle s = true) : Does .applyPoint s (fun t => t.fio.levels = none
    ∧ t.now = max s.now (s.atOfs R.TIM_CYC_ACT_APPLY_OFS) ∧ SameStores s t ∧ RegsKept .a s t ((List.range 16).map R.FIO_DO_STATUS)
    ∧ ∀ k : Fin 16, t.dg (R.FIO_DO_STATUS k) F.FIO_DO_STATUS_CMD = (match s.fio.levels with
        | some lv => b2n (bitN lv k)
        | none => s.dg (R.FIO_DO_STATUS k) F.FIO_DO_STATUS_CMD)
      ∧ (cutOff s = false → (s.dout k).hold = none → (s.dout k).safeOff = false → (s.dout k).latched = false →
        (s.dout k).failed = false → (s.dout k).retry = false →
        t.dg (R.FIO_DO_STATUS k) F.FIO_DO_STATUS_OUT = t.dg (R.FIO_DO_STATUS k) F.FIO_DO_STATUS_CMD)) := by
  let s1 := s.toTime (s.atOfs R.TIM_CYC_ACT_APPLY_OFS)
  let s2 : State := { s1 with fio := { s1.fio with levels := none } }
  have he : exec .applyPoint s = settled (each (List.range 16) (applyDo s.fio.levels) s2) := congrArg settled (if_pos h)
  have hl2 : Leaves .a s s2 [] := .of_planes .a _ rfl rfl rfl
  have hnow : s2.now = max s.now (s.atOfs R.TIM_CYC_ACT_APPLY_OFS) := rfl
  have hlev : s2.fio.levels = none := rfl
  have hdout : ∀ k, s2.dout k = s.dout k := fun _ => rfl
  clear_value s2
  obtain ⟨h1, h2, h3, h4⟩ := appliedAll_each s.fio.levels (List.range 16) s2 List.nodup_range fun k hk => List.mem_range.1 hk
  generalize each (List.range 16) (applyDo s.fio.levels) s2 = t at *
  have hk : Keeps .a t (belRecheck t) [] := (Keeps.refl _ _ _).recheck
  refine does_of_exec he ⟨?_, hk.now.trans (h2.trans hnow), ?_, ?_, fun k => ?_⟩
  · rw [hk.fio, h3, hlev]
  · exact (hl2.1.trans h1.1).trans hk.leaves.1
  · exact (hl2.2.mono (by simp)).trans (h1.2.trans (hk.2.mono (by simp)))
  · have ha := (h4 k (List.mem_range.2 k.isLt)).of_same (s := s) (t' := belRecheck t) (hl2.dg _ (by simp)) (cutOff_of_rd (hl2.rd .a (by simp)))
      (hdout k) (State.rd_belRecheck _ _ _)
    exact ⟨ha.cmd, ha.out⟩

end Sys2Proof.Machine

/-! ### The latch of SENSE at the sync point (R244, R245) -/

namespace Sys2Proof.Machine

/-- What the latch of SENSE leaves: FIELD, the sequencer, the links, the Warden, and every register before those of SENSE in which no
plane shows. -/
structure LatchKept (s t : State) : Prop where
  cyc : t.cyc = s.cyc
  links : t.links = s.links
  red : t.red = s.red
  base : t.sense.smpBase = s.sense.smpBase
  rd : ∀ k, k < 0x160000 → k ∉ sharedSlots → t.rd .a k = s.rd .a k

namespace LatchKept

variable {s t u : State}

theorem refl (s : State) : LatchKept s s := ⟨rfl, rfl, rfl, rfl, fun _ _ _ => rfl⟩

theorem trans (h1 : LatchKept s t) (h2 : LatchKept t u) : LatchKept s u :=
  ⟨h2.cyc.trans h1.cyc, h2.links.trans h1.links, h2.red.trans h1.red, h2.base.trans h1.base,
    fun k hk hn => (h2.rd k hk hn).trans (h1.rd k hk hn)⟩

theorem dg (h : LatchKept s t) {k : Nat} (f : Fld) (hk : k < 0x160000) (hn : k ∉ sharedSlots) : t.dg k f = s.dg k f :=
  congrArg f.get (h.rd k hk hn)

/-- Only registers of SENSE change. -/
theorem keeps (h : LatchKept s t) {ks : List Nat} (h2 : Keeps .a t u ks) (hk : ∀ k ∈ ks, 0x160000 ≤ k ∨ k ∈ sharedSlots) : LatchKept s u :=
  h.trans ⟨h2.cyc, h2.links, h2.red, congrArg SenseSt.smpBase h2.sense,
    fun k hlt hn => h2.2 .a k (.inl fun hm => (hk k hm).elim (by omega) hn)⟩

theorem kept (h : LatchKept s t) (h2 : DiesKept t u) : LatchKept s u :=
  h.trans ⟨h2.cyc, h2.links, h2.red, (congrArg (fun x => x.sense.smpBase) h2.dies :),
    fun k hk hn => h2.rd k (isDev_of_lt (by omega)) hn⟩

theorem dp (h : LatchKept s t) {k : Nat} {f : Fld} {n : Nat} (hk : 0x160000 ≤ k) : LatchKept s (t.dp k f n) :=
  h.keeps ((Keeps.refl .a t [k]).put _ _ _ (by simp)) (by simp [hk])

theorem wr (h : LatchKept s t) {k : Nat} {v : Word} (hk : 0x160000 ≤ k) : LatchKept s (t.wr .a k v) :=
  h.keeps ((Keeps.refl .a t [k]).wr _ _ (by simp)) (by simp [hk])

theorem raise (h : LatchKept s t) {b : Bank} {e j : Nat} (hf : 0x160000 ≤ b.flags) (hc : 0x160000 ≤ b.cnt) :
    LatchKept s (t.raise .a b e j) :=
  h.keeps ((Keeps.refl .a t (flagSlots b j)).raise _ _ _ fun _ h => h) fun k hk => by
    simp only [flagSlots, List.mem_cons, List.not_mem_nil, or_false] at hk
    rcases hk with rfl | rfl | rfl | rfl
    · exact .inl hf
    · exact .inl (by omega)
    · exact .inr (by decide)
    · exact .inr (by decide)

theorem setPif (h : LatchKept s t) {p : Nat} {x : PifSt} : LatchKept s (t.setPif p x) := h.trans ⟨rfl, rfl, rfl, rfl, fun _ _ _ => rfl⟩

theorem setCmp (h : LatchKept s t) {p : Nat} {x : CmpSt} : LatchKept s (t.setCmp p x) := h.trans ⟨rfl, rfl, rfl, rfl, fun _ _ _ => rfl⟩

theorem each {α : Type} {f : α → State → State} {l : List α} (h : LatchKept s t) (hf : ∀ a u, LatchKept u (f a u)) :
    LatchKept s (Machine.each l f t) :=
  each_keeps (P := LatchKept s) (fun a _ _ hu => hu.trans (hf a _)) h

theorem showPif (h : LatchKept s t) {p : Nat} : LatchKept s (showPif p t) := by
  have hp : 0x160000 ≤ R.PIF_STATUS p := by unfold R.PIF_STATUS; omega
  exact (((h.dp hp).dp hp).dp hp).dp hp

theorem sputVia (h : LatchKept s t) {l : Plane → Link} {a : Nat} {ws : List Word} : LatchKept s (t.sputVia l a ws) := by
  have hover : ∀ q u, DiesKept u (sputOver l a ws q u) := fun q u => by
    unfold sputOver
    split
    · exact diesKept_sputs q _ ws u a (Nat.le_refl _)
    · exact .refl u
  rw [State.sputVia_eq]
  exact h.kept ((hover .a t).trans (hover .b _))

end LatchKept

theorem latchKept_setCmpState (u n : Nat) (s : State) : LatchKept s (setCmpState u n s) := .dp (.refl s) (by unfold R.CMP_STATUS; omega)

theorem latchKept_advanceCmp (u : Nat) (s : State) : LatchKept s (advanceCmp u s) := by
  unfold advanceCmp
  extract_lets
  split
  · split
    · exact .trans (.setCmp (.refl s)) (latchKept_setCmpState u 1 _)
    · exact .setCmp (.refl s)
  · exact .setCmp (.refl s)

theorem latchKept_behindAct (u : Nat) (s : State) : LatchKept s (behindAct u s) := by
  unfold behindAct
  extract_lets s1
  have h1 : LatchKept s s1 := .raise (.refl s) (by unfold bCMP R.CMP_FLAGS; simp only; omega) (by unfold bCMP R.CMP_FLAG_CNT; simp only; omega)
  split
  · exact .trans (.setCmp h1) (latchKept_advanceCmp u _)
  · split
    · exact h1.trans (latchKept_setCmpState u 2 _)
    · exact .trans (.setCmp h1) (latchKept_setCmpState u 0 _)

theorem latchKept_recheckUnits (p : Nat) (s : State) : LatchKept s (recheckUnits p s) :=
  .each (.refl s) fun u v => by
    show LatchKept v (if _ then _ else _)
    split
    · exact latchKept_behindAct u v
    · exact .refl v

theorem latchKept_countCmd (p code : Nat) (s : State) : LatchKept s (countCmd p code s) := by
  refine .trans ?_ (latchKept_recheckUnits p _)
  split
  · exact .setPif (.refl s)
  · exact .wr (.setPif (.refl s)) (by unfold R.PIF_IDX_DRIFT; omega)

theorem latchKept_takePifCfg (p t : Nat) (s : State) : LatchKept s (takePifCfg p t s) := by
  unfold takePifCfg
  extract_lets
  split
  · exact .setPif (.refl s)
  · exact .dp (.setPif (.refl s)) (by unfold R.PIF_STATUS; omega)

theorem latchKept_latchPif (p tl : Nat) (s : State) : LatchKept s (latchPif p tl s) := by
  unfold latchPif
  extract_lets _ s0 x serial s1 at' _ s2 s3
  have h0 : LatchKept s s0 := .setPif (.refl s)
  have h1 : LatchKept s s1 := by
    show LatchKept s (if _ then _ else _)
    split
    · exact h0
    · exact .setPif h0
  have h2 : LatchKept s s2 := .each (.setPif h1) (latchKept_countCmd p)
  have h3 : LatchKept s s3 := by
    show LatchKept s (if _ then _ else _)
    split
    · exact h2
    · exact .sputVia (.showPif h2)
  exact .showPif (.trans (.setPif h3) (latchKept_takePifCfg p tl _))

/-- The latch of every interface: the bases written are in force, and FIELD is as it was. -/
theorem latchAll_facts (s : State) : (latchAll s).cyc = s.cyc ∧ (latchAll s).links = s.links ∧ (latchAll s).red = s.red
    ∧ (latchAll s).sense.smpBase = (s.rd .a R.PIF_SMP_BASE).toNat
    ∧ ∀ k, k < 0x160000 → k ∉ sharedSlots → (latchAll s).rd .a k = s.rd .a k := by
  obtain ⟨h1, h2, h3, h4, h5⟩ : LatchKept { s with sense := { s.sense with
      smpBase := (s.rd .a R.PIF_SMP_BASE).toNat, picBase := (s.rd .a R.PIF_PICOT_BASE).toNat } } (latchAll s) :=
    .each (.refl _) fun p u => latchKept_latchPif p _ u
  exact ⟨h1, h2, h3, h4, h5⟩

end Sys2Proof.Machine

/-! ### The image of the inputs (R433, R445) -/

namespace Sys2Proof.Machine

/-- Setting a bit that is clear carries nothing further. -/
theorem testBit_add_two_pow {n j : Nat} (h : n.testBit j = false) (i : Nat) : (n + 2 ^ j).testBit i = (n.testBit i || decide (i = j)) := by
  rcases Nat.lt_trichotomy i j with hlt | rfl | hgt
  · rw [Nat.add_comm, Nat.testBit_two_pow_add_gt hlt]
    simp; omega
  · rw [Nat.add_comm, Nat.testBit_two_pow_add_eq]
    simp [h]
  · have hz : n / 2 ^ j % 2 = 0 := by
      simpa [Nat.testBit_eq_decide_div_mod_eq] using h
    have hdiv : (n + 2 ^ j) / 2 ^ (j + 1) = n / 2 ^ (j + 1) := by
      rw [Nat.pow_succ, ← Nat.div_div_eq_div_mul, ← Nat.div_div_eq_div_mul, Nat.add_div_right _ (Nat.two_pow_pos j)]
      omega
    obtain ⟨d, rfl⟩ := Nat.exists_eq_add_of_lt hgt
    have hd : j + d + 1 = d + (j + 1) := by omega
    rw [hd, Nat.testBit_add, Nat.testBit_add, hdiv]
    simp; omega

theorem testBit_setBitN (n j i : Nat) : (setBitN n j).testBit i = (n.testBit i || decide (i = j)) := by
  unfold setBitN
  rw [bitN_eq_testBit]
  split
  · next h =>
    by_cases hij : i = j
    · subst hij; simp [h]
    · simp [hij]
  · next h => exact testBit_add_two_pow (by simpa using h) i

/-- The bits of a mask. -/
theorem testBit_foldl_setBitN (i : Nat) : ∀ (l : List Nat) (n : Nat), (l.foldl setBitN n).testBit i = (n.testBit i || decide (i ∈ l))
  | [], n => by simp
  | a :: l, n => by
    rw [List.foldl_cons, testBit_foldl_setBitN i l, testBit_setBitN]
    simp [Bool.or_assoc]

theorem testBit_maskWhere (n : Nat) (p : Nat → Bool) (i : Nat) : (maskWhere n p).testBit i = (decide (i < n) && p i) := by
  rw [maskWhere, maskOf, testBit_foldl_setBitN]
  simp

theorem maskWhere_lt (n : Nat) (p : Nat → Bool) : maskWhere n p < 2 ^ n :=
  Nat.lt_pow_two_of_testBit _ fun i hi => by rw [testBit_maskWhere]; simp; omega

/-- Words that FIELD delivers to a plane that its links reach (R30, R36, R433). -/
def liveTo (s : State) (q : Plane) : Prop :=
  ¬ (planeState q s = 5 ∨ s.linkUp (fieldLink q) = false ∨ s.linkUp (storeLink q) = false ∨ (s.ward q).inReset = true)

/-- One plane's part of a delivery. -/
def sputLiveTo (a : Nat) (ws : List Word) (q : Plane) (s : State) : State :=
  if planeState q s = 5 ∨ s.linkUp (fieldLink q) = false ∨ s.linkUp (storeLink q) = false ∨ (s.ward q).inReset = true then s
  else s.sputs q a ws

theorem sputLive_eq (s : State) (a : Nat) (ws : List Word) : s.sputLive a ws = sputLiveTo a ws .b (sputLiveTo a ws .a s) := rfl

theorem storeOnly_sputLiveTo {a : Nat} {ws : List Word} (q : Plane) {s : State} (h : Quiet s a ws) : StoreOnly s (sputLiveTo a ws q s) := by
  unfold sputLiveTo
  split
  · exact .refl s
  · exact storeOnly_sputs q _ ws s a (le_refl _) h

theorem StoreOnly.liveTo {s t : State} (h : StoreOnly s t) {q : Plane} (hl : liveTo s q) : liveTo t q := by
  have hp : planeState q t = planeState q s := congrArg F.RED_PLANE_STATE.get (h.rd .a _)
  simp only [Machine.liveTo, hp, h.planes.linkUp, h.planes.ward] at hl ⊢
  exact hl

theorem sw_sputLiveTo_same {a : Nat} {ws : List Word} {q : Plane} {s : State} (hl : liveTo s q) (ha : a + ws.length ≤ storeWords)
    {i : Nat} (hi : i < ws.length) : (sputLiveTo a ws q s).sw q (a + i) = nth ws i 0 := by
  rw [sputLiveTo, if_neg hl, State.sw_sputs q _ ws s a (le_refl _) ha, if_pos ⟨rfl, by omega, by omega⟩, Nat.add_sub_cancel_left]

theorem sw_sputLiveTo_other {a : Nat} {ws : List Word} {q r : Plane} {s : State} (hr : r ≠ q) (ha : a + ws.length ≤ storeWords)
    (b : Nat) : (sputLiveTo a ws q s).sw r b = s.sw r b := by
  unfold sputLiveTo
  split
  · rfl
  · rw [State.sw_sputs q _ ws s a (le_refl _) ha, if_neg (by tauto)]

/-- A delivery stands in the store of a plane that its links reach. -/
theorem sw_sputLive {a : Nat} {ws : List Word} {q : Plane} {s : State} (hq : Quiet s a ws) (hl : liveTo s q)
    (ha : a + ws.length ≤ storeWords) {i : Nat} (hi : i < ws.length) : (s.sputLive a ws).sw q (a + i) = nth ws i 0 := by
  rw [sputLive_eq]
  cases q with
  | a => rw [sw_sputLiveTo_other (by decide) ha, sw_sputLiveTo_same hl ha hi]
  | b => exact sw_sputLiveTo_same ((storeOnly_sputLiveTo .a hq).liveTo hl) ha hi

theorem storeOnly_sputLive {a : Nat} {ws : List Word} {s : State} (hq : Quiet s a ws) : StoreOnly s (s.sputLive a ws) :=
  (storeOnly_sputLiveTo .a hq).trans (storeOnly_sputLiveTo .b (hq.of_storeOnly (storeOnly_sputLiveTo .a hq)))

/-- The words of the image of the inputs (R433). -/
def imageOf (s : State) : List Word :=
  [wordN (supplyQ s * 2 ^ 35 + maskWhere 32 (fun k => s.dg (R.FIO_DI_STATUS k) F.FIO_DI_STATUS_LEVEL == 1)),
    wordN (maskWhere 32 (fun k => s.dg (R.FIO_DI_STATUS k) F.FIO_DI_STATUS_UNKNOWN == 1)),
    wordN (s.dg R.FIO_STATUS F.FIO_STATUS_SSA * 2 ^ 35 + maskWhere 16 (fun k => s.dg (R.FIO_DO_STATUS k) F.FIO_DO_STATUS_FAULT != 0) * 2 ^ 16
      + maskWhere 16 (fun k => s.dg (R.FIO_DO_STATUS k) F.FIO_DO_STATUS_READBACK == 1)),
    wordN (s.n % 2 ^ 16 * 2 ^ 20 + supply s * 2 ^ 17 + s.dg R.FIO_STATUS F.FIO_STATUS_VFIELD)]

/-- The bases that FIELD was given come into force. -/
def fieldBased (s : State) : State :=
  { s with fio := { s.fio with imgBase := (s.rd .a R.FIO_IMG_BASE).toNat / 4 * 4, picBase := (s.rd .a R.FIO_PICOT_BASE).toNat } }

theorem diImage_eq {s : State} (h : fieldLost s = false) :
    diImage s = (fieldBased s).sputLive ((s.rd .a R.FIO_IMG_BASE).toNat / 4 * 4) (imageOf (fieldBased s)) :=
  if_neg (by show ¬ fieldLost s = true; rw [h]; decide)

theorem imageOf_fieldBased (s : State) : imageOf (fieldBased s) = imageOf s := rfl

theorem testBit_wordN {n k : Nat} (h : k < 36) : (wordN n).toNat.testBit k = n.testBit k := by
  rw [wordN, BitVec.toNat_ofNat, Nat.testBit_mod_two_pow]
  simp [h]

/-- The image shows each input's level and whether it is unknown. -/
theorem imageOf_bits (s : State) (k : Fin 32) :
    (nth (imageOf s) 0 0).toNat.testBit k = (s.dg (R.FIO_DI_STATUS k) F.FIO_DI_STATUS_LEVEL == 1)
    ∧ (nth (imageOf s) 1 0).toNat.testBit k = (s.dg (R.FIO_DI_STATUS k) F.FIO_DI_STATUS_UNKNOWN == 1) := by
  have hk := k.isLt
  constructor
  · show (wordN (supplyQ s * 2 ^ 35 + _)).toNat.testBit k = _
    have hlt := maskWhere_lt 32 (fun k => s.dg (R.FIO_DI_STATUS k) F.FIO_DI_STATUS_LEVEL == 1)
    rw [testBit_wordN (by omega), Nat.mul_comm, Nat.testBit_two_pow_mul_add _ (by omega), if_pos (by omega), testBit_maskWhere]
    simp [hk]
  · show (wordN (maskWhere 32 _)).toNat.testBit k = _
    rw [testBit_wordN (by omega), testBit_maskWhere]
    simp [hk]

/-! ### The sync point -/

/-- The bases in force are FIELD's own, and nothing else changes. -/
theorem onlyFio_fieldBased (s : State) : Leaves .a s (fieldBased s) [] ∧ (fieldBased s).links = s.links ∧ (fieldBased s).red = s.red
    ∧ (fieldBased s).sense = s.sense :=
  ⟨.of_planes .a _ rfl rfl rfl, rfl, rfl, rfl⟩

/-- What delivery by FIELD depends on. -/
theorem liveTo_of {s t : State} (q : Plane) (h1 : planeState q t = planeState q s) (h2 : t.links = s.links) (h3 : t.red = s.red) :
    liveTo t q ↔ liveTo s q := by
  have hl : ∀ l, t.linkUp l = s.linkUp l := fun l => by simp only [State.linkUp, h2]
  simp only [liveTo, h1, hl, State.ward_of_red h3]

theorem planeRed_lt (q : Plane) : R.RED_PLANE q.code < 0x160000 ∧ R.RED_PLANE q.code ∉ sharedSlots := by cases q <;> decide

theorem diStatus_lt (k : Fin 32) : R.FIO_DI_STATUS k < 0x160000 ∧ R.FIO_DI_STATUS k ∉ sharedSlots := by revert k; decide

/-- FIELD's latch: the bases written are in force, and a plane it reaches holds the image. -/
theorem diImage_facts {q : Plane} {s : State} (hlost : fieldLost s = false) (hlive : liveTo s q)
    (hb : (s.rd .a R.FIO_IMG_BASE).toNat / 4 * 4 + 4 ≤ storeWords) :
    (diImage s).fio.imgBase = (s.rd .a R.FIO_IMG_BASE).toNat / 4 * 4 ∧ (diImage s).fio.picBase = (s.rd .a R.FIO_PICOT_BASE).toNat
    ∧ (diImage s).sense = s.sense
    ∧ ∀ i < 4, (diImage s).sw q ((s.rd .a R.FIO_IMG_BASE).toNat / 4 * 4 + i) = nth (imageOf s) i 0 := by
  have hi : (fieldBased s).fio.imgBase = (s.rd .a R.FIO_IMG_BASE).toNat / 4 * 4 := rfl
  have hp : (fieldBased s).fio.picBase = (s.rd .a R.FIO_PICOT_BASE).toNat := rfl
  have hlen : (imageOf s).length = 4 := rfl
  obtain ⟨hl, hlinks, hred, hsense⟩ := onlyFio_fieldBased s
  have hlive' : liveTo (fieldBased s) q := (liveTo_of q (hl.dg _ (by simp)) hlinks hred).2 hlive
  rw [diImage_eq hlost, imageOf_fieldBased]
  generalize fieldBased s = v at *
  generalize imageOf s = ws at *
  have hq : Quiet v ((s.rd .a R.FIO_IMG_BASE).toNat / 4 * 4) ws := .inl ⟨by omega, by omega⟩
  refine ⟨?_, ?_, ?_, fun i hi => sw_sputLive hq hlive' (by omega) (by omega)⟩ <;>
    obtain ⟨x, y, h⟩ := (storeOnly_sputLive hq).planes <;> rw [h]
  · exact hi
  · exact hp
  · exact hsense

/-- The state when SENSE has latched. -/
def senseLatched (s : State) : State := latchAll (s.toTime (s.atOfs R.TIM_CYC_ACT_SYNC_OFS))

theorem latchKept_senseLatched (s : State) : (senseLatched s).cyc = s.cyc ∧ (senseLatched s).links = s.links
    ∧ (senseLatched s).red = s.red ∧ (senseLatched s).sense.smpBase = (s.rd .a R.PIF_SMP_BASE).toNat
    ∧ ∀ k, k < 0x160000 → k ∉ sharedSlots → (senseLatched s).rd .a k = s.rd .a k := by
  obtain ⟨h1, h2, h3, h4, h5⟩ := latchAll_facts (s.toTime (s.atOfs R.TIM_CYC_ACT_SYNC_OFS))
  simp only [State.rd_toTime] at h4 h5
  exact ⟨h1, h2, h3, h4, h5⟩

theorem exec_syncPoint {s : State} (h : inCycle s = true) : exec .syncPoint s = settled (diImage (senseLatched s)) :=
  congrArg settled (if_pos h)

/-- SENSE and FIELD latch (R245, R433). -/
theorem does_syncPoint {q : Plane} {s : State} (h : inCycle s = true) (hlost : fieldLost s = false) (hlive : liveTo s q)
    (hb : (s.rd .a R.FIO_IMG_BASE).toNat / 4 * 4 + 4 ≤ storeWords) :
    Does .syncPoint s (fun t =>
      let base := (s.rd .a R.FIO_IMG_BASE).toNat / 4 * 4
      t.fio.imgBase = base ∧ t.fio.picBase = (s.rd .a R.FIO_PICOT_BASE).toNat ∧ t.sense.smpBase = (s.rd .a R.PIF_SMP_BASE).toNat
      ∧ t.sw q (base + 3) = wordN (s.n % 2 ^ 16 * 2 ^ 20 + supply s * 2 ^ 17 + s.dg R.FIO_STATUS F.FIO_STATUS_VFIELD)
      ∧ (∀ k : Fin 32, (t.sw q base).toNat.testBit k = (s.dg (R.FIO_DI_STATUS k) F.FIO_DI_STATUS_LEVEL == 1)
        ∧ (t.sw q (base + 1)).toNat.testBit k = (s.dg (R.FIO_DI_STATUS k) F.FIO_DI_STATUS_UNKNOWN == 1))) := by
  have he := exec_syncPoint h
  obtain ⟨hcyc, hlinks, hred, hsmp, hrd⟩ := latchKept_senseLatched s
  generalize senseLatched s = u at *
  have hdg : ∀ k f, k < 0x160000 → k ∉ sharedSlots → u.dg k f = s.dg k f := fun k f hk hn => congrArg f.get (hrd k hk hn)
  have hlostu : fieldLost u = false := by rw [fieldLost, hcyc]; exact hlost
  have hbase : u.rd .a R.FIO_IMG_BASE = s.rd .a R.FIO_IMG_BASE := hrd _ (by decide) (by decide)
  have hpic : u.rd .a R.FIO_PICOT_BASE = s.rd .a R.FIO_PICOT_BASE := hrd _ (by decide) (by decide)
  have hliveu : liveTo u q := (liveTo_of q (hdg _ _ (planeRed_lt q).1 (planeRed_lt q).2) hlinks hred).2 hlive
  have hlast : nth (imageOf u) 3 0 = wordN (s.n % 2 ^ 16 * 2 ^ 20 + supply s * 2 ^ 17 + s.dg R.FIO_STATUS F.FIO_STATUS_VFIELD) := by
    show wordN (u.n % 2 ^ 16 * 2 ^ 20 + supply u * 2 ^ 17 + u.dg R.FIO_STATUS F.FIO_STATUS_VFIELD) = _
    rw [supply, supply, hdg _ _ (by decide) (by decide), hdg _ _ (by decide) (by decide), State.n, hcyc, State.n]
  have hbits := fun k : Fin 32 => imageOf_bits u k
  simp only [fun k f => hdg (R.FIO_DI_STATUS (k : Fin 32)) f (diStatus_lt k).1 (diStatus_lt k).2] at hbits
  obtain ⟨hi, hp, hsense, himg⟩ := diImage_facts hlostu hliveu (by rw [hbase]; exact hb)
  rw [hbase] at hi himg
  rw [hpic] at hp
  rw [← hsense] at hsmp
  generalize imageOf u = ws at *
  generalize diImage u = v at *
  have hk : Keeps .a v (belRecheck v) [] := (Keeps.refl _ _ _).recheck
  have hsw : ∀ i < 4, (belRecheck v).sw q ((s.rd .a R.FIO_IMG_BASE).toNat / 4 * 4 + i) = nth ws i 0 :=
    fun i hi => (hk.leaves.1 q _).trans (himg i hi)
  have h0 := hsw 0 (by decide)
  rw [Nat.add_zero] at h0
  refine does_of_exec he ⟨?_, ?_, ?_, (hsw 3 (by decide)).trans hlast, fun k => ?_⟩
  · rw [hk.fio]; exact hi
  · rw [hk.fio]; exact hp
  · rw [hk.sense]; exact hsmp
  · rw [h0, hsw 1 (by decide)]
    exact hbits k

end Sys2Proof.Machine

/-! ### The points of a cycle settled -/

namespace Sys2Proof.Machine

/-- A written event point does nothing until it fires. -/
theorem does_eventPoint_idle {k : Fin 16} {s : State} (h : evpFires k s = false) : Does (.eventPoint k) s (fun t => Keeps .a s t []) :=
  does_of_exec (congrArg settled (if_neg (by simp [h]))) (Keeps.refl _ _ _).recheck

/-- FIELD takes current content when it comes. -/
theorem does_content_field {p : CommitContent} {s : State} (hp : s.red.content = some p) (hup : s.linkUp (fieldLink p.plane) = true)
    (hc : s.chanter = some p.plane) (hep : p.epoch = s.dg R.RED_EPOCH F.RED_EPOCH_EPOCH) :
    Does (.commitContentArrival .field true) s (fun t => t.fio.levels = some p.douts ∧ t.fio.marked = true
      ∧ SameStores s t ∧ RegsKept .a s t [R.FIO_STATUS]) :=
  (does_takeDouts (exec_content_taken (stage := .field) hp hup hc hep) hp hup hc hep).imp
    fun _ ⟨hlevels, hmarked, _, _, hstores, hregs⟩ => ⟨hlevels, hmarked, hstores, hregs⟩

/-- Settles O27, point by point: event points, commit and interpolation, the apply point, the content at its stages, the sync
point. -/
theorem theCycleHasItsPoints : Obligations.TheCycleHasItsPoints := by
  refine ⟨fun s => ⟨fun k v => does_evpWrite k v s, fun k h => does_eventPoint h, fun k h => does_eventPoint_idle h,
    fun h => does_point_outside h, fun q h hc hl => does_commit_late h hc hl,
    fun h hc => ⟨does_commit_none h hc, does_interpolation_none h hc⟩, fun h => does_applyPoint h,
    fun stage p hp => ⟨fun hup h => ?_, fun m h => does_content_dropped hp h⟩,
    fun p hp hc hep => ⟨fun hup => does_content_port hp hup hc hep, fun hup => ⟨does_content_field hp hup hc hep, ?_⟩⟩⟩,
    fun q s h hlost hs hf hst hr hb => does_syncPoint h hlost ?_ hb⟩
  · exact does_content_stale hp hup h
  · exact does_takeDouts rfl hp hup hc hep
  · simp [liveTo, hs, hf, hst, hr]

end Sys2Proof.Machine

/-! ## O3: the state that reset leaves (R53, R294, R469) -/

namespace Sys2Proof.Machine

/-- A domain in RUN is too deep for no floor. -/
theorem floorsKept_of_run {s : State} (h : ∀ d, d < 12 → s.dom d = 0) : FloorsKept s := fun d hd ht => by
  simp [tooDeep, h d hd] at ht

/-- Reset lists no register of a die or a plane but PLANE_ID of plane B, and no word of a store. -/
theorem canonical_reset : State.reset.memWf = true ∧ State.reset.regsWf = true := by decide

/-- At reset every domain is in RUN. -/
theorem dom_reset : ∀ d, d < 12 → State.reset.dom d = 0 := by decide

/-- At reset both outputs are dropped, for POWER_UP (R294). -/
theorem outputs_reset : State.reset.dg R.SSM2_STATUS F.SSM2_STATUS_SSA = 0 ∧ State.reset.dg R.SSM2_STATUS F.SSM2_STATUS_SSB = 0
    ∧ State.reset.dg R.SSM2_STATUS F.SSM2_STATUS_DROP_CAUSE = 1 := by decide

/-- The cycle in force at reset is the default one of R53. -/
theorem cycle_reset : State.reset.dg R.TIM_CYC_ACT_PERIOD F.TIM_CYC_ACT_PERIOD_VALUE = 500
    ∧ State.reset.dg R.TIM_CYC_ACT_FB_DEADLINE F.TIM_CYC_ACT_FB_DEADLINE_VALUE = 45000
    ∧ State.reset.dg R.TIM_CYC_ACT_SOLVE_DEADLINE F.TIM_CYC_ACT_SOLVE_DEADLINE_VALUE = 85000
    ∧ State.reset.dg R.TIM_CYC_ACT_COMMIT_OFS F.TIM_CYC_ACT_COMMIT_OFS_VALUE = 110000
    ∧ State.reset.dg R.TIM_CYC_ACT_APPLY_OFS F.TIM_CYC_ACT_APPLY_OFS_VALUE = 60000 := by decide

/-- Settles O3: every domain is in RUN at reset, so no floor is broken; the rest are the values themselves. -/
theorem resetHoldsTheSpecsValues : Obligations.ResetHoldsTheSpecsValues :=
  have ⟨hmem, hregs⟩ := canonical_reset
  have ⟨hssa, hssb, hdrop⟩ := outputs_reset
  ⟨floorsKept_of_run dom_reset, hmem, hregs, by decide, rfl, dom_reset, by decide, hssa, hssb, hdrop, cycle_reset⟩

end Sys2Proof.Machine

/-! ## O40: the time keeper (R48, R216, R224, R345) -/

namespace Sys2Proof.Machine

/-- Plane A has the grant, PORT (island 26) has missed 63 beacons in a row, and arm 0 stops by category 0. -/
def beaconsMissed63 : State :=
  let s := Tests.granted
  { s with
    cyc := { s.cyc with miss := s.cyc.miss.set 26 63 }
    boot := { s.boot with up := true }
    pa := { s.pa with rep := { s.pa.rep with act := [(R.CLE_ARM_CFG 0, F.CLE_ARM_CFG_STOP_CAT.set 0 0)] } } }

/-- The 64th beacon that PORT misses is TIME_LOST: the Warden stops every arm, and the command slot of channel 0 shows STO in the
store (R48, R216, R224). -/
theorem sw_timeBeacon_of_timeLost :
    ∀ t, exec (.timeBeacon [26]) beaconsMissed63 = .next t → t.sw .a 2 ≠ beaconsMissed63.sw .a 2 := by
  have h : (Tests.getNext (exec (.timeBeacon [26]) beaconsMissed63)).sw .a 2 ≠ beaconsMissed63.sw .a 2 := by decide +kernel
  intro t ht
  rwa [ht] at h

/-- Refutes O40: a beacon does not always leave both stores as they were. With the 64th beacon that an island of PORT misses, the
Warden stops every arm, and a stop of category 0 writes the command slots of the arm's channels. -/
theorem not_theTimeKeeperKeepsTime : ¬ Obligations.TheTimeKeeperKeepsTime := by
  unfold Obligations.TheTimeKeeperKeepsTime
  intro h
  obtain ⟨hbeacon, -⟩ := h beaconsMissed63
  obtain ⟨hbeats, -⟩ := hbeacon [26]
  obtain ⟨t, ht, -, -, -, -, -, hstores, -⟩ := hbeats (by decide)
  exact sw_timeBeacon_of_timeLost t ht (hstores .a 2)

end Sys2Proof.Machine

/-! ## The checks of a cycle configuration (R54, R55) -/

namespace Sys2Proof.Machine

/-- Only registers of the time keeper, those before the Cell Bus, are among the slots. -/
def TimSlots (ks : List Nat) : Prop := ∀ k ∈ ks, R.TIM_SRC ≤ k ∧ k < R.CBUS_CFG

theorem RegsKept.rd_of_timSlots {s t : State} {ks : List Nat} (h : RegsKept .a s t ks) (hks : TimSlots ks) (q : Plane) {k : Nat}
    (hk : k < R.TIM_SRC ∨ R.CBUS_CFG ≤ k) : t.rd q k = s.rd q k :=
  h q k (.inl fun hm => by have := hks k hm; omega)

theorem RegsKept.closedCh {s t : State} {ks : List Nat} (h : RegsKept .a s t ks) (hks : TimSlots ks) (q : Plane) (c : Nat) :
    t.closedCh q c = s.closedCh q c := by
  unfold State.closedCh State.get
  rw [h.rd_of_timSlots hks q (.inr (by unfold R.CBUS_CFG R.CLE_CH_STATUS; omega))]

/-- No register of the time keeper closes a channel. -/
theorem RegsKept.anyClosed {s t : State} {ks : List Nat} (h : RegsKept .a s t ks) (hks : TimSlots ks) : t.anyClosed = s.anyClosed := by
  have hc : ∀ q, t.closedCh q = s.closedCh q := fun q => funext (h.closedCh hks q)
  simp only [State.anyClosed, State.chanter_of_rd (h.rd_of_timSlots hks .a (.inl (by decide))), hc]

/-- The schedule banks in force lie apart from the time keeper. -/
theorem Keeps.busCycleCheck {s t : State} {ks : List Nat} (h : Keeps .a s t ks) (hks : TimSlots ks) (tcyc fb apply : Nat) :
    busCycleCheck tcyc fb apply t = busCycleCheck tcyc fb apply s := by
  have hdg : ∀ k f, R.CBUS_CFG ≤ k → t.dg k f = s.dg k f := fun k f hk => congrArg f.get (h.2.rd_of_timSlots hks .a (.inr hk))
  have hcfg : ∀ c f, t.dg (R.CBUS_CH_CFG c) f = s.dg (R.CBUS_CH_CFG c) f := fun c f => hdg _ f (by unfold R.CBUS_CFG R.CBUS_CH_CFG; omega)
  have hst : ∀ c f, t.dg (R.CBUS_CH_STATUS c) f = s.dg (R.CBUS_CH_STATUS c) f := fun c f =>
    hdg _ f (by unfold R.CBUS_CFG R.CBUS_CH_STATUS; omega)
  have hdelay : ∀ c k f, t.dg (R.CBUS_STN_DELAY c k) f = s.dg (R.CBUS_STN_DELAY c k) f := fun c k f =>
    hdg _ f (by unfold R.CBUS_CFG R.CBUS_STN_DELAY; omega)
  have hmeas : ∀ c k f, t.dg (R.CBUS_STN_MEAS c k) f = s.dg (R.CBUS_STN_MEAS c k) f := fun c k f =>
    hdg _ f (by unfold R.CBUS_CFG R.CBUS_STN_MEAS; omega)
  have hstn : ∀ c k f, t.dg (R.CBUS_STN_STATUS c k) f = s.dg (R.CBUS_STN_STATUS c k) f := fun c k f =>
    hdg _ f (by unfold R.CBUS_CFG R.CBUS_STN_STATUS; omega)
  have hslot : ∀ c b k, busSlot c b k t = busSlot c b k s := fun c b k => by
    simp only [busSlot, hdg (R.CBUS_SLOT_TIME c b k) _ (by unfold R.CBUS_CFG R.CBUS_SLOT_TIME; omega),
      hdg (R.CBUS_SLOT_CFG c b k) _ (by unfold R.CBUS_CFG R.CBUS_SLOT_CFG; omega),
      hdg (R.CBUS_SLOT_TX c b k) _ (by unfold R.CBUS_CFG R.CBUS_SLOT_TX; omega),
      hdg (R.CBUS_SLOT_RX c b k) _ (by unfold R.CBUS_CFG R.CBUS_SLOT_RX; omega)]
  have hmap : ∀ c b x, slotMap c b x t = slotMap c b x s := fun c b x => by
    simp only [slotMap, fun e => hdg (R.CBUS_TXMAP c b e) F.CBUS_TXMAP_OFFSET (by unfold R.CBUS_CFG R.CBUS_TXMAP; omega),
      fun e => hdg (R.CBUS_TXMAP c b e) F.CBUS_TXMAP_COUNT (by unfold R.CBUS_CFG R.CBUS_TXMAP; omega)]
  have hclosed : ∀ c, busClosed c t = busClosed c s := fun c => by
    have htab : t.tab = s.tab := (congrArg State.tab h.1 :)
    simp only [busClosed, State.chanter_of_rd (h.2.rd_of_timSlots hks .a (k := R.RED_STATUS) (.inl (by decide))), h.2.closedCh hks,
      State.chanTab, htab]
  simp only [Machine.busCycleCheck, busState, actBank, busCheck, busSlots, present, found, stnState, downOk, windowsOk, waitsOk, arrivalOf,
    frameTime, frameGap, lMax, guardPs, byteTime, compat, stnP, stnU, stnTa, hcfg, hst, hdelay, hmeas, hstn, hslot, hmap, hclosed] <;> rfl

/-- What APPLY decides by does not lie in the time keeper, but for the configuration itself. -/
theorem Keeps.applyRefusal {s t : State} {ks : List Nat} (h : Keeps .a s t ks) (hks : TimSlots ks) (c : CycCfg) :
    applyRefusal c t = applyRefusal c s := by
  simp only [Machine.applyRefusal, h.2.anyClosed hks, h.busCycleCheck hks]

end Sys2Proof.Machine

/-! ## Configurations in force (R53, R55, R61, R170, R354) -/

namespace Sys2Proof.Machine

/-- What the sequencer keeps, cell time, and every register of a single-copy die but `ks` are as before. -/
structure SeqKept (ks : List Nat) (s t : State) : Prop where
  cyc : t.cyc = s.cyc
  now : t.now = s.now
  rd : ∀ k, isDev k = true → k ∉ ks → t.rd .a k = s.rd .a k

namespace SeqKept

variable {ks ls : List Nat} {s t u : State}

theorem refl (ks : List Nat) (s : State) : SeqKept ks s s := ⟨rfl, rfl, fun _ _ _ => rfl⟩

theorem trans (h1 : SeqKept ks s t) (h2 : SeqKept ks t u) : SeqKept ks s u :=
  ⟨h2.cyc.trans h1.cyc, h2.now.trans h1.now, fun k hd hk => (h2.rd k hd hk).trans (h1.rd k hd hk)⟩

theorem mono (h : SeqKept ks s t) (hs : ∀ k ∈ ks, k ∈ ls) : SeqKept ls s t :=
  ⟨h.cyc, h.now, fun k hd hk => h.rd k hd fun hc => hk (hs k hc)⟩

theorem dg (h : SeqKept ks s t) {k : Nat} (f : Fld) (hd : isDev k = true) (hk : k ∉ ks) : t.dg k f = s.dg k f :=
  congrArg f.get (h.rd k hd hk)

theorem keeps (h : SeqKept ks s t) (h2 : Keeps .a t u ls) (hs : ∀ k ∈ ls, k ∈ ks) : SeqKept ks s u :=
  h.trans ⟨h2.cyc, h2.now, fun k _ hk => h2.2 .a k (.inl fun hc => hk (hs k hc))⟩

theorem kept (h : SeqKept ks s t) (h2 : DiesKept t u) (hs : ∀ k ∈ sharedSlots, k ∈ ks) : SeqKept ks s u :=
  h.trans ⟨h2.cyc, h2.now, fun k hd hk => h2.rd k hd fun hc => hk (hs k hc)⟩

end SeqKept

/-- The registers of the cycle in force, with what a configuration puts in them (R53). -/
def cfgEntries (c : CycCfg) : List (Nat × Nat) :=
  [(R.TIM_CYC_ACT_PERIOD, c.period), (R.TIM_CYC_ACT_PHASE, c.phase), (R.TIM_CYC_ACT_SYNC_OFS, c.sync), (R.TIM_CYC_ACT_FB_DEADLINE, c.fb),
    (R.TIM_CYC_ACT_SOLVE_DEADLINE, c.solve), (R.TIM_CYC_ACT_COMMIT_OFS, c.commit), (R.TIM_CYC_ACT_APPLY_OFS, c.apply)]

/-- The slots of the cycle in force. -/
def actSlots : List Nat := [R.TIM_CYC_ACT_PERIOD, R.TIM_CYC_ACT_PHASE, R.TIM_CYC_ACT_SYNC_OFS, R.TIM_CYC_ACT_FB_DEADLINE,
  R.TIM_CYC_ACT_SOLVE_DEADLINE, R.TIM_CYC_ACT_COMMIT_OFS, R.TIM_CYC_ACT_APPLY_OFS]

/-- The flags that a configuration in force can raise: EVP_RANGE, EXCH_ORDER, and WINDOW_SHORT of a plane. -/
def forceFlags : List Nat := flagSlots bCYC 7 ++ flagSlots bFED 0 ++ sharedSlots

/-- The seven registers as a configuration puts them in force. -/
def writeCfg (c : CycCfg) (s : State) : State := each (cfgEntries c) (fun e s => s.dp e.1 F.TIM_CYC_ACT_PERIOD_VALUE e.2) s

theorem mem_actSlots {c : CycCfg} {e : Nat × Nat} (he : e ∈ cfgEntries c) : e.1 ∈ actSlots := List.mem_map_of_mem (f := Prod.fst) he

theorem isDev_actSlots : ∀ k ∈ actSlots, isDev k = true := by decide

theorem actSlots_apart : ∀ k ∈ actSlots, k ∉ forceFlags := by decide

/-- Each register has one entry. -/
theorem cfgEntries_inj {c : CycCfg} : ∀ d ∈ cfgEntries c, ∀ e ∈ cfgEntries c, e.1 = d.1 → e = d := by
  have h : ((cfgEntries c).map Prod.fst).Nodup := by show actSlots.Nodup; decide
  exact fun d hd e he => (List.inj_on_of_nodup_map h) he hd

theorem dg_writeCfg (c : CycCfg) (s : State) :
    ∀ e ∈ cfgEntries c, (writeCfg c s).dg e.1 F.TIM_CYC_ACT_PERIOD_VALUE = e.2 % 2 ^ 22 := by
  refine each_makes (Q := fun (e : Nat × Nat) (t : State) => t.dg e.1 F.TIM_CYC_ACT_PERIOD_VALUE = e.2 % 2 ^ 22) s (fun e _ s => ?_) (fun d hd e he s h => ?_)
  · exact State.get_put_same _ _ _ _ _ (by decide)
  · by_cases hk : e.1 = d.1
    · obtain rfl := cfgEntries_inj d hd e he hk
      exact State.get_put_same _ _ _ _ _ (by decide)
    · exact (State.dg_dp_ne _ _ _ _ hk).trans h

theorem keeps_writeCfg (c : CycCfg) (s : State) : Keeps .a s (writeCfg c s) actSlots :=
  each_keeps (P := fun t => Keeps .a s t actSlots)
    (fun _ he _ h => h.dp _ _ _ (mem_actSlots he) (isDev_actSlots _ (mem_actSlots he))) (.refl _ _ _)

/-- The event points that a change of T_cyc puts out of range, EXCH_ORDER and WINDOW_SHORT (R61, R170, R354). -/
def checkForce (c : CycCfg) (old : Nat) (s : State) : State :=
  (exchOrder c.fb (each s.cyc.evp (fun e s => if evpInRange e old && !evpInRange e (tcycNs s) then raiseCyc 7 s else s) s)).onChanter
    checkWindows

theorem putInForce_eq (c : CycCfg) (s : State) : putInForce c s = checkForce c (tcycNs s) (writeCfg c s) := by
  simp only [putInForce, checkForce, writeCfg, cfgEntries, each_cons]
  rfl

theorem diesKept_checkWindows (q : Plane) (s : State) : DiesKept s (checkWindows q s) := by
  unfold checkWindows
  extract_lets
  split
  · exact .raise (.refl s) (by decide) (by decide)
  · exact .refl s

theorem seqKept_checkForce (c : CycCfg) (old : Nat) (s : State) : SeqKept forceFlags s (checkForce c old s) := by
  unfold checkForce
  have h1 : SeqKept forceFlags s (each s.cyc.evp (fun e s =>
      if evpInRange e old && !evpInRange e (tcycNs s) then raiseCyc 7 s else s) s) := by
    refine each_keeps (P := SeqKept forceFlags s) (fun e _ u hu => ?_) (.refl _ s)
    split
    · exact hu.keeps (keeps_raiseCyc 7 u) (by simp +contextual [forceFlags])
    · exact hu
  generalize each s.cyc.evp _ s = t at *
  have h2 : SeqKept forceFlags s (exchOrder c.fb t) := by
    unfold exchOrder
    split
    · exact h1.keeps ((Keeps.refl .a t (flagSlots bFED 0)).raise _ _ _ fun _ h => h) (by simp +contextual [forceFlags])
    · exact h1
  unfold State.onChanter
  split
  · exact h2.kept (diesKept_checkWindows _ _) (by simp +contextual [forceFlags])
  · exact h2

/-- A configuration in force stands in its registers (R53, R55). -/
theorem dg_putInForce (c : CycCfg) (s : State) :
    ∀ e ∈ cfgEntries c, (putInForce c s).dg e.1 F.TIM_CYC_ACT_PERIOD_VALUE = e.2 % 2 ^ 22 := fun e he => by
  have hm := mem_actSlots he
  rw [putInForce_eq, (seqKept_checkForce c _ _).dg _ (isDev_actSlots _ hm) (actSlots_apart _ hm), dg_writeCfg c s e he]

theorem seqKept_putInForce (c : CycCfg) (s : State) : SeqKept (actSlots ++ forceFlags) s (putInForce c s) := by
  rw [putInForce_eq]
  exact .trans ((SeqKept.refl _ s).keeps (keeps_writeCfg c s) (by simp +contextual)) ((seqKept_checkForce c _ _).mono (by simp +contextual))

theorem cycState_putInForce (c : CycCfg) (s : State) : cycState (putInForce c s) = cycState s :=
  (seqKept_putInForce c s).dg _ (by decide) (by decide)

end Sys2Proof.Machine

/-! ## O26: APPLY (R54, R55, R56, R64) -/

namespace Sys2Proof.Machine

/-- A command of the sequencer shows in TIM_CYC_CMD. -/
def cycShown (code : Nat) (s : State) : State := s.dp R.TIM_CYC_CMD F.TIM_CYC_CMD_CODE code

theorem keeps_cycShown (code : Nat) (s : State) : Keeps .a s (cycShown code s) [R.TIM_CYC_CMD] :=
  (Keeps.refl _ _ _).dp _ _ _ (by simp) (by decide)

theorem timSlots_cmd : TimSlots [R.TIM_CYC_CMD] := by simp [TimSlots, R.TIM_CYC_CMD, R.TIM_SRC, R.CBUS_CFG]

theorem cycWritten_cycShown (code : Nat) (s : State) : cycWritten (cycShown code s) = cycWritten s := by
  have h : ∀ k f, k ∉ [R.TIM_CYC_CMD] → (cycShown code s).dg k f = s.dg k f := fun k f hk => (keeps_cycShown code s).dg f hk
  simp only [cycWritten, h R.TIM_CYC_PERIOD _ (by decide), h R.TIM_CYC_PHASE _ (by decide), h R.TIM_CYC_SYNC_OFS _ (by decide),
    h R.TIM_CYC_FB_DEADLINE _ (by decide), h R.TIM_CYC_SOLVE_DEADLINE _ (by decide), h R.TIM_CYC_COMMIT_OFS _ (by decide),
    h R.TIM_CYC_APPLY_OFS _ (by decide)]

/-- What the RW registers hold fits the registers of the cycle in force. -/
theorem cycWritten_lt (s : State) : ∀ e ∈ cfgEntries (cycWritten s), e.2 < 2 ^ 22 := by
  have hofs : ∀ k, s.dg k F.TIM_CYC_SYNC_OFS_VALUE < 2 ^ 22 := fun k => s.dg_lt k _
  have hq : ∀ k, s.dg k F.TIM_CYC_PERIOD_PERIOD_Q < 2 ^ 22 := fun k => Nat.lt_trans (s.dg_lt k _) (by decide)
  simp only [cfgEntries, List.mem_cons, List.not_mem_nil, or_false]
  rintro e (rfl | rfl | rfl | rfl | rfl | rfl | rfl)
  · exact hq _
  · exact hq _
  all_goals exact hofs _

theorem exec_cycApply (s : State) : exec .cycApply s = settled (if applyRefusal (cycWritten s) s = 0
    then acceptCfg (cycWritten s) (cycShown 1 s) else cycRefuse (applyRefusal (cycWritten s) s) (cycShown 1 s)) := by
  show settled (applyCfg (cycShown 1 s)) = _
  simp only [applyCfg, cycWritten_cycShown, (keeps_cycShown 1 s).applyRefusal timSlots_cmd]

theorem cycState_cycShown (code : Nat) (s : State) : cycState (cycShown code s) = cycState s := (keeps_cycShown code s).dg _ (by decide)

theorem inCycle_cycShown (code : Nat) (s : State) : inCycle (cycShown code s) = inCycle s := by
  simp only [inCycle, cycState_cycShown, (keeps_cycShown code s).cyc]

/-- A legal configuration is in force at once in STOPPED (R56). -/
theorem does_cycApply_stopped {s : State} (hr : applyRefusal (cycWritten s) s = 0) (hs : cycState s = 0) : Does .cycApply s (fun t =>
    ∀ e ∈ cfgEntries (cycWritten s), t.dg e.1 F.TIM_CYC_ACT_PERIOD_VALUE = e.2) := by
  have hst : cycState (cycShown 1 s) = 0 := (cycState_cycShown 1 s).trans hs
  have he : exec .cycApply s = settled (putInForce (cycWritten s) (cycShown 1 s)) := by
    rw [exec_cycApply, if_pos hr, acceptCfg, if_neg (by simp [inCycle, hst])]
    simp only [cycState_putInForce, hst]
  refine does_of_exec he fun e hm => ?_
  rw [State.dg_belRecheck, dg_putInForce _ _ e hm, Nat.mod_eq_of_lt (cycWritten_lt s e hm)]

/-- In a cycle it waits for the end of the cycle (R56). -/
theorem does_cycApply_running {s : State} (hr : applyRefusal (cycWritten s) s = 0) (hc : inCycle s = true) : Does .cycApply s (fun t =>
    t.cyc.pend = some (cycWritten s) ∧ SameStores s t ∧ RegsKept .a s t [R.TIM_CYC_CMD]) := by
  have he : exec .cycApply s = settled { cycShown 1 s with cyc := { (cycShown 1 s).cyc with pend := some (cycWritten s) } } := by
    rw [exec_cycApply, if_pos hr, acceptCfg, if_pos ((inCycle_cycShown 1 s).trans hc)]
  have hl := (keeps_cycShown 1 s).leaves.trans ((leaves_endCyc { (cycShown 1 s).cyc with pend := some (cycWritten s) } _).mono (by simp))
  exact does_of_exec he ⟨rfl, hl.1, hl.2⟩

/-- A refused command of the sequencer leaves its reason and its flag (R55, R64). -/
theorem does_cycRefuse {c : Instr} {s : State} {code n : Nat} (he : exec c s = settled (cycRefuse n (cycShown code s))) (hn : n < 16) :
    Does c s (fun t => t.dg R.TIM_CYC_STATUS F.TIM_CYC_STATUS_REFUSE = n ∧ t.get .a R.TIM_CYC_FLAGS ⟨2, 2⟩ = 1
      ∧ Keeps .a s t ([R.TIM_CYC_CMD, R.TIM_CYC_STATUS] ++ flagSlots bCYC 2)) := by
  have hk := (keeps_cycShown code s).mono (ls := [R.TIM_CYC_CMD, R.TIM_CYC_STATUS] ++ flagSlots bCYC 2) (by simp)
  refine does_of_exec he ⟨?_, ?_, ((hk.dp _ _ _ (by simp) (by decide)).raise _ _ _ (by simp +contextual)).recheck⟩
  · rw [State.dg_belRecheck, cycRefuse, (keeps_raiseCyc 2 _).dg _ (by decide)]
    exact State.dg_dp_same _ _ (by decide) hn
  · rw [State.get_belRecheck]
    exact get_raiseCyc (by decide) _

theorem cfgRefusal_lt (c : CycCfg) : cfgRefusal c < 8 := by
  unfold cfgRefusal
  extract_lets
  repeat' split
  all_goals decide

theorem applyRefusal_lt (c : CycCfg) (s : State) : applyRefusal c s < 16 := by
  have := cfgRefusal_lt c
  unfold applyRefusal
  repeat' split
  all_goals omega

theorem exec_cycCmdReserved {code : BitVec 4} (hc : 3 ≤ code.toNat) (s : State) :
    exec (.cycCmdReserved code) s = settled (cycRefuse 8 (cycShown code.toNat s)) := by
  refine congrArg settled ((if_pos hc).trans ?_)
  unfold cycCmd
  split
  · omega
  · omega
  · omega
  · rfl

/-- The registers in which CAPTURE shows (R64). -/
def captureCycSlots : List Nat := [R.TIM_CYC_CMD, R.TIM_CYC_NUM, R.TIM_CYC_NUM_HI, R.TIM_CYC_CT0, R.TIM_CYC_CT0_HI]

/-- CAPTURE shows the number and CT0 of the cycle, which is 0 before the first one (R51, R64). -/
theorem does_cycCapture (s : State) : Does .cycCapture s (fun t => t.rd .a R.TIM_CYC_NUM = lo72 s.n ∧ t.rd .a R.TIM_CYC_NUM_HI = hi72 s.n
    ∧ (s.cyc.starts ≠ 0 → t.rd .a R.TIM_CYC_CT0 = lo72 (htsOfPs s.ct0) ∧ t.rd .a R.TIM_CYC_CT0_HI = hi72 (htsOfPs s.ct0))
    ∧ Keeps .a s t captureCycSlots) := by
  have he : exec .cycCapture s = settled (captureCyc (cycShown 2 s)) := rfl
  have hk := (keeps_cycShown 2 s).mono (ls := captureCycSlots) (by simp [captureCycSlots])
  have hcyc : (cycShown 2 s).cyc = s.cyc := hk.cyc
  have hn : (cycShown 2 s).n = s.n := congrArg (fun c : CycleSt => c.starts - 1) hcyc
  have hct0 : (cycShown 2 s).ct0 = s.ct0 := congrArg (fun c : CycleSt => c.tick * 250000) hcyc
  unfold captureCyc at he
  simp only [hn, hct0, hcyc] at he
  generalize cycShown 2 s = u at *
  refine does_of_exec he ⟨?_, ?_, fun h0 => ⟨?_, ?_⟩, ?_⟩
  · simp [State.rd_wr, R.TIM_CYC_NUM, R.TIM_CYC_NUM_HI, R.TIM_CYC_CT0, R.TIM_CYC_CT0_HI]
  · simp [State.rd_wr, R.TIM_CYC_NUM_HI, R.TIM_CYC_CT0, R.TIM_CYC_CT0_HI]
  · simp [State.rd_wr, R.TIM_CYC_CT0, R.TIM_CYC_CT0_HI, h0]
  · simp [h0]
  · exact ((((hk.wr _ _ (by decide)).wr _ _ (by decide)).wr _ _ (by decide)).wr _ _ (by decide)).recheck

/-- Settles O26: APPLY by the state of the sequencer and the first rule that the configuration breaks. -/
theorem applyChecksTheConfiguration : Obligations.ApplyChecksTheConfiguration := by
  intro s
  refine ⟨fun hr hs => (does_cycApply_stopped hr hs).imp fun t h => ?_, does_cycApply_running, fun hr => ?_, fun hc => if_pos hc,
    fun code hc => does_cycRefuse (exec_cycCmdReserved hc s) (by decide), does_cycCapture s⟩
  · simpa [cfgEntries] using h
  · exact does_cycRefuse ((exec_cycApply s).trans (congrArg settled (if_neg hr))) (applyRefusal_lt _ _)

end Sys2Proof.Machine

/-! ## O25: the sequencer (R50, R52, R56) -/

namespace Sys2Proof.Machine

theorem State.cyc_of_inner {s t : State} (h : t.inner = s.inner) : t.cyc = s.cyc := (congrArg State.cyc h :)

@[simp] theorem State.cyc_raise (s : State) (q : Plane) (b : Bank) (e j : Nat) : (s.raise q b e j).cyc = s.cyc :=
  State.cyc_of_inner (s.inner_raise q b e j)

@[simp] theorem State.cyc_count (s : State) (q : Plane) (k : Nat) (f : Fld) (n : Nat) : (s.count q k f n).cyc = s.cyc :=
  State.cyc_of_inner (s.inner_count q k f n)

/-! ### What a cycle start leaves to the sequencer -/

/-- The cycles begun, the ticks of this and the next one, and whether one runs. -/
def CycleSt.place (c : CycleSt) : Nat × Nat × Nat × Bool := (c.starts, c.tick, c.nextTick, c.inCycle)

/-- Event points that come into force move no cycle (R61). -/
theorem place_latchEvp (s : State) : (latchEvp s).cyc.place = s.cyc.place := by
  unfold latchEvp
  extract_lets s0
  have h : s0.cyc.place = s.cyc.place := each_keeps (P := fun t : State => t.cyc.place = s.cyc.place) (fun k _ u hu => ?_) rfl
  · exact h
  extract_lets w _ s1
  have h1 : s1.cyc.place = s.cyc.place := hu
  split
  · exact h1
  · exact (congrArg CycleSt.place (State.cyc_raise s1 .a bCYC 94 7)).trans h1

theorem cyc_busEnter (c code : Nat) (s : State) : (busEnter c code s).cyc = s.cyc := by simp [busEnter, raiseBus, State.setBus]

theorem cyc_takeBank (c : Nat) (s : State) : (takeBank c s).cyc = s.cyc := by
  unfold takeBank
  extract_lets x
  split
  · rfl
  · extract_lets s1
    have h1 : s1.cyc = s.cyc := State.cyc_dp _ _ _ _
    split
    · exact (cyc_busEnter c 5 s1).trans h1
    · exact h1

theorem cyc_sendBeacon (c : Nat) (s : State) : (sendBeacon c s).cyc = s.cyc := by
  unfold sendBeacon
  split <;> rfl

theorem cyc_storeLine (c : Nat) : ∀ (n k : Nat) (x : Rat) (fds fus : Nat) (prev : Option (Int × Nat × Nat)) (s : State),
    (storeLine c n k x fds fus prev s).cyc = s.cyc
  | 0, _, _, _, _, _, _ => rfl
  | n + 1, k, x, fds, fus, prev, s => by
    unfold storeLine
    extract_lets e fd fu ck p u s1 s2 r s3 s4
    exact (cyc_storeLine c n _ _ _ _ _ s4).trans (by simp [s4, s3, s2, s1])

theorem cyc_checkIdents (c : Nat) (s : State) : (checkIdents c s).cyc = s.cyc := by
  unfold checkIdents
  extract_lets tab s1 s2
  have h1 : s1.cyc = s.cyc := each_keeps (P := fun t : State => t.cyc = s.cyc) (fun k _ u hu => by simpa [setStn] using hu) rfl
  have h2 : s2.cyc = s.cyc := each_keeps (P := fun t : State => t.cyc = s.cyc) (fun k _ u hu => by
    split
    · exact hu
    · simpa [setStn, raiseBus] using hu) h1
  exact each_keeps (P := fun t : State => t.cyc = s.cyc) (fun _ _ u hu => by simpa [raiseBus] using hu) h2

theorem cyc_finishProbe (c : Nat) (s : State) : (finishProbe c s).cyc = s.cyc := by
  unfold finishProbe
  extract_lets n s1 _ s2
  have h1 : s1.cyc = s.cyc := (State.cyc_dp _ _ _ _).trans (cyc_storeLine c n 0 0 0 0 none s)
  have h2 : s2.cyc = s1.cyc := State.cyc_raise _ _ _ _ _
  exact (cyc_checkIdents c _).trans ((cyc_busEnter c 4 s2).trans (h2.trans h1))

theorem cyc_busStart (c : Nat) (s : State) : (busStart c s).cyc = s.cyc := by
  unfold busStart
  extract_lets s1 s2 x s3 _
  have h1 : s1.cyc = s.cyc := cyc_takeBank c s
  have hb := fun u => cyc_sendBeacon c u
  split
  · have h2 : s2.cyc = s.cyc := (hb s1).trans h1
    split
    · exact (cyc_busEnter c 3 s2).trans h2
    · exact h2
  · split
    · exact (hb _).trans ((cyc_finishProbe c s1).trans h1)
    · exact (hb s1).trans h1
  · exact (hb s1).trans h1

theorem cyc_busCycle (s : State) : (busCycle s).cyc = s.cyc := (cyc_busStart 1 _).trans (cyc_busStart 0 _)

theorem cyc_fedCycle (s : State) : (fedCycle s).cyc = s.cyc := by
  unfold fedCycle
  extract_lets s1
  exact each_keeps (P := fun t : State => t.cyc = s.cyc) (fun _ _ u hu => by simpa using hu) rfl

/-- A cycle begins at the tick found for it, and the next one is a period later (R50). -/
theorem place_beginCycle (s : State) : (beginCycle s).cyc.place
    = (s.cyc.starts + 1, s.cyc.nextTick, s.cyc.nextTick + s.dg R.TIM_CYC_ACT_PERIOD F.TIM_CYC_ACT_PERIOD_VALUE, true) := by
  unfold beginCycle
  extract_lets t p _ _ s1 s2 s3
  have h2 : s2.cyc.place = s1.cyc.place := (place_latchEvp _).trans (congrArg CycleSt.place (State.cyc_dp s1 _ _ _))
  have h3 : s3.cyc = s2.cyc := by
    show (if _ then _ else _ : State).cyc = _
    split
    · exact State.cyc_wr _ _ _ _
    · rfl
  have h4 : (fedCycle (fieldCycle (busCycle s3))).cyc = s3.cyc := (cyc_fedCycle _).trans (cyc_busCycle s3)
  rw [h4, h3, h2]
  rfl

/-! ### Steps of cell time (R43, R256) -/

theorem latchKept_commitFire (u t : Nat) (late : Bool) (s : State) : LatchKept s (commitFire u t late s) := .setCmp (.refl s)

/-- A step of cell time moves what SENSE holds, and nothing of the sequencer (R256). -/
theorem latchKept_senseStep (d : Int) (s : State) : LatchKept s (senseStep d s) := by
  unfold senseStep
  extract_lets x mv s1
  have h1 : LatchKept s s1 := ⟨rfl, rfl, rfl, rfl, fun _ _ _ => rfl⟩
  refine .each h1 fun u v => ?_
  extract_lets c st need k s2 s3 _ s4 s5
  have hst : 0x160000 ≤ R.CMP_STATUS u := by unfold R.CMP_STATUS; omega
  split
  · have h2 : LatchKept v s2 := .raise (.refl v) (by unfold bCMP R.CMP_FLAGS; simp only; omega) (by unfold bCMP R.CMP_FLAG_CNT; simp only; omega)
    have h3 : LatchKept v s3 := by
      show LatchKept v (if _ then _ else _)
      split
      · exact h2.trans (latchKept_commitFire u _ true s2)
      · exact h2
    have h5 : LatchKept v s5 := .dp (.setCmp h3) hst
    split
    · split
      · exact h5
      · exact h5.trans (latchKept_setCmpState u 0 s5)
    · exact latchKept_behindAct u v
  · exact .refl v

/-- A step of cell time taken: it waits no more, TIME_STEPPED is set, and the sequencer is where it was (R43, R64). -/
structure Stepped (s t : State) : Prop where
  step : t.cyc.step = none
  stepped : t.cyc.stepped = true
  pend : t.cyc.pend = s.cyc.pend
  starts : t.cyc.starts = s.cyc.starts
  state : cycState t = cycState s
  flag : t.get .a R.TIM_CYC_FLAGS ⟨3, 3⟩ = 1

theorem stepped_takeStep (d : Int) (s : State) : Stepped s (takeStep d s) := by
  unfold takeStep
  extract_lets _ _ _ s1 s2
  have hcyc : s2.cyc = s1.cyc := (State.cyc_dp _ _ _ _).trans (State.cyc_dp _ _ _ _)
  have hstate : cycState s2 = cycState s1 :=
    (State.dg_dp_ne _ _ _ _ (by decide)).trans (State.dg_dp_field _ _ _ (by decide) (by decide))
  have hk := latchKept_senseStep d s2
  have hf := keeps_raiseCyc 3 (senseStep d s2)
  have h : (raiseCyc 3 (senseStep d s2)).cyc = s1.cyc := hf.cyc.trans (hk.cyc.trans hcyc)
  exact
    { step := congrArg CycleSt.step h
      stepped := congrArg CycleSt.stepped h
      pend := (congrArg CycleSt.pend h :)
      starts := (congrArg CycleSt.starts h :)
      state := (hf.dg _ (by decide)).trans ((hk.dg _ (by decide) (by decide)).trans hstate)
      flag := get_raiseCyc (by decide) _ }

/-! ### CHANGING (R56) -/

/-- The sequencer is in state `n` from a tick on. -/
def seqEnter (n : Nat) (s : State) : State := (s.toTime (s.cyc.nextTick * 250000)).dp R.TIM_CYC_STATUS F.TIM_CYC_STATUS_STATE n

/-- RUNNING has ended: no cycle runs, and no configuration waits. -/
def endRunning (s : State) : State := { s with cyc := { s.cyc with inCycle := false, holdFrom := s.now, pend := none } }

theorem leaves_seqEnter (n : Nat) (s : State) : Leaves .a s (seqEnter n s) [R.TIM_CYC_STATUS] :=
  (leaves_toTime .a _ s _).andKeeps ((Keeps.refl _ _ _).dp _ _ _ (by simp) (by decide))

theorem cycState_seqEnter {n : Nat} (hn : n < 4) (s : State) : cycState (seqEnter n s) = n := State.dg_dp_same _ _ (by decide) hn

theorem cyc_seqEnter (n : Nat) (s : State) : (seqEnter n s).cyc = s.cyc := State.cyc_dp _ _ _ _

theorem now_seqEnter (n : Nat) (s : State) : (seqEnter n s).now = max s.now (s.cyc.nextTick * 250000) := State.now_dp _ _ _ _

/-- The state of the sequencer is not the concern of a step that is due (R43, R44). -/
theorem stepDue_seqEnter (n : Nat) (s : State) : stepDue (seqEnter n s) = stepDue s := by
  have hdef : (seqEnter n s).dg R.TIM_CYC_STATUS F.TIM_CYC_STATUS_STEP_DEFERRED = s.dg R.TIM_CYC_STATUS F.TIM_CYC_STATUS_STEP_DEFERRED :=
    (State.dg_dp_field _ _ _ (by decide) (by decide)).trans (congrArg F.TIM_CYC_STATUS_STEP_DEFERRED.get (s.rd_toTime _ .a _))
  have hclosed := (leaves_seqEnter n s).2.anyClosed (by simp [TimSlots, R.TIM_CYC_STATUS, R.TIM_SRC, R.CBUS_CFG])
  simp only [stepDue, cyc_seqEnter, hclosed, hdef]

/-- What the sequencer finds as it enters CHANGING: the configuration that waits is in force, and the next start is found (R56). -/
def changed (s : State) : State :=
  findStart (match s.cyc.pend with
    | some c => putInForce c (endRunning s)
    | none => endRunning s)

theorem enterChanging_eq (s : State) : enterChanging s = changed (match stepDue (seqEnter 2 s) with
    | some d => takeStep d (seqEnter 2 s)
    | none => seqEnter 2 s) := rfl

theorem enterChanging_of_step {s : State} {d : Int} (hd : stepDue s = some d) (hp : s.cyc.pend = none) :
    enterChanging s = findStart (endRunning (takeStep d (seqEnter 2 s))) := by
  have hp' : (takeStep d (seqEnter 2 s)).cyc.pend = none := by rw [(stepped_takeStep d _).pend, cyc_seqEnter, hp]
  simp only [enterChanging_eq, stepDue_seqEnter, hd, changed, hp']

theorem enterChanging_of_pend {s : State} {c : CycCfg} (hd : stepDue s = none) (hp : s.cyc.pend = some c) :
    enterChanging s = findStart (putInForce c (endRunning (seqEnter 2 s))) := by
  have hp' : (seqEnter 2 s).cyc.pend = some c := by rw [cyc_seqEnter, hp]
  simp only [enterChanging_eq, stepDue_seqEnter, hd, changed, hp']

/-- The end of a command that has found a first start: the next tick alone is another one. -/
structure Found (s t : State) : Prop where
  leaves : Leaves .a s t []
  now : t.now = s.now
  starts : t.cyc.starts = s.cyc.starts
  inCycle : t.cyc.inCycle = s.cyc.inCycle
  pend : t.cyc.pend = s.cyc.pend
  holdFrom : t.cyc.holdFrom = s.cyc.holdFrom
  step : t.cyc.step = s.cyc.step
  stepped : t.cyc.stepped = s.cyc.stepped

theorem found_withNext (n : Nat) (s : State) : Found s (belRecheck { s with cyc := { s.cyc with nextTick := n } }) :=
  ⟨leaves_endCyc _ s, rfl, rfl, rfl, rfl, rfl, rfl, rfl⟩

theorem found_findStart (s : State) : Found s (belRecheck (findStart s)) := found_withNext _ s

theorem nextTick_findStart (s : State) :
    (belRecheck (findStart s)).cyc.nextTick = firstStart (tickFrom (s.cyc.holdFrom + 16000000)) s := rfl

/-- The end of RUNNING: what the sequencer keeps otherwise is as before. -/
structure Ended (s t : State) : Prop where
  leaves : Leaves .a s t []
  now : t.now = s.now
  starts : t.cyc.starts = s.cyc.starts
  inCycle : t.cyc.inCycle = false
  pend : t.cyc.pend = none
  holdFrom : t.cyc.holdFrom = s.now
  step : t.cyc.step = s.cyc.step
  stepped : t.cyc.stepped = s.cyc.stepped

theorem ended_endRunning (s : State) : Ended s (endRunning s) := ⟨.of_planes .a _ rfl rfl rfl, rfl, rfl, rfl, rfl, rfl, rfl, rfl⟩

/-- A step that is due is taken as the sequencer enters CHANGING (R43, R56). -/
theorem does_enterChanging_step {i : Instr} {s : State} {d : Int} (he : exec i s = settled (enterChanging s)) (hd : stepDue s = some d)
    (hp : s.cyc.pend = none) : Does i s (fun t => cycState t = 2 ∧ t.cyc.inCycle = false ∧ t.cyc.step = none ∧ t.cyc.stepped = true
      ∧ t.cyc.starts = s.cyc.starts ∧ t.get .a R.TIM_CYC_FLAGS ⟨3, 3⟩ = 1) := by
  rw [enterChanging_of_step hd hp] at he
  have h := stepped_takeStep d (seqEnter 2 s)
  have hend := ended_endRunning (takeStep d (seqEnter 2 s))
  have hfound := found_findStart (endRunning (takeStep d (seqEnter 2 s)))
  have hl := hend.leaves.trans hfound.leaves
  exact does_of_exec he ⟨(hl.dg _ (by simp)).trans (h.state.trans (cycState_seqEnter (by decide) s)), hfound.inCycle.trans hend.inCycle,
    hfound.step.trans (hend.step.trans h.step), hfound.stepped.trans (hend.stepped.trans h.stepped),
    hfound.starts.trans (hend.starts.trans (h.starts.trans (congrArg CycleSt.starts (cyc_seqEnter 2 s)))),
    (hl.dg _ (by simp)).trans h.flag⟩

/-- The grid of cycle starts is that of the cycle in force (R50). -/
theorem firstStart_of_dg {s t : State} (h : ∀ k ∈ actSlots, t.rd .a k = s.rd .a k) (k : Nat) : firstStart k t = firstStart k s := by
  simp only [firstStart, State.dg, State.get, h R.TIM_CYC_ACT_PERIOD (by decide), h R.TIM_CYC_ACT_PHASE (by decide)]

/-- A command that ends as it has found a first start leaves that start, and nothing else is another one (R50). -/
theorem does_findStart {i : Instr} {s v : State} (he : exec i s = settled (findStart v)) :
    Does i s (fun t => Found v t ∧ t.cyc.nextTick = firstStart (tickFrom (t.cyc.holdFrom + 16000000)) t) := by
  have h := found_findStart v
  refine does_of_exec he ⟨h, ?_⟩
  rw [firstStart_of_dg (fun k _ => h.leaves.rd .a (by simp)), h.holdFrom, nextTick_findStart]

/-- A configuration comes into force after the end of RUNNING, and the first start lies 16 µs later at the earliest (R56). -/
theorem does_findStart_of_ended {i : Instr} {s u v : State} {c : CycCfg} (hend : Ended u v)
    (he : exec i s = settled (findStart (putInForce c v))) : Does i s (fun t => cycState t = cycState u ∧ t.cyc.inCycle = false
      ∧ t.cyc.pend = none ∧ t.cyc.starts = u.cyc.starts ∧ t.now = u.now ∧ t.cyc.holdFrom = t.now
      ∧ (∀ e ∈ cfgEntries c, t.dg e.1 F.TIM_CYC_ACT_PERIOD_VALUE = e.2 % 2 ^ 22)
      ∧ t.cyc.nextTick = firstStart (tickFrom (t.now + 16000000)) t) := by
  have hk := seqKept_putInForce c v
  refine (does_findStart he).imp fun t ⟨hf, hnext⟩ => ?_
  have hdg : ∀ k f, t.dg k f = (putInForce c v).dg k f := fun k f => hf.leaves.dg f (by simp)
  have hnow : t.now = u.now := by rw [hf.now, hk.now, hend.now]
  have hhold : t.cyc.holdFrom = t.now := by rw [hf.holdFrom, hk.cyc, hend.holdFrom, hnow]
  refine ⟨?_, ?_, ?_, ?_, hnow, hhold, fun e hm => (hdg _ _).trans (dg_putInForce c v e hm), hhold ▸ hnext⟩
  · exact (hdg _ _).trans ((cycState_putInForce c v).trans (hend.leaves.dg _ (by simp)))
  · rw [hf.inCycle, hk.cyc, hend.inCycle]
  · rw [hf.pend, hk.cyc, hend.pend]
  · rw [hf.starts, hk.cyc, hend.starts]

/-- A configuration that waits is in force as the sequencer enters CHANGING (R56). -/
theorem does_enterChanging_pend {i : Instr} {s : State} {c : CycCfg} (he : exec i s = settled (enterChanging s)) (hd : stepDue s = none)
    (hp : s.cyc.pend = some c) : Does i s (fun t => cycState t = 2 ∧ t.cyc.inCycle = false ∧ t.cyc.pend = none
      ∧ t.cyc.starts = s.cyc.starts ∧ t.now = max s.now (s.cyc.nextTick * 250000) ∧ t.cyc.holdFrom = t.now
      ∧ (∀ e ∈ cfgEntries c, t.dg e.1 F.TIM_CYC_ACT_PERIOD_VALUE = e.2 % 2 ^ 22)
      ∧ t.cyc.nextTick = firstStart (tickFrom (t.now + 16000000)) t) :=
  (does_findStart_of_ended (ended_endRunning (seqEnter 2 s)) (he.trans (congrArg settled (enterChanging_of_pend hd hp)))).imp
    fun _ ⟨hstate, hcycle, hpend, hstarts, hnow, h⟩ => ⟨hstate.trans (cycState_seqEnter (by decide) s), hcycle, hpend,
      hstarts.trans (congrArg CycleSt.starts (cyc_seqEnter 2 s)), hnow.trans (now_seqEnter 2 s), h⟩

/-! ### The commands of the sequencer -/

/-- The sequencer waits for a start at a tick. -/
def awaitTick (n : Nat) (s : State) : State := { s with cyc := { s.cyc with nextTick := n, inCycle := false } }

/-- That changes nothing but the sequencer. -/
theorem awaitTick_facts (n : Nat) (s : State) : Leaves .a s (awaitTick n s) [] ∧ (awaitTick n s).now = s.now
    ∧ (awaitTick n s).cyc.inCycle = false ∧ (awaitTick n s).cyc.nextTick = n := ⟨.of_planes .a _ rfl rfl rfl, rfl, rfl, rfl⟩

/-- The sequencer waits for the first start of the grid, found from now. -/
def awaitStart (s : State) : State := awaitTick (firstStart (tickFrom s.now) s) s

theorem awaitStart_facts (s : State) : Leaves .a s (awaitStart s) [] ∧ (awaitStart s).now = s.now ∧ (awaitStart s).cyc.inCycle = false
    ∧ (awaitStart s).cyc.nextTick = firstStart (tickFrom s.now) s := awaitTick_facts _ s

/-- CYCLING_START leaves STOPPED for the first start of the grid (R50, R56). -/
theorem does_cyclingStart {s : State} (hs : cycState s = 0) (h6 : bootStage s ≠ 6) (h9 : bootStage s ≠ 9) :
    Does .cyclingStart s (fun t => cycState t = 1 ∧ t.cyc.inCycle = false ∧ t.cyc.nextTick = firstStart (tickFrom s.now) s
      ∧ t.now = s.now ∧ SameStores s t ∧ RegsKept .a s t [R.TIM_CYC_STATUS]) := by
  let u := s.dp R.TIM_CYC_STATUS F.TIM_CYC_STATUS_STATE 1
  have hk : Keeps .a s u [R.TIM_CYC_STATUS] := (Keeps.refl _ _ _).dp _ _ _ (by simp) (by decide)
  have hstate : cycState u = 1 := State.dg_dp_same _ _ (by decide) (by decide)
  obtain ⟨hl, hnow, hin, hnext⟩ := awaitStart_facts u
  have hb : bootStage (awaitStart u) ≠ 6 := by rwa [bootStage, hl.dg _ (by simp), hk.dg _ (by decide)]
  have he : exec .cyclingStart s = settled (awaitStart u) := congrArg settled ((if_neg (by simp [hs, h9])).trans (if_neg hb))
  have hr : Keeps .a (awaitStart u) (belRecheck (awaitStart u)) [] := (Keeps.refl _ _ _).recheck
  have ht := hk.leaves.trans ((hl.andKeeps hr).mono (ls := [R.TIM_CYC_STATUS]) (by simp))
  refine does_of_exec he ⟨(hr.dg _ (by simp)).trans ((hl.dg _ (by simp)).trans hstate), (congrArg CycleSt.inCycle hr.cyc).trans hin, ?_,
    hr.now.trans (hnow.trans hk.now), ht.1, ht.2⟩
  rw [hr.cyc, hnext, firstStart_of_dg (fun k hm => hk.2 .a k (.inl (by revert k; decide))), hk.now]

/-- A cycle start in RUNNING, with no change due, begins the next cycle number at its tick (R50, R52). -/
theorem does_cycleStart {s : State} (hs : cycState s = 1) (hc : changeDue s = false) : Does .cycleStart s (fun t =>
    t.cyc.starts = s.cyc.starts + 1 ∧ t.cyc.tick = s.cyc.nextTick ∧ t.ct0 = s.cyc.nextTick * 250000 ∧ t.n = s.cyc.starts
    ∧ t.cyc.inCycle = true ∧ t.cyc.nextTick = s.cyc.nextTick + s.dg R.TIM_CYC_ACT_PERIOD F.TIM_CYC_ACT_PERIOD_VALUE) := by
  have he : exec .cycleStart s = settled (beginCycle s) := congrArg settled ((if_neg (by simp [hs])).trans (if_neg (by simp [hc])))
  obtain ⟨hstarts, htick, hnext, hin⟩ : _ ∧ _ ∧ _ ∧ _ := by simpa only [CycleSt.place, Prod.mk.injEq] using place_beginCycle s
  exact does_of_exec he ⟨hstarts, htick, congrArg (· * 250000) htick, congrArg (· - 1) hstarts, hin, hnext⟩

theorem exec_cycleStart_of_due {s : State} (hs : cycState s = 1) (hc : changeDue s = true) :
    exec .cycleStart s = settled (enterChanging s) := congrArg settled ((if_neg (by simp [hs])).trans (if_pos hc))

/-- CHANGING ends in RUNNING at the start that was found (R56). -/
theorem does_changingExit {s : State} (hs : cycState s = 2) : Does .changingExit s (fun t => cycState t = 1
    ∧ t.now = max s.now (s.cyc.nextTick * 250000) ∧ SameStores s t ∧ RegsKept .a s t [R.TIM_CYC_STATUS]) := by
  have he : exec .changingExit s = settled (seqEnter 1 s) := congrArg settled (if_pos hs)
  have hl := (leaves_seqEnter 1 s).andKeeps (Keeps.refl .a _ _).recheck
  exact does_of_exec he ⟨(State.dg_belRecheck _ _ _).trans (cycState_seqEnter (by decide) s), now_seqEnter 1 s, hl.1, hl.2⟩

/-- Settles O25, by the state of the sequencer and what is due at the end of its cycle. -/
theorem theSequencerStartsCycles : Obligations.TheSequencerStartsCycles := by
  refine fun s => ⟨does_cyclingStart, fun h => does_nothing _ _ (congrArg settled (if_pos h)), does_cycleStart, fun hs hc hp => ?_,
    fun c hs hin hp hd => ?_, fun h => does_nothing _ _ (congrArg settled (if_pos h)), does_changingExit, fun d hin hd hp => ?_⟩
  · have hdue : (stepDue s).isSome = true := by simpa [changeDue, hp] using (Bool.and_eq_true_iff.1 hc).2
    obtain ⟨d, hd⟩ := Option.isSome_iff_exists.1 hdue
    exact (does_enterChanging_step (exec_cycleStart_of_due hs hc) hd hp).imp
      fun _ ⟨hstate, hcycle, hstep, hstepped, hstarts, _⟩ => ⟨hstate, hcycle, hstep, hstepped, hstarts⟩
  · have hc : changeDue s = true := by simp [changeDue, inCycle, hs, hin, hp]
    refine (does_enterChanging_pend (exec_cycleStart_of_due hs hc) hd hp).imp
      fun t ⟨hstate, hcycle, hpend, hstarts, hnow, hold, hcfg, hnext⟩ => ⟨hstate, hcycle, hpend, hstarts, hnow, hold, ?_, hnext⟩
    exact ⟨hcfg (R.TIM_CYC_ACT_PERIOD, c.period) (by simp [cfgEntries]), hcfg (R.TIM_CYC_ACT_PHASE, c.phase) (by simp [cfgEntries]),
      hcfg (R.TIM_CYC_ACT_COMMIT_OFS, c.commit) (by simp [cfgEntries])⟩
  · have he : exec .timeStep s = settled (enterChanging s) := congrArg settled (if_pos (by simp [hin, hd]))
    exact (does_enterChanging_step he hd hp).imp fun _ ⟨hstate, _, hstep, hstepped, _, hflag⟩ => ⟨hstate, hstep, hstepped, hflag⟩

end Sys2Proof.Machine

/-! ## O53: the start of boot, its failure and READY (R43, R349, R447, R448, R454 to R457, R510) -/

namespace Sys2Proof.Machine

/-! ### What the ROM leaves -/

/-- What power good sets behind the registers, and the banks tried since. -/
def BootSt.atPower (b : BootSt) : Bool × PowerOn × Nat × Nat × Bool × Bool × List Nat :=
  (b.up, b.found, b.since, b.refclkMHz, b.railA, b.railB, b.tried)

/-- The registers that the ROM leaves after it has chosen a bank. -/
def romSlots : List Nat := [R.BOOT_SEL, R.TIM_STATUS, R.RED_STATUS]

/-- Both stores, cell time, what power good has set, and the number of the outputs are as before. -/
structure RomKept (s t : State) : Prop where
  stores : SameStores s t
  now : t.now = s.now
  power : t.boot.atPower = s.boot.atPower
  outs : t.fio.dos.length = s.fio.dos.length
  sel : t.rd .a R.BOOT_SEL = s.rd .a R.BOOT_SEL
  tim : t.rd .a R.TIM_STATUS = s.rd .a R.TIM_STATUS
  mode : t.dg R.RED_STATUS F.RED_STATUS_MODE = s.dg R.RED_STATUS F.RED_STATUS_MODE

namespace RomKept

variable {s t u : State}

theorem refl (s : State) : RomKept s s := ⟨SameStores.refl s, rfl, rfl, rfl, rfl, rfl, rfl⟩

theorem trans (h1 : RomKept s t) (h2 : RomKept t u) : RomKept s u :=
  ⟨h1.stores.trans h2.stores, h2.now.trans h1.now, h2.power.trans h1.power, h2.outs.trans h1.outs, h2.sel.trans h1.sel,
    h2.tim.trans h1.tim, h2.mode.trans h1.mode⟩

/-- A change that leaves the registers and the planes alone, and what power good has set. -/
theorem same (h : RomKept s t) (hl : Leaves .a t u []) (hn : u.now = t.now) (hp : u.boot.atPower = t.boot.atPower)
    (hf : u.fio = t.fio) : RomKept s u :=
  h.trans ⟨hl.1, hn, hp, by rw [hf], hl.rd .a (by simp), hl.rd .a (by simp), hl.dg _ (by simp)⟩

/-- Other registers. -/
theorem keeps {ks : List Nat} (h : RomKept s t) (h2 : Keeps .a t u ks) (hk : ∀ k ∈ romSlots, k ∉ ks) : RomKept s u :=
  h.trans ⟨h2.leaves.1, h2.now, (congrArg (fun x : State => x.boot.atPower) h2.1 :), by rw [h2.fio], h2.leaves.rd .a (hk _ (by decide)),
    h2.leaves.rd .a (hk _ (by decide)), h2.dg _ (hk _ (by decide))⟩

theorem dp (h : RomKept s t) {k : Nat} (f : Fld) (n : Nat) (hd : isDev k = true) (hk : k ∉ romSlots) : RomKept s (t.dp k f n) :=
  h.keeps ((Keeps.refl .a t [k]).dp k f n (by simp) hd) fun _ hj hm => hk (List.mem_singleton.1 hm ▸ hj)

theorem wr (h : RomKept s t) {k : Nat} (v : Word) (hk : k ∉ romSlots) : RomKept s (t.wr .a k v) :=
  h.keeps ((Keeps.refl .a t [k]).wr k v (by simp)) fun _ hj hm => hk (List.mem_singleton.1 hm ▸ hj)

/-- The grant and SIMPLEX, not the mode. -/
theorem dpStatus (h : RomKept s t) {f : Fld} (n : Nat) (hf : f.ok) (hm : F.RED_STATUS_MODE.hi < f.lo ∨ f.hi < F.RED_STATUS_MODE.lo) :
    RomKept s (t.dp R.RED_STATUS f n) := by
  have h2 : Keeps .a t (t.dp R.RED_STATUS f n) [R.RED_STATUS] := (Keeps.refl _ _ _).dp _ _ _ (by simp) (by decide)
  exact h.trans ⟨h2.leaves.1, h2.now, (congrArg (fun x : State => x.boot.atPower) h2.1 :), by rw [h2.fio], h2.leaves.rd .a (by decide),
    h2.leaves.rd .a (by decide), State.dg_dp_field _ _ _ hf hm⟩

theorem setWard (h : RomKept s t) (q : Plane) (w : WardPlane) : RomKept s (t.setWard q w) :=
  h.trans ⟨sameStores_setWard _ _ _, by cases q <;> rfl, by cases q <;> rfl, by cases q <;> rfl, State.rd_setWard _ _ _ _ _,
    State.rd_setWard _ _ _ _ _, congrArg F.RED_STATUS_MODE.get (State.rd_setWard _ _ _ _ _)⟩

/-- What happens within a plane. -/
theorem kept (h : RomKept s t) (h2 : DiesKept t u) (hs : SameStores t u) : RomKept s u :=
  h.trans ⟨hs, h2.now, congrArg BootSt.atPower h2.boot, (congrArg (fun x : State => x.fio.dos.length) h2.dies :),
    h2.rd _ (by decide) (by decide), h2.rd _ (by decide) (by decide), h2.dg _ (by decide) (by decide)⟩

theorem tried (h : RomKept s t) : t.boot.tried = s.boot.tried := (congrArg (fun x => x.2.2.2.2.2.2) h.power :)

end RomKept

/-! ### Planes in reset (R455, R468) -/

theorem romKept_planeReset (q : Plane) (s : State) : RomKept s (planeReset q s) := by
  obtain ⟨t, ht, hw, he⟩ := diesKept_planeReset q s
  rw [he]
  exact .setWard (.kept (.refl s) ht (sameStores_of_words hw)) q _

theorem romKept_setDoms (q : Plane) (n : Nat) (s : State) : RomKept s (setDoms q n s) := by
  refine each_keeps (P := RomKept s) (fun d hd u hu => ?_) (.refl s)
  have hlt := planeDoms_lt hd
  have h1 : RomKept s (u.dp (R.BEL_DOM_STATUS d) F.BEL_DOM_STATUS_STATE n) :=
    hu.dp _ _ (isDev_of_lt (by unfold R.BEL_DOM_STATUS; omega)) (by
      simp only [romSlots, List.mem_cons, List.not_mem_nil, or_false, R.BEL_DOM_STATUS, R.BOOT_SEL, R.TIM_STATUS, R.RED_STATUS]
      omega)
  exact h1.same (.of_planes _ _ rfl rfl rfl) rfl rfl rfl

theorem romKept_setPlaneState (q : Plane) (n : Nat) (s : State) : RomKept s (setPlaneState q n s) := by
  have h1 : RomKept s (s.dp (R.RED_PLANE q.code) F.RED_PLANE_STATE n) :=
    (RomKept.refl s).dp _ _ (by cases q <;> decide) (by cases q <;> decide)
  exact .setWard (h1.kept (.put (.refl _) (by decide)) (State.sw_of_inner (State.inner_put _ _ _ _ _))) q _

/-- Both planes in reset, their domains HELD. -/
def planesHeld (s : State) : State := each [Plane.a, Plane.b] (fun q s => setPlaneState q 0 (setDoms q 5 (planeReset q s))) s

/-- No plane holds the grant, and the device is not simplex. -/
def ungranted (s : State) : State :=
  ((s.dp R.RED_STATUS F.RED_STATUS_GRANTED 0).dp R.RED_STATUS F.RED_STATUS_SIMPLEX 0).dp R.BOOT_STATUS F.BOOT_STATUS_SIMPLEX 0

/-- Nothing of an image is in force. -/
def imageDropped (s : State) : State :=
  { s with
    tab := Tables.initial
    red := { s.red with readyAt := none }
    boot := { s.boot with
      man := none, placed := [], lanesDone := [], storeDone := [], loaded1 := false, loaded2 := false, graphDone := false } }

theorem holdPlanes_eq (s : State) : holdPlanes s = imageDropped (ungranted (planesHeld s)) := rfl

theorem romKept_planesHeld (s : State) : RomKept s (planesHeld s) :=
  each_keeps (P := RomKept s) (fun q _ _ hu =>
    ((hu.trans (romKept_planeReset q _)).trans (romKept_setDoms q 5 _)).trans (romKept_setPlaneState q 0 _)) (.refl s)

theorem romKept_ungranted (s : State) : RomKept s (ungranted s) :=
  ((RomKept.refl s).dpStatus 0 (by decide) (by decide)).dpStatus 0 (by decide) (by decide) |>.dp _ _ (by decide) (by decide)

theorem romKept_imageDropped (s : State) : RomKept s (imageDropped s) :=
  (RomKept.refl s).same (.of_planes _ _ rfl rfl rfl) rfl rfl rfl

theorem romKept_holdPlanes (s : State) : RomKept s (holdPlanes s) := by
  rw [holdPlanes_eq]
  exact ((romKept_planesHeld s).trans (romKept_ungranted _)).trans (romKept_imageDropped _)

theorem leaves_imageDropped (s : State) : Leaves .a s (imageDropped s) [] := .of_planes _ _ rfl rfl rfl

/-- No plane holds the grant while both are held. -/
theorem granted_holdPlanes (s : State) : (holdPlanes s).dg R.RED_STATUS F.RED_STATUS_GRANTED = 0 := by
  rw [holdPlanes_eq, (leaves_imageDropped _).dg _ (by simp)]
  refine (State.dg_dp_ne _ _ _ _ (by decide)).trans ((State.dg_dp_field _ _ _ (by decide) (by decide)).trans ?_)
  exact State.dg_dp_same _ _ (by decide) (by decide)

/-! ### Every DO off (R456) -/

/-- Of the outputs, only their status and the times of their changes differ. -/
structure OutsShown (s t : State) : Prop where
  leaves : Leaves .a s t ((List.range 16).map R.FIO_DO_STATUS)
  now : t.now = s.now
  boot : t.boot = s.boot
  len : t.fio.dos.length = s.fio.dos.length

theorem OutsShown.refl (s : State) : OutsShown s s := ⟨.refl _ _ _, rfl, rfl, rfl⟩

theorem OutsShown.trans {s t u : State} (h1 : OutsShown s t) (h2 : OutsShown t u) : OutsShown s u :=
  ⟨h1.leaves.trans h2.leaves, h2.now.trans h1.now, h2.boot.trans h1.boot, h2.len.trans h1.len⟩

theorem outsShown_withDo (k : Nat) (x : DoSt) (s : State) : OutsShown s (withDo k x s) :=
  ⟨leaves_withDo k x s _, rfl, rfl, List.length_set⟩

/-- What holds an output, where it has one. -/
theorem hold_withDo (k j : Nat) (x : DoSt) (s : State) :
    ((withDo k x s).dout j).hold = if k = j ∧ k < s.fio.dos.length then x.hold else (s.dout j).hold := by
  show (nth (s.fio.dos.set k x) j _).hold = _
  rw [nth_set]
  split <;> rfl

theorem sinceKept_shown (k : Nat) (s : State) : OutsShown s (sinceKept k s) ∧ ∀ j, ((sinceKept k s).dout j).hold = (s.dout j).hold := by
  unfold sinceKept
  split
  · exact ⟨.refl s, fun _ => rfl⟩
  · refine ⟨outsShown_withDo k _ s, fun j => ?_⟩
    rw [hold_withDo]
    split
    · next h => rw [← h.1]
    · rfl

theorem showDo_shown {k : Nat} (hk : k < 16) (s : State) : OutsShown s (showDo k s) ∧ ∀ j, ((showDo k s).dout j).hold = (s.dout j).hold := by
  obtain ⟨hshown, hhold⟩ := sinceKept_shown k s
  rw [showDo_eq]
  generalize sinceKept k s = u at *
  have hd := isDev_doStatus hk
  have hm : R.FIO_DO_STATUS k ∈ (List.range 16).map R.FIO_DO_STATUS := List.mem_map_of_mem (List.mem_range.2 hk)
  have h3 := (((Keeps.refl .a u ((List.range 16).map R.FIO_DO_STATUS)).dp (R.FIO_DO_STATUS k) F.FIO_DO_STATUS_OUT (b2n (doDriven k u)) hm hd).dp
    (R.FIO_DO_STATUS k) F.FIO_DO_STATUS_FAULT (doFault k u) hm hd).dp (R.FIO_DO_STATUS k) F.FIO_DO_STATUS_READBACK
      (b2n (doDriven k u || (u.dout k).ext)) hm hd
  refine ⟨hshown.trans ⟨h3.leaves, h3.now, (congrArg State.boot h3.1 :), by rw [h3.fio]⟩, fun j => ?_⟩
  rw [dout_of_fio h3.fio, hhold]

/-- Output `k` is held off. -/
def outOff (k : Nat) (s : State) : State := setDo k { s.dout k with hold := some false } s

theorem outOff_facts {k : Nat} (hk : k < 16) (s : State) : OutsShown s (outOff k s)
    ∧ ∀ j, ((outOff k s).dout j).hold = if k = j ∧ k < s.fio.dos.length then some false else (s.dout j).hold := by
  obtain ⟨hshown, hhold⟩ := showDo_shown hk (withDo k { s.dout k with hold := some false } s)
  exact ⟨(outsShown_withDo k _ s).trans hshown, fun j => (hhold j).trans (hold_withDo k j _ s)⟩

theorem dosOff_shown (s : State) : OutsShown s (dosOff s) :=
  each_keeps (P := OutsShown s) (fun _ hk u hu => hu.trans (outOff_facts (List.mem_range.1 hk) u).1) (.refl s)

theorem hold_dosOff (s : State) {k : Nat} (hk : k < 16) (hl : k < s.fio.dos.length) : ((dosOff s).dout k).hold = some false := by
  refine each_makes (Q := fun k (t : State) => k < t.fio.dos.length → (t.dout k).hold = some false) s (fun k hm u hu => ?_)
    (fun j hm k _ u hu hk => ?_) k (List.mem_range.2 hk) ((dosOff_shown s).len.symm ▸ hl)
  · obtain ⟨hshown, hhold⟩ := outOff_facts (List.mem_range.1 hm) u
    exact (hhold k).trans (if_pos ⟨rfl, hshown.len ▸ hu⟩)
  · obtain ⟨hshown, hhold⟩ := outOff_facts (List.mem_range.1 hm) u
    refine (hhold k).trans ?_
    split
    · rfl
    · exact hu (hshown.len ▸ hk)

theorem romKept_dosOff (s : State) : RomKept s (dosOff s) := by
  have h := dosOff_shown s
  have hk : ∀ k ∈ romSlots, k ∉ (List.range 16).map R.FIO_DO_STATUS := by decide
  exact ⟨h.leaves.1, h.now, congrArg BootSt.atPower h.boot, h.len, h.leaves.rd .a (hk _ (by decide)), h.leaves.rd .a (hk _ (by decide)),
    h.leaves.dg _ (hk _ (by decide))⟩

end Sys2Proof.Machine

/-! ### FAILED (R455, R456) -/

namespace Sys2Proof.Machine

/-- The sequencer STOPPED, with no configuration that waits. -/
def cycStopped (s : State) : State :=
  { s with cyc := { s.cyc with pend := none } }.dp R.TIM_CYC_STATUS F.TIM_CYC_STATUS_STATE 0

/-- The stage and the code of a failure show. -/
def failShown (code : Nat) (s : State) : State := (setStage 9 s).dp R.BOOT_STATUS F.BOOT_STATUS_FAIL code

theorem bootFailed_eq (code : Nat) (s : State) : bootFailed code s = raiseBoot 5 (cycStopped (failShown code (dosOff (holdPlanes s)))) := rfl

theorem keeps_failShown (code : Nat) (s : State) : Keeps .a s (failShown code s) [R.BOOT_STATUS] :=
  ((Keeps.refl _ _ _).dp _ _ _ (by simp) (by decide)).dp _ _ _ (by simp) (by decide)

theorem leaves_cycStopped (s : State) : Leaves .a s (cycStopped s) [R.TIM_CYC_STATUS] :=
  (Leaves.of_planes (t := { s with cyc := { s.cyc with pend := none } }) _ _ rfl rfl rfl).andKeeps
    ((Keeps.refl _ _ _).dp _ _ _ (by simp) (by decide))

theorem keeps_raiseBoot (j : Nat) (s : State) : Keeps .a s (raiseBoot j s) (flagSlots bBOOT j) :=
  (Keeps.refl _ _ _).raise _ _ _ fun _ h => h

theorem flagged_raiseBoot {j : Nat} (hj : j < 36) (s : State) : (raiseBoot j s).flagged .a bBOOT j :=
  State.flagged_raise_self _ _ _ _ hj (by simp only [bBOOT, R.BOOT_FLAGS, R.BOOT_FLAG_CNT0]; omega)

/-- The sequencer stops with no change of what power good has set. -/
theorem cycStopped_facts (s : State) : (cycStopped s).now = s.now ∧ (cycStopped s).boot = s.boot ∧ (cycStopped s).fio = s.fio
    ∧ (cycStopped s).cyc.pend = none := by simp [cycStopped]

theorem romKept_cycStopped (s : State) : RomKept s (cycStopped s) := by
  have h := leaves_cycStopped s
  obtain ⟨hnow, hboot, hfio, -⟩ := cycStopped_facts s
  exact ⟨h.1, hnow, congrArg BootSt.atPower hboot, by rw [hfio], h.rd .a (by decide), h.rd .a (by decide), h.dg _ (by decide)⟩

theorem romKept_failShown (code : Nat) (s : State) : RomKept s (failShown code s) :=
  (RomKept.refl s).keeps (keeps_failShown code s) (by decide)

theorem romKept_raiseBoot {j : Nat} (hj : ∀ k ∈ romSlots, k ∉ flagSlots bBOOT j) (s : State) : RomKept s (raiseBoot j s) :=
  (RomKept.refl s).keeps (keeps_raiseBoot j s) hj

/-- The device is in FAILED with a code: no grant, the sequencer stopped, every DO off. -/
structure Failed (code : Nat) (s t : State) : Prop where
  rom : RomKept s t
  stage : bootStage t = 9
  fail : t.dg R.BOOT_STATUS F.BOOT_STATUS_FAIL = code
  flag : t.flagged .a bBOOT 5
  chanter : t.chanter = none
  pend : t.cyc.pend = none
  stopped : t.dg R.TIM_CYC_STATUS F.TIM_CYC_STATUS_STATE = 0
  off : ∀ k, k < s.fio.dos.length → k < 16 → (t.dout k).hold = some false

/-- A re-check of the floors changes none of that. -/
theorem Failed.keeps {code : Nat} {s t u : State} (h : Failed code s t) (hk : Keeps .a t u []) : Failed code s u where
  rom := h.rom.keeps hk (by simp)
  stage := (hk.dg _ (by simp)).trans h.stage
  fail := (hk.dg _ (by simp)).trans h.fail
  flag := State.flagged_of_rd (hk.2 .a _ (.inl (by simp))) h.flag
  chanter := (State.chanter_of_rd (hk.2 .a _ (.inl (by simp)))).trans h.chanter
  pend := (congrArg CycleSt.pend hk.cyc).trans h.pend
  stopped := (hk.dg _ (by simp)).trans h.stopped
  off := fun k hl h16 => (congrArg DoSt.hold (dout_of_fio hk.fio k)).trans (h.off k hl h16)

theorem failed_bootFailed {code : Nat} (hc : code < 16) (s : State) : Failed code s (bootFailed code s) := by
  rw [bootFailed_eq]
  have hgrant := granted_holdPlanes s
  have hheld := romKept_holdPlanes s
  generalize holdPlanes s = u at *
  have hoff := dosOff_shown u
  have hrom := hheld.trans (romKept_dosOff u)
  have hhold := fun k (h16 : k < 16) (hl : k < u.fio.dos.length) => hold_dosOff u h16 hl
  generalize dosOff u = v at *
  have hfail := keeps_failShown code v
  have hstage : bootStage (failShown code v) = 9 :=
    (State.dg_dp_field _ _ _ (by decide) (by decide)).trans (State.dg_dp_same _ _ (by decide) (by decide))
  have hcode : (failShown code v).dg R.BOOT_STATUS F.BOOT_STATUS_FAIL = code := State.dg_dp_same _ _ (by decide) hc
  have hromF := hrom.trans (romKept_failShown code v)
  generalize failShown code v = w at *
  have hstop := leaves_cycStopped w
  obtain ⟨-, -, hfio, hpend⟩ := cycStopped_facts w
  have hstate : (cycStopped w).dg R.TIM_CYC_STATUS F.TIM_CYC_STATUS_STATE = 0 := State.dg_dp_same _ _ (by decide) (by decide)
  have hromS := hromF.trans (romKept_cycStopped w)
  generalize cycStopped w = x at *
  have hraise := keeps_raiseBoot 5 x
  have hstatus : ∀ f, (raiseBoot 5 x).dg R.BOOT_STATUS f = w.dg R.BOOT_STATUS f := fun f =>
    (hraise.dg f (by decide)).trans (hstop.dg f (by decide))
  have hred : (raiseBoot 5 x).dg R.RED_STATUS F.RED_STATUS_GRANTED = u.dg R.RED_STATUS F.RED_STATUS_GRANTED :=
    (hraise.dg _ (by decide)).trans ((hstop.dg _ (by decide)).trans ((hfail.dg _ (by decide)).trans (hoff.leaves.dg _ (by decide))))
  exact
    { rom := hromS.trans (romKept_raiseBoot (by decide) x)
      stage := (hstatus _).trans hstage
      fail := (hstatus _).trans hcode
      flag := flagged_raiseBoot (by decide) x
      chanter := if_neg (by rw [hred, hgrant]; decide)
      pend := (congrArg CycleSt.pend hraise.cyc).trans hpend
      stopped := (hraise.dg _ (by decide)).trans hstate
      off := fun k hl h16 => by
        rw [dout_of_fio hraise.fio, dout_of_fio hfio, dout_of_fio hfail.fio]
        exact hhold k h16 (hheld.outs.symm ▸ hl) }

/-! ### The ROM's phase (R447, R454, R455) -/

/-- What boot keeps behind the registers is replaced. -/
def withBoot (x : BootSt) (s : State) : State := { s with boot := x }

theorem leaves_withBoot (x : BootSt) (s : State) : Leaves .a s (withBoot x s) [] := .of_planes _ _ rfl rfl rfl

theorem keeps_withBoot {s t : State} {ks : List Nat} (x : BootSt) (h : Keeps .a s t ks) : Keeps .a (withBoot x s) (withBoot x t) ks :=
  ⟨(congrArg (withBoot x) h.1 :), fun p k hk => by
    rw [(leaves_withBoot x t).rd p (by simp), (leaves_withBoot x s).rd p (by simp), h.2 p k hk]⟩

/-- What boot keeps once bank `b` is among those tried. -/
def BootSt.tries (x : BootSt) (b : Nat) : BootSt := { x with tried := x.tried ++ [b] }

/-- The ROM has started from bank `b`. -/
def romBank (b : Nat) (s : State) : State := (setStage 0 s).dp R.BOOT_STATUS F.BOOT_STATUS_BANK b

/-- The ROM has read the flash of bank `b`, slow or not. -/
def romRead (b n : Nat) (s : State) : State := setStage 1 ((withBoot (s.boot.tries b) (romBank b s)).dp R.BOOT_STATUS F.BOOT_STATUS_SLOW n)

theorem romPhase_eq (b : Nat) (s : State) : romPhase b s = match flashOf b s with
    | .none => none
    | .slow => some (romRead b 1 s)
    | .fast => some (romRead b 0 s) := rfl

/-- The manifest of bank `b` is reached from `s`, with a flash that is slow or not. -/
structure AtManifest (b n : Nat) (s t : State) : Prop where
  keeps : Keeps .a (withBoot (s.boot.tries b) s) t [R.BOOT_STATUS]
  stage : bootStage t = 1
  bank : t.dg R.BOOT_STATUS F.BOOT_STATUS_BANK = b
  slow : t.dg R.BOOT_STATUS F.BOOT_STATUS_SLOW = n
  fallback : t.dg R.BOOT_STATUS F.BOOT_STATUS_FALLBACK = s.dg R.BOOT_STATUS F.BOOT_STATUS_FALLBACK
  first : t.dg R.BOOT_STATUS F.BOOT_STATUS_FAIL_FIRST = s.dg R.BOOT_STATUS F.BOOT_STATUS_FAIL_FIRST

/-- A field other than STAGE and BANK stays as the ROM starts from a bank. -/
theorem dg_romBank {f : Fld} (hb : f.hi < 23 ∨ 23 < f.lo) (hs : f.hi < 32) (b : Nat) (s : State) :
    (romBank b s).dg R.BOOT_STATUS f = s.dg R.BOOT_STATUS f :=
  (State.dg_dp_field _ _ _ (by decide) hb).trans (State.dg_dp_field _ _ _ (by decide) (.inl hs))

theorem atManifest_romRead {b n : Nat} (hb : b < 2) (hn : n < 2) (s : State) : AtManifest b n s (romRead b n s) := by
  have h0 : Keeps .a s (romBank b s) [R.BOOT_STATUS] := ((Keeps.refl _ _ _).dp _ _ _ (by simp) (by decide)).dp _ _ _ (by simp) (by decide)
  have hbank : (romBank b s).dg R.BOOT_STATUS F.BOOT_STATUS_BANK = b := State.dg_dp_same _ _ (by decide) hb
  have hfall := dg_romBank (f := F.BOOT_STATUS_FALLBACK) (by decide) (by decide) b s
  have hfirst := dg_romBank (f := F.BOOT_STATUS_FAIL_FIRST) (by decide) (by decide) b s
  unfold romRead
  generalize romBank b s = u at *
  have h := keeps_withBoot (s.boot.tries b) h0
  have hx : ∀ f, (withBoot (s.boot.tries b) u).dg R.BOOT_STATUS f = u.dg R.BOOT_STATUS f := fun f => (leaves_withBoot _ _).dg f (by simp)
  generalize withBoot (s.boot.tries b) u = v at *
  have hv : ∀ f : Fld, f.hi < 32 → f.hi < 21 ∨ 21 < f.lo →
      (setStage 1 (v.dp R.BOOT_STATUS F.BOOT_STATUS_SLOW n)).dg R.BOOT_STATUS f = u.dg R.BOOT_STATUS f := fun f hs hl =>
    (State.dg_dp_field _ _ _ (by decide) (.inl hs)).trans ((State.dg_dp_field _ _ _ (by decide) hl).trans (hx f))
  exact
    { keeps := (h.dp _ _ _ (by simp) (by decide)).dp _ _ _ (by simp) (by decide)
      stage := State.dg_dp_same _ _ (by decide) (by decide)
      bank := (hv _ (by decide) (by decide)).trans hbank
      slow := (State.dg_dp_field _ _ _ (by decide) (by decide)).trans (State.dg_dp_same _ _ (by decide) hn)
      fallback := (hv _ (by decide) (by decide)).trans hfall
      first := (hv _ (by decide) (by decide)).trans hfirst }

theorem romPhase_none {b : Nat} {s : State} (h : flashOf b s = .none) : romPhase b s = none := by rw [romPhase_eq, h]

/-- A flash that answers takes the ROM to the manifest. -/
theorem romPhase_some {b : Nat} (hb : b < 2) {s : State} (h : flashOf b s ≠ .none) :
    ∃ t, romPhase b s = some t ∧ AtManifest b (if flashOf b s = .slow then 1 else 0) s t := by
  rw [romPhase_eq]
  cases hf : flashOf b s with
  | none => exact absurd hf h
  | slow => exact ⟨_, rfl, atManifest_romRead hb (by decide) s⟩
  | fast => exact ⟨_, rfl, atManifest_romRead hb (by decide) s⟩

/-! ### The other bank (R455) -/

/-- The links are others. -/
def withLinks (l : List LinkSt) (s : State) : State := { s with links := l }

theorem romKept_withLinks (l : List LinkSt) (s : State) : RomKept s (withLinks l s) :=
  (RomKept.refl s).same (.of_planes _ _ rfl rfl rfl) rfl rfl rfl

theorem romKept_clearLanes (s : State) : RomKept s (clearLanes s) := by
  have h : RomKept s (each (List.range 30) (fun i s => s.wr .a (R.BOOT_LANE (i / 2) (i % 2)) 0) s) :=
    each_keeps (P := RomKept s) (fun i hi _ hu => hu.wr _ (by
      simp only [romSlots, List.mem_cons, List.not_mem_nil, or_false, R.BOOT_LANE, R.BOOT_SEL, R.TIM_STATUS, R.RED_STATUS]
      rw [List.mem_range] at hi
      omega)) (.refl s)
  exact h.trans (romKept_withLinks (List.replicate 15 ⟨0, false⟩) _)

theorem romKept_clearMeasures (s : State) : RomKept s (clearMeasures s) :=
  each_keeps (P := RomKept s) (fun i hi _ hu => hu.wr _ (by
    simp only [romSlots, List.mem_cons, List.not_mem_nil, or_false, R.BOOT_MEAS, R.BOOT_SEL, R.TIM_STATUS, R.RED_STATUS]
    rw [List.mem_range] at hi
    omega)) (.refl s)

/-- The failure of the first image shows, and the other bank is tried. -/
def fellBack (code : Nat) (s : State) : State :=
  raiseBoot 1 ((s.dp R.BOOT_STATUS F.BOOT_STATUS_FAIL_FIRST code).dp R.BOOT_STATUS F.BOOT_STATUS_FALLBACK 1)

/-- Boot has fallen back to the other bank. -/
structure FellBack (code : Nat) (s t : State) : Prop where
  rom : RomKept s t
  fallback : t.dg R.BOOT_STATUS F.BOOT_STATUS_FALLBACK = 1
  first : t.dg R.BOOT_STATUS F.BOOT_STATUS_FAIL_FIRST = code
  flag : t.flagged .a bBOOT 1

theorem fellBack_facts {code : Nat} (hc : code < 16) (s : State) : FellBack code s (fellBack code s) where
  rom := (((RomKept.refl s).dp _ _ (by decide) (by decide)).dp _ _ (by decide) (by decide)).trans (romKept_raiseBoot (by decide) _)
  fallback := ((keeps_raiseBoot 1 _).dg _ (by decide)).trans (State.dg_dp_same _ _ (by decide) (by decide))
  first := ((keeps_raiseBoot 1 _).dg _ (by decide)).trans
    ((State.dg_dp_field _ _ _ (by decide) (by decide)).trans (State.dg_dp_same _ _ (by decide) hc))
  flag := flagged_raiseBoot (by decide) _

theorem FellBack.after {code : Nat} {s t u : State} (h : FellBack code t u) (h0 : RomKept s t) : FellBack code s u :=
  ⟨h0.trans h.rom, h.fallback, h.first, h.flag⟩

/-- What a failure of the first image leaves before the other bank is read. -/
def otherBank (code : Nat) (s : State) : State := fellBack code (clearMeasures (clearLanes (holdPlanes s)))

theorem fellBack_otherBank {code : Nat} (hc : code < 16) (s : State) : FellBack code s (otherBank code s) :=
  (fellBack_facts hc _).after (((romKept_holdPlanes s).trans (romKept_clearLanes _)).trans (romKept_clearMeasures _))

theorem match_eq_getD (o : Option State) (d : State) : (match o with
    | some t => t
    | none => d) = o.getD d := by
  cases o <;> rfl

/-- A failure of the image of a bank, where the other one has not been tried. -/
theorem imageFail_eq {s : State} {o : Nat} (code : Nat) (ho : 1 - s.dg R.BOOT_STATUS F.BOOT_STATUS_BANK = o) (ht : o ∉ s.boot.tried) :
    imageFail code s = (romPhase o (otherBank code s)).getD (bootFailed 1 ((otherBank code s).dp R.BOOT_STATUS F.BOOT_STATUS_BANK o)) := by
  subst ho
  exact (if_neg (by simpa using ht)).trans (match_eq_getD _ _)

end Sys2Proof.Machine

/-! ### Power good (R43, R349, R447, R448, R510) -/

namespace Sys2Proof.Machine

theorem boot_fieldDead (s : State) : (fieldDead s).boot = s.boot := by
  unfold fieldDead
  dsimp only [State.setSsm, State.setRep]
  generalize ssmPlane s = q
  cases q <;> rfl

theorem boot_diUnknown (k : Nat) (s : State) : (diUnknown k s).boot = s.boot := by simp [diUnknown, setDi]

theorem boot_fieldReset (s : State) : (fieldReset s).boot = s.boot :=
  each_keeps (P := fun t : State => t.boot = s.boot) (s := fieldDead s) (fun k _ t h => (boot_diUnknown k t).trans h) (boot_fieldDead s)

/-- Cell time is loaded. -/
def timeLoaded (n : Nat) (x : FedSt) (s : State) : State := { s with now := n, fed := x }

theorem timeLoaded_facts (n : Nat) (x : FedSt) (s : State) : Leaves .a s (timeLoaded n x s) [] ∧ (timeLoaded n x s).boot = s.boot :=
  ⟨.of_planes _ _ rfl rfl rfl, rfl⟩

/-- Whether the calendar was valid shows. -/
def calShown (lost : Bool) (s : State) : State :=
  if lost then raiseTim 3 (s.dp R.TIM_STATUS F.TIM_STATUS_CAL_VALID 0) else s.dp R.TIM_STATUS F.TIM_STATUS_CAL_VALID 1

theorem loadCalendar_eq (off : Nat) (s : State) : ∃ n x, loadCalendar off s = calShown s.boot.vbatLost (timeLoaded n x s) := ⟨_, _, rfl⟩

/-- The registers in which the load of cell time shows. -/
def calSlots : List Nat := R.TIM_STATUS :: flagSlots ⟨R.TIM_FLAGS, R.TIM_FLAG_CNT0, some R.TIM_EVMASK, 0⟩ 3

theorem keeps_calShown (lost : Bool) (s : State) : Keeps .a s (calShown lost s) calSlots := by
  have h : ∀ n, Keeps .a s (s.dp R.TIM_STATUS F.TIM_STATUS_CAL_VALID n) calSlots := fun n =>
    (Keeps.refl _ _ _).dp _ _ _ (by simp [calSlots]) (by decide)
  unfold calShown
  split
  · exact (h 0).raise _ _ _ (by simp +contextual [calSlots])
  · exact h 1

theorem valid_calShown (lost : Bool) (s : State) :
    (calShown lost s).dg R.TIM_STATUS F.TIM_STATUS_CAL_VALID = if lost then 0 else 1 := by
  unfold calShown
  split
  · exact (State.get_raise _ _ _ _ _ _ _ _ (by decide)).trans (State.dg_dp_same _ _ (by decide) (by decide))
  · exact State.dg_dp_same _ _ (by decide) (by decide)

/-- FIELD is reset and cell time loaded. -/
structure CalLoaded (s t : State) : Prop where
  stores : SameStores s t
  boot : t.boot = s.boot
  valid : t.dg R.TIM_STATUS F.TIM_STATUS_CAL_VALID = if s.boot.vbatLost then 0 else 1
  dg : ∀ k f, isFio k = false → k ∉ calSlots → t.dg k f = s.dg k f

theorem calLoaded (off : Nat) (s : State) : CalLoaded s (loadCalendar off (fieldReset s)) := by
  obtain ⟨hstores, hrd⟩ := outsideField_fieldReset s
  have hboot := boot_fieldReset s
  generalize fieldReset s = u at *
  obtain ⟨n, x, he⟩ := loadCalendar_eq off u
  rw [he, hboot]
  obtain ⟨hl, hb⟩ := timeLoaded_facts n x u
  generalize timeLoaded n x u = v at *
  have hk := keeps_calShown s.boot.vbatLost v
  exact
    { stores := (hstores.trans hl.1).trans hk.leaves.1
      boot := (congrArg State.boot hk.1 :).trans (hb.trans hboot)
      valid := valid_calShown _ v
      dg := fun k f hf hm => (hk.dg f hm).trans ((hl.dg f (by simp)).trans (congrArg f.get (hrd .a k hf))) }

/-- VBAT_LOST and the mode of RED_CFG show. -/
def modeTaken (s : State) : State :=
  (s.dp R.BOOT_SEL F.BOOT_SEL_VBAT_LOST (b2n s.boot.vbatLost)).dp R.RED_STATUS F.RED_STATUS_MODE (s.dg R.RED_CFG F.RED_CFG_MODE)

/-- Power good is reached (R447, R510). -/
def powerSet (p : PowerOn) (s : State) : State :=
  { s with boot := { s.boot with
    up := true, found := p, refclkMHz := if p.refclkSel then 100 else 25, railA := p.railA, railB := p.railB, vbatLost := false, since := s.now, tried := [] } }

theorem powerSet_facts (p : PowerOn) (s : State) : Leaves .a s (powerSet p s) []
    ∧ (powerSet p s).boot.atPower = (true, p, (powerSet p s).now, if p.refclkSel then 100 else 25, p.railA, p.railB, [])
    ∧ (powerSet p s).boot.tried = [] := ⟨.of_planes _ _ rfl rfl rfl, rfl, rfl⟩

/-- The device as the ROM finds it, once cell time is loaded. -/
def poweredOn (p : PowerOn) (s : State) : State := powerSet p (modeTaken s)

theorem poweredOn_facts (p : PowerOn) (s : State) : Leaves .a (modeTaken s) (poweredOn p s) []
    ∧ (poweredOn p s).boot.atPower = (true, p, (poweredOn p s).now, if p.refclkSel then 100 else 25, p.railA, p.railB, [])
    ∧ (poweredOn p s).boot.tried = [] := powerSet_facts p (modeTaken s)

/-- What power good shows, whatever bank the ROM takes. -/
structure Powered (p : PowerOn) (s t : State) : Prop where
  stores : SameStores s t
  pref : t.dg R.BOOT_SEL F.BOOT_SEL_PREF = s.dg R.BOOT_SEL F.BOOT_SEL_PREF
  lost : t.dg R.BOOT_SEL F.BOOT_SEL_VBAT_LOST = b2n s.boot.vbatLost
  mode : t.dg R.RED_STATUS F.RED_STATUS_MODE = s.dg R.RED_CFG F.RED_CFG_MODE
  cal : t.dg R.TIM_STATUS F.TIM_STATUS_CAL_VALID = if s.boot.vbatLost then 0 else 1
  power : t.boot.atPower = (true, p, t.now, if p.refclkSel then 100 else 25, p.railA, p.railB, t.boot.tried)

theorem Powered.rom {p : PowerOn} {s t u : State} (h : Powered p s t) (hr : RomKept t u) : Powered p s u where
  stores := h.stores.trans hr.stores
  pref := (congrArg F.BOOT_SEL_PREF.get hr.sel).trans h.pref
  lost := (congrArg F.BOOT_SEL_VBAT_LOST.get hr.sel).trans h.lost
  mode := hr.mode.trans h.mode
  cal := (congrArg F.TIM_STATUS_CAL_VALID.get hr.tim).trans h.cal
  power := by
    rw [hr.power, h.power, hr.now, hr.tried]

/-- Other banks tried are no matter to it. -/
theorem Powered.tried {p : PowerOn} {s t : State} (h : Powered p s t) (l : List Nat) : Powered p s (withBoot { t.boot with tried := l } t) where
  stores := h.stores.trans (leaves_withBoot _ t).1
  pref := ((leaves_withBoot _ t).dg _ (by simp)).trans h.pref
  lost := ((leaves_withBoot _ t).dg _ (by simp)).trans h.lost
  mode := ((leaves_withBoot _ t).dg _ (by simp)).trans h.mode
  cal := ((leaves_withBoot _ t).dg _ (by simp)).trans h.cal
  power := by
    have h' := h.power
    simp only [BootSt.atPower, Prod.mk.injEq] at h'
    obtain ⟨hup, hfound, hsince, href, ha, hb, -⟩ := h'
    simp only [BootSt.atPower, withBoot, hup, hfound, hsince, href, ha, hb]

/-- A field of BOOT_SEL other than VBAT_LOST is as before power good. -/
def SelKept (s t : State) : Prop := ∀ f : Fld, f.hi < 32 ∨ 32 < f.lo → t.dg R.BOOT_SEL f = s.dg R.BOOT_SEL f

theorem powered_of_calLoaded (p : PowerOn) {s v : State} (h : CalLoaded s v) : Powered p s (poweredOn p v) ∧ SelKept s (poweredOn p v) := by
  have hk : Keeps .a v (modeTaken v) [R.BOOT_SEL, R.RED_STATUS] :=
    ((Keeps.refl _ _ _).dp _ _ _ (by simp) (by decide)).dp _ _ _ (by simp) (by decide)
  have hsel : SelKept s (modeTaken v) := fun f hf => by
    rw [modeTaken, State.dg_dp_ne _ _ _ _ (by decide), State.dg_dp_field _ _ _ (by decide) hf, h.dg _ _ (by decide) (by decide)]
  have hlost : (modeTaken v).dg R.BOOT_SEL F.BOOT_SEL_VBAT_LOST = b2n s.boot.vbatLost := by
    rw [modeTaken, State.dg_dp_ne _ _ _ _ (by decide), State.dg_dp_same _ _ (by decide) (b2n_lt_two _), h.boot]
  have hmode : (modeTaken v).dg R.RED_STATUS F.RED_STATUS_MODE = s.dg R.RED_CFG F.RED_CFG_MODE := by
    have hlt : v.dg R.RED_CFG F.RED_CFG_MODE < 2 ^ F.RED_STATUS_MODE.width := Nat.lt_of_lt_of_le (State.dg_lt _ _ _) (by decide)
    rw [modeTaken, State.dg_dp_same _ _ (by decide) hlt, h.dg _ _ (by decide) (by decide)]
  obtain ⟨hl, hpower, htried⟩ := poweredOn_facts p v
  have hdg : ∀ k f, (poweredOn p v).dg k f = (modeTaken v).dg k f := fun k f => hl.dg f (by simp)
  exact
    ⟨{  stores := (h.stores.trans hk.leaves.1).trans hl.1
        pref := (hdg _ _).trans (hsel _ (by decide))
        lost := (hdg _ _).trans hlost
        mode := (hdg _ _).trans hmode
        cal := (hdg _ _).trans ((hk.dg _ (by decide)).trans h.valid)
        power := hpower.trans (by rw [htried]) }, fun f hf => (hdg _ _).trans (hsel f hf)⟩

/-! ### The bank that the ROM takes first (R448) -/

/-- The trial bank where one is valid, the preferred one otherwise. -/
def bankOf (s : State) : Nat :=
  if s.dg R.BOOT_SEL F.BOOT_SEL_TRY_VALID = 1 then s.dg R.BOOT_SEL F.BOOT_SEL_TRY_BANK else s.dg R.BOOT_SEL F.BOOT_SEL_PREF

theorem bankOf_lt (s : State) : bankOf s < 2 := by
  unfold bankOf
  split <;> exact State.dg_lt _ _ _

theorem firstBank_fst (s : State) : (firstBank s).1 = bankOf s := by
  unfold firstBank bankOf
  split <;> rfl

/-- A trial is made once. -/
theorem firstBank_snd (s : State) : (firstBank s).2.dg R.BOOT_SEL F.BOOT_SEL_TRY_VALID = 0
    ∧ (∀ f : Fld, f.hi < 34 ∨ 34 < f.lo → (firstBank s).2.dg R.BOOT_SEL f = s.dg R.BOOT_SEL f)
    ∧ Keeps .a s (firstBank s).2 [R.BOOT_SEL] := by
  unfold firstBank
  split
  · exact ⟨State.dg_dp_same _ _ (by decide) (by decide), fun f hf => State.dg_dp_field _ _ _ (by decide) hf,
      (Keeps.refl _ _ _).dp _ _ _ (by simp) (by decide)⟩
  · next h =>
    have hlt : s.dg R.BOOT_SEL F.BOOT_SEL_TRY_VALID < 2 := State.dg_lt _ _ _
    exact ⟨by simp only; omega, fun _ _ => rfl, .refl _ _ _⟩

/-- A bank has been chosen at power good. -/
structure BankChosen (p : PowerOn) (s t : State) : Prop where
  powered : Powered p s t
  tryValid : t.dg R.BOOT_SEL F.BOOT_SEL_TRY_VALID = 0

theorem BankChosen.rom {p : PowerOn} {s t u : State} (h : BankChosen p s t) (hr : RomKept t u) : BankChosen p s u :=
  ⟨h.powered.rom hr, (congrArg F.BOOT_SEL_TRY_VALID.get hr.sel).trans h.tryValid⟩

theorem BankChosen.tried {p : PowerOn} {s t : State} (h : BankChosen p s t) (l : List Nat) :
    BankChosen p s (withBoot { t.boot with tried := l } t) :=
  ⟨h.powered.tried l, ((leaves_withBoot _ t).dg _ (by simp)).trans h.tryValid⟩

theorem BankChosen.found {p : PowerOn} {s t : State} (h : BankChosen p s t) : t.boot.found = p :=
  (congrArg (fun x => x.2.1) h.powered.power :)

/-- The choice of a bank keeps what power good shows. -/
theorem bankChosen_firstBank {p : PowerOn} {s u : State} (h : Powered p s u) : BankChosen p s (firstBank u).2
    ∧ (firstBank u).2.boot = u.boot := by
  obtain ⟨hvalid, hother, hk⟩ := firstBank_snd u
  have hboot : (firstBank u).2.boot = u.boot := (congrArg State.boot hk.1 :)
  refine ⟨⟨?_, hvalid⟩, hboot⟩
  exact
    { stores := h.stores.trans hk.leaves.1
      pref := (hother _ (by decide)).trans h.pref
      lost := (hother _ (by decide)).trans h.lost
      mode := (hk.dg _ (by decide)).trans h.mode
      cal := (hk.dg _ (by decide)).trans h.cal
      power := by rw [hboot, h.power, hk.now] }

theorem bankOf_of_selKept {s t : State} (h : SelKept s t) : bankOf t = bankOf s := by
  simp only [bankOf, h F.BOOT_SEL_TRY_VALID (by decide), h F.BOOT_SEL_TRY_BANK (by decide), h F.BOOT_SEL_PREF (by decide)]

/-- The ROM has chosen its bank, and has tried none. -/
theorem bankChosen_of_calLoaded (p : PowerOn) {s v : State} (h : CalLoaded s v) : BankChosen p s (firstBank (poweredOn p v)).2
    ∧ (firstBank (poweredOn p v)).2.boot.tried = [] ∧ (firstBank (poweredOn p v)).1 = bankOf s := by
  obtain ⟨hpow, hsel⟩ := powered_of_calLoaded p h
  obtain ⟨-, -, htried⟩ := poweredOn_facts p v
  obtain ⟨hchosen, hboot⟩ := bankChosen_firstBank hpow
  exact ⟨hchosen, (congrArg BootSt.tried hboot).trans htried, (firstBank_fst _).trans (bankOf_of_selKept hsel)⟩

end Sys2Proof.Machine

/-! ### The outcomes of power good (R447, R455) -/

namespace Sys2Proof.Machine

/-- What power good comes to from the bank that is tried first. -/
def romOutcome (f : Nat × State) : State := (romPhase f.1 f.2).getD
  (imageFail 1 ({ f.2 with boot := { f.2.boot with tried := [f.1] } }.dp R.BOOT_STATUS F.BOOT_STATUS_BANK f.1))

theorem execPowerGood_of_loaded {p : PowerOn} {s v : State} (hv : loadCalendar p.offPs (fieldReset s) = v) (hu : s.boot.up = false)
    (hh : s.boot.hot = false) : execPowerGood p s = settled (romOutcome (firstBank (poweredOn p v))) := by
  rw [execPowerGood, if_neg (by simp [hu, hh]), hv]
  exact congrArg settled (match_eq_getD _ _)

/-- The first bank has been tried, and its flash has not answered. -/
def firstTried (f : Nat × State) : State :=
  (withBoot { f.2.boot with tried := [f.1] } f.2).dp R.BOOT_STATUS F.BOOT_STATUS_BANK f.1

theorem romOutcome_some {f : Nat × State} {t : State} (h : romPhase f.1 f.2 = some t) : romOutcome f = t := by
  rw [romOutcome, h, Option.getD_some]

theorem romOutcome_none {f : Nat × State} (h : romPhase f.1 f.2 = none) : romOutcome f = imageFail 1 (firstTried f) := by
  rw [romOutcome, h, Option.getD_none]
  rfl

/-- Boot has reached the manifest of bank `b`, after the banks `l` were tried, with a flash that is slow or not. -/
structure Reached (p : PowerOn) (b n : Nat) (l : List Nat) (s t : State) : Prop where
  chosen : BankChosen p s t
  stage : bootStage t = 1
  bank : t.dg R.BOOT_STATUS F.BOOT_STATUS_BANK = b
  tried : t.boot.tried = l
  slow : t.dg R.BOOT_STATUS F.BOOT_STATUS_SLOW = n

theorem AtManifest.reached {p : PowerOn} {b n : Nat} {s t u : State} (h : AtManifest b n t u) (hc : BankChosen p s t) :
    Reached p b n (t.boot.tried ++ [b]) s u where
  chosen := (hc.tried (t.boot.tried ++ [b])).rom ((RomKept.refl _).keeps h.keeps (by decide))
  stage := h.stage
  bank := h.bank
  tried := (congrArg (fun x : State => x.boot.tried) h.keeps.1 :)
  slow := h.slow

theorem Reached.keeps {p : PowerOn} {b n : Nat} {l : List Nat} {s t u : State} (h : Reached p b n l s t) (hk : Keeps .a t u []) :
    Reached p b n l s u where
  chosen := h.chosen.rom ((RomKept.refl t).keeps hk (by simp))
  stage := (hk.dg _ (by simp)).trans h.stage
  bank := (hk.dg _ (by simp)).trans h.bank
  tried := (congrArg (fun x : State => x.boot.tried) hk.1 :).trans h.tried
  slow := (hk.dg _ (by simp)).trans h.slow

/-- The bank that is tried first is one of two, none was tried before it, and power good shows. -/
structure FirstBank (p : PowerOn) (s : State) (f : Nat × State) : Prop where
  chosen : BankChosen p s f.2
  tried : f.2.boot.tried = []
  bank : f.1 = bankOf s

theorem exec_powerGood {p : PowerOn} {s : State} (hu : s.boot.up = false) (hh : s.boot.hot = false) :
    ∃ f, FirstBank p s f ∧ exec (.powerGood p) s = settled (romOutcome f) := by
  obtain ⟨hchosen, htried, hbank⟩ := bankChosen_of_calLoaded p (calLoaded p.offPs s)
  exact ⟨_, ⟨hchosen, htried, hbank⟩, execPowerGood_of_loaded rfl hu hh⟩

theorem FirstBank.lt {p : PowerOn} {s : State} {f : Nat × State} (h : FirstBank p s f) : f.1 < 2 := h.bank ▸ bankOf_lt s

/-- The first bank's flash answers. -/
theorem reached_romOutcome {p : PowerOn} {s : State} {f : Nat × State} (h : FirstBank p s f) (hf : flashOf f.1 f.2 ≠ .none) :
    Reached p f.1 (if flashOf f.1 f.2 = .slow then 1 else 0) [f.1] s (romOutcome f) := by
  obtain ⟨u, hu, hm⟩ := romPhase_some h.lt hf
  have hr := hm.reached h.chosen
  rw [h.tried] at hr
  rw [romOutcome_some hu]
  exact hr

/-- The first bank has been tried. -/
structure FirstTried (p : PowerOn) (b : Nat) (s t : State) : Prop where
  chosen : BankChosen p s t
  tried : t.boot.tried = [b]
  bank : t.dg R.BOOT_STATUS F.BOOT_STATUS_BANK = b

theorem firstTried_facts {p : PowerOn} {s : State} {f : Nat × State} (h : FirstBank p s f) : FirstTried p f.1 s (firstTried f) where
  chosen := (h.chosen.tried [f.1]).rom ((RomKept.refl _).dp _ _ (by decide) (by decide))
  tried := congrArg BootSt.tried (State.boot_dp _ _ _ _)
  bank := State.dg_dp_same _ _ (by decide) h.lt

/-- The ROM goes on from a bank whose flash has not answered. -/
structure NoAnswer (p : PowerOn) (b : Nat) (s t : State) : Prop where
  chosen : BankChosen p s t
  tried : t.boot.tried = [b]
  fell : ∃ u, FellBack 1 u t

theorem noAnswer_otherBank {p : PowerOn} {b : Nat} {s t : State} (h : FirstTried p b s t) : NoAnswer p b s (otherBank 1 t) :=
  have hf := fellBack_otherBank (code := 1) (by decide) t
  ⟨h.chosen.rom hf.rom, hf.rom.tried.trans h.tried, t, hf⟩

/-- The first bank's flash does not answer. -/
theorem exists_noAnswer {p : PowerOn} {s : State} {f : Nat × State} (h : FirstBank p s f) (hf : flashOf f.1 f.2 = .none) :
    ∃ u, NoAnswer p f.1 s u
      ∧ romOutcome f = (romPhase (1 - f.1) u).getD (bootFailed 1 (u.dp R.BOOT_STATUS F.BOOT_STATUS_BANK (1 - f.1))) := by
  have ht := firstTried_facts h
  refine ⟨_, noAnswer_otherBank ht, (romOutcome_none (romPhase_none hf)).trans (imageFail_eq 1 (by rw [ht.bank]) ?_)⟩
  rw [ht.tried, List.mem_singleton]
  omega

/-- Only the other bank's flash answers. -/
theorem reached_other {p : PowerOn} {s : State} {f : Nat × State} (h : FirstBank p s f) (hf : flashOf f.1 f.2 = .none)
    (hg : flashOf (1 - f.1) f.2 ≠ .none) :
    Reached p (1 - f.1) (if flashOf (1 - f.1) f.2 = .slow then 1 else 0) [f.1, 1 - f.1] s (romOutcome f)
      ∧ (romOutcome f).dg R.BOOT_STATUS F.BOOT_STATUS_FALLBACK = 1
      ∧ (romOutcome f).dg R.BOOT_STATUS F.BOOT_STATUS_FAIL_FIRST = 1 ∧ (romOutcome f).flagged .a bBOOT 1 := by
  obtain ⟨u, ⟨hchosen, htried, _, hfell⟩, he⟩ := exists_noAnswer h hf
  have hflash : flashOf (1 - f.1) u = flashOf (1 - f.1) f.2 := by simp only [flashOf, hchosen.found, h.chosen.found]
  obtain ⟨x, hx, hm⟩ := romPhase_some (b := 1 - f.1) (by omega) (hflash ▸ hg)
  have hr := hm.reached hchosen
  rw [htried, hflash] at hr
  rw [he, hx, Option.getD_some]
  refine ⟨hr, hm.fallback.trans hfell.fallback, hm.first.trans hfell.first, ?_⟩
  exact State.flagged_of_rd (hm.keeps.leaves.rd .a (by decide)) (State.flagged_of_rd ((leaves_withBoot _ u).rd .a (by simp)) hfell.flag)

/-- Neither flash answers. -/
theorem failed_romOutcome {p : PowerOn} {s : State} {f : Nat × State} (h : FirstBank p s f) (hf : flashOf f.1 f.2 = .none)
    (hg : flashOf (1 - f.1) f.2 = .none) : BankChosen p s (romOutcome f) ∧ ∃ t, Failed 1 t (romOutcome f) := by
  obtain ⟨u, ⟨hchosen, -, -⟩, he⟩ := exists_noAnswer h hf
  have hflash : flashOf (1 - f.1) u = .none := by rw [← hg]; simp only [flashOf, hchosen.found, h.chosen.found]
  have hfail := failed_bootFailed (code := 1) (by decide) (u.dp R.BOOT_STATUS F.BOOT_STATUS_BANK (1 - f.1))
  rw [he, romPhase_none hflash, Option.getD_none]
  exact ⟨(hchosen.rom ((RomKept.refl u).dp _ _ (by decide) (by decide))).rom hfail.rom, _, hfail⟩

end Sys2Proof.Machine

namespace Sys2Proof.Machine

/-- What the flash of bank `b` answers at power good. -/
def flashAt (p : PowerOn) (b : Nat) : FlashMode := if b = 0 then p.flash0 else p.flash1

theorem BankChosen.flashOf {p : PowerOn} {s t : State} (h : BankChosen p s t) (b : Nat) : flashOf b t = flashAt p b := by
  rw [Machine.flashOf, h.found, flashAt]

/-- Power good, by the flash that answers: that of the first bank, that of the other one only, or neither (R447, R455). -/
structure PowerGood (p : PowerOn) (b : Nat) (s t : State) : Prop where
  chosen : BankChosen p s t
  first : flashAt p b ≠ .none → Reached p b (if flashAt p b = .slow then 1 else 0) [b] s t
  other : flashAt p b = .none → flashAt p (1 - b) ≠ .none →
    Reached p (1 - b) (if flashAt p (1 - b) = .slow then 1 else 0) [b, 1 - b] s t ∧ t.dg R.BOOT_STATUS F.BOOT_STATUS_FALLBACK = 1
      ∧ t.dg R.BOOT_STATUS F.BOOT_STATUS_FAIL_FIRST = 1 ∧ t.flagged .a bBOOT 1
  neither : flashAt p b = .none → flashAt p (1 - b) = .none → ∃ u, Failed 1 u t

theorem powerGood_romOutcome {p : PowerOn} {s : State} {f : Nat × State} (h : FirstBank p s f) :
    PowerGood p f.1 s (romOutcome f) := by
  have hfirst := h.chosen.flashOf f.1
  have hother := h.chosen.flashOf (1 - f.1)
  refine ⟨?_, fun hf => ?_, fun hf hg => ?_, fun hf hg => (failed_romOutcome h (hfirst.trans hf) (hother.trans hg)).2⟩
  · by_cases hf : flashOf f.1 f.2 = .none
    · by_cases hg : flashOf (1 - f.1) f.2 = .none
      · exact (failed_romOutcome h hf hg).1
      · exact (reached_other h hf hg).1.chosen
    · exact (reached_romOutcome h hf).chosen
  · exact hfirst ▸ reached_romOutcome h (hfirst ▸ hf)
  · exact hother ▸ reached_other h (hfirst.trans hf) (hother ▸ hg)

/-- A re-check of the floors changes none of that. -/
theorem PowerGood.keeps {p : PowerOn} {b : Nat} {s t u : State} (h : PowerGood p b s t) (hk : Keeps .a t u []) : PowerGood p b s u where
  chosen := h.chosen.rom ((RomKept.refl t).keeps hk (by simp))
  first := fun hf => (h.first hf).keeps hk
  other := fun hf hg => by
    obtain ⟨hr, hfall, hfirst, hflag⟩ := h.other hf hg
    exact ⟨hr.keeps hk, (hk.dg _ (by simp)).trans hfall, (hk.dg _ (by simp)).trans hfirst,
      State.flagged_of_rd (hk.2 .a _ (.inl (by simp))) hflag⟩
  neither := fun hf hg => (h.neither hf hg).imp fun _ hfail => hfail.keeps hk

theorem does_powerGood {p : PowerOn} {s : State} (hu : s.boot.up = false) (hh : s.boot.hot = false) :
    Does (.powerGood p) s (PowerGood p (bankOf s) s) := by
  obtain ⟨f, h, he⟩ := exec_powerGood hu hh
  have hp := powerGood_romOutcome h
  rw [h.bank] at hp
  exact does_of_exec he (hp.keeps (Keeps.refl _ _ _).recheck)

/-- What power good has set, field by field. -/
theorem Powered.fields {p : PowerOn} {s t : State} (h : Powered p s t) : t.boot.up = true ∧ t.boot.found = p ∧ t.boot.since = t.now
    ∧ t.boot.refclkMHz = (if p.refclkSel then 100 else 25) ∧ t.boot.railA = p.railA ∧ t.boot.railB = p.railB := by
  have hp := h.power
  simp only [BootSt.atPower, Prod.mk.injEq] at hp
  obtain ⟨hup, hfound, hsince, href, ha, hb, -⟩ := hp
  exact ⟨hup, hfound, hsince, href, ha, hb⟩

/-- The other bank is the one that is not the first. -/
theorem flashAt_other {b : Nat} (hb : b < 2) (p : PowerOn) : flashAt p (1 - b) = if b = 0 then p.flash1 else p.flash0 := by
  obtain rfl | rfl : b = 0 ∨ b = 1 := by omega
  all_goals rfl

/-! ### The loss of VBAT (R349, R448) -/

/-- The calendar and what boot keeps are replaced. -/
def withFedBoot (x : FedSt) (y : BootSt) (s : State) : State := { s with fed := x, boot := y }

theorem keeps_withFedBoot {s t : State} {ks : List Nat} (x : FedSt) (y : BootSt) (h : Keeps .a s t ks) :
    Keeps .a (withFedBoot x y s) (withFedBoot x y t) ks := by
  have hl : ∀ u, Leaves .a u (withFedBoot x y u) [] := fun _ => .of_planes _ _ rfl rfl rfl
  exact ⟨(congrArg (withFedBoot x y) h.1 :), fun p k hk => by rw [(hl t).rd p (by simp), (hl s).rd p (by simp), h.2 p k hk]⟩

theorem does_vbatLoss (s : State) : Does .vbatLoss s (fun t => t.rd .a R.BOOT_SEL = 0 ∧ t.fed.cal = 0 ∧ t.fed.calAt = s.now
    ∧ t.boot = { s.boot with vbatLost := true } ∧ Keeps .a { s with boot := t.boot, fed := t.fed } t [R.BOOT_SEL]) := by
  let u := s.wr .a R.BOOT_SEL 0
  let x : FedSt := { u.fed with cal := 0, calAt := u.now }
  let y : BootSt := { u.boot with vbatLost := true }
  have he : exec .vbatLoss s = settled (withFedBoot x y u) := rfl
  have hk : Keeps .a s u [R.BOOT_SEL] := (Keeps.refl _ _ _).wr _ _ (by simp)
  have hx : Keeps .a (withFedBoot x y s) (belRecheck (withFedBoot x y u)) [R.BOOT_SEL] := (keeps_withFedBoot x y hk).recheck
  have hsel : u.rd .a R.BOOT_SEL = 0 := by simp [u]
  have hboot : y = { s.boot with vbatLost := true } := by simp [y, u]
  refine does_of_exec he ⟨?_, rfl, hk.now, hboot, hx⟩
  rw [State.rd_belRecheck]
  exact hsel

/-! ### READY (R457, R469) -/

/-- A latency is put into its domain's register. -/
def tolWritten (l : List Nat) (s : State) : State := each (l.take 12).zipIdx (fun e s => s.dp (R.BEL_DOM_CFG e.2) F.BEL_DOM_CFG_TOL_NS e.1) s

theorem mem_tol {l : List Nat} {e : Nat × Nat} (h : e ∈ (l.take 12).zipIdx) : e.2 < 12 ∧ (l.take 12)[e.2]? = some e.1 := by
  have hi := List.mem_zipIdx_iff_getElem?.1 h
  obtain ⟨hlt, -⟩ := List.getElem?_eq_some_iff.1 hi
  rw [List.length_take] at hlt
  exact ⟨by omega, hi⟩

theorem keeps_tolWritten (l : List Nat) (s : State) : Keeps .a s (tolWritten l s) ((List.range 12).map R.BEL_DOM_CFG) :=
  each_keeps (P := fun t => Keeps .a s t ((List.range 12).map R.BEL_DOM_CFG)) (fun e he t h => by
    obtain ⟨hd, -⟩ := mem_tol he
    exact h.dp _ _ _ (List.mem_map_of_mem (List.mem_range.2 hd)) (isDev_of_lt (by unfold R.BEL_DOM_CFG; omega))) (.refl _ _ _)

/-- The latencies of the device tables stand in the registers of their domains. -/
theorem dg_tolWritten {l : List Nat} {d : Nat} (hd : d < 12) (hl : d < l.length) (s : State) :
    (tolWritten l s).dg (R.BEL_DOM_CFG d) F.BEL_DOM_CFG_TOL_NS = nth l d 0 % 2 ^ F.BEL_DOM_CFG_TOL_NS.width := by
  have hm : (nth l d 0, d) ∈ (l.take 12).zipIdx := by
    rw [List.mem_zipIdx_iff_getElem?]
    simp [nth, hd, hl]
  refine each_makes (Q := fun (e : Nat × Nat) (t : State) => t.dg (R.BEL_DOM_CFG e.2) F.BEL_DOM_CFG_TOL_NS = e.1 % 2 ^ F.BEL_DOM_CFG_TOL_NS.width)
    s (fun e _ s => State.get_put_same _ _ _ _ _ (by decide)) (fun a ha e he s h => ?_) _ hm
  by_cases hk : e.2 = a.2
  · obtain ⟨-, hea⟩ := mem_tol he
    obtain ⟨-, haa⟩ := mem_tol ha
    obtain rfl : e = a := Prod.ext (Option.some.inj (hea.symm.trans (hk ▸ haa))) hk
    exact State.get_put_same _ _ _ _ _ (by decide)
  · exact (State.dg_dp_ne _ _ _ _ (by unfold R.BEL_DOM_CFG; omega)).trans h

/-- READY shows, with the time that boot took. -/
def readyShown (us : Word) (s : State) : State := (setStage 8 s).wr .a R.BOOT_T_READY us

theorem keeps_readyShown (us : Word) (s : State) : Keeps .a s (readyShown us s) [R.BOOT_STATUS, R.BOOT_T_READY] :=
  ((Keeps.refl _ _ _).dp _ _ _ (by simp) (by decide)).wr _ _ (by simp)

/-- The registers in which READY shows. -/
def readySlots : List Nat := [R.BOOT_STATUS, R.BOOT_T_READY] ++ (List.range 12).map R.BEL_DOM_CFG ++ flagSlots bBOOT 0

theorem rd_readyShown (us : Word) (s : State) : (readyShown us s).rd .a R.BOOT_T_READY = us := by simp [readyShown]

theorem stage_readyShown (us : Word) (s : State) : bootStage (readyShown us s) = 8 := by
  have h : Keeps .a (setStage 8 s) (readyShown us s) [R.BOOT_T_READY] := (Keeps.refl _ _ _).wr _ _ (by simp)
  exact (h.dg _ (by decide)).trans (State.dg_dp_same _ _ (by decide) (by decide))

/-- What READY leaves, from a state in which its time is kept already. -/
structure Ready (us : Word) (l : List Nat) (s t : State) : Prop where
  stage : bootStage t = 8
  time : t.rd .a R.BOOT_T_READY = us
  flag : t.flagged .a bBOOT 0
  tol : ∀ d, d < 12 → d < l.length → t.dg (R.BEL_DOM_CFG d) F.BEL_DOM_CFG_TOL_NS = nth l d 0 % 2 ^ F.BEL_DOM_CFG_TOL_NS.width
  keeps : Keeps .a s t readySlots

theorem ready_facts (us : Word) (l : List Nat) (s : State) : Ready us l s (belRecheck (raiseBoot 0 (tolWritten l (readyShown us s)))) := by
  have h1 := (keeps_readyShown us s).mono (ls := readySlots) (by simp +contextual [readySlots])
  have hstage := stage_readyShown us s
  have htime := rd_readyShown us s
  generalize readyShown us s = u at *
  have h2 := keeps_tolWritten l u
  have htol := fun d (hd : d < 12) (hl : d < l.length) => dg_tolWritten hd hl u
  generalize tolWritten l u = v at *
  have h3 := (keeps_raiseBoot 0 v).recheck
  exact
    { stage := (h3.dg _ (by decide)).trans ((h2.dg _ (by decide)).trans hstage)
      time := (h3.leaves.rd .a (by decide)).trans ((h2.leaves.rd .a (by decide)).trans htime)
      flag := (State.flagged_belRecheck _ _ _ _).2 (flagged_raiseBoot (by decide) v)
      tol := fun d hd hl => (h3.dg _ (by
        simp only [flagSlots, bBOOT, List.mem_cons, List.not_mem_nil, or_false, R.BEL_DOM_CFG, R.BOOT_FLAGS, R.BOOT_FLAG_CNT0, R.EVM_FLAGS,
          R.EVM_FLAG_CNT]
        omega)).trans (htol d hd hl)
      keeps := (h1.trans (h2.mono (by simp +contextual [readySlots]))).trans (h3.mono (by simp +contextual [readySlots])) }

/-- Boot is READY (R457, R469). -/
theorem does_bootReady {s : State} (h7 : bootStage s = 7) (hr : readyNow s = true) :
    Does .bootReady s (Ready (bootUs s) s.tab.tol { s with boot := { s.boot with readyAt := s.now } }) :=
  have he : exec .bootReady s = settled (raiseBoot 0 (tolWritten s.tab.tol (readyShown (bootUs s) { s with boot := { s.boot with readyAt := s.now } }))) :=
    congrArg settled (if_pos (by simp [h7, hr]))
  does_of_exec he (ready_facts _ _ _)

/-! ### The end of the time to boot (R455, R456) -/

theorem does_bootTimeout {s : State} (hu : s.boot.up = true) (h8 : bootStage s < 8) :
    Does .bootTimeout s (Failed 0xE (s.toTime (s.boot.since + 60 * 10 ^ 12))) :=
  have he : exec .bootTimeout s = settled (bootFailed 0xE (s.toTime (s.boot.since + 60 * 10 ^ 12))) :=
    congrArg settled (if_pos (by simp [hu, h8]))
  does_of_exec he ((failed_bootFailed (by decide) _).keeps (Keeps.refl _ _ _).recheck)

/-- A failure that came at a time leaves that time, and both stores. -/
theorem Failed.at_toTime {code n : Nat} {s t : State} (h : Failed code (s.toTime n) t) : t.now = max s.now n ∧ SameStores s t
    ∧ ∀ k, k < s.fio.dos.length → k < 16 → (t.dout k).hold = some false :=
  ⟨h.rom.now, (leaves_toTime .a n s []).1.trans h.rom.stores, h.off⟩

theorem exec_powerGood_idle {p : PowerOn} {s : State} (h : s.boot.up = true ∨ s.boot.hot = true) : exec (.powerGood p) s = settled s :=
  congrArg settled (if_pos (by simpa using h))

theorem exec_bootReady_idle {s : State} (h : bootStage s ≠ 7 ∨ readyNow s = false) : exec .bootReady s = settled s :=
  congrArg settled (if_neg (by simpa [← imp_iff_not_or] using h))

theorem exec_bootTimeout_idle {s : State} (h : s.boot.up = false ∨ 8 ≤ bootStage s) : exec .bootTimeout s = settled s :=
  congrArg settled (if_neg (by
    rcases h with h | h
    · simp [h]
    · simp [Nat.not_lt.2 h]))

/-- Settles O53, by the flash that answers at power good, and by the end that boot comes to. -/
theorem bootStartsAndEnds : Obligations.BootStartsAndEnds := by
  refine ⟨fun s => ⟨fun p hu hh => ?_, fun p h => does_nothing _ _ (exec_powerGood_idle h), does_vbatLoss s⟩, fun s => ⟨fun h7 hr => ?_,
    fun h => does_nothing _ _ (exec_bootReady_idle h), fun hu h8 => ?_, fun h => does_nothing _ _ (exec_bootTimeout_idle h)⟩⟩
  · intro b f g
    have hb : b = bankOf s := rfl
    have hf : f = flashAt p (bankOf s) := rfl
    have hg : g = flashAt p (1 - bankOf s) := (flashAt_other (bankOf_lt s) p).symm
    clear_value b f g
    subst hb hf hg
    refine (does_powerGood hu hh).imp fun t ⟨hchosen, hfirst, hother, hneither⟩ => ?_
    obtain ⟨hpow, htry⟩ := hchosen
    obtain ⟨hup, hfound, hsince, href, ha, hb⟩ := hpow.fields
    refine ⟨htry, hpow.pref, hpow.lost, hpow.mode, hpow.cal, hup, hfound, hsince, href, ha, hb, hpow.stores, fun hf => ?_, fun hf hg => ?_,
      fun hf hg => ?_⟩
    · obtain ⟨-, hstage, hbank, htried, hslow⟩ := hfirst hf
      exact ⟨hstage, hbank, htried, hslow⟩
    · obtain ⟨⟨-, hstage, hbank, htried, hslow⟩, hfall, hcode, hflag⟩ := hother hf hg
      exact ⟨hstage, hbank, htried, hslow, hfall, hcode, hflag⟩
    · obtain ⟨u, hfail⟩ := hneither hf hg
      exact ⟨hfail.stage, hfail.fail, hfail.flag⟩
  · exact (does_bootReady h7 hr).imp fun t ⟨hstage, htime, hflag, htol, hkeeps⟩ =>
      ⟨hstage, beq_iff_eq.2 hstage, htime, hflag, htol, hkeeps⟩
  · refine (does_bootTimeout hu h8).imp fun t h => ?_
    obtain ⟨hnow, hstores, hoff⟩ := h.at_toTime
    exact ⟨h.stage, h.fail, h.flag, h.chanter, h.pend, hoff, h.stopped, hnow, hstores⟩

end Sys2Proof.Machine

/-! ## What the planner's operations change (R69 to R138) -/

namespace Sys2Proof.Machine

/-! ### The planner of a plane and its arms -/

theorem State.pln_inner (s : State) (q : Plane) : s.inner.pln q = s.pln q := by cases q <;> rfl

theorem State.inner_setPln (s : State) (q : Plane) (p : PlnSt) : (s.setPln q p).inner = s.inner.setPln q p := by
  cases q <;> rfl

/-- The planner lies behind the registers. -/
theorem State.pln_of_inner {s t : State} (h : t.inner = s.inner) (q : Plane) : t.pln q = s.pln q := by
  rw [← State.pln_inner, h, State.pln_inner]

@[simp] theorem State.pln_setPln (s : State) (q : Plane) (p : PlnSt) : (s.setPln q p).pln q = p := by cases q <;> rfl
@[simp] theorem State.setPln_setPln (s : State) (q : Plane) (p p' : PlnSt) : (s.setPln q p).setPln q p' = s.setPln q p' := by
  cases q <;> rfl
theorem State.setPln_self (s : State) (q : Plane) : s.setPln q (s.pln q) = s := by cases q <;> rfl
@[simp] theorem State.rd_setPln (s : State) (q r : Plane) (p : PlnSt) (k : Nat) : (s.setPln q p).rd r k = s.rd r k :=
  s.rd_setPlane q r _ k rfl rfl
@[simp] theorem State.get_setPln (s : State) (q r : Plane) (p : PlnSt) (k : Nat) (f : Fld) :
    (s.setPln q p).get r k f = s.get r k f := congrArg f.get (s.rd_setPln q r p k)

@[simp] theorem State.pln_wr (s : State) (q r : Plane) (k : Nat) (v : Word) : (s.wr q k v).pln r = s.pln r :=
  State.pln_of_inner (s.inner_wr q k v) r
@[simp] theorem State.pln_put (s : State) (q r : Plane) (k : Nat) (f : Fld) (n : Nat) : (s.put q k f n).pln r = s.pln r :=
  s.pln_wr q r k _
@[simp] theorem State.pln_raise (s : State) (q r : Plane) (b : Bank) (e j : Nat) : (s.raise q b e j).pln r = s.pln r :=
  State.pln_of_inner (s.inner_raise q b e j) r
@[simp] theorem State.pln_toTime (s : State) (r : Plane) (t : Nat) : (s.toTime t).pln r = s.pln r := by cases r <;> rfl
@[simp] theorem State.pln_belRecheck (s : State) (r : Plane) : (belRecheck s).pln r = s.pln r := by cases r <;> rfl
@[simp] theorem pln_raiseQ (q r : Plane) (a j : Nat) (s : State) : (raiseQ q a j s).pln r = s.pln r := s.pln_raise _ _ _ _ _
@[simp] theorem pln_raiseA (q r : Plane) (a j : Nat) (s : State) : (raiseA q a j s).pln r = s.pln r := s.pln_raise _ _ _ _ _
@[simp] theorem pln_setQState (q r : Plane) (a n : Nat) (s : State) : (setQState q a n s).pln r = s.pln r := s.pln_put _ _ _ _ _
@[simp] theorem pln_setWaitCode (q r : Plane) (a n : Nat) (s : State) : (setWaitCode q a n s).pln r = s.pln r := s.pln_put _ _ _ _ _

/-- An arm reads from the planner of its plane. -/
theorem State.arm_of_pln {s t : State} {q : Plane} (h : t.pln q = s.pln q) (a : Nat) : t.arm q a = s.arm q a := by
  unfold State.arm
  rw [h]

@[simp] theorem State.arm_wr (s : State) (q r : Plane) (k : Nat) (v : Word) (a : Nat) : (s.wr q k v).arm r a = s.arm r a :=
  State.arm_of_pln (s.pln_wr q r k v) a
@[simp] theorem State.arm_put (s : State) (q r : Plane) (k : Nat) (f : Fld) (n a : Nat) : (s.put q k f n).arm r a = s.arm r a :=
  s.arm_wr q r k _ a
@[simp] theorem State.arm_belRecheck (s : State) (r : Plane) (a : Nat) : (belRecheck s).arm r a = s.arm r a :=
  State.arm_of_pln (s.pln_belRecheck r) a
@[simp] theorem State.arm_toTime (s : State) (r : Plane) (t a : Nat) : (s.toTime t).arm r a = s.arm r a :=
  State.arm_of_pln (s.pln_toTime r t) a
@[simp] theorem arm_raiseQ (q r : Plane) (a j b : Nat) (s : State) : (raiseQ q a j s).arm r b = s.arm r b :=
  State.arm_of_pln (pln_raiseQ q r a j s) b
@[simp] theorem arm_raiseA (q r : Plane) (a j b : Nat) (s : State) : (raiseA q a j s).arm r b = s.arm r b :=
  State.arm_of_pln (pln_raiseA q r a j s) b
@[simp] theorem arm_setQState (q r : Plane) (a n b : Nat) (s : State) : (setQState q a n s).arm r b = s.arm r b :=
  State.arm_of_pln (pln_setQState q r a n s) b
@[simp] theorem arm_setWaitCode (q r : Plane) (a n b : Nat) (s : State) : (setWaitCode q a n s).arm r b = s.arm r b :=
  State.arm_of_pln (pln_setWaitCode q r a n s) b

@[simp] theorem State.pln_setArm (s : State) (q : Plane) (a : Nat) (x : Arm) :
    (s.setArm q a x).pln q = { s.pln q with arms := (s.pln q).arms.set a x } := s.pln_setPln q _
@[simp] theorem State.rd_setArm (s : State) (q r : Plane) (a : Nat) (x : Arm) (k : Nat) : (s.setArm q a x).rd r k = s.rd r k :=
  s.rd_setPln q r _ k
@[simp] theorem State.get_setArm (s : State) (q r : Plane) (a : Nat) (x : Arm) (k : Nat) (f : Fld) :
    (s.setArm q a x).get r k f = s.get r k f := s.get_setPln q r _ k f

theorem State.arm_setArm_same (s : State) (q : Plane) {a : Nat} (x : Arm) (h : a < (s.pln q).arms.length) :
    (s.setArm q a x).arm q a = x := by
  simp [State.arm, nth_set, h]

theorem State.arm_setArm_ne (s : State) (q : Plane) {a b : Nat} (x : Arm) (h : b ≠ a) : (s.setArm q a x).arm q b = s.arm q b := by
  simp [State.arm, nth_set, h.symm]

/-- Arms that are changed one by one, each by itself: the listed ones are changed, the others are as before. -/
theorem State.arm_eachArm (q : Plane) (f : Nat → Arm → Arm) : ∀ {l : List Nat}, l.Nodup → ∀ (s : State),
    (∀ b ∈ l, b < (s.pln q).arms.length) → ∀ c, (each l (fun b s => s.setArm q b (f b (s.arm q b))) s).arm q c
      = if c ∈ l then f c (s.arm q c) else s.arm q c
  | [], _, _, _, _ => rfl
  | b :: l, hn, s, hl, c => by
    obtain ⟨hb, hn⟩ := List.nodup_cons.1 hn
    rw [each_cons, State.arm_eachArm q f hn _ (fun x hx => by simpa using hl x (List.mem_cons_of_mem _ hx))]
    by_cases hc : c = b
    · subst hc
      simp [hb, s.arm_setArm_same q _ (hl c (by simp))]
    · simp [hc, s.arm_setArm_ne q _ hc]

/-- The members of a mask are arms. -/
theorem mem_bitsOf {k n b : Nat} : b ∈ bitsOf k n ↔ b < k ∧ bitN n b = true := by simp [bitsOf]

theorem nodup_bitsOf (k n : Nat) : (bitsOf k n).Nodup := List.nodup_range.filter _

theorem mem_mates {ar : Arm} {a b : Nat} : b ∈ mates ar a ↔ (b < 16 ∧ bitN ar.group b = true) ∧ b ≠ a := by
  simp [mates, mem_bitsOf]

theorem nodup_cons_mates (ar : Arm) (a : Nat) : (a :: mates ar a).Nodup :=
  List.nodup_cons.2 ⟨fun h => (mem_mates.1 h).2 rfl, (nodup_bitsOf _ _).filter _⟩

/-! ### Frames of the planner -/

/-- Only the planner of plane `q` and the registers `ks` differ, and it has as many arms; events may have been raised. -/
structure PlnOnly (q : Plane) (s t : State) (ks : List Nat) : Prop where
  inner : t.inner = s.inner.setPln q (t.pln q)
  regs : RegsKept q s t ks
  arms : (t.pln q).arms.length = (s.pln q).arms.length

section
variable {q : Plane} {s t u : State} {ks ls : List Nat}

theorem Keeps.plnOnly (h : Keeps q s t ks) : PlnOnly q s t ks := by
  have hp := State.pln_of_inner h.1 q
  refine ⟨?_, h.2, by rw [hp]⟩
  rw [h.1, hp, ← s.pln_inner, State.setPln_self]

theorem PlnOnly.refl (q : Plane) (s : State) (ks : List Nat) : PlnOnly q s s ks := (Keeps.refl q s ks).plnOnly

theorem PlnOnly.trans (h1 : PlnOnly q s t ks) (h2 : PlnOnly q t u ks) : PlnOnly q s u ks :=
  ⟨by rw [h2.inner, h1.inner, State.setPln_setPln], h1.regs.trans h2.regs, h2.arms.trans h1.arms⟩

theorem PlnOnly.mono (h : PlnOnly q s t ks) (hs : ∀ k ∈ ks, k ∈ ls) : PlnOnly q s t ls := ⟨h.inner, h.regs.mono hs, h.arms⟩

/-- Two changes in a row change what either does. -/
theorem PlnOnly.append (h1 : PlnOnly q s t ks) (h2 : PlnOnly q t u ls) : PlnOnly q s u (ks ++ ls) :=
  (h1.mono fun _ h => List.mem_append_left _ h).trans (h2.mono fun _ h => List.mem_append_right _ h)

theorem PlnOnly.andKeeps (h1 : PlnOnly q s t ks) (h2 : Keeps q t u ks) : PlnOnly q s u ks := h1.trans h2.plnOnly

theorem PlnOnly.setPln (h : PlnOnly q s t ks) (p : PlnSt) (hp : p.arms.length = (t.pln q).arms.length) :
    PlnOnly q s (t.setPln q p) ks :=
  h.trans ⟨by rw [State.inner_setPln, State.pln_setPln], fun r k _ => t.rd_setPln q r p k, by rw [State.pln_setPln, hp]⟩

theorem PlnOnly.setArm (h : PlnOnly q s t ks) (a : Nat) (x : Arm) : PlnOnly q s (t.setArm q a x) ks :=
  h.setPln _ (List.length_set ..)

theorem PlnOnly.wr (h : PlnOnly q s t ks) (k : Nat) (v : Word) (hk : k ∈ ks) : PlnOnly q s (t.wr q k v) ks :=
  h.andKeeps ((Keeps.refl q t ks).wr k v hk)

theorem PlnOnly.put (h : PlnOnly q s t ks) (k : Nat) (f : Fld) (n : Nat) (hk : k ∈ ks) : PlnOnly q s (t.put q k f n) ks :=
  h.wr k _ hk

theorem PlnOnly.recheck (h : PlnOnly q s t ks) : PlnOnly q s (belRecheck t) ks := h.andKeeps (Keeps.refl q t ks).recheck

theorem PlnOnly.each {α : Type} {f : α → State → State} {l : List α} (hf : ∀ a ∈ l, ∀ s, PlnOnly q s (f a s) ks) (s : State) :
    PlnOnly q s (Machine.each l f s) ks :=
  each_keeps (P := fun t => PlnOnly q s t ks) (fun a ha t h => h.trans (hf a ha t)) (.refl q s ks)

theorem PlnOnly.rd (h : PlnOnly q s t ks) (r : Plane) {k : Nat} (hk : k ∉ ks) : t.rd r k = s.rd r k := h.regs r k (.inl hk)

theorem PlnOnly.get (h : PlnOnly q s t ks) (r : Plane) {k : Nat} (hk : k ∉ ks) (f : Fld) : t.get r k f = s.get r k f :=
  congrArg f.get (h.rd r hk)

theorem PlnOnly.flagged (h : PlnOnly q s t ks) {b : Bank} {j : Nat} (hk : b.flags ∉ ks) (hf : s.flagged q b j) : t.flagged q b j :=
  State.flagged_of_rd (h.rd q hk) hf

theorem PlnOnly.stores (h : PlnOnly q s t ks) : SameStores s t := by
  have hw : ∀ r, (t.plane r).store = (s.plane r).store := by
    intro r
    have := congrArg (fun x => (x.plane r).store) h.inner
    cases q <;> cases r <;> exact this
  intro r a
  rw [State.sw, hw r]; rfl

theorem PlnOnly.now (h : PlnOnly q s t ks) : t.now = s.now := by
  have := congrArg State.now h.inner
  cases q <;> exact this

theorem PlnOnly.n (h : PlnOnly q s t ks) : t.n = s.n := by
  have := congrArg State.n h.inner
  cases q <;> exact this

theorem PlnOnly.tab (h : PlnOnly q s t ks) : t.tab = s.tab := by
  have := congrArg State.tab h.inner
  cases q <;> exact this

theorem PlnOnly.cbus (h : PlnOnly q s t ks) : t.cbus = s.cbus := by
  have := congrArg State.cbus h.inner
  cases q <;> exact this

theorem PlnOnly.fio (h : PlnOnly q s t ks) : t.fio = s.fio := by
  have := congrArg State.fio h.inner
  cases q <;> exact this

theorem PlnOnly.act (h : PlnOnly q s t ks) (r : Plane) (k : Nat) : t.act r k = s.act r k := by
  have := congrArg (fun x => x.act r k) h.inner
  cases q <;> cases r <;> exact this

theorem PlnOnly.est (h : PlnOnly q s t ks) (r : Plane) : (t.rep r).est = (s.rep r).est := by
  have := congrArg (fun x => (x.rep r).est) h.inner
  cases q <;> cases r <;> exact this

end

end Sys2Proof.Machine

namespace Sys2Proof.Machine

/-! ### Registers of the Stitch queues -/

/-- A register of a Stitch queue that no flag changes. -/
def QueueSlot (k : Nat) : Prop := 0x681000 ≤ k ∧ (k % 32 < 10 ∨ 14 < k % 32)

theorem queueSlot_fetch (a : Nat) : QueueSlot (R.PLN_Q_FETCH a) := by simp only [QueueSlot, R.PLN_Q_FETCH]; omega
theorem queueSlot_reach (a : Nat) : QueueSlot (R.PLN_Q_REACH a) := by simp only [QueueSlot, R.PLN_Q_REACH]; omega
theorem queueSlot_status (a : Nat) : QueueSlot (R.PLN_Q_STATUS a) := by simp only [QueueSlot, R.PLN_Q_STATUS]; omega
theorem queueSlot_tag (a : Nat) : QueueSlot (R.PLN_Q_TAG a) := by simp only [QueueSlot, R.PLN_Q_TAG]; omega
theorem queueSlot_fault (a : Nat) : QueueSlot (R.PLN_Q_FAULT a) := by simp only [QueueSlot, R.PLN_Q_FAULT]; omega
theorem queueSlot_faultPos (a : Nat) : QueueSlot (R.PLN_Q_FAULT_POS a) := by simp only [QueueSlot, R.PLN_Q_FAULT_POS]; omega
theorem queueSlot_ahead (a : Nat) : QueueSlot (R.PLN_Q_AHEAD a) := by simp only [QueueSlot, R.PLN_Q_AHEAD]; omega
theorem queueSlot_aheadPos (a : Nat) : QueueSlot (R.PLN_Q_AHEAD_POS a) := by simp only [QueueSlot, R.PLN_Q_AHEAD_POS]; omega

theorem QueueSlot.not_mem_flagsQ {k : Nat} (h : QueueSlot k) (a : Nat) {j : Nat} (hj : j < 16) : k ∉ flagSlots (bPQ a) j := by
  obtain ⟨h1, h2⟩ := h
  simp only [flagSlots, bPQ, R.PLN_Q_FLAGS, R.PLN_Q_FLAG_CNT0, R.EVM_FLAGS, R.EVM_FLAG_CNT, List.mem_cons, List.not_mem_nil, or_false]
  omega

theorem QueueSlot.not_mem_flagsA {k : Nat} (h : QueueSlot k) {a : Nat} (ha : a < 16) {j : Nat} (hj : j < 8) :
    k ∉ flagSlots (bPA a) j := by
  obtain ⟨h1, h2⟩ := h
  simp only [flagSlots, bPA, R.PLN_ARM_FLAGS, R.PLN_ARM_FLAG_CNT0, R.EVM_FLAGS, R.EVM_FLAG_CNT, List.mem_cons, List.not_mem_nil, or_false]
  omega

theorem bPQ_flags_ne_cnt (a j : Nat) : (bPQ a).flags ≠ (bPQ a).cnt + j / 4 := by
  simp only [bPQ, R.PLN_Q_FLAGS, R.PLN_Q_FLAG_CNT0]; omega

theorem bPA_flags_ne_cnt (a j : Nat) : (bPA a).flags ≠ (bPA a).cnt + j / 4 := by
  simp only [bPA, R.PLN_ARM_FLAGS, R.PLN_ARM_FLAG_CNT0]; omega

/-- The flags of another queue, or of an arm, change no flag of a queue. -/
theorem bPQ_flags_not_mem_flagsQ {a b : Nat} (h : a ≠ b) {j : Nat} (hj : j < 16) : (bPQ a).flags ∉ flagSlots (bPQ b) j := by
  simp only [flagSlots, bPQ, R.PLN_Q_FLAGS, R.PLN_Q_FLAG_CNT0, R.EVM_FLAGS, R.EVM_FLAG_CNT, List.mem_cons, List.not_mem_nil, or_false]
  omega

theorem bPQ_flags_not_mem_flagsA (a b : Nat) {j : Nat} (hj : j < 8) :
    (bPQ a).flags ∉ flagSlots (bPA b) j := by
  simp only [flagSlots, bPQ, bPA, R.PLN_Q_FLAGS, R.PLN_ARM_FLAGS, R.PLN_ARM_FLAG_CNT0, R.EVM_FLAGS, R.EVM_FLAG_CNT, List.mem_cons,
    List.not_mem_nil, or_false]
  omega

/-- No flag of a queue is one of an arm. -/
theorem bPA_flags_not_mem_flagsQ {a : Nat} (ha : a < 16) (b : Nat) {j : Nat} (hj : j < 16) : (bPA a).flags ∉ flagSlots (bPQ b) j := by
  simp only [flagSlots, bPQ, bPA, R.PLN_Q_FLAGS, R.PLN_ARM_FLAGS, R.PLN_Q_FLAG_CNT0, R.EVM_FLAGS, R.EVM_FLAG_CNT, List.mem_cons,
    List.not_mem_nil, or_false]
  omega

theorem bPA_flags_not_mem_flagsA {a b : Nat} (h : a ≠ b) {j : Nat} (hj : j < 8) : (bPA a).flags ∉ flagSlots (bPA b) j := by
  simp only [flagSlots, bPA, R.PLN_ARM_FLAGS, R.PLN_ARM_FLAG_CNT0, R.EVM_FLAGS, R.EVM_FLAG_CNT, List.mem_cons, List.not_mem_nil,
    or_false]
  omega

theorem bPA_flags_not_queueSlot {a : Nat} (ha : a < 16) : ¬ QueueSlot (bPA a).flags := by
  simp only [QueueSlot, bPA, R.PLN_ARM_FLAGS]; omega

theorem bPQ_flags_not_queueSlot (a : Nat) : ¬ QueueSlot (bPQ a).flags := by
  simp only [QueueSlot, bPQ, R.PLN_Q_FLAGS]; omega

theorem keeps_raiseQ (q : Plane) (a j : Nat) (s : State) : Keeps q s (raiseQ q a j s) (flagSlots (bPQ a) j) :=
  (Keeps.refl q s _).raise _ _ _ fun _ h => h

theorem keeps_raiseA (q : Plane) (a j : Nat) (s : State) : Keeps q s (raiseA q a j s) (flagSlots (bPA a) j) :=
  (Keeps.refl q s _).raise _ _ _ fun _ h => h

theorem flagged_raiseQ (q : Plane) (a : Nat) {j : Nat} (hj : j < 16) (s : State) : (raiseQ q a j s).flagged q (bPQ a) j :=
  s.flagged_raise_self q _ _ (by omega) (bPQ_flags_ne_cnt a j)

theorem flagged_raiseA (q : Plane) (a : Nat) {j : Nat} (hj : j < 8) (s : State) : (raiseA q a j s).flagged q (bPA a) j :=
  s.flagged_raise_self q _ _ (by omega) (bPA_flags_ne_cnt a j)

theorem rd_raiseQ (q : Plane) (a : Nat) {j : Nat} (hj : j < 16) (s : State) {k : Nat} (hk : QueueSlot k) (r : Plane) :
    (raiseQ q a j s).rd r k = s.rd r k := s.rd_raise r q _ _ _ k (hk.not_mem_flagsQ a hj)

/-! ### States and waits of a queue (R100) -/

/-- The state and the wait of a queue stand in one register. -/
theorem qState_of_rd {s t : State} {q : Plane} {a : Nat} (h : t.rd q (R.PLN_Q_STATUS a) = s.rd q (R.PLN_Q_STATUS a)) :
    qState q a t = qState q a s ∧ waitCode q a t = waitCode q a s := by
  simp only [qState, waitCode, State.get, h, and_self]

theorem qState_setQState (q : Plane) (a : Nat) {n : Nat} (hn : n < 8) (s : State) : qState q a (setQState q a n s) = n :=
  (s.get_put_same q _ _ n (by decide)).trans (Nat.mod_eq_of_lt hn)

theorem waitCode_setQState (q : Plane) (a n : Nat) (s : State) : waitCode q a (setQState q a n s) = waitCode q a s :=
  s.get_put_field q _ _ _ n (by decide) (.inl (by decide))

theorem waitCode_setWaitCode (q : Plane) (a : Nat) {n : Nat} (hn : n < 16) (s : State) : waitCode q a (setWaitCode q a n s) = n :=
  (s.get_put_same q _ _ n (by decide)).trans (Nat.mod_eq_of_lt hn)

theorem qState_setWaitCode (q : Plane) (a n : Nat) (s : State) : qState q a (setWaitCode q a n s) = qState q a s :=
  s.get_put_field q _ _ _ n (by decide) (.inr (by decide))

theorem status_inj {a b : Nat} : R.PLN_Q_STATUS a = R.PLN_Q_STATUS b ↔ a = b := by simp only [R.PLN_Q_STATUS]; omega

theorem keeps_setQState (q : Plane) (a n : Nat) (s : State) : Keeps q s (setQState q a n s) [R.PLN_Q_STATUS a] :=
  (Keeps.refl q s _).put _ _ _ (by simp)

theorem keeps_setWaitCode (q : Plane) (a n : Nat) (s : State) : Keeps q s (setWaitCode q a n s) [R.PLN_Q_STATUS a] :=
  (Keeps.refl q s _).put _ _ _ (by simp)

@[simp] theorem qState_setArm (q r : Plane) (a b : Nat) (x : Arm) (s : State) : qState r a (s.setArm q b x) = qState r a s :=
  s.get_setArm q r b x _ _
@[simp] theorem waitCode_setArm (q r : Plane) (a b : Nat) (x : Arm) (s : State) : waitCode r a (s.setArm q b x) = waitCode r a s :=
  s.get_setArm q r b x _ _

theorem State.onChanter_of {s : State} {q : Plane} (h : s.chanter = some q) (f : Plane → State → State) : s.onChanter f = f q s := by
  unfold State.onChanter
  rw [h]

/-! ## Producers of a queue (R95, R96) -/

/-- A flag that is raised and nothing else. -/
theorem does_raiseQ {c : Instr} {s : State} {q : Plane} {a j : Nat} (h : exec c s = settled (raiseQ q a j s)) (hj : j < 16) :
    Does c s (fun t => t.flagged q (bPQ a) j ∧ Keeps q s t (flagSlots (bPQ a) j)) :=
  does_of_exec h ⟨(State.flagged_belRecheck _ _ _ _).2 (flagged_raiseQ q a hj s), (keeps_raiseQ q a j s).recheck⟩

theorem exec_wrWrite {q : Plane} {s : State} (hc : s.chanter = some q) (a : Fin 16) (fed : Bool) (v : BitVec 32) :
    exec (.wrWrite a fed v) s = settled (writeWr q a fed v.toNat s) := congrArg settled (State.onChanter_of hc _)

/-- A count that is written in range, and nothing else. -/
theorem does_putCount {c : Instr} {s : State} {q : Plane} {k : Nat} {f : Fld} (v : BitVec 32)
    (h : exec c s = settled (s.put q k f v.toNat)) (hf : f.ok) (hw : f.width = 32) :
    Does c s (fun t => t.get q k f = v.toNat ∧ Keeps q s t [k]) := by
  refine does_of_exec h ⟨?_, ((Keeps.refl _ _ _).put _ _ _ (by simp)).recheck⟩
  rw [State.get_belRecheck, State.get_put_same _ _ _ _ _ hf, hw, Nat.mod_eq_of_lt v.isLt]

/-- Settles O60: a write by the producer that SRC does not name raises SRC_REFUSED; one by the other is checked against WR and FETCH. -/
theorem producersAreNamedBySrc : Obligations.ProducersAreNamedBySrc := by
  intro q a v s hc ar fed wr fetch ok
  have hsrc : (decide ((s.arm q a).src = 1) != fed) = false := bne_self_eq_false fed
  refine ⟨fun hok => does_putCount v ?_ (by decide) (by decide), fun hok => does_raiseQ ?_ (by decide), does_raiseQ ?_ (by decide)⟩
  · exact (exec_wrWrite hc a fed v).trans (congrArg settled ((if_neg (by simp [hsrc])).trans (if_pos hok)))
  · exact (exec_wrWrite hc a fed v).trans (congrArg settled ((if_neg (by simp [hsrc])).trans (if_neg hok)))
  · exact (exec_wrWrite hc a (!fed) v).trans (congrArg settled (if_pos (by simp [fed, ar])))

end Sys2Proof.Machine

/-! ## Stops, waits and faults of an arm (R86, R87, R90, R92, R100, R102, R119, R127) -/

namespace Sys2Proof.Machine

/-- An arm whose path has been left on a stop profile. -/
def Arm.stopped (ar : Arm) (ps : List Phase) : Arm := { ar with phases := ps, tau := 0, stopping := true }

theorem plnOnly_stopPath (q : Plane) (a : Nat) (s : State) : PlnOnly q s (stopPath q a s) [] :=
  PlnOnly.each (fun b _ u => (PlnOnly.refl q u []).setArm b _) s

/-- One stop profile takes over in the arm and the other members of its group, and no other arm is touched. -/
theorem arm_stopPath {q : Plane} {a : Nat} {s : State} (ha : a < 16) (hl : (s.pln q).arms.length = 16) :
    ∃ ps, ∀ b, (stopPath q a s).arm q b = if b ∈ a :: mates (s.arm q a) a then (s.arm q b).stopped ps else s.arm q b := by
  refine ⟨_, State.arm_eachArm q (fun _ x => x.stopped _) (nodup_cons_mates _ a) s fun b hb => ?_⟩
  rw [hl]
  rcases List.mem_cons.1 hb with rfl | hb
  · exact ha
  · exact (mem_mates.1 hb).1.1

theorem plnOnly_stopMates (q : Plane) (a : Nat) (s : State) :
    PlnOnly q s (stopMates q a s) ((mates (s.arm q a) a).flatMap fun b => flagSlots (bPA b) 0) :=
  PlnOnly.each (fun b hb u => (keeps_raiseA q b 0 u).plnOnly.mono fun _ hk => List.mem_flatMap.2 ⟨b, hb, hk⟩) s

@[simp] theorem arm_stopMates (q : Plane) (a b : Nat) (s : State) : (stopMates q a s).arm q b = s.arm q b :=
  each_keeps (P := fun t : State => t.arm q b = s.arm q b) (fun _ _ _ h => (arm_raiseA q q _ 0 b _).trans h) rfl

theorem flagged_raiseA_of_flagged {q : Plane} {a : Nat} {s : State} {j : Nat} (hj : j < 8) (h : s.flagged q (bPA a) j) (b : Nat) :
    (raiseA q b j s).flagged q (bPA a) j := by
  by_cases hb : a = b
  · rw [hb]
    exact flagged_raiseA q b hj s
  · exact State.flagged_of_rd ((keeps_raiseA q b j s).2 q _ (.inl (bPA_flags_not_mem_flagsA hb hj))) h

theorem flagged_stopMates (q : Plane) (a : Nat) (s : State) :
    ∀ b ∈ mates (s.arm q a) a, (stopMates q a s).flagged q (bPA b) 0 :=
  each_makes (Q := fun b (t : State) => t.flagged q (bPA b) 0) s (fun b _ u => flagged_raiseA q b (by decide) u)
    fun a _ _ _ _ h => flagged_raiseA_of_flagged (by decide) h a

theorem plnOnly_processOff (q : Plane) (a : Nat) (s : State) : PlnOnly q s (processOff q a s) [] :=
  (PlnOnly.refl q s []).setPln _ rfl

@[simp] theorem arm_processOff (q : Plane) (a b : Nat) (s : State) : (processOff q a s).arm q b = s.arm q b := by
  simp [processOff, State.arm]

/-- What an arm fault records once the arm and its group have been stopped: the fault takes the place of the arm's wait (R102). -/
def faultRecorded (q : Plane) (a code tag pos : Nat) (redo : Option Stitch) (s : State) : State :=
  let s2 := setWaitCode q a 0 (s.setArm q a { s.arm q a with wait := none })
  let s3 := s2.setArm q a { s2.arm q a with redo := redo, cleared := false, held := none, resume := none, resumeBy := none
                                            loopStop := false, ckpStop := false }
  let s4 := (s3.wr q (R.PLN_Q_FAULT a) (F.PLN_Q_FAULT_CODE.set (F.PLN_Q_FAULT_TAG.set 0 tag) code)).wr q
    (R.PLN_Q_FAULT_POS a) (F.PLN_Q_FAULT_POS_COUNT.set 0 pos)
  raiseQ q a 1 (processOff q a (setQState q a 6 s4))

theorem armFault_eq {q : Plane} {a code : Nat} {s : State} (h : qState q a s ≠ 6) (hc : code ≠ 0) (tag pos : Nat) (redo : Option Stitch) :
    armFault q a code tag pos redo s = faultRecorded q a code tag pos redo (stopMates q a (stopPath q a s)) := by
  unfold armFault
  rw [if_neg h]
  simp only [if_neg hc]
  rfl

theorem plnOnly_faultRecorded (q : Plane) (a code tag pos : Nat) (redo : Option Stitch) (s : State) :
    PlnOnly q s (faultRecorded q a code tag pos redo s)
      ([R.PLN_Q_STATUS a, R.PLN_Q_FAULT a, R.PLN_Q_FAULT_POS a] ++ flagSlots (bPQ a) 1) := by
  refine PlnOnly.append (((((((PlnOnly.refl q s _).setArm a _).put _ _ _ ?_).setArm a _).wr _ _ ?_).wr _ _ ?_).put _ _ _ ?_ |>.trans
    ((plnOnly_processOff q a _).mono (by simp))) (keeps_raiseQ q a 1 _).plnOnly <;> simp

/-- The registers that an arm fault may change. -/
def faultRegs (a : Nat) (ms : List Nat) : List Nat :=
  ms.flatMap (fun b => flagSlots (bPA b) 0) ++ ([R.PLN_Q_STATUS a, R.PLN_Q_FAULT a, R.PLN_Q_FAULT_POS a] ++ flagSlots (bPQ a) 1)

/-- What an arm fault leaves: FAULT with the code, tag and header count of its Stitch, no wait, and the group told (R102, R127). -/
structure ArmFaulted (q : Plane) (a code tag pos : Nat) (redo : Option Stitch) (s t : State) : Prop where
  state : qState q a t = 6
  code : t.get q (R.PLN_Q_FAULT a) F.PLN_Q_FAULT_CODE = code % 2 ^ F.PLN_Q_FAULT_CODE.width
  tag : t.get q (R.PLN_Q_FAULT a) F.PLN_Q_FAULT_TAG = tag % 2 ^ F.PLN_Q_FAULT_TAG.width
  pos : t.get q (R.PLN_Q_FAULT_POS a) F.PLN_Q_FAULT_POS_COUNT = pos % 2 ^ F.PLN_Q_FAULT_POS_COUNT.width
  flag : t.flagged q (bPQ a) 1
  told : ∀ b ∈ mates (s.arm q a) a, t.flagged q (bPA b) 0
  redo : (t.arm q a).redo = redo
  wait : (t.arm q a).wait = none
  others : ∀ b, b ≠ a → (t.arm q b).wait = (s.arm q b).wait
  frame : PlnOnly q s t (faultRegs a (mates (s.arm q a) a))

/-- The registers of the fault of an arm, as it records it. -/
theorem regs_faultRecorded (q : Plane) (a code tag pos : Nat) (redo : Option Stitch) (s : State) :
    let t := faultRecorded q a code tag pos redo s
    qState q a t = 6 ∧ t.rd q (R.PLN_Q_FAULT a) = F.PLN_Q_FAULT_CODE.set (F.PLN_Q_FAULT_TAG.set 0 tag) code
      ∧ t.rd q (R.PLN_Q_FAULT_POS a) = F.PLN_Q_FAULT_POS_COUNT.set 0 pos := by
  have hoff := fun (u : State) (k : Nat) => (plnOnly_processOff q a u).rd q (k := k) (by simp)
  have h1 : R.PLN_Q_FAULT a ≠ R.PLN_Q_STATUS a := by simp only [R.PLN_Q_FAULT, R.PLN_Q_STATUS]; omega
  have h2 : R.PLN_Q_FAULT_POS a ≠ R.PLN_Q_STATUS a := by simp only [R.PLN_Q_FAULT_POS, R.PLN_Q_STATUS]; omega
  have h3 : R.PLN_Q_FAULT a ≠ R.PLN_Q_FAULT_POS a := by simp only [R.PLN_Q_FAULT, R.PLN_Q_FAULT_POS]; omega
  refine ⟨?_, ?_, ?_⟩
  · refine (qState_of_rd ((rd_raiseQ q a (by decide) _ (queueSlot_status a) q).trans (hoff _ _))).1.trans ?_
    exact qState_setQState q a (by decide) _
  · refine ((rd_raiseQ q a (by decide) _ (queueSlot_fault a) q).trans (hoff _ _)).trans ?_
    rw [setQState, State.rd_put_ne _ _ _ _ _ h1, State.rd_wr_ne _ _ _ _ h3, State.rd_wr_same]
  · refine ((rd_raiseQ q a (by decide) _ (queueSlot_faultPos a) q).trans (hoff _ _)).trans ?_
    rw [setQState, State.rd_put_ne _ _ _ _ _ h2, State.rd_wr_same]

theorem armFaulted_armFault {q : Plane} {a code : Nat} {s : State} (h : qState q a s ≠ 6) (hc : code ≠ 0) (ha : a < 16)
    (hl : (s.pln q).arms.length = 16) (tag pos : Nat) (redo : Option Stitch) :
    ArmFaulted q a code tag pos redo s (armFault q a code tag pos redo s) := by
  rw [armFault_eq h hc]
  obtain ⟨ps, harm⟩ := arm_stopPath ha hl
  have hm : mates ((stopPath q a s).arm q a) a = mates (s.arm q a) a := by rw [harm a, if_pos (by simp)]; rfl
  have h1 := (plnOnly_stopPath q a s).append (plnOnly_stopMates q a (stopPath q a s))
  have htold := flagged_stopMates q a (stopPath q a s)
  rw [hm] at h1 htold
  have harms : ∀ b, (stopMates q a (stopPath q a s)).arm q b
      = if b ∈ a :: mates (s.arm q a) a then (s.arm q b).stopped ps else s.arm q b := fun b => by rw [arm_stopMates, harm b]
  generalize stopMates q a (stopPath q a s) = u at h1 htold harms ⊢
  have hlen : a < (u.pln q).arms.length := by rw [h1.arms, hl]; exact ha
  obtain ⟨hst, hf, hp⟩ := regs_faultRecorded q a code tag pos redo u
  have h2 := plnOnly_faultRecorded q a code tag pos redo u
  refine ⟨hst, ?_, ?_, ?_, flagged_raiseQ q a (by decide) _, fun b hb => ?_, ?_, ?_, fun b hb => ?_, h1.append h2⟩
  · rw [State.get, hf, Fld.get_set_same _ (by decide)]
  · rw [State.get, hf, Fld.get_set_ne _ _ (by decide) (.inl (by decide)), Fld.get_set_same _ (by decide)]
  · rw [State.get, hp, Fld.get_set_same _ (by decide)]
  · have hb16 := (mem_mates.1 hb).1.1
    refine h2.flagged ?_ (htold b hb)
    have hq := bPA_flags_not_queueSlot hb16
    simp only [List.mem_append, List.mem_cons, List.not_mem_nil, or_false, not_or]
    exact ⟨⟨fun e => hq (e ▸ queueSlot_status a), fun e => hq (e ▸ queueSlot_fault a), fun e => hq (e ▸ queueSlot_faultPos a)⟩,
      bPA_flags_not_mem_flagsQ hb16 a (by decide)⟩
  · simp [faultRecorded, State.arm_setArm_same, hlen]
  · simp [faultRecorded, State.arm_setArm_same, hlen]
  · have hb' : (faultRecorded q a code tag pos redo u).arm q b = u.arm q b := by
      simp [faultRecorded, State.arm_setArm_ne _ _ _ hb]
    rw [hb', harms b]
    split <;> rfl

end Sys2Proof.Machine

namespace Sys2Proof.Machine

theorem ArmFaulted.recheck {q : Plane} {a code tag pos : Nat} {redo : Option Stitch} {s t : State}
    (h : ArmFaulted q a code tag pos redo s t) : ArmFaulted q a code tag pos redo s (belRecheck t) where
  state := (State.get_belRecheck ..).trans h.state
  code := (State.get_belRecheck ..).trans h.code
  tag := (State.get_belRecheck ..).trans h.tag
  pos := (State.get_belRecheck ..).trans h.pos
  flag := (State.flagged_belRecheck ..).2 h.flag
  told := fun b hb => (State.flagged_belRecheck ..).2 (h.told b hb)
  redo := by rw [State.arm_belRecheck, h.redo]
  wait := by rw [State.arm_belRecheck, h.wait]
  others := fun b hb => by rw [State.arm_belRecheck, h.others b hb]
  frame := h.frame.recheck

/-! ### The end of a wait -/

theorem plnOnly_endWait (q : Plane) (a : Nat) (s : State) : PlnOnly q s (endWait q a s) [R.PLN_Q_STATUS a] := by
  have h : PlnOnly q s (setWaitCode q a 0 (s.setArm q a { s.arm q a with wait := none, dirty := true })) [R.PLN_Q_STATUS a] :=
    ((PlnOnly.refl q s _).setArm a _).andKeeps (keeps_setWaitCode q a 0 _)
  simp only [endWait]
  split
  · exact h.andKeeps (keeps_setQState q a 1 _)
  · exact h

theorem waitCode_endWait (q : Plane) (a : Nat) (s : State) : waitCode q a (endWait q a s) = 0 := by
  simp only [endWait]
  split
  · rw [waitCode_setQState, waitCode_setWaitCode q a (by decide)]
  · rw [waitCode_setWaitCode q a (by decide)]

theorem qState_endWait (q : Plane) (a : Nat) (s : State) :
    qState q a (endWait q a s) = if qState q a s = 2 then 1 else qState q a s := by
  simp only [endWait, qState_setWaitCode, qState_setArm]
  split
  · exact qState_setQState q a (by decide) _
  · simp only [qState_setWaitCode, qState_setArm]

theorem pln_endWait (q : Plane) (a : Nat) (s : State) :
    (endWait q a s).pln q = (s.setArm q a { s.arm q a with wait := none, dirty := true }).pln q := by
  simp only [endWait]
  split <;> simp only [pln_setQState, pln_setWaitCode]

theorem arm_endWait {q : Plane} {a : Nat} {s : State} (h : a < (s.pln q).arms.length) :
    (endWait q a s).arm q a = { s.arm q a with wait := none, dirty := true } :=
  (State.arm_of_pln (pln_endWait q a s) a).trans (s.arm_setArm_same q _ h)

theorem arm_endWait_ne {q : Plane} {a b : Nat} {s : State} (h : b ≠ a) : (endWait q a s).arm q b = s.arm q b :=
  (State.arm_of_pln (pln_endWait q a s) b).trans (s.arm_setArm_ne q _ h)

/-! ## Time limits, counts and overrides (R86, R87, R90, R92, R105, R107, R134, R138) -/

@[simp] theorem qState_toTime (q : Plane) (a n : Nat) (s : State) : qState q a (s.toTime n) = qState q a s := by
  simp [qState, State.get]
@[simp] theorem waitCode_toTime (q : Plane) (a n : Nat) (s : State) : waitCode q a (s.toTime n) = waitCode q a s := by
  simp [waitCode, State.get]

theorem SameStores.toTime {n : Nat} {s t : State} (h : SameStores (s.toTime n) t) : SameStores s t := h
theorem RegsKept.toTime {q : Plane} {n : Nat} {s t : State} {ks : List Nat} (h : RegsKept q (s.toTime n) t ks) : RegsKept q s t ks :=
  fun p k hk => (h p k hk).trans (s.rd_toTime n p k)

theorem onDeadline_eq {q : Plane} {a code : Nat} {f : Plane → State → State} {s : State} {w : Wait} {d : Nat} (hc : s.chanter = some q)
    (h2 : qState q a s = 2) (hcode : waitCode q a s = code) (hw : (s.arm q a).wait = some w) (hd : w.deadline = some d) :
    onDeadline a code f s = f q (s.toTime d) := by
  rw [onDeadline, State.onChanter_of hc, if_pos ⟨h2, hcode⟩, hw]
  simp only [Option.bind_some, hd]

theorem onDeadline_idle {q : Plane} {a code : Nat} {s : State} (hc : s.chanter = some q)
    (h : qState q a s ≠ 2 ∨ waitCode q a s ≠ code ∨ ∀ w, (s.arm q a).wait = some w → w.deadline = none) (f : Plane → State → State) :
    onDeadline a code f s = s := by
  rw [onDeadline, State.onChanter_of hc]
  split
  · rename_i hs
    cases hw : (s.arm q a).wait with
    | none => rfl
    | some w =>
      have hd := (h.resolve_left (not_not.2 hs.1)).resolve_left (not_not.2 hs.2) w hw
      simp only [Option.bind_some, hd]
  · rfl

/-- A fault at a time: what it leaves, as the statement of the time limits says it. -/
theorem ArmFaulted.at_toTime {q : Plane} {a code tag pos d : Nat} {redo : Option Stitch} {s t : State}
    (h : ArmFaulted q a code tag pos redo (s.toTime d) t) (hc : code < 256) :
    qState q a t = 6 ∧ t.get q (R.PLN_Q_FAULT a) F.PLN_Q_FAULT_CODE = code ∧ t.flagged q (bPQ a) 1 ∧ t.now = max s.now d
      ∧ SameStores s t ∧ (∀ b ∈ mates (s.arm q a) a, t.flagged q (bPA b) 0)
      ∧ (mates (s.arm q a) a = [] →
        RegsKept q s t ([R.PLN_Q_STATUS a, R.PLN_Q_FAULT a, R.PLN_Q_FAULT_POS a] ++ flagSlots (bPQ a) 1)) := by
  refine ⟨h.state, h.code.trans (Nat.mod_eq_of_lt hc), h.flag, h.frame.now, h.frame.stores.toTime, fun b hb => h.told b ?_, fun hm => ?_⟩
  · rwa [State.arm_toTime]
  · have hr := h.frame.regs.toTime
    rwa [State.arm_toTime, hm] at hr

theorem does_waitFault {c : Instr} {q : Plane} {a : Fin 16} {s : State} {w : Wait} {d code fault : Nat} (hc : s.chanter = some q)
    (hl : (s.pln q).arms.length = 16) (h2 : qState q a s = 2) (hcode : waitCode q a s = code) (hw : (s.arm q a).wait = some w)
    (hd : w.deadline = some d) (hf : fault ≠ 0) (he : exec c s = settled (onDeadline a code (fun q => waitFault q a fault) s)) :
    Does c s (fun t => ∃ redo, ArmFaulted q a fault w.tag w.pos redo (s.toTime d) t) := by
  rw [onDeadline_eq hc h2 hcode hw hd, waitFault, State.arm_toTime, hw] at he
  exact does_of_exec he ⟨_, (armFaulted_armFault (by rw [qState_toTime, h2]; decide) hf a.isLt (by rwa [State.pln_toTime]) _ _ _).recheck⟩

theorem does_dwellExpiry {q : Plane} {a : Fin 16} {s : State} {w : Wait} {d : Nat} (hc : s.chanter = some q)
    (hl : (s.pln q).arms.length = 16) (h2 : qState q a s = 2) (hcode : waitCode q a s = 1) (hw : (s.arm q a).wait = some w)
    (hd : w.deadline = some d) : Does (.dwellExpiry a) s (fun t => qState q a t = 1 ∧ waitCode q a t = 0
      ∧ t.arm q a = { s.arm q a with wait := none, dirty := true } ∧ t.now = max s.now d ∧ SameStores s t
      ∧ RegsKept q s t [R.PLN_Q_STATUS a]) := by
  have he : exec (.dwellExpiry a) s = settled (endWait q a (s.toTime d)) := congrArg settled (onDeadline_eq hc h2 hcode hw hd)
  have h := (plnOnly_endWait q a (s.toTime d)).recheck
  refine does_of_exec he ⟨?_, ?_, ?_, h.now, h.stores.toTime, h.regs.toTime⟩
  · exact (State.get_belRecheck ..).trans ((qState_endWait q a _).trans (if_pos (by rw [qState_toTime, h2])))
  · exact (State.get_belRecheck ..).trans (waitCode_endWait q a _)
  · rw [State.arm_belRecheck, arm_endWait (by rw [State.pln_toTime, hl]; exact a.isLt), State.arm_toTime]

theorem does_resumeTimeout {q : Plane} {a : Fin 16} {s : State} (hc : s.chanter = some q) (hl : (s.pln q).arms.length = 16) {d : Nat}
    {r : Resume} (h7 : qState q a s = 7) (hd : (s.arm q a).resumeBy = some d) (hr : (s.arm q a).resume = some r) :
    Does (.resumeTimeout a) s (ArmFaulted q a (if r.zones.all (fun z => holdsZone q a z s) then 11 else 12) 0 0 none (s.toTime d)) := by
  have he : exec (.resumeTimeout a) s = settled (armFault q a (if r.zones.all (fun z => holdsZone q a z s) then 0x0B else 0x0C) 0 0 none
      (s.toTime d)) := congrArg settled ((State.onChanter_of hc _).trans (by simp only [hd, hr, if_pos h7]))
  refine does_of_exec he (armFaulted_armFault ?_ ?_ a.isLt ?_ 0 0 none).recheck
  · rw [qState_toTime, h7]; decide
  · split <;> decide
  · rwa [State.pln_toTime]

theorem exec_resumeTimeout_idle {q : Plane} {a : Fin 16} {s : State} (hc : s.chanter = some q)
    (h : qState q a s ≠ 7 ∨ (s.arm q a).resumeBy = none ∨ (s.arm q a).resume = none) : exec (.resumeTimeout a) s = settled s := by
  refine congrArg settled ((State.onChanter_of hc _).trans ?_)
  cases hd : (s.arm q a).resumeBy with
  | none => rfl
  | some d =>
    cases hr : (s.arm q a).resume with
    | none => rfl
    | some r => exact if_neg (by simpa [hd, hr] using h)

theorem plnOnly_bzLose (q : Plane) (b : Nat) (s : State) :
    PlnOnly q s (bzLose q b s) ((List.range 16).flatMap (fun k => flagSlots (bPA k) 7)) := by
  simp only [bzLose]
  split
  · exact .refl q s _
  · refine PlnOnly.trans ((PlnOnly.refl q s _).setPln _ ?_) (PlnOnly.each (fun k hk u => ?_) _)
    · rfl
    exact (keeps_raiseA q k 7 u).plnOnly.mono fun _ h => List.mem_flatMap.2 ⟨k, List.mem_of_mem_filter hk, h⟩

/-- The arms that hold or want a border zone are the same where only the list of lost ones differs. -/
theorem zonesOf_setPln_bzLost (q : Plane) (k : Nat) (l : List Nat) (s : State) :
    zonesOf q k (s.setPln q { s.pln q with bzLost := l }) = zonesOf q k s := by
  simp [zonesOf, heldZones, holdsZone, armReq]

theorem does_bzLink {q : Plane} {b : Fin 16} {s : State} (hc : s.chanter = some q) (hb : b.val ∉ (s.pln q).bzLost) :
    Does (.bzLink b) s (fun t => (t.pln q).bzLost = (s.pln q).bzLost ++ [b.val]
        ∧ (∀ k : Fin 16, 64 + b.val ∈ zonesOf q k s → t.flagged q (bPA k) 7) ∧ SameStores s t
        ∧ RegsKept q s t ((List.range 16).flatMap (fun k => flagSlots (bPA k) 7))) := by
  have he : exec (.bzLink b) s = settled (bzLose q b s) := congrArg settled (State.onChanter_of hc _)
  have h := (plnOnly_bzLose q b s).recheck
  have hlose : bzLose q b s = each ((List.range 16).filter (fun a => (zonesOf q a s).contains (64 + b.val))) (fun a => raiseA q a 7)
      (s.setPln q { s.pln q with bzLost := (s.pln q).bzLost ++ [b.val] }) := by
    rw [bzLose, if_neg (by simpa using hb)]
    simp only [zonesOf_setPln_bzLost]
  refine does_of_exec he ⟨?_, fun k hk => (State.flagged_belRecheck ..).2 ?_, h.stores, h.regs⟩
  · rw [State.pln_belRecheck, hlose]
    exact each_keeps (P := fun t : State => (t.pln q).bzLost = (s.pln q).bzLost ++ [b.val])
      (fun k _ u hu => (congrArg PlnSt.bzLost (pln_raiseA q q k 7 u)).trans hu) (congrArg PlnSt.bzLost (s.pln_setPln q _))
  · rw [hlose]
    exact each_makes (Q := fun k (t : State) => t.flagged q (bPA k) 7) _ (fun k _ u => flagged_raiseA q k (by decide) u)
      (fun k _ _ _ _ hf => flagged_raiseA_of_flagged (by decide) hf k) k (by simpa using hk)

theorem exec_bzLink_idle {q : Plane} {b : Fin 16} {s : State} (hc : s.chanter = some q) (hb : b.val ∈ (s.pln q).bzLost) :
    exec (.bzLink b) s = settled s :=
  congrArg settled ((State.onChanter_of hc _).trans (if_pos (by simpa using hb)))

theorem exec_ckpRdWrite {q : Plane} {s : State} (hc : s.chanter = some q) (a : Fin 16) (fed : Bool) (v : BitVec 32) :
    exec (.ckpRdWrite a fed v) s = settled (writeCkpRd q a fed v.toNat s) := congrArg settled (State.onChanter_of hc _)

theorem exec_ovrWrite {q : Plane} {s : State} (hc : s.chanter = some q) (a : Fin 16) (v : Word) :
    exec (.ovrWrite a v) s = settled (writeOvr q a v s) := congrArg settled (State.onChanter_of hc _)

/-- The time limit of a wait that is not the arm's present one passes without effect. -/
theorem does_waitTimeout_idle {q : Plane} {a : Fin 16} {s : State} (hc : s.chanter = some q) {code : Nat} {cmd : Instr}
    (hcmd : (code = 1 ∧ cmd = .dwellExpiry a) ∨ (code = 3 ∧ cmd = .syncTimeout a) ∨ (code = 4 ∧ cmd = .zoneTimeout a)
      ∨ (code = 2 ∧ cmd = .waitioTimeout a))
    (h : qState q a s ≠ 2 ∨ waitCode q a s ≠ code ∨ ∀ w, (s.arm q a).wait = some w → w.deadline = none) :
    Does cmd s (fun t => Keeps q s t []) := by
  rcases hcmd with ⟨rfl, rfl⟩ | ⟨rfl, rfl⟩ | ⟨rfl, rfl⟩ | ⟨rfl, rfl⟩ <;>
    exact does_nothing q [] (congrArg settled (onDeadline_idle hc h _))

/-- Settles O49, command by command: the counts and overrides, the time limits of the waits, and the border zones. -/
theorem countsAreWrittenAndWaitsTimeOut : Obligations.CountsAreWrittenAndWaitsTimeOut := by
  intro q a s hc hl ar st Ignored Faulted
  refine ⟨fun fed v => ?_, fun v hv => ?_, fun v hv => ?_, fun w d h2 hw hd => ⟨fun h1 => does_dwellExpiry hc hl h2 h1 hw hd, ?_⟩,
    fun code cmd hcmd h => does_waitTimeout_idle hc hcmd h, fun d r h7 hd hr => ?_,
    fun h => does_nothing _ _ (exec_resumeTimeout_idle hc h), fun b hb => does_bzLink hc hb,
    fun b hb => does_nothing _ _ (exec_bzLink_idle hc hb)⟩
  · intro old fits
    have he := exec_ckpRdWrite hc a fed v
    refine ⟨fun hf hfit => does_putCount v ?_ (by decide) (by decide), fun hf hfit => does_raiseQ ?_ (by decide),
      fun hf => does_raiseQ ?_ (by decide)⟩
    · exact he.trans (congrArg settled ((if_neg (by simp [hf, ar])).trans (if_pos (of_decide_eq_true hfit))))
    · exact he.trans (congrArg settled ((if_neg (by simp [hf, ar])).trans (if_neg (of_decide_eq_false hfit))))
    · exact he.trans (congrArg settled (if_pos (bne_iff_ne.2 hf.symm)))
  · have he := (exec_ovrWrite hc a v).trans (congrArg settled (if_pos hv))
    exact does_of_exec he ⟨by rw [State.rd_belRecheck, State.rd_wr_same], ((Keeps.refl _ _ _).wr _ _ (by simp)).recheck⟩
  · have he := (exec_ovrWrite hc a v).trans (congrArg settled (if_neg (by rw [hv]; decide)))
    exact does_of_exec he ⟨(State.flagged_belRecheck ..).2 (flagged_raiseA q a (by decide) s), (keeps_raiseA q a 6 s).recheck⟩
  · intro code fault cmd hcmd hcode
    have hdoes : Does cmd s (fun t => ∃ redo, ArmFaulted q a fault w.tag w.pos redo (s.toTime d) t) := by
      rcases hcmd with ⟨rfl, rfl, rfl⟩ | ⟨rfl, rfl, rfl⟩ | ⟨rfl, rfl, rfl⟩ <;>
        exact does_waitFault hc hl h2 hcode hw hd (by decide) rfl
    exact hdoes.imp fun t ⟨_, h⟩ => ⟨h.at_toTime (by omega), h.wait, h.tag, h.pos⟩
  · refine (does_resumeTimeout hc hl h7 hd hr).imp fun t h => h.at_toTime ?_
    split <;> decide

end Sys2Proof.Machine

/-! ## The commands of a Stitch queue (R100, R107) -/

namespace Sys2Proof.Machine

/-- Plane A has the grant, and arm 0 is HELD in a group that names arm 1 alone: the mask of a checkpoint record, which RESUME_AT
takes as it stands, need not name the arm itself (R107). -/
def heldOutsideItsGroup : State :=
  let s := setQState .a 0 4 Tests.granted
  s.setArm .a 0 { s.arm .a 0 with group := 2 }

/-- FLUSH takes arm 0 out of the group of each arm that the mask names, and arm 0 itself is none of them. -/
theorem group_qFlush_of_outside : ∀ t, exec (.qFlush 0) heldOutsideItsGroup = .next t → (t.arm .a (0 : Fin 16)).group ≠ 0 := by
  have h : ((Tests.getNext (exec (.qFlush 0) heldOutsideItsGroup)).arm .a (0 : Fin 16)).group ≠ 0 := by decide +kernel
  intro t ht
  rwa [ht] at h

/-- Refutes O48: FLUSH does not leave every arm without a group. An arm whose group is a mask that does not name it keeps that
mask, since FLUSH visits the arms that the mask names. -/
theorem not_queuesObeyCommands : ¬ Obligations.QueuesObeyCommands := by
  unfold Obligations.QueuesObeyCommands
  intro h
  obtain ⟨-, -, -, -, -, -, -, -, -, -, -, -, -, -, -, -, -, hflush, -⟩ :=
    h .a 0 heldOutsideItsGroup (by decide) (by decide) (by decide)
  obtain ⟨t, ht, -, -, -, -, -, hgroup, -⟩ := hflush (.inl (by decide))
  exact group_qFlush_of_outside t ht hgroup

end Sys2Proof.Machine

/-! ## A Stitch that is reached (R65, R69) -/

namespace Sys2Proof.Machine

/-! ### Waits that begin (R90, R100, R526) -/

theorem plnOnly_freezeWait (q : Plane) (a : Nat) (s : State) : PlnOnly q s (freezeWait q a s) [] := (PlnOnly.refl q s []).setArm a _

theorem plnOnly_enterWait (q : Plane) (a code : Nat) (w : Wait) (s : State) :
    PlnOnly q s (enterWait q a code w s) [R.PLN_Q_STATUS a] := by
  have h : PlnOnly q s (setWaitCode q a code (s.setArm q a { s.arm q a with wait := some w })) [R.PLN_Q_STATUS a] :=
    ((PlnOnly.refl q s _).setArm a _).andKeeps (keeps_setWaitCode q a code _)
  simp only [enterWait]
  split
  · exact h.andKeeps (keeps_setQState q a 2 _)
  · exact h.trans ((plnOnly_freezeWait q a _).mono (by simp))

/-- A wait that a RUNNING arm enters runs from its start; one of another state is frozen from its start. -/
theorem enterWait_of_running {q : Plane} {a code : Nat} {s : State} (h : qState q a s = 1) (w : Wait) :
    enterWait q a code w s = setQState q a 2 (setWaitCode q a code (s.setArm q a { s.arm q a with wait := some w })) := by
  simp only [enterWait, qState_setWaitCode, qState_setArm, if_pos h]

theorem enterWait_of_not_running {q : Plane} {a code : Nat} {s : State} (h : qState q a s ≠ 1) (w : Wait) :
    enterWait q a code w s = freezeWait q a (setWaitCode q a code (s.setArm q a { s.arm q a with wait := some w })) := by
  simp only [enterWait, qState_setWaitCode, qState_setArm, if_neg h]

theorem waitCode_enterWait (q : Plane) (a : Nat) {code : Nat} (hc : code < 16) (w : Wait) (s : State) :
    waitCode q a (enterWait q a code w s) = code := by
  by_cases h : qState q a s = 1
  · rw [enterWait_of_running h, waitCode_setQState, waitCode_setWaitCode q a hc]
  · rw [enterWait_of_not_running h, freezeWait, waitCode_setArm, waitCode_setWaitCode q a hc]

theorem qState_enterWait (q : Plane) (a code : Nat) (w : Wait) (s : State) :
    qState q a (enterWait q a code w s) = if qState q a s = 1 then 2 else qState q a s := by
  by_cases h : qState q a s = 1
  · rw [enterWait_of_running h, qState_setQState q a (by decide), if_pos h]
  · rw [enterWait_of_not_running h, freezeWait, qState_setArm, qState_setWaitCode, qState_setArm, if_neg h]

theorem arm_enterWait {q : Plane} {a : Nat} {s : State} (ha : a < (s.pln q).arms.length) (code : Nat) (w : Wait) :
    (enterWait q a code w s).arm q a
      = { s.arm q a with wait := some (if qState q a s = 1 then w else w.freeze s.now) } := by
  by_cases h : qState q a s = 1
  · rw [enterWait_of_running h, arm_setQState, arm_setWaitCode, s.arm_setArm_same q _ ha, if_pos h]
  · have hnow := ((PlnOnly.refl q s [R.PLN_Q_STATUS a]).setArm a { s.arm q a with wait := some w }).andKeeps (keeps_setWaitCode q a code _)
      |>.now
    rw [enterWait_of_not_running h, freezeWait, State.arm_setArm_same _ _ _ (by simpa using ha), arm_setWaitCode,
      s.arm_setArm_same q _ ha, if_neg h, hnow]
    rfl

theorem arm_enterWait_ne {q : Plane} {a b : Nat} (h : b ≠ a) (code : Nat) (w : Wait) (s : State) :
    (enterWait q a code w s).arm q b = s.arm q b := by
  simp only [enterWait]
  split
  · rw [arm_setQState, arm_setWaitCode, s.arm_setArm_ne q _ h]
  · rw [freezeWait, State.arm_setArm_ne _ _ _ h, arm_setWaitCode, s.arm_setArm_ne q _ h]

/-! ### What every Stitch shows at its reach -/

/-- An arm has reached a Stitch: it has left look-ahead, and its end, its tag and, with EVENT, STITCH_EVENT show (R65, R67, R69). -/
def shownStitch (q : Plane) (a : Nat) (st : Stitch) (s : State) : State :=
  let s1 := s.setArm q a ((s.arm q a).after st)
  let s2 := (s1.put q (R.PLN_Q_REACH a) F.PLN_Q_REACH_COUNT ((st.pos + 1 + st.count) % 2 ^ 32)).put q (R.PLN_Q_TAG a)
    F.PLN_Q_TAG_TAG st.tag
  if st.event then raiseQ q a 0 s2 else s2

theorem reachStitch_eq (q : Plane) (a : Nat) (st : Stitch) (s : State) : reachStitch q a st s
    = if st.fault ≠ 0 then stitchFault q a st.fault st (shownStitch q a st s) else reachEffect q a st (shownStitch q a st s) := rfl

/-- The registers that a reach shows in. -/
def reachRegs (a : Nat) (st : Stitch) : List Nat :=
  [R.PLN_Q_REACH a, R.PLN_Q_TAG a] ++ (if st.event then flagSlots (bPQ a) 0 else [])

/-- The end of a Stitch, its tag and its event are shown. -/
def ReachShown (q : Plane) (a : Nat) (st : Stitch) (t : State) : Prop :=
  t.get q (R.PLN_Q_REACH a) F.PLN_Q_REACH_COUNT = (st.pos + 1 + st.count) % 2 ^ 32
    ∧ t.get q (R.PLN_Q_TAG a) F.PLN_Q_TAG_TAG = st.tag % 2 ^ F.PLN_Q_TAG_TAG.width ∧ (st.event = true → t.flagged q (bPQ a) 0)

theorem QueueSlot.not_mem_reachRegs {k : Nat} (h : QueueSlot k) {a : Nat} (h1 : k ≠ R.PLN_Q_REACH a) (h2 : k ≠ R.PLN_Q_TAG a)
    (st : Stitch) : k ∉ reachRegs a st := by
  have hf : k ∉ if st.event then flagSlots (bPQ a) 0 else [] := by
    split
    · exact h.not_mem_flagsQ a (by decide)
    · exact List.not_mem_nil
  simp [reachRegs, h1, h2, hf]

/-- A register of a plane outside the Stitch queues is none of those in which a reach shows. -/
theorem not_mem_reachRegs {k : Nat} (h : 0x600000 ≤ k) (hk : k < 0x681000 ∨ 0x682000 ≤ k) (a : Fin 16) (st : Stitch) :
    k ∉ reachRegs a st := by
  have ha := a.isLt
  have hf : k ∉ if st.event then flagSlots (bPQ a) 0 else [] := by
    split
    · simp only [flagSlots, bPQ, R.PLN_Q_FLAGS, R.PLN_Q_FLAG_CNT0, R.EVM_FLAGS, R.EVM_FLAG_CNT, List.mem_cons, List.not_mem_nil, or_false]
      omega
    · exact List.not_mem_nil
  simp only [reachRegs, List.mem_append, List.mem_cons, List.not_mem_nil, or_false, hf, R.PLN_Q_REACH, R.PLN_Q_TAG]
  omega

/-- `u` is the state in which an arm has just reached a Stitch, before the Stitch has its effect. -/
structure AtReach (q : Plane) (a : Nat) (st : Stitch) (s u : State) : Prop where
  shown : ReachShown q a st u
  frame : PlnOnly q s u (reachRegs a st)
  pln : u.pln q = (s.setArm q a ((s.arm q a).after st)).pln q

theorem atReach_shownStitch (q : Plane) (a : Nat) (st : Stitch) (s : State) : AtReach q a st s (shownStitch q a st s) := by
  have hne : R.PLN_Q_REACH a ≠ R.PLN_Q_TAG a := by simp only [R.PLN_Q_REACH, R.PLN_Q_TAG]; omega
  have hframe : PlnOnly q s (((s.setArm q a ((s.arm q a).after st)).put q (R.PLN_Q_REACH a) F.PLN_Q_REACH_COUNT
      ((st.pos + 1 + st.count) % 2 ^ 32)).put q (R.PLN_Q_TAG a) F.PLN_Q_TAG_TAG st.tag) (reachRegs a st) :=
    (((PlnOnly.refl q s _).setArm a _).put _ _ _ (by simp [reachRegs])).put _ _ _ (by simp [reachRegs])
  have hreach : ∀ v : State, ((v.put q (R.PLN_Q_REACH a) F.PLN_Q_REACH_COUNT ((st.pos + 1 + st.count) % 2 ^ 32)).put q (R.PLN_Q_TAG a)
      F.PLN_Q_TAG_TAG st.tag).get q (R.PLN_Q_REACH a) F.PLN_Q_REACH_COUNT = (st.pos + 1 + st.count) % 2 ^ 32 := fun v => by
    rw [State.get_put_ne _ _ _ _ _ _ hne, State.get_put_same _ _ _ _ _ (by decide)]
    exact Nat.mod_mod _ _
  have htag : ∀ v : State, (v.put q (R.PLN_Q_TAG a) F.PLN_Q_TAG_TAG st.tag).get q (R.PLN_Q_TAG a) F.PLN_Q_TAG_TAG
      = st.tag % 2 ^ F.PLN_Q_TAG_TAG.width := fun v => State.get_put_same _ _ _ _ _ (by decide)
  cases he : st.event with
  | false =>
    simp only [shownStitch, he, Bool.false_eq_true, if_false]
    exact ⟨⟨hreach _, htag _, by simp [he]⟩, hframe, by simp⟩
  | true =>
    simp only [shownStitch, he, if_true]
    refine ⟨⟨?_, ?_, fun _ => flagged_raiseQ q a (by decide) _⟩, ?_, by simp⟩
    · exact (congrArg _ (rd_raiseQ q a (by decide) _ (queueSlot_reach a) q)).trans (hreach _)
    · exact (congrArg _ (rd_raiseQ q a (by decide) _ (queueSlot_tag a) q)).trans (htag _)
    · exact hframe.andKeeps ((keeps_raiseQ q a 0 _).mono fun k hk => by simp [reachRegs, he, hk])

/-! ### What a reach leaves as it was -/

namespace AtReach
variable {q : Plane} {a : Fin 16} {st : Stitch} {s u : State}

theorem arm_same (h : AtReach q a st s u) (hl : (s.pln q).arms.length = 16) : u.arm q a = (s.arm q a).after st :=
  (State.arm_of_pln h.pln a).trans (s.arm_setArm_same q _ (by rw [hl]; exact a.isLt))

theorem arm_ne (h : AtReach q a st s u) {b : Nat} (hb : b ≠ a) : u.arm q b = s.arm q b :=
  (State.arm_of_pln h.pln b).trans (s.arm_setArm_ne q _ hb)

/-- A part of an arm that a reach leaves alone. -/
theorem arm_part (h : AtReach q a st s u) (hl : (s.pln q).arms.length = 16) {α : Type} {f : Arm → α}
    (hf : ∀ x : Arm, f (x.after st) = f x) (b : Nat) : f (u.arm q b) = f (s.arm q b) := by
  by_cases hb : b = a
  · rw [hb, h.arm_same hl, hf]
  · rw [h.arm_ne hb]

theorem arms (h : AtReach q a st s u) (hl : (s.pln q).arms.length = 16) : (u.pln q).arms.length = 16 := h.frame.arms.trans hl

theorem rd_queue (h : AtReach q a st s u) {k : Nat} (hk : QueueSlot k) (h1 : k ≠ R.PLN_Q_REACH a) (h2 : k ≠ R.PLN_Q_TAG a) (r : Plane) :
    u.rd r k = s.rd r k := h.frame.rd r (hk.not_mem_reachRegs h1 h2 st)

theorem rd_outside (h : AtReach q a st s u) {k : Nat} (h1 : 0x600000 ≤ k) (h2 : k < 0x681000 ∨ 0x682000 ≤ k) (r : Plane) :
    u.rd r k = s.rd r k := h.frame.rd r (not_mem_reachRegs h1 h2 a st)

/-- A register of a queue by its place in the queue's block, neither REACH, TAG nor one of the flags. -/
theorem rd_place (h : AtReach q a st s u) (o : Nat) (ho : (o < 10 ∨ 14 < o) ∧ o < 32 ∧ o ≠ 4 ∧ o ≠ 6) (b : Nat) :
    u.rd q (0x681000 + o + 0x20 * b) = s.rd q (0x681000 + o + 0x20 * b) :=
  h.rd_queue (by simp only [QueueSlot]; omega) (by simp only [R.PLN_Q_REACH]; omega) (by simp only [R.PLN_Q_TAG]; omega) q

theorem rd_status (h : AtReach q a st s u) (b : Nat) : u.rd q (R.PLN_Q_STATUS b) = s.rd q (R.PLN_Q_STATUS b) :=
  h.rd_place 5 (by decide) b

theorem qState (h : AtReach q a st s u) (b : Nat) : qState q b u = qState q b s := (qState_of_rd (h.rd_status b)).1
theorem waitCode (h : AtReach q a st s u) (b : Nat) : waitCode q b u = waitCode q b s := (qState_of_rd (h.rd_status b)).2

/-- What was shown stays shown where neither those registers nor the flags of the queue change. -/
theorem stays (h : AtReach q a st s u) {t : State} {ks : List Nat} (ht : PlnOnly q u t ks) (hr : R.PLN_Q_REACH a ∉ ks)
    (hg : R.PLN_Q_TAG a ∉ ks) (hf : (bPQ a).flags ∉ ks) : ReachShown q a st t := by
  obtain ⟨hreach, htag, hflag⟩ := h.shown
  exact ⟨(ht.get q hr _).trans hreach, (ht.get q hg _).trans htag, fun he => ht.flagged hf (hflag he)⟩

theorem armTab (h : AtReach q a st s u) (b : Nat) : u.armTab b = s.armTab b := by rw [State.armTab, h.frame.tab]; rfl

theorem axisPos (h : AtReach q a st s u) (i : Nat) : axisPos q i u = axisPos q i s := by
  simp only [Machine.axisPos, h.frame.stores q, h.frame.act, State.get,
    h.rd_outside (k := R.SLV_RES_SEL) (by decide) (by decide)]

theorem armPos (h : AtReach q a st s u) (b : Nat) : armPos q b u = armPos q b s := by
  simp only [Machine.armPos, h.armTab, h.axisPos]

theorem calWords (h : AtReach q a st s u) : calWords q u = calWords q s := by
  simp only [Machine.calWords, h.rd_outside (k := R.EST_CAL_GEN) (by decide) (by decide), h.frame.est, h.frame.stores q,
    h.frame.stores.swords]

theorem partNow (h : AtReach q a st s u) (hl : (s.pln q).arms.length = 16) : partNow q a u = partNow q a s := by
  have hown : ∀ k, auxOwner k u = auxOwner k s := fun k => by simp only [auxOwner, h.armTab]
  have haux : ∀ k, auxPos q k u = auxPos q k s := fun k => by
    simp only [auxPos, hown, h.axisPos, h.arm_part hl (f := Arm.joints) (fun _ => rfl)]
  simp only [Machine.partNow, h.arm_part hl (f := Arm.coupled) (fun _ => rfl), h.arm_part hl (f := Arm.part) (fun _ => rfl), h.calWords,
    h.armTab, haux]

theorem rd_zoneBit (h : AtReach q a st s u) (b : Fin 16) (z : Nat) : u.rd q (zoneBit b z).1 = s.rd q (zoneBit b z).1 := by
  have hb := b.isLt
  refine h.rd_outside ?_ (.inl ?_) q <;>
  · simp only [zoneBit]
    split_ifs <;> simp only [R.PLN_ARM_ZHELD0, R.PLN_ARM_ZHELD1, R.PLN_ARM_ZHELD2] <;> omega

theorem holdsZone (h : AtReach q a st s u) (z : Nat) : holdsZone q a z u = holdsZone q a z s := by
  simp only [Machine.holdsZone, h.rd_zoneBit a z]

theorem layerRecord (h : AtReach q a st s u) (hl : (s.pln q).arms.length = 16) : layerRecord q a st u = layerRecord q a st s := by
  have h0 : u.rd q (R.PLN_ARM_ZHELD0 a) = s.rd q (R.PLN_ARM_ZHELD0 a) := h.rd_zoneBit a 0
  have h1 : u.rd q (R.PLN_ARM_ZHELD1 a) = s.rd q (R.PLN_ARM_ZHELD1 a) := h.rd_zoneBit a 36
  have h2 : u.rd q (R.PLN_ARM_ZHELD2 a) = s.rd q (R.PLN_ARM_ZHELD2 a) := h.rd_zoneBit a 64
  have hcmd : cmdJoints q a u = cmdJoints q a s := by
    simp only [cmdJoints, h.arm_part hl (f := Arm.kind) (fun _ => rfl), h.arm_part hl (f := Arm.joints) (fun _ => rfl), h.armPos]
  simp only [Machine.layerRecord, h.armTab, h.frame.now, h.frame.n, hcmd, h.arm_part hl (f := Arm.group) (fun _ => rfl),
    h.arm_part hl (f := Arm.pose) (fun _ => rfl), h.arm_part hl (f := Arm.coupled) (fun _ => rfl),
    h.rd_outside (k := R.EST_CAL_GEN) (by decide) (by decide), h0, h1, h2]

theorem ckpFull (h : AtReach q a st s u) (hl : (s.pln q).arms.length = 16) : ckpFull q a u = ckpFull q a s := by
  have hcfg : u.rd q (R.PLN_CKP_CFG a) = s.rd q (R.PLN_CKP_CFG a) := h.rd_place 22 (by decide) a
  have hwr : u.rd q (R.PLN_CKP_WR a) = s.rd q (R.PLN_CKP_WR a) := h.rd_place 23 (by decide) a
  have hrd : u.rd q (R.PLN_CKP_RD a) = s.rd q (R.PLN_CKP_RD a) := h.rd_place 24 (by decide) a
  unfold Machine.ckpFull State.get
  rw [hcfg, hwr, hrd, h.arm_part hl (f := Arm.records) (fun _ => rfl)]

theorem is_ckpFull (h : AtReach q a st s u) :
    u.is q (R.PLN_Q_CFG a) F.PLN_Q_CFG_CKP_FULL = s.is q (R.PLN_Q_CFG a) F.PLN_Q_CFG_CKP_FULL := by
  have : u.rd q (R.PLN_Q_CFG a) = s.rd q (R.PLN_Q_CFG a) := h.rd_place 1 (by decide) a
  simp only [State.is, State.get, this]

theorem loopBarred (h : AtReach q a st s u) {i : Nat} (hi : i < 32) : loopBarred q a i u = loopBarred q a i s := by
  simp only [Machine.loopBarred, h.qState, State.is, State.get,
    h.rd_outside (k := R.PLN_PROC_CFG i) (by simp only [R.PLN_PROC_CFG]; omega) (.inl (by simp only [R.PLN_PROC_CFG]; omega))]

theorem ioLevel (h : AtReach q a st s u) (w : Word) : ioLevel q a w u = ioLevel q a w s := by
  simp only [Machine.ioLevel, h.frame.fio, h.frame.cbus, h.frame.stores q, h.armTab]

/-- Whether a member of the group still has motion does not depend on the arm that asks. -/
theorem groupUneven (h : AtReach q a st s u) (hl : (s.pln q).arms.length = 16) : groupUneven q a u = groupUneven q a s := by
  have hm : mates (u.arm q a) a = mates (s.arm q a) a := h.arm_part hl (f := fun x => mates x a) (fun _ => rfl) a
  have hb : ∀ b ∈ mates (s.arm q a) a, (u.arm q b).ahead = (s.arm q b).ahead := fun b hb => by rw [h.arm_ne (mem_mates.1 hb).2]
  rw [Bool.eq_iff_iff]
  simp only [Machine.groupUneven, hm, List.any_eq_true]
  exact exists_congr fun b => and_congr_right fun hm => by rw [hb b hm]

end AtReach

end Sys2Proof.Machine

/-! ## Stitches with an effect where they are reached (R69 to R92, R103, R105) -/

namespace Sys2Proof.Machine

/-- The arm reaches `st` in `s`: it is its next Stitch, its place is passed, and no further Stitch is to be fetched by its row. -/
structure Reaching (q : Plane) (a : Fin 16) (st : Stitch) (s : State) : Prop where
  chanter : s.chanter = some q
  arms : (s.pln q).arms.length = 16
  reaches : reaches q a s = true
  next : reachable (s.arm q a) = some st
  fetched : ringOpcode q a s = some st.op → fetchOne q a s = none

/-- What a Stitch's row does on the Chanter; that of WAITIO ends with the first evaluation. -/
def stitchDone (q : Plane) (a : Nat) (op : Opcode) (s : State) : State :=
  if op = .waitio then evalWaitio q a (runStitch q a op s) else runStitch q a op s

theorem exec_stitchRows {q : Plane} {a : Fin 16} {s : State} (hc : s.chanter = some q) {cmd : Instr} {op : Opcode}
    (h : (cmd, op) ∈ stitchRows a) : exec cmd s = settled (stitchDone q a op s) := by
  have key : ∀ e ∈ stitchRows a, exec e.1 s = settled (stitchDone q a e.2 s) := by
    simp only [stitchRows, List.forall_mem_cons, List.not_mem_nil, false_implies, implies_true, and_true]
    and_intros <;> exact congrArg settled (State.onChanter_of hc _)
  exact key _ h

/-- A wait keeps an arm from reaching anything (R69). -/
theorem wait_of_reachable {ar : Arm} {st : Stitch} (h : reachable ar = some st) : ar.wait = none := by
  unfold reachable at h
  split at h
  · cases h
  · split at h
    · cases h
    · rename_i hw; simpa using hw

section
variable {q : Plane} {a : Fin 16} {st : Stitch} {s : State} {cmd : Instr}

theorem Reaching.wait (h : Reaching q a st s) : (s.arm q a).wait = none := wait_of_reachable h.next

theorem Reaching.runStitch (h : Reaching q a st s) : runStitch q a st.op s = reachStitch q a st s := by
  have hs : (if (qState q a s == 1 || qState q a s == 2 || qState q a s == 3 || qState q a s == 4) && ringOpcode q a s == some st.op
      then (fetchOne q a s).getD s else s) = s := by
    split
    · next hif =>
      rw [h.fetched (beq_iff_eq.1 (Bool.and_eq_true_iff.1 hif).2)]; rfl
    · rfl
  simp only [Machine.runStitch, hs, h.reaches, h.next, if_true]

/-- A Stitch that passed its checks has its effect at its reach. -/
theorem Reaching.does_effect (h : Reaching q a st s) (hm : (cmd, st.op) ∈ stitchRows a) (hw : st.op ≠ .waitio) (h0 : st.fault = 0)
    {P : State → Prop} (hP : ∀ u, AtReach q a st s u → P (belRecheck (reachEffect q a st u))) : Does cmd s P := by
  have he := exec_stitchRows h.chanter hm
  rw [stitchDone, if_neg hw, h.runStitch, reachStitch_eq, if_neg (by simp [h0])] at he
  exact does_of_exec he (hP _ (atReach_shownStitch q a st s))

/-! ### Stitches that change only their arm -/

/-- Only the arm has changed, to `x`, besides what every reach shows. -/
def ReachedAs (q : Plane) (a : Fin 16) (st : Stitch) (s : State) (x : Arm) (t : State) : Prop :=
  ReachShown q a st t ∧ t.arm q a = x ∧ qState q a t = qState q a s ∧ SameStores s t ∧ RegsKept q s t (reachRegs a st)

theorem AtReach.reachedAs {u t : State} {x : Arm} (h : AtReach q a st s u) (ht : PlnOnly q u t []) (hx : t.arm q a = x) :
    ReachedAs q a st s x t := by
  have hf := h.frame.trans (ht.mono (ls := reachRegs a st) (by simp))
  refine ⟨h.stays ht (by simp) (by simp) (by simp), hx, ?_, hf.stores, hf.regs⟩
  exact (qState_of_rd (ht.rd q (by simp))).1.trans (h.qState a)

/-- A Stitch whose effect is a change of its arm. -/
theorem Reaching.does_setArm (h : Reaching q a st s) (hm : (cmd, st.op) ∈ stitchRows a) (hw : st.op ≠ .waitio) (h0 : st.fault = 0)
    (x : Arm) (heff : ∀ u, AtReach q a st s u → reachEffect q a st u = u.setArm q a x) : Does cmd s (ReachedAs q a st s x) := by
  refine h.does_effect hm hw h0 fun u hu => hu.reachedAs ?_ ?_
  · rw [heff u hu]
    exact ((PlnOnly.refl q u []).setArm a x).recheck
  · rw [State.arm_belRecheck, heff u hu, u.arm_setArm_same q x (by rw [hu.arms h.arms]; exact a.isLt)]

/-- A modal Stitch, and NOP, have no effect beyond what their reach shows (R70, R92). -/
theorem Reaching.does_modal (h : Reaching q a st s) (h0 : st.fault = 0)
    (hm : (cmd, st.op) ∈ [(.stitchNop a, .nop), (.stitchFrame a, .frame), (.stitchLimit a, .limit), (.stitchBlend a, .blend)]) :
    Does cmd s (ReachedAs q a st s ((s.arm q a).after st)) := by
  have hrow : (cmd, st.op) ∈ stitchRows a ∧ st.op ≠ .waitio ∧ ∀ u, reachEffect q a st u = u := by
    simp only [List.mem_cons, Prod.mk.injEq, List.not_mem_nil, or_false] at hm
    rcases hm with ⟨rfl, hop⟩ | ⟨rfl, hop⟩ | ⟨rfl, hop⟩ | ⟨rfl, hop⟩ <;>
      exact ⟨by simp [hop, stitchRows], by simp [hop], fun u => by simp only [reachEffect, hop]⟩
  obtain ⟨hrow, hw, heff⟩ := hrow
  refine h.does_effect hrow hw h0 fun u hu => ?_
  rw [heff u]
  exact hu.reachedAs (PlnOnly.refl q u []).recheck ((State.arm_belRecheck ..).trans (hu.arm_same h.arms))

/-- A motion Stitch in space begins its motion (R73 to R75). -/
theorem Reaching.does_motion (h : Reaching q a st s) (h0 : st.fault = 0)
    (hm : (cmd, st.op) ∈ [(.stitchLine a, .line), (.stitchArc a, .arc), (.stitchSpline a, .spline)]) :
    Does cmd s (ReachedAs q a st s { (s.arm q a).after st with cur := some st.pos, kind := 1, tool := st.modal.tool }) := by
  have hrow : (cmd, st.op) ∈ stitchRows a ∧ st.op ≠ .waitio
      ∧ ∀ u, reachEffect q a st u = u.setArm q a { u.arm q a with cur := some st.pos, kind := 1, tool := st.modal.tool } := by
    simp only [List.mem_cons, Prod.mk.injEq, List.not_mem_nil, or_false] at hm
    rcases hm with ⟨rfl, hop⟩ | ⟨rfl, hop⟩ | ⟨rfl, hop⟩ <;>
      exact ⟨by simp [hop, stitchRows], by simp [hop], fun u => by simp only [reachEffect, hop]⟩
  obtain ⟨hrow, hw, heff⟩ := hrow
  exact h.does_setArm hrow hw h0 _ fun u hu => by rw [heff u, hu.arm_same h.arms]

theorem Reaching.does_joint (h : Reaching q a st s) (h0 : st.fault = 0) (hop : st.op = .joint) : Does (.stitchJoint a) s
    (ReachedAs q a st s { (s.arm q a).after st with cur := some st.pos, kind := 2, tool := st.modal.tool
                                                    moved := (s.arm q a).moved ||| bitsAt (opW st.ops 1) 8 8 }) :=
  h.does_setArm (by simp [hop, stitchRows]) (by simp [hop]) h0 _ fun u hu => by
    simp only [reachEffect, hop, hu.arm_same h.arms, Arm.after]

theorem Reaching.does_couple (h : Reaching q a st s) (h0 : st.fault = 0) (hop : st.op = .couple) : Does (.stitchCouple a) s
    (ReachedAs q a st s { (s.arm q a).after st with coupled := bitsAt (opW st.ops 1) 0 32, part := partNow q a s }) :=
  h.does_setArm (by simp [hop, stitchRows]) (by simp [hop]) h0 _ fun u hu => by
    simp only [reachEffect, hop, hu.arm_same h.arms, hu.partNow h.arms]

theorem Reaching.does_trig (h : Reaching q a st s) (h0 : st.fault = 0) (hop : st.op = .trig) : Does (.stitchTrig a) s
    (ReachedAs q a st s { (s.arm q a).after st with
      trigs := (s.arm q a).trigs.map (fun x => if x.pos = st.pos then { x with armed := true } else x) }) :=
  h.does_setArm (by simp [hop, stitchRows]) (by simp [hop]) h0 _ fun u hu => by
    simp only [reachEffect, hop, hu.arm_same h.arms, Arm.after]

/-! ### Stitches that change the planner beside their arm -/

/-- A Stitch whose effect is a change of the planner that leaves the arms alone. -/
theorem AtReach.reachedAs_setPln {u : State} (h : AtReach q a st s u) (hl : (s.pln q).arms.length = 16) {p : PlnSt}
    (hp : p.arms = (u.pln q).arms) : ReachedAs q a st s ((s.arm q a).after st) (belRecheck (u.setPln q p)) := by
  refine h.reachedAs ((PlnOnly.refl q u []).setPln p (by rw [hp])).recheck ?_
  rw [State.arm_belRecheck, ← h.arm_same hl, State.arm, State.pln_setPln, hp]; rfl

theorem Reaching.does_calibApply (h : Reaching q a st s) (h0 : st.fault = 0) (hop : st.op = .calibApply) :
    Does (.stitchCalibApply a) s (fun t => (t.pln q).calib = true ∧ ReachedAs q a st s ((s.arm q a).after st) t) := by
  refine h.does_effect (by simp [hop, stitchRows]) (by simp [hop]) h0 fun u hu => ?_
  simp only [reachEffect, hop]
  exact ⟨by simp, hu.reachedAs_setPln h.arms rfl⟩

theorem Reaching.does_mark (h : Reaching q a st s) (h0 : st.fault = 0) (hop : st.op = .mark) : Does (.stitchMark a) s (fun t =>
    t.rd q (R.PLN_Q_MARK a) = opW st.ops 1 ∧ ReachShown q a st t ∧ t.arm q a = (s.arm q a).after st ∧ SameStores s t
      ∧ RegsKept q s t (R.PLN_Q_MARK a :: reachRegs a st)) := by
  refine h.does_effect (by simp [hop, stitchRows]) (by simp [hop]) h0 fun u hu => ?_
  simp only [reachEffect, hop]
  have ht : PlnOnly q u (belRecheck (u.wr q (R.PLN_Q_MARK a) (opW st.ops 1))) [R.PLN_Q_MARK a] :=
    ((PlnOnly.refl q u _).wr _ _ (by simp)).recheck
  have hf := hu.frame.append ht
  refine ⟨by rw [State.rd_belRecheck, State.rd_wr_same], hu.stays ht ?_ ?_ ?_, ?_, hf.stores, hf.regs.mono (by simp [or_comm])⟩
  · simp only [R.PLN_Q_REACH, R.PLN_Q_MARK, List.mem_singleton]; omega
  · simp only [R.PLN_Q_TAG, R.PLN_Q_MARK, List.mem_singleton]; omega
  · simp only [bPQ, R.PLN_Q_FLAGS, R.PLN_Q_MARK, List.mem_singleton]; omega
  · rw [State.arm_belRecheck, State.arm_wr, hu.arm_same h.arms]

/-! ### SETIO (R89, R91) -/

theorem testBit_clrBitN (n j i : Nat) : (clrBitN n j).testBit i = (n.testBit i && !decide (i = j)) := by
  unfold clrBitN
  rw [bitN_eq_testBit]
  split
  · next h =>
    have hx : ∀ k, (n ^^^ 2 ^ j).testBit k = (n.testBit k && !decide (k = j)) := fun k => by
      rw [Nat.testBit_xor, Nat.testBit_two_pow]
      by_cases hk : k = j
      · subst hk; simp [h]
      · simp [hk, Ne.symm hk]
    have hn : (n ^^^ 2 ^ j) + 2 ^ j = n := Nat.eq_of_testBit_eq fun k => by
      rw [testBit_add_two_pow (by simp [hx]), hx]
      by_cases hk : k = j
      · subst hk; simp [h]
      · simp [hk]
    rw [← hx i]
    congr 1
    omega
  · next h =>
    by_cases hij : i = j
    · subst hij; simpa using h
    · simp [hij]

/-- One bit of a number is put. -/
theorem bitN_put (v : Bool) (n j i : Nat) : bitN (if v then setBitN n j else clrBitN n j) i = if i = j then v else bitN n i := by
  rw [bitN_eq_testBit, bitN_eq_testBit]
  cases v
  · by_cases h : i = j <;> simp [testBit_clrBitN, h]
  · by_cases h : i = j <;> simp [testBit_setBitN, h]

theorem Reaching.does_setio_own (h : Reaching q a st s) (h0 : st.fault = 0) (hop : st.op = .setio)
    (hown : bitsAt (opW st.ops 1) 34 2 = 0) : Does (.stitchSetio a) s (fun t =>
      bitN (t.pln q).douts (bitsAt (opW st.ops 1) 0 4) = bitN (opW st.ops 2).toNat 0
      ∧ (∀ k, k ≠ bitsAt (opW st.ops 1) 0 4 → bitN (t.pln q).douts k = bitN (s.pln q).douts k)
      ∧ ReachedAs q a st s ((s.arm q a).after st) t) := by
  refine h.does_effect (by simp [hop, stitchRows]) (by simp [hop]) h0 fun u hu => ?_
  simp only [reachEffect, hop, reachSetio, if_pos hown]
  have hd : (u.pln q).douts = (s.pln q).douts := by rw [hu.pln, State.pln_setArm]
  refine ⟨?_, fun k hk => ?_, hu.reachedAs_setPln h.arms rfl⟩
  · rw [State.pln_belRecheck, State.pln_setPln, bitN_put, if_pos rfl]
  · rw [State.pln_belRecheck, State.pln_setPln, bitN_put, if_neg hk, hd]

/-- The planner lies beside the store. -/
theorem State.pln_sput {s : State} {q : Plane} {x : Nat} (v : Word) (hb : s.isBad q (x / 2) = false) (r : Plane) :
    (s.sput q x v).pln r = s.pln r := by
  simp only [State.sput, hb, Bool.false_eq_true, if_false]
  split
  · have hm : ∀ u : State, (u.markDirty q x).pln r = u.pln r := fun u => by
      simp only [State.markDirty]
      split
      · split
        · rfl
        · cases q <;> cases r <;> rfl
      · rfl
    rw [hm]
    cases q <;> cases r <;> rfl
  · rfl

theorem State.isBad_of_sound {s : State} {q : Plane} (h : (s.plane q).store.bad = []) (p : Nat) : s.isBad q p = false := by
  simp [State.isBad, h]

theorem PlnOnly.store {s t : State} {ks : List Nat} (h : PlnOnly q s t ks) (r : Plane) : (t.plane r).store = (s.plane r).store := by
  have := congrArg (fun x => (x.plane r).store) h.inner
  cases q <;> cases r <;> exact this

theorem Reaching.does_setio_station (h : Reaching q a st s) (h0 : st.fault = 0) (hop : st.op = .setio)
    (hst : bitsAt (opW st.ops 1) 34 2 ≠ 0) {b : StationBit} (hb : stationBit (s.armTab a).outs (opW st.ops 1) = some b) (h36 : b.bit < 36)
    (hbad : (s.plane q).store.bad = []) (hp : s.cbus.txBase + b.place < storeWords) : Does (.stitchSetio a) s (fun t =>
      let p := s.cbus.txBase + b.place
      bitN (t.sw q p).toNat b.bit = bitN (opW st.ops 2).toNat 0
      ∧ (∀ k, k ≠ b.bit → bitN (t.sw q p).toNat k = bitN (s.sw q p).toNat k)
      ∧ (∀ r x, (r ≠ q ∨ x ≠ p) → t.sw r x = s.sw r x) ∧ ReachShown q a st t ∧ t.arm q a = (s.arm q a).after st
      ∧ RegsKept q s t (reachRegs a st)) := by
  refine h.does_effect (by simp [hop, stitchRows]) (by simp [hop]) h0 fun u hu => ?_
  have hbit : stationBit (u.armTab a).outs (opW st.ops 1) = some b := by rw [hu.armTab, hb]
  simp only [reachEffect, hop, reachSetio, if_neg hst, hbit, hu.frame.cbus, putStoreBit, hu.frame.stores q]
  generalize hpl : s.cbus.txBase + b.place = p at hp ⊢
  generalize hv : bitN (opW st.ops 2).toNat 0 = v
  generalize hw : wordN (if v then setBitN (s.sw q p).toNat b.bit else clrBitN (s.sw q p).toNat b.bit) = w
  have hbadu : u.isBad q (p / 2) = false := State.isBad_of_sound (by rw [hu.frame.store, hbad]) _
  have hsw : ∀ r x, (belRecheck (u.sput q p w)).sw r x = if r = q ∧ x = p then w else s.sw r x := fun r x => by
    rw [← hu.frame.stores r x, ← u.sw_sput q p w hp hbadu r x]
    cases r <;> rfl
  have hrd : ∀ r k, (belRecheck (u.sput q p w)).rd r k = u.rd r k := fun r k => by
    rw [State.rd_belRecheck, u.rd_sput q p w hbadu]
  have hbits : ∀ k, k < 36 → bitN w.toNat k = if k = b.bit then v else bitN (s.sw q p).toNat k := fun k hk => by
    rw [← bitN_put, bitN_eq_testBit, bitN_eq_testBit, ← hw, testBit_wordN hk]
  obtain ⟨hreach, htag, hflag⟩ := hu.shown
  refine ⟨?_, fun k hk => ?_, fun r x hrx => ?_, ⟨?_, ?_, fun he => ?_⟩, ?_, fun r k hk => (hrd r k).trans (hu.frame.regs r k hk)⟩
  · rw [hsw, if_pos ⟨rfl, rfl⟩, hbits _ h36, if_pos rfl]
  · rw [hsw, if_pos ⟨rfl, rfl⟩]
    by_cases hk36 : k < 36
    · rw [hbits k hk36, if_neg hk]
    · have hlt : ∀ x : Word, x.toNat.testBit k = false := fun x =>
        Nat.testBit_lt_two_pow (lt_of_lt_of_le x.isLt (Nat.pow_le_pow_right (by decide) (by omega)))
      rw [bitN_eq_testBit, bitN_eq_testBit, hlt, hlt]
  · rw [hsw, if_neg (by tauto)]
  · exact (congrArg _ (hrd q _)).trans hreach
  · exact (congrArg _ (hrd q _)).trans htag
  · exact State.flagged_of_rd (hrd q _) (hflag he)
  · rw [State.arm_belRecheck, State.arm_of_pln (State.pln_sput w hbadu q), hu.arm_same h.arms]

end

end Sys2Proof.Machine

namespace Sys2Proof.Machine

/-! ### LAYER (R103, R105) -/

/-- The arm after a LAYER has been reached: its record is composed, and its number is the last one (R103, R352). -/
def Arm.logged (ar : Arm) (st : Stitch) (record : List Word) : Arm :=
  { ar.after st with records := ar.records ++ [record], layer := some (opW st.ops 1) }

section
variable {q : Plane} {a : Fin 16} {st : Stitch} {s : State} {cmd : Instr}

/-- LAYER logs its record and asks for the calibration; then the arm waits if the ring is full and its configuration says so. -/
theorem AtReach.layer {u : State} (h : AtReach q a st s u) (hl : (s.pln q).arms.length = 16) : ∃ v, PlnOnly q u v []
    ∧ v.arm q a = (s.arm q a).logged st (Machine.layerRecord q a st s)
    ∧ (v.pln q).calib = ((s.pln q).calib || bitN (opW st.ops 2).toNat 0 || s.ag q R.EST_CFG F.EST_CFG_APPLY_AT_LAYER == 1)
    ∧ reachLayer q a st u = if Machine.ckpFull q a s && s.is q (R.PLN_Q_CFG a) F.PLN_Q_CFG_CKP_FULL then waitCkp q a st v else v := by
  have ha : (a : Nat) < (u.pln q).arms.length := by rw [h.arms hl]; exact a.isLt
  have hx : (u.arm q a).records = (s.arm q a).records := h.arm_part hl (f := Arm.records) (fun _ => rfl) a
  have hcal : (u.pln q).calib = (s.pln q).calib := by rw [h.pln, State.pln_setArm]
  have hag : ∀ x, (u.setArm q a x).ag q R.EST_CFG F.EST_CFG_APPLY_AT_LAYER = s.ag q R.EST_CFG F.EST_CFG_APPLY_AT_LAYER := fun x => by
    rw [State.ag, (h.frame.setArm a x).act]; rfl
  have harm : (u.setArm q a { u.arm q a with records := (u.arm q a).records ++ [Machine.layerRecord q a st u]
                                             layer := some (opW st.ops 1) }).arm q a
      = (s.arm q a).logged st (Machine.layerRecord q a st s) := by
    rw [u.arm_setArm_same q _ ha, h.arm_same hl, h.layerRecord hl]; rfl
  have hframe : PlnOnly q u (u.setArm q a { u.arm q a with records := (u.arm q a).records ++ [Machine.layerRecord q a st u]
                                                           layer := some (opW st.ops 1) }) [] := (PlnOnly.refl q u []).setArm a _
  simp only [reachLayer, h.ckpFull hl, h.is_ckpFull, hag]
  cases hb : (bitN (opW st.ops 2).toNat 0 || s.ag q R.EST_CFG F.EST_CFG_APPLY_AT_LAYER == 1) with
  | true =>
    refine ⟨_, hframe.setPln _ ?_, ?_, ?_, rfl⟩
    · rfl
    · rw [← harm]
      simp [State.arm]
    · rw [Bool.or_assoc, hb]; simp
  | false =>
    refine ⟨_, hframe, harm, ?_, rfl⟩
    rw [Bool.or_assoc, hb]
    simp [hcal]

theorem Reaching.does_layer (h : Reaching q a st s) (h0 : st.fault = 0) (hop : st.op = .layer)
    (hfull : (ckpFull q a s && s.is q (R.PLN_Q_CFG a) F.PLN_Q_CFG_CKP_FULL) = false) : Does (.stitchLayer a) s (fun t =>
      ReachedAs q a st s ((s.arm q a).logged st (layerRecord q a st s)) t ∧ (t.pln q).calib = ((s.pln q).calib
          || bitN (opW st.ops 2).toNat 0 || s.ag q R.EST_CFG F.EST_CFG_APPLY_AT_LAYER == 1)) := by
  refine h.does_effect (by simp [hop, stitchRows]) (by simp [hop]) h0 fun u hu => ?_
  obtain ⟨v, hv, harm, hcal, heq⟩ := hu.layer h.arms
  simp only [reachEffect, hop, heq, hfull, Bool.false_eq_true, if_false]
  exact ⟨hu.reachedAs hv.recheck ((State.arm_belRecheck ..).trans harm), (congrArg PlnSt.calib (v.pln_belRecheck q)).trans hcal⟩

/-- The wait of a LAYER whose record has no room. -/
def ckpWait (st : Stitch) : Wait := ⟨[], none, none, none, st.pos, st.tag⟩

theorem status_ne_reach (a b : Nat) : R.PLN_Q_REACH a ≠ R.PLN_Q_STATUS b := by simp only [R.PLN_Q_REACH, R.PLN_Q_STATUS]; omega
theorem status_ne_tag (a b : Nat) : R.PLN_Q_TAG a ≠ R.PLN_Q_STATUS b := by simp only [R.PLN_Q_TAG, R.PLN_Q_STATUS]; omega
theorem flags_ne_status (a b : Nat) : (bPQ a).flags ≠ R.PLN_Q_STATUS b := fun e => bPQ_flags_not_queueSlot a (e ▸ queueSlot_status b)

/-- A change of the queue's state leaves what the reach has shown. -/
theorem AtReach.stays_status {u t : State} (h : AtReach q a st s u) (ht : PlnOnly q u t [R.PLN_Q_STATUS a]) : ReachShown q a st t :=
  h.stays ht (by simpa using status_ne_reach a a) (by simpa using status_ne_tag a a) (by simpa using flags_ne_status a a)

theorem Reaching.does_layer_full_rests (h : Reaching q a st s) (h0 : st.fault = 0) (hop : st.op = .layer)
    (hfull : (ckpFull q a s && s.is q (R.PLN_Q_CFG a) F.PLN_Q_CFG_CKP_FULL) = true) (h1 : qState q a s = 1)
    (hr : (s.arm q a).rests = true) : Does (.stitchLayer a) s (fun t => ReachShown q a st t
      ∧ t.arm q a = { (s.arm q a).logged st (layerRecord q a st s) with wait := some (ckpWait st) } ∧ qState q a t = 2
      ∧ waitCode q a t = 5 ∧ SameStores s t ∧ RegsKept q s t (R.PLN_Q_STATUS a :: reachRegs a st)) := by
  refine h.does_effect (by simp [hop, stitchRows]) (by simp [hop]) h0 fun u hu => ?_
  obtain ⟨v, hv, harm, -, heq⟩ := hu.layer h.arms
  have hv1 : qState q a v = 1 := (qState_of_rd (hv.rd q (by simp))).1.trans ((hu.qState a).trans h1)
  have hvr : (v.arm q a).rests = true := by rw [harm]; exact hr
  have hwait : waitCkp q a st v = enterWait q a 5 (ckpWait st) v := if_neg (by simp [hvr])
  simp only [reachEffect, hop, heq, hfull, if_true, hwait]
  have ht : PlnOnly q u (belRecheck (enterWait q a 5 (ckpWait st) v)) [R.PLN_Q_STATUS a] :=
    (hv.mono (by simp)).trans (plnOnly_enterWait q a 5 _ v).recheck
  have hf := hu.frame.append ht
  refine ⟨hu.stays_status ht, ?_, ?_, ?_, hf.stores, hf.regs.mono (by simp [or_comm])⟩
  · rw [State.arm_belRecheck, arm_enterWait (by rw [hv.arms, hu.arms h.arms]; exact a.isLt), harm, if_pos hv1]
  · exact (State.get_belRecheck ..).trans ((qState_enterWait q a 5 _ v).trans (if_pos hv1))
  · exact (State.get_belRecheck ..).trans (waitCode_enterWait q a (by decide) _ v)

theorem Reaching.does_layer_full_moves (h : Reaching q a st s) (h0 : st.fault = 0) (hop : st.op = .layer)
    (hfull : (ckpFull q a s && s.is q (R.PLN_Q_CFG a) F.PLN_Q_CFG_CKP_FULL) = true) (h1 : qState q a s = 1)
    (hr : (s.arm q a).rests = false) : Does (.stitchLayer a) s (fun t => ReachShown q a st t
      ∧ (t.arm q a).records = (s.arm q a).records ++ [layerRecord q a st s] ∧ (t.arm q a).wait = some (ckpWait st)
      ∧ (t.arm q a).ckpStop = true ∧ (t.arm q a).stopping = true ∧ qState q a t = 1 ∧ SameStores s t
      ∧ RegsKept q s t (reachRegs a st)) := by
  refine h.does_effect (by simp [hop, stitchRows]) (by simp [hop]) h0 fun u hu => ?_
  obtain ⟨v, hv, harm, -, heq⟩ := hu.layer h.arms
  have hv1 : qState q a v = 1 := (qState_of_rd (hv.rd q (by simp))).1.trans ((hu.qState a).trans h1)
  have hvr : (v.arm q a).rests = false := by rw [harm]; exact hr
  have hvl : (v.pln q).arms.length = 16 := hv.arms.trans (hu.arms h.arms)
  have hwait : waitCkp q a st v
      = (stopPath q a v).setArm q a { (stopPath q a v).arm q a with wait := some (ckpWait st), ckpStop := true } :=
    if_pos ⟨hv1, by simp [hvr]⟩
  obtain ⟨ps, hstop⟩ := arm_stopPath a.isLt hvl
  have hsl : (a : Nat) < ((stopPath q a v).pln q).arms.length := by rw [(plnOnly_stopPath q a v).arms, hvl]; exact a.isLt
  have ht : PlnOnly q u (belRecheck (waitCkp q a st v)) [] := by
    rw [hwait]
    exact ((hv.trans (plnOnly_stopPath q a v)).setArm a _).recheck
  have htarm : (belRecheck (waitCkp q a st v)).arm q a
      = { ((s.arm q a).logged st (layerRecord q a st s)).stopped ps with wait := some (ckpWait st), ckpStop := true } := by
    rw [State.arm_belRecheck, hwait, State.arm_setArm_same _ _ _ hsl, hstop a, if_pos (by simp), harm]
  simp only [reachEffect, hop, heq, hfull, if_true]
  obtain ⟨hshown, -, hst, hstores, hregs⟩ := hu.reachedAs ht rfl
  rw [htarm]
  exact ⟨hshown, rfl, rfl, rfl, rfl, hst.trans h1, hstores, hregs⟩

/-! ### ZONE_LEAVE (R88) -/

theorem zoneBit_lt {z : Nat} (h : z < 80) (a : Nat) : (zoneBit a z).2 < 36 := by
  unfold zoneBit
  split_ifs <;> simp only <;> omega

theorem zoneBit_fst_bounds (a : Fin 16) (z : Nat) : 0x680200 ≤ (zoneBit a z).1 ∧ (zoneBit a z).1 < 0x681000 := by
  have ha := a.isLt
  unfold zoneBit
  split_ifs <;> simp only [R.PLN_ARM_ZHELD0, R.PLN_ARM_ZHELD1, R.PLN_ARM_ZHELD2] <;> omega

theorem plnOnly_releaseZone (q : Plane) (a z : Nat) (s : State) :
    PlnOnly q s (releaseZone q a z s) [(zoneBit a z).1, R.PLN_ZONE z] := by
  have h : PlnOnly q s (freeZone q z (s.put q (zoneBit a z).1 ⟨(zoneBit a z).2, (zoneBit a z).2⟩ 0)) [(zoneBit a z).1, R.PLN_ZONE z] :=
    ((PlnOnly.refl q s _).put _ _ _ (by simp)).wr _ _ (by simp)
  simp only [releaseZone]
  split
  · exact h
  · refine h.setPln _ ?_
    rfl

@[simp] theorem arm_releaseZone (q : Plane) (a z b : Nat) (s : State) : (releaseZone q a z s).arm q b = s.arm q b := by
  simp only [releaseZone]
  split <;> simp [freeZone, State.arm]

theorem rd_releaseZone (q : Plane) (a z : Nat) (s : State) (k : Nat) : (releaseZone q a z s).rd q k
    = (freeZone q z (s.put q (zoneBit a z).1 ⟨(zoneBit a z).2, (zoneBit a z).2⟩ 0)).rd q k := by
  simp only [releaseZone]
  split
  · rfl
  · rw [State.rd_setPln]

/-- A released zone is not held any more, and has no holder. -/
theorem released (q : Plane) (a : Fin 16) {z : Nat} (hz : z < 80) (s : State) : holdsZone q a z (releaseZone q a z s) = false
    ∧ (releaseZone q a z s).get q (R.PLN_ZONE z) F.PLN_ZONE_HELD = 0 := by
  have hne : (zoneBit a z).1 ≠ R.PLN_ZONE z := by
    have := (zoneBit_fst_bounds a z).1
    simp only [R.PLN_ZONE]; omega
  constructor
  · rw [holdsZone, rd_releaseZone, freeZone, State.rd_wr_ne _ _ _ _ hne, State.put, State.rd_wr_same, bitN_eq_testBit,
      Fld.testBit_set _ ⟨le_refl _, zoneBit_lt hz a⟩]
    simp
  · rw [State.get, rd_releaseZone, freeZone, State.rd_wr_same, Fld.get_set_ne _ _ (by decide) (.inr (by decide)),
      Fld.get_set_ne _ _ (by decide) (.inr (by decide)), Fld.get_set_same _ (by decide)]
    rfl

theorem Reaching.does_zoneLeave_held (h : Reaching q a st s) (h0 : st.fault = 0) (hop : st.op = .zoneLeave)
    (hz : bitsAt (opW st.ops 1) 0 7 < 80) (hheld : holdsZone q a (bitsAt (opW st.ops 1) 0 7) s = true) :
    Does (.stitchZoneLeave a) s (fun t => holdsZone q a (bitsAt (opW st.ops 1) 0 7) t = false
      ∧ t.get q (R.PLN_ZONE (bitsAt (opW st.ops 1) 0 7)) F.PLN_ZONE_HELD = 0 ∧ ReachShown q a st t
      ∧ t.arm q a = (s.arm q a).after st ∧ SameStores s t
      ∧ RegsKept q s t ([(zoneBit a (bitsAt (opW st.ops 1) 0 7)).1, R.PLN_ZONE (bitsAt (opW st.ops 1) 0 7)] ++ reachRegs a st)) := by
  refine h.does_effect (by simp [hop, stitchRows]) (by simp [hop]) h0 fun u hu => ?_
  generalize hzz : bitsAt (opW st.ops 1) 0 7 = z at hz hheld ⊢
  simp only [reachEffect, hop, hzz, hu.holdsZone, hheld, if_true]
  have ht := (plnOnly_releaseZone q a z u).recheck
  have hf := hu.frame.append ht
  have hlow : ∀ k, 0x681000 ≤ k → k ∉ [(zoneBit a z).1, R.PLN_ZONE z] := fun k hk => by
    have := (zoneBit_fst_bounds a z).2
    simp only [R.PLN_ZONE, List.mem_cons, List.not_mem_nil, or_false]; omega
  obtain ⟨hfree, hhold⟩ := released q a hz u
  refine ⟨?_, (State.get_belRecheck ..).trans hhold, hu.stays ht (hlow _ ?_) (hlow _ ?_) (hlow _ ?_), ?_, hf.stores,
    hf.regs.mono fun k hk => ?_⟩
  · rwa [holdsZone, State.rd_belRecheck]
  · exact (queueSlot_reach a).1
  · exact (queueSlot_tag a).1
  · simp only [bPQ, R.PLN_Q_FLAGS]; omega
  · rw [State.arm_belRecheck, arm_releaseZone, hu.arm_same h.arms]
  · rw [List.mem_append] at hk ⊢
    exact hk.symm

theorem Reaching.does_zoneLeave_not_held (h : Reaching q a st s) (h0 : st.fault = 0) (hop : st.op = .zoneLeave)
    (hheld : holdsZone q a (bitsAt (opW st.ops 1) 0 7) s = false) : Does (.stitchZoneLeave a) s (fun t => t.flagged q (bPQ a) 7
      ∧ ReachShown q a st t ∧ t.arm q a = (s.arm q a).after st ∧ SameStores s t
      ∧ RegsKept q s t (flagSlots (bPQ a) 7 ++ reachRegs a st)) := by
  refine h.does_effect (by simp [hop, stitchRows]) (by simp [hop]) h0 fun u hu => ?_
  simp only [reachEffect, hop, hu.holdsZone, hheld, Bool.false_eq_true, if_false]
  have ht : PlnOnly q u (belRecheck (raiseQ q a 7 u)) (flagSlots (bPQ a) 7) := (keeps_raiseQ q a 7 u).recheck.plnOnly
  have hf := hu.frame.append ht
  obtain ⟨hreach, htag, hflag⟩ := hu.shown
  refine ⟨(State.flagged_belRecheck ..).2 (flagged_raiseQ q a (by decide) u), ⟨?_, ?_, fun he => ?_⟩, ?_, hf.stores,
    hf.regs.mono fun k hk => ?_⟩
  · exact (ht.get q ((queueSlot_reach a).not_mem_flagsQ a (by decide)) _).trans hreach
  · exact (ht.get q ((queueSlot_tag a).not_mem_flagsQ a (by decide)) _).trans htag
  · exact (State.flagged_belRecheck ..).2 (State.flagged_raise_of_flagged (hflag he) _ (by decide) (bPQ_flags_ne_cnt a 7))
  · rw [State.arm_belRecheck, arm_raiseQ, hu.arm_same h.arms]
  · rw [List.mem_append] at hk ⊢
    exact hk.symm

/-! ### PROC and PROCRAMP (R82, R83) -/

/-- The process loop that a PROC or a PROCRAMP names. -/
def loopOf (st : Stitch) : Nat := bitsAt (opW st.ops 1) 0 5

/-- A loop after a PROC, where no stop holds it at 0. -/
def procLoop (st : Stitch) (l : Loop) : Loop :=
  if st.feedLock then { l with value := fixed (opW st.ops 2) 34, lock := some (fixed (opW st.ops 3) 24),
                               ref := some (fixed (opW st.ops 3) 24), ramp := none }
  else { l with value := fixed (opW st.ops 2) 34, lock := none, ramp := none }

/-- A loop after a PROCRAMP, where no stop holds it at 0. -/
def rampLoop (a : Nat) (st : Stitch) (l : Loop) : Loop :=
  let lock := if st.feedLock then l.ref else none
  let start := if lock.isNone && l.lock.isSome then l.out else l.value
  if opW st.ops 3 = 0 then { l with value := fixed (opW st.ops 2) 34, lock := lock, ramp := none }
  else { l with value := start, lock := lock, ramp := some ⟨start, fixed (opW st.ops 2) 34, bitN (opW st.ops 1).toNat 35,
    if bitN (opW st.ops 1).toNat 35 then fixed (opW st.ops 3) 30 else ((opW st.ops 3).toNat : Rat) / 2 ^ 32, 0, a⟩ }

/-- The loop becomes `x`, or stays silent while its arm stops, and the other loops are as before (R528). -/
def LoopDriven (q : Plane) (a : Fin 16) (st : Stitch) (s : State) (x : Loop) (t : State) : Prop :=
  nth (t.pln q).loops (loopOf st) Loop.initial
      = (if loopBarred q a (loopOf st) s then { x with value := 0, lock := none, ramp := none, out := 0 } else x)
    ∧ (∀ k, k ≠ loopOf st → nth (t.pln q).loops k Loop.initial = nth (s.pln q).loops k Loop.initial)
    ∧ ReachedAs q a st s ((s.arm q a).after st) t

theorem AtReach.loopDriven {u : State} (h : AtReach q a st s u) (hl : (s.pln q).arms.length = 16)
    (hi : loopOf st < (s.pln q).loops.length) {x : Loop} (heff : reachProc q a st u = u.setPln q { u.pln q with
      loops := (u.pln q).loops.set (loopOf st)
        (if Machine.loopBarred q a (loopOf st) u then { x with value := 0, lock := none, ramp := none, out := 0 } else x) }) :
    LoopDriven q a st s x (belRecheck (reachProc q a st u)) := by
  have hloops : (u.pln q).loops = (s.pln q).loops := by rw [h.pln, State.pln_setArm]
  have h32 : loopOf st < 32 := Nat.mod_lt _ (by decide)
  rw [heff, hloops, h.loopBarred h32]
  refine ⟨?_, fun k hk => ?_, h.reachedAs_setPln hl rfl⟩
  · rw [State.pln_belRecheck, State.pln_setPln, nth_set, if_pos ⟨rfl, hi⟩]
  · rw [State.pln_belRecheck, State.pln_setPln, nth_set, if_neg (fun e => hk e.1.symm)]

theorem reachProc_of_proc (hop : st.op = .proc) (u : State) : reachProc q a st u = u.setPln q { u.pln q with
    loops := (u.pln q).loops.set (loopOf st) (if loopBarred q a (loopOf st) u
      then { procLoop st (nth (u.pln q).loops (loopOf st) Loop.initial) with value := 0, lock := none, ramp := none, out := 0 }
      else procLoop st (nth (u.pln q).loops (loopOf st) Loop.initial)) } := by
  simp only [reachProc, hop, if_true, procLoop, loopOf]
  cases st.feedLock <;> split_ifs <;> rfl

theorem reachProc_of_procramp (hop : st.op = .procramp) (u : State) : reachProc q a st u = u.setPln q { u.pln q with
    loops := (u.pln q).loops.set (loopOf st) (if loopBarred q a (loopOf st) u
      then { rampLoop a st (nth (u.pln q).loops (loopOf st) Loop.initial) with value := 0, lock := none, ramp := none, out := 0 }
      else rampLoop a st (nth (u.pln q).loops (loopOf st) Loop.initial)) } := by
  cases hb : loopBarred q a (loopOf st) u <;>
  · rw [loopOf] at hb
    simp only [reachProc, hop, reduceCtorEq, Bool.false_eq_true, if_false, if_true, rampLoop, loopOf, hb]
    rfl

theorem Reaching.does_proc (h : Reaching q a st s) (h0 : st.fault = 0) (hop : st.op = .proc)
    (hi : loopOf st < (s.pln q).loops.length) :
    Does (.stitchProc a) s (LoopDriven q a st s (procLoop st (nth (s.pln q).loops (loopOf st) Loop.initial))) := by
  refine h.does_effect (by simp [hop, stitchRows]) (by simp [hop]) h0 fun u hu => ?_
  have hloops : (u.pln q).loops = (s.pln q).loops := by rw [hu.pln, State.pln_setArm]
  simp only [reachEffect, hop]
  rw [← hloops]
  exact hu.loopDriven h.arms hi (reachProc_of_proc hop u)

theorem Reaching.does_procramp (h : Reaching q a st s) (h0 : st.fault = 0) (hop : st.op = .procramp)
    (hi : loopOf st < (s.pln q).loops.length) :
    Does (.stitchProcramp a) s (LoopDriven q a st s (rampLoop a st (nth (s.pln q).loops (loopOf st) Loop.initial))) := by
  refine h.does_effect (by simp [hop, stitchRows]) (by simp [hop]) h0 fun u hu => ?_
  have hloops : (u.pln q).loops = (s.pln q).loops := by rw [hu.pln, State.pln_setArm]
  simp only [reachEffect, hop]
  rw [← hloops]
  exact hu.loopDriven h.arms hi (reachProc_of_procramp hop u)

/-! ### A Stitch that faulted at decode (R101, R102) -/

theorem evalWaitio_idle {u : State} (h : waitCode q a u ≠ 2 ∨ qState q a u ≠ 2) : evalWaitio q a u = u := if_pos h

theorem Reaching.does_fault (h : Reaching q a st s) (hm : (cmd, st.op) ∈ stitchRows a) (hf : st.fault ≠ 0) (h6 : qState q a s ≠ 6) :
    Does cmd s (fun t => qState q a t = 6
      ∧ t.get q (R.PLN_Q_FAULT a) F.PLN_Q_FAULT_CODE = st.fault % 2 ^ F.PLN_Q_FAULT_CODE.width
      ∧ t.get q (R.PLN_Q_FAULT_POS a) F.PLN_Q_FAULT_POS_COUNT = st.pos % 2 ^ F.PLN_Q_FAULT_POS_COUNT.width
      ∧ (t.arm q a).redo = some st ∧ t.flagged q (bPQ a) 1 ∧ SameStores s t) := by
  have hu := atReach_shownStitch q a st s
  have hfault := armFaulted_armFault (by rw [hu.qState]; exact h6) hf a.isLt (hu.arms h.arms) st.tag st.pos (some st)
  have he := exec_stitchRows h.chanter hm
  have hdone : stitchDone q a st.op s = stitchFault q a st.fault st (shownStitch q a st s) := by
    rw [stitchDone, h.runStitch, reachStitch_eq, if_pos hf, ite_eq_right_iff]
    exact fun _ => evalWaitio_idle (.inr (by rw [stitchFault, hfault.state]; decide))
  rw [hdone] at he
  have ht := hfault.recheck
  exact does_of_exec he ⟨ht.state, ht.code, ht.pos, ht.redo, ht.flag, hu.frame.stores.trans ht.frame.stores⟩

end

end Sys2Proof.Machine

/-! ## Stitches that wait or end (R86, R87, R90, R92, R126, R528) -/

namespace Sys2Proof.Machine

/-! ### A wait that begins at a reach -/

theorem Wait.args_freeze (w : Wait) (now : Nat) : (w.freeze now).args = w.args := by
  unfold Wait.freeze
  split <;> rfl

/-- The registers that a Stitch may change that begins or ends a wait. -/
def waitRegs (a : Nat) (st : Stitch) : List Nat :=
  [R.PLN_Q_REACH a, R.PLN_Q_TAG a, R.PLN_Q_STATUS a] ++ (if st.event then flagSlots (bPQ a) 0 else [])

theorem waitRegs_of_reachRegs {a k : Nat} {st : Stitch} (h : k ∈ reachRegs a st) : k ∈ waitRegs a st := by
  simp only [reachRegs, waitRegs, List.mem_append, List.mem_cons, List.not_mem_nil, or_false] at h ⊢
  tauto

theorem status_mem_waitRegs (a : Nat) (st : Stitch) : R.PLN_Q_STATUS a ∈ waitRegs a st := by simp [waitRegs]

/-- The arm waits: with its timer running where it was RUNNING, frozen where it stops (R90, R100). -/
def WaitsAt (q : Plane) (a : Fin 16) (st : Stitch) (s : State) (code : Nat) (w : Wait) (ks : List Nat) (t : State) : Prop :=
  waitCode q a t = code ∧ (t.arm q a).last = some st
    ∧ (qState q a s = 1 → qState q a t = 2 ∧ (t.arm q a).wait = some w)
    ∧ (qState q a s ≠ 1 → qState q a t = qState q a s ∧ (t.arm q a).wait = some ({ w with level := none }.freeze s.now))
    ∧ SameStores s t ∧ RegsKept q s t (ks ++ waitRegs a st)

/-- The arm goes on without a wait. -/
def PassesAt (q : Plane) (a : Fin 16) (st : Stitch) (s t : State) : Prop :=
  qState q a t = qState q a s ∧ (t.arm q a).wait = none ∧ (t.arm q a).last = some st ∧ SameStores s t
    ∧ RegsKept q s t (waitRegs a st)

/-- The time limit that a Stitch gives; 0 stands for none. -/
def waitLimit (w : Word) (s : State) : Option Nat := if w = 0 then none else some (s.now + psOfD36 w)

/-- The wait of a Stitch with its arguments and its time limit. -/
def stitchWait (st : Stitch) (args : List Nat) (limit : Option Nat) : Wait := ⟨args, limit, none, none, st.pos, st.tag⟩

section
variable {q : Plane} {a : Fin 16} {st : Stitch} {s u v : State} {cmd : Instr}

theorem WaitsAt.recheck {code : Nat} {w : Wait} {ks : List Nat} (h : WaitsAt q a st s code w ks u) :
    WaitsAt q a st s code w ks (belRecheck u) := by
  obtain ⟨hcode, hlast, hrun, hstop, hstores, hregs⟩ := h
  have hq : qState q a (belRecheck u) = qState q a u := State.get_belRecheck ..
  have hr : RegsKept q s (belRecheck u) _ := hregs.trans ((PlnOnly.refl q u _).recheck.regs)
  refine ⟨(State.get_belRecheck ..).trans hcode, ?_, fun h1 => ?_, fun h1 => ?_, hstores, hr⟩
  · rw [State.arm_belRecheck, hlast]
  · rw [hq, State.arm_belRecheck]
    exact hrun h1
  · rw [hq, State.arm_belRecheck]
    exact hstop h1

/-- What a Stitch's wait leaves, where its effect enters the wait in a state that differs from that of the reach in `ks`. -/
theorem AtReach.waits (h : AtReach q a st s u) (hl : (s.pln q).arms.length = 16) {ks : List Nat} (hv : PlnOnly q u v ks)
    (hk : R.PLN_Q_STATUS a ∉ ks) (hlast : (v.arm q a).last = some st) {code : Nat} (hc : code < 16) {w : Wait} (hw : w.level = none) :
    WaitsAt q a st s code w ks (enterWait q a code w v) := by
  have hst : Machine.qState q a v = Machine.qState q a s := (qState_of_rd (hv.rd q hk)).1.trans (h.qState a)
  have hf := (h.frame.append hv).append (plnOnly_enterWait q a code w v)
  have harm := arm_enterWait (s := v) (q := q) (a := a) (by rw [hv.arms, h.arms hl]; exact a.isLt) code w
  have hnow : v.now = s.now := hv.now.trans h.frame.now
  have hlevel : { w with level := none } = w := by rw [← hw]
  refine ⟨waitCode_enterWait q a hc w v, ?_, fun h1 => ?_, fun h1 => ?_, hf.stores, hf.regs.mono fun k hk => ?_⟩
  · rw [harm, ← hlast]
  · rw [← hst] at h1
    rw [harm, if_pos h1]
    exact ⟨(qState_enterWait q a code w v).trans (if_pos h1), rfl⟩
  · rw [hlevel, ← hst]
    rw [← hst] at h1
    rw [harm, if_neg h1, hnow]
    exact ⟨(qState_enterWait q a code w v).trans (if_neg h1), rfl⟩
  · rw [List.mem_append, List.mem_append, List.mem_singleton] at hk
    rw [List.mem_append]
    rcases hk with (hk | hk) | rfl
    · exact .inr (waitRegs_of_reachRegs hk)
    · exact .inl hk
    · exact .inr (status_mem_waitRegs a st)

theorem AtReach.last (h : AtReach q a st s u) (hl : (s.pln q).arms.length = 16) : (u.arm q a).last = some st := by
  rw [h.arm_same hl]; rfl

/-- A Stitch that has no effect lets its arm go on. -/
theorem AtReach.passes (h : AtReach q a st s u) (hl : (s.pln q).arms.length = 16) (hw : (s.arm q a).wait = none) :
    PassesAt q a st s (belRecheck u) := by
  have hf := h.frame.recheck
  refine ⟨(State.get_belRecheck ..).trans (h.qState a), ?_, ?_, hf.stores, hf.regs.mono fun _ => waitRegs_of_reachRegs⟩
  · rw [State.arm_belRecheck, h.arm_same hl]
    exact hw
  · rw [State.arm_belRecheck, h.last hl]

theorem Reaching.does_dwell (h : Reaching q a st s) (h0 : st.fault = 0) (hop : st.op = .dwell) (h1 : opW st.ops 1 ≠ 0) :
    Does (.stitchDwell a) s (WaitsAt q a st s 1 (stitchWait st [] (some (s.now + psOfD36 (opW st.ops 1)))) []) := by
  refine h.does_effect (by simp [hop, stitchRows]) (by simp [hop]) h0 fun u hu => ?_
  simp only [reachEffect, hop, if_neg h1, hu.frame.now]
  exact (hu.waits h.arms (PlnOnly.refl q u []) (by simp) (hu.last h.arms) (by decide) rfl).recheck

theorem Reaching.does_dwell_zero (h : Reaching q a st s) (h0 : st.fault = 0) (hop : st.op = .dwell) (h1 : opW st.ops 1 = 0) :
    Does (.stitchDwell a) s (PassesAt q a st s) := by
  refine h.does_effect (by simp [hop, stitchRows]) (by simp [hop]) h0 fun u hu => ?_
  simp only [reachEffect, hop, if_pos h1]
  exact hu.passes h.arms h.wait

/-! ### ZONE_ENTER (R87) -/

/-- The arm has come to stand before the zone that it waits for. -/
def stoodAtZone (ar : Arm) : Bool := ar.sects.any (fun c => c.zone && decide (ar.cur = some c.st.pos))

/-- The state in which a ZONE_ENTER waits: an arm that stood before its zone is told so. -/
def atZone (q : Plane) (a : Nat) (s : State) : State :=
  if stoodAtZone (s.arm q a) then
    raiseA q a 5 (s.setArm q a { s.arm q a with sects := (s.arm q a).sects.map (fun c => { c with zone := false }) })
  else s

theorem plnOnly_atZone (q : Plane) (a : Nat) (s : State) :
    PlnOnly q s (atZone q a s) (if stoodAtZone (s.arm q a) then flagSlots (bPA a) 5 else []) := by
  unfold atZone
  split
  · exact ((PlnOnly.refl q s _).setArm a _).andKeeps (keeps_raiseA q a 5 _)
  · exact .refl q s []

theorem last_atZone (q : Plane) {a : Nat} (ha : a < (s.pln q).arms.length) : ((atZone q a s).arm q a).last = (s.arm q a).last := by
  unfold atZone
  split
  · rw [arm_raiseA, State.arm_setArm_same _ _ _ ha]
  · rfl

theorem Reaching.does_zoneEnter_not_held (h : Reaching q a st s) (h0 : st.fault = 0) (hop : st.op = .zoneEnter)
    (hz : holdsZone q a (bitsAt (opW st.ops 1) 0 7) s = false) : Does (.stitchZoneEnter a) s (fun t =>
      WaitsAt q a st s 4 (stitchWait st [bitsAt (opW st.ops 1) 0 7] (waitLimit (opW st.ops 2) s))
        (if stoodAtZone (s.arm q a) then flagSlots (bPA a) 5 else []) t
      ∧ (stoodAtZone (s.arm q a) = true → t.flagged q (bPA a) 5)) := by
  refine h.does_effect (by simp [hop, stitchRows]) (by simp [hop]) h0 fun u hu => ?_
  have hzone : reachZone q a st u = enterWait q a 4 (stitchWait st [bitsAt (opW st.ops 1) 0 7] (waitLimit (opW st.ops 2) s))
      (atZone q a u) := by
    simp only [reachZone, hu.holdsZone, hz, Bool.false_eq_true, if_false, hu.frame.now]; rfl
  have hstood : stoodAtZone (u.arm q a) = stoodAtZone (s.arm q a) := hu.arm_part h.arms (fun _ => rfl) a
  have hv := plnOnly_atZone q a u
  have ha : (a : Nat) < (u.pln q).arms.length := by rw [hu.arms h.arms]; exact a.isLt
  rw [hstood] at hv
  simp only [reachEffect, hop, hzone]
  refine ⟨(hu.waits h.arms hv ?_ ((last_atZone q ha).trans (hu.last h.arms)) (by decide) rfl).recheck, fun hs => ?_⟩
  · split
    · exact (queueSlot_status a).not_mem_flagsA a.isLt (by decide)
    · exact List.not_mem_nil
  · refine (State.flagged_belRecheck ..).2 ((plnOnly_enterWait q a 4 _ _).flagged ?_ ?_)
    · rw [List.mem_singleton]
      exact fun e => bPA_flags_not_queueSlot a.isLt (e ▸ queueSlot_status a)
    · rw [atZone, hstood, if_pos hs]
      exact flagged_raiseA q a (by decide) _

theorem Reaching.does_zoneEnter_held (h : Reaching q a st s) (h0 : st.fault = 0) (hop : st.op = .zoneEnter)
    (hz : holdsZone q a (bitsAt (opW st.ops 1) 0 7) s = true) : Does (.stitchZoneEnter a) s (PassesAt q a st s) := by
  refine h.does_effect (by simp [hop, stitchRows]) (by simp [hop]) h0 fun u hu => ?_
  simp only [reachEffect, hop, reachZone, hu.holdsZone, hz, if_true]
  exact hu.passes h.arms h.wait

/-! ### WAITIO (R90) -/

/-- A level condition of WAITIO is met; an edge needs an earlier evaluation (R90). -/
def levelMet (c : Nat) (l : Option Bool) : Bool := (decide (c = 0) && l == some false) || (decide (c = 1) && l == some true)

theorem PlnOnly.ioLevel {ks : List Nat} (h : PlnOnly q u v ks) (a : Nat) (w : Word) : ioLevel q a w v = ioLevel q a w u := by
  simp only [Machine.ioLevel, State.armTab, h.fio, h.cbus, h.stores q, h.tab]

/-- The first evaluation of a WAITIO has no earlier level to compare with. -/
theorem evalWaitio_first {c : Nat} {w : Wait} {x : Word} (h2 : waitCode q a u = 2) (hst : qState q a u = 2)
    (hw : (u.arm q a).wait = some w) (hargs : w.args = [x.toNat, c]) (hc : c < 4) (hl : w.level = none) :
    evalWaitio q a u = if levelMet c (ioLevel q a x u) then endWait q a u
      else u.setArm q a { u.arm q a with wait := some { w with level := ioLevel q a x u } } := by
  have hx : wordN (nth w.args 0 0) = x := by rw [hargs]; exact (BitVec.ofNat_toNat 36 x).trans (BitVec.setWidth_eq x)
  have hn : nth w.args 1 0 = c := by rw [hargs]; rfl
  rw [evalWaitio, if_neg (by simp [h2, hst]), hw]
  simp only [hx, hn, hl]
  interval_cases c <;> simp [levelMet]

/-- The wait of a WAITIO before its first evaluation. -/
def ioWait (st : Stitch) (s : State) : Wait :=
  stitchWait st [(opW st.ops 1).toNat, bitsAt (opW st.ops 2) 0 2] (waitLimit (opW st.ops 3) s)

/-- A WAITIO enters its wait, which is then evaluated. -/
theorem Reaching.exec_waitio (h : Reaching q a st s) (h0 : st.fault = 0) (hop : st.op = .waitio) :
    ∃ v, exec (.stitchWaitio a) s = settled (evalWaitio q a v) ∧ WaitsAt q a st s 2 (ioWait st s) [] v
      ∧ ioLevel q a (opW st.ops 1) v = ioLevel q a (opW st.ops 1) s ∧ (v.pln q).arms.length = 16 := by
  have hu := atReach_shownStitch q a st s
  have he := exec_stitchRows h.chanter (show (Instr.stitchWaitio a, st.op) ∈ stitchRows a by simp [hop, stitchRows])
  rw [stitchDone, if_pos hop, h.runStitch, reachStitch_eq, if_neg (by simp [h0])] at he
  simp only [reachEffect, hop, hu.frame.now] at he
  have hv := plnOnly_enterWait q a 2 (ioWait st s) (shownStitch q a st s)
  exact ⟨_, he, hu.waits h.arms (PlnOnly.refl q _ []) (by simp) (hu.last h.arms) (by decide) rfl,
    (hv.ioLevel a _).trans (hu.ioLevel _), hv.arms.trans (hu.arms h.arms)⟩

theorem Reaching.does_waitio_unmet (h : Reaching q a st s) (h0 : st.fault = 0) (hop : st.op = .waitio)
    (hmet : qState q a s ≠ 1 ∨ levelMet (bitsAt (opW st.ops 2) 0 2) (ioLevel q a (opW st.ops 1) s) = false) :
    Does (.stitchWaitio a) s (WaitsAt q a st s 2 { ioWait st s with level := ioLevel q a (opW st.ops 1) s } []) := by
  obtain ⟨v, he, ⟨hcode, hlast, hrun, hstop, hstores, hregs⟩, hlev, hlen⟩ := h.exec_waitio h0 hop
  refine does_of_exec he (WaitsAt.recheck ?_)
  by_cases h1 : qState q a s = 1
  · obtain ⟨h2, hwait⟩ := hrun h1
    have hfirst := evalWaitio_first hcode h2 hwait rfl (Nat.mod_lt _ (by decide)) rfl
    rw [hlev, if_neg (by simp [hmet.resolve_left (not_not.2 h1)])] at hfirst
    have ha : (a : Nat) < (v.pln q).arms.length := by rw [hlen]; exact a.isLt
    rw [hfirst]
    refine ⟨(waitCode_setArm ..).trans hcode, ?_, fun _ => ⟨(qState_setArm ..).trans h2, ?_⟩, fun h => absurd h1 h, ?_,
      hregs.trans ((PlnOnly.refl q v _).setArm a _).regs⟩
    · rw [v.arm_setArm_same q _ ha, ← hlast]
    · rw [v.arm_setArm_same q _ ha]
    · exact hstores.trans ((PlnOnly.refl q v []).setArm a _).stores
  · have h2 : qState q a v ≠ 2 := by
      rw [(hstop h1).1]
      intro h2
      have := h.reaches
      simp [Machine.reaches, h2] at this
    rw [evalWaitio_idle (.inr h2)]
    exact ⟨hcode, hlast, fun h => absurd h h1, hstop, hstores, hregs⟩

theorem Reaching.does_waitio_met (h : Reaching q a st s) (h0 : st.fault = 0) (hop : st.op = .waitio) (h1 : qState q a s = 1)
    (hmet : levelMet (bitsAt (opW st.ops 2) 0 2) (ioLevel q a (opW st.ops 1) s) = true) :
    Does (.stitchWaitio a) s (fun t => PassesAt q a st s t ∧ waitCode q a t = 0) := by
  obtain ⟨v, he, ⟨hcode, hlast, hrun, -, hstores, hregs⟩, hlev, hlen⟩ := h.exec_waitio h0 hop
  obtain ⟨h2, hwait⟩ := hrun h1
  have hfirst := evalWaitio_first hcode h2 hwait rfl (Nat.mod_lt _ (by decide)) rfl
  rw [hlev, if_pos hmet] at hfirst
  rw [hfirst] at he
  have hf := (plnOnly_endWait q a v).mono (ls := waitRegs a st) (by simpa using status_mem_waitRegs a st)
  have harm := arm_endWait (s := v) (q := q) (a := a) (by rw [hlen]; exact a.isLt)
  refine does_of_exec he ⟨⟨?_, ?_, ?_, hstores.trans hf.stores, hregs.trans hf.recheck.regs⟩, ?_⟩
  · rw [h1]
    exact (State.get_belRecheck ..).trans ((qState_endWait q a v).trans (if_pos h2))
  · rw [State.arm_belRecheck, harm]
  · rw [State.arm_belRecheck, harm, ← hlast]
  · exact (State.get_belRecheck ..).trans (waitCode_endWait q a v)

end

end Sys2Proof.Machine

/-! ## SYNC and END (R86, R126) -/

namespace Sys2Proof.Machine

/-! ### Faults of arms that mismatch -/

theorem plnOnly_armFault (q : Plane) (a : Nat) {code : Nat} (hc : code ≠ 0) (tag pos : Nat) (redo : Option Stitch) (s : State) :
    PlnOnly q s (armFault q a code tag pos redo s) (faultRegs a (List.range 16)) := by
  by_cases h : qState q a s = 6
  · rw [armFault, if_pos h]
    exact .refl q s _
  · rw [armFault_eq h hc]
    have hstop := ((plnOnly_stopPath q a s).append (plnOnly_stopMates q a _)).append (plnOnly_faultRecorded q a code tag pos redo _)
    refine hstop.mono fun k hk => ?_
    simp only [faultRegs, List.nil_append, List.mem_append, List.mem_flatMap, List.mem_range] at hk ⊢
    exact hk.imp_left fun ⟨b, hb, hk⟩ => ⟨b, (mem_mates.1 hb).1.1, hk⟩

/-- A register of a queue, or the flags of a queue, which the fault of another arm leaves as they are. -/
theorem not_mem_faultRegs {k a : Nat} (ha : (∀ b < 16, k ∉ flagSlots (bPA b) 0) ∧ k ∉ flagSlots (bPQ a) 1)
    (h : k ≠ R.PLN_Q_STATUS a ∧ k ≠ R.PLN_Q_FAULT a ∧ k ≠ R.PLN_Q_FAULT_POS a) : k ∉ faultRegs a (List.range 16) := by
  obtain ⟨hA, hQ⟩ := ha
  obtain ⟨h1, h2, h3⟩ := h
  simp only [faultRegs, List.mem_append, List.mem_flatMap, List.mem_range, List.mem_cons, List.not_mem_nil, or_false, not_or, not_exists,
    not_and]
  exact ⟨hA, ⟨h1, h2, h3⟩, hQ⟩

theorem QueueSlot.not_mem_faultRegs {k a : Nat} (hk : QueueSlot k)
    (h : k ≠ R.PLN_Q_STATUS a ∧ k ≠ R.PLN_Q_FAULT a ∧ k ≠ R.PLN_Q_FAULT_POS a) : k ∉ faultRegs a (List.range 16) :=
  Machine.not_mem_faultRegs ⟨fun _ hb => hk.not_mem_flagsA hb (by decide), hk.not_mem_flagsQ a (by decide)⟩ h

/-- A SYNC mismatch has become the fault of the arm (R86, R126). -/
def Mismatched (q : Plane) (a : Nat) (t : State) : Prop :=
  qState q a t = 6 ∧ t.get q (R.PLN_Q_FAULT a) F.PLN_Q_FAULT_CODE = 10 ∧ t.flagged q (bPQ a) 1

/-- The arm is not faulted, or its fault is a mismatch. -/
def SoundOrMismatched (q : Plane) (a : Nat) (t : State) : Prop :=
  (t.pln q).arms.length = 16 ∧ (qState q a t = 6 → Mismatched q a t)

theorem Mismatched.recheck {q : Plane} {a : Nat} {t : State} (h : Mismatched q a t) : Mismatched q a (belRecheck t) := by
  obtain ⟨hst, hcode, hflag⟩ := h
  exact ⟨(State.get_belRecheck ..).trans hst, (State.get_belRecheck ..).trans hcode, (State.flagged_belRecheck ..).2 hflag⟩

section
variable {q : Plane} {a : Nat} {s : State}

/-- What the mismatch of another arm leaves of an arm: its state, its fault and its wait. -/
theorem armFault_other {b code : Nat} (hab : a ≠ b) (hb : b < 16) (hc : code ≠ 0) (hl : (s.pln q).arms.length = 16) (tag pos : Nat)
    (redo : Option Stitch) : let t := armFault q b code tag pos redo s
    qState q a t = qState q a s ∧ (Mismatched q a s → Mismatched q a t) ∧ (t.arm q a).wait = (s.arm q a).wait := by
  intro t
  have ht : PlnOnly q s t _ := plnOnly_armFault q b hc tag pos redo s
  have hst : R.PLN_Q_STATUS a ∉ faultRegs b (List.range 16) := (queueSlot_status a).not_mem_faultRegs (by
    simp only [R.PLN_Q_STATUS, R.PLN_Q_FAULT, R.PLN_Q_FAULT_POS]; omega)
  have hf : R.PLN_Q_FAULT a ∉ faultRegs b (List.range 16) := (queueSlot_fault a).not_mem_faultRegs (by
    simp only [R.PLN_Q_STATUS, R.PLN_Q_FAULT, R.PLN_Q_FAULT_POS]; omega)
  have hflag : (bPQ a).flags ∉ faultRegs b (List.range 16) :=
    not_mem_faultRegs ⟨fun c _ => bPQ_flags_not_mem_flagsA a c (by decide), bPQ_flags_not_mem_flagsQ hab (by decide)⟩ (by
      simp only [bPQ, R.PLN_Q_FLAGS, R.PLN_Q_STATUS, R.PLN_Q_FAULT, R.PLN_Q_FAULT_POS]; omega)
  have hq := (qState_of_rd (ht.rd q hst)).1
  refine ⟨hq, fun ⟨h6, hcode, hfl⟩ => ⟨hq.trans h6, (ht.get q hf _).trans hcode, ht.flagged hflag hfl⟩, ?_⟩
  by_cases h6 : qState q b s = 6
  · simp only [t, armFault, if_pos h6]
  · exact (armFaulted_armFault h6 hc hb hl tag pos redo).others a hab

/-- An arm fault leaves its arm FAULTED. -/
theorem qState_armFault {code : Nat} (ha : a < 16) (hc : code ≠ 0) (hl : (s.pln q).arms.length = 16) (tag pos : Nat)
    (redo : Option Stitch) : qState q a (armFault q a code tag pos redo s) = 6 := by
  by_cases h6 : qState q a s = 6
  · rw [armFault, if_pos h6, h6]
  · exact (armFaulted_armFault h6 hc ha hl tag pos redo).state

theorem qState_armFault_of_faulted {b code : Nat} (h : qState q a s = 6) (hb : b < 16) (hc : code ≠ 0)
    (hl : (s.pln q).arms.length = 16) (tag pos : Nat) (redo : Option Stitch) : qState q a (armFault q b code tag pos redo s) = 6 := by
  by_cases hab : a = b
  · rw [hab, qState_armFault hb hc hl]
  · rw [(armFault_other hab hb hc hl tag pos redo).1, h]

/-- Arms that mismatch one by one: whoever is faulted among them, the arm's own fault is the mismatch. -/
theorem SoundOrMismatched.armFault {b : Nat} (h : SoundOrMismatched q a s) (hb : b < 16) (tag pos : Nat) (redo : Option Stitch) :
    SoundOrMismatched q a (armFault q b 10 tag pos redo s) := by
  obtain ⟨hl, hsound⟩ := h
  refine ⟨(plnOnly_armFault q b (code := 10) (by decide) tag pos redo s).arms.trans hl, fun h6 => ?_⟩
  by_cases hab : a = b
  · subst hab
    by_cases h6 : qState q a s = 6
    · rw [Machine.armFault, if_pos h6]
      exact hsound h6
    · have hf := armFaulted_armFault h6 (code := 10) (by decide) hb hl tag pos redo
      exact ⟨hf.state, hf.code, hf.flag⟩
  · obtain ⟨hq, hkeep, -⟩ := armFault_other hab hb (code := 10) (by decide) hl tag pos redo
    exact hkeep (hsound (hq ▸ h6))

/-- A list of steps that each keep what they need: what each makes and none undoes holds in the end. -/
theorem each_makes_under {α : Type} {P : State → Prop} {Q : α → State → Prop} {f : α → State → State} {l : List α}
    (hkeep : ∀ x ∈ l, ∀ s, P s → P (f x s)) (hmake : ∀ x ∈ l, ∀ s, P s → Q x (f x s))
    (hstay : ∀ x ∈ l, ∀ y ∈ l, ∀ s, P s → Q y s → Q y (f x s)) (hs : P s) : P (each l f s) ∧ ∀ x ∈ l, Q x (each l f s) := by
  induction l using List.reverseRecOn with
  | nil => exact ⟨hs, by simp⟩
  | append_singleton l x ih =>
    obtain ⟨hp, hq⟩ := ih (fun y hy => hkeep y (by simp [hy])) (fun y hy => hmake y (by simp [hy]))
      fun y hy z hz => hstay y (by simp [hy]) z (by simp [hz])
    have heach : each (l ++ [x]) f s = f x (each l f s) := List.foldl_concat ..
    rw [heach]
    refine ⟨hkeep x (by simp) _ hp, fun y hy => ?_⟩
    rcases List.mem_append.1 hy with hy | hy
    · exact hstay x (by simp) y (by simp [hy]) _ hp (hq y hy)
    · rw [List.mem_singleton.1 hy]
      exact hmake x (by simp) _ hp

end

/-! ### The mismatch of a group (R126) -/

section
variable {q : Plane} {a : Nat} {s : State}

/-- The mismatch of a group at one of its members, at the Stitch that it reached last. -/
def memberFault (q : Plane) (b : Nat) (s : State) : State :=
  match (s.arm q b).last with
  | some t => stitchFault q b 0x0A t s
  | none => armFault q b 0x0A 0 0 none s

theorem groupMismatch_eq (q : Plane) (a : Nat) (s : State) : groupMismatch q a s = each (bitsOf 16 (s.arm q a).group) (memberFault q) s :=
  rfl

theorem memberFault_eq (q : Plane) (b : Nat) (s : State) : ∃ tag pos redo, memberFault q b s = armFault q b 10 tag pos redo s := by
  unfold memberFault
  split
  · exact ⟨_, _, _, rfl⟩
  · exact ⟨_, _, _, rfl⟩

/-- The mismatch of a group faults each of its members. -/
theorem mismatched_groupMismatch (hl : (s.pln q).arms.length = 16) (h6 : qState q a s ≠ 6) (ha : a < 16)
    (hm : bitN (s.arm q a).group a = true) : Mismatched q a (groupMismatch q a s) := by
  have hfault : ∀ b ∈ bitsOf 16 (s.arm q a).group, ∀ u, SoundOrMismatched q a u → SoundOrMismatched q a (memberFault q b u)
      ∧ qState q b (memberFault q b u) = 6 ∧ ∀ c, qState q c u = 6 → qState q c (memberFault q b u) = 6 := fun b hb u hu => by
    obtain ⟨tag, pos, redo, he⟩ := memberFault_eq q b u
    have hb := (mem_bitsOf.1 hb).1
    rw [he]
    exact ⟨hu.armFault hb tag pos redo, qState_armFault hb (by decide) hu.1 tag pos redo,
      fun c h => qState_armFault_of_faulted h hb (by decide) hu.1 tag pos redo⟩
  obtain ⟨hsound, hmem⟩ := each_makes_under (P := SoundOrMismatched q a) (Q := fun b u => qState q b u = 6)
    (fun b hb u hu => (hfault b hb u hu).1) (fun b hb u hu => (hfault b hb u hu).2.1)
    (fun b hb c _ u hu hq => (hfault b hb u hu).2.2 c hq) ⟨hl, fun h => absurd h h6⟩
  rw [groupMismatch_eq]
  exact hsound.2 (hmem a (mem_bitsOf.2 ⟨ha, hm⟩))

end

/-! ### The waits of a SYNC (R86) -/

section
variable {q : Plane} {a : Nat} {s : State}

theorem mem_syncWaiters {id : Nat} {e : Nat × Nat × Nat} : e ∈ syncWaiters q id s ↔ e.1 < 16 ∧ waitCode q e.1 s = 3
    ∧ ∃ w, (s.arm q e.1).wait = some w ∧ nth w.args 0 0 = id ∧ e.2 = (nth w.args 1 0, nth w.args 2 0) := by
  obtain ⟨b, m, k⟩ := e
  simp only [syncWaiters, List.mem_filterMap, List.mem_range]
  constructor
  · rintro ⟨c, hc, h⟩
    split at h
    · next h3 =>
      split at h
      · next w hw =>
        rw [Option.ite_none_right_eq_some] at h
        obtain ⟨hid, he⟩ := h
        obtain ⟨rfl, hmk⟩ := Prod.mk.inj (Option.some.inj he)
        exact ⟨hc, h3, w, hw, hid, hmk.symm⟩
      · cases h
    · cases h
  · rintro ⟨hb, h3, w, hw, hid, hmk⟩
    exact ⟨b, hb, by rw [if_pos h3, hw]; simp only [if_pos hid, hmk]⟩

/-- An arm that has no wait waits for no other. -/
theorem ne_of_mem_syncWaiters (hw : (s.arm q a).wait = none) {id : Nat} {e : Nat × Nat × Nat} (he : e ∈ syncWaiters q id s) : e.1 ≠ a := by
  obtain ⟨-, -, w, hw', -⟩ := mem_syncWaiters.1 he
  rintro rfl
  rw [hw] at hw'
  cases hw'

/-- Where an arm without a wait enters that of a SYNC, it joins the arms that wait there. -/
theorem mem_syncWaiters_enterWait (ha : a < 16) (hl : (s.pln q).arms.length = 16) (hw : (s.arm q a).wait = none)
    {id m k : Nat} {w : Wait} (hargs : w.args = [id, m, k]) {e : Nat × Nat × Nat} :
    e ∈ syncWaiters q id (enterWait q a 3 w s) ↔ e = (a, m, k) ∨ e ∈ syncWaiters q id s := by
  have hlen : a < (s.pln q).arms.length := by rw [hl]; exact ha
  by_cases hb : e.1 = a
  · have hwait : ∃ x : Wait, x.args = [id, m, k] ∧ ((enterWait q a 3 w s).arm q a).wait = some x := by
      rw [arm_enterWait hlen]
      refine ⟨_, ?_, rfl⟩
      split
      · exact hargs
      · rw [Wait.args_freeze, hargs]
    obtain ⟨x, hx, hwait⟩ := hwait
    have hnot : e ∉ syncWaiters q id s := fun he => ne_of_mem_syncWaiters hw he hb
    rw [mem_syncWaiters, hb, hwait, or_iff_left hnot]
    constructor
    · rintro ⟨-, -, y, hy, -, he⟩
      cases hy
      rw [hx] at he
      exact Prod.ext hb he
    · rintro rfl
      exact ⟨ha, waitCode_enterWait q a (by decide) w s, x, rfl, by rw [hx]; rfl, by rw [hx]; rfl⟩
  · have hne : e ≠ (a, m, k) := fun he => hb (congrArg Prod.fst he)
    have hcode : waitCode q e.1 (enterWait q a 3 w s) = waitCode q e.1 s :=
      (qState_of_rd ((plnOnly_enterWait q a 3 w s).rd q (by simpa [status_inj] using hb))).2
    rw [mem_syncWaiters, mem_syncWaiters, hcode, arm_enterWait_ne hb, or_iff_right hne]

/-- The waits of another arm depend on its state and its wait only. -/
theorem AtReach.mem_syncWaiters {a : Fin 16} {st : Stitch} {u : State} (h : AtReach q a st s u) (hl : (s.pln q).arms.length = 16)
    {id : Nat} {e : Nat × Nat × Nat} : e ∈ syncWaiters q id u ↔ e ∈ syncWaiters q id s := by
  rw [Machine.mem_syncWaiters, Machine.mem_syncWaiters, h.waitCode, h.arm_part hl (f := Arm.wait) (fun _ => rfl)]

theorem syncClash_self (x : Nat × Nat × Nat) : syncClash x x = false := by simp [syncClash]

end

end Sys2Proof.Machine

namespace Sys2Proof.Machine

/-! ### The end of the waits of a SYNC (R86) -/

section
variable {q : Plane} {a : Nat} {s : State}

/-- The arm has no wait and is not WAITING. -/
def Freed (q : Plane) (b : Nat) (t : State) : Prop := (t.arm q b).wait = none ∧ waitCode q b t = 0 ∧ qState q b t ≠ 2

theorem freed_endWait (q : Plane) {b : Nat} (hb : b < (s.pln q).arms.length) : Freed q b (endWait q b s) := by
  refine ⟨by rw [arm_endWait hb], waitCode_endWait q b s, ?_⟩
  rw [qState_endWait]
  split
  · decide
  · assumption

/-- The end of another arm's wait changes nothing of an arm. -/
theorem endWait_other {b : Nat} (h : b ≠ a) : (endWait q a s).arm q b = s.arm q b ∧ waitCode q b (endWait q a s) = waitCode q b s
    ∧ qState q b (endWait q a s) = qState q b s := by
  obtain ⟨hq, hw⟩ := qState_of_rd ((plnOnly_endWait q a s).rd q (by simpa [status_inj] using h))
  exact ⟨arm_endWait_ne h, hw, hq⟩

/-- Arms whose waits end one by one are all freed, and each that was WAITING is RUNNING. -/
theorem freed_each {l : List Nat} (hl : ∀ b ∈ l, b < 16) (hs : (s.pln q).arms.length = 16) (ha : qState q a s = 1 ∨ qState q a s = 2) :
    let t := each l (endWait q) s
    (t.pln q).arms.length = 16 ∧ (qState q a t = 1 ∨ qState q a t = 2) ∧ SameStores s t ∧ ∀ b ∈ l, Freed q b t := by
  intro t
  have hlen : ∀ b ∈ l, ∀ u : State, (u.pln q).arms.length = 16 → b < (u.pln q).arms.length := fun b hb u h => by rw [h]; exact hl b hb
  have hkeep : ∀ b ∈ l, ∀ u : State, ((u.pln q).arms.length = 16 ∧ (qState q a u = 1 ∨ qState q a u = 2) ∧ SameStores s u) →
      ((endWait q b u).pln q).arms.length = 16 ∧ (qState q a (endWait q b u) = 1 ∨ qState q a (endWait q b u) = 2)
        ∧ SameStores s (endWait q b u) := fun b _ u ⟨h1, h2, h3⟩ => by
    refine ⟨(plnOnly_endWait q b u).arms.trans h1, ?_, h3.trans (plnOnly_endWait q b u).stores⟩
    by_cases hab : a = b
    · rw [← hab, qState_endWait]
      split
      · exact .inl rfl
      · exact h2
    · rwa [(endWait_other hab).2.2]
  have hstay : ∀ b ∈ l, ∀ c ∈ l, ∀ u : State, (u.pln q).arms.length = 16 → Freed q c u → Freed q c (endWait q b u) :=
    fun b _ c hc u hu h => by
      by_cases hcb : c = b
      · rw [← hcb]
        exact freed_endWait q (hlen c hc u hu)
      · obtain ⟨harm, hcode, hq⟩ := endWait_other (s := u) (q := q) hcb
        rwa [Freed, harm, hcode, hq]
  obtain ⟨⟨h1, h2, h3⟩, h4⟩ := each_makes_under hkeep (fun b hb u hu => freed_endWait q (hlen b hb u hu.1))
    (fun b hb c hc u hu h => hstay b hb c hc u hu.1 h) ⟨hs, ha, .refl s⟩
  exact ⟨h1, h2, h3, h4⟩

/-- An arm that joins or leaves a group, on one path coordinate with its other members (R126). -/
def Arm.regrouped (mask : Nat) (on : Bool) (sig : Rat) (ar : Arm) : Arm :=
  let cs := ar.sects.filter (fun c => decide (ar.x < c.x + c.w) || (decide (c.w = 0) && decide (ar.x ≤ c.x) && c.st.pos ∉ ar.cur))
  { ar with group := if on then mask else 0, sects := layout on 0 cs, phases := [], tau := 0, x := 0, v := 0
            acc := 0, sigma := if on then sig else ar.sigma, cur := none, dirty := true }

theorem plnOnly_regroup (q : Plane) (mask : Nat) (on : Bool) (s : State) : PlnOnly q s (regroup q mask on s) [] :=
  PlnOnly.each (fun b _ u => (PlnOnly.refl q u []).setArm b _) s

theorem arm_regroup (hs : (s.pln q).arms.length = 16) (mask : Nat) (on : Bool) {b : Nat} (hb : b ∈ bitsOf 16 mask) :
    ∃ sig, (regroup q mask on s).arm q b = (s.arm q b).regrouped mask on sig := by
  refine ⟨_, (State.arm_eachArm q (fun _ x => x.regrouped mask on _) (nodup_bitsOf 16 mask) s (fun c hc => ?_) b).trans (if_pos hb)⟩
  rw [hs]
  exact (mem_bitsOf.1 hc).1

/-- A member that regroups is as free as it was. -/
theorem freed_regroup (hs : (s.pln q).arms.length = 16) {mask : Nat} (on : Bool) {b : Nat} (hb : b ∈ bitsOf 16 mask) (h : Freed q b s) :
    Freed q b (regroup q mask on s) ∧ ((regroup q mask on s).arm q b).group = if on then mask else 0 := by
  obtain ⟨hwait, hcode, hq⟩ := h
  obtain ⟨sig, harm⟩ := arm_regroup hs mask on hb
  obtain ⟨hq', hcode'⟩ := qState_of_rd ((plnOnly_regroup q mask on s).rd q (k := R.PLN_Q_STATUS b) (by simp))
  rw [harm]
  exact ⟨⟨by rw [harm]; exact hwait, hcode'.trans hcode, by rwa [hq']⟩, rfl⟩

end

/-! ### SYNC (R86) -/

/-- The mode of a SYNC: 1 joins its arms to a group, 2 takes them out of it. -/
def syncMode (st : Stitch) : Nat := bitsAt (opW st.ops 1) 32 4

/-- The arms of a SYNC. -/
def syncMask (st : Stitch) : Nat := bitsAt (opW st.ops 1) 0 16

/-- The id of a SYNC. -/
def syncId (st : Stitch) : Nat := bitsAt (opW st.ops 2) 0 16

/-- The arm is in a group of which another member still has motion before its LEAVE (R126). -/
def uneven (q : Plane) (a : Nat) (s : State) : Bool := decide ((s.arm q a).group ≠ 0) && groupUneven q a s

/-- The wait of a SYNC. -/
def syncWait (st : Stitch) (s : State) : Wait := stitchWait st [syncId st, syncMode st, syncMask st] (waitLimit (opW st.ops 3) s)

/-- All arms of a SYNC go on; JOIN puts them into a group, LEAVE out of it. -/
def syncReleased (q : Plane) (st : Stitch) (s : State) : State :=
  let t := each (bitsOf 16 (syncMask st)) (endWait q) s
  if syncMode st = 1 then regroup q (syncMask st) true t else if syncMode st = 2 then regroup q (syncMask st) false t else t

/-- What a SYNC does once its arm has joined those that wait on its id. -/
def syncEntered (q : Plane) (a : Nat) (st : Stitch) (v : State) : State :=
  if (syncWaiters q (syncId st) v).any (syncClash (a, syncMode st, syncMask st)) then
    each (syncWaiters q (syncId st) v) (fun e => waitFault q e.1 0x0A) v
  else if (bitsOf 16 (syncMask st)).all
      (fun b => (syncWaiters q (syncId st) v).any (fun e => e.1 == b && e.2 == (syncMode st, syncMask st))) then syncReleased q st v
  else v

theorem reachSync_eq (q : Plane) (a : Nat) (st : Stitch) (s : State) : reachSync q a st s
    = if syncMode st = 1 ∧ (s.arm q a).group ≠ 0 then stitchFault q a 0x0A st s
      else syncEntered q a st (enterWait q a 3 (syncWait st s) s) := rfl

section
variable {q : Plane} {a : Fin 16} {st : Stitch} {s u : State} {cmd : Instr}

theorem AtReach.group (h : AtReach q a st s u) (hl : (s.pln q).arms.length = 16) : (u.arm q a).group = (s.arm q a).group :=
  h.arm_part hl (f := Arm.group) (fun _ => rfl) a

theorem AtReach.uneven (h : AtReach q a st s u) (hl : (s.pln q).arms.length = 16) : uneven q a u = uneven q a s := by
  rw [Machine.uneven, Machine.uneven, h.group hl, h.groupUneven hl]

/-- Another arm waits on the id with another mode or mask, and one names the other. -/
def syncClashes (q : Plane) (a : Nat) (st : Stitch) (s : State) : Bool :=
  (syncWaiters q (syncId st) s).any (syncClash (a, syncMode st, syncMask st))

/-- Every other arm of the mask waits on the id with the same mode and mask. -/
def SyncComplete (q : Plane) (a : Nat) (st : Stitch) (s : State) : Prop :=
  ∀ b ∈ bitsOf 16 (syncMask st), b ≠ a → (b, syncMode st, syncMask st) ∈ syncWaiters q (syncId st) s

/-- What a SYNC does that neither joins a group from within one nor leaves it unevenly. -/
theorem AtReach.sync (h : AtReach q a st s u) (hl : (s.pln q).arms.length = 16) (hw : (s.arm q a).wait = none) (hop : st.op = .sync)
    (hjoin : ¬(syncMode st = 1 ∧ (s.arm q a).group ≠ 0)) (hleave : ¬(syncMode st = 2 ∧ Machine.uneven q a s = true)) :
    let v := enterWait q a 3 (syncWait st s) u
    (syncClashes q a st s = true → reachEffect q a st u
      = each (syncWaiters q (syncId st) v) (fun e => waitFault q e.1 0x0A) v)
    ∧ (syncClashes q a st s = false → SyncComplete q a st s → reachEffect q a st u = syncReleased q st v)
    ∧ (syncClashes q a st s = false → ¬SyncComplete q a st s → reachEffect q a st u = v) := by
  intro v
  have hmem : ∀ e, e ∈ syncWaiters q (syncId st) v
      ↔ e = (a.val, syncMode st, syncMask st) ∨ e ∈ syncWaiters q (syncId st) s := fun e => by
    rw [mem_syncWaiters_enterWait a.isLt (h.arms hl) (by rw [h.arm_same hl]; exact hw) rfl, h.mem_syncWaiters hl]
  have hclash : (syncWaiters q (syncId st) v).any (syncClash (a.val, syncMode st, syncMask st)) = syncClashes q a st s := by
    rw [Bool.eq_iff_iff, syncClashes, List.any_eq_true, List.any_eq_true]
    simp only [hmem, or_and_right, exists_or, exists_eq_left, syncClash_self, Bool.false_eq_true, false_or]
  have hall : ((bitsOf 16 (syncMask st)).all fun b =>
      (syncWaiters q (syncId st) v).any fun e => e.1 == b && e.2 == (syncMode st, syncMask st)) = true ↔ SyncComplete q a st s := by
    have hany : ∀ b, ((syncWaiters q (syncId st) v).any fun e => e.1 == b && e.2 == (syncMode st, syncMask st)) = true
        ↔ b = a ∨ (b, syncMode st, syncMask st) ∈ syncWaiters q (syncId st) s := fun b => by
      rw [List.any_eq_true]
      constructor
      · rintro ⟨⟨c, x⟩, he, hx⟩
        simp only [Bool.and_eq_true, beq_iff_eq] at hx
        obtain ⟨rfl, rfl⟩ := hx
        exact ((hmem _).1 he).imp_left (congrArg Prod.fst)
      · intro hb
        refine ⟨(b, syncMode st, syncMask st), (hmem _).2 (hb.imp_left fun e => by rw [e]), by simp⟩
    rw [List.all_eq_true, SyncComplete]
    exact forall₂_congr fun b _ => (hany b).trans (Decidable.or_iff_not_imp_left)
  have heff : reachEffect q a st u = syncEntered q a st v := by
    have hl' : ¬(((u.arm q a).group ≠ 0 && bitsAt (opW st.ops 1) 32 4 == 2 && Machine.groupUneven q a u) = true) := by
      rw [h.group hl, h.groupUneven hl]
      intro hx
      simp only [Bool.and_eq_true, decide_eq_true_eq, beq_iff_eq] at hx
      exact hleave ⟨hx.1.2, by simp [Machine.uneven, hx]⟩
    have hwait : syncWait st u = syncWait st s := by rw [syncWait, syncWait, waitLimit, waitLimit, h.frame.now]
    simp only [reachEffect, hop]
    rw [if_neg hl', reachSync_eq, if_neg (by rw [h.group hl]; exact hjoin), hwait]
  rw [syncEntered, hclash] at heff
  refine ⟨fun hc => ?_, fun hc hx => ?_, fun hc hx => ?_⟩
  · rw [heff, hc, if_pos rfl]
  · rw [heff, hc, if_neg Bool.false_ne_true, if_pos (hall.2 hx)]
  · rw [heff, hc, if_neg Bool.false_ne_true, if_neg (fun e => hx (hall.1 e))]

end

end Sys2Proof.Machine

namespace Sys2Proof.Machine

section
variable {q : Plane} {a : Fin 16} {st : Stitch} {s u : State} {cmd : Instr}

theorem Reaching.does_sync_waits (h : Reaching q a st s) (h0 : st.fault = 0) (hop : st.op = .sync)
    (hjoin : ¬(syncMode st = 1 ∧ (s.arm q a).group ≠ 0)) (hleave : ¬(syncMode st = 2 ∧ uneven q a s = true))
    (hclash : syncClashes q a st s = false) (hmore : ¬SyncComplete q a st s) :
    Does (.stitchSync a) s (WaitsAt q a st s 3 (syncWait st s) []) := by
  refine h.does_effect (by simp [hop, stitchRows]) (by simp [hop]) h0 fun u hu => ?_
  rw [(hu.sync h.arms h.wait hop hjoin hleave).2.2 hclash hmore]
  exact (hu.waits h.arms (PlnOnly.refl q u []) (by simp) (hu.last h.arms) (by decide) rfl).recheck

theorem Reaching.does_sync_released (h : Reaching q a st s) (h0 : st.fault = 0) (hop : st.op = .sync)
    (hjoin : ¬(syncMode st = 1 ∧ (s.arm q a).group ≠ 0)) (hleave : ¬(syncMode st = 2 ∧ uneven q a s = true))
    (hclash : syncClashes q a st s = false) (hself : bitN (syncMask st) a = true) (hall : SyncComplete q a st s) (h1 : qState q a s = 1) :
    Does (.stitchSync a) s (fun t => qState q a t = 1 ∧ (∀ b ∈ bitsOf 16 (syncMask st), (t.arm q b).wait = none ∧ waitCode q b t = 0
      ∧ (syncMode st = 1 → (t.arm q b).group = syncMask st) ∧ (syncMode st = 2 → (t.arm q b).group = 0)) ∧ SameStores s t) := by
  refine h.does_effect (by simp [hop, stitchRows]) (by simp [hop]) h0 fun u hu => ?_
  rw [(hu.sync h.arms h.wait hop hjoin hleave).2.1 hclash hall]
  have hv := plnOnly_enterWait q a 3 (syncWait st s) u
  have hv2 : qState q a (enterWait q a 3 (syncWait st s) u) = 2 :=
    (qState_enterWait q a 3 _ u).trans (if_pos ((hu.qState a).trans h1))
  obtain ⟨hlen, hrun, hstores, hfree⟩ := freed_each (fun b hb => (mem_bitsOf.1 hb).1) (hv.arms.trans (hu.arms h.arms)) (.inr hv2)
    (l := bitsOf 16 (syncMask st))
  unfold syncReleased
  generalize each (bitsOf 16 (syncMask st)) (endWait q) _ = t at hlen hrun hstores hfree ⊢
  have hstores : SameStores s t := hu.frame.stores.trans (hv.stores.trans hstores)
  have hq1 : qState q a t = 1 := hrun.resolve_right (hfree a (mem_bitsOf.2 ⟨a.isLt, hself⟩)).2.2
  have hgroup : ∀ on, let r := regroup q (syncMask st) on t
      qState q a r = 1 ∧ (∀ b ∈ bitsOf 16 (syncMask st), ((r.arm q b).wait = none ∧ waitCode q b r = 0)
        ∧ (r.arm q b).group = if on then syncMask st else 0) ∧ SameStores s r := fun on => by
    have hr := plnOnly_regroup q (syncMask st) on t
    refine ⟨(qState_of_rd (hr.rd q (by simp))).1.trans hq1, fun b hb => ?_, hstores.trans hr.stores⟩
    obtain ⟨⟨hw, hc, -⟩, hg⟩ := freed_regroup hlen on hb (hfree b hb)
    exact ⟨⟨hw, hc⟩, hg⟩
  have hrecheck : ∀ (r : State) (b : Nat), qState q b (belRecheck r) = qState q b r ∧ waitCode q b (belRecheck r) = waitCode q b r :=
    fun r b => ⟨State.get_belRecheck .., State.get_belRecheck ..⟩
  simp only [State.arm_belRecheck, hrecheck]
  by_cases hm1 : syncMode st = 1
  · obtain ⟨hq, hb, hst⟩ := hgroup true
    rw [if_pos hm1]
    refine ⟨hq, fun b hx => ⟨(hb b hx).1.1, (hb b hx).1.2, fun _ => (hb b hx).2, fun hm2 => ?_⟩, hst⟩
    rw [hm1] at hm2
    cases hm2
  · rw [if_neg hm1]
    by_cases hm2 : syncMode st = 2
    · obtain ⟨hq, hb, hst⟩ := hgroup false
      rw [if_pos hm2]
      exact ⟨hq, fun b hx => ⟨(hb b hx).1.1, (hb b hx).1.2, fun e => absurd e hm1, fun _ => (hb b hx).2⟩, hst⟩
    · rw [if_neg hm2]
      exact ⟨hq1, fun b hb => ⟨(hfree b hb).1, (hfree b hb).2.1, fun e => absurd e hm1, fun e => absurd e hm2⟩, hstores⟩

/-- Arms on one id that mismatch are all faulted (R86). -/
theorem mismatched_each {l : List (Nat × Nat × Nat)} (hl : ∀ e ∈ l, e.1 < 16) (hs : SoundOrMismatched q a s)
    (hwait : ∀ e ∈ l, (s.arm q e.1).wait ≠ none) : let t := each l (fun e => waitFault q e.1 0x0A) s
    SoundOrMismatched q a t ∧ ∀ e ∈ l, qState q e.1 t = 6 := by
  have hfault : ∀ e ∈ l, ∀ u, SoundOrMismatched q a u ∧ (∀ f ∈ l, (u.arm q f.1).wait ≠ none ∨ qState q f.1 u = 6) →
      waitFault q e.1 0x0A u = u ∧ qState q e.1 u = 6
        ∨ ∃ tag pos redo, waitFault q e.1 0x0A u = armFault q e.1 10 tag pos redo u := fun e he u ⟨_, hu⟩ => by
    unfold waitFault
    split
    · exact .inr ⟨_, _, _, rfl⟩
    · next hw => exact .inl ⟨rfl, (hu e he).resolve_left (not_not.2 hw)⟩
  refine (each_makes_under (Q := fun (e : Nat × Nat × Nat) t => qState q e.1 t = 6)
    (P := fun u => SoundOrMismatched q a u ∧ ∀ f ∈ l, (u.arm q f.1).wait ≠ none ∨ qState q f.1 u = 6)
    (fun e he u hu => ?_) (fun e he u hu => ?_) (fun e he f hf u hu h6 => ?_) ⟨hs, fun f hf => .inl (hwait f hf)⟩).imp_left And.left
  · rcases hfault e he u hu with ⟨heq, -⟩ | ⟨tag, pos, redo, heq⟩
    · rwa [heq]
    · rw [heq]
      refine ⟨hu.1.armFault (hl e he) tag pos redo, fun f hf => ?_⟩
      by_cases hfe : f.1 = e.1
      · rw [hfe]
        exact .inr (qState_armFault (hl e he) (by decide) hu.1.1 tag pos redo)
      · obtain ⟨hq, -, hw⟩ := armFault_other hfe (hl e he) (code := 10) (by decide) hu.1.1 tag pos redo
        rw [hq, hw]
        exact hu.2 f hf
  · rcases hfault e he u hu with ⟨heq, h6⟩ | ⟨tag, pos, redo, heq⟩
    · rwa [heq]
    · rw [heq]
      exact qState_armFault (hl e he) (by decide) hu.1.1 tag pos redo
  · rcases hfault e he u hu with ⟨heq, -⟩ | ⟨tag, pos, redo, heq⟩
    · rwa [heq]
    · rw [heq]
      exact qState_armFault_of_faulted h6 (hl e he) (by decide) hu.1.1 tag pos redo

theorem Reaching.does_sync_clash (h : Reaching q a st s) (h0 : st.fault = 0) (hop : st.op = .sync)
    (hjoin : ¬(syncMode st = 1 ∧ (s.arm q a).group ≠ 0)) (hleave : ¬(syncMode st = 2 ∧ uneven q a s = true))
    (hclash : syncClashes q a st s = true) (h1 : qState q a s = 1) : Does (.stitchSync a) s (fun t => Mismatched q a t
      ∧ ∀ e ∈ syncWaiters q (syncId st) s, qState q e.1 t = 6) := by
  refine h.does_effect (by simp [hop, stitchRows]) (by simp [hop]) h0 fun u hu => ?_
  rw [(hu.sync h.arms h.wait hop hjoin hleave).1 hclash]
  have hv := plnOnly_enterWait q a 3 (syncWait st s) u
  have hv2 : qState q a (enterWait q a 3 (syncWait st s) u) = 2 :=
    (qState_enterWait q a 3 _ u).trans (if_pos ((hu.qState a).trans h1))
  have hmem : ∀ e, e ∈ syncWaiters q (syncId st) (enterWait q a 3 (syncWait st s) u)
      ↔ e = (a.val, syncMode st, syncMask st) ∨ e ∈ syncWaiters q (syncId st) s := fun e => by
    rw [mem_syncWaiters_enterWait a.isLt (hu.arms h.arms) (by rw [hu.arm_same h.arms]; exact h.wait) rfl, hu.mem_syncWaiters h.arms]
  have hlen := hv.arms.trans (hu.arms h.arms)
  generalize enterWait q a 3 (syncWait st s) u = v at hv2 hmem hlen ⊢
  obtain ⟨⟨-, hsound⟩, hall⟩ := mismatched_each (q := q) (a := a) (s := v) (l := syncWaiters q (syncId st) v)
    (fun e he => (mem_syncWaiters.1 he).1) ⟨hlen, fun h6 => absurd (hv2.symm.trans h6) (by decide)⟩ fun e he => by
      obtain ⟨-, -, w, hw, -⟩ := mem_syncWaiters.1 he
      simp [hw]
  refine ⟨(hsound (hall _ ((hmem _).2 (.inl rfl)))).recheck, fun e he => ?_⟩
  exact (State.get_belRecheck ..).trans (hall e ((hmem e).2 (.inr he)))

theorem Reaching.does_sync_grouped (h : Reaching q a st s) (h0 : st.fault = 0) (hop : st.op = .sync) (hm : syncMode st = 1)
    (hg : (s.arm q a).group ≠ 0) (h6 : qState q a s ≠ 6) : Does (.stitchSync a) s (Mismatched q a) := by
  refine h.does_effect (by simp [hop, stitchRows]) (by simp [hop]) h0 fun u hu => ?_
  have heff : reachEffect q a st u = stitchFault q a 0x0A st u := by
    simp only [reachEffect, hop]
    rw [if_neg (by simp [show bitsAt (opW st.ops 1) 32 4 = 1 from hm]), reachSync, if_pos ⟨hm, by rwa [hu.group h.arms]⟩]
  have hf := armFaulted_armFault (by rw [hu.qState]; exact h6) (code := 10) (by decide) a.isLt (hu.arms h.arms) st.tag st.pos (some st)
  rw [heff]
  exact Mismatched.recheck ⟨hf.state, hf.code, hf.flag⟩

/-- A SYNC that leaves a group, and an END, are a mismatch of the group while another member still has motion (R126). -/
theorem Reaching.does_uneven (h : Reaching q a st s) (h0 : st.fault = 0)
    (hm : (cmd, st.op) ∈ [(.stitchSync a, .sync), (.stitchEnd a, .finish)]) (hleave : st.op = .sync → syncMode st = 2)
    (hun : uneven q a s = true) (hself : bitN (s.arm q a).group a = true)
    (h6 : qState q a s ≠ 6) : Does cmd s (Mismatched q a) := by
  have hrow : (cmd, st.op) ∈ stitchRows a ∧ st.op ≠ .waitio := by
    simp only [List.mem_cons, Prod.mk.injEq, List.not_mem_nil, or_false] at hm
    rcases hm with ⟨rfl, hop⟩ | ⟨rfl, hop⟩ <;> exact ⟨by simp [hop, stitchRows], by simp [hop]⟩
  refine h.does_effect hrow.1 hrow.2 h0 fun u hu => ?_
  have hx : (u.arm q a).group ≠ 0 ∧ groupUneven q a u = true := by
    rw [← hu.uneven h.arms, uneven, Bool.and_eq_true, decide_eq_true_eq] at hun
    exact hun
  have heff : reachEffect q a st u = groupMismatch q a u := by
    simp only [List.mem_cons, Prod.mk.injEq, List.not_mem_nil, or_false] at hm
    rcases hm with ⟨-, hop⟩ | ⟨-, hop⟩
    · have h2 : bitsAt (opW st.ops 1) 32 4 = 2 := hleave hop
      simp only [reachEffect, hop]
      exact if_pos (by simp [hx, h2])
    · simp only [reachEffect, hop]
      exact if_pos (by simp [hx])
  rw [heff]
  exact (mismatched_groupMismatch (hu.arms h.arms) (by rwa [hu.qState]) a.isLt (by rwa [hu.group h.arms])).recheck

/-! ### END (R92) -/

/-- The effect of an END of an arm whose group is even. -/
theorem AtReach.finish (h : AtReach q a st s u) (hl : (s.pln q).arms.length = 16) (hop : st.op = .finish)
    (hun : Machine.uneven q a s = false) : reachEffect q a st u = if Machine.qState q a s = 1 then raiseQ q a 2 (setQState q a 5 u)
      else u.setArm q a { u.arm q a with redo := some st } := by
  have hx : ¬(((u.arm q a).group ≠ 0 && Machine.groupUneven q a u) = true) := by
    rw [← h.uneven hl, Machine.uneven] at hun
    simpa using hun
  simp only [reachEffect, hop]
  rw [if_neg hx, h.qState]

theorem Reaching.does_end (h : Reaching q a st s) (h0 : st.fault = 0) (hop : st.op = .finish) (hun : uneven q a s = false)
    (h1 : qState q a s = 1) : Does (.stitchEnd a) s (fun t => qState q a t = 5 ∧ t.flagged q (bPQ a) 2
      ∧ (t.arm q a).last = some st ∧ SameStores s t ∧ RegsKept q s t (waitRegs a st ++ flagSlots (bPQ a) 2)) := by
  refine h.does_effect (by simp [hop, stitchRows]) (by simp [hop]) h0 fun u hu => ?_
  rw [hu.finish h.arms hop hun, if_pos h1]
  have hst := (hu.frame.mono fun _ => waitRegs_of_reachRegs).andKeeps
    ((keeps_setQState q a 5 u).mono (by simpa using status_mem_waitRegs a st))
  have hf := (hst.append (keeps_raiseQ q a 2 _).plnOnly).recheck
  refine ⟨?_, (State.flagged_belRecheck ..).2 (flagged_raiseQ q a (by decide) _), ?_, hf.stores, hf.regs⟩
  · refine (State.get_belRecheck ..).trans ((qState_of_rd (rd_raiseQ q a (by decide) _ (queueSlot_status a) q)).1.trans ?_)
    exact qState_setQState q a (by decide) u
  · rw [State.arm_belRecheck, arm_raiseQ, arm_setQState, hu.last h.arms]

theorem Reaching.does_end_stopping (h : Reaching q a st s) (h0 : st.fault = 0) (hop : st.op = .finish) (hun : uneven q a s = false)
    (h1 : qState q a s ≠ 1) : Does (.stitchEnd a) s (fun t => qState q a t = qState q a s ∧ (t.arm q a).redo = some st
      ∧ SameStores s t ∧ RegsKept q s t (waitRegs a st)) := by
  refine h.does_effect (by simp [hop, stitchRows]) (by simp [hop]) h0 fun u hu => ?_
  rw [hu.finish h.arms hop hun, if_neg h1]
  have ha : (a : Nat) < (u.pln q).arms.length := by rw [hu.arms h.arms]; exact a.isLt
  have hf := ((hu.frame.setArm a { u.arm q a with redo := some st }).mono fun _ => waitRegs_of_reachRegs).recheck
  refine ⟨(State.get_belRecheck ..).trans ((qState_setArm ..).trans (hu.qState a)), ?_, hf.stores, hf.regs⟩
  rw [State.arm_belRecheck, State.arm_setArm_same _ _ _ ha]

end

/-- Settles O51: a Stitch that is reached shows its end and its tag, and then has the effect of its opcode or is its arm's fault. -/
theorem stitchesAreReached : Obligations.StitchesAreReached := by
  refine ⟨fun q a st s hc hl hr hn hfetch => ?_, fun q a st s hc hl hr hn hfetch h0 => ?_⟩
  · have h : Reaching q a st s := ⟨hc, hl, hr, hn, hfetch⟩
    intro ar ar1 regs w1 i l Shown Reached Drives full logged w
    exact ⟨fun h0 => ⟨fun cmd hm => h.does_modal h0 hm, fun cmd hm => h.does_motion h0 hm, h.does_joint h0, h.does_couple h0,
      h.does_trig h0, h.does_layer h0, h.does_layer_full_rests h0, h.does_layer_full_moves h0, h.does_calibApply h0, h.does_mark h0,
      h.does_setio_own h0, fun b hop hst hb h36 hbad hp => h.does_setio_station h0 hop hst hb h36 hbad hp, h.does_zoneLeave_held h0,
      h.does_zoneLeave_not_held h0, h.does_proc h0, h.does_procramp h0⟩, fun cmd hf h6 hm => h.does_fault hm hf h6⟩
  · have h : Reaching q a st s := ⟨hc, hl, hr, hn, hfetch⟩
    intro ar regs w1 until' z stood Waits wait Passes Mismatch mode mask id others uneven c lev met
    refine ⟨h.does_dwell h0, h.does_dwell_zero h0, h.does_zoneEnter_not_held h0, h.does_zoneEnter_held h0,
      fun hop hjoin hleave => ⟨fun hclash hmore => ?_, fun hclash hself hall h1 => ?_, fun hclash h1 => ?_⟩,
      h.does_sync_grouped h0, fun hun hself h6 => ⟨fun hop hm => ?_, fun hop => ?_⟩, h.does_waitio_unmet h0, h.does_waitio_met h0,
      h.does_end h0, h.does_end_stopping h0⟩
    · refine h.does_sync_waits h0 hop hjoin hleave hclash fun hall => ?_
      obtain ⟨b, hb, hba, hnot⟩ := hmore
      exact hnot (hall b hb hba)
    · exact h.does_sync_released h0 hop hjoin hleave hclash hself hall h1
    · exact h.does_sync_clash h0 hop hjoin hleave hclash h1
    · exact h.does_uneven h0 (by simp [hop]) (fun _ => hm) hun hself h6
    · exact h.does_uneven h0 (by simp [hop]) (by simp [hop]) hun hself h6

end Sys2Proof.Machine

/-! ## The fetch of a Stitch (R69, R93, R101) -/

namespace Sys2Proof.Machine

/-! ### A Stitch that enters look-ahead (R70, R84, R101) -/

section
variable {q : Plane} {a : Nat} {st : Stitch} {s : State}

theorem plnOnly_addMotion (q : Plane) (a : Nat) (st : Stitch) (s : State) : PlnOnly q s (addMotion q a st s) (flagSlots (bPQ a) 8) :=
  ((PlnOnly.refl q s _).setArm a _).trans (PlnOnly.each (fun _ _ u => (keeps_raiseQ q a 8 u).plnOnly) _)

theorem ahead_addMotion (ha : a < (s.pln q).arms.length) (st : Stitch) :
    ((addMotion q a st s).arm q a).ahead = (s.arm q a).ahead := by
  refine each_keeps (P := fun t : State => (t.arm q a).ahead = (s.arm q a).ahead)
    (fun _ _ u h => (congrArg Arm.ahead (arm_raiseQ q q a 8 a u)).trans h) ?_
  rw [State.arm_setArm_same _ _ _ ha]

/-- The registers that a Stitch may change where it enters look-ahead. -/
def acceptRegs (a : Nat) : List Nat :=
  [R.PLN_Q_AHEAD a, R.PLN_Q_AHEAD_POS a] ++ (flagSlots (bPQ a) 6 ++ (flagSlots (bPQ a) 8 ++ flagSlots (bPQ a) 10))

theorem QueueSlot.not_mem_acceptRegs {k : Nat} (h : QueueSlot k) {a : Nat} (h1 : k ≠ R.PLN_Q_AHEAD a) (h2 : k ≠ R.PLN_Q_AHEAD_POS a) :
    k ∉ acceptRegs a := by
  simp [acceptRegs, h1, h2, h.not_mem_flagsQ a (j := 6) (by decide), h.not_mem_flagsQ a (j := 8) (by decide),
    h.not_mem_flagsQ a (j := 10) (by decide)]

/-- A Stitch whose limits a ceiling clamps is told (R66). -/
def clampTold (q : Plane) (a : Nat) (clamp : Bool) (s : State) : State := if clamp then raiseQ q a 6 s else s

theorem keeps_clampTold (q : Plane) (a : Nat) (clamp : Bool) (s : State) : Keeps q s (clampTold q a clamp s) (flagSlots (bPQ a) 6) := by
  cases clamp
  · exact .refl q s _
  · exact keeps_raiseQ q a 6 s

/-- The state before a sound Stitch joins the look-ahead: its clamps are told and its motion enters the path. -/
def motionTaken (q : Plane) (a : Nat) (st : Stitch) (clamp : Bool) (s : State) : State :=
  if isMotion st.op then addMotion q a st (clampTold q a clamp s) else clampTold q a clamp s

theorem plnOnly_motionTaken (q : Plane) (a : Nat) (st : Stitch) (clamp : Bool) (s : State) :
    PlnOnly q s (motionTaken q a st clamp s) (flagSlots (bPQ a) 6 ++ flagSlots (bPQ a) 8) := by
  have h1 := (keeps_clampTold q a clamp s).plnOnly
  unfold motionTaken
  split
  · exact h1.append (plnOnly_addMotion q a st _)
  · exact h1.mono fun _ h => List.mem_append_left _ h

theorem ahead_motionTaken (ha : a < (s.pln q).arms.length) (st : Stitch) (clamp : Bool) :
    ((motionTaken q a st clamp s).arm q a).ahead = (s.arm q a).ahead := by
  have h1 : (clampTold q a clamp s).pln q = s.pln q := State.pln_of_inner (keeps_clampTold q a clamp s).1 q
  unfold motionTaken
  split
  · rw [ahead_addMotion (by rwa [h1]), State.arm_of_pln h1]
  · rw [State.arm_of_pln h1]

/-- The arm after a sound Stitch has joined its look-ahead. -/
def Arm.taken (ar : Arm) (st : Stitch) (m : Modal) : Arm :=
  let tr : List ArmedTrig := if st.op = .trig then
      [⟨bitsAt (opW st.ops 1) 0 4, bitsAt (opW st.ops 1) 4 4, (opW st.ops 2).toInt, opW st.ops 3, none, st.pos, false, st.tag⟩] else []
  { ar with ahead := ar.ahead ++ [st], modal := m, trigs := ar.trigs ++ tr, endFetched := ar.endFetched || st.op == .finish }

theorem acceptStitch_of_sound (h0 : st.fault = 0) (m : Modal) (clamp : Bool) : acceptStitch q a st m clamp s
    = (motionTaken q a st clamp s).setArm q a (((motionTaken q a st clamp s).arm q a).taken st m) := by
  rw [acceptStitch, if_neg (not_not.2 h0)]; rfl

/-- The arm's look-ahead ends at a Stitch that failed a check; AHEAD and AHEAD_POS name it (R101). -/
def faultAhead (q : Plane) (a : Nat) (st : Stitch) (s : State) : State :=
  ((s.setArm q a { s.arm q a with ahead := (s.arm q a).ahead ++ [st], aheadFault := true, dirty := true }).wr q (R.PLN_Q_AHEAD a)
    (F.PLN_Q_AHEAD_CODE.set (F.PLN_Q_AHEAD_TAG.set 0 st.tag) st.fault)).wr q (R.PLN_Q_AHEAD_POS a) (F.PLN_Q_AHEAD_POS_COUNT.set 0 st.pos)

theorem acceptStitch_of_fault (h : st.fault ≠ 0) (m : Modal) (clamp : Bool) :
    acceptStitch q a st m clamp s = raiseQ q a 10 (faultAhead q a st s) := by
  rw [acceptStitch, if_pos h]; rfl

theorem plnOnly_acceptStitch (q : Plane) (a : Nat) (st : Stitch) (m : Modal) (clamp : Bool) (s : State) :
    PlnOnly q s (acceptStitch q a st m clamp s) (acceptRegs a) := by
  by_cases h0 : st.fault = 0
  · rw [acceptStitch_of_sound h0]
    exact ((plnOnly_motionTaken q a st clamp s).setArm a _).mono (by simp +contextual [acceptRegs, or_imp])
  · rw [acceptStitch_of_fault h0]
    exact ((((PlnOnly.refl q s _).setArm a _).wr _ _ (by simp [acceptRegs])).wr _ _ (by simp [acceptRegs])).andKeeps
      ((keeps_raiseQ q a 10 _).mono (by simp +contextual [acceptRegs]))

/-- The Stitch joins the look-ahead, and its modal state is the arm's where it passed its checks. -/
theorem arm_acceptStitch (ha : a < (s.pln q).arms.length) (st : Stitch) (m : Modal) (clamp : Bool) :
    let x := (acceptStitch q a st m clamp s).arm q a
    x.ahead = (s.arm q a).ahead ++ [st] ∧ (st.fault = 0 → x.modal = m) ∧ (st.fault ≠ 0 → x.aheadFault = true) := by
  intro x
  by_cases h0 : st.fault = 0
  · have hx : x = ((motionTaken q a st clamp s).arm q a).taken st m := by
      have hl := (plnOnly_motionTaken q a st clamp s).arms
      exact (congrArg (fun u : State => u.arm q a) (acceptStitch_of_sound h0 m clamp)).trans (State.arm_setArm_same _ _ _ (by rwa [hl]))
    rw [hx]
    exact ⟨congrArg (· ++ [st]) (ahead_motionTaken ha st clamp), fun _ => rfl, fun h => absurd h0 h⟩
  · have hx : x = { s.arm q a with ahead := (s.arm q a).ahead ++ [st], aheadFault := true, dirty := true } := by
      simp only [x, acceptStitch_of_fault h0, faultAhead, arm_raiseQ, State.arm_wr, s.arm_setArm_same q _ ha]
    rw [hx]
    exact ⟨rfl, fun h => absurd h h0, fun _ => rfl⟩

/-- What AHEAD shows of a Stitch that failed a check (R101). -/
theorem ahead_acceptStitch (h : st.fault ≠ 0) (m : Modal) (clamp : Bool) : let t := acceptStitch q a st m clamp s
    t.flagged q (bPQ a) 10 ∧ t.get q (R.PLN_Q_AHEAD a) F.PLN_Q_AHEAD_CODE = st.fault % 2 ^ F.PLN_Q_AHEAD_CODE.width
      ∧ t.get q (R.PLN_Q_AHEAD_POS a) F.PLN_Q_AHEAD_POS_COUNT = st.pos % 2 ^ F.PLN_Q_AHEAD_POS_COUNT.width := by
  intro t
  have hne : R.PLN_Q_AHEAD a ≠ R.PLN_Q_AHEAD_POS a := by simp only [R.PLN_Q_AHEAD, R.PLN_Q_AHEAD_POS]; omega
  have ht : t = raiseQ q a 10 (faultAhead q a st s) := acceptStitch_of_fault h m clamp
  have hrd : ∀ k, QueueSlot k → t.rd q k = (faultAhead q a st s).rd q k := fun k hk => by
    rw [ht, rd_raiseQ q a (by decide) _ hk]
  refine ⟨?_, ?_, ?_⟩
  · rw [ht]
    exact flagged_raiseQ q a (by decide) _
  · rw [State.get, hrd _ (queueSlot_ahead a), faultAhead, State.rd_wr_ne _ _ _ _ hne, State.rd_wr_same, Fld.get_set_same _ (by decide)]
  · rw [State.get, hrd _ (queueSlot_aheadPos a), faultAhead, State.rd_wr_same, Fld.get_set_same _ (by decide)]

end

/-! ### The ring (R93) -/

/-- The store address of the word that stands `k` words behind FETCH in the ring. -/
def ringAt (q : Plane) (a : Nat) (s : State) (k : Nat) : Nat :=
  (s.arm q a).base / 2 ^ (s.arm q a).size * 2 ^ (s.arm q a).size
    + (s.get q (R.PLN_Q_FETCH a) F.PLN_Q_FETCH_COUNT + k) % 2 ^ (s.arm q a).size

/-- The header that stands next in the ring. -/
def ringHead (q : Plane) (a : Nat) (s : State) : Word := s.sw q (ringAt q a s 0)

/-- The number of operands behind it. -/
def ringCount (q : Plane) (a : Nat) (s : State) : Nat := bitsAt (ringHead q a s) 24 6

/-- Its operands. -/
def ringOps (q : Plane) (a : Nat) (s : State) : List Word := (List.range (ringCount q a s)).map (fun k => s.sw q (ringAt q a s (k + 1)))

/-- The Stitch that stands next in the ring of `s`, checked in `u`, and the modal state that it leaves. -/
def ringStitch (q : Plane) (a : Nat) (s u : State) : Stitch × Modal :=
  decodeStitch q a (s.arm q a) (s.get q (R.PLN_Q_FETCH a) F.PLN_Q_FETCH_COUNT) (ringHead q a s) (ringOps q a s) u

/-- FETCH moves past the words of the Stitch, and it is accepted; `u` is the state once they have been read. -/
def fetchedFrom (q : Plane) (a : Nat) (s u : State) : State :=
  let d := ringStitch q a s u
  acceptStitch q a d.1 d.2 (d.1.fault == 0 && clampsAt a d.1.op (ringOps q a s) (s.arm q a).modal u)
    (u.put q (R.PLN_Q_FETCH a) F.PLN_Q_FETCH_COUNT ((s.get q (R.PLN_Q_FETCH a) F.PLN_Q_FETCH_COUNT + 1 + ringCount q a s) % 2 ^ 32))

/-- The ring holds a whole Stitch, and the look-ahead has room for it. -/
def Fits (q : Plane) (a : Nat) (s : State) : Prop :=
  8 ≤ (s.arm q a).size ∧ (s.arm q a).size ≤ 24 ∧ (s.arm q a).aheadFault = false ∧ (s.arm q a).endFetched = false
    ∧ (s.arm q a).ahead.length < 1024 ∧ (s.arm q a).trigs.length + movedTrigs q a s < 64
    ∧ 1 + ringCount q a s ≤ (s.get q (R.PLN_Q_WR a) F.PLN_Q_WR_COUNT + 2 ^ 32 - s.get q (R.PLN_Q_FETCH a) F.PLN_Q_FETCH_COUNT) % 2 ^ 32

section
variable {q : Plane} {a : Nat} {s : State}

/-- A store without a bad word gives a block what it reads. -/
theorem State.blockRead_of_sound (h : (s.plane q).store.bad = []) (x n : Nat) : s.blockRead q x n = s := by
  refine if_neg ?_
  simp [State.poisoned, h]

theorem fetchOne_of_not_fits (h : ¬Fits q a s) : fetchOne q a s = none := by
  refine if_pos ?_
  by_contra hc
  simp only [not_or, not_lt, not_le, Bool.not_eq_true] at hc
  exact h hc

/-- A Stitch that fits is taken. -/
theorem fetchOne_of_fits (hb : (s.plane q).store.bad = []) (h : Fits q a s) : fetchOne q a s = some (fetchedFrom q a s s) := by
  have hread : each (List.range (ringCount q a s + 1)) (fun k u => u.blockRead q (ringAt q a s k) 1) s = s :=
    each_keeps (P := fun u => u = s) (fun _ _ u hu => by rw [hu, State.blockRead_of_sound hb]) rfl
  have htaken : fetchOne q a s
      = some (fetchedFrom q a s (each (List.range (ringCount q a s + 1)) (fun k u => u.blockRead q (ringAt q a s k) 1) s)) := by
    refine if_neg ?_
    obtain ⟨h1, h2, h3, h4, h5, h6, h7⟩ := h
    simp only [not_or, not_lt, not_le, Bool.not_eq_true]
    exact ⟨h1, h2, h3, h4, h5, h6, h7⟩
  rw [htaken, hread]

theorem pos_decodeStitch (ar : Arm) (pos : Nat) (h : Word) (ws : List Word) : (decodeStitch q a ar pos h ws s).1.pos = pos := by
  unfold decodeStitch
  split <;> rfl

/-- What the fetch of a Stitch leaves. -/
theorem plnOnly_fetchedFrom (q : Plane) (a : Nat) (s : State) : PlnOnly q s (fetchedFrom q a s s) (R.PLN_Q_FETCH a :: acceptRegs a) :=
  ((PlnOnly.refl q s _).put _ _ _ (by simp)).trans ((plnOnly_acceptStitch ..).mono fun _ h => List.mem_cons_of_mem _ h)

theorem fetch_fetchedFrom (q : Plane) (a : Nat) (s : State) : (fetchedFrom q a s s).get q (R.PLN_Q_FETCH a) F.PLN_Q_FETCH_COUNT
    = (s.get q (R.PLN_Q_FETCH a) F.PLN_Q_FETCH_COUNT + 1 + ringCount q a s) % 2 ^ 32 := by
  have hne := (queueSlot_fetch a).not_mem_acceptRegs (a := a) (by simp only [R.PLN_Q_FETCH, R.PLN_Q_AHEAD]; omega)
    (by simp only [R.PLN_Q_FETCH, R.PLN_Q_AHEAD_POS]; omega)
  exact ((plnOnly_acceptStitch ..).get q hne _).trans ((s.get_put_same q _ _ _ (by decide)).trans (Nat.mod_mod _ _))

end

end Sys2Proof.Machine

namespace Sys2Proof.Machine

/-! ### A reach leaves FETCH as it is (R65) -/

/-- FETCH of a queue is as it was. -/
def FetchKept (q : Plane) (a : Nat) (s t : State) : Prop := t.rd q (R.PLN_Q_FETCH a) = s.rd q (R.PLN_Q_FETCH a)

section
variable {q : Plane} {a : Nat} {st : Stitch} {s t u : State}

theorem FetchKept.trans (h1 : FetchKept q a s t) (h2 : FetchKept q a t u) : FetchKept q a s u := Eq.trans h2 h1

theorem PlnOnly.fetchKept {ks : List Nat} (h : PlnOnly q s t ks) (hk : R.PLN_Q_FETCH a ∉ ks) : FetchKept q a s t := h.rd q hk

theorem Keeps.fetchKept {ks : List Nat} (h : Keeps q s t ks) (hk : R.PLN_Q_FETCH a ∉ ks) : FetchKept q a s t :=
  h.plnOnly.fetchKept hk

theorem fetchKept_each {α : Type} {f : α → State → State} {l : List α} (hf : ∀ x ∈ l, ∀ u, FetchKept q a u (f x u)) (s : State) :
    FetchKept q a s (each l f s) :=
  each_keeps (P := fun t => FetchKept q a s t) (fun x hx u h => h.trans (hf x hx u)) rfl

theorem fetchKept_setArm (s : State) (b : Nat) (x : Arm) : FetchKept q a s (s.setArm q b x) := s.rd_setArm q q b x _
theorem fetchKept_setPln (s : State) (p : PlnSt) : FetchKept q a s (s.setPln q p) := s.rd_setPln q q p _

theorem fetch_ne_status (a b : Nat) : R.PLN_Q_FETCH a ≠ R.PLN_Q_STATUS b := by simp only [R.PLN_Q_FETCH, R.PLN_Q_STATUS]; omega

theorem fetchKept_raiseQ (b : Nat) {j : Nat} (hj : j < 16) (s : State) : FetchKept q a s (raiseQ q b j s) :=
  (keeps_raiseQ q b j s).fetchKept ((queueSlot_fetch a).not_mem_flagsQ b hj)

theorem fetchKept_enterWait (b code : Nat) (w : Wait) (s : State) : FetchKept q a s (enterWait q b code w s) :=
  (plnOnly_enterWait q b code w s).fetchKept (by simpa using fetch_ne_status a b)

theorem fetchKept_endWait (b : Nat) (s : State) : FetchKept q a s (endWait q b s) :=
  (plnOnly_endWait q b s).fetchKept (by simpa using fetch_ne_status a b)

theorem fetchKept_armFault (b : Nat) {code : Nat} (hc : code ≠ 0) (tag pos : Nat) (redo : Option Stitch) (s : State) :
    FetchKept q a s (armFault q b code tag pos redo s) :=
  (plnOnly_armFault q b hc tag pos redo s).fetchKept ((queueSlot_fetch a).not_mem_faultRegs (by
    simp only [R.PLN_Q_FETCH, R.PLN_Q_STATUS, R.PLN_Q_FAULT, R.PLN_Q_FAULT_POS]; omega))

theorem fetchKept_waitFault (b : Nat) {code : Nat} (hc : code ≠ 0) (s : State) : FetchKept q a s (waitFault q b code s) := by
  unfold waitFault
  split
  · exact fetchKept_armFault b hc _ _ _ s
  · rfl

theorem fetchKept_groupMismatch (b : Nat) (s : State) : FetchKept q a s (groupMismatch q b s) := by
  rw [groupMismatch_eq]
  refine fetchKept_each (fun c _ u => ?_) s
  obtain ⟨tag, pos, redo, he⟩ := memberFault_eq q c u
  rw [he]
  exact fetchKept_armFault c (by decide) tag pos redo u

/-- An evaluation of a WAITIO ends its wait, keeps the level, or does nothing (R90). -/
theorem evalWaitio_cases (q : Plane) (b : Nat) (s : State) : evalWaitio q b s = s ∨ evalWaitio q b s = endWait q b s
    ∨ ∃ w, evalWaitio q b s = s.setArm q b { s.arm q b with wait := some w } := by
  unfold evalWaitio
  split
  · exact .inl rfl
  · split
    · exact .inl rfl
    · exact .inr ((ite_eq_or_eq _ _ _).imp_right fun h => ⟨_, h⟩)

theorem fetchKept_evalWaitio (b : Nat) (s : State) : FetchKept q a s (evalWaitio q b s) := by
  obtain h | h | ⟨w, h⟩ := evalWaitio_cases q b s <;> rw [h]
  · rfl
  · exact fetchKept_endWait b s
  · exact fetchKept_setArm s b _

theorem fetchKept_syncReleased (st : Stitch) (s : State) : FetchKept q a s (syncReleased q st s) := by
  have hfree : FetchKept q a s (each (bitsOf 16 (syncMask st)) (endWait q) s) := fetchKept_each (fun b _ u => fetchKept_endWait b u) s
  have hgroup : ∀ on v, FetchKept q a v (regroup q (syncMask st) on v) := fun on v => (plnOnly_regroup q _ on v).fetchKept (by simp)
  unfold syncReleased
  simp only
  split_ifs
  · exact hfree.trans (hgroup _ _)
  · exact hfree.trans (hgroup _ _)
  · exact hfree

theorem fetchKept_reachSync (st : Stitch) (s : State) : FetchKept q a s (reachSync q a st s) := by
  rw [reachSync_eq]
  split
  · exact fetchKept_armFault a (by decide) _ _ _ s
  · refine (fetchKept_enterWait a 3 (syncWait st s) s).trans ?_
    unfold syncEntered
    split_ifs
    · exact fetchKept_each (fun e _ u => fetchKept_waitFault e.1 (by decide) u) _
    · exact fetchKept_syncReleased st _
    · rfl

theorem fetchKept_reachZone (ha : a < 16) (st : Stitch) (s : State) : FetchKept q a s (reachZone q a st s) := by
  have hz : FetchKept q a s (atZone q a s) := (plnOnly_atZone q a s).fetchKept (by
    split
    · exact (queueSlot_fetch a).not_mem_flagsA ha (by decide)
    · exact List.not_mem_nil)
  unfold reachZone
  simp only
  split
  · rfl
  · exact hz.trans (fetchKept_enterWait a 4 _ _)

theorem fetchKept_releaseZone (a : Fin 16) {z : Nat} (hz : z < 128) (s : State) : FetchKept q a s (releaseZone q a z s) :=
  (plnOnly_releaseZone q a z s).fetchKept (by
    have hb := (zoneBit_fst_bounds a z).2
    simp only [List.mem_cons, List.not_mem_nil, or_false, R.PLN_Q_FETCH, R.PLN_ZONE]; omega)

theorem fetchKept_waitCkp (st : Stitch) (s : State) : FetchKept q a s (waitCkp q a st s) := by
  unfold waitCkp
  simp only
  split
  · exact ((plnOnly_stopPath q a s).setArm a _).fetchKept (by simp)
  · exact fetchKept_enterWait a 5 _ s

theorem fetchKept_reachLayer (st : Stitch) (s : State) : FetchKept q a s (reachLayer q a st s) := by
  have hcalib : ∀ (c : Bool) (u : State), FetchKept q a u (if c then u.setPln q { u.pln q with calib := true } else u) := fun c u => by
    split
    · exact fetchKept_setPln u _
    · rfl
  unfold reachLayer
  simp only
  split
  · exact ((fetchKept_setArm s a _).trans (hcalib _ _)).trans (fetchKept_waitCkp st _)
  · exact (fetchKept_setArm s a _).trans (hcalib _ _)

theorem fetchKept_reachProc (st : Stitch) (s : State) : FetchKept q a s (reachProc q a st s) := by
  unfold reachProc
  simp only
  split
  · exact fetchKept_setPln s _
  · exact fetchKept_setPln s _

theorem fetchKept_reachSetio (hb : (s.plane q).store.bad = []) (st : Stitch) : FetchKept q a s (reachSetio q a st s) := by
  unfold reachSetio
  simp only
  split
  · exact fetchKept_setPln s _
  · split
    · exact s.rd_sput q _ _ (State.isBad_of_sound hb _) q _
    · rfl

theorem fetchKept_reachEffect (a : Fin 16) (hb : (s.plane q).store.bad = []) (st : Stitch) :
    FetchKept q a s (reachEffect q a st s) := by
  cases hop : st.op <;> simp only [reachEffect, hop]
  case nop | frame | limit | blend => rfl
  case line | arc | spline | joint | couple | trig => exact fetchKept_setArm s a _
  case dwell =>
    split
    · rfl
    · exact fetchKept_enterWait a 1 _ s
  case proc | procramp => exact fetchKept_reachProc st s
  case sync =>
    split
    · exact fetchKept_groupMismatch a s
    · exact fetchKept_reachSync st s
  case zoneEnter => exact fetchKept_reachZone a.isLt st s
  case zoneLeave =>
    split
    · exact fetchKept_releaseZone a (Nat.mod_lt _ (by decide)) s
    · exact fetchKept_raiseQ a (by decide) s
  case waitio => exact fetchKept_enterWait a 2 _ s
  case setio => exact fetchKept_reachSetio hb st
  case layer => exact fetchKept_reachLayer st s
  case mark => exact s.rd_wr_ne q _ _ (by simp only [R.PLN_Q_FETCH, R.PLN_Q_MARK]; omega)
  case calibApply => exact fetchKept_setPln s _
  case finish =>
    split
    · exact fetchKept_groupMismatch a s
    · split
      · exact ((keeps_setQState q a 5 s).fetchKept (by simpa using fetch_ne_status a a)).trans (fetchKept_raiseQ a (by decide) _)
      · exact fetchKept_setArm s a _

theorem fetchKept_reachStitch (a : Fin 16) (hb : (s.plane q).store.bad = []) (st : Stitch) :
    FetchKept q a s (reachStitch q a st s) := by
  have hu := atReach_shownStitch q a st s
  have hshown : FetchKept q a s (shownStitch q a st s) := hu.rd_place 3 (by decide) a
  rw [reachStitch_eq]
  split
  · next hf => exact hshown.trans (fetchKept_armFault a hf _ _ _ _)
  · exact hshown.trans (fetchKept_reachEffect a (by rw [hu.frame.store, hb]) st)

end

end Sys2Proof.Machine

namespace Sys2Proof.Machine

/-! ### What the row of a Stitch does (R69, R93) -/

section
variable {q : Plane} {a : Fin 16} {op : Opcode} {cmd : Instr} {s t : State}

/-- The queue is in a state in which its Stitches are fetched (R93). -/
def fetching (q : Plane) (a : Nat) (s : State) : Bool := qState q a s == 1 || qState q a s == 2 || qState q a s == 3 || qState q a s == 4

theorem fetching_iff : fetching q a s = true ↔ 1 ≤ qState q a s ∧ qState q a s ≤ 4 := by
  simp only [fetching, Bool.or_eq_true, beq_iff_eq]
  omega

/-- The Stitch of a row is reached if it stands next and its place has been passed. -/
def reachNext (q : Plane) (a : Nat) (op : Opcode) (s : State) : State :=
  if reaches q a s then
    match reachable (s.arm q a) with
    | some t => if t.op = op then reachStitch q a t s else s
    | none => s
  else s

theorem runStitch_eq (q : Plane) (a : Nat) (op : Opcode) (s : State) : runStitch q a op s
    = reachNext q a op (if fetching q a s && ringOpcode q a s == some op then (fetchOne q a s).getD s else s) := rfl

theorem reachNext_cases (q : Plane) (a : Nat) (op : Opcode) (s : State) :
    reachNext q a op s = s ∨ ∃ st, reachNext q a op s = reachStitch q a st s := by
  unfold reachNext
  split
  · split
    · next st _ => exact (ite_eq_or_eq _ _ _).symm.imp_right fun h => ⟨st, h⟩
    · exact .inl rfl
  · exact .inl rfl

theorem reachNext_of_not_reaches (h : reaches q a s = false) : reachNext q a op s = s := if_neg (by simp [h])

theorem reachNext_idle (h : reaches q a s = false ∨ ∀ x, reachable (s.arm q a) = some x → x.op ≠ op) : reachNext q a op s = s := by
  rcases h with h | h
  · exact reachNext_of_not_reaches h
  · unfold reachNext
    split
    · split
      · next x hx => exact if_neg (h x hx)
      · rfl
    · rfl

/-- The row of the Stitch that stands next takes it. -/
theorem runStitch_of_fits (hb : (s.plane q).store.bad = []) (h : Fits q a s) (hop : ringOpcode q a s = some op)
    (h1 : 1 ≤ qState q a s) (h4 : qState q a s ≤ 4) : runStitch q a op s = reachNext q a op (fetchedFrom q a s s) := by
  rw [runStitch_eq, fetching_iff.2 ⟨h1, h4⟩, hop, fetchOne_of_fits hb h]
  simp

/-- The row of another Stitch takes none. -/
theorem runStitch_of_not_fits (h : ¬Fits q a s ∨ ringOpcode q a s ≠ some op ∨ qState q a s = 0 ∨ 4 < qState q a s) :
    runStitch q a op s = reachNext q a op s := by
  rw [runStitch_eq]
  congr 1
  split
  · next hif =>
    rw [Bool.and_eq_true, fetching_iff, beq_iff_eq] at hif
    obtain ⟨hst, hop⟩ := hif
    rw [fetchOne_of_not_fits]
    · rfl
    · rcases h with h | h | h
      · exact h
      · exact absurd hop h
      · omega
  · rfl

theorem does_fetch (hc : s.chanter = some q) (hb : (s.plane q).store.bad = []) (hm : (cmd, op) ∈ stitchRows a) (h : Fits q a s)
    (hop : ringOpcode q a s = some op) (h1 : 1 ≤ qState q a s) (h4 : qState q a s ≤ 4) :
    Does cmd s (fun t => t.get q (R.PLN_Q_FETCH a) F.PLN_Q_FETCH_COUNT
      = (s.get q (R.PLN_Q_FETCH a) F.PLN_Q_FETCH_COUNT + 1 + ringCount q a s) % 2 ^ 32) := by
  have he := exec_stitchRows hc hm
  have hf := plnOnly_fetchedFrom q a s
  have hreach : FetchKept q a (fetchedFrom q a s s) (runStitch q a op s) := by
    rw [runStitch_of_fits hb h hop h1 h4]
    obtain hn | ⟨st, hn⟩ := reachNext_cases q a op (fetchedFrom q a s s)
    · rw [hn]; rfl
    · rw [hn]
      exact fetchKept_reachStitch a (by rw [hf.store, hb]) st
  have hdone : FetchKept q a (fetchedFrom q a s s) (stitchDone q a op s) := by
    unfold stitchDone
    split
    · exact hreach.trans (fetchKept_evalWaitio a _)
    · exact hreach
  exact does_of_exec he ((State.get_belRecheck ..).trans ((congrArg _ hdone).trans (fetch_fetchedFrom q a s)))

/-- A row whose Stitch is not taken and not reached does nothing. -/
theorem does_stitch_nothing (hc : s.chanter = some q) (hm : (cmd, op) ∈ stitchRows a)
    (h : ¬Fits q a s ∨ ringOpcode q a s ≠ some op ∨ qState q a s = 0 ∨ 4 < qState q a s)
    (hn : reaches q a s = false ∨ ∀ x, reachable (s.arm q a) = some x → x.op ≠ op) (hw : waitCode q a s ≠ 2 ∨ op ≠ .waitio) :
    Does cmd s (fun t => Keeps q s t []) := by
  refine does_nothing q [] ((exec_stitchRows hc hm).trans (congrArg settled ?_))
  rw [stitchDone, runStitch_of_not_fits h, reachNext_idle hn, ite_eq_right_iff]
  exact fun e => evalWaitio_idle (.inl (hw.resolve_right (not_not.2 e)))

/-! ### A Stitch taken while its arm waits or stands (R93, R101) -/

/-- The look-ahead of an arm and its modal state are as they were; the state of its queue may not be. -/
def AheadKept (q : Plane) (a : Nat) (s t : State) : Prop :=
  PlnOnly q s t [R.PLN_Q_STATUS a] ∧ (t.arm q a).ahead = (s.arm q a).ahead ∧ (t.arm q a).modal = (s.arm q a).modal
    ∧ (t.arm q a).aheadFault = (s.arm q a).aheadFault

theorem aheadKept_evalWaitio (hl : (s.pln q).arms.length = 16) : AheadKept q a s (evalWaitio q a s) := by
  have ha : (a : Nat) < (s.pln q).arms.length := by rw [hl]; exact a.isLt
  obtain h | h | ⟨w, h⟩ := evalWaitio_cases q a s <;> rw [h, AheadKept]
  · exact ⟨.refl q s _, rfl, rfl, rfl⟩
  · rw [arm_endWait ha]
    exact ⟨plnOnly_endWait q a s, rfl, rfl, rfl⟩
  · rw [State.arm_setArm_same _ _ _ ha]
    exact ⟨(PlnOnly.refl q s _).setArm a _, rfl, rfl, rfl⟩

/-- What a Stitch's row leaves where the arm reaches nothing: the Stitch has joined the look-ahead, or ended it (R101). -/
theorem does_fetch_at_rest (hc : s.chanter = some q) (hl : (s.pln q).arms.length = 16) (hb : (s.plane q).store.bad = [])
    (hm : (cmd, op) ∈ stitchRows a) (h : Fits q a s) (hop : ringOpcode q a s = some op) (hst : qState q a s = 2 ∨ qState q a s = 4) :
    let f := s.get q (R.PLN_Q_FETCH a) F.PLN_Q_FETCH_COUNT
    let d := ringStitch q a s s
    Does cmd s (fun t => t.get q (R.PLN_Q_FETCH a) F.PLN_Q_FETCH_COUNT = (f + 1 + ringCount q a s) % 2 ^ 32
      ∧ (t.arm q a).ahead = (s.arm q a).ahead ++ [d.1] ∧ (d.1.fault = 0 → (t.arm q a).modal = d.2)
      ∧ (d.1.fault ≠ 0 → (t.arm q a).aheadFault = true ∧ t.flagged q (bPQ a) 10
        ∧ t.get q (R.PLN_Q_AHEAD a) F.PLN_Q_AHEAD_CODE = d.1.fault % 2 ^ F.PLN_Q_AHEAD_CODE.width
        ∧ t.get q (R.PLN_Q_AHEAD_POS a) F.PLN_Q_AHEAD_POS_COUNT = f % 2 ^ F.PLN_Q_AHEAD_POS_COUNT.width) ∧ SameStores s t) := by
  intro f d
  have hf := plnOnly_fetchedFrom q a s
  have hlen : ((fetchedFrom q a s s).pln q).arms.length = 16 := hf.arms.trans hl
  have hq : qState q a (fetchedFrom q a s s) = qState q a s := (qState_of_rd (hf.rd q (by
    rw [List.mem_cons, not_or]
    exact ⟨(fetch_ne_status a a).symm, (queueSlot_status a).not_mem_acceptRegs (by simp only [R.PLN_Q_STATUS, R.PLN_Q_AHEAD]; omega)
      (by simp only [R.PLN_Q_STATUS, R.PLN_Q_AHEAD_POS]; omega)⟩))).1
  have hrun : runStitch q a op s = fetchedFrom q a s s := by
    rw [runStitch_of_fits hb h hop (by omega) (by omega), reachNext_of_not_reaches]
    rcases hst with hst | hst <;> simp [reaches, hq, hst]
  have hdone : ∃ t, exec cmd s = settled t ∧ AheadKept q a (fetchedFrom q a s s) t := by
    refine ⟨_, exec_stitchRows hc hm, ?_⟩
    unfold stitchDone
    rw [hrun]
    split
    · exact aheadKept_evalWaitio hlen
    · exact ⟨.refl q _ _, rfl, rfl, rfl⟩
  obtain ⟨t, he, ht, hahead, hmodal, hfault⟩ := hdone
  have hput : (a : Nat) < ((s.put q (R.PLN_Q_FETCH a) F.PLN_Q_FETCH_COUNT ((f + 1 + ringCount q a s) % 2 ^ 32)).pln q).arms.length := by
    rw [State.pln_put, hl]
    exact a.isLt
  obtain ⟨hjoin, hsound, hbad⟩ := arm_acceptStitch hput d.1 d.2
    (d.1.fault == 0 && clampsAt a d.1.op (ringOps q a s) (s.arm q a).modal s)
  rw [State.arm_put] at hjoin
  have hstatus : ∀ k, k ≠ R.PLN_Q_STATUS a → k ∉ [R.PLN_Q_STATUS a] := fun k hk => by simpa using hk
  refine does_of_exec he ⟨?_, ?_, fun h0 => ?_, fun h0 => ?_, hf.stores.trans ht.recheck.stores⟩
  · exact (ht.recheck.get q (hstatus _ (fetch_ne_status a a)) _).trans (fetch_fetchedFrom q a s)
  · rw [State.arm_belRecheck, hahead]
    exact hjoin
  · rw [State.arm_belRecheck, hmodal]
    exact hsound h0
  · obtain ⟨hflag, hcode, hpos⟩ := ahead_acceptStitch (q := q) (a := a)
      (s := s.put q (R.PLN_Q_FETCH a) F.PLN_Q_FETCH_COUNT ((f + 1 + ringCount q a s) % 2 ^ 32)) h0 d.2
      (d.1.fault == 0 && clampsAt a d.1.op (ringOps q a s) (s.arm q a).modal s)
    refine ⟨?_, ht.recheck.flagged (hstatus _ (flags_ne_status a a)) hflag, ?_, ?_⟩
    · rw [State.arm_belRecheck, hfault]
      exact hbad h0
    · refine (ht.recheck.get q (hstatus _ ?_) _).trans hcode
      simp only [R.PLN_Q_STATUS, R.PLN_Q_AHEAD]; omega
    · refine (ht.recheck.get q (hstatus _ ?_) _).trans (hpos.trans ?_)
      · simp only [R.PLN_Q_STATUS, R.PLN_Q_AHEAD_POS]; omega
      · rw [show d.1.pos = f from pos_decodeStitch ..]

end

/-- Settles O50: the row of the Stitch that stands next takes it from the ring; a row whose Stitch is neither next nor reached
does nothing. -/
theorem stitchesAreFetched : Obligations.StitchesAreFetched := by
  intro q a s hc hl hb ar size f at' h n ws fits d cmd op hm
  exact ⟨fun hfits hop => ⟨does_fetch hc hb hm hfits hop, does_fetch_at_rest hc hl hb hm hfits hop⟩, does_stitch_nothing hc hm⟩

end Sys2Proof.Machine
